-- ==== Sys2Proof/Word.lean ====
section
/-!
DEFINITION. The word types of the Gensadon model, and the type of a sparse map: a list of key and value pairs.
-/

namespace Sys2Proof

/-- One byte of memory. -/
abbrev Byte := BitVec 8

/-- A 32-bit register word, instruction word or Q1.31 sample (R10). -/
abbrev Word := BitVec 32

/-- A tile's accumulator, 80 bits (R98). -/
abbrev Acc80 := BitVec 80

/-- Sparse data by key. The operations of Machine/Map.lean keep the keys strictly rising and list no default. -/
abbrev SMap (κ α : Type) := List (κ × α)

end Sys2Proof
end

