-- ==== Sys2Proof/Syntax.lean ====
section
/-!
DEFINITION. The commands of the block: one constructor of Instr per row of spec/opcode_table.json, with the operands
that the rule of the row gives the command, and the types of those operands.
-/

namespace Sys2Proof

/-- Who makes an access: the host over PCI Express, a control core, or another Harness master. -/
inductive Master where
  | host
  | core (k : Nat)
  | other (k : Nat)
  deriving DecidableEq, Repr

/-- The three parts of R1. -/
inductive Part where
  | fa | fb | ca
  deriving DecidableEq, Repr

/-- A flash slot for firmware images (R29). -/
inductive Slot where
  | a | b
  deriving DecidableEq, Repr

/-- What the header of a verified firmware image gives the device: version, security version, the life area (R453)
and the latch-slice counts (R30). -/
structure ImgInfo where
  major : BitVec 8
  minor : BitVec 8
  build : BitVec 16
  secver : BitVec 16
  lifeBase : BitVec 16
  lifeSize : BitVec 8
  sliceM : BitVec 26
  sliceT : BitVec 26
  /-- The image itself, which the boot ROM copies into control SRAM (R30). -/
  bytes : List Byte
  deriving DecidableEq, Repr

/-- What the boot ROM finds when it verifies one flash slot (R29, R54). -/
inductive SlotVerdict where
  | ok (i : ImgInfo)
  | header
  | length
  | signature
  | secver
  deriving DecidableEq, Repr

/-- What a boot meets outside the device: whether the QSPI flash answers, what each slot holds, and which vault
granules fail to wipe (R209). -/
structure BootView where
  flashOk : Bool
  slotA : SlotVerdict
  slotB : SlotVerdict
  wipeFail : BitVec 64
  deriving DecidableEq, Repr

/-- One DRAM channel of the board configuration block and of the training that follows it (R474, R477). -/
structure DramSetup where
  chan : Nat
  device : BitVec 2
  ranks : BitVec 4
  order : BitVec 2
  /-- Data rate in MT/s. -/
  rate : Word
  service : List Nat
  spare : Option Nat
  standby : Option Nat
  trained : BitVec 4
  deriving DecidableEq, Repr

/-- What one bring-up stage of R473 meets: the board configuration block, the regulator, the boot
sweep's failures, the DRAM set-up and the lanes. Each stage reads the parts that are its own. -/
structure StageView where
  boardOk : Bool
  vcoreMv : Option Nat
  repairs : List (Nat × Nat)
  failedBanks : List Nat
  drams : List DramSetup
  intlv : BitVec 2
  lanes : List (Nat × BitVec 2 × BitVec 1)
  ring2 : List (Nat × Nat × Nat)
  deriving DecidableEq, Repr

/-- The class of a tile at a plan swap (R179). -/
inductive SwapClass where
  | keep | warm | reload
  deriving DecidableEq, Repr

/-- A destination that a plan lists for a relocatable unit, with the output channels reserved there, and the reserved
region of its memories (R84): the words of the unit's image there, and for each parameter slot of the unit on its home
tile the slot there. -/
structure PlanDest where
  tile : Nat
  outs : List Nat
  imem : List (Nat × Word)
  xmem : List (Nat × Word)
  ymem : List (Nat × Word)
  params : List (Nat × Nat)
  deriving DecidableEq, Repr

/-- A unit of work on a tile: its cost, shed class, output channels, and destinations if it is relocatable. -/
structure PlanUnit where
  uid : Nat
  hu : Nat
  shedClass : Nat
  relocatable : Bool
  outs : List Nat
  dests : List PlanDest
  deriving DecidableEq, Repr

/-- A tile of a plan. `inputs` and `outputs` are the patch points of its channels in channel order; `presets` lists
register values by the register index of AWL.DBG_ADDR (R99); `params` lists parameter slots (R110). -/
structure PlanTile where
  tile : Nat
  domain : Nat
  entry : BitVec 14
  cost : Nat
  lead : Nat
  winHalf : Nat
  inputs : List Nat
  outputs : List Nat
  cls : SwapClass
  units : List PlanUnit
  presets : List (Nat × Word)
  imem : List (Nat × Word)
  xmem : List (Nat × Word)
  ymem : List (Nat × Word)
  params : List (Nat × Word)
  deriving DecidableEq, Repr

/-- A rate domain of a plan (R15), in the codes of FABRIC.DOM_CFG. -/
structure PlanDomain where
  dom : Nat
  rate : BitVec 3
  bsize : BitVec 2
  deriving DecidableEq, Repr

/-- A bus of a plan (R156 to R161). -/
structure PlanBus where
  bus : Nat
  tile : Nat
  outCh : Nat
  headroom : Nat
  law : BitVec 2
  base : Nat
  count : Nat
  floor : Word
  deriving DecidableEq, Repr

/-- A member table entry of a plan (R158). -/
structure PlanMember where
  entry : Nat
  slot : Nat
  tile : Nat
  pslot : Nat
  valid : Bool
  deriving DecidableEq, Repr

/-- A monitor slot of a plan (R185): MON_CFG and MON_THRESH. -/
structure PlanMonitor where
  slot : Nat
  cfg : Word
  thresh : Word
  deriving DecidableEq, Repr

/-- A rate bridge of a plan (R181). -/
structure PlanBridge where
  bridge : Nat
  srcDom : Nat
  dstDom : Nat
  src : Nat
  dst : Nat
  deriving DecidableEq, Repr

/-- A serial audio port of a plan: SAP.CFG, MASK_IN, MASK_OUT, PATCH and the FCLK fields (R380 to R385). -/
structure PlanSap where
  port : Nat
  cfg : Word
  maskIn : Word
  maskOut : Word
  patch : Word
  fclk : Word
  deriving DecidableEq, Repr

/-- A Stirrup loop of a plan: STIRRUP.CFG's fields (R395, R406, R409). -/
structure PlanLoop where
  loop : Nat
  domain : Nat
  bridge : Bool
  lookahead : Bool
  inPatch : Nat
  deriving DecidableEq, Repr

/-- A delay line or replay stream of the DRAM movers: channel, direction, patch point and domain. -/
structure PlanStream where
  chan : Nat
  read : Bool
  patch : Nat
  domain : Nat
  /-- The bytes of the channel that it addresses: the first, how many, and the first sample's place among them. -/
  base : Nat
  bytes : Nat
  start : Nat
  deriving DecidableEq, Repr

/-- A compiled plan, as PLAN_LOAD puts it into a slot. The spec does not give the image's layout in memory; this is
its content in the terms of the chapters. `endpoints` gives the domain of each endpoint patch point, `flowIn` and `flowOut` the flow patch points of each direction, `buffers` the
Girth ranges (offset, bytes) of its audio blocks and buffers, `blocks` the Girth offset of a patch point's channel block, `flows` the flow contexts and `macs` the ports it names. -/
structure Plan where
  ident : Nat
  pred : Option Nat
  domains : List PlanDomain
  tiles : List PlanTile
  routes : List (Nat × Nat)
  endpoints : List (Nat × Nat)
  flowIn : List Nat
  flowOut : List Nat
  buses : List PlanBus
  members : List PlanMember
  monitors : List PlanMonitor
  bridges : List PlanBridge
  saps : List PlanSap
  d2Source : Option Nat
  loops : List PlanLoop
  groups : List (Nat × List Nat)
  streams : List PlanStream
  flows : List Nat
  macs : List Nat
  buffers : List (Nat × Nat)
  blocks : List (Nat × Nat)
  deriving DecidableEq, Repr

/-- What a PLAN_LOAD finds at the image address (R52): the format word's validity, the length the header declares,
the integrity check, and the plan. -/
structure PlanImage where
  formatOk : Bool
  length : Nat
  integrityOk : Bool
  plan : Plan
  deriving DecidableEq, Repr

/-- A transaction that a master issues (R221): master and transaction number, address, length, direction, write data
and strobes, whether it is a locked sequence, the QoS of its descriptor (DRAM mover only), the page hint. -/
structure HReq where
  master : Nat
  id : Nat
  addr : Nat
  len : Nat
  write : Bool
  data : List Byte
  strobes : List Bool
  locked : Bool
  descQos : Nat
  openHint : Bool
  deriving DecidableEq, Repr

/-- What the check bits of a word show when it is read. -/
inductive Ecc where
  | single
  | double
  deriving DecidableEq, Repr

/-- Why LOS is declared (R275). -/
inductive LosCause where
  | signal | lock | sync
  deriving DecidableEq, Repr

/-- A mPacket of the MAC Merge sublayer (R289). -/
inductive MPacket where
  | verify | respond
  deriving DecidableEq, Repr

/-- A fragment of a preemptable frame as it arrives (Clause 99, R291): the frame number of its SMD, the fragment count of
a continuation, whether its mCRC is good, and whether it ends the frame. -/
structure Frag where
  frame : Nat
  count : Nat
  crcOk : Bool
  last : Bool
  deriving DecidableEq, Repr

/-- A received frame from the destination address up to, not including, the FCS: whether its FCS and its PCS blocks are
good, the fragments that it arrives in (none: an express frame), the tenths of an island cycle from its reference bit to
its last bit where it arrives in several, and whether it is a verify or respond mPacket. -/
structure Frame where
  bytes : List Byte
  fcsOk : Bool
  pcsOk : Bool
  frags : List Frag
  lag : Nat
  mpacket : Option MPacket
  /-- A Girth write of the frame or its descriptor is shadowed (R297). -/
  shadowed : Bool
  deriving DecidableEq, Repr

/-- What a PTP Announce gives an instance (R320, R327): the clock identity, clockClass, accuracy and UTC offset of the master
it comes from, and whether the best master clock algorithm selects that master or this node. -/
structure Announce where
  source : BitVec 64
  clockClass : Byte
  accuracy : Byte
  utcOffset : BitVec 16
  selects : Bool
  wins : Bool
  deriving DecidableEq, Repr

/-- What one octave band of the load tracker shows for the last second (R407): the band, whether its signal exceeded
-50 dBFS, and the estimate in units of 10 mΩ. -/
structure LoadBand where
  band : Nat
  loud : Bool
  mag : BitVec 16
  deriving DecidableEq, Repr
/-- A HEARTBEAT frame (R439), times in TIME0 linear nanoseconds. `good` says that a copy arrived with a good CRC; `nack`
asks for a FULL epoch (R440). -/
structure Heartbeat where
  good : Bool
  seq : BitVec 16
  pairState : BitVec 4
  epoch : Word
  stamp : Nat
  echo : Nat
  echoRx : Nat
  fwRestart : Bool
  nack : Bool
  deriving DecidableEq, Repr

/-- A change record of a checkpoint (R440), in the terms of the chapters: the spec does not give its layout. A plan slot's
image and the slot that runs; a parameter slot of the active or the inactive bank; a route; an armed commit (kind 0: none) and
the staged set that a SCENE applies; a flow context with its descriptor (empty: none), its next sequence number,
the count at which that packet starts and its DELAY; a reference declaration (word 0: none) with quality and rank; a field
of the REIN page. -/
inductive CkptRec where
  | plan (slot : Nat) (p : Option Plan)
  | active (slot : Option Nat)
  | param (tile slot : Nat) (active : Bool) (v : Word)
  | route (dest src : Nat)
  | commit (entry kind set sec ns : Nat)
  | stage (set rampMs routeMs : Nat) (gains slots routes : List (Nat × Nat))
  | flow (ctx : Nat) (desc : List Word) (seq : BitVec 16) (next delay : Nat)
  | rein (slot : Nat) (decl : Word) (quality rank : Nat)
  | reinCfg (off lo inst v : Nat)
  deriving DecidableEq, Repr

/-- A CKPT_DATA frame (R439): epoch, records, whether a copy arrived with good CRCs, whether a Keeper write of it
returned WRITE_SHADOWED or POISON, and whether the epoch still fits CKPT_SIZE. -/
structure CkptData where
  good : Bool
  epoch : Word
  recs : List CkptRec
  writeOk : Bool
  fits : Bool
  deriving DecidableEq, Repr

/-- A CKPT_END frame (R439): epoch, record count, whether the epoch's CRC checks, FULL and FINAL. -/
structure CkptEnd where
  good : Bool
  epoch : Word
  count : Nat
  crcOk : Bool
  full : Bool
  final : Bool
  deriving DecidableEq, Repr

/-- The commands, in the order of the opcode table. -/
inductive Instr where
  /-- POWER_ON_RESET (R307). -/
  | powerOnReset (b : BootView)
  /-- RESET_N_FALL (R470). -/
  | resetNFall
  /-- RESET_N_RELEASE (R472). -/
  | resetNRelease (mode : BitVec 2) (b : BootView)
  /-- BRINGUP_STAGE_END (R473). -/
  | bringupStageEnd (v : StageView)
  /-- FW_UPDATE_BOOT_TIMEOUT (R53). -/
  | fwUpdateBootTimeout (b : BootView)
  /-- WDOG_KICK (R55). -/
  | wdogKick (m : Master) (v : Word)
  /-- WATCHDOG_EXPIRY (R31). -/
  | watchdogExpiry
  /-- RESTARTED (R31). -/
  | restarted (b : BootView)
  /-- SOFT_RESET (R482). -/
  | softReset (m : Master) (b : BootView)
  /-- ABSENT_PAGE_ACCESS (R6). -/
  | absentPageAccess (m : Master) (write : Bool) (off : Nat)
  /-- LO_READ (R11). -/
  | loRead (m : Master) (off : Nat) (wide : Bool := false)
  /-- BAD_ACCESS (R33). -/
  | badAccess (write : Bool) (off size : Nat)
  /-- NON_BAR_REQUEST (R33). -/
  | nonBarRequest (write : Bool) (addr : Nat)
  /-- BAR2_ACCESS (R34). -/
  | bar2Access (write : Bool) (off len : Nat) (data : List Byte) (strobes : List Bool)
  /-- WIN_BASE_HI_WRITE (R35). -/
  | winBaseHiWrite (m : Master) (v : Word)
  /-- PG_EVT_WRITE (R39). -/
  | pgEvtWrite (m : Master) (p : Nat) (en : Bool) (v : Word)
  /-- PG_EVT_FORCE (R41). -/
  | pgEvtForce (m : Master) (p : Nat) (v : Word)
  /-- MSIX_UNMASK (R39): an access of the host at an offset of BAR4. -/
  | msixUnmask (off : Nat) (write : Bool := true) (v : Word := 0)
  /-- EN_SET (R44). -/
  | enSet (m : Master) (p : Nat)
  /-- DRAIN (R42). -/
  | drain (m : Master) (p : Nat)
  /-- KILL (R43). -/
  | kill (m : Master) (p : Nat)
  /-- SRST (R45). -/
  | srst (m : Master) (p : Nat)
  /-- QUIESCED (R42). -/
  | quiesced (p : Nat)
  /-- PG_LOCK_LOCK (R47). -/
  | pgLockLock (m : Master) (p : Nat)
  /-- PG_LOCK_UNLOCK_KEY (R47). -/
  | pgLockUnlockKey (m : Master) (p : Nat) (v : Word)
  /-- PG_LIFE_DATA_READ (R41). -/
  | pgLifeDataRead (m : Master) (p : Nat)
  /-- REGISTER_WRITE (R13). -/
  | registerWrite (m : Master) (off : Nat) (v : Word) (upper : Option Word := none)
  /-- OVERRUN (R50). -/
  | overrun (m : Master) (off : Nat) (v : Word)
  /-- BAD_OPCODE (R52). -/
  | badOpcode (op tag : BitVec 8)
  /-- PLAN_LOAD (R52). -/
  | planLoad (tag : BitVec 8) (addr len slot : Nat)
  /-- PLAN_LOAD_DONE (R52). -/
  | planLoadDone (img : PlanImage)
  /-- PLAN_ADMIT (R75). -/
  | planAdmit (tag : BitVec 8) (slot : Nat)
  /-- COMMIT_AT_SCENE (R170). -/
  | commitAtScene (tag : BitVec 8) (arg : Word) (sec ns : Nat)
  /-- COMMIT_AT_PLAN_SWAP (R179). -/
  | commitAtPlanSwap (tag : BitVec 8) (arg : Word) (sec ns : Nat)
  /-- COMMIT_AT_REF_SWITCH (R330). -/
  | commitAtRefSwitch (tag : BitVec 8) (arg : Word) (sec ns : Nat)
  /-- COMMIT_AT_HANDOVER (R446). -/
  | commitAtHandover (tag : BitVec 8) (arg : Word) (sec ns : Nat)
  /-- SCENE_STAGE (R166). -/
  | sceneStage (tag : BitVec 8) (addr len : Nat)
  /-- SCENE_STAGE_DONE (R167). -/
  | sceneStageDone
  /-- FLOW_ADD (R350). -/
  | flowAdd (tag : BitVec 8) (addr : Nat)
  /-- FLOW_DEL (R375). -/
  | flowDel (tag : BitVec 8) (arg : Word)
  /-- PTP_PROFILE (R318). -/
  | ptpProfile (tag : BitVec 8) (code domain mask : Word)
  /-- REF_DECLARE (R326). -/
  | refDeclare (tag : BitVec 8) (index type quality rank : Word)
  /-- TRAIN_DRAM (R258). -/
  | trainDram (tag : BitVec 8) (chan mask : Word)
  /-- TRAIN_DRAM_DONE (R256). -/
  | trainDramDone (chan : Nat) (passed : BitVec 4)
  /-- CKPT_NOW (R440). -/
  | ckptNow (tag : BitVec 8)
  /-- CKPT_NOW_DONE (R440). -/
  | ckptNowDone
  /-- LIFE_DUMP (R465). -/
  | lifeDump (tag : BitVec 8) (addr limit : Nat)
  /-- LIFE_DUMP_DONE (R465). -/
  | lifeDumpDone
  /-- FW_UPDATE (R52). -/
  | fwUpdate (tag : BitVec 8) (addr len : Nat)
  /-- FW_UPDATE_DONE (R52). -/
  | fwUpdateDone (v : SlotVerdict)
  /-- MBX_DONE_POP (R51). -/
  | mbxDonePop (m : Master)
  /-- MBX_DONE_RELEASE (R51). -/
  | mbxDoneRelease
  /-- BLOCK_TICK (R62). -/
  | blockTick (d : Nat)
  /-- PASS_START (R63). -/
  | passStart (t : Nat)
  /-- FENCE_EXPIRY (R65). -/
  | fenceExpiry (d : Nat)
  /-- DEADLINE_CLEAR (R71). -/
  | deadlineClear (t : Nat)
  /-- SPEED_MEASURE (R72). -/
  | speedMeasure (speeds : List (Nat × Nat))
  /-- SPEED_SOURCE_REVERT (R72). -/
  | speedSourceRevert (t : Nat)
  /-- SWAP_ADMIT_CHECK (R77). -/
  | swapAdmitCheck
  /-- FENCE_PCT_WRITE (R78). -/
  | fencePctWrite (m : Master) (d : Nat) (pct : Nat)
  /-- ESCALATION_TRIGGER (R79). -/
  | escalationTrigger (t : Nat)
  /-- AVS_ACK (R464). -/
  | avsAck (mv : Nat)
  /-- AVS_SETTLE_DONE (R81). -/
  | avsSettleDone
  /-- AVS_NOACK (R464). -/
  | avsNoack
  /-- STAGE_JUDGED (R79). -/
  | stageJudged (t : Nat)
  /-- RELOC_COPY_DONE (R85). -/
  | relocCopyDone (uid : Nat)
  /-- RELOC_WARM_DONE (R85). -/
  | relocWarmDone (uid : Nat)
  /-- RELOC_DONE (R86). -/
  | relocDone (uid : Nat)
  /-- ESCALATION_END (R80). -/
  | escalationEnd (t : Nat)
  /-- SLACK_WARN (R83). -/
  | slackWarn (t : Nat)
  /-- RESTORE (R89). -/
  | restore (t cls : Nat)
  /-- SHED_BACKOFF_RESET (R90). -/
  | shedBackoffReset (t cls : Nat)
  /-- BACKOFF_CLR (R90). -/
  | backoffClr (m : Master)
  /-- WARM_TILE_LOADED (R179). -/
  | warmTileLoaded (t : Nat)
  /-- SWAP_XFADE_END (R179). -/
  | swapXfadeEnd (d : Nat)
  /-- NOP (R133). -/
  | nop (t : Nat) (w : Word)
  /-- WAITB (R133). -/
  | waitb (t : Nat) (done : Nat)
  /-- RPT (R106). -/
  | rpt (t : Nat) (r : Bool) (count : BitVec 16) (gc : BitVec 5)
  /-- RPTB (R103). -/
  | rptb (t : Nat) (r : Bool) (endOfs : BitVec 11) (count : BitVec 12) (gc : BitVec 5)
  /-- BR (R133). -/
  | br (t : Nat) (ind : Bool) (target : BitVec 14) (gs : BitVec 5)
  /-- BRC (R134). -/
  | brc (t : Nat) (cond : BitVec 4) (target : BitVec 14)
  /-- CALL (R133). -/
  | call (t : Nat) (ind : Bool) (target : BitVec 14) (gs : BitVec 5)
  /-- RET (R133). -/
  | ret (t : Nat)
  /-- FENCE (R138). -/
  | fence (t : Nat) (gd : BitVec 5) (sel : BitVec 2) (age : Nat)
  /-- LD (R139). -/
  | ld (t : Nat) (am : BitVec 2) (pn : BitVec 3) (g : BitVec 5) (d : BitVec 8)
  /-- ST (R139). -/
  | st (t : Nat) (am : BitVec 2) (pn : BitVec 3) (g : BitVec 5) (d : BitVec 8)
  /-- LDX (R139). -/
  | ldx (t : Nat) (am : BitVec 2) (pn : BitVec 3) (g : BitVec 5) (d : BitVec 8)
  /-- LDY (R139). -/
  | ldy (t : Nat) (am : BitVec 2) (pn : BitVec 3) (g : BitVec 5) (d : BitVec 8)
  /-- LDXY (R139). -/
  | ldxy (t : Nat) (mx : Bool) (px : BitVec 3) (ga : BitVec 5) (my : Bool) (py : BitVec 3) (gb : BitVec 5)
  /-- ADD (R141). -/
  | add (t : Nat) (gd ga gb : BitVec 5)
  /-- SUB (R141). -/
  | sub (t : Nat) (gd ga gb : BitVec 5)
  /-- AND (R141). -/
  | and (t : Nat) (gd ga gb : BitVec 5)
  /-- OR (R141). -/
  | or (t : Nat) (gd ga gb : BitVec 5)
  /-- XOR (R141). -/
  | xor (t : Nat) (gd ga gb : BitVec 5)
  /-- SHL (R141). -/
  | shl (t : Nat) (gd ga gb : BitVec 5) (imm : Bool)
  /-- SHR (R141). -/
  | shr (t : Nat) (gd ga gb : BitVec 5) (imm : Bool)
  /-- ASR (R141). -/
  | asr (t : Nat) (gd ga gb : BitVec 5) (imm : Bool)
  /-- MIN (R141). -/
  | min (t : Nat) (gd ga gb : BitVec 5)
  /-- MAX (R141). -/
  | max (t : Nat) (gd ga gb : BitVec 5)
  /-- ABS (R141). -/
  | abs (t : Nat) (gd ga : BitVec 5)
  /-- NEG (R141). -/
  | neg (t : Nat) (gd ga : BitVec 5)
  /-- CMP (R141). -/
  | cmp (t : Nat) (ga gb : BitVec 5)
  /-- ADDI (R143). -/
  | addi (t : Nat) (gd ga : BitVec 5) (imm : BitVec 16)
  /-- LI (R143). -/
  | li (t : Nat) (gd : BitVec 5) (mode : BitVec 2) (imm : BitVec 16)
  /-- LUI (R143). -/
  | lui (t : Nat) (gd : BitVec 5) (imm : BitVec 16)
  /-- CMPI (R143). -/
  | cmpi (t : Nat) (ga : BitVec 5) (imm : BitVec 16)
  /-- MPY (R144). -/
  | mpy (t : Nat) (k : BitVec 2) (ga gb : BitVec 5)
  /-- MAC (R144). -/
  | mac (t : Nat) (k : BitVec 2) (ga gb : BitVec 5)
  /-- MSU (R144). -/
  | msu (t : Nat) (k : BitVec 2) (ga gb : BitVec 5)
  /-- MACXY (R144). -/
  | macxy (t : Nat) (k : BitVec 2) (mx : Bool) (px : BitVec 3) (my : Bool) (py : BitVec 3)
  /-- TAPM (R145). -/
  | tapm (t : Nat) (k : BitVec 2) (mx : Bool) (px : BitVec 3) (my : Bool) (py : BitVec 3)
  /-- SACC (R118). -/
  | sacc (t : Nat) (k : BitVec 2) (dst pm : Bool) (pn : BitVec 3) (gd : BitVec 5) (shift : BitVec 5)
  /-- CLRA (R146). -/
  | clra (t : Nat) (k : BitVec 2) (all : Bool)
  /-- MOVA (R146). -/
  | mova (t : Nat) (mode ad as : BitVec 2) (g : BitVec 5) (word : BitVec 2)
  /-- SHA (R146). -/
  | sha (t : Nat) (k : BitVec 2) (n : BitVec 6)
  /-- ADDA (R146). -/
  | adda (t : Nat) (ad as : BitVec 2)
  /-- SKV (R122). -/
  | skv (t : Nat) (k : BitVec 2) (pm : Bool) (pn : BitVec 3) (gf : BitVec 5)
  /-- BIQ (R148). -/
  | biq (t : Nat) (k : BitVec 2) (ps pc : BitVec 3) (gx : BitVec 5)
  /-- GRAMP (R149). -/
  | gramp (t : Nat) (k : BitVec 2) (gx : BitVec 5) (mg : Bool) (pg : BitVec 3) (mt : Bool) (pt : BitVec 3) (acc : Bool)
  /-- PEAK (R150). -/
  | peak (t : Nat) (k : BitVec 2) (sq pm : Bool) (pn : BitVec 3) (gx : BitVec 5)
  /-- SILCHK (R151). -/
  | silchk (t : Nat) (gd : BitVec 5) (pm : Bool) (ps : BitVec 3) (gx : BitVec 5)
  /-- IN (R152). -/
  | inp (t : Nat) (pn : BitVec 3) (r : Bool) (gc : BitVec 5) (ch : BitVec 11)
  /-- OUT (R152). -/
  | outp (t : Nat) (pn : BitVec 3) (r : Bool) (gc : BitVec 5) (ch : BitVec 11)
  /-- PARM (R152). -/
  | parm (t : Nat) (gd : BitVec 5) (bank r : Bool) (gs : BitVec 5) (slot : BitVec 12)
  /-- SETP (R153). -/
  | setp (t : Nat) (n : BitVec 3) (mode : BitVec 2) (imm : BitVec 16)
  /-- GETP (R153). -/
  | getp (t : Nat) (n : BitVec 3) (gd : BitVec 5)
  /-- SETM (R153). -/
  | setm (t : Nat) (n : BitVec 3) (mode : BitVec 2) (imm : BitVec 16)
  /-- GETM (R153). -/
  | getm (t : Nat) (n : BitVec 3) (gd : BitVec 5)
  /-- SETL (R153). -/
  | setl (t : Nat) (n : BitVec 3) (mode : BitVec 2) (imm : BitVec 16)
  /-- GETL (R153). -/
  | getl (t : Nat) (n : BitVec 3) (gd : BitVec 5)
  /-- ADDP (R154). -/
  | addp (t : Nat) (pd ps : BitVec 3) (imm : BitVec 16)
  /-- STICKY_CLR_AOV (R99). -/
  | stickyClrAov (m : Master) (t : Nat)
  /-- STICKY_CLR_SAT (R99). -/
  | stickyClrSat (m : Master) (t : Nat)
  /-- DBG_DATA_READ (R124). -/
  | dbgDataRead (m : Master) (t : Nat)
  /-- DBG_READ_DONE (R124). -/
  | dbgReadDone (t : Nat)
  /-- DBG_DATA_WRITE (R124). -/
  | dbgDataWrite (m : Master) (t : Nat) (v : Word)
  /-- DIRECT_PARAM (R162). -/
  | directParam (m : Master) (v : Word)
  /-- DIRECT_GAIN (R163). -/
  | directGain (m : Master) (v : Word)
  /-- DIRECT_ROUTE (R177). -/
  | directRoute (m : Master) (v : Word)
  /-- DIRECT_APPLY (R162). -/
  | directApply (t : Nat)
  /-- STAGING_RELEASE (R112). -/
  | stagingRelease (t : Nat)
  /-- SCENE_CHECK (R171). -/
  | sceneCheck
  /-- COMMIT_CANCEL (R171). -/
  | commitCancel (m : Master) (v : Word)
  /-- RAMP_END (R174). -/
  | rampEnd (t : Nat)
  /-- BANK_MIRROR_DONE (R174). -/
  | bankMirrorDone (t : Nat)
  /-- ROUTE_XFADE_END (R178). -/
  | routeXfadeEnd (dest : Nat)
  /-- BRIDGE_UNLOCK (R183). -/
  | bridgeUnlock (b : Nat)
  /-- BRIDGE_LOCK (R184). -/
  | bridgeLock (b : Nat)
  /-- SNAP_REQ (R187). -/
  | snapReq (m : Master)
  /-- SNAP_READY (R187). -/
  | snapReady
  /-- SILENCE_ENTER (R188). -/
  | silenceEnter (slot : Nat)
  /-- SILENCE_EXIT (R188). -/
  | silenceExit (slot : Nat)
  /-- GIRTH_ACCESS (R194). -/
  | girthAccess (bank : Nat) (ecc : List (Nat × Ecc))
  /-- RET_WAKE_DONE (R211). -/
  | retWakeDone (seg : Nat)
  /-- ECC_WRITEBACK (R200). -/
  | eccWriteback (bank : Nat)
  /-- GIRTH_SHADOW_END (R198). -/
  | girthShadowEnd (port : Nat)
  /-- BGT_REGION_START (R203). -/
  | bgtRegionStart
  /-- BGT_PHASE_DONE (R202). -/
  | bgtPhaseDone (failed : List Nat)
  /-- VAULT_MAP_WRITE (R206). -/
  | vaultMapWrite (m : Master) (hi : Bool) (v : Word)
  /-- TAMPER_N_FALL (R208). -/
  | tamperNFall
  /-- LIFE_CYCLE_CHANGE (R457). -/
  | lifeCycleChange (cyc : BitVec 2)
  /-- WIPE_DONE (R209). -/
  | wipeDone (failed : BitVec 64)
  /-- RET_CTRL_WRITE (R211). -/
  | retCtrlWrite (m : Master) (v : Word)
  /-- HARNESS_REQUEST (R216). -/
  | harnessRequest (r : HReq)
  /-- HARNESS_GRANT (R226). -/
  | harnessGrant (port : Nat) (ecc : List (Nat × Ecc))
  /-- TRANSACTION_END (R222). -/
  | transactionEnd (master id : Nat)
  /-- MASTER_RESET (R234). -/
  | masterReset (master : Nat)
  /-- MRST_DONE (R234). -/
  | mrstDone (master : Nat)
  /-- REMAP_WRITE (R218). -/
  | remapWrite (m : Master) (v : Word)
  /-- DRAM_MAP_WRITE (R217). -/
  | dramMapWrite (m : Master) (v : Word)
  /-- ALERT_N (R241): which 64 B word of the write failed, and whether its second copy did. -/
  | alertN (chan : Nat) (word : Nat := 0) (spare : Bool := false)
  /-- MOV_LATE (R246). -/
  | movLate (chan patch : Nat)
  /-- REFRESH_DUE (R250). -/
  | refreshDue (chan rank : Nat)
  /-- MR4_POLL (R249). -/
  | mr4Poll (chan : Nat) (doubled : BitVec 4) (sinceNs : Nat)
  /-- REFRESH_WINDOW (R253). -/
  | refreshWindow (chan rank : Nat)
  /-- DQS_OSC_READ (R252). -/
  | dqsOscRead (chan rank : Nat)
  /-- TRN_GO (R257). -/
  | trnGo (m : Master) (chan : Nat) (v : Word)
  /-- TRN_DONE (R257). -/
  | trnDone (chan : Nat) (err0 err1 err2 : Word)
  /-- TRN_STEP_ADVANCE (R256). -/
  | trnStepAdvance (m : Master) (chan : Nat)
  /-- MR_GO (R267). -/
  | mrGo (m : Master) (chan : Nat) (v : Word)
  /-- MR_DONE (R268). -/
  | mrDone (chan : Nat) (value : Byte)
  /-- RANK_CMD_SERVICE (R260). -/
  | rankCmdService (m : Master) (chan : Nat) (rank : BitVec 2)
  /-- RANK_CMD_SPARE (R260). -/
  | rankCmdSpare (m : Master) (chan : Nat) (rank : BitVec 2)
  /-- RANK_CMD_RETIRE (R261). -/
  | rankCmdRetire (m : Master) (chan : Nat) (rank : BitVec 2)
  /-- RANK_CMD_TEST (R264). -/
  | rankCmdTest (m : Master) (chan : Nat) (rank : BitVec 2)
  /-- RANK_CMD_RETURN (R264). -/
  | rankCmdReturn (m : Master) (chan : Nat) (rank : BitVec 2)
  /-- MIGRATION_COPY_UNIT (R262). -/
  | migrationCopyUnit (chan : Nat) (ecc : List (Nat × Ecc))
  /-- MIG_DONE (R262). -/
  | migDone (chan : Nat)
  /-- TEST_DONE (R264). -/
  | testDone (chan : Nat) (pass : Bool)
  /-- FREQ_CHANGE (R266). -/
  | freqChange (m : Master) (chan : Nat) (v : Word)
  /-- FREQ_DONE (R266). -/
  | freqDone (chan : Nat) (locked : Bool)
  /-- CE_STORM_END (R265). -/
  | ceStormEnd (chan rank : Nat)
  /-- DRAM_CFG_WRITE (R243). -/
  | dramCfgWrite (m : Master) (chan : Nat) (v : Word)
  /-- LANE_STATE_TIMEOUT (R273). -/
  | laneStateTimeout (n : Nat)
  /-- RATE_ESTABLISHED (R273). -/
  | rateEstablished (n : Nat) (ppm : BitVec 16)
  /-- NEGOTIATE (R273). -/
  | negotiate (n : Nat) (ouiMatch : Bool) (rates : BitVec 3)
  /-- LOS (R275). -/
  | los (n : Nat) (cause : LosCause)
  /-- LOS_CLEAR (R275). -/
  | losClear (n : Nat)
  /-- AUTO_RESTART (R275). -/
  | autoRestart (n : Nat)
  /-- LANE_RESTART (R273). -/
  | laneRestart (m : Master) (n : Nat)
  /-- LB_MODE_WRITE (R278). -/
  | lbModeWrite (m : Master) (n : Nat) (v : Word)
  /-- PRBS_CTRL_WRITE (R278). -/
  | prbsCtrlWrite (m : Master) (n : Nat) (v : Word)
  /-- PRBS_CLR (R277). -/
  | prbsClr (m : Master) (n : Nat)
  /-- PRBS_LOCK (R277): the bits that the checker has received. -/
  | prbsLock (n : Nat) (rx : List Bool := [])
  /-- PRBS_UNLOCK (R277). -/
  | prbsUnlock (n bits errors : Nat)
  /-- SLEEP_WRITE (R279). -/
  | sleepWrite (m : Master) (n : Nat) (v : Word)
  /-- WAKE_ON_SIG (R279). -/
  | wakeOnSig (n : Nat)
  /-- TXQ_PROD_WRITE (R284). -/
  | txqProdWrite (m : Master) (n : Nat) (v : Word)
  /-- TX_FRAME_END (R288). -/
  | txFrameEnd (n : Nat) (ecc : List (Nat × Ecc)) (shadowed : Bool)
  /-- HALTED_CLEAR (R287). -/
  | haltedClear (m : Master) (n : Nat)
  /-- VERIFY_TIMER (R289). -/
  | verifyTimer (n : Nat)
  /-- RX_FRAME (R294). -/
  | rxFrame (n : Nat) (f : Frame)
  /-- RXR_CONS_WRITE (R295). -/
  | rxrConsWrite (m : Master) (n : Nat) (v : Word)
  /-- PAUSE_REFRESH (R298). -/
  | pauseRefresh (n : Nat)
  /-- PAUSE_EXPIRY (R299). -/
  | pauseExpiry (n : Nat)
  /-- TSQ_POP (R302). -/
  | tsqPop (m : Master) (n : Nat)
  /-- CN_NS_READ (R308). -/
  | cnNsRead (m : Master) (n : Nat)
  /-- CAPTURE (R309). -/
  | capture (m : Master)
  /-- INC_FRAC_WRITE (R310). -/
  | incFracWrite (m : Master) (n : Nat) (v : Word)
  /-- SLEW_NS_WRITE (R311). -/
  | slewNsWrite (m : Master) (n : Nat) (v : Word)
  /-- SLEW_DONE (R311). -/
  | slewDone (n : Nat)
  /-- SET_GO (R312). -/
  | setGo (m : Master) (n : Nat) (v : Word)
  /-- STEP_WRITE (R312). -/
  | stepWrite (m : Master) (n : Nat) (v : Word)
  /-- MON_UPDATE (R322). -/
  | monUpdate
  /-- SYNC_RECEIVED (R320). -/
  | syncReceived (n : Nat) (offset : Int) (incFrac : Word) (slew : Int)
  /-- ANNOUNCE_RECEIVED (R320). -/
  | announceReceived (n : Nat) (a : Announce)
  /-- ANNOUNCE_TIMEOUT (R320). -/
  | announceTimeout (n : Nat) (wins : Bool)
  /-- REF_EDGE (R336). -/
  | refEdge (slot : Nat) (offPs : Option Int) (ratePpm : Int)
  /-- REF_STOP (R335). -/
  | refStop (slot : Nat)
  /-- QUALIFIED (R328). -/
  | qualified (slot : Nat)
  /-- REF_MEAN_UPDATE (R339). -/
  | refMeanUpdate (means : List (Nat × Int))
  /-- SOFT_DRIFT_SWITCH (R339). -/
  | softDriftSwitch
  /-- SELECTION (R329). -/
  | selection
  /-- SWITCH_DONE (R331). -/
  | switchDone
  /-- DPLL_LOCKED (R332). -/
  | dpllLocked (k : Nat)
  /-- HOLD_EXPIRED (R333). -/
  | holdExpired (k : Nat)
  /-- ESMC_PDU (R327). -/
  | esmcPdu (lane : Nat) (ssm : BitVec 4)
  /-- ESMC_TIMEOUT (R327). -/
  | esmcTimeout (lane : Nat)
  /-- SEL_CTRL_WRITE (R330). -/
  | selCtrlWrite (m : Master) (v : Word)
  /-- FRAME_PULSE (R343). -/
  | framePulse (n : Nat) (err : Int)
  /-- ALIGN_NOW (R344). -/
  | alignNow (m : Master) (v : Word)
  /-- MCLK_CFG_WRITE (R342). -/
  | mclkCfgWrite (m : Master) (n : Nat) (v : Word)
  /-- FLOW_PACKET (R352). -/
  | flowPacket (port : Nat) (shadowed : List Nat)
  /-- REBASE (R357). -/
  | rebase (d : Nat)
  /-- UNDERRUN_CLEAR (R362). -/
  | underrunClear (c : Nat)
  /-- SSRC_RELEARN (R352). -/
  | ssrcRelearn (c : Nat)
  /-- PATH_LOST (R367). -/
  | pathLost (c : Nat)
  /-- PATH_UP (R367). -/
  | pathUp (c : Nat)
  /-- CTX_DELAY_WRITE (R364). -/
  | ctxDelayWrite (m : Master) (n : Nat) (v : Word)
  /-- GRP_DELAY_WRITE (R364). -/
  | grpDelayWrite (m : Master) (v : Word)
  /-- SAP_FRAME (R386). -/
  | sapFrame (n : Nat) (bclks : Nat) (wsOk : Bool) (slots : List Word)
  /-- CLK_LOSS (R388). -/
  | clkLoss (n : Nat)
  /-- CLK_BACK (R389). -/
  | clkBack (n : Nat) (ppm : Int)
  /-- TRIP (R401). -/
  | trip (n : Nat) (drv : Bool) (ipeak : BitVec 16)
  /-- HICCUP_END (R401). -/
  | hiccupEnd (n : Nat)
  /-- SOFT_START_END (R402). -/
  | softStartEnd (n : Nat)
  /-- STIRRUP_OC_CLEAR (R402). -/
  | stirrupOcClear
  /-- DC_LATCH (R403). -/
  | dcLatch (n : Nat)
  /-- OSC_LATCH (R403). -/
  | oscLatch (n : Nat)
  /-- LATCH_CLR (R402). -/
  | latchClr (m : Master) (n : Nat)
  /-- AVOID_APPLY (R400). -/
  | avoidApply (m : Master) (n : Nat)
  /-- AVOID_MOVED (R400). -/
  | avoidMoved (n : Nat)
  /-- LOAD_UPDATE (R407). -/
  | loadUpdate (n : Nat) (bands : List LoadBand)
  /-- BASELINE_CAP (R407). -/
  | baselineCap (m : Master) (n : Nat)
  /-- STIRRUP_SLEEP (R408). -/
  | stirrupSleep (n : Nat)
  /-- STIRRUP_WAKE (R409). -/
  | stirrupWake (n : Nat)
  /-- WAKE_SETTLED (R409). -/
  | wakeSettled (n : Nat)
  /-- STIRRUP_START_TIMER (R480). -/
  | stirrupStartTimer
  /-- SUPPLY_MONITOR_TRIP (R489). -/
  | supplyMonitorTrip
  /-- SOURCE_HOLD_END (R415). -/
  | sourceHoldEnd (src inst : Nat)
  /-- QUIET_EXPIRY (R425). -/
  | quietExpiry (src : Nat)
  /-- REACT_CLR (R425). -/
  | reactClr (m : Master)
  /-- LATCHED_CLEAR (R424). -/
  | latchedClear (m : Master)
  /-- SRC_CFG_WRITE (R426). -/
  | srcCfgWrite (m : Master) (v : Word)
  /-- FORCE (R429). -/
  | force (m : Master) (on : Bool)
  /-- TJ_READ (R430). -/
  | tjRead (tj : Int)
  /-- TAMPER_CLEAR (R430). -/
  | tamperClear
  /-- LEVEL4_RESET (R422). -/
  | level4Reset (b : BootView)
  /-- FEED_LOSS (R434). -/
  | feedLoss (b : Bool) (pin : Bool)
  /-- FEED_RECOVER (R434). -/
  | feedRecover (b : Bool)
  /-- POWER_WARN (R435). -/
  | powerWarn
  /-- HEARTBEAT_SEND (R439). -/
  | heartbeatSend
  /-- HEARTBEAT (R439). -/
  | heartbeat (h : Heartbeat)
  /-- CKPT_DATA (R441). -/
  | ckptData (f : CkptData)
  /-- CKPT_END (R441). -/
  | ckptEnd (f : CkptEnd)
  /-- HANDOVER_PROPOSE (R446). -/
  | handoverPropose (sec ns : Nat)
  /-- HANDOVER_ACK (R446). -/
  | handoverAck (sec ns : Nat) (result : Byte) (seqs : List (Nat × BitVec 16))
  /-- CHECKPOINT_EPOCH (R440). -/
  | checkpointEpoch
  /-- PAIR_LOST (R442). -/
  | pairLost
  /-- PAIR_ACT_IN_RISE (R437). -/
  | pairActInRise
  /-- PAIR_ACT_IN_FALL (R442). -/
  | pairActInFall
  /-- SEEKING_TIMEOUT (R438). -/
  | seekingTimeout
  /-- TAKEOVER_DONE (R443). -/
  | takeoverDone (admitted : Bool)
  /-- WARMING_END (R445). -/
  | warmingEnd
  /-- HOLDOFF_END (R446). -/
  | holdoffEnd
  /-- HANDOVER_REQ (R446). -/
  | handoverReq (m : Master)
  /-- HANDOVER_ACK_TIMEOUT (R447). -/
  | handoverAckTimeout
  /-- HANDOVER_FAIL (R446). -/
  | handoverFail
  /-- KEEPER_CFG_WRITE (R448). -/
  | keeperCfgWrite (m : Master) (v : Word)
  /-- RECORD_PERIOD (R454). -/
  | recordPeriod
  /-- REC_NOW (R454). -/
  | recNow (m : Master)
  /-- REC_DONE (R454). -/
  | recDone (ok : Bool)
  /-- REPLAN (R459). -/
  | replan
  /-- REPLAN_STEP_DONE (R460). -/
  | replanStepDone
  /-- POWER_ON_HOUR (R462). -/
  | powerOnHour
  /-- PCIE_LINK_RESET (R234). -/
  | pcieLinkReset
  /-- POWER_WARN_N_RISE (R435). -/
  | powerWarnNRise
  /-- PCIE_LINK_UP (R472): the rate, the width and the offset that training has settled. -/
  | pcieLinkUp (rate : BitVec 2 := 0) (width : Nat := 4) (ppm : BitVec 16 := 0)
  /-- DRV_FLT_N_RELEASE (R402). -/
  | drvFltNRelease (n : Nat)
  /-- PAIR_ACT_OUT_RAISE (R437). -/
  | pairActOutRaise
  /-- HANDOVER_RETRY (R447). -/
  | handoverRetry
  /-- ROW_IDLE_CLOSE (R244). -/
  | rowIdleClose (chan rank bank : Nat)
  /-- POWER_ON_SECOND (R452). -/
  | powerOnSecond
  /-- DEPTH_LIMIT (R399). -/
  | depthLimit (n : Nat) (gr : Byte)
  deriving DecidableEq, Repr

end Sys2Proof
end

