-- ==== Sys2Proof/Machine/Fld.lean ====
section
/-!
DEFINITION. What a register field is: its place in its page, its access type (R13) and its reset value, and the key
under which State holds it.
-/

namespace Sys2Proof.Machine

/-- The access types of R13; `cnt` is a counter that any write clears. -/
inductive Acc where
  | ro | rw | wo | w1c | w1s | rwl | cnt
  deriving DecidableEq, Repr

/-- A field's reset value: a number, or a value that the spec gives per page, source or part. -/
inductive ResetVal where
  | val (n : Nat)
  /-- PG_CTRL.EN, by page. -/
  | pageEn
  /-- PG_STAT.QUIESCED, by page. -/
  | pageQuiesced
  /-- CINCH.SRC_CFG.AUTO, by source (R413). -/
  | cinchAuto
  /-- CINCH.SRC_CFG.SEVERITY, by source (R413). -/
  | cinchSeverity
  /-- DRAM.TSET_DATA, per part. -/
  | timingSet
  deriving DecidableEq, Repr

/-- One register field: byte offset of its register in the page, least bit, width, access type, whether a soft reset
keeps it (RWS), reset value, and the register (offset, bits) that selects which instance of it an access meets
(offset 0: none). -/
structure Fld where
  off : Nat
  lo : Nat
  w : Nat
  acc : Acc
  rws : Bool
  reset : ResetVal
  sel : Nat
  mask : Nat
  deriving DecidableEq, Repr

/-- The key of one stored field: page, register offset, least bit, selected instance. -/
structure FKey where
  p : Nat
  off : Nat
  lo : Nat
  i : Nat
  deriving DecidableEq, Repr

/-- The order of field keys. -/
def FKey.ord (k : FKey) : Nat := Nat.pair (Nat.pair k.p k.off) (Nat.pair k.lo k.i)

end Sys2Proof.Machine
end

