-- ==== Sys2Proof/Machine/Regs.lean ====
section
/-!
DEFINITION. The register fields of every page of the spec's register tables, one definition a field, named
PAGE.REGISTER_FIELD as the spec names them (a counter register that is one field: PAGE.REGISTER).
PG holds the common page header (R41). Arrays of registers take their number as an argument.
Read-only capability words (PG_ID, PG_CAP, HOST.VARIANT) and registers whose value follows from other state
(CINCH.SAFE, CINCH.MUTE, SRC_STAT.LIVE, QUIET_LEFT, WDOG_STAT.REMAIN, MBX_STAT.DONE_COUNT, the live registers of the time counters)
are computed where they are read.
-/

namespace Sys2Proof.Machine

/-- PG_CTRL.DRAIN [1:1] RO (spec/02_control_and_pages.md). -/
def PG.CTRL_DRAIN : Fld := ⟨0x008, 1, 1, .ro, false, .val 0, 0x000, 0x0⟩
/-- PG_EVT, all 32 bits: OP_DONE [31] and BLOCK_EVT [30:0], W1C (R41). -/
def PG.EVT : Fld := ⟨0x010, 0, 32, .w1c, false, .val 0, 0x000, 0x0⟩
/-- PG_EVT_EN, all 32 bits, RW (R41). -/
def PG.EVT_EN : Fld := ⟨0x014, 0, 32, .rw, false, .val 0, 0x000, 0x0⟩
/-- PG_CTRL.EN [0:0] RW (spec/02_control_and_pages.md). -/
def PG.CTRL_EN : Fld := ⟨0x008, 0, 1, .rw, false, .pageEn, 0x000, 0x0⟩
/-- PG_STAT.EN_PENDING [3:3] RO (spec/02_control_and_pages.md). -/
def PG.STAT_EN_PENDING : Fld := ⟨0x00C, 3, 1, .ro, false, .val 0, 0x000, 0x0⟩
/-- PG_STAT.ERR [2:2] RO (spec/02_control_and_pages.md). -/
def PG.STAT_ERR : Fld := ⟨0x00C, 2, 1, .ro, false, .val 0, 0x000, 0x0⟩
/-- PG_STAT.BUSY [1:1] RO (spec/02_control_and_pages.md). -/
def PG.STAT_BUSY : Fld := ⟨0x00C, 1, 1, .ro, false, .val 0, 0x000, 0x0⟩
/-- PG_STAT.QUIESCED [0:0] RO (spec/02_control_and_pages.md). -/
def PG.STAT_QUIESCED : Fld := ⟨0x00C, 0, 1, .ro, false, .pageQuiesced, 0x000, 0x0⟩
/-- PG_PROGRESS.VALID [31:31] RO (spec/02_control_and_pages.md). -/
def PG.PROGRESS_VALID : Fld := ⟨0x01C, 31, 1, .ro, false, .val 0, 0x000, 0x0⟩
/-- PG_PROGRESS.PERCENT [30:24] RO (spec/02_control_and_pages.md). -/
def PG.PROGRESS_PERCENT : Fld := ⟨0x01C, 24, 7, .ro, false, .val 0, 0x000, 0x0⟩
/-- PG_PROGRESS.POSITION [23:0] RO (spec/02_control_and_pages.md). -/
def PG.PROGRESS_POSITION : Fld := ⟨0x01C, 0, 24, .ro, false, .val 0, 0x000, 0x0⟩
/-- PG_LIFE_IDX.AUTOINC [31:31] RW (spec/02_control_and_pages.md). -/
def PG.LIFE_IDX_AUTOINC : Fld := ⟨0x020, 31, 1, .rw, false, .val 0, 0x000, 0x0⟩
/-- PG_LIFE_IDX.INDEX [15:0] RW (spec/02_control_and_pages.md). -/
def PG.LIFE_IDX_INDEX : Fld := ⟨0x020, 0, 16, .rw, false, .val 0, 0x000, 0x0⟩
/-- PG_LOCK.LOCKED [0:0] RO (spec/02_control_and_pages.md). -/
def PG.LOCK_LOCKED : Fld := ⟨0x028, 0, 1, .ro, false, .val 0, 0x000, 0x0⟩
/-- CTRL.WDOG_KICK.KICK [31:0] WO (spec/02_control_and_pages.md). -/
def CTRL.WDOG_KICK_KICK : Fld := ⟨0x040, 0, 32, .wo, false, .val 0, 0x000, 0x0⟩
/-- CTRL.WDOG_STAT.ARMED [31:31] RO (spec/02_control_and_pages.md). -/
def CTRL.WDOG_STAT_ARMED : Fld := ⟨0x044, 31, 1, .ro, false, .val 0, 0x000, 0x0⟩
/-- CTRL.WDOG_STAT.TIMEOUT_MS [23:16] RO (spec/02_control_and_pages.md). -/
def CTRL.WDOG_STAT_TIMEOUT_MS : Fld := ⟨0x044, 16, 8, .ro, false, .val 100, 0x000, 0x0⟩
/-- CTRL.FW_ID.MAJOR [31:24] RO (spec/02_control_and_pages.md). -/
def CTRL.FW_ID_MAJOR : Fld := ⟨0x048, 24, 8, .ro, false, .val 0, 0x000, 0x0⟩
/-- CTRL.FW_ID.MINOR [23:16] RO (spec/02_control_and_pages.md). -/
def CTRL.FW_ID_MINOR : Fld := ⟨0x048, 16, 8, .ro, false, .val 0, 0x000, 0x0⟩
/-- CTRL.FW_ID.BUILD [15:0] RO (spec/02_control_and_pages.md). -/
def CTRL.FW_ID_BUILD : Fld := ⟨0x048, 0, 16, .ro, false, .val 0, 0x000, 0x0⟩
/-- CTRL.FW_SECVER.IMAGE [15:0] RO (spec/02_control_and_pages.md). -/
def CTRL.FW_SECVER_IMAGE : Fld := ⟨0x04C, 0, 16, .ro, false, .val 0, 0x000, 0x0⟩
/-- CTRL.CORE_STAT.RUNNING [3:0] RO (spec/02_control_and_pages.md). -/
def CTRL.CORE_STAT_RUNNING : Fld := ⟨0x050, 0, 4, .ro, false, .val 0, 0x000, 0x0⟩
/-- CTRL.WDOG_EXPIRIES.COUNT [31:0] CNT (spec/02_control_and_pages.md). -/
def CTRL.WDOG_EXPIRIES : Fld := ⟨0x060, 0, 32, .cnt, false, .val 0, 0x000, 0x0⟩
/-- CTRL.WDOG_BAD.COUNT [31:0] CNT (spec/02_control_and_pages.md). -/
def CTRL.WDOG_BAD : Fld := ⟨0x064, 0, 32, .cnt, false, .val 0, 0x000, 0x0⟩
/-- FABRIC.DOM_CFG.ACTIVE [31:31] RO (spec/03_fabric_timing.md). -/
def FABRIC.DOM_CFG_ACTIVE (n : Nat) : Fld := ⟨0x040 + 4 * n, 31, 1, .ro, false, .val 0, 0x000, 0x0⟩
/-- FABRIC.DOM_CFG.COMMIT_OFFSET [27:24] RO (spec/03_fabric_timing.md). -/
def FABRIC.DOM_CFG_COMMIT_OFFSET (n : Nat) : Fld := ⟨0x040 + 4 * n, 24, 4, .ro, false, .val 1, 0x000, 0x0⟩
/-- FABRIC.DOM_CFG.MISS_POLICY [16:16] RW (spec/03_fabric_timing.md). -/
def FABRIC.DOM_CFG_MISS_POLICY (n : Nat) : Fld := ⟨0x040 + 4 * n, 16, 1, .rw, false, .val 0, 0x000, 0x0⟩
/-- FABRIC.DOM_CFG.FENCE_PCT [14:8] RW (spec/03_fabric_timing.md). -/
def FABRIC.DOM_CFG_FENCE_PCT (n : Nat) : Fld := ⟨0x040 + 4 * n, 8, 7, .rw, false, .val 90, 0x000, 0x0⟩
/-- FABRIC.DOM_CFG.BSIZE [5:4] RO (spec/03_fabric_timing.md). -/
def FABRIC.DOM_CFG_BSIZE (n : Nat) : Fld := ⟨0x040 + 4 * n, 4, 2, .ro, false, .val 1, 0x000, 0x0⟩
/-- FABRIC.DOM_CFG.RATE [2:0] RO (spec/03_fabric_timing.md). -/
def FABRIC.DOM_CFG_RATE (n : Nat) : Fld := ⟨0x040 + 4 * n, 0, 3, .ro, false, .val 1, 0x000, 0x0⟩
/-- FABRIC.DOM_TICKS.TICKS [31:0] RO (spec/03_fabric_timing.md). -/
def FABRIC.DOM_TICKS_TICKS (n : Nat) : Fld := ⟨0x050 + 4 * n, 0, 32, .ro, false, .val 0, 0x000, 0x0⟩
/-- FABRIC.DOM_SLACK.MISSED_TILES [23:16] RO (spec/03_fabric_timing.md). -/
def FABRIC.DOM_SLACK_MISSED_TILES (n : Nat) : Fld := ⟨0x060 + 4 * n, 16, 8, .ro, false, .val 0, 0x000, 0x0⟩
/-- FABRIC.DOM_SLACK.WORST_10S [15:8] RO (spec/03_fabric_timing.md). -/
def FABRIC.DOM_SLACK_WORST_10S (n : Nat) : Fld := ⟨0x060 + 4 * n, 8, 8, .ro, false, .val 100, 0x000, 0x0⟩
/-- FABRIC.DOM_SLACK.WORST_LAST [7:0] RO (spec/03_fabric_timing.md). -/
def FABRIC.DOM_SLACK_WORST_LAST (n : Nat) : Fld := ⟨0x060 + 4 * n, 0, 8, .ro, false, .val 100, 0x000, 0x0⟩
/-- FABRIC.TILE_SEL.TILE [7:0] RW (spec/03_fabric_timing.md). -/
def FABRIC.TILE_SEL_TILE : Fld := ⟨0x080, 0, 8, .rw, false, .val 0, 0x000, 0x0⟩
/-- FABRIC.TILE_CFG.GATED [2:2] RO (spec/03_fabric_timing.md). -/
def FABRIC.TILE_CFG_GATED : Fld := ⟨0x084, 2, 1, .ro, false, .val 0, 0x080, 0xff⟩
/-- FABRIC.TILE_COST.HU [23:0] RO (spec/03_fabric_timing.md). -/
def FABRIC.TILE_COST_HU : Fld := ⟨0x088, 0, 24, .ro, false, .val 0, 0x080, 0xff⟩
/-- FABRIC.TILE_SPEED.EST_SOURCE [31:31] RO (spec/03_fabric_timing.md). -/
def FABRIC.TILE_SPEED_EST_SOURCE : Fld := ⟨0x090, 31, 1, .ro, false, .val 0, 0x080, 0xff⟩
/-- FABRIC.TILE_SPEED.SPEED [15:0] RO (spec/03_fabric_timing.md). -/
def FABRIC.TILE_SPEED_SPEED : Fld := ⟨0x090, 0, 16, .ro, false, .val 0, 0x080, 0xff⟩
/-- FABRIC.TILE_SLACK.WORST_RESET [23:16] RO (spec/03_fabric_timing.md). -/
def FABRIC.TILE_SLACK_WORST_RESET : Fld := ⟨0x094, 16, 8, .ro, false, .val 100, 0x080, 0xff⟩
/-- FABRIC.TILE_SLACK.WORST_10S [15:8] RO (spec/03_fabric_timing.md). -/
def FABRIC.TILE_SLACK_WORST_10S : Fld := ⟨0x094, 8, 8, .ro, false, .val 100, 0x080, 0xff⟩
/-- FABRIC.TILE_SLACK.LAST [7:0] RO (spec/03_fabric_timing.md). -/
def FABRIC.TILE_SLACK_LAST : Fld := ⟨0x094, 0, 8, .ro, false, .val 100, 0x080, 0xff⟩
/-- FABRIC.TILE_MISSES.COUNT [31:0] CNT (spec/03_fabric_timing.md). -/
def FABRIC.TILE_MISSES : Fld := ⟨0x098, 0, 32, .cnt, false, .val 0, 0x080, 0xff⟩
/-- FABRIC.TILE_STAT.ESCALATED [17:17] RO (spec/03_fabric_timing.md). -/
def FABRIC.TILE_STAT_ESCALATED : Fld := ⟨0x09C, 17, 1, .ro, false, .val 0, 0x080, 0xff⟩
/-- FABRIC.TILE_STAT.RELOCATING [16:16] RO (spec/03_fabric_timing.md). -/
def FABRIC.TILE_STAT_RELOCATING : Fld := ⟨0x09C, 16, 1, .ro, false, .val 0, 0x080, 0xff⟩
/-- FABRIC.TILE_STAT.SHED_MASK [15:8] RO (spec/03_fabric_timing.md). -/
def FABRIC.TILE_STAT_SHED_MASK : Fld := ⟨0x09C, 8, 8, .ro, false, .val 0, 0x080, 0xff⟩
/-- FABRIC.TILE_STAT.CONSEC_MISS [7:4] RO (spec/03_fabric_timing.md). -/
def FABRIC.TILE_STAT_CONSEC_MISS : Fld := ⟨0x09C, 4, 4, .ro, false, .val 0, 0x080, 0xff⟩
/-- FABRIC.TILE_STAT.FAULT_ABORT [2:2] RO (spec/03_fabric_timing.md). -/
def FABRIC.TILE_STAT_FAULT_ABORT : Fld := ⟨0x09C, 2, 1, .ro, false, .val 0, 0x080, 0xff⟩
/-- FABRIC.TILE_STAT.LATE_DELIVERY [1:1] RO (spec/03_fabric_timing.md). -/
def FABRIC.TILE_STAT_LATE_DELIVERY : Fld := ⟨0x09C, 1, 1, .ro, false, .val 0, 0x080, 0xff⟩
/-- FABRIC.TILE_STAT.MISSED [0:0] RO (spec/03_fabric_timing.md). -/
def FABRIC.TILE_STAT_MISSED : Fld := ⟨0x09C, 0, 1, .ro, false, .val 0, 0x080, 0xff⟩
/-- FABRIC.MARGIN_CTRL.VMAX_MV [25:16] RWL (spec/03_fabric_timing.md). -/
def FABRIC.MARGIN_CTRL_VMAX_MV : Fld := ⟨0x0C0, 16, 10, .rwl, false, .val 820, 0x000, 0x0⟩
/-- FABRIC.MARGIN_CTRL.SLACK_WARN [15:8] RWL (spec/03_fabric_timing.md). -/
def FABRIC.MARGIN_CTRL_SLACK_WARN : Fld := ⟨0x0C0, 8, 8, .rwl, false, .val 5, 0x000, 0x0⟩
/-- FABRIC.MARGIN_CTRL.SHED_EN [2:2] RWL (spec/03_fabric_timing.md). -/
def FABRIC.MARGIN_CTRL_SHED_EN : Fld := ⟨0x0C0, 2, 1, .rwl, false, .val 1, 0x000, 0x0⟩
/-- FABRIC.MARGIN_CTRL.RELOC_EN [1:1] RWL (spec/03_fabric_timing.md). -/
def FABRIC.MARGIN_CTRL_RELOC_EN : Fld := ⟨0x0C0, 1, 1, .rwl, false, .val 1, 0x000, 0x0⟩
/-- FABRIC.MARGIN_CTRL.AVS_EN [0:0] RWL (spec/03_fabric_timing.md). -/
def FABRIC.MARGIN_CTRL_AVS_EN : Fld := ⟨0x0C0, 0, 1, .rwl, false, .val 1, 0x000, 0x0⟩
/-- FABRIC.MARGIN_STAT.VCORE_MV [25:16] RO (spec/03_fabric_timing.md). -/
def FABRIC.MARGIN_STAT_VCORE_MV : Fld := ⟨0x0C4, 16, 10, .ro, false, .val 750, 0x000, 0x0⟩
/-- FABRIC.MARGIN_STAT.TILE [15:8] RO (spec/03_fabric_timing.md). -/
def FABRIC.MARGIN_STAT_TILE : Fld := ⟨0x0C4, 8, 8, .ro, false, .val 0, 0x000, 0x0⟩
/-- FABRIC.MARGIN_STAT.STAGE [1:0] RO (spec/03_fabric_timing.md). -/
def FABRIC.MARGIN_STAT_STAGE : Fld := ⟨0x0C4, 0, 2, .ro, false, .val 0, 0x000, 0x0⟩
/-- FABRIC.RELOC_CFG.XFADE_MS [23:16] RW (spec/03_fabric_timing.md). -/
def FABRIC.RELOC_CFG_XFADE_MS : Fld := ⟨0x0C8, 16, 8, .rw, false, .val 5, 0x000, 0x0⟩
/-- FABRIC.RELOC_CFG.WARM_BLOCKS [7:0] RW (spec/03_fabric_timing.md). -/
def FABRIC.RELOC_CFG_WARM_BLOCKS : Fld := ⟨0x0C8, 0, 8, .rw, false, .val 24, 0x000, 0x0⟩
/-- FABRIC.SHED_CTRL.BACKOFF_CLR [16:16] W1S (spec/03_fabric_timing.md). -/
def FABRIC.SHED_CTRL_BACKOFF_CLR : Fld := ⟨0x0CC, 16, 1, .w1s, false, .val 0, 0x000, 0x0⟩
/-- FABRIC.MISS_TOTAL.COUNT [31:0] CNT (spec/03_fabric_timing.md). -/
def FABRIC.MISS_TOTAL : Fld := ⟨0x0D0, 0, 32, .cnt, false, .val 0, 0x000, 0x0⟩
/-- FABRIC.DELIVERY_LATE.COUNT [31:0] CNT (spec/03_fabric_timing.md). -/
def FABRIC.DELIVERY_LATE : Fld := ⟨0x0D4, 0, 32, .cnt, false, .val 0, 0x000, 0x0⟩
/-- FABRIC.FAULT_ABORTS.COUNT [31:0] CNT (spec/03_fabric_timing.md). -/
def FABRIC.FAULT_ABORTS : Fld := ⟨0x0D8, 0, 32, .cnt, false, .val 0, 0x000, 0x0⟩
/-- FABRIC.RELOC_COUNT.COUNT [31:0] CNT (spec/03_fabric_timing.md). -/
def FABRIC.RELOC_COUNT : Fld := ⟨0x0DC, 0, 32, .cnt, false, .val 0, 0x000, 0x0⟩
/-- FABRIC.SHED_COUNT.COUNT [31:0] CNT (spec/03_fabric_timing.md). -/
def FABRIC.SHED_COUNT : Fld := ⟨0x0E0, 0, 32, .cnt, false, .val 0, 0x000, 0x0⟩
/-- FABRIC.AVS_STEPS.COUNT [31:0] CNT (spec/03_fabric_timing.md). -/
def FABRIC.AVS_STEPS : Fld := ⟨0x0E4, 0, 32, .cnt, false, .val 0, 0x000, 0x0⟩
/-- FABRIC.PLAN_STAT.FAIL_TILE [23:16] RO (spec/03_fabric_timing.md). -/
def FABRIC.PLAN_STAT_FAIL_TILE : Fld := ⟨0x0F0, 16, 8, .ro, false, .val 0, 0x000, 0x0⟩
/-- FABRIC.PLAN_STAT.FAIL_CHECK [12:9] RO (spec/03_fabric_timing.md). -/
def FABRIC.PLAN_STAT_FAIL_CHECK : Fld := ⟨0x0F0, 9, 4, .ro, false, .val 0, 0x000, 0x0⟩
/-- FABRIC.PLAN_STAT.SWAP_ARMED [8:8] RO (spec/03_fabric_timing.md). -/
def FABRIC.PLAN_STAT_SWAP_ARMED : Fld := ⟨0x0F0, 8, 1, .ro, false, .val 0, 0x000, 0x0⟩
/-- FABRIC.PLAN_STAT.SLOT1_ADMITTED [5:5] RO (spec/03_fabric_timing.md). -/
def FABRIC.PLAN_STAT_SLOT1_ADMITTED : Fld := ⟨0x0F0, 5, 1, .ro, false, .val 0, 0x000, 0x0⟩
/-- FABRIC.PLAN_STAT.SLOT0_ADMITTED [4:4] RO (spec/03_fabric_timing.md). -/
def FABRIC.PLAN_STAT_SLOT0_ADMITTED : Fld := ⟨0x0F0, 4, 1, .ro, false, .val 0, 0x000, 0x0⟩
/-- FABRIC.PLAN_STAT.SLOT1_LOADED [3:3] RO (spec/03_fabric_timing.md). -/
def FABRIC.PLAN_STAT_SLOT1_LOADED : Fld := ⟨0x0F0, 3, 1, .ro, false, .val 0, 0x000, 0x0⟩
/-- FABRIC.PLAN_STAT.SLOT0_LOADED [2:2] RO (spec/03_fabric_timing.md). -/
def FABRIC.PLAN_STAT_SLOT0_LOADED : Fld := ⟨0x0F0, 2, 1, .ro, false, .val 0, 0x000, 0x0⟩
/-- FABRIC.PLAN_STAT.ACTIVE_VALID [1:1] RO (spec/03_fabric_timing.md). -/
def FABRIC.PLAN_STAT_ACTIVE_VALID : Fld := ⟨0x0F0, 1, 1, .ro, false, .val 0, 0x000, 0x0⟩
/-- FABRIC.PLAN_STAT.ACTIVE_SLOT [0:0] RO (spec/03_fabric_timing.md). -/
def FABRIC.PLAN_STAT_ACTIVE_SLOT : Fld := ⟨0x0F0, 0, 1, .ro, false, .val 0, 0x000, 0x0⟩
/-- FABRIC.ADMIT_DECL.HU [23:0] RO (spec/03_fabric_timing.md). -/
def FABRIC.ADMIT_DECL_HU : Fld := ⟨0x0F4, 0, 24, .ro, false, .val 0, 0x000, 0x0⟩
/-- FABRIC.ADMIT_LIMIT.HU [23:0] RO (spec/03_fabric_timing.md). -/
def FABRIC.ADMIT_LIMIT_HU : Fld := ⟨0x0F8, 0, 24, .ro, false, .val 0, 0x000, 0x0⟩
/-- AWL.WIN_CFG.WIN_HALF [12:0] RO (spec/04_awl_model.md). -/
def AWL.WIN_CFG_WIN_HALF : Fld := ⟨0x040, 0, 13, .ro, false, .val 0, 0x000, 0x0⟩
/-- AWL.WIN_CH.NOUT [26:16] RO (spec/04_awl_model.md). -/
def AWL.WIN_CH_NOUT : Fld := ⟨0x044, 16, 11, .ro, false, .val 0, 0x000, 0x0⟩
/-- AWL.WIN_CH.NIN [10:0] RO (spec/04_awl_model.md). -/
def AWL.WIN_CH_NIN : Fld := ⟨0x044, 0, 11, .ro, false, .val 0, 0x000, 0x0⟩
/-- AWL.ENTRY.ADDR [13:0] RO (spec/04_awl_model.md). -/
def AWL.ENTRY_ADDR : Fld := ⟨0x048, 0, 14, .ro, false, .val 0, 0x000, 0x0⟩
/-- AWL.PSTAT.RAMP_BUSY [1:1] RO (spec/04_awl_model.md). -/
def AWL.PSTAT_RAMP_BUSY : Fld := ⟨0x04C, 1, 1, .ro, false, .val 0, 0x000, 0x0⟩
/-- AWL.PSTAT.ACTIVE_BANK [0:0] RO (spec/04_awl_model.md). -/
def AWL.PSTAT_ACTIVE_BANK : Fld := ⟨0x04C, 0, 1, .ro, false, .val 0, 0x000, 0x0⟩
/-- AWL.TST_SNAP.TST [31:0] RO (spec/04_awl_model.md). -/
def AWL.TST_SNAP_TST : Fld := ⟨0x050, 0, 32, .ro, false, .val 0, 0x000, 0x0⟩
/-- AWL.PC_SNAP.ABORTED [31:31] RO (spec/04_awl_model.md). -/
def AWL.PC_SNAP_ABORTED : Fld := ⟨0x054, 31, 1, .ro, false, .val 0, 0x000, 0x0⟩
/-- AWL.PC_SNAP.PC [13:0] RO (spec/04_awl_model.md). -/
def AWL.PC_SNAP_PC : Fld := ⟨0x054, 0, 14, .ro, false, .val 0, 0x000, 0x0⟩
/-- AWL.STICKY_CLR.AOV [1:1] W1S (spec/04_awl_model.md). -/
def AWL.STICKY_CLR_AOV : Fld := ⟨0x058, 1, 1, .w1s, false, .val 0, 0x000, 0x0⟩
/-- AWL.STICKY_CLR.SAT [0:0] W1S (spec/04_awl_model.md). -/
def AWL.STICKY_CLR_SAT : Fld := ⟨0x058, 0, 1, .w1s, false, .val 0, 0x000, 0x0⟩
/-- AWL.AOV_COUNT.COUNT [31:0] CNT (spec/04_awl_model.md). -/
def AWL.AOV_COUNT : Fld := ⟨0x05C, 0, 32, .cnt, false, .val 0, 0x000, 0x0⟩
/-- AWL.SAT_COUNT.COUNT [31:0] CNT (spec/04_awl_model.md). -/
def AWL.SAT_COUNT : Fld := ⟨0x060, 0, 32, .cnt, false, .val 0, 0x000, 0x0⟩
/-- AWL.ILLEGAL_COUNT.COUNT [31:0] CNT (spec/04_awl_model.md). -/
def AWL.ILLEGAL_COUNT : Fld := ⟨0x064, 0, 32, .cnt, false, .val 0, 0x000, 0x0⟩
/-- AWL.DBG_REFUSED.COUNT [31:0] CNT (spec/04_awl_model.md). -/
def AWL.DBG_REFUSED : Fld := ⟨0x088, 0, 32, .cnt, false, .val 0, 0x000, 0x0⟩
/-- AWL.FAULT_INFO.VALID [31:31] RW (spec/04_awl_model.md). -/
def AWL.FAULT_INFO_VALID : Fld := ⟨0x068, 31, 1, .rw, false, .val 0, 0x000, 0x0⟩
/-- AWL.FAULT_INFO.CAUSE [27:24] RO (spec/04_awl_model.md). -/
def AWL.FAULT_INFO_CAUSE : Fld := ⟨0x068, 24, 4, .ro, false, .val 0, 0x000, 0x0⟩
/-- AWL.FAULT_INFO.PC [13:0] RO (spec/04_awl_model.md). -/
def AWL.FAULT_INFO_PC : Fld := ⟨0x068, 0, 14, .ro, false, .val 0, 0x000, 0x0⟩
/-- AWL.LAST_HU.HU [23:0] RO (spec/04_awl_model.md). -/
def AWL.LAST_HU_HU : Fld := ⟨0x06C, 0, 24, .ro, false, .val 0, 0x000, 0x0⟩
/-- AWL.MAX_HU.HU [23:0] CNT (spec/04_awl_model.md). -/
def AWL.MAX_HU_HU : Fld := ⟨0x070, 0, 24, .cnt, false, .val 0, 0x000, 0x0⟩
/-- AWL.DBG_ADDR.SPACE [31:30] RW (spec/04_awl_model.md). -/
def AWL.DBG_ADDR_SPACE : Fld := ⟨0x080, 30, 2, .rw, false, .val 0, 0x000, 0x0⟩
/-- AWL.DBG_ADDR.AUTOINC [29:29] RW (spec/04_awl_model.md). -/
def AWL.DBG_ADDR_AUTOINC : Fld := ⟨0x080, 29, 1, .rw, false, .val 0, 0x000, 0x0⟩
/-- AWL.DBG_ADDR.INDEX [13:0] RW (spec/04_awl_model.md). -/
def AWL.DBG_ADDR_INDEX : Fld := ⟨0x080, 0, 14, .rw, false, .val 0, 0x000, 0x0⟩
/-- AWL.DBG_DATA.DATA [31:0] RW (spec/04_awl_model.md). -/
def AWL.DBG_DATA_DATA : Fld := ⟨0x084, 0, 32, .rw, false, .val 0, 0x000, 0x0⟩
/-- MIX.RAMP_CFG.SWAP_MS [23:16] RWL (spec/06_mixing_routing.md). -/
def MIX.RAMP_CFG_SWAP_MS : Fld := ⟨0x040, 16, 8, .rwl, false, .val 5, 0x000, 0x0⟩
/-- MIX.RAMP_CFG.ROUTE_MS [15:8] RWL (spec/06_mixing_routing.md). -/
def MIX.RAMP_CFG_ROUTE_MS : Fld := ⟨0x040, 8, 8, .rwl, false, .val 10, 0x000, 0x0⟩
/-- MIX.RAMP_CFG.GAIN_MS [7:0] RWL (spec/06_mixing_routing.md). -/
def MIX.RAMP_CFG_GAIN_MS : Fld := ⟨0x040, 0, 8, .rwl, false, .val 5, 0x000, 0x0⟩
/-- MIX.DIRECT_TGT.KIND [31:30] RW (spec/06_mixing_routing.md). -/
def MIX.DIRECT_TGT_KIND : Fld := ⟨0x044, 30, 2, .rw, false, .val 0, 0x000, 0x0⟩
/-- MIX.DIRECT_TGT.RAMP [29:29] RW (spec/06_mixing_routing.md). -/
def MIX.DIRECT_TGT_RAMP : Fld := ⟨0x044, 29, 1, .rw, false, .val 0, 0x000, 0x0⟩
/-- MIX.DIRECT_TGT.TILE [27:20] RW (spec/06_mixing_routing.md). -/
def MIX.DIRECT_TGT_TILE : Fld := ⟨0x044, 20, 8, .rw, false, .val 0, 0x000, 0x0⟩
/-- MIX.DIRECT_TGT.SLOT_DEST [13:0] RW (spec/06_mixing_routing.md). -/
def MIX.DIRECT_TGT_SLOT_DEST : Fld := ⟨0x044, 0, 14, .rw, false, .val 0, 0x000, 0x0⟩
/-- MIX.DIRECT_VAL.VALUE [31:0] WO (spec/06_mixing_routing.md). -/
def MIX.DIRECT_VAL_VALUE : Fld := ⟨0x048, 0, 32, .wo, false, .val 0, 0x000, 0x0⟩
/-- MIX.COMMIT_SEL.ENTRY [3:0] RW (spec/06_mixing_routing.md). -/
def MIX.COMMIT_SEL_ENTRY : Fld := ⟨0x050, 0, 4, .rw, false, .val 0, 0x000, 0x0⟩
/-- MIX.COMMIT_CANCEL.GO [31:31] WO (spec/06_mixing_routing.md). -/
def MIX.COMMIT_CANCEL_GO : Fld := ⟨0x064, 31, 1, .wo, false, .val 0, 0x000, 0x0⟩
/-- MIX.COMMIT_CANCEL.ENTRY [3:0] WO (spec/06_mixing_routing.md). -/
def MIX.COMMIT_CANCEL_ENTRY : Fld := ⟨0x064, 0, 4, .wo, false, .val 0, 0x000, 0x0⟩
/-- MIX.COMMIT_RESULT.RESULT [19:16] RO (spec/06_mixing_routing.md). -/
def MIX.COMMIT_RESULT_RESULT : Fld := ⟨0x068, 16, 4, .ro, false, .val 0, 0x000, 0x0⟩
/-- MIX.COMMIT_RESULT.SET [15:8] RO (spec/06_mixing_routing.md). -/
def MIX.COMMIT_RESULT_SET : Fld := ⟨0x068, 8, 8, .ro, false, .val 0, 0x000, 0x0⟩
/-- MIX.COMMIT_RESULT.KIND [7:0] RO (spec/06_mixing_routing.md). -/
def MIX.COMMIT_RESULT_KIND : Fld := ⟨0x068, 0, 8, .ro, false, .val 0, 0x000, 0x0⟩
/-- MIX.STAGE_SET.INCOMPLETE [9:9] RO (spec/06_mixing_routing.md). -/
def MIX.STAGE_SET_INCOMPLETE : Fld := ⟨0x070, 9, 1, .ro, false, .val 0, 0x000, 0x0⟩
/-- MIX.STAGE_SET.SET [7:0] RO (spec/06_mixing_routing.md). -/
def MIX.STAGE_SET_SET : Fld := ⟨0x070, 0, 8, .ro, false, .val 0, 0x000, 0x0⟩
/-- MIX.SWAP_STAT.L [19:16] RO (spec/06_mixing_routing.md). -/
def MIX.SWAP_STAT_L : Fld := ⟨0x074, 16, 4, .ro, false, .val 0, 0x000, 0x0⟩
/-- MIX.SWAP_STAT.RELOAD_TILES [8:0] RO (spec/06_mixing_routing.md). -/
def MIX.SWAP_STAT_RELOAD_TILES : Fld := ⟨0x074, 0, 9, .ro, false, .val 0, 0x000, 0x0⟩
/-- MIX.BUS_SEL.BUS [9:0] RW (spec/06_mixing_routing.md). -/
def MIX.BUS_SEL_BUS : Fld := ⟨0x080, 0, 10, .rw, false, .val 0, 0x000, 0x0⟩
/-- MIX.BUS_CFG.LAW [31:30] RW (spec/06_mixing_routing.md). -/
def MIX.BUS_CFG_LAW : Fld := ⟨0x084, 30, 2, .rw, false, .val 0, 0x080, 0x3ff⟩
/-- MIX.BUS_CFG.HEADROOM [29:26] RO (spec/06_mixing_routing.md). -/
def MIX.BUS_CFG_HEADROOM : Fld := ⟨0x084, 26, 4, .ro, false, .val 0, 0x080, 0x3ff⟩
/-- MIX.BUS_CFG.TILE [25:18] RO (spec/06_mixing_routing.md). -/
def MIX.BUS_CFG_TILE : Fld := ⟨0x084, 18, 8, .ro, false, .val 0, 0x080, 0x3ff⟩
/-- MIX.BUS_CFG.OUT_CH [10:0] RO (spec/06_mixing_routing.md). -/
def MIX.BUS_CFG_OUT_CH : Fld := ⟨0x084, 0, 11, .ro, false, .val 0, 0x080, 0x3ff⟩
/-- MIX.BUS_MEMB.BASE [31:16] RW (spec/06_mixing_routing.md). -/
def MIX.BUS_MEMB_BASE : Fld := ⟨0x088, 16, 16, .rw, false, .val 0, 0x080, 0x3ff⟩
/-- MIX.BUS_MEMB.COUNT [15:0] RW (spec/06_mixing_routing.md). -/
def MIX.BUS_MEMB_COUNT : Fld := ⟨0x088, 0, 16, .rw, false, .val 0, 0x080, 0x3ff⟩
/-- MIX.BUS_FLOOR.GAIN_FLOOR [31:0] RW (spec/06_mixing_routing.md). -/
def MIX.BUS_FLOOR_GAIN_FLOOR : Fld := ⟨0x08C, 0, 32, .rw, false, .val 67909, 0x080, 0x3ff⟩
/-- MIX.BUS_STAT.ACTIVE [15:0] RO (spec/06_mixing_routing.md). -/
def MIX.BUS_STAT_ACTIVE : Fld := ⟨0x090, 0, 16, .ro, false, .val 0, 0x080, 0x3ff⟩
/-- MIX.BUS_SCALE.S [31:0] RO (spec/06_mixing_routing.md). -/
def MIX.BUS_SCALE_S : Fld := ⟨0x094, 0, 32, .ro, false, .val 2147483648, 0x080, 0x3ff⟩
/-- MIX.MEMB_SEL.ENTRY [15:0] RW (spec/06_mixing_routing.md). -/
def MIX.MEMB_SEL_ENTRY : Fld := ⟨0x098, 0, 16, .rw, false, .val 0, 0x000, 0x0⟩
/-- MIX.MEMB_SIL.SLOT [12:0] RW (spec/06_mixing_routing.md). -/
def MIX.MEMB_SIL_SLOT : Fld := ⟨0x09C, 0, 13, .rw, false, .val 0, 0x098, 0xffff⟩
/-- MIX.MEMB_GAIN.VALID [31:31] RW (spec/06_mixing_routing.md). -/
def MIX.MEMB_GAIN_VALID : Fld := ⟨0x0A0, 31, 1, .rw, false, .val 0, 0x098, 0xffff⟩
/-- MIX.MEMB_GAIN.TILE [27:20] RW (spec/06_mixing_routing.md). -/
def MIX.MEMB_GAIN_TILE : Fld := ⟨0x0A0, 20, 8, .rw, false, .val 0, 0x098, 0xffff⟩
/-- MIX.MEMB_GAIN.PSLOT [11:0] RW (spec/06_mixing_routing.md). -/
def MIX.MEMB_GAIN_PSLOT : Fld := ⟨0x0A0, 0, 12, .rw, false, .val 0, 0x098, 0xffff⟩
/-- MIX.MON_SEL.SLOT [12:0] RW (spec/06_mixing_routing.md). -/
def MIX.MON_SEL_SLOT : Fld := ⟨0x0A4, 0, 13, .rw, false, .val 0, 0x000, 0x0⟩
/-- MIX.MON_CFG.MTR_EN [31:31] RW (spec/06_mixing_routing.md). -/
def MIX.MON_CFG_MTR_EN : Fld := ⟨0x0A8, 31, 1, .rw, false, .val 0, 0x0A4, 0x1fff⟩
/-- MIX.MON_CFG.SIL_EN [30:30] RW (spec/06_mixing_routing.md). -/
def MIX.MON_CFG_SIL_EN : Fld := ⟨0x0A8, 30, 1, .rw, false, .val 0, 0x0A4, 0x1fff⟩
/-- MIX.MON_CFG.RMS_TC [29:28] RW (spec/06_mixing_routing.md). -/
def MIX.MON_CFG_RMS_TC : Fld := ⟨0x0A8, 28, 2, .rw, false, .val 1, 0x0A4, 0x1fff⟩
/-- MIX.MON_CFG.PK_HOLD [27:24] RW (spec/06_mixing_routing.md). -/
def MIX.MON_CFG_PK_HOLD : Fld := ⟨0x0A8, 24, 4, .rw, false, .val 2, 0x0A4, 0x1fff⟩
/-- MIX.MON_CFG.SIL_HOLD [23:14] RW (spec/06_mixing_routing.md). -/
def MIX.MON_CFG_SIL_HOLD : Fld := ⟨0x0A8, 14, 10, .rw, false, .val 20, 0x0A4, 0x1fff⟩
/-- MIX.MON_CFG.SOURCE [13:0] RW (spec/06_mixing_routing.md). -/
def MIX.MON_CFG_SOURCE : Fld := ⟨0x0A8, 0, 14, .rw, false, .val 16383, 0x0A4, 0x1fff⟩
/-- MIX.MON_THRESH.LEVEL [31:0] RW (spec/06_mixing_routing.md). -/
def MIX.MON_THRESH_LEVEL : Fld := ⟨0x0AC, 0, 32, .rw, false, .val 67909, 0x0A4, 0x1fff⟩
/-- MIX.SNAP_CTRL.READY [1:1] RO (spec/06_mixing_routing.md). -/
def MIX.SNAP_CTRL_READY : Fld := ⟨0x0B4, 1, 1, .ro, false, .val 0, 0x000, 0x0⟩
/-- MIX.SNAP_CTRL.REQ [0:0] W1S (spec/06_mixing_routing.md). -/
def MIX.SNAP_CTRL_REQ : Fld := ⟨0x0B4, 0, 1, .w1s, false, .val 0, 0x000, 0x0⟩
/-- MIX.ROUTE_SEL.DEST [13:0] RW (spec/06_mixing_routing.md). -/
def MIX.ROUTE_SEL_DEST : Fld := ⟨0x0C0, 0, 14, .rw, false, .val 0, 0x000, 0x0⟩
/-- MIX.ROUTE_DATA.SOURCE [13:0] RO (spec/06_mixing_routing.md). -/
def MIX.ROUTE_DATA_SOURCE : Fld := ⟨0x0C4, 0, 14, .ro, false, .val 16383, 0x0C0, 0x3fff⟩
/-- MIX.BRG_SEL.BRIDGE [8:0] RW (spec/06_mixing_routing.md). -/
def MIX.BRG_SEL_BRIDGE : Fld := ⟨0x0D0, 0, 9, .rw, false, .val 0, 0x000, 0x0⟩
/-- MIX.BRG_CFG.SRC_DOM [31:30] RO (spec/06_mixing_routing.md). -/
def MIX.BRG_CFG_SRC_DOM : Fld := ⟨0x0D4, 30, 2, .ro, false, .val 0, 0x0D0, 0x1ff⟩
/-- MIX.BRG_CFG.DST_DOM [29:28] RO (spec/06_mixing_routing.md). -/
def MIX.BRG_CFG_DST_DOM : Fld := ⟨0x0D4, 28, 2, .ro, false, .val 0, 0x0D0, 0x1ff⟩
/-- MIX.BRG_CFG.SRC [27:14] RO (spec/06_mixing_routing.md). -/
def MIX.BRG_CFG_SRC : Fld := ⟨0x0D4, 14, 14, .ro, false, .val 16383, 0x0D0, 0x1ff⟩
/-- MIX.BRG_CFG.DST [13:0] RO (spec/06_mixing_routing.md). -/
def MIX.BRG_CFG_DST : Fld := ⟨0x0D4, 0, 14, .ro, false, .val 16383, 0x0D0, 0x1ff⟩
/-- MIX.BRG_STAT.STATE [31:30] RO (spec/06_mixing_routing.md). -/
def MIX.BRG_STAT_STATE : Fld := ⟨0x0D8, 30, 2, .ro, false, .val 0, 0x0D0, 0x1ff⟩
/-- MIX.BRG_STAT.RATIO_ERR [23:0] RO (spec/06_mixing_routing.md). -/
def MIX.BRG_STAT_RATIO_ERR : Fld := ⟨0x0D8, 0, 24, .ro, false, .val 0, 0x0D0, 0x1ff⟩
/-- MIX.DIRECT_REFUSED.COUNT [31:0] CNT (spec/06_mixing_routing.md). -/
def MIX.DIRECT_REFUSED : Fld := ⟨0x0E0, 0, 32, .cnt, false, .val 0, 0x000, 0x0⟩
/-- MIX.ROUTE_DEFERRED.COUNT [31:0] CNT (spec/06_mixing_routing.md). -/
def MIX.ROUTE_DEFERRED : Fld := ⟨0x0E4, 0, 32, .cnt, false, .val 0, 0x000, 0x0⟩
/-- MIX.COMMITS_APPLIED.COUNT [31:0] CNT (spec/06_mixing_routing.md). -/
def MIX.COMMITS_APPLIED : Fld := ⟨0x0E8, 0, 32, .cnt, false, .val 0, 0x000, 0x0⟩
/-- MIX.BRG_UNLOCKS.COUNT [31:0] CNT (spec/06_mixing_routing.md). -/
def MIX.BRG_UNLOCKS : Fld := ⟨0x0EC, 0, 32, .cnt, false, .val 0, 0x000, 0x0⟩
/-- MIX.SCALE_SAT.COUNT [31:0] CNT (spec/06_mixing_routing.md). -/
def MIX.SCALE_SAT : Fld := ⟨0x0F0, 0, 32, .cnt, false, .val 0, 0x000, 0x0⟩
/-- GIRTH.BASE_LO.ADDR [31:0] RWS (spec/07_girth.md). -/
def GIRTH.BASE_LO_ADDR : Fld := ⟨0x040, 0, 32, .rw, true, .val 0x40000000, 0x000, 0x0⟩
/-- GIRTH.BASE_HI.ADDR [15:0] RWS (spec/07_girth.md). -/
def GIRTH.BASE_HI_ADDR : Fld := ⟨0x044, 0, 16, .rw, true, .val 0, 0x000, 0x0⟩
/-- GIRTH.PORT_CFG.ROTATE [3:0] RW (spec/07_girth.md). -/
def GIRTH.PORT_CFG_ROTATE : Fld := ⟨0x048, 0, 4, .rw, false, .val 14, 0x000, 0x0⟩
/-- GIRTH.VAULT_MAP_LO.MAP [31:0] RWL, RWS (spec/07_girth.md). -/
def GIRTH.VAULT_MAP_LO_MAP : Fld := ⟨0x04C, 0, 32, .rwl, true, .val 0, 0x000, 0x0⟩
/-- GIRTH.VAULT_MAP_HI.MAP [31:0] RWL, RWS (spec/07_girth.md). -/
def GIRTH.VAULT_MAP_HI_MAP : Fld := ⟨0x050, 0, 32, .rwl, true, .val 0, 0x000, 0x0⟩
/-- GIRTH.VAULT_STAT.WIPING [31:31] RO (spec/07_girth.md). -/
def GIRTH.VAULT_STAT_WIPING : Fld := ⟨0x054, 31, 1, .ro, false, .val 0, 0x000, 0x0⟩
/-- GIRTH.VAULT_STAT.CAUSE [30:28] RO (spec/07_girth.md). -/
def GIRTH.VAULT_STAT_CAUSE : Fld := ⟨0x054, 28, 3, .ro, false, .val 0, 0x000, 0x0⟩
/-- GIRTH.VAULT_STAT.WIPES [15:0] RO (spec/07_girth.md). -/
def GIRTH.VAULT_STAT_WIPES : Fld := ⟨0x054, 0, 16, .ro, false, .val 0, 0x000, 0x0⟩
/-- GIRTH.VAULT_FAIL_LO.FAILED_MAP [31:0] RO (spec/07_girth.md). -/
def GIRTH.VAULT_FAIL_LO_FAILED_MAP : Fld := ⟨0x058, 0, 32, .ro, false, .val 0, 0x000, 0x0⟩
/-- GIRTH.VAULT_FAIL_HI.FAILED_MAP [31:0] RO (spec/07_girth.md). -/
def GIRTH.VAULT_FAIL_HI_FAILED_MAP : Fld := ⟨0x05C, 0, 32, .ro, false, .val 0, 0x000, 0x0⟩
/-- GIRTH.BGT_CTRL.SWEEP [0:0] RW (spec/07_girth.md). -/
def GIRTH.BGT_CTRL_SWEEP : Fld := ⟨0x060, 0, 1, .rw, false, .val 1, 0x000, 0x0⟩
/-- GIRTH.BGT_STAT.STATE [31:30] RO (spec/07_girth.md). -/
def GIRTH.BGT_STAT_STATE : Fld := ⟨0x064, 30, 2, .ro, false, .val 0, 0x000, 0x0⟩
/-- GIRTH.BGT_STAT.PHASE [29:28] RO (spec/07_girth.md). -/
def GIRTH.BGT_STAT_PHASE : Fld := ⟨0x064, 28, 2, .ro, false, .val 0, 0x000, 0x0⟩
/-- GIRTH.BGT_STAT.REGION [27:14] RO (spec/07_girth.md). -/
def GIRTH.BGT_STAT_REGION : Fld := ⟨0x064, 14, 14, .ro, false, .val 0, 0x000, 0x0⟩
/-- GIRTH.BGT_STAT.LATE [13:0] RO (spec/07_girth.md). -/
def GIRTH.BGT_STAT_LATE : Fld := ⟨0x064, 0, 14, .ro, false, .val 0, 0x000, 0x0⟩
/-- GIRTH.RET_CTRL.SEG [7:0] RWL (spec/07_girth.md). -/
def GIRTH.RET_CTRL_SEG : Fld := ⟨0x068, 0, 8, .rwl, false, .val 0, 0x000, 0x0⟩
/-- GIRTH.RET_STAT.WAKING [15:8] RO (spec/07_girth.md). -/
def GIRTH.RET_STAT_WAKING : Fld := ⟨0x06C, 8, 8, .ro, false, .val 0, 0x000, 0x0⟩
/-- GIRTH.RET_STAT.RETAINED [7:0] RO (spec/07_girth.md). -/
def GIRTH.RET_STAT_RETAINED : Fld := ⟨0x06C, 0, 8, .ro, false, .val 0, 0x000, 0x0⟩
/-- GIRTH.ECC_INFO.VALID [31:31] RW (spec/07_girth.md). -/
def GIRTH.ECC_INFO_VALID : Fld := ⟨0x070, 31, 1, .rw, false, .val 0, 0x000, 0x0⟩
/-- GIRTH.ECC_INFO.OFFSET [25:0] RO (spec/07_girth.md). -/
def GIRTH.ECC_INFO_OFFSET : Fld := ⟨0x070, 0, 26, .ro, false, .val 0, 0x000, 0x0⟩
/-- GIRTH.BANK_SEL.BANK [5:0] RW (spec/07_girth.md). -/
def GIRTH.BANK_SEL_BANK : Fld := ⟨0x074, 0, 6, .rw, false, .val 0, 0x000, 0x0⟩
/-- GIRTH.BANK_STAT.FAILED [31:31] RO (spec/07_girth.md). -/
def GIRTH.BANK_STAT_FAILED : Fld := ⟨0x078, 31, 1, .ro, false, .val 0, 0x074, 0x3f⟩
/-- GIRTH.BANK_STAT.SPARES_USED [19:16] RO (spec/07_girth.md). -/
def GIRTH.BANK_STAT_SPARES_USED : Fld := ⟨0x078, 16, 4, .ro, false, .val 0, 0x074, 0x3f⟩
/-- GIRTH.BANK_STAT.CE [15:0] RO (spec/07_girth.md). -/
def GIRTH.BANK_STAT_CE : Fld := ⟨0x078, 0, 16, .ro, false, .val 0, 0x074, 0x3f⟩
/-- GIRTH.CE_COUNT.COUNT [31:0] CNT (spec/07_girth.md). -/
def GIRTH.CE_COUNT : Fld := ⟨0x080, 0, 32, .cnt, false, .val 0, 0x000, 0x0⟩
/-- GIRTH.UE_COUNT.COUNT [31:0] CNT (spec/07_girth.md). -/
def GIRTH.UE_COUNT : Fld := ⟨0x084, 0, 32, .cnt, false, .val 0, 0x000, 0x0⟩
/-- GIRTH.SHADOW_NET.COUNT [31:0] CNT (spec/07_girth.md). -/
def GIRTH.SHADOW_NET : Fld := ⟨0x088, 0, 32, .cnt, false, .val 0, 0x000, 0x0⟩
/-- GIRTH.SHADOW_MOV.COUNT [31:0] CNT (spec/07_girth.md). -/
def GIRTH.SHADOW_MOV : Fld := ⟨0x08C, 0, 32, .cnt, false, .val 0, 0x000, 0x0⟩
/-- GIRTH.SHADOW_HOST.COUNT [31:0] CNT (spec/07_girth.md). -/
def GIRTH.SHADOW_HOST : Fld := ⟨0x090, 0, 32, .cnt, false, .val 0, 0x000, 0x0⟩
/-- GIRTH.REPAIRS.COUNT [31:0] CNT (spec/07_girth.md). -/
def GIRTH.REPAIRS : Fld := ⟨0x094, 0, 32, .cnt, false, .val 0, 0x000, 0x0⟩
/-- GIRTH.VAULT_DENIED.COUNT [31:0] CNT (spec/07_girth.md). -/
def GIRTH.VAULT_DENIED : Fld := ⟨0x098, 0, 32, .cnt, false, .val 0, 0x000, 0x0⟩
/-- GIRTH.MISALIGNED.COUNT [31:0] CNT (spec/07_girth.md). -/
def GIRTH.MISALIGNED : Fld := ⟨0x09C, 0, 32, .cnt, false, .val 0, 0x000, 0x0⟩
/-- GIRTH.RET_WAKES.COUNT [31:0] CNT (spec/07_girth.md). -/
def GIRTH.RET_WAKES : Fld := ⟨0x0A0, 0, 32, .cnt, false, .val 0, 0x000, 0x0⟩
/-- GIRTH.SWEEPS.COUNT [31:0] CNT (spec/07_girth.md). -/
def GIRTH.SWEEPS : Fld := ⟨0x0A4, 0, 32, .cnt, false, .val 0, 0x000, 0x0⟩
/-- HARNESS.REMAP.REMAP [0:0] RW (spec/08_harness.md). -/
def HARNESS.REMAP_REMAP : Fld := ⟨0x040, 0, 1, .rw, false, .val 0, 0x000, 0x0⟩
/-- HARNESS.SLICE_M.SLICES [25:0] RO (spec/08_harness.md). -/
def HARNESS.SLICE_M_SLICES : Fld := ⟨0x044, 0, 26, .ro, false, .val 44739242, 0x000, 0x0⟩
/-- HARNESS.SLICE_T.SLICES [25:0] RO (spec/08_harness.md). -/
def HARNESS.SLICE_T_SLICES : Fld := ⟨0x048, 0, 26, .ro, false, .val 44739242, 0x000, 0x0⟩
/-- HARNESS.DRAM_MAP.SIZE1 [21:16] RWL (spec/08_harness.md). -/
def HARNESS.DRAM_MAP_SIZE1 : Fld := ⟨0x04C, 16, 6, .rwl, false, .val 0, 0x000, 0x0⟩
/-- HARNESS.DRAM_MAP.SIZE0 [13:8] RWL (spec/08_harness.md). -/
def HARNESS.DRAM_MAP_SIZE0 : Fld := ⟨0x04C, 8, 6, .rwl, false, .val 0, 0x000, 0x0⟩
/-- HARNESS.DRAM_MAP.INTLV [1:0] RWL (spec/08_harness.md). -/
def HARNESS.DRAM_MAP_INTLV : Fld := ⟨0x04C, 0, 2, .rwl, false, .val 0, 0x000, 0x0⟩
/-- HARNESS.MQOS_SEL.MASTER [3:0] RW (spec/08_harness.md). -/
def HARNESS.MQOS_SEL_MASTER : Fld := ⟨0x050, 0, 4, .rw, false, .val 0, 0x000, 0x0⟩
/-- HARNESS.MQOS.CAP [3:0] RWL (spec/08_harness.md). -/
def HARNESS.MQOS_CAP : Fld := ⟨0x054, 0, 4, .rwl, false, .val 15, 0x050, 0xf⟩
/-- HARNESS.MRST_STAT.PENDING [12:0] RO (spec/08_harness.md). -/
def HARNESS.MRST_STAT_PENDING : Fld := ⟨0x058, 0, 13, .ro, false, .val 0, 0x000, 0x0⟩
/-- HARNESS.DECODE_INFO.VALID [31:31] RW (spec/08_harness.md). -/
def HARNESS.DECODE_INFO_VALID : Fld := ⟨0x060, 31, 1, .rw, false, .val 0, 0x000, 0x0⟩
/-- HARNESS.DECODE_INFO.WRITE [8:8] RO (spec/08_harness.md). -/
def HARNESS.DECODE_INFO_WRITE : Fld := ⟨0x060, 8, 1, .ro, false, .val 0, 0x000, 0x0⟩
/-- HARNESS.DECODE_INFO.MASTER [3:0] RO (spec/08_harness.md). -/
def HARNESS.DECODE_INFO_MASTER : Fld := ⟨0x060, 0, 4, .ro, false, .val 0, 0x000, 0x0⟩
/-- HARNESS.DECODE_ADDR_LO.ADDR [31:0] RO (spec/08_harness.md). -/
def HARNESS.DECODE_ADDR_LO_ADDR : Fld := ⟨0x064, 0, 32, .ro, false, .val 0, 0x000, 0x0⟩
/-- HARNESS.DECODE_ADDR_HI.ADDR [15:0] RO (spec/08_harness.md). -/
def HARNESS.DECODE_ADDR_HI_ADDR : Fld := ⟨0x068, 0, 16, .ro, false, .val 0, 0x000, 0x0⟩
/-- HARNESS.DECODE_COUNT.COUNT [31:0] CNT (spec/08_harness.md). -/
def HARNESS.DECODE_COUNT : Fld := ⟨0x070, 0, 32, .cnt, false, .val 0, 0x000, 0x0⟩
/-- HARNESS.AGE_PROMOTIONS.COUNT [31:0] CNT (spec/08_harness.md). -/
def HARNESS.AGE_PROMOTIONS : Fld := ⟨0x074, 0, 32, .cnt, false, .val 0, 0x000, 0x0⟩
/-- HARNESS.LOCK_FAILS.COUNT [31:0] CNT (spec/08_harness.md). -/
def HARNESS.LOCK_FAILS : Fld := ⟨0x078, 0, 32, .cnt, false, .val 0, 0x000, 0x0⟩
/-- HARNESS.MRST_BURSTS.COUNT [31:0] CNT (spec/08_harness.md). -/
def HARNESS.MRST_BURSTS : Fld := ⟨0x07C, 0, 32, .cnt, false, .val 0, 0x000, 0x0⟩
/-- HARNESS.UNSUPPORTED.COUNT [31:0] CNT (spec/08_harness.md). -/
def HARNESS.UNSUPPORTED : Fld := ⟨0x080, 0, 32, .cnt, false, .val 0, 0x000, 0x0⟩
/-- DRAM.CFG.WCRC_EN [30:30] RWL, RWS (spec/09_dram.md). -/
def DRAM.CFG_WCRC_EN : Fld := ⟨0x040, 30, 1, .rwl, true, .val 1, 0x000, 0x0⟩
/-- DRAM.CFG.RANKS [23:20] RWL, RWS (spec/09_dram.md). -/
def DRAM.CFG_RANKS : Fld := ⟨0x040, 20, 4, .rwl, true, .val 0, 0x000, 0x0⟩
/-- DRAM.CFG.DEVICE [17:16] RWL, RWS (spec/09_dram.md). -/
def DRAM.CFG_DEVICE : Fld := ⟨0x040, 16, 2, .rwl, true, .val 0, 0x000, 0x0⟩
/-- DRAM.CFG.ORDER [9:8] RWL, RWS (spec/09_dram.md). -/
def DRAM.CFG_ORDER : Fld := ⟨0x040, 8, 2, .rwl, true, .val 0, 0x000, 0x0⟩
/-- DRAM.CFG.PAGE_IDLE [7:0] RW (spec/09_dram.md). -/
def DRAM.CFG_PAGE_IDLE : Fld := ⟨0x040, 0, 8, .rw, false, .val 20, 0x000, 0x0⟩
/-- DRAM.RANK_CMD.GO [31:31] WO (spec/09_dram.md). -/
def DRAM.RANK_CMD_GO : Fld := ⟨0x044, 31, 1, .wo, false, .val 0, 0x000, 0x0⟩
/-- DRAM.RANK_CMD.OP [10:8] WO (spec/09_dram.md). -/
def DRAM.RANK_CMD_OP : Fld := ⟨0x044, 8, 3, .wo, false, .val 0, 0x000, 0x0⟩
/-- DRAM.RANK_CMD.RANK [1:0] WO (spec/09_dram.md). -/
def DRAM.RANK_CMD_RANK : Fld := ⟨0x044, 0, 2, .wo, false, .val 0, 0x000, 0x0⟩
/-- DRAM.RANK_STAT.STATE [3:0] RO, RWS (spec/09_dram.md). -/
def DRAM.RANK_STAT_STATE (n : Nat) : Fld := ⟨0x048, 0 + 4 * n, 4, .ro, true, .val 0, 0x000, 0x0⟩
/-- DRAM.RANK_MAP.LR1_VALID [5:5] RO, RWS (spec/09_dram.md). -/
def DRAM.RANK_MAP_LR1_VALID : Fld := ⟨0x04C, 5, 1, .ro, true, .val 0, 0x000, 0x0⟩
/-- DRAM.RANK_MAP.LR0_VALID [4:4] RO, RWS (spec/09_dram.md). -/
def DRAM.RANK_MAP_LR0_VALID : Fld := ⟨0x04C, 4, 1, .ro, true, .val 0, 0x000, 0x0⟩
/-- DRAM.RANK_MAP.LR1 [3:2] RO, RWS (spec/09_dram.md). -/
def DRAM.RANK_MAP_LR1 : Fld := ⟨0x04C, 2, 2, .ro, true, .val 0, 0x000, 0x0⟩
/-- DRAM.RANK_MAP.LR0 [1:0] RO, RWS (spec/09_dram.md). -/
def DRAM.RANK_MAP_LR0 : Fld := ⟨0x04C, 0, 2, .ro, true, .val 0, 0x000, 0x0⟩
/-- DRAM.RANK_OP_STAT.BUSY [31:31] RO (spec/09_dram.md). -/
def DRAM.RANK_OP_STAT_BUSY : Fld := ⟨0x050, 31, 1, .ro, false, .val 0, 0x000, 0x0⟩
/-- DRAM.RANK_OP_STAT.PERCENT [30:24] RO (spec/09_dram.md). -/
def DRAM.RANK_OP_STAT_PERCENT : Fld := ⟨0x050, 24, 7, .ro, false, .val 0, 0x000, 0x0⟩
/-- DRAM.RANK_OP_STAT.RANK [21:20] RO (spec/09_dram.md). -/
def DRAM.RANK_OP_STAT_RANK : Fld := ⟨0x050, 20, 2, .ro, false, .val 0, 0x000, 0x0⟩
/-- DRAM.RANK_OP_STAT.RESULT [17:16] RO (spec/09_dram.md). -/
def DRAM.RANK_OP_STAT_RESULT : Fld := ⟨0x050, 16, 2, .ro, false, .val 0, 0x000, 0x0⟩
/-- DRAM.MIG_STAT.ACTIVE [31:31] RO, RWS (spec/09_dram.md). -/
def DRAM.MIG_STAT_ACTIVE : Fld := ⟨0x054, 31, 1, .ro, true, .val 0, 0x000, 0x0⟩
/-- DRAM.MIG_STAT.WAITING [30:30] RO (spec/09_dram.md). -/
def DRAM.MIG_STAT_WAITING : Fld := ⟨0x054, 30, 1, .ro, false, .val 0, 0x000, 0x0⟩
/-- DRAM.MIG_STAT.FROM [29:28] RO, RWS (spec/09_dram.md). -/
def DRAM.MIG_STAT_FROM : Fld := ⟨0x054, 28, 2, .ro, true, .val 0, 0x000, 0x0⟩
/-- DRAM.MIG_STAT.TO [27:26] RO, RWS (spec/09_dram.md). -/
def DRAM.MIG_STAT_TO : Fld := ⟨0x054, 26, 2, .ro, true, .val 0, 0x000, 0x0⟩
/-- DRAM.REF_CFG.RT_QOS [23:16] RWL (spec/09_dram.md). -/
def DRAM.REF_CFG_RT_QOS : Fld := ⟨0x058, 16, 8, .rwl, false, .val 12, 0x000, 0x0⟩
/-- DRAM.REF_CFG.POLL [15:8] RW (spec/09_dram.md). -/
def DRAM.REF_CFG_POLL : Fld := ⟨0x058, 8, 8, .rw, false, .val 25, 0x000, 0x0⟩
/-- DRAM.REF_CFG.FORCE_2X [1:1] RW (spec/09_dram.md). -/
def DRAM.REF_CFG_FORCE_2X : Fld := ⟨0x058, 1, 1, .rw, false, .val 0, 0x000, 0x0⟩
/-- DRAM.REF_CFG.MODE [0:0] RWL (spec/09_dram.md). -/
def DRAM.REF_CFG_MODE : Fld := ⟨0x058, 0, 1, .rwl, false, .val 1, 0x000, 0x0⟩
/-- DRAM.REF_STAT.DOUBLED [3:3] RO (spec/09_dram.md). -/
def DRAM.REF_STAT_DOUBLED (n : Nat) : Fld := ⟨0x05C, 3 + 4 * n, 1, .ro, false, .val 0, 0x000, 0x0⟩
/-- DRAM.REF_STAT.OWED [2:0] RO (spec/09_dram.md). -/
def DRAM.REF_STAT_OWED (n : Nat) : Fld := ⟨0x05C, 0 + 4 * n, 3, .ro, false, .val 0, 0x000, 0x0⟩
/-- DRAM.RH_CFG.THRESH [27:16] RWL (spec/09_dram.md). -/
def DRAM.RH_CFG_THRESH : Fld := ⟨0x060, 16, 12, .rwl, false, .val 2048, 0x000, 0x0⟩
/-- DRAM.RH_CFG.QOS [3:0] RWL (spec/09_dram.md). -/
def DRAM.RH_CFG_QOS : Fld := ⟨0x060, 0, 4, .rwl, false, .val 1, 0x000, 0x0⟩
/-- DRAM.RH_STAT.THROTTLED [12:0] RO (spec/09_dram.md). -/
def DRAM.RH_STAT_THROTTLED : Fld := ⟨0x064, 0, 13, .ro, false, .val 0, 0x000, 0x0⟩
/-- DRAM.FREQ_CTRL.CHANGE [31:31] W1S (spec/09_dram.md). -/
def DRAM.FREQ_CTRL_CHANGE : Fld := ⟨0x068, 31, 1, .w1s, false, .val 0, 0x000, 0x0⟩
/-- DRAM.FREQ_CTRL.RESULT [17:16] RO (spec/09_dram.md). -/
def DRAM.FREQ_CTRL_RESULT : Fld := ⟨0x068, 16, 2, .ro, false, .val 0, 0x000, 0x0⟩
/-- DRAM.FREQ_CTRL.ACTIVE [8:8] RO, RWS (spec/09_dram.md). -/
def DRAM.FREQ_CTRL_ACTIVE : Fld := ⟨0x068, 8, 1, .ro, true, .val 0, 0x000, 0x0⟩
/-- DRAM.FREQ_CTRL.TARGET [0:0] RW (spec/09_dram.md). -/
def DRAM.FREQ_CTRL_TARGET : Fld := ⟨0x068, 0, 1, .rw, false, .val 0, 0x000, 0x0⟩
/-- DRAM.TSET_SEL.SET [8:8] RW (spec/09_dram.md). -/
def DRAM.TSET_SEL_SET : Fld := ⟨0x06C, 8, 1, .rw, false, .val 0, 0x000, 0x0⟩
/-- DRAM.TSET_SEL.PARAM [4:0] RW (spec/09_dram.md). -/
def DRAM.TSET_SEL_PARAM : Fld := ⟨0x06C, 0, 5, .rw, false, .val 0, 0x000, 0x0⟩
/-- DRAM.TSET_DATA.VALUE [31:0] RW, RWS (spec/09_dram.md). -/
def DRAM.TSET_DATA_VALUE : Fld := ⟨0x070, 0, 32, .rw, true, .timingSet, 0x06C, 0x11f⟩
/-- DRAM.TRN_CTRL.GO [31:31] W1S (spec/09_dram.md). -/
def DRAM.TRN_CTRL_GO : Fld := ⟨0x074, 31, 1, .w1s, false, .val 0, 0x000, 0x0⟩
/-- DRAM.TRN_CTRL.DONE [30:30] RO (spec/09_dram.md). -/
def DRAM.TRN_CTRL_DONE : Fld := ⟨0x074, 30, 1, .ro, false, .val 0, 0x000, 0x0⟩
/-- DRAM.TRN_CTRL.RANK [27:26] RW (spec/09_dram.md). -/
def DRAM.TRN_CTRL_RANK : Fld := ⟨0x074, 26, 2, .rw, false, .val 0, 0x000, 0x0⟩
/-- DRAM.TRN_CTRL.SUBCH [25:24] RW (spec/09_dram.md). -/
def DRAM.TRN_CTRL_SUBCH : Fld := ⟨0x074, 24, 2, .rw, false, .val 3, 0x000, 0x0⟩
/-- DRAM.TRN_CTRL.OP [23:22] RW (spec/09_dram.md). -/
def DRAM.TRN_CTRL_OP : Fld := ⟨0x074, 22, 2, .rw, false, .val 0, 0x000, 0x0⟩
/-- DRAM.TRN_CTRL.PAT [21:21] RW (spec/09_dram.md). -/
def DRAM.TRN_CTRL_PAT : Fld := ⟨0x074, 21, 1, .rw, false, .val 0, 0x000, 0x0⟩
/-- DRAM.TRN_CTRL.BURSTS [15:0] RW (spec/09_dram.md). -/
def DRAM.TRN_CTRL_BURSTS : Fld := ⟨0x074, 0, 16, .rw, false, .val 1024, 0x000, 0x0⟩
/-- DRAM.TRN_SEED.SEED [31:0] RW (spec/09_dram.md). -/
def DRAM.TRN_SEED_SEED : Fld := ⟨0x078, 0, 32, .rw, false, .val 1, 0x000, 0x0⟩
/-- DRAM.TRN_PAT_IDX.INDEX [3:0] RW (spec/09_dram.md). -/
def DRAM.TRN_PAT_IDX_INDEX : Fld := ⟨0x07C, 0, 4, .rw, false, .val 0, 0x000, 0x0⟩
/-- DRAM.TRN_PAT_DATA.WORD [31:0] RW (spec/09_dram.md). -/
def DRAM.TRN_PAT_DATA_WORD : Fld := ⟨0x080, 0, 32, .rw, false, .val 0, 0x07C, 0xf⟩
/-- DRAM.TRN_STEP.ADVANCE [31:31] W1S (spec/09_dram.md). -/
def DRAM.TRN_STEP_ADVANCE : Fld := ⟨0x084, 31, 1, .w1s, false, .val 0, 0x000, 0x0⟩
/-- DRAM.TRN_STEP.DONE [15:8] RO (spec/09_dram.md). -/
def DRAM.TRN_STEP_DONE : Fld := ⟨0x084, 8, 8, .ro, false, .val 0, 0x000, 0x0⟩
/-- DRAM.TRN_STEP.TOTAL [7:0] RW (spec/09_dram.md). -/
def DRAM.TRN_STEP_TOTAL : Fld := ⟨0x084, 0, 8, .rw, false, .val 0, 0x000, 0x0⟩
/-- DRAM.TRN_ERR0.SC0_DQ [31:0] RO (spec/09_dram.md). -/
def DRAM.TRN_ERR0_SC0_DQ : Fld := ⟨0x088, 0, 32, .ro, false, .val 0, 0x000, 0x0⟩
/-- DRAM.TRN_ERR1.SC1_CB [15:8] RO (spec/09_dram.md). -/
def DRAM.TRN_ERR1_SC1_CB : Fld := ⟨0x08C, 8, 8, .ro, false, .val 0, 0x000, 0x0⟩
/-- DRAM.TRN_ERR1.SC0_CB [7:0] RO (spec/09_dram.md). -/
def DRAM.TRN_ERR1_SC0_CB : Fld := ⟨0x08C, 0, 8, .ro, false, .val 0, 0x000, 0x0⟩
/-- DRAM.TRN_ERR2.SC1_DQ [31:0] RO (spec/09_dram.md). -/
def DRAM.TRN_ERR2_SC1_DQ : Fld := ⟨0x090, 0, 32, .ro, false, .val 0, 0x000, 0x0⟩
/-- DRAM.DLY_SEL.BCAST [31:31] RW (spec/09_dram.md). -/
def DRAM.DLY_SEL_BCAST : Fld := ⟨0x094, 31, 1, .rw, false, .val 0, 0x000, 0x0⟩
/-- DRAM.DLY_SEL.SET [28:28] RW (spec/09_dram.md). -/
def DRAM.DLY_SEL_SET : Fld := ⟨0x094, 28, 1, .rw, false, .val 0, 0x000, 0x0⟩
/-- DRAM.DLY_SEL.KIND [26:24] RW (spec/09_dram.md). -/
def DRAM.DLY_SEL_KIND : Fld := ⟨0x094, 24, 3, .rw, false, .val 0, 0x000, 0x0⟩
/-- DRAM.DLY_SEL.RANK [21:20] RW (spec/09_dram.md). -/
def DRAM.DLY_SEL_RANK : Fld := ⟨0x094, 20, 2, .rw, false, .val 0, 0x000, 0x0⟩
/-- DRAM.DLY_SEL.SUBCH [8:8] RW (spec/09_dram.md). -/
def DRAM.DLY_SEL_SUBCH : Fld := ⟨0x094, 8, 1, .rw, false, .val 0, 0x000, 0x0⟩
/-- DRAM.DLY_SEL.BIT [5:0] RW (spec/09_dram.md). -/
def DRAM.DLY_SEL_BIT : Fld := ⟨0x094, 0, 6, .rw, false, .val 0, 0x000, 0x0⟩
/-- DRAM.DLY_VAL.VALUE [9:0] RW, RWS (spec/09_dram.md). -/
def DRAM.DLY_VAL_VALUE : Fld := ⟨0x098, 0, 10, .rw, true, .val 64, 0x094, 0x1730013f⟩
/-- DRAM.MR_CTRL.GO [31:31] W1S (spec/09_dram.md). -/
def DRAM.MR_CTRL_GO : Fld := ⟨0x09C, 31, 1, .w1s, false, .val 0, 0x000, 0x0⟩
/-- DRAM.MR_CTRL.DONE [30:30] RO (spec/09_dram.md). -/
def DRAM.MR_CTRL_DONE : Fld := ⟨0x09C, 30, 1, .ro, false, .val 0, 0x000, 0x0⟩
/-- DRAM.MR_CTRL.WRITE [29:29] RW (spec/09_dram.md). -/
def DRAM.MR_CTRL_WRITE : Fld := ⟨0x09C, 29, 1, .rw, false, .val 0, 0x000, 0x0⟩
/-- DRAM.MR_CTRL.RANK [21:20] RW (spec/09_dram.md). -/
def DRAM.MR_CTRL_RANK : Fld := ⟨0x09C, 20, 2, .rw, false, .val 0, 0x000, 0x0⟩
/-- DRAM.MR_CTRL.SUBCH [8:8] RW (spec/09_dram.md). -/
def DRAM.MR_CTRL_SUBCH : Fld := ⟨0x09C, 8, 1, .rw, false, .val 0, 0x000, 0x0⟩
/-- DRAM.MR_CTRL.MR [7:0] RW (spec/09_dram.md). -/
def DRAM.MR_CTRL_MR : Fld := ⟨0x09C, 0, 8, .rw, false, .val 0, 0x000, 0x0⟩
/-- DRAM.MR_DATA.VALUE [7:0] RW (spec/09_dram.md). -/
def DRAM.MR_DATA_VALUE : Fld := ⟨0x0A0, 0, 8, .rw, false, .val 0, 0x000, 0x0⟩
/-- DRAM.ECC_INFO.VALID [31:31] RW (spec/09_dram.md). -/
def DRAM.ECC_INFO_VALID : Fld := ⟨0x0A4, 31, 1, .rw, false, .val 0, 0x000, 0x0⟩
/-- DRAM.ECC_INFO.KIND [27:24] RO (spec/09_dram.md). -/
def DRAM.ECC_INFO_KIND : Fld := ⟨0x0A4, 24, 4, .ro, false, .val 0, 0x000, 0x0⟩
/-- DRAM.ECC_INFO.RANK [21:20] RO (spec/09_dram.md). -/
def DRAM.ECC_INFO_RANK : Fld := ⟨0x0A4, 20, 2, .ro, false, .val 0, 0x000, 0x0⟩
/-- DRAM.ECC_INFO.SUBCH [8:8] RO (spec/09_dram.md). -/
def DRAM.ECC_INFO_SUBCH : Fld := ⟨0x0A4, 8, 1, .ro, false, .val 0, 0x000, 0x0⟩
/-- DRAM.ECC_ADDR_LO.OFFSET [31:0] RO (spec/09_dram.md). -/
def DRAM.ECC_ADDR_LO_OFFSET : Fld := ⟨0x0A8, 0, 32, .ro, false, .val 0, 0x000, 0x0⟩
/-- DRAM.ECC_ADDR_HI.OFFSET [1:0] RO (spec/09_dram.md). -/
def DRAM.ECC_ADDR_HI_OFFSET : Fld := ⟨0x0AC, 0, 2, .ro, false, .val 0, 0x000, 0x0⟩
/-- DRAM.TRN_RESULT.VALID [31:31] RO (spec/09_dram.md). -/
def DRAM.TRN_RESULT_VALID : Fld := ⟨0x0B0, 31, 1, .ro, false, .val 0, 0x000, 0x0⟩
/-- DRAM.TRN_RESULT.TRAINED [7:4] RO (spec/09_dram.md). -/
def DRAM.TRN_RESULT_TRAINED : Fld := ⟨0x0B0, 4, 4, .ro, false, .val 0, 0x000, 0x0⟩
/-- DRAM.TRN_RESULT.PASSED [3:0] RO (spec/09_dram.md). -/
def DRAM.TRN_RESULT_PASSED : Fld := ⟨0x0B0, 0, 4, .ro, false, .val 0, 0x000, 0x0⟩
/-- DRAM.CE_COUNT.COUNT [31:0] CNT (spec/09_dram.md). -/
def DRAM.CE_COUNT : Fld := ⟨0x0C0, 0, 32, .cnt, false, .val 0, 0x000, 0x0⟩
/-- DRAM.UE_COUNT.COUNT [31:0] CNT (spec/09_dram.md). -/
def DRAM.UE_COUNT : Fld := ⟨0x0C4, 0, 32, .cnt, false, .val 0, 0x000, 0x0⟩
/-- DRAM.WCRC_RETRY.COUNT [31:0] CNT (spec/09_dram.md). -/
def DRAM.WCRC_RETRY : Fld := ⟨0x0C8, 0, 32, .cnt, false, .val 0, 0x000, 0x0⟩
/-- DRAM.REF_PREEMPT.COUNT [31:0] CNT (spec/09_dram.md). -/
def DRAM.REF_PREEMPT : Fld := ⟨0x0CC, 0, 32, .cnt, false, .val 0, 0x000, 0x0⟩
/-- DRAM.TEMP_CROSS.COUNT [31:0] CNT (spec/09_dram.md). -/
def DRAM.TEMP_CROSS : Fld := ⟨0x0D0, 0, 32, .cnt, false, .val 0, 0x000, 0x0⟩
/-- DRAM.RH_MITIG.COUNT [31:0] CNT (spec/09_dram.md). -/
def DRAM.RH_MITIG : Fld := ⟨0x0D4, 0, 32, .cnt, false, .val 0, 0x000, 0x0⟩
/-- DRAM.RH_THROTTLES.COUNT [31:0] CNT (spec/09_dram.md). -/
def DRAM.RH_THROTTLES : Fld := ⟨0x0D8, 0, 32, .cnt, false, .val 0, 0x000, 0x0⟩
/-- DRAM.MOV_LATE.COUNT [31:0] CNT (spec/09_dram.md). -/
def DRAM.MOV_LATE : Fld := ⟨0x0DC, 0, 32, .cnt, false, .val 0, 0x000, 0x0⟩
/-- DRAM.MOV_SHADOWED.COUNT [31:0] CNT (spec/09_dram.md). -/
def DRAM.MOV_SHADOWED : Fld := ⟨0x0E0, 0, 32, .cnt, false, .val 0, 0x000, 0x0⟩
/-- DRAM.DISABLED_HITS.COUNT [31:0] CNT (spec/09_dram.md). -/
def DRAM.DISABLED_HITS : Fld := ⟨0x0E4, 0, 32, .cnt, false, .val 0, 0x000, 0x0⟩
/-- LANE.CFG.RESTART [31:31] W1S (spec/10_lanes.md). -/
def LANE.CFG_RESTART : Fld := ⟨0x040, 31, 1, .w1s, false, .val 0, 0x000, 0x0⟩
/-- LANE.CFG.RX_INV [17:17] RW (spec/10_lanes.md). -/
def LANE.CFG_RX_INV : Fld := ⟨0x040, 17, 1, .rw, false, .val 0, 0x000, 0x0⟩
/-- LANE.CFG.TX_INV [16:16] RW (spec/10_lanes.md). -/
def LANE.CFG_TX_INV : Fld := ⟨0x040, 16, 1, .rw, false, .val 0, 0x000, 0x0⟩
/-- LANE.CFG.LOS_CLEAR [15:8] RW (spec/10_lanes.md). -/
def LANE.CFG_LOS_CLEAR : Fld := ⟨0x040, 8, 8, .rw, false, .val 10, 0x000, 0x0⟩
/-- LANE.CFG.AUTO_RESTART [4:4] RW (spec/10_lanes.md). -/
def LANE.CFG_AUTO_RESTART : Fld := ⟨0x040, 4, 1, .rw, false, .val 1, 0x000, 0x0⟩
/-- LANE.CFG.MODE [3:3] RW (spec/10_lanes.md). -/
def LANE.CFG_MODE : Fld := ⟨0x040, 3, 1, .rw, false, .val 1, 0x000, 0x0⟩
/-- LANE.CFG.RATE_MAX [1:0] RW (spec/10_lanes.md). -/
def LANE.CFG_RATE_MAX : Fld := ⟨0x040, 0, 2, .rw, false, .val 2, 0x000, 0x0⟩
/-- LANE.STAT.PPM [31:16] RO (spec/10_lanes.md). -/
def LANE.STAT_PPM : Fld := ⟨0x044, 16, 16, .ro, false, .val 0, 0x000, 0x0⟩
/-- LANE.STAT.LOS [10:10] RO (spec/10_lanes.md). -/
def LANE.STAT_LOS : Fld := ⟨0x044, 10, 1, .ro, false, .val 0, 0x000, 0x0⟩
/-- LANE.STAT.SIG_DET [9:9] RO (spec/10_lanes.md). -/
def LANE.STAT_SIG_DET : Fld := ⟨0x044, 9, 1, .ro, false, .val 0, 0x000, 0x0⟩
/-- LANE.STAT.RX_LOCKED [8:8] RO (spec/10_lanes.md). -/
def LANE.STAT_RX_LOCKED : Fld := ⟨0x044, 8, 1, .ro, false, .val 0, 0x000, 0x0⟩
/-- LANE.STAT.RATE [5:4] RO (spec/10_lanes.md). -/
def LANE.STAT_RATE : Fld := ⟨0x044, 4, 2, .ro, false, .val 0, 0x000, 0x0⟩
/-- LANE.STAT.STATE [3:0] RO (spec/10_lanes.md). -/
def LANE.STAT_STATE : Fld := ⟨0x044, 0, 4, .ro, false, .val 0, 0x000, 0x0⟩
/-- LANE.NEG_OUI.OUI [23:0] RW (spec/10_lanes.md). -/
def LANE.NEG_OUI_OUI : Fld := ⟨0x048, 0, 24, .rw, false, .val 0, 0x000, 0x0⟩
/-- LANE.LB.TX_ECHO [2:2] RW (spec/10_lanes.md). -/
def LANE.LB_TX_ECHO : Fld := ⟨0x04C, 2, 1, .rw, false, .val 0, 0x000, 0x0⟩
/-- LANE.LB.MODE [1:0] RW (spec/10_lanes.md). -/
def LANE.LB_MODE : Fld := ⟨0x04C, 0, 2, .rw, false, .val 0, 0x000, 0x0⟩
/-- LANE.SLEEP.WAKE_ON_SIG [2:2] RW (spec/10_lanes.md). -/
def LANE.SLEEP_WAKE_ON_SIG : Fld := ⟨0x050, 2, 1, .rw, false, .val 0, 0x000, 0x0⟩
/-- LANE.SLEEP.RX [1:1] RW (spec/10_lanes.md). -/
def LANE.SLEEP_RX : Fld := ⟨0x050, 1, 1, .rw, false, .val 1, 0x000, 0x0⟩
/-- LANE.SLEEP.TX [0:0] RW (spec/10_lanes.md). -/
def LANE.SLEEP_TX : Fld := ⟨0x050, 0, 1, .rw, false, .val 1, 0x000, 0x0⟩
/-- LANE.PRBS_CTRL.CLR [31:31] W1S (spec/10_lanes.md). -/
def LANE.PRBS_CTRL_CLR : Fld := ⟨0x054, 31, 1, .w1s, false, .val 0, 0x000, 0x0⟩
/-- LANE.PRBS_CTRL.CHK_INV [12:12] RW (spec/10_lanes.md). -/
def LANE.PRBS_CTRL_CHK_INV : Fld := ⟨0x054, 12, 1, .rw, false, .val 0, 0x000, 0x0⟩
/-- LANE.PRBS_CTRL.CHK_POLY [11:9] RW (spec/10_lanes.md). -/
def LANE.PRBS_CTRL_CHK_POLY : Fld := ⟨0x054, 9, 3, .rw, false, .val 0, 0x000, 0x0⟩
/-- LANE.PRBS_CTRL.CHK_EN [8:8] RW (spec/10_lanes.md). -/
def LANE.PRBS_CTRL_CHK_EN : Fld := ⟨0x054, 8, 1, .rw, false, .val 0, 0x000, 0x0⟩
/-- LANE.PRBS_CTRL.GEN_INV [4:4] RW (spec/10_lanes.md). -/
def LANE.PRBS_CTRL_GEN_INV : Fld := ⟨0x054, 4, 1, .rw, false, .val 0, 0x000, 0x0⟩
/-- LANE.PRBS_CTRL.GEN_POLY [3:1] RW (spec/10_lanes.md). -/
def LANE.PRBS_CTRL_GEN_POLY : Fld := ⟨0x054, 1, 3, .rw, false, .val 0, 0x000, 0x0⟩
/-- LANE.PRBS_CTRL.GEN_EN [0:0] RW (spec/10_lanes.md). -/
def LANE.PRBS_CTRL_GEN_EN : Fld := ⟨0x054, 0, 1, .rw, false, .val 0, 0x000, 0x0⟩
/-- LANE.PRBS_STAT.CHK_LOCK [31:31] RO (spec/10_lanes.md). -/
def LANE.PRBS_STAT_CHK_LOCK : Fld := ⟨0x058, 31, 1, .ro, false, .val 0, 0x000, 0x0⟩
/-- LANE.PRBS_STAT.SYNC_LOSS [15:0] RO (spec/10_lanes.md). -/
def LANE.PRBS_STAT_SYNC_LOSS : Fld := ⟨0x058, 0, 16, .ro, false, .val 0, 0x000, 0x0⟩
/-- LANE.PRBS_ERR.ERRORS [31:0] RO (spec/10_lanes.md). -/
def LANE.PRBS_ERR_ERRORS : Fld := ⟨0x05C, 0, 32, .ro, false, .val 0, 0x000, 0x0⟩
/-- LANE.PRBS_BITS_LO.BITS [31:0] RO (spec/10_lanes.md). -/
def LANE.PRBS_BITS_LO_BITS : Fld := ⟨0x060, 0, 32, .ro, false, .val 0, 0x000, 0x0⟩
/-- LANE.PRBS_BITS_HI.BITS [15:0] RO (spec/10_lanes.md). -/
def LANE.PRBS_BITS_HI_BITS : Fld := ⟨0x064, 0, 16, .ro, false, .val 0, 0x000, 0x0⟩
/-- LANE.TX_EQ.POST [21:16] RW (spec/10_lanes.md). -/
def LANE.TX_EQ_POST : Fld := ⟨0x068, 16, 6, .rw, false, .val 11, 0x000, 0x0⟩
/-- LANE.TX_EQ.MAIN [13:8] RW (spec/10_lanes.md). -/
def LANE.TX_EQ_MAIN : Fld := ⟨0x068, 8, 6, .rw, false, .val 48, 0x000, 0x0⟩
/-- LANE.TX_EQ.PRE [3:0] RW (spec/10_lanes.md). -/
def LANE.TX_EQ_PRE : Fld := ⟨0x068, 0, 4, .rw, false, .val 4, 0x000, 0x0⟩
/-- LANE.LOS_COUNT.COUNT [31:0] CNT (spec/10_lanes.md). -/
def LANE.LOS_COUNT : Fld := ⟨0x070, 0, 32, .cnt, false, .val 0, 0x000, 0x0⟩
/-- LANE.RESTARTS.COUNT [31:0] CNT (spec/10_lanes.md). -/
def LANE.RESTARTS : Fld := ⟨0x074, 0, 32, .cnt, false, .val 0, 0x000, 0x0⟩
/-- LANE.STEP_DOWNS.COUNT [31:0] CNT (spec/10_lanes.md). -/
def LANE.STEP_DOWNS : Fld := ⟨0x078, 0, 32, .cnt, false, .val 0, 0x000, 0x0⟩
/-- MAC.CFG.MAX_FRAME [29:16] RW (spec/11_mac.md). -/
def MAC.CFG_MAX_FRAME : Fld := ⟨0x040, 16, 14, .rw, false, .val 9216, 0x000, 0x0⟩
/-- MAC.CFG.TS_SRC [15:15] RW (spec/11_mac.md). -/
def MAC.CFG_TS_SRC : Fld := ⟨0x040, 15, 1, .rw, false, .val 0, 0x000, 0x0⟩
/-- MAC.CFG.TS_CORR [14:14] RW (spec/11_mac.md). -/
def MAC.CFG_TS_CORR : Fld := ⟨0x040, 14, 1, .rw, false, .val 1, 0x000, 0x0⟩
/-- MAC.CFG.PAUSE_RX [13:12] RW (spec/11_mac.md). -/
def MAC.CFG_PAUSE_RX : Fld := ⟨0x040, 12, 2, .rw, false, .val 0, 0x000, 0x0⟩
/-- MAC.CFG.PAUSE_TX [11:11] RW (spec/11_mac.md). -/
def MAC.CFG_PAUSE_TX : Fld := ⟨0x040, 11, 1, .rw, false, .val 0, 0x000, 0x0⟩
/-- MAC.CFG.PROMISC [10:10] RW (spec/11_mac.md). -/
def MAC.CFG_PROMISC : Fld := ⟨0x040, 10, 1, .rw, false, .val 0, 0x000, 0x0⟩
/-- MAC.CFG.VLAN_STRIP [9:9] RW (spec/11_mac.md). -/
def MAC.CFG_VLAN_STRIP : Fld := ⟨0x040, 9, 1, .rw, false, .val 0, 0x000, 0x0⟩
/-- MAC.CFG.FEC_EN [8:8] RW (spec/11_mac.md). -/
def MAC.CFG_FEC_EN : Fld := ⟨0x040, 8, 1, .rw, false, .val 0, 0x000, 0x0⟩
/-- MAC.ADDR_LO.ADDR [31:0] RWL (spec/11_mac.md). -/
def MAC.ADDR_LO_ADDR : Fld := ⟨0x044, 0, 32, .rwl, false, .val 0, 0x000, 0x0⟩
/-- MAC.ADDR_HI.ADDR [15:0] RWL (spec/11_mac.md). -/
def MAC.ADDR_HI_ADDR : Fld := ⟨0x048, 0, 16, .rwl, false, .val 0, 0x000, 0x0⟩
/-- MAC.PREEMPT_CTRL.VERIFY [10:8] RO (spec/11_mac.md). -/
def MAC.PREEMPT_CTRL_VERIFY : Fld := ⟨0x04C, 8, 3, .ro, false, .val 0, 0x000, 0x0⟩
/-- MAC.PREEMPT_CTRL.VERIFY_MS [7:2] RW (spec/11_mac.md). -/
def MAC.PREEMPT_CTRL_VERIFY_MS : Fld := ⟨0x04C, 2, 6, .rw, false, .val 10, 0x000, 0x0⟩
/-- MAC.PREEMPT_CTRL.VERIFY_DIS [1:1] RW (spec/11_mac.md). -/
def MAC.PREEMPT_CTRL_VERIFY_DIS : Fld := ⟨0x04C, 1, 1, .rw, false, .val 0, 0x000, 0x0⟩
/-- MAC.PREEMPT_CTRL.EN [0:0] RW (spec/11_mac.md). -/
def MAC.PREEMPT_CTRL_EN : Fld := ⟨0x04C, 0, 1, .rw, false, .val 0, 0x000, 0x0⟩
/-- MAC.PAUSE_CFG.QUANTA [31:16] RW (spec/11_mac.md). -/
def MAC.PAUSE_CFG_QUANTA : Fld := ⟨0x050, 16, 16, .rw, false, .val 65535, 0x000, 0x0⟩
/-- MAC.PAUSE_CFG.HIGH_PCT [15:8] RW (spec/11_mac.md). -/
def MAC.PAUSE_CFG_HIGH_PCT : Fld := ⟨0x050, 8, 8, .rw, false, .val 75, 0x000, 0x0⟩
/-- MAC.PAUSE_CFG.LOW_PCT [7:0] RW (spec/11_mac.md). -/
def MAC.PAUSE_CFG_LOW_PCT : Fld := ⟨0x050, 0, 8, .rw, false, .val 25, 0x000, 0x0⟩
/-- MAC.STAT.FEC_ACTIVE [5:5] RO (spec/11_mac.md). -/
def MAC.STAT_FEC_ACTIVE : Fld := ⟨0x054, 5, 1, .ro, false, .val 0, 0x000, 0x0⟩
/-- MAC.STAT.PAUSED_RX [4:4] RO (spec/11_mac.md). -/
def MAC.STAT_PAUSED_RX : Fld := ⟨0x054, 4, 1, .ro, false, .val 0, 0x000, 0x0⟩
/-- MAC.STAT.PAUSING [3:3] RO (spec/11_mac.md). -/
def MAC.STAT_PAUSING : Fld := ⟨0x054, 3, 1, .ro, false, .val 0, 0x000, 0x0⟩
/-- MAC.STAT.SPEED [2:1] RO (spec/11_mac.md). -/
def MAC.STAT_SPEED : Fld := ⟨0x054, 1, 2, .ro, false, .val 0, 0x000, 0x0⟩
/-- MAC.STAT.LINK [0:0] RO (spec/11_mac.md). -/
def MAC.STAT_LINK : Fld := ⟨0x054, 0, 1, .ro, false, .val 0, 0x000, 0x0⟩
/-- MAC.RXR_SEL.RING [1:0] RW (spec/11_mac.md). -/
def MAC.RXR_SEL_RING : Fld := ⟨0x060, 0, 2, .rw, false, .val 0, 0x000, 0x0⟩
/-- MAC.RXR_BASE.BASE [25:0] RW (spec/11_mac.md). -/
def MAC.RXR_BASE_BASE : Fld := ⟨0x064, 0, 26, .rw, false, .val 0, 0x060, 0x3⟩
/-- MAC.RXR_DATA.DATA [25:0] RW (spec/11_mac.md). -/
def MAC.RXR_DATA_DATA : Fld := ⟨0x068, 0, 26, .rw, false, .val 0, 0x060, 0x3⟩
/-- MAC.RXR_CFG.PAUSE_EN [31:31] RW (spec/11_mac.md). -/
def MAC.RXR_CFG_PAUSE_EN : Fld := ⟨0x06C, 31, 1, .rw, false, .val 0, 0x060, 0x3⟩
/-- MAC.RXR_CFG.SLOT_KIB [18:16] RW (spec/11_mac.md). -/
def MAC.RXR_CFG_SLOT_KIB : Fld := ⟨0x06C, 16, 3, .rw, false, .val 1, 0x060, 0x3⟩
/-- MAC.RXR_CFG.COUNT [12:0] RW (spec/11_mac.md). -/
def MAC.RXR_CFG_COUNT : Fld := ⟨0x06C, 0, 13, .rw, false, .val 0, 0x060, 0x3⟩
/-- MAC.RXR_PROD.PROD [11:0] RO (spec/11_mac.md). -/
def MAC.RXR_PROD_PROD : Fld := ⟨0x070, 0, 12, .ro, false, .val 0, 0x060, 0x3⟩
/-- MAC.RXR_CONS.CONS [11:0] RW (spec/11_mac.md). -/
def MAC.RXR_CONS_CONS : Fld := ⟨0x074, 0, 12, .rw, false, .val 0, 0x060, 0x3⟩
/-- MAC.TXQ_SEL.QUEUE [2:0] RW (spec/11_mac.md). -/
def MAC.TXQ_SEL_QUEUE : Fld := ⟨0x080, 0, 3, .rw, false, .val 0, 0x000, 0x0⟩
/-- MAC.TXQ_BASE.BASE [25:0] RW (spec/11_mac.md). -/
def MAC.TXQ_BASE_BASE : Fld := ⟨0x084, 0, 26, .rw, false, .val 0, 0x080, 0x7⟩
/-- MAC.TXQ_CFG.COUNT [12:0] RW (spec/11_mac.md). -/
def MAC.TXQ_CFG_COUNT : Fld := ⟨0x088, 0, 13, .rw, false, .val 0, 0x080, 0x7⟩
/-- MAC.TXQ_PROD.PROD [11:0] RW (spec/11_mac.md). -/
def MAC.TXQ_PROD_PROD : Fld := ⟨0x08C, 0, 12, .rw, false, .val 0, 0x080, 0x7⟩
/-- MAC.TXQ_CONS.CONS [11:0] RO (spec/11_mac.md). -/
def MAC.TXQ_CONS_CONS : Fld := ⟨0x090, 0, 12, .ro, false, .val 0, 0x080, 0x7⟩
/-- MAC.TXQ_STAT.BAD_PROD [1:1] W1C (spec/11_mac.md). -/
def MAC.TXQ_STAT_BAD_PROD : Fld := ⟨0x094, 1, 1, .w1c, false, .val 0, 0x080, 0x7⟩
/-- MAC.TXQ_STAT.HALTED [0:0] W1C (spec/11_mac.md). -/
def MAC.TXQ_STAT_HALTED : Fld := ⟨0x094, 0, 1, .w1c, false, .val 0, 0x080, 0x7⟩
/-- MAC.POL_RATE.RATE [14:0] RWL (spec/11_mac.md). -/
def MAC.POL_RATE_RATE : Fld := ⟨0x098, 0, 15, .rwl, false, .val 0, 0x080, 0x7⟩
/-- MAC.POL_BURST.BURST [10:0] RWL (spec/11_mac.md). -/
def MAC.POL_BURST_BURST : Fld := ⟨0x09C, 0, 11, .rwl, false, .val 16, 0x080, 0x7⟩
/-- MAC.TSQ_STAT.COUNT [6:0] RO (spec/11_mac.md). -/
def MAC.TSQ_STAT_COUNT : Fld := ⟨0x0A0, 0, 7, .ro, false, .val 0, 0x000, 0x0⟩
/-- MAC.TSQ_POP.VALID [31:31] RO (spec/11_mac.md). -/
def MAC.TSQ_POP_VALID : Fld := ⟨0x0A4, 31, 1, .ro, false, .val 0, 0x000, 0x0⟩
/-- MAC.TSQ_POP.TAG [21:16] RO (spec/11_mac.md). -/
def MAC.TSQ_POP_TAG : Fld := ⟨0x0A4, 16, 6, .ro, false, .val 0, 0x000, 0x0⟩
/-- MAC.TSQ_POP.QUEUE [2:0] RO (spec/11_mac.md). -/
def MAC.TSQ_POP_QUEUE : Fld := ⟨0x0A4, 0, 3, .ro, false, .val 0, 0x000, 0x0⟩
/-- MAC.TSQ_STAMP.STAMP [31:0] RO (spec/11_mac.md). -/
def MAC.TSQ_STAMP_STAMP : Fld := ⟨0x0A8, 0, 32, .ro, false, .val 0, 0x000, 0x0⟩
/-- MAC.TS_ADJ.RX [31:16] RW (spec/11_mac.md). -/
def MAC.TS_ADJ_RX : Fld := ⟨0x0AC, 16, 16, .rw, false, .val 0, 0x000, 0x0⟩
/-- MAC.TS_ADJ.TX [15:0] RW (spec/11_mac.md). -/
def MAC.TS_ADJ_TX : Fld := ⟨0x0AC, 0, 16, .rw, false, .val 0, 0x000, 0x0⟩
/-- MAC.TX_FRAMES.COUNT [31:0] CNT (spec/11_mac.md). -/
def MAC.TX_FRAMES : Fld := ⟨0x0C0, 0, 32, .cnt, false, .val 0, 0x000, 0x0⟩
/-- MAC.RX_FRAMES.COUNT [31:0] CNT (spec/11_mac.md). -/
def MAC.RX_FRAMES : Fld := ⟨0x0C4, 0, 32, .cnt, false, .val 0, 0x000, 0x0⟩
/-- MAC.RX_FCS_ERR.COUNT [31:0] CNT (spec/11_mac.md). -/
def MAC.RX_FCS_ERR : Fld := ⟨0x0C8, 0, 32, .cnt, false, .val 0, 0x000, 0x0⟩
/-- MAC.RX_LEN_ERR.COUNT [31:0] CNT (spec/11_mac.md). -/
def MAC.RX_LEN_ERR : Fld := ⟨0x0CC, 0, 32, .cnt, false, .val 0, 0x000, 0x0⟩
/-- MAC.RX_DROP_FLOW.COUNT [31:0] CNT (spec/11_mac.md). -/
def MAC.RX_DROP_FLOW : Fld := ⟨0x0D0, 0, 32, .cnt, false, .val 0, 0x000, 0x0⟩
/-- MAC.RX_DROP_FW.COUNT [31:0] CNT (spec/11_mac.md). -/
def MAC.RX_DROP_FW : Fld := ⟨0x0D4, 0, 32, .cnt, false, .val 0, 0x000, 0x0⟩
/-- MAC.RX_DROP_HOST.COUNT [31:0] CNT (spec/11_mac.md). -/
def MAC.RX_DROP_HOST : Fld := ⟨0x0D8, 0, 32, .cnt, false, .val 0, 0x000, 0x0⟩
/-- MAC.RX_SHADOWED.COUNT [31:0] CNT (spec/11_mac.md). -/
def MAC.RX_SHADOWED : Fld := ⟨0x0DC, 0, 32, .cnt, false, .val 0, 0x000, 0x0⟩
/-- MAC.RX_FILTERED.COUNT [31:0] CNT (spec/11_mac.md). -/
def MAC.RX_FILTERED : Fld := ⟨0x0E0, 0, 32, .cnt, false, .val 0, 0x000, 0x0⟩
/-- MAC.TX_POLICED.COUNT [31:0] CNT (spec/11_mac.md). -/
def MAC.TX_POLICED : Fld := ⟨0x0E4, 0, 32, .cnt, false, .val 0, 0x000, 0x0⟩
/-- MAC.TX_POISON.COUNT [31:0] CNT (spec/11_mac.md). -/
def MAC.TX_POISON : Fld := ⟨0x0E8, 0, 32, .cnt, false, .val 0, 0x000, 0x0⟩
/-- MAC.TX_LINK_DROP.COUNT [31:0] CNT (spec/11_mac.md). -/
def MAC.TX_LINK_DROP : Fld := ⟨0x0EC, 0, 32, .cnt, false, .val 0, 0x000, 0x0⟩
/-- MAC.TS_LOST.COUNT [31:0] CNT (spec/11_mac.md). -/
def MAC.TS_LOST : Fld := ⟨0x0F0, 0, 32, .cnt, false, .val 0, 0x000, 0x0⟩
/-- MAC.PAUSE_SENT.COUNT [31:0] CNT (spec/11_mac.md). -/
def MAC.PAUSE_SENT : Fld := ⟨0x0F4, 0, 32, .cnt, false, .val 0, 0x000, 0x0⟩
/-- MAC.PAUSE_RCVD.COUNT [31:0] CNT (spec/11_mac.md). -/
def MAC.PAUSE_RCVD : Fld := ⟨0x0F8, 0, 32, .cnt, false, .val 0, 0x000, 0x0⟩
/-- MAC.FRAG_TX.COUNT [31:0] CNT (spec/11_mac.md). -/
def MAC.FRAG_TX : Fld := ⟨0x0FC, 0, 32, .cnt, false, .val 0, 0x000, 0x0⟩
/-- MAC.FRAG_RX.COUNT [31:0] CNT (spec/11_mac.md). -/
def MAC.FRAG_RX : Fld := ⟨0x100, 0, 32, .cnt, false, .val 0, 0x000, 0x0⟩
/-- MAC.MERGE_ERR.COUNT [31:0] CNT (spec/11_mac.md). -/
def MAC.MERGE_ERR : Fld := ⟨0x104, 0, 32, .cnt, false, .val 0, 0x000, 0x0⟩
/-- MAC.RX_DISABLED.COUNT [31:0] CNT (spec/11_mac.md). -/
def MAC.RX_DISABLED : Fld := ⟨0x108, 0, 32, .cnt, false, .val 0, 0x000, 0x0⟩
/-- TIME.C_INC_NS.NS [3:0] RW, RWS for TIME0 (spec/12_network_time.md). -/
def TIME.C_INC_NS_NS (n : Nat) : Fld := ⟨0x050 + 64 * n, 0, 4, .rw, (n == 0), .val 1, 0x000, 0x0⟩
/-- TIME.C_INC_FRAC.FRAC [31:0] RW, RWS for TIME0 (spec/12_network_time.md). -/
def TIME.C_INC_FRAC_FRAC (n : Nat) : Fld := ⟨0x054 + 64 * n, 0, 32, .rw, (n == 0), .val 2576980378, 0x000, 0x0⟩
/-- TIME.C_SET_SEC_LO.SEC [31:0] RW (spec/12_network_time.md). -/
def TIME.C_SET_SEC_LO_SEC (n : Nat) : Fld := ⟨0x058 + 64 * n, 0, 32, .rw, false, .val 0, 0x000, 0x0⟩
/-- TIME.C_SET_SEC_HI.SEC [15:0] RW (spec/12_network_time.md). -/
def TIME.C_SET_SEC_HI_SEC (n : Nat) : Fld := ⟨0x05C + 64 * n, 0, 16, .rw, false, .val 0, 0x000, 0x0⟩
/-- TIME.C_SET_NS.GO [31:31] W1S (spec/12_network_time.md). -/
def TIME.C_SET_NS_GO (n : Nat) : Fld := ⟨0x060 + 64 * n, 31, 1, .w1s, false, .val 0, 0x000, 0x0⟩
/-- TIME.C_SET_NS.NS [29:0] RW (spec/12_network_time.md). -/
def TIME.C_SET_NS_NS (n : Nat) : Fld := ⟨0x060 + 64 * n, 0, 30, .rw, false, .val 0, 0x000, 0x0⟩
/-- TIME.C_STEP.NS [31:0] WO (spec/12_network_time.md). -/
def TIME.C_STEP_NS (n : Nat) : Fld := ⟨0x064 + 64 * n, 0, 32, .wo, false, .val 0, 0x000, 0x0⟩
/-- TIME.C_SLEW_CFG.RATE [8:0] RW (spec/12_network_time.md). -/
def TIME.C_SLEW_CFG_RATE (n : Nat) : Fld := ⟨0x06C + 64 * n, 0, 9, .rw, false, .val 100, 0x000, 0x0⟩
/-- TIME.C_STAT.EPOCH [31:16] RO (spec/12_network_time.md). -/
def TIME.C_STAT_EPOCH (n : Nat) : Fld := ⟨0x070 + 64 * n, 16, 16, .ro, false, .val 0, 0x000, 0x0⟩
/-- TIME.C_STAT.SLEWING [1:1] RO (spec/12_network_time.md). -/
def TIME.C_STAT_SLEWING (n : Nat) : Fld := ⟨0x070 + 64 * n, 1, 1, .ro, false, .val 0, 0x000, 0x0⟩
/-- TIME.C_STAT.RUNNING [0:0] RO (spec/12_network_time.md). -/
def TIME.C_STAT_RUNNING (n : Nat) : Fld := ⟨0x070 + 64 * n, 0, 1, .ro, false, .val (if n = 0 then 1 else 0), 0x000, 0x0⟩
/-- TIME.CAPTURE.DONE [1:1] RO (spec/12_network_time.md). -/
def TIME.CAPTURE_DONE : Fld := ⟨0x0C0, 1, 1, .ro, false, .val 0, 0x000, 0x0⟩
/-- TIME.CAPTURE.GO [0:0] W1S (spec/12_network_time.md). -/
def TIME.CAPTURE_GO : Fld := ⟨0x0C0, 0, 1, .w1s, false, .val 0, 0x000, 0x0⟩
/-- TIME.CAP_NS.NS [29:0] RO (spec/12_network_time.md). -/
def TIME.CAP_NS_NS (n : Nat) : Fld := ⟨0x0C4 + 12 * n, 0, 30, .ro, false, .val 0, 0x000, 0x0⟩
/-- TIME.CAP_SEC_LO.SEC [31:0] RO (spec/12_network_time.md). -/
def TIME.CAP_SEC_LO_SEC (n : Nat) : Fld := ⟨0x0C8 + 12 * n, 0, 32, .ro, false, .val 0, 0x000, 0x0⟩
/-- TIME.CAP_SEC_HI.SEC [15:0] RO (spec/12_network_time.md). -/
def TIME.CAP_SEC_HI_SEC (n : Nat) : Fld := ⟨0x0CC + 12 * n, 0, 16, .ro, false, .val 0, 0x000, 0x0⟩
/-- TIME.PTP_CFG.PROFILE_WORD [31:0] RO, RWS (spec/12_network_time.md). -/
def TIME.PTP_CFG_PROFILE_WORD (n : Nat) : Fld := ⟨0x0E0 + 16 * n, 0, 32, .ro, true, .val 0, 0x000, 0x0⟩
/-- TIME.PTP_PORT.PORTS [19:16] RO, RWS (spec/12_network_time.md). -/
def TIME.PTP_PORT_PORTS (n : Nat) : Fld := ⟨0x0E4 + 16 * n, 16, 4, .ro, true, .val 0, 0x000, 0x0⟩
/-- TIME.PTP_PORT.DOMAIN [7:0] RO, RWS (spec/12_network_time.md). -/
def TIME.PTP_PORT_DOMAIN (n : Nat) : Fld := ⟨0x0E4 + 16 * n, 0, 8, .ro, true, .val 0, 0x000, 0x0⟩
/-- TIME.PTP_STAT.UTC_OFFSET [31:16] RO (spec/12_network_time.md). -/
def TIME.PTP_STAT_UTC_OFFSET (n : Nat) : Fld := ⟨0x0E8 + 16 * n, 16, 16, .ro, false, .val 0, 0x000, 0x0⟩
/-- TIME.PTP_STAT.CLASS [15:8] RO (spec/12_network_time.md). -/
def TIME.PTP_STAT_CLASS (n : Nat) : Fld := ⟨0x0E8 + 16 * n, 8, 8, .ro, false, .val 255, 0x000, 0x0⟩
/-- TIME.PTP_STAT.STATE [3:0] RO (spec/12_network_time.md). -/
def TIME.PTP_STAT_STATE (n : Nat) : Fld := ⟨0x0E8 + 16 * n, 0, 4, .ro, false, .val 0, 0x000, 0x0⟩
/-- TIME.PTP_OFFSET.NS [31:0] RO (spec/12_network_time.md). -/
def TIME.PTP_OFFSET_NS (n : Nat) : Fld := ⟨0x0EC + 16 * n, 0, 32, .ro, false, .val 0, 0x000, 0x0⟩
/-- TIME.MON_DIFF.NS [31:0] RO (spec/12_network_time.md). -/
def TIME.MON_DIFF_NS : Fld := ⟨0x100, 0, 32, .ro, false, .val 0, 0x000, 0x0⟩
/-- REIN.XO_CFG.XO_TYPE [31:31] RWS (spec/13_rein.md). -/
def REIN.XO_CFG_XO_TYPE : Fld := ⟨0x040, 31, 1, .rw, true, .val 0, 0x000, 0x0⟩
/-- REIN.XO_CFG.HOLD_SPEC_S [23:0] RWS (spec/13_rein.md). -/
def REIN.XO_CFG_HOLD_SPEC_S : Fld := ⟨0x040, 0, 24, .rw, true, .val 0, 0x000, 0x0⟩
/-- REIN.SEL_CTRL.WTR_S [31:16] RWL (spec/13_rein.md). -/
def REIN.SEL_CTRL_WTR_S : Fld := ⟨0x044, 16, 16, .rwl, false, .val 300, 0x000, 0x0⟩
/-- REIN.SEL_CTRL.REVERT [9:9] RWL (spec/13_rein.md). -/
def REIN.SEL_CTRL_REVERT : Fld := ⟨0x044, 9, 1, .rwl, false, .val 1, 0x000, 0x0⟩
/-- REIN.SEL_CTRL.FALLBACK [8:8] RWL (spec/13_rein.md). -/
def REIN.SEL_CTRL_FALLBACK : Fld := ⟨0x044, 8, 1, .rwl, false, .val 0, 0x000, 0x0⟩
/-- REIN.SEL_CTRL.MAN_REF [6:4] RWL (spec/13_rein.md). -/
def REIN.SEL_CTRL_MAN_REF : Fld := ⟨0x044, 4, 3, .rwl, false, .val 0, 0x000, 0x0⟩
/-- REIN.SEL_CTRL.MODE [1:0] RWL (spec/13_rein.md). -/
def REIN.SEL_CTRL_MODE : Fld := ⟨0x044, 0, 2, .rwl, false, .val 0, 0x000, 0x0⟩
/-- REIN.DPLL0_CFG.ALIGN_PPM [23:16] RW (spec/13_rein.md). -/
def REIN.DPLL0_CFG_ALIGN_PPM : Fld := ⟨0x048, 16, 8, .rw, false, .val 20, 0x000, 0x0⟩
/-- REIN.DPLL0_CFG.SLEW [15:8] RW (spec/13_rein.md). -/
def REIN.DPLL0_CFG_SLEW : Fld := ⟨0x048, 8, 8, .rw, false, .val 5, 0x000, 0x0⟩
/-- REIN.DPLL0_CFG.BW [3:0] RW (spec/13_rein.md). -/
def REIN.DPLL0_CFG_BW : Fld := ⟨0x048, 0, 4, .rw, false, .val 3, 0x000, 0x0⟩
/-- REIN.SEL_STAT.START_PICK [11:11] RO (spec/13_rein.md). -/
def REIN.SEL_STAT_START_PICK : Fld := ⟨0x04C, 11, 1, .ro, false, .val 0, 0x000, 0x0⟩
/-- REIN.SEL_STAT.HOLD_VALID [10:10] RO (spec/13_rein.md). -/
def REIN.SEL_STAT_HOLD_VALID : Fld := ⟨0x04C, 10, 1, .ro, false, .val 0, 0x000, 0x0⟩
/-- REIN.SEL_STAT.EPOCH_ALIGNED [9:9] RO (spec/13_rein.md). -/
def REIN.SEL_STAT_EPOCH_ALIGNED : Fld := ⟨0x04C, 9, 1, .ro, false, .val 0, 0x000, 0x0⟩
/-- REIN.SEL_STAT.SWITCHING [8:8] RO (spec/13_rein.md). -/
def REIN.SEL_STAT_SWITCHING : Fld := ⟨0x04C, 8, 1, .ro, false, .val 0, 0x000, 0x0⟩
/-- REIN.SEL_STAT.SEL_VALID [7:7] RO (spec/13_rein.md). -/
def REIN.SEL_STAT_SEL_VALID : Fld := ⟨0x04C, 7, 1, .ro, false, .val 0, 0x000, 0x0⟩
/-- REIN.SEL_STAT.SELECTED [6:4] RO (spec/13_rein.md). -/
def REIN.SEL_STAT_SELECTED : Fld := ⟨0x04C, 4, 3, .ro, false, .val 0, 0x000, 0x0⟩
/-- REIN.SEL_STAT.STATE [2:0] RO (spec/13_rein.md). -/
def REIN.SEL_STAT_STATE : Fld := ⟨0x04C, 0, 3, .ro, false, .val 0, 0x000, 0x0⟩
/-- REIN.HOLD_TIMER.SECONDS [31:0] RO (spec/13_rein.md). -/
def REIN.HOLD_TIMER_SECONDS : Fld := ⟨0x050, 0, 32, .ro, false, .val 0, 0x000, 0x0⟩
/-- REIN.FREQ_OFS.PPB [31:0] RO (spec/13_rein.md). -/
def REIN.FREQ_OFS_PPB : Fld := ⟨0x054, 0, 32, .ro, false, .val 0, 0x000, 0x0⟩
/-- REIN.CHECK_CFG.XO_WIDE [31:24] RWL (spec/13_rein.md). -/
def REIN.CHECK_CFG_XO_WIDE : Fld := ⟨0x058, 24, 8, .rwl, false, .val 100, 0x000, 0x0⟩
/-- REIN.CHECK_CFG.HARD [23:16] RWL (spec/13_rein.md). -/
def REIN.CHECK_CFG_HARD : Fld := ⟨0x058, 16, 8, .rwl, false, .val 80, 0x000, 0x0⟩
/-- REIN.CHECK_CFG.SOFT [15:8] RWL (spec/13_rein.md). -/
def REIN.CHECK_CFG_SOFT : Fld := ⟨0x058, 8, 8, .rwl, false, .val 20, 0x000, 0x0⟩
/-- REIN.CHECK_CFG.AGREE [7:0] RWL (spec/13_rein.md). -/
def REIN.CHECK_CFG_AGREE : Fld := ⟨0x058, 0, 8, .rwl, false, .val 10, 0x000, 0x0⟩
/-- REIN.CHECK_TIME.QUAL_S [15:8] RWL (spec/13_rein.md). -/
def REIN.CHECK_TIME_QUAL_S : Fld := ⟨0x05C, 8, 8, .rwl, false, .val 10, 0x000, 0x0⟩
/-- REIN.CHECK_TIME.DRIFT_S [7:0] RWL (spec/13_rein.md). -/
def REIN.CHECK_TIME_DRIFT_S : Fld := ⟨0x05C, 0, 8, .rwl, false, .val 60, 0x000, 0x0⟩
/-- REIN.REF_SEL.SLOT [2:0] RW (spec/13_rein.md). -/
def REIN.REF_SEL_SLOT : Fld := ⟨0x060, 0, 3, .rw, false, .val 0, 0x000, 0x0⟩
/-- REIN.REF_CFG.TYPE_WORD [31:0] RO (spec/13_rein.md). -/
def REIN.REF_CFG_TYPE_WORD : Fld := ⟨0x064, 0, 32, .ro, false, .val 0, 0x060, 0x7⟩
/-- REIN.REF_QL.RANK [31:28] RO (spec/13_rein.md). -/
def REIN.REF_QL_RANK : Fld := ⟨0x068, 28, 4, .ro, false, .val 0, 0x060, 0x7⟩
/-- REIN.REF_QL.HOST_QL [19:16] RO (spec/13_rein.md). -/
def REIN.REF_QL_HOST_QL : Fld := ⟨0x068, 16, 4, .ro, false, .val 0, 0x060, 0x7⟩
/-- REIN.REF_QL.RAW [15:8] RO (spec/13_rein.md). -/
def REIN.REF_QL_RAW : Fld := ⟨0x068, 8, 8, .ro, false, .val 0, 0x060, 0x7⟩
/-- REIN.REF_QL.QL [3:0] RO (spec/13_rein.md). -/
def REIN.REF_QL_QL : Fld := ⟨0x068, 0, 4, .ro, false, .val 15, 0x060, 0x7⟩
/-- REIN.REF_STAT.STATE [31:28] RO (spec/13_rein.md). -/
def REIN.REF_STAT_STATE : Fld := ⟨0x06C, 28, 4, .ro, false, .val 0, 0x060, 0x7⟩
/-- REIN.REF_STAT.CAUSE [27:24] RO (spec/13_rein.md). -/
def REIN.REF_STAT_CAUSE : Fld := ⟨0x06C, 24, 4, .ro, false, .val 0, 0x060, 0x7⟩
/-- REIN.REF_STAT.WTR [23:23] RO (spec/13_rein.md). -/
def REIN.REF_STAT_WTR : Fld := ⟨0x06C, 23, 1, .ro, false, .val 0, 0x060, 0x7⟩
/-- REIN.REF_STAT.QUAL_LEFT [7:0] RO (spec/13_rein.md). -/
def REIN.REF_STAT_QUAL_LEFT : Fld := ⟨0x06C, 0, 8, .ro, false, .val 0, 0x060, 0x7⟩
/-- REIN.REF_FREQ.PPB [31:0] RO (spec/13_rein.md). -/
def REIN.REF_FREQ_PPB : Fld := ⟨0x070, 0, 32, .ro, false, .val 0, 0x060, 0x7⟩
/-- REIN.REF_MED.PPB [31:0] RO (spec/13_rein.md). -/
def REIN.REF_MED_PPB : Fld := ⟨0x074, 0, 32, .ro, false, .val 0, 0x060, 0x7⟩
/-- REIN.MCLK_CFG.EN [31:31] RW (spec/13_rein.md). -/
def REIN.MCLK_CFG_EN (n : Nat) : Fld := ⟨0x080 + 4 * n, 31, 1, .rw, false, .val 0, 0x000, 0x0⟩
/-- REIN.MCLK_CFG.DOMAIN [5:4] RW (spec/13_rein.md). -/
def REIN.MCLK_CFG_DOMAIN (n : Nat) : Fld := ⟨0x080 + 4 * n, 4, 2, .rw, false, .val 0, 0x000, 0x0⟩
/-- REIN.MCLK_CFG.MULT [1:0] RW (spec/13_rein.md). -/
def REIN.MCLK_CFG_MULT (n : Nat) : Fld := ⟨0x080 + 4 * n, 0, 2, .rw, false, .val 1, 0x000, 0x0⟩
/-- REIN.FP_CTRL.STEP_LIM [23:8] RW (spec/13_rein.md). -/
def REIN.FP_CTRL_STEP_LIM : Fld := ⟨0x090, 8, 16, .rw, false, .val 1000, 0x000, 0x0⟩
/-- REIN.FP_CTRL.ALIGN_NOW [7:4] W1S (spec/13_rein.md). -/
def REIN.FP_CTRL_ALIGN_NOW : Fld := ⟨0x090, 4, 4, .w1s, false, .val 0, 0x000, 0x0⟩
/-- REIN.FP_CTRL.MODE [1:0] RW (spec/13_rein.md). -/
def REIN.FP_CTRL_MODE : Fld := ⟨0x090, 0, 2, .rw, false, .val 1, 0x000, 0x0⟩
/-- REIN.FP_CFG.EN [31:31] RW (spec/13_rein.md). -/
def REIN.FP_CFG_EN (n : Nat) : Fld := ⟨0x0A0 + 16 * n, 31, 1, .rw, false, .val 0, 0x000, 0x0⟩
/-- REIN.FP_CFG.DIV1001 [30:30] RW (spec/13_rein.md). -/
def REIN.FP_CFG_DIV1001 (n : Nat) : Fld := ⟨0x0A0 + 16 * n, 30, 1, .rw, false, .val 0, 0x000, 0x0⟩
/-- REIN.FP_CFG.SRC [18:16] RW (spec/13_rein.md). -/
def REIN.FP_CFG_SRC (n : Nat) : Fld := ⟨0x0A0 + 16 * n, 16, 3, .rw, false, .val 0, 0x000, 0x0⟩
/-- REIN.FP_CFG.RATE_HZ [9:0] RW (spec/13_rein.md). -/
def REIN.FP_CFG_RATE_HZ (n : Nat) : Fld := ⟨0x0A0 + 16 * n, 0, 10, .rw, false, .val 1, 0x000, 0x0⟩
/-- REIN.FP_OFS.NS [31:0] RW (spec/13_rein.md). -/
def REIN.FP_OFS_NS (n : Nat) : Fld := ⟨0x0A4 + 16 * n, 0, 32, .rw, false, .val 0, 0x000, 0x0⟩
/-- REIN.FP_STAT.ALIGNED [31:31] RO (spec/13_rein.md). -/
def REIN.FP_STAT_ALIGNED (n : Nat) : Fld := ⟨0x0A8 + 16 * n, 31, 1, .ro, false, .val 0, 0x000, 0x0⟩
/-- REIN.FP_STAT.SRC_OK [30:30] RO (spec/13_rein.md). -/
def REIN.FP_STAT_SRC_OK (n : Nat) : Fld := ⟨0x0A8 + 16 * n, 30, 1, .ro, false, .val 0, 0x000, 0x0⟩
/-- REIN.FP_ERR.NS [31:0] RO (spec/13_rein.md). -/
def REIN.FP_ERR_NS (n : Nat) : Fld := ⟨0x0AC + 16 * n, 0, 32, .ro, false, .val 0, 0x000, 0x0⟩
/-- REIN.DPLL1_CFG.SOURCE [31:30] RW (spec/13_rein.md). -/
def REIN.DPLL1_CFG_SOURCE : Fld := ⟨0x0E0, 30, 2, .rw, false, .val 0, 0x000, 0x0⟩
/-- REIN.DPLL1_CFG.REF [6:4] RW (spec/13_rein.md). -/
def REIN.DPLL1_CFG_REF : Fld := ⟨0x0E0, 4, 3, .rw, false, .val 0, 0x000, 0x0⟩
/-- REIN.DPLL1_CFG.BW [3:0] RW (spec/13_rein.md). -/
def REIN.DPLL1_CFG_BW : Fld := ⟨0x0E0, 0, 4, .rw, false, .val 3, 0x000, 0x0⟩
/-- REIN.DPLL1_STAT.STATE [2:0] RO (spec/13_rein.md). -/
def REIN.DPLL1_STAT_STATE : Fld := ⟨0x0E4, 0, 3, .ro, false, .val 0, 0x000, 0x0⟩
/-- REIN.DPLL2_STAT.PORT [7:4] RO (spec/13_rein.md). -/
def REIN.DPLL2_STAT_PORT : Fld := ⟨0x0E8, 4, 4, .ro, false, .val 0, 0x000, 0x0⟩
/-- REIN.DPLL2_STAT.STATE [2:0] RO (spec/13_rein.md). -/
def REIN.DPLL2_STAT_STATE : Fld := ⟨0x0E8, 0, 3, .ro, false, .val 0, 0x000, 0x0⟩
/-- REIN.SWITCHES.COUNT [31:0] CNT (spec/13_rein.md). -/
def REIN.SWITCHES : Fld := ⟨0x0F0, 0, 32, .cnt, false, .val 0, 0x000, 0x0⟩
/-- REIN.DISQUALS.COUNT [31:0] CNT (spec/13_rein.md). -/
def REIN.DISQUALS : Fld := ⟨0x0F4, 0, 32, .cnt, false, .val 0, 0x000, 0x0⟩
/-- REIN.GLITCHES.COUNT [31:0] CNT (spec/13_rein.md). -/
def REIN.GLITCHES : Fld := ⟨0x0F8, 0, 32, .cnt, false, .val 0, 0x000, 0x0⟩
/-- REIN.HOLD_ENTRIES.COUNT [31:0] CNT (spec/13_rein.md). -/
def REIN.HOLD_ENTRIES : Fld := ⟨0x0FC, 0, 32, .cnt, false, .val 0, 0x000, 0x0⟩
/-- REIN.FP_STEPS.COUNT [31:0] CNT (spec/13_rein.md). -/
def REIN.FP_STEPS : Fld := ⟨0x100, 0, 32, .cnt, false, .val 0, 0x000, 0x0⟩
/-- FLOW.CTX_SEL.CTX [5:0] RW (spec/14_audio_flows.md). -/
def FLOW.CTX_SEL_CTX : Fld := ⟨0x040, 0, 6, .rw, false, .val 0, 0x000, 0x0⟩
/-- FLOW.CTX_CFG.VALID [31:31] RO (spec/14_audio_flows.md). -/
def FLOW.CTX_CFG_VALID : Fld := ⟨0x044, 31, 1, .ro, false, .val 0, 0x040, 0x3f⟩
/-- FLOW.CTX_CFG.DIR [30:30] RO (spec/14_audio_flows.md). -/
def FLOW.CTX_CFG_DIR : Fld := ⟨0x044, 30, 1, .ro, false, .val 0, 0x040, 0x3f⟩
/-- FLOW.CTX_CFG.DOMAIN [29:28] RO (spec/14_audio_flows.md). -/
def FLOW.CTX_CFG_DOMAIN : Fld := ⟨0x044, 28, 2, .ro, false, .val 0, 0x040, 0x3f⟩
/-- FLOW.CTX_CFG.ENC [27:26] RO (spec/14_audio_flows.md). -/
def FLOW.CTX_CFG_ENC : Fld := ⟨0x044, 26, 2, .ro, false, .val 0, 0x040, 0x3f⟩
/-- FLOW.CTX_CFG.PATH_B [25:25] RO (spec/14_audio_flows.md). -/
def FLOW.CTX_CFG_PATH_B : Fld := ⟨0x044, 25, 1, .ro, false, .val 0, 0x040, 0x3f⟩
/-- FLOW.CTX_CFG.PAIRED [24:24] RO (spec/14_audio_flows.md). -/
def FLOW.CTX_CFG_PAIRED : Fld := ⟨0x044, 24, 1, .ro, false, .val 0, 0x040, 0x3f⟩
/-- FLOW.CTX_CFG.CHANNELS [22:16] RO (spec/14_audio_flows.md). -/
def FLOW.CTX_CFG_CHANNELS : Fld := ⟨0x044, 16, 7, .ro, false, .val 0, 0x040, 0x3f⟩
/-- FLOW.CTX_CFG.GROUP_EN [15:15] RO (spec/14_audio_flows.md). -/
def FLOW.CTX_CFG_GROUP_EN : Fld := ⟨0x044, 15, 1, .ro, false, .val 0, 0x040, 0x3f⟩
/-- FLOW.CTX_CFG.GROUP [13:8] RO (spec/14_audio_flows.md). -/
def FLOW.CTX_CFG_GROUP : Fld := ⟨0x044, 8, 6, .ro, false, .val 0, 0x040, 0x3f⟩
/-- FLOW.CTX_CFG.PORT [7:4] RO (spec/14_audio_flows.md). -/
def FLOW.CTX_CFG_PORT : Fld := ⟨0x044, 4, 4, .ro, false, .val 0, 0x040, 0x3f⟩
/-- FLOW.CTX_CFG.PTIME [2:0] RO (spec/14_audio_flows.md). -/
def FLOW.CTX_CFG_PTIME : Fld := ⟨0x044, 0, 3, .ro, false, .val 0, 0x040, 0x3f⟩
/-- FLOW.CTX_PATCH.PATCH_BASE [13:0] RO (spec/14_audio_flows.md). -/
def FLOW.CTX_PATCH_PATCH_BASE : Fld := ⟨0x048, 0, 14, .ro, false, .val 0, 0x040, 0x3f⟩
/-- FLOW.CTX_DELAY.DELAY [15:0] RW (spec/14_audio_flows.md). -/
def FLOW.CTX_DELAY_DELAY : Fld := ⟨0x04C, 0, 16, .rw, false, .val 0, 0x040, 0x3f⟩
/-- FLOW.CTX_STAT.STATE [31:28] RO (spec/14_audio_flows.md). -/
def FLOW.CTX_STAT_STATE : Fld := ⟨0x050, 28, 4, .ro, false, .val 0, 0x040, 0x3f⟩
/-- FLOW.CTX_STAT.UNDERRUN [8:8] RO (spec/14_audio_flows.md). -/
def FLOW.CTX_STAT_UNDERRUN : Fld := ⟨0x050, 8, 1, .ro, false, .val 0, 0x040, 0x3f⟩
/-- FLOW.CTX_STAT.PATH_LOST [4:4] RO (spec/14_audio_flows.md). -/
def FLOW.CTX_STAT_PATH_LOST : Fld := ⟨0x050, 4, 1, .ro, false, .val 0, 0x040, 0x3f⟩
/-- FLOW.CTX_STAT.PROTECTED [3:3] RO (spec/14_audio_flows.md). -/
def FLOW.CTX_STAT_PROTECTED : Fld := ⟨0x050, 3, 1, .ro, false, .val 0, 0x040, 0x3f⟩
/-- FLOW.CTX_STAT.LINK_DOWN [0:0] RO (spec/14_audio_flows.md). -/
def FLOW.CTX_STAT_LINK_DOWN : Fld := ⟨0x050, 0, 1, .ro, false, .val 0, 0x040, 0x3f⟩
/-- FLOW.CTX_SSRC.SSRC [31:0] RO (spec/14_audio_flows.md). -/
def FLOW.CTX_SSRC_SSRC : Fld := ⟨0x054, 0, 32, .ro, false, .val 0, 0x040, 0x3f⟩
/-- FLOW.CTX_LAST_SEQ.SEQ [15:0] RO (spec/14_audio_flows.md). -/
def FLOW.CTX_LAST_SEQ_SEQ : Fld := ⟨0x058, 0, 16, .ro, false, .val 0, 0x040, 0x3f⟩
/-- FLOW.CTX_LAST_TS.TS [31:0] RO (spec/14_audio_flows.md). -/
def FLOW.CTX_LAST_TS_TS : Fld := ⟨0x05C, 0, 32, .ro, false, .val 0, 0x040, 0x3f⟩
/-- FLOW.CTX_MARGIN.NS [31:0] RO (spec/14_audio_flows.md). -/
def FLOW.CTX_MARGIN_NS : Fld := ⟨0x060, 0, 32, .ro, false, .val 0, 0x040, 0x3f⟩
/-- FLOW.CTX_SKEW.NS [31:0] RO (spec/14_audio_flows.md). -/
def FLOW.CTX_SKEW_NS : Fld := ⟨0x064, 0, 32, .ro, false, .val 0, 0x040, 0x3f⟩
/-- FLOW.PKTS.COUNT [31:0] CNT (spec/14_audio_flows.md). -/
def FLOW.PKTS : Fld := ⟨0x080, 0, 32, .cnt, false, .val 0, 0x040, 0x3f⟩
/-- FLOW.DUP.COUNT [31:0] CNT (spec/14_audio_flows.md). -/
def FLOW.DUP : Fld := ⟨0x084, 0, 32, .cnt, false, .val 0, 0x040, 0x3f⟩
/-- FLOW.LATE_PKTS.COUNT [31:0] CNT (spec/14_audio_flows.md). -/
def FLOW.LATE_PKTS : Fld := ⟨0x088, 0, 32, .cnt, false, .val 0, 0x040, 0x3f⟩
/-- FLOW.EARLY.COUNT [31:0] CNT (spec/14_audio_flows.md). -/
def FLOW.EARLY : Fld := ⟨0x08C, 0, 32, .cnt, false, .val 0, 0x040, 0x3f⟩
/-- FLOW.POLICED.COUNT [31:0] CNT (spec/14_audio_flows.md). -/
def FLOW.POLICED : Fld := ⟨0x090, 0, 32, .cnt, false, .val 0, 0x040, 0x3f⟩
/-- FLOW.CONCEALED.COUNT [31:0] CNT (spec/14_audio_flows.md). -/
def FLOW.CONCEALED : Fld := ⟨0x094, 0, 32, .cnt, false, .val 0, 0x040, 0x3f⟩
/-- FLOW.SEQ_GAPS.COUNT [31:0] CNT (spec/14_audio_flows.md). -/
def FLOW.SEQ_GAPS : Fld := ⟨0x098, 0, 32, .cnt, false, .val 0, 0x040, 0x3f⟩
/-- FLOW.FMT_ERR.COUNT [31:0] CNT (spec/14_audio_flows.md). -/
def FLOW.FMT_ERR : Fld := ⟨0x09C, 0, 32, .cnt, false, .val 0, 0x040, 0x3f⟩
/-- FLOW.SHADOWED.COUNT [31:0] CNT (spec/14_audio_flows.md). -/
def FLOW.SHADOWED : Fld := ⟨0x0A0, 0, 32, .cnt, false, .val 0, 0x040, 0x3f⟩
/-- FLOW.POISON_TXDROP.COUNT [31:0] CNT (spec/14_audio_flows.md). -/
def FLOW.POISON_TXDROP : Fld := ⟨0x0A4, 0, 32, .cnt, false, .val 0, 0x040, 0x3f⟩
/-- FLOW.GRP_SEL.GROUP [5:0] RW (spec/14_audio_flows.md). -/
def FLOW.GRP_SEL_GROUP : Fld := ⟨0x0C0, 0, 6, .rw, false, .val 0, 0x000, 0x0⟩
/-- FLOW.GRP_CFG.IN_USE [31:31] RO (spec/14_audio_flows.md). -/
def FLOW.GRP_CFG_IN_USE : Fld := ⟨0x0C4, 31, 1, .ro, false, .val 0, 0x0C0, 0x3f⟩
/-- FLOW.GRP_CFG.DOMAIN [29:28] RO (spec/14_audio_flows.md). -/
def FLOW.GRP_CFG_DOMAIN : Fld := ⟨0x0C4, 28, 2, .ro, false, .val 0, 0x0C0, 0x3f⟩
/-- FLOW.GRP_CFG.MEMBERS [22:16] RO (spec/14_audio_flows.md). -/
def FLOW.GRP_CFG_MEMBERS : Fld := ⟨0x0C4, 16, 7, .ro, false, .val 0, 0x0C0, 0x3f⟩
/-- FLOW.GRP_CFG.DELAY [15:0] RW (spec/14_audio_flows.md). -/
def FLOW.GRP_CFG_DELAY : Fld := ⟨0x0C4, 0, 16, .rw, false, .val 0, 0x0C0, 0x3f⟩
/-- FLOW.GRP_STAT.CONCEALING [7:0] RO (spec/14_audio_flows.md). -/
def FLOW.GRP_STAT_CONCEALING : Fld := ⟨0x0C8, 0, 8, .ro, false, .val 0, 0x0C0, 0x3f⟩
/-- FLOW.PATH_CFG.LOSS_MS [7:0] RW (spec/14_audio_flows.md). -/
def FLOW.PATH_CFG_LOSS_MS : Fld := ⟨0x0CC, 0, 8, .rw, false, .val 10, 0x000, 0x0⟩
/-- FLOW.DOM_SEL.DOMAIN [1:0] RW (spec/14_audio_flows.md). -/
def FLOW.DOM_SEL_DOMAIN : Fld := ⟨0x0D0, 0, 2, .rw, false, .val 0, 0x000, 0x0⟩
/-- FLOW.MEDIA_LO.N [31:0] RO (spec/14_audio_flows.md). -/
def FLOW.MEDIA_LO_N : Fld := ⟨0x0D4, 0, 32, .ro, false, .val 0, 0x0D0, 0x3⟩
/-- FLOW.MEDIA_HI.N [31:0] RO (spec/14_audio_flows.md). -/
def FLOW.MEDIA_HI_N : Fld := ⟨0x0D8, 0, 32, .ro, false, .val 0, 0x0D0, 0x3⟩
/-- FLOW.REBASES.COUNT [31:0] CNT (spec/14_audio_flows.md). -/
def FLOW.REBASES : Fld := ⟨0x0DC, 0, 32, .cnt, false, .val 0, 0x000, 0x0⟩
/-- SAP.CFG.LEAD [31:31] RO (spec/15_serial_audio_ports.md). -/
def SAP.CFG_LEAD : Fld := ⟨0x040, 31, 1, .ro, false, .val 0, 0x000, 0x0⟩
/-- SAP.CFG.DOMAIN [30:29] RO (spec/15_serial_audio_ports.md). -/
def SAP.CFG_DOMAIN : Fld := ⟨0x040, 29, 2, .ro, false, .val 0, 0x000, 0x0⟩
/-- SAP.CFG.D2_SRC [28:28] RO (spec/15_serial_audio_ports.md). -/
def SAP.CFG_D2_SRC : Fld := ⟨0x040, 28, 1, .ro, false, .val 0, 0x000, 0x0⟩
/-- SAP.CFG.FMT [27:26] RO (spec/15_serial_audio_ports.md). -/
def SAP.CFG_FMT : Fld := ⟨0x040, 26, 2, .ro, false, .val 0, 0x000, 0x0⟩
/-- SAP.CFG.SLOTW [25:24] RO (spec/15_serial_audio_ports.md). -/
def SAP.CFG_SLOTW : Fld := ⟨0x040, 24, 2, .ro, false, .val 1, 0x000, 0x0⟩
/-- SAP.CFG.SLOTS [21:16] RO (spec/15_serial_audio_ports.md). -/
def SAP.CFG_SLOTS : Fld := ⟨0x040, 16, 6, .ro, false, .val 2, 0x000, 0x0⟩
/-- SAP.CFG.FSYNC [14:12] RO (spec/15_serial_audio_ports.md). -/
def SAP.CFG_FSYNC : Fld := ⟨0x040, 12, 3, .ro, false, .val 0, 0x000, 0x0⟩
/-- SAP.CFG.DELAY [11:11] RO (spec/15_serial_audio_ports.md). -/
def SAP.CFG_DELAY : Fld := ⟨0x040, 11, 1, .ro, false, .val 1, 0x000, 0x0⟩
/-- SAP.CFG.BCLK_INV [10:10] RO (spec/15_serial_audio_ports.md). -/
def SAP.CFG_BCLK_INV : Fld := ⟨0x040, 10, 1, .ro, false, .val 0, 0x000, 0x0⟩
/-- SAP.CFG.WS_INV [9:9] RO (spec/15_serial_audio_ports.md). -/
def SAP.CFG_WS_INV : Fld := ⟨0x040, 9, 1, .ro, false, .val 0, 0x000, 0x0⟩
/-- SAP.CFG.TRI [8:8] RO (spec/15_serial_audio_ports.md). -/
def SAP.CFG_TRI : Fld := ⟨0x040, 8, 1, .ro, false, .val 0, 0x000, 0x0⟩
/-- SAP.MASK_IN.SLOTS [31:0] RO (spec/15_serial_audio_ports.md). -/
def SAP.MASK_IN_SLOTS : Fld := ⟨0x044, 0, 32, .ro, false, .val 0, 0x000, 0x0⟩
/-- SAP.MASK_OUT.SLOTS [31:0] RO (spec/15_serial_audio_ports.md). -/
def SAP.MASK_OUT_SLOTS : Fld := ⟨0x048, 0, 32, .ro, false, .val 0, 0x000, 0x0⟩
/-- SAP.PATCH.OUT_BASE [29:16] RO (spec/15_serial_audio_ports.md). -/
def SAP.PATCH_OUT_BASE : Fld := ⟨0x04C, 16, 14, .ro, false, .val 16383, 0x000, 0x0⟩
/-- SAP.PATCH.IN_BASE [13:0] RO (spec/15_serial_audio_ports.md). -/
def SAP.PATCH_IN_BASE : Fld := ⟨0x04C, 0, 14, .ro, false, .val 16383, 0x000, 0x0⟩
/-- SAP.STAT.STATE [31:28] RO (spec/15_serial_audio_ports.md). -/
def SAP.STAT_STATE : Fld := ⟨0x050, 28, 4, .ro, false, .val 0, 0x000, 0x0⟩
/-- SAP.STAT.RATE_ERR [9:9] RO (spec/15_serial_audio_ports.md). -/
def SAP.STAT_RATE_ERR : Fld := ⟨0x050, 9, 1, .ro, false, .val 0, 0x000, 0x0⟩
/-- SAP.STAT.CLK_LOSS [8:8] RO (spec/15_serial_audio_ports.md). -/
def SAP.STAT_CLK_LOSS : Fld := ⟨0x050, 8, 1, .ro, false, .val 0, 0x000, 0x0⟩
/-- SAP.STAT.FILL [3:0] RO (spec/15_serial_audio_ports.md). -/
def SAP.STAT_FILL : Fld := ⟨0x050, 0, 4, .ro, false, .val 0, 0x000, 0x0⟩
/-- SAP.MEAS.PPM [31:0] RO (spec/15_serial_audio_ports.md). -/
def SAP.MEAS_PPM : Fld := ⟨0x054, 0, 32, .ro, false, .val 0, 0x000, 0x0⟩
/-- SAP.FCLK_CFG.EN [3:3] RO (spec/15_serial_audio_ports.md). -/
def SAP.FCLK_CFG_EN (n : Nat) : Fld := ⟨0x058, 3 + 8 * n, 1, .ro, false, .val 0, 0x000, 0x0⟩
/-- SAP.FCLK_CFG.DIR [2:2] RO (spec/15_serial_audio_ports.md). -/
def SAP.FCLK_CFG_DIR (n : Nat) : Fld := ⟨0x058, 2 + 8 * n, 1, .ro, false, .val 0, 0x000, 0x0⟩
/-- SAP.FCLK_CFG.DOMAIN [1:0] RO (spec/15_serial_audio_ports.md). -/
def SAP.FCLK_CFG_DOMAIN (n : Nat) : Fld := ⟨0x058, 0 + 8 * n, 2, .ro, false, .val 0, 0x000, 0x0⟩
/-- SAP.SLIPS.COUNT [31:0] CNT (spec/15_serial_audio_ports.md). -/
def SAP.SLIPS : Fld := ⟨0x060, 0, 32, .cnt, false, .val 0, 0x000, 0x0⟩
/-- SAP.UNDERRUNS.COUNT [31:0] CNT (spec/15_serial_audio_ports.md). -/
def SAP.UNDERRUNS : Fld := ⟨0x064, 0, 32, .cnt, false, .val 0, 0x000, 0x0⟩
/-- SAP.OVERRUNS.COUNT [31:0] CNT (spec/15_serial_audio_ports.md). -/
def SAP.OVERRUNS : Fld := ⟨0x068, 0, 32, .cnt, false, .val 0, 0x000, 0x0⟩
/-- SAP.WS_ERRS.COUNT [31:0] CNT (spec/15_serial_audio_ports.md). -/
def SAP.WS_ERRS : Fld := ⟨0x06C, 0, 32, .cnt, false, .val 0, 0x000, 0x0⟩
/-- SAP.CLK_LOSSES.COUNT [31:0] CNT (spec/15_serial_audio_ports.md). -/
def SAP.CLK_LOSSES : Fld := ⟨0x070, 0, 32, .cnt, false, .val 0, 0x000, 0x0⟩
/-- STIRRUP.CFG.DOMAIN [31:30] RO (spec/16_stirrup.md). -/
def STIRRUP.CFG_DOMAIN : Fld := ⟨0x040, 30, 2, .ro, false, .val 3, 0x000, 0x0⟩
/-- STIRRUP.CFG.BRIDGE [29:29] RO (spec/16_stirrup.md). -/
def STIRRUP.CFG_BRIDGE : Fld := ⟨0x040, 29, 1, .ro, false, .val 0, 0x000, 0x0⟩
/-- STIRRUP.CFG.LOOKAHEAD [28:28] RO (spec/16_stirrup.md). -/
def STIRRUP.CFG_LOOKAHEAD : Fld := ⟨0x040, 28, 1, .ro, false, .val 0, 0x000, 0x0⟩
/-- STIRRUP.CFG.IN_PATCH [13:0] RO (spec/16_stirrup.md). -/
def STIRRUP.CFG_IN_PATCH : Fld := ⟨0x040, 0, 14, .ro, false, .val 16383, 0x000, 0x0⟩
/-- STIRRUP.CTRL.LATCH_CLR [31:31] W1S (spec/16_stirrup.md). -/
def STIRRUP.CTRL_LATCH_CLR : Fld := ⟨0x044, 31, 1, .w1s, false, .val 0, 0x000, 0x0⟩
/-- STIRRUP.CTRL.BASELINE_CAP [30:30] W1S (spec/16_stirrup.md). -/
def STIRRUP.CTRL_BASELINE_CAP : Fld := ⟨0x044, 30, 1, .w1s, false, .val 0, 0x000, 0x0⟩
/-- STIRRUP.CTRL.AVOID_APPLY [29:29] W1S (spec/16_stirrup.md). -/
def STIRRUP.CTRL_AVOID_APPLY : Fld := ⟨0x044, 29, 1, .w1s, false, .val 0, 0x000, 0x0⟩
/-- STIRRUP.CTRL.AVOID_NOW [28:28] RW (spec/16_stirrup.md). -/
def STIRRUP.CTRL_AVOID_NOW : Fld := ⟨0x044, 28, 1, .rw, false, .val 0, 0x000, 0x0⟩
/-- STIRRUP.CTRL.SUPPLY_GRP [19:16] RWL (spec/16_stirrup.md). -/
def STIRRUP.CTRL_SUPPLY_GRP : Fld := ⟨0x044, 16, 4, .rwl, false, .val 0, 0x000, 0x0⟩
/-- STIRRUP.CTRL.PD_EN [15:15] RW (spec/16_stirrup.md). -/
def STIRRUP.CTRL_PD_EN : Fld := ⟨0x044, 15, 1, .rw, false, .val 1, 0x000, 0x0⟩
/-- STIRRUP.CTRL.SIL_SLOT [12:0] RW (spec/16_stirrup.md). -/
def STIRRUP.CTRL_SIL_SLOT : Fld := ⟨0x044, 0, 13, .rw, false, .val 0, 0x000, 0x0⟩
/-- STIRRUP.COMP.WINDOW [31:31] RWL (spec/16_stirrup.md). -/
def STIRRUP.COMP_WINDOW : Fld := ⟨0x048, 31, 1, .rwl, false, .val 0, 0x000, 0x0⟩
/-- STIRRUP.COMP.INT_FU [27:20] RWL (spec/16_stirrup.md). -/
def STIRRUP.COMP_INT_FU : Fld := ⟨0x048, 20, 8, .rwl, false, .val 48, 0x000, 0x0⟩
/-- STIRRUP.COMP.K_IN [19:16] RWL (spec/16_stirrup.md). -/
def STIRRUP.COMP_K_IN : Fld := ⟨0x048, 16, 4, .rwl, false, .val 8, 0x000, 0x0⟩
/-- STIRRUP.COMP.OZ_KHZ [15:8] RWL (spec/16_stirrup.md). -/
def STIRRUP.COMP_OZ_KHZ : Fld := ⟨0x048, 8, 8, .rwl, false, .val 30, 0x000, 0x0⟩
/-- STIRRUP.COMP.K_OUT [7:3] RWL (spec/16_stirrup.md). -/
def STIRRUP.COMP_K_OUT : Fld := ⟨0x048, 3, 5, .rwl, false, .val 24, 0x000, 0x0⟩
/-- STIRRUP.COMP.DEADTIME [2:0] RWL (spec/16_stirrup.md). -/
def STIRRUP.COMP_DEADTIME : Fld := ⟨0x048, 0, 3, .rwl, false, .val 5, 0x000, 0x0⟩
/-- STIRRUP.CARRIER.FC_TARGET [27:16] RO (spec/16_stirrup.md). -/
def STIRRUP.CARRIER_FC_TARGET : Fld := ⟨0x04C, 16, 12, .ro, false, .val 0, 0x000, 0x0⟩
/-- STIRRUP.CARRIER.FC_REQ [11:0] RWL (spec/16_stirrup.md). -/
def STIRRUP.CARRIER_FC_REQ : Fld := ⟨0x04C, 0, 12, .rwl, false, .val 400, 0x000, 0x0⟩
/-- STIRRUP.PROT.OC_LIMIT [31:24] RWL (spec/16_stirrup.md). -/
def STIRRUP.PROT_OC_LIMIT : Fld := ⟨0x050, 24, 8, .rwl, false, .val 192, 0x000, 0x0⟩
/-- STIRRUP.PROT.DC_LIMIT [23:16] RWL (spec/16_stirrup.md). -/
def STIRRUP.PROT_DC_LIMIT : Fld := ⟨0x050, 16, 8, .rwl, false, .val 13, 0x000, 0x0⟩
/-- STIRRUP.PROT.PD_HOLD [15:8] RWL (spec/16_stirrup.md). -/
def STIRRUP.PROT_PD_HOLD : Fld := ⟨0x050, 8, 8, .rwl, false, .val 30, 0x000, 0x0⟩
/-- STIRRUP.STAT.STATE [31:28] RO (spec/16_stirrup.md). -/
def STIRRUP.STAT_STATE : Fld := ⟨0x054, 28, 4, .ro, false, .val 0, 0x000, 0x0⟩
/-- STIRRUP.STAT.LATCH_CAUSE [27:26] RO (spec/16_stirrup.md). -/
def STIRRUP.STAT_LATCH_CAUSE : Fld := ⟨0x054, 26, 2, .ro, false, .val 0, 0x000, 0x0⟩
/-- STIRRUP.STAT.TRIPS_10S [25:23] RO (spec/16_stirrup.md). -/
def STIRRUP.STAT_TRIPS_10S : Fld := ⟨0x054, 23, 3, .ro, false, .val 0, 0x000, 0x0⟩
/-- STIRRUP.STAT.DRV_FLT [22:22] RO (spec/16_stirrup.md). -/
def STIRRUP.STAT_DRV_FLT : Fld := ⟨0x054, 22, 1, .ro, false, .val 0, 0x000, 0x0⟩
/-- STIRRUP.STAT.LIMITING [21:21] RO (spec/16_stirrup.md). -/
def STIRRUP.STAT_LIMITING : Fld := ⟨0x054, 21, 1, .ro, false, .val 0, 0x000, 0x0⟩
/-- STIRRUP.STAT.AVOID_PEND [20:20] RO (spec/16_stirrup.md). -/
def STIRRUP.STAT_AVOID_PEND : Fld := ⟨0x054, 20, 1, .ro, false, .val 0, 0x000, 0x0⟩
/-- STIRRUP.STAT.FC_MEAS [15:0] RO (spec/16_stirrup.md). -/
def STIRRUP.STAT_FC_MEAS : Fld := ⟨0x054, 0, 16, .ro, false, .val 0, 0x000, 0x0⟩
/-- STIRRUP.MEAS.GR [31:24] RO (spec/16_stirrup.md). -/
def STIRRUP.MEAS_GR : Fld := ⟨0x058, 24, 8, .ro, false, .val 0, 0x000, 0x0⟩
/-- STIRRUP.MEAS.HYST_RATIO [23:16] RO (spec/16_stirrup.md). -/
def STIRRUP.MEAS_HYST_RATIO : Fld := ⟨0x058, 16, 8, .ro, false, .val 0, 0x000, 0x0⟩
/-- STIRRUP.MEAS.I_PEAK [15:0] RO (spec/16_stirrup.md). -/
def STIRRUP.MEAS_I_PEAK : Fld := ⟨0x058, 0, 16, .ro, false, .val 0, 0x000, 0x0⟩
/-- STIRRUP.AVOID_IDX.AUTOINC [7:7] RW (spec/16_stirrup.md). -/
def STIRRUP.AVOID_IDX_AUTOINC : Fld := ⟨0x05C, 7, 1, .rw, false, .val 0, 0x000, 0x0⟩
/-- STIRRUP.AVOID_IDX.IDX [4:0] RW (spec/16_stirrup.md). -/
def STIRRUP.AVOID_IDX_IDX : Fld := ⟨0x05C, 0, 5, .rw, false, .val 0, 0x000, 0x0⟩
/-- STIRRUP.AVOID_DATA.FREQ [16:0] RW (spec/16_stirrup.md). -/
def STIRRUP.AVOID_DATA_FREQ : Fld := ⟨0x060, 0, 17, .rw, false, .val 0, 0x05C, 0x1f⟩
/-- STIRRUP.ZCAL.V_FS [31:16] RWL (spec/16_stirrup.md). -/
def STIRRUP.ZCAL_V_FS : Fld := ⟨0x064, 16, 16, .rwl, false, .val 0, 0x000, 0x0⟩
/-- STIRRUP.ZCAL.I_FS [15:0] RWL (spec/16_stirrup.md). -/
def STIRRUP.ZCAL_I_FS : Fld := ⟨0x064, 0, 16, .rwl, false, .val 0, 0x000, 0x0⟩
/-- STIRRUP.LOAD_CFG.DRIFT_PCT [31:24] RW (spec/16_stirrup.md). -/
def STIRRUP.LOAD_CFG_DRIFT_PCT : Fld := ⟨0x068, 24, 8, .rw, false, .val 20, 0x000, 0x0⟩
/-- STIRRUP.LOAD_CFG.OPEN_OHM [23:16] RW (spec/16_stirrup.md). -/
def STIRRUP.LOAD_CFG_OPEN_OHM : Fld := ⟨0x068, 16, 8, .rw, false, .val 64, 0x000, 0x0⟩
/-- STIRRUP.LOAD_CFG.SHORT_DOHM [15:8] RW (spec/16_stirrup.md). -/
def STIRRUP.LOAD_CFG_SHORT_DOHM : Fld := ⟨0x068, 8, 8, .rw, false, .val 10, 0x000, 0x0⟩
/-- STIRRUP.LOAD_SEL.BAND [3:0] RW (spec/16_stirrup.md). -/
def STIRRUP.LOAD_SEL_BAND : Fld := ⟨0x06C, 0, 4, .rw, false, .val 0, 0x000, 0x0⟩
/-- STIRRUP.LOAD_Z.VALID [31:31] RO (spec/16_stirrup.md). -/
def STIRRUP.LOAD_Z_VALID : Fld := ⟨0x070, 31, 1, .ro, false, .val 0, 0x06C, 0xf⟩
/-- STIRRUP.LOAD_Z.MAG [15:0] RO (spec/16_stirrup.md). -/
def STIRRUP.LOAD_Z_MAG : Fld := ⟨0x070, 0, 16, .ro, false, .val 0, 0x06C, 0xf⟩
/-- STIRRUP.LOAD_BASE.VALID [31:31] RO (spec/16_stirrup.md). -/
def STIRRUP.LOAD_BASE_VALID : Fld := ⟨0x074, 31, 1, .ro, false, .val 0, 0x06C, 0xf⟩
/-- STIRRUP.LOAD_BASE.MAG [15:0] RO (spec/16_stirrup.md). -/
def STIRRUP.LOAD_BASE_MAG : Fld := ⟨0x074, 0, 16, .ro, false, .val 0, 0x06C, 0xf⟩
/-- STIRRUP.TRIPS.COUNT [31:0] CNT (spec/16_stirrup.md). -/
def STIRRUP.TRIPS : Fld := ⟨0x080, 0, 32, .cnt, false, .val 0, 0x000, 0x0⟩
/-- STIRRUP.LATCHES.COUNT [31:0] CNT (spec/16_stirrup.md). -/
def STIRRUP.LATCHES : Fld := ⟨0x084, 0, 32, .cnt, false, .val 0, 0x000, 0x0⟩
/-- STIRRUP.DEPTH_LIMITS.COUNT [31:0] CNT (spec/16_stirrup.md). -/
def STIRRUP.DEPTH_LIMITS : Fld := ⟨0x088, 0, 32, .cnt, false, .val 0, 0x000, 0x0⟩
/-- STIRRUP.AVOID_MOVES.COUNT [31:0] CNT (spec/16_stirrup.md). -/
def STIRRUP.AVOID_MOVES : Fld := ⟨0x08C, 0, 32, .cnt, false, .val 0, 0x000, 0x0⟩
/-- STIRRUP.WAKES.COUNT [31:0] CNT (spec/16_stirrup.md). -/
def STIRRUP.WAKES : Fld := ⟨0x090, 0, 32, .cnt, false, .val 0, 0x000, 0x0⟩
/-- STIRRUP.LOAD_EVENTS.COUNT [31:0] CNT (spec/16_stirrup.md). -/
def STIRRUP.LOAD_EVENTS : Fld := ⟨0x094, 0, 32, .cnt, false, .val 0, 0x000, 0x0⟩
/-- CINCH.SRC_SEL.SOURCE [6:0] RW (spec/17_cinch.md). -/
def CINCH.SRC_SEL_SOURCE : Fld := ⟨0x040, 0, 7, .rw, false, .val 0, 0x000, 0x0⟩
/-- CINCH.SRC_CFG.FORCE [31:31] RW (spec/17_cinch.md). -/
def CINCH.SRC_CFG_FORCE : Fld := ⟨0x044, 31, 1, .rw, false, .val 0, 0x040, 0x7f⟩
/-- CINCH.SRC_CFG.QUIET [28:16] RWL, RWS (spec/17_cinch.md). -/
def CINCH.SRC_CFG_QUIET : Fld := ⟨0x044, 16, 13, .rwl, true, .val 100, 0x040, 0x7f⟩
/-- CINCH.SRC_CFG.GROUP [12:8] RWL, RWS (spec/17_cinch.md). -/
def CINCH.SRC_CFG_GROUP : Fld := ⟨0x044, 8, 5, .rwl, true, .val 0, 0x040, 0x7f⟩
/-- CINCH.SRC_CFG.AUTO [4:4] RWL, RWS (spec/17_cinch.md). -/
def CINCH.SRC_CFG_AUTO : Fld := ⟨0x044, 4, 1, .rwl, true, .cinchAuto, 0x040, 0x7f⟩
/-- CINCH.SRC_CFG.SEVERITY [2:0] RWL, RWS (spec/17_cinch.md). -/
def CINCH.SRC_CFG_SEVERITY : Fld := ⟨0x044, 0, 3, .rwl, true, .cinchSeverity, 0x040, 0x7f⟩
/-- CINCH.SRC_STAT.REACT_CLR [31:31] W1S (spec/17_cinch.md). -/
def CINCH.SRC_STAT_REACT_CLR : Fld := ⟨0x048, 31, 1, .w1s, false, .val 0, 0x040, 0x7f⟩
/-- CINCH.SRC_STAT.REACT_LEVEL [11:9] RO, RWS (spec/17_cinch.md). -/
def CINCH.SRC_STAT_REACT_LEVEL : Fld := ⟨0x048, 9, 3, .ro, true, .val 0, 0x040, 0x7f⟩
/-- CINCH.SRC_STAT.NO_GROUP [8:8] RO, RWS (spec/17_cinch.md). -/
def CINCH.SRC_STAT_NO_GROUP : Fld := ⟨0x048, 8, 1, .ro, true, .val 0, 0x040, 0x7f⟩
/-- CINCH.SRC_STAT.RSTATE [7:6] RO, RWS (spec/17_cinch.md). -/
def CINCH.SRC_STAT_RSTATE : Fld := ⟨0x048, 6, 2, .ro, true, .val 0, 0x040, 0x7f⟩
/-- CINCH.SRC_STAT.LATCH_FORCED [2:2] RO, RWS (spec/17_cinch.md). -/
def CINCH.SRC_STAT_LATCH_FORCED : Fld := ⟨0x048, 2, 1, .ro, true, .val 0, 0x040, 0x7f⟩
/-- CINCH.SRC_STAT.LATCHED [1:1] W1C, RWS (spec/17_cinch.md). -/
def CINCH.SRC_STAT_LATCHED : Fld := ⟨0x048, 1, 1, .w1c, true, .val 0, 0x040, 0x7f⟩
/-- CINCH.SRC_INST.LAST_INST [24:16] RO, RWS (spec/17_cinch.md). -/
def CINCH.SRC_INST_LAST_INST : Fld := ⟨0x04C, 16, 9, .ro, true, .val 0, 0x040, 0x7f⟩
/-- CINCH.SRC_INST.FIRST_INST [8:0] RO, RWS (spec/17_cinch.md). -/
def CINCH.SRC_INST_FIRST_INST : Fld := ⟨0x04C, 0, 9, .ro, true, .val 0, 0x040, 0x7f⟩
/-- CINCH.SRC_T_SEC_LO.SEC [31:0] RO, RWS (spec/17_cinch.md). -/
def CINCH.SRC_T_SEC_LO_SEC : Fld := ⟨0x050, 0, 32, .ro, true, .val 0, 0x040, 0x7f⟩
/-- CINCH.SRC_T_SEC_HI.SEC [15:0] RO, RWS (spec/17_cinch.md). -/
def CINCH.SRC_T_SEC_HI_SEC : Fld := ⟨0x054, 0, 16, .ro, true, .val 0, 0x040, 0x7f⟩
/-- CINCH.SRC_T_NS.NS [29:0] RO, RWS (spec/17_cinch.md). -/
def CINCH.SRC_T_NS_NS : Fld := ⟨0x058, 0, 30, .ro, true, .val 0, 0x040, 0x7f⟩
/-- CINCH.SRC_COUNT.OCCURRENCES [31:0] RW, RWS (spec/17_cinch.md). -/
def CINCH.SRC_COUNT_OCCURRENCES : Fld := ⟨0x05C, 0, 32, .rw, true, .val 0, 0x040, 0x7f⟩
/-- CINCH.SRC_RECOV.RECOVERIES [31:0] RW, RWS (spec/17_cinch.md). -/
def CINCH.SRC_RECOV_RECOVERIES : Fld := ⟨0x060, 0, 32, .rw, true, .val 0, 0x040, 0x7f⟩
/-- CINCH.FIRST.VALID [31:31] RW, RWS (spec/17_cinch.md). -/
def CINCH.FIRST_VALID : Fld := ⟨0x0C0, 31, 1, .rw, true, .val 0, 0x000, 0x0⟩
/-- CINCH.FIRST.SOURCE [6:0] RO, RWS (spec/17_cinch.md). -/
def CINCH.FIRST_SOURCE : Fld := ⟨0x0C0, 0, 7, .ro, true, .val 0, 0x000, 0x0⟩
/-- CINCH.RESET_STAT.STORM [31:31] W1C, RWS (spec/17_cinch.md). -/
def CINCH.RESET_STAT_STORM : Fld := ⟨0x0CC, 31, 1, .w1c, true, .val 0, 0x000, 0x0⟩
/-- CINCH.RESET_STAT.LAST_SOURCE [22:16] RO, RWS (spec/17_cinch.md). -/
def CINCH.RESET_STAT_LAST_SOURCE : Fld := ⟨0x0CC, 16, 7, .ro, true, .val 0, 0x000, 0x0⟩
/-- CINCH.RESET_STAT.RESETS [15:0] RO, RWS (spec/17_cinch.md). -/
def CINCH.RESET_STAT_RESETS : Fld := ⟨0x0CC, 0, 16, .ro, true, .val 0, 0x000, 0x0⟩
/-- CINCH.THERM_CFG.TRIP [15:8] RWL, RWS (spec/17_cinch.md). -/
def CINCH.THERM_CFG_TRIP : Fld := ⟨0x0D0, 8, 8, .rwl, true, .val 115, 0x000, 0x0⟩
/-- CINCH.THERM_CFG.WARN [7:0] RWL, RWS (spec/17_cinch.md). -/
def CINCH.THERM_CFG_WARN : Fld := ⟨0x0D0, 0, 8, .rwl, true, .val 105, 0x000, 0x0⟩
/-- CINCH.THERM_STAT.TJ_MAX [15:8] RO (spec/17_cinch.md). -/
def CINCH.THERM_STAT_TJ_MAX : Fld := ⟨0x0D4, 8, 8, .ro, false, .val 128, 0x000, 0x0⟩
/-- CINCH.THERM_STAT.TJ [7:0] RO (spec/17_cinch.md). -/
def CINCH.THERM_STAT_TJ : Fld := ⟨0x0D4, 0, 8, .ro, false, .val 128, 0x000, 0x0⟩
/-- KEEPER.CFG.HOLDOFF_S [31:16] RWL, RWS (spec/18_keeper.md). -/
def KEEPER.CFG_HOLDOFF_S : Fld := ⟨0x040, 16, 16, .rwl, true, .val 30, 0x000, 0x0⟩
/-- KEEPER.CFG.REVERT [2:2] RWL, RWS (spec/18_keeper.md). -/
def KEEPER.CFG_REVERT : Fld := ⟨0x040, 2, 1, .rwl, true, .val 1, 0x000, 0x0⟩
/-- KEEPER.CFG.ROLE [1:1] RWL, RWS (spec/18_keeper.md). -/
def KEEPER.CFG_ROLE : Fld := ⟨0x040, 1, 1, .rwl, true, .val 0, 0x000, 0x0⟩
/-- KEEPER.CFG.PAIR_EN [0:0] RWL, RWS (spec/18_keeper.md). -/
def KEEPER.CFG_PAIR_EN : Fld := ⟨0x040, 0, 1, .rwl, true, .val 0, 0x000, 0x0⟩
/-- KEEPER.CTRL.HANDOVER_REQ [0:0] W1S (spec/18_keeper.md). -/
def KEEPER.CTRL_HANDOVER_REQ : Fld := ⟨0x044, 0, 1, .w1s, false, .val 0, 0x000, 0x0⟩
/-- KEEPER.STAT.PAIR_STATE [31:28] RO (spec/18_keeper.md). -/
def KEEPER.STAT_PAIR_STATE : Fld := ⟨0x048, 28, 4, .ro, false, .val 0, 0x000, 0x0⟩
/-- KEEPER.STAT.PARTNER_ALIVE [9:9] RO (spec/18_keeper.md). -/
def KEEPER.STAT_PARTNER_ALIVE : Fld := ⟨0x048, 9, 1, .ro, false, .val 0, 0x000, 0x0⟩
/-- KEEPER.STAT.FW_RESTART [8:8] RO (spec/18_keeper.md). -/
def KEEPER.STAT_FW_RESTART : Fld := ⟨0x048, 8, 1, .ro, false, .val 0, 0x000, 0x0⟩
/-- KEEPER.STAT.ACT_IN [5:5] RO (spec/18_keeper.md). -/
def KEEPER.STAT_ACT_IN : Fld := ⟨0x048, 5, 1, .ro, false, .val 0, 0x000, 0x0⟩
/-- KEEPER.STAT.ACT_OUT [4:4] RO (spec/18_keeper.md). -/
def KEEPER.STAT_ACT_OUT : Fld := ⟨0x048, 4, 1, .ro, false, .val 0, 0x000, 0x0⟩
/-- KEEPER.STAT.PF_B_OK [3:3] RO (spec/18_keeper.md). -/
def KEEPER.STAT_PF_B_OK : Fld := ⟨0x048, 3, 1, .ro, false, .val 0, 0x000, 0x0⟩
/-- KEEPER.STAT.PF_A_OK [2:2] RO (spec/18_keeper.md). -/
def KEEPER.STAT_PF_A_OK : Fld := ⟨0x048, 2, 1, .ro, false, .val 0, 0x000, 0x0⟩
/-- KEEPER.STAT.FEED_B [1:1] RO (spec/18_keeper.md). -/
def KEEPER.STAT_FEED_B : Fld := ⟨0x048, 1, 1, .ro, false, .val 0, 0x000, 0x0⟩
/-- KEEPER.STAT.FEED_A [0:0] RO (spec/18_keeper.md). -/
def KEEPER.STAT_FEED_A : Fld := ⟨0x048, 0, 1, .ro, false, .val 0, 0x000, 0x0⟩
/-- KEEPER.CKPT_BASE_LO.ADDR [31:0] RWL, RWS (spec/18_keeper.md). -/
def KEEPER.CKPT_BASE_LO_ADDR : Fld := ⟨0x04C, 0, 32, .rwl, true, .val 0, 0x000, 0x0⟩
/-- KEEPER.CKPT_BASE_HI.ADDR [15:0] RWL, RWS (spec/18_keeper.md). -/
def KEEPER.CKPT_BASE_HI_ADDR : Fld := ⟨0x050, 0, 16, .rwl, true, .val 0, 0x000, 0x0⟩
/-- KEEPER.CKPT_SIZE.MIB [7:0] RWL, RWS (spec/18_keeper.md). -/
def KEEPER.CKPT_SIZE_MIB : Fld := ⟨0x054, 0, 8, .rwl, true, .val 64, 0x000, 0x0⟩
/-- KEEPER.CKPT_EPOCH.EPOCH [31:0] RO (spec/18_keeper.md). -/
def KEEPER.CKPT_EPOCH_EPOCH : Fld := ⟨0x058, 0, 32, .ro, false, .val 0, 0x000, 0x0⟩
/-- KEEPER.CKPT_AGE.MS [15:0] RO (spec/18_keeper.md). -/
def KEEPER.CKPT_AGE_MS : Fld := ⟨0x05C, 0, 16, .ro, false, .val 65535, 0x000, 0x0⟩
/-- KEEPER.FEED_SWITCHES.COUNT [31:0] CNT (spec/18_keeper.md). -/
def KEEPER.FEED_SWITCHES : Fld := ⟨0x080, 0, 32, .cnt, false, .val 0, 0x000, 0x0⟩
/-- KEEPER.HB_MISSED.COUNT [31:0] CNT (spec/18_keeper.md). -/
def KEEPER.HB_MISSED : Fld := ⟨0x084, 0, 32, .cnt, false, .val 0, 0x000, 0x0⟩
/-- KEEPER.FRAME_ERR.COUNT [31:0] CNT (spec/18_keeper.md). -/
def KEEPER.FRAME_ERR : Fld := ⟨0x088, 0, 32, .cnt, false, .val 0, 0x000, 0x0⟩
/-- KEEPER.CKPT_DISCARDS.COUNT [31:0] CNT (spec/18_keeper.md). -/
def KEEPER.CKPT_DISCARDS : Fld := ⟨0x08C, 0, 32, .cnt, false, .val 0, 0x000, 0x0⟩
/-- KEEPER.FAILOVERS.COUNT [31:0] CNT (spec/18_keeper.md). -/
def KEEPER.FAILOVERS : Fld := ⟨0x090, 0, 32, .cnt, false, .val 0, 0x000, 0x0⟩
/-- KEEPER.HANDOVERS.COUNT [31:0] CNT (spec/18_keeper.md). -/
def KEEPER.HANDOVERS : Fld := ⟨0x094, 0, 32, .cnt, false, .val 0, 0x000, 0x0⟩
/-- LIFE.AREA.BASE [31:16] RO (spec/19_life_ageing.md). -/
def LIFE.AREA_BASE : Fld := ⟨0x044, 16, 16, .ro, false, .val 0, 0x000, 0x0⟩
/-- LIFE.AREA.SIZE [7:0] RO (spec/19_life_ageing.md). -/
def LIFE.AREA_SIZE : Fld := ⟨0x044, 0, 8, .ro, false, .val 0, 0x000, 0x0⟩
/-- LIFE.REC_CTRL.NOW [0:0] W1S (spec/19_life_ageing.md). -/
def LIFE.REC_CTRL_NOW : Fld := ⟨0x048, 0, 1, .w1s, false, .val 0, 0x000, 0x0⟩
/-- LIFE.REC_STAT.LAST [31:30] RO (spec/19_life_ageing.md). -/
def LIFE.REC_STAT_LAST : Fld := ⟨0x04C, 30, 2, .ro, false, .val 0, 0x000, 0x0⟩
/-- LIFE.REC_STAT.WRITING [29:29] RO (spec/19_life_ageing.md). -/
def LIFE.REC_STAT_WRITING : Fld := ⟨0x04C, 29, 1, .ro, false, .val 0, 0x000, 0x0⟩
/-- LIFE.REC_STAT.FRESH [28:28] RO (spec/19_life_ageing.md). -/
def LIFE.REC_STAT_FRESH : Fld := ⟨0x04C, 28, 1, .ro, false, .val 0, 0x000, 0x0⟩
/-- LIFE.REC_SEQ.SEQ [31:0] RO (spec/19_life_ageing.md). -/
def LIFE.REC_SEQ_SEQ : Fld := ⟨0x050, 0, 32, .ro, false, .val 0, 0x000, 0x0⟩
/-- LIFE.VCORE_READ.VALID [31:31] RO (spec/19_life_ageing.md). -/
def LIFE.VCORE_READ_VALID : Fld := ⟨0x058, 31, 1, .ro, false, .val 0, 0x000, 0x0⟩
/-- LIFE.VCORE_READ.MV [9:0] RO (spec/19_life_ageing.md). -/
def LIFE.VCORE_READ_MV : Fld := ⟨0x058, 0, 10, .ro, false, .val 0, 0x000, 0x0⟩
/-- LIFE.MARGIN_CFG.VMIN_MV [31:22] RWL (spec/19_life_ageing.md). -/
def LIFE.MARGIN_CFG_VMIN_MV : Fld := ⟨0x05C, 22, 10, .rwl, false, .val 680, 0x000, 0x0⟩
/-- LIFE.MARGIN_CFG.TSHIFT_C [19:12] RWL (spec/19_life_ageing.md). -/
def LIFE.MARGIN_CFG_TSHIFT_C : Fld := ⟨0x05C, 12, 8, .rwl, false, .val 10, 0x000, 0x0⟩
/-- LIFE.MARGIN_CFG.WARN_D [11:0] RWL (spec/19_life_ageing.md). -/
def LIFE.MARGIN_CFG_WARN_D : Fld := ⟨0x05C, 0, 12, .rwl, false, .val 365, 0x000, 0x0⟩
/-- LIFE.MARGIN_STAT.RESULT [31:28] RO (spec/19_life_ageing.md). -/
def LIFE.MARGIN_STAT_RESULT : Fld := ⟨0x060, 28, 4, .ro, false, .val 0, 0x000, 0x0⟩
/-- LIFE.MARGIN_STAT.RUNNING [27:27] RO (spec/19_life_ageing.md). -/
def LIFE.MARGIN_STAT_RUNNING : Fld := ⟨0x060, 27, 1, .ro, false, .val 0, 0x000, 0x0⟩
/-- LIFE.MARGIN_STAT.WORST_TILE [23:16] RO (spec/19_life_ageing.md). -/
def LIFE.MARGIN_STAT_WORST_TILE : Fld := ⟨0x060, 16, 8, .ro, false, .val 0, 0x000, 0x0⟩
/-- LIFE.MARGIN_STAT.HEADROOM [15:0] RO (spec/19_life_ageing.md). -/
def LIFE.MARGIN_STAT_HEADROOM : Fld := ⟨0x060, 0, 16, .ro, false, .val 0, 0x000, 0x0⟩
/-- LIFE.HOURS_TO_FLOOR.HOURS [31:0] RO (spec/19_life_ageing.md). -/
def LIFE.HOURS_TO_FLOOR_HOURS : Fld := ⟨0x064, 0, 32, .ro, false, .val 4294967295, 0x000, 0x0⟩
/-- LIFE.TILE_SEL.TILE [7:0] RW (spec/19_life_ageing.md). -/
def LIFE.TILE_SEL_TILE : Fld := ⟨0x068, 0, 8, .rw, false, .val 0, 0x000, 0x0⟩
/-- LIFE.TILE_RATIO.VALID [31:31] RO (spec/19_life_ageing.md). -/
def LIFE.TILE_RATIO_VALID : Fld := ⟨0x06C, 31, 1, .ro, false, .val 0, 0x068, 0xff⟩
/-- LIFE.TILE_RATIO.R [15:0] RO (spec/19_life_ageing.md). -/
def LIFE.TILE_RATIO_R : Fld := ⟨0x06C, 0, 16, .ro, false, .val 0, 0x068, 0xff⟩
/-- LIFE.TILE_FLOOR.VALID [31:31] RO (spec/19_life_ageing.md). -/
def LIFE.TILE_FLOOR_VALID : Fld := ⟨0x070, 31, 1, .ro, false, .val 0, 0x068, 0xff⟩
/-- LIFE.TILE_FLOOR.R_FLOOR [15:0] RO (spec/19_life_ageing.md). -/
def LIFE.TILE_FLOOR_R_FLOOR : Fld := ⟨0x070, 0, 16, .ro, false, .val 0, 0x068, 0xff⟩
/-- LIFE.REPLANS.COUNT [31:0] CNT (spec/19_life_ageing.md). -/
def LIFE.REPLANS : Fld := ⟨0x080, 0, 32, .cnt, false, .val 0, 0x000, 0x0⟩
/-- LIFE.REPLAN_STEPS.COUNT [31:0] CNT (spec/19_life_ageing.md). -/
def LIFE.REPLAN_STEPS : Fld := ⟨0x084, 0, 32, .cnt, false, .val 0, 0x000, 0x0⟩
/-- LIFE.REPLAN_SKIPS.COUNT [31:0] CNT (spec/19_life_ageing.md). -/
def LIFE.REPLAN_SKIPS : Fld := ⟨0x088, 0, 32, .cnt, false, .val 0, 0x000, 0x0⟩
/-- LIFE.REC_FAILS.COUNT [31:0] CNT (spec/19_life_ageing.md). -/
def LIFE.REC_FAILS : Fld := ⟨0x08C, 0, 32, .cnt, false, .val 0, 0x000, 0x0⟩
/-- LIFE.AVS_NOACK.COUNT [31:0] CNT (spec/19_life_ageing.md). -/
def LIFE.AVS_NOACK : Fld := ⟨0x090, 0, 32, .cnt, false, .val 0, 0x000, 0x0⟩
/-- HOST.BRINGUP.READY [31:31] RO (spec/20_startup.md). -/
def HOST.BRINGUP_READY : Fld := ⟨0x05C, 31, 1, .ro, false, .val 0, 0x000, 0x0⟩
/-- HOST.BRINGUP.SOFT [30:30] RO (spec/20_startup.md). -/
def HOST.BRINGUP_SOFT : Fld := ⟨0x05C, 30, 1, .ro, false, .val 0, 0x000, 0x0⟩
/-- HOST.BRINGUP.STAGE [19:16] RO (spec/20_startup.md). -/
def HOST.BRINGUP_STAGE : Fld := ⟨0x05C, 16, 4, .ro, false, .val 0, 0x000, 0x0⟩
/-- HOST.BRINGUP.AVS [12:12] RO (spec/20_startup.md). -/
def HOST.BRINGUP_AVS : Fld := ⟨0x05C, 12, 1, .ro, false, .val 0, 0x000, 0x0⟩
/-- HOST.BRINGUP.DRAM1 [11:11] RO (spec/20_startup.md). -/
def HOST.BRINGUP_DRAM1 : Fld := ⟨0x05C, 11, 1, .ro, false, .val 0, 0x000, 0x0⟩
/-- HOST.BRINGUP.DRAM0 [10:10] RO (spec/20_startup.md). -/
def HOST.BRINGUP_DRAM0 : Fld := ⟨0x05C, 10, 1, .ro, false, .val 0, 0x000, 0x0⟩
/-- HOST.BRINGUP.GIRTH [9:9] RO (spec/20_startup.md). -/
def HOST.BRINGUP_GIRTH : Fld := ⟨0x05C, 9, 1, .ro, false, .val 0, 0x000, 0x0⟩
/-- HOST.BRINGUP.BOARD_CFG [8:8] RO (spec/20_startup.md). -/
def HOST.BRINGUP_BOARD_CFG : Fld := ⟨0x05C, 8, 1, .ro, false, .val 0, 0x000, 0x0⟩
/-- HOST.ABSENT_HITS.COUNT [31:0] CNT (spec/02_control_and_pages.md). -/
def HOST.ABSENT_HITS : Fld := ⟨0x044, 0, 32, .cnt, false, .val 0, 0x000, 0x0⟩
/-- HOST.BAD_ACCESS.COUNT [31:0] CNT (spec/02_control_and_pages.md). -/
def HOST.BAD_ACCESS : Fld := ⟨0x048, 0, 32, .cnt, false, .val 0, 0x000, 0x0⟩
/-- HOST.WIN_SHADOWED.COUNT [31:0] CNT (spec/02_control_and_pages.md). -/
def HOST.WIN_SHADOWED : Fld := ⟨0x04C, 0, 32, .cnt, false, .val 0, 0x000, 0x0⟩
/-- HOST.WIN_BASE_LO.ADDR [31:26] RW (spec/02_control_and_pages.md). -/
def HOST.WIN_BASE_LO_ADDR : Fld := ⟨0x050, 26, 6, .rw, false, .val 0, 0x000, 0x0⟩
/-- HOST.WIN_BASE_HI.ADDR [15:0] RW (spec/02_control_and_pages.md). -/
def HOST.WIN_BASE_HI_ADDR : Fld := ⟨0x054, 0, 16, .rw, false, .val 0, 0x000, 0x0⟩
/-- HOST.BOOT_STAT.FW_STATE [2:0] RO (spec/02_control_and_pages.md). -/
def HOST.BOOT_STAT_FW_STATE : Fld := ⟨0x058, 0, 3, .ro, false, .val 0, 0x000, 0x0⟩
/-- HOST.BOOT_STAT.SLOT [4:4] RO (spec/02_control_and_pages.md). -/
def HOST.BOOT_STAT_SLOT : Fld := ⟨0x058, 4, 1, .ro, false, .val 0, 0x000, 0x0⟩
/-- HOST.BOOT_STAT.FAIL_SLOT [5:5] RO (spec/02_control_and_pages.md). -/
def HOST.BOOT_STAT_FAIL_SLOT : Fld := ⟨0x058, 5, 1, .ro, false, .val 0, 0x000, 0x0⟩
/-- HOST.BOOT_STAT.FAIL_CODE [15:8] RO (spec/02_control_and_pages.md). -/
def HOST.BOOT_STAT_FAIL_CODE : Fld := ⟨0x058, 8, 8, .ro, false, .val 0, 0x000, 0x0⟩
/-- HOST.MBX_DOORBELL.SUBMIT [0:0] WO (spec/02_control_and_pages.md). -/
def HOST.MBX_DOORBELL_SUBMIT : Fld := ⟨0x060, 0, 1, .wo, false, .val 0, 0x000, 0x0⟩
/-- HOST.MBX_STAT.BUSY [0:0] RO (spec/02_control_and_pages.md). -/
def HOST.MBX_STAT_BUSY : Fld := ⟨0x064, 0, 1, .ro, false, .val 0, 0x000, 0x0⟩
/-- HOST.MBX_STAT.RESP_READY [1:1] W1C (spec/02_control_and_pages.md). -/
def HOST.MBX_STAT_RESP_READY : Fld := ⟨0x064, 1, 1, .w1c, false, .val 0, 0x000, 0x0⟩
/-- HOST.MBX_STAT.OVERRUN [2:2] W1C (spec/02_control_and_pages.md). -/
def HOST.MBX_STAT_OVERRUN : Fld := ⟨0x064, 2, 1, .w1c, false, .val 0, 0x000, 0x0⟩

/-- Every stored field of a PG page. -/
def PG.fields : List Fld :=
  [PG.CTRL_DRAIN, PG.EVT, PG.EVT_EN, PG.CTRL_EN, PG.STAT_EN_PENDING, PG.STAT_ERR, PG.STAT_BUSY, PG.STAT_QUIESCED, PG.PROGRESS_VALID, PG.PROGRESS_PERCENT, PG.PROGRESS_POSITION, PG.LIFE_IDX_AUTOINC] ++
  [PG.LIFE_IDX_INDEX, PG.LOCK_LOCKED]

/-- Every stored field of a CTRL page. -/
def CTRL.fields : List Fld :=
  [CTRL.WDOG_KICK_KICK, CTRL.WDOG_STAT_ARMED, CTRL.WDOG_STAT_TIMEOUT_MS, CTRL.FW_ID_MAJOR, CTRL.FW_ID_MINOR, CTRL.FW_ID_BUILD, CTRL.FW_SECVER_IMAGE, CTRL.CORE_STAT_RUNNING, CTRL.WDOG_EXPIRIES, CTRL.WDOG_BAD]

/-- Every stored field of a FABRIC page. -/
def FABRIC.fields : List Fld :=
  [FABRIC.DOM_CFG_ACTIVE 0, FABRIC.DOM_CFG_ACTIVE 1, FABRIC.DOM_CFG_ACTIVE 2, FABRIC.DOM_CFG_COMMIT_OFFSET 0, FABRIC.DOM_CFG_COMMIT_OFFSET 1, FABRIC.DOM_CFG_COMMIT_OFFSET 2, FABRIC.DOM_CFG_MISS_POLICY 0, FABRIC.DOM_CFG_MISS_POLICY 1, FABRIC.DOM_CFG_MISS_POLICY 2, FABRIC.DOM_CFG_FENCE_PCT 0, FABRIC.DOM_CFG_FENCE_PCT 1, FABRIC.DOM_CFG_FENCE_PCT 2] ++
  [FABRIC.DOM_CFG_BSIZE 0, FABRIC.DOM_CFG_BSIZE 1, FABRIC.DOM_CFG_BSIZE 2, FABRIC.DOM_CFG_RATE 0, FABRIC.DOM_CFG_RATE 1, FABRIC.DOM_CFG_RATE 2, FABRIC.DOM_TICKS_TICKS 0, FABRIC.DOM_TICKS_TICKS 1, FABRIC.DOM_TICKS_TICKS 2, FABRIC.DOM_SLACK_MISSED_TILES 0, FABRIC.DOM_SLACK_MISSED_TILES 1, FABRIC.DOM_SLACK_MISSED_TILES 2] ++
  [FABRIC.DOM_SLACK_WORST_10S 0, FABRIC.DOM_SLACK_WORST_10S 1, FABRIC.DOM_SLACK_WORST_10S 2, FABRIC.DOM_SLACK_WORST_LAST 0, FABRIC.DOM_SLACK_WORST_LAST 1, FABRIC.DOM_SLACK_WORST_LAST 2, FABRIC.TILE_SEL_TILE, FABRIC.TILE_CFG_GATED, FABRIC.TILE_COST_HU, FABRIC.TILE_SPEED_EST_SOURCE, FABRIC.TILE_SPEED_SPEED, FABRIC.TILE_SLACK_WORST_RESET] ++
  [FABRIC.TILE_SLACK_WORST_10S, FABRIC.TILE_SLACK_LAST, FABRIC.TILE_MISSES, FABRIC.TILE_STAT_ESCALATED, FABRIC.TILE_STAT_RELOCATING, FABRIC.TILE_STAT_SHED_MASK, FABRIC.TILE_STAT_CONSEC_MISS, FABRIC.TILE_STAT_FAULT_ABORT, FABRIC.TILE_STAT_LATE_DELIVERY, FABRIC.TILE_STAT_MISSED, FABRIC.MARGIN_CTRL_VMAX_MV, FABRIC.MARGIN_CTRL_SLACK_WARN] ++
  [FABRIC.MARGIN_CTRL_SHED_EN, FABRIC.MARGIN_CTRL_RELOC_EN, FABRIC.MARGIN_CTRL_AVS_EN, FABRIC.MARGIN_STAT_VCORE_MV, FABRIC.MARGIN_STAT_TILE, FABRIC.MARGIN_STAT_STAGE, FABRIC.RELOC_CFG_XFADE_MS, FABRIC.RELOC_CFG_WARM_BLOCKS, FABRIC.SHED_CTRL_BACKOFF_CLR, FABRIC.MISS_TOTAL, FABRIC.DELIVERY_LATE, FABRIC.FAULT_ABORTS] ++
  [FABRIC.RELOC_COUNT, FABRIC.SHED_COUNT, FABRIC.AVS_STEPS, FABRIC.PLAN_STAT_FAIL_TILE, FABRIC.PLAN_STAT_FAIL_CHECK, FABRIC.PLAN_STAT_SWAP_ARMED, FABRIC.PLAN_STAT_SLOT1_ADMITTED, FABRIC.PLAN_STAT_SLOT0_ADMITTED, FABRIC.PLAN_STAT_SLOT1_LOADED, FABRIC.PLAN_STAT_SLOT0_LOADED, FABRIC.PLAN_STAT_ACTIVE_VALID, FABRIC.PLAN_STAT_ACTIVE_SLOT] ++
  [FABRIC.ADMIT_DECL_HU, FABRIC.ADMIT_LIMIT_HU]

/-- Every stored field of a AWL page. -/
def AWL.fields : List Fld :=
  [AWL.WIN_CFG_WIN_HALF, AWL.WIN_CH_NOUT, AWL.WIN_CH_NIN, AWL.ENTRY_ADDR, AWL.PSTAT_RAMP_BUSY, AWL.PSTAT_ACTIVE_BANK, AWL.TST_SNAP_TST, AWL.PC_SNAP_ABORTED, AWL.PC_SNAP_PC, AWL.STICKY_CLR_AOV, AWL.STICKY_CLR_SAT, AWL.AOV_COUNT] ++
  [AWL.SAT_COUNT, AWL.ILLEGAL_COUNT, AWL.DBG_REFUSED, AWL.FAULT_INFO_VALID, AWL.FAULT_INFO_CAUSE, AWL.FAULT_INFO_PC, AWL.LAST_HU_HU, AWL.MAX_HU_HU, AWL.DBG_ADDR_SPACE, AWL.DBG_ADDR_AUTOINC, AWL.DBG_ADDR_INDEX, AWL.DBG_DATA_DATA]

/-- Every stored field of a MIX page. -/
def MIX.fields : List Fld :=
  [MIX.RAMP_CFG_SWAP_MS, MIX.RAMP_CFG_ROUTE_MS, MIX.RAMP_CFG_GAIN_MS, MIX.DIRECT_TGT_KIND, MIX.DIRECT_TGT_RAMP, MIX.DIRECT_TGT_TILE, MIX.DIRECT_TGT_SLOT_DEST, MIX.DIRECT_VAL_VALUE, MIX.COMMIT_SEL_ENTRY, MIX.COMMIT_CANCEL_GO, MIX.COMMIT_CANCEL_ENTRY, MIX.COMMIT_RESULT_RESULT] ++
  [MIX.COMMIT_RESULT_SET, MIX.COMMIT_RESULT_KIND, MIX.STAGE_SET_INCOMPLETE, MIX.STAGE_SET_SET, MIX.SWAP_STAT_L, MIX.SWAP_STAT_RELOAD_TILES, MIX.BUS_SEL_BUS, MIX.BUS_CFG_LAW, MIX.BUS_CFG_HEADROOM, MIX.BUS_CFG_TILE, MIX.BUS_CFG_OUT_CH, MIX.BUS_MEMB_BASE] ++
  [MIX.BUS_MEMB_COUNT, MIX.BUS_FLOOR_GAIN_FLOOR, MIX.BUS_STAT_ACTIVE, MIX.BUS_SCALE_S, MIX.MEMB_SEL_ENTRY, MIX.MEMB_SIL_SLOT, MIX.MEMB_GAIN_VALID, MIX.MEMB_GAIN_TILE, MIX.MEMB_GAIN_PSLOT, MIX.MON_SEL_SLOT, MIX.MON_CFG_MTR_EN, MIX.MON_CFG_SIL_EN] ++
  [MIX.MON_CFG_RMS_TC, MIX.MON_CFG_PK_HOLD, MIX.MON_CFG_SIL_HOLD, MIX.MON_CFG_SOURCE, MIX.MON_THRESH_LEVEL, MIX.SNAP_CTRL_READY, MIX.SNAP_CTRL_REQ, MIX.ROUTE_SEL_DEST, MIX.ROUTE_DATA_SOURCE, MIX.BRG_SEL_BRIDGE, MIX.BRG_CFG_SRC_DOM, MIX.BRG_CFG_DST_DOM] ++
  [MIX.BRG_CFG_SRC, MIX.BRG_CFG_DST, MIX.BRG_STAT_STATE, MIX.BRG_STAT_RATIO_ERR, MIX.DIRECT_REFUSED, MIX.ROUTE_DEFERRED, MIX.COMMITS_APPLIED, MIX.BRG_UNLOCKS, MIX.SCALE_SAT]

/-- Every stored field of a GIRTH page. -/
def GIRTH.fields : List Fld :=
  [GIRTH.BASE_LO_ADDR, GIRTH.BASE_HI_ADDR, GIRTH.PORT_CFG_ROTATE, GIRTH.VAULT_MAP_LO_MAP, GIRTH.VAULT_MAP_HI_MAP, GIRTH.VAULT_STAT_WIPING, GIRTH.VAULT_STAT_CAUSE, GIRTH.VAULT_STAT_WIPES, GIRTH.VAULT_FAIL_LO_FAILED_MAP, GIRTH.VAULT_FAIL_HI_FAILED_MAP, GIRTH.BGT_CTRL_SWEEP, GIRTH.BGT_STAT_STATE] ++
  [GIRTH.BGT_STAT_PHASE, GIRTH.BGT_STAT_REGION, GIRTH.BGT_STAT_LATE, GIRTH.RET_CTRL_SEG, GIRTH.RET_STAT_WAKING, GIRTH.RET_STAT_RETAINED, GIRTH.ECC_INFO_VALID, GIRTH.ECC_INFO_OFFSET, GIRTH.BANK_SEL_BANK, GIRTH.BANK_STAT_FAILED, GIRTH.BANK_STAT_SPARES_USED, GIRTH.BANK_STAT_CE] ++
  [GIRTH.CE_COUNT, GIRTH.UE_COUNT, GIRTH.SHADOW_NET, GIRTH.SHADOW_MOV, GIRTH.SHADOW_HOST, GIRTH.REPAIRS, GIRTH.VAULT_DENIED, GIRTH.MISALIGNED, GIRTH.RET_WAKES, GIRTH.SWEEPS]

/-- Every stored field of a HARNESS page. -/
def HARNESS.fields : List Fld :=
  [HARNESS.REMAP_REMAP, HARNESS.SLICE_M_SLICES, HARNESS.SLICE_T_SLICES, HARNESS.DRAM_MAP_SIZE1, HARNESS.DRAM_MAP_SIZE0, HARNESS.DRAM_MAP_INTLV, HARNESS.MQOS_SEL_MASTER, HARNESS.MQOS_CAP, HARNESS.MRST_STAT_PENDING, HARNESS.DECODE_INFO_VALID, HARNESS.DECODE_INFO_WRITE, HARNESS.DECODE_INFO_MASTER] ++
  [HARNESS.DECODE_ADDR_LO_ADDR, HARNESS.DECODE_ADDR_HI_ADDR, HARNESS.DECODE_COUNT, HARNESS.AGE_PROMOTIONS, HARNESS.LOCK_FAILS, HARNESS.MRST_BURSTS, HARNESS.UNSUPPORTED]

/-- Every stored field of a DRAM page. -/
def DRAM.fields : List Fld :=
  [DRAM.CFG_WCRC_EN, DRAM.CFG_RANKS, DRAM.CFG_DEVICE, DRAM.CFG_ORDER, DRAM.CFG_PAGE_IDLE, DRAM.RANK_CMD_GO, DRAM.RANK_CMD_OP, DRAM.RANK_CMD_RANK, DRAM.RANK_STAT_STATE 0, DRAM.RANK_STAT_STATE 1, DRAM.RANK_STAT_STATE 2, DRAM.RANK_STAT_STATE 3] ++
  [DRAM.RANK_MAP_LR1_VALID, DRAM.RANK_MAP_LR0_VALID, DRAM.RANK_MAP_LR1, DRAM.RANK_MAP_LR0, DRAM.RANK_OP_STAT_BUSY, DRAM.RANK_OP_STAT_PERCENT, DRAM.RANK_OP_STAT_RANK, DRAM.RANK_OP_STAT_RESULT, DRAM.MIG_STAT_ACTIVE, DRAM.MIG_STAT_WAITING, DRAM.MIG_STAT_FROM, DRAM.MIG_STAT_TO] ++
  [DRAM.REF_CFG_RT_QOS, DRAM.REF_CFG_POLL, DRAM.REF_CFG_FORCE_2X, DRAM.REF_CFG_MODE, DRAM.REF_STAT_DOUBLED 0, DRAM.REF_STAT_DOUBLED 1, DRAM.REF_STAT_DOUBLED 2, DRAM.REF_STAT_DOUBLED 3, DRAM.REF_STAT_OWED 0, DRAM.REF_STAT_OWED 1, DRAM.REF_STAT_OWED 2, DRAM.REF_STAT_OWED 3] ++
  [DRAM.RH_CFG_THRESH, DRAM.RH_CFG_QOS, DRAM.RH_STAT_THROTTLED, DRAM.FREQ_CTRL_CHANGE, DRAM.FREQ_CTRL_RESULT, DRAM.FREQ_CTRL_ACTIVE, DRAM.FREQ_CTRL_TARGET, DRAM.TSET_SEL_SET, DRAM.TSET_SEL_PARAM, DRAM.TSET_DATA_VALUE, DRAM.TRN_CTRL_GO, DRAM.TRN_CTRL_DONE] ++
  [DRAM.TRN_CTRL_RANK, DRAM.TRN_CTRL_SUBCH, DRAM.TRN_CTRL_OP, DRAM.TRN_CTRL_PAT, DRAM.TRN_CTRL_BURSTS, DRAM.TRN_SEED_SEED, DRAM.TRN_PAT_IDX_INDEX, DRAM.TRN_PAT_DATA_WORD, DRAM.TRN_STEP_ADVANCE, DRAM.TRN_STEP_DONE, DRAM.TRN_STEP_TOTAL, DRAM.TRN_ERR0_SC0_DQ] ++
  [DRAM.TRN_ERR1_SC1_CB, DRAM.TRN_ERR1_SC0_CB, DRAM.TRN_ERR2_SC1_DQ, DRAM.DLY_SEL_BCAST, DRAM.DLY_SEL_SET, DRAM.DLY_SEL_KIND, DRAM.DLY_SEL_RANK, DRAM.DLY_SEL_SUBCH, DRAM.DLY_SEL_BIT, DRAM.DLY_VAL_VALUE, DRAM.MR_CTRL_GO, DRAM.MR_CTRL_DONE] ++
  [DRAM.MR_CTRL_WRITE, DRAM.MR_CTRL_RANK, DRAM.MR_CTRL_SUBCH, DRAM.MR_CTRL_MR, DRAM.MR_DATA_VALUE, DRAM.ECC_INFO_VALID, DRAM.ECC_INFO_KIND, DRAM.ECC_INFO_RANK, DRAM.ECC_INFO_SUBCH, DRAM.ECC_ADDR_LO_OFFSET, DRAM.ECC_ADDR_HI_OFFSET, DRAM.TRN_RESULT_VALID] ++
  [DRAM.TRN_RESULT_TRAINED, DRAM.TRN_RESULT_PASSED, DRAM.CE_COUNT, DRAM.UE_COUNT, DRAM.WCRC_RETRY, DRAM.REF_PREEMPT, DRAM.TEMP_CROSS, DRAM.RH_MITIG, DRAM.RH_THROTTLES, DRAM.MOV_LATE, DRAM.MOV_SHADOWED, DRAM.DISABLED_HITS]

/-- Every stored field of a LANE page. -/
def LANE.fields : List Fld :=
  [LANE.CFG_RESTART, LANE.CFG_RX_INV, LANE.CFG_TX_INV, LANE.CFG_LOS_CLEAR, LANE.CFG_AUTO_RESTART, LANE.CFG_MODE, LANE.CFG_RATE_MAX, LANE.STAT_PPM, LANE.STAT_LOS, LANE.STAT_SIG_DET, LANE.STAT_RX_LOCKED, LANE.STAT_RATE] ++
  [LANE.STAT_STATE, LANE.NEG_OUI_OUI, LANE.LB_TX_ECHO, LANE.LB_MODE, LANE.SLEEP_WAKE_ON_SIG, LANE.SLEEP_RX, LANE.SLEEP_TX, LANE.PRBS_CTRL_CLR, LANE.PRBS_CTRL_CHK_INV, LANE.PRBS_CTRL_CHK_POLY, LANE.PRBS_CTRL_CHK_EN, LANE.PRBS_CTRL_GEN_INV] ++
  [LANE.PRBS_CTRL_GEN_POLY, LANE.PRBS_CTRL_GEN_EN, LANE.PRBS_STAT_CHK_LOCK, LANE.PRBS_STAT_SYNC_LOSS, LANE.PRBS_ERR_ERRORS, LANE.PRBS_BITS_LO_BITS, LANE.PRBS_BITS_HI_BITS, LANE.TX_EQ_POST, LANE.TX_EQ_MAIN, LANE.TX_EQ_PRE, LANE.LOS_COUNT, LANE.RESTARTS] ++
  [LANE.STEP_DOWNS]

/-- Every stored field of a MAC page. -/
def MAC.fields : List Fld :=
  [MAC.CFG_MAX_FRAME, MAC.CFG_TS_SRC, MAC.CFG_TS_CORR, MAC.CFG_PAUSE_RX, MAC.CFG_PAUSE_TX, MAC.CFG_PROMISC, MAC.CFG_VLAN_STRIP, MAC.CFG_FEC_EN, MAC.ADDR_LO_ADDR, MAC.ADDR_HI_ADDR, MAC.PREEMPT_CTRL_VERIFY, MAC.PREEMPT_CTRL_VERIFY_MS] ++
  [MAC.PREEMPT_CTRL_VERIFY_DIS, MAC.PREEMPT_CTRL_EN, MAC.PAUSE_CFG_QUANTA, MAC.PAUSE_CFG_HIGH_PCT, MAC.PAUSE_CFG_LOW_PCT, MAC.STAT_FEC_ACTIVE, MAC.STAT_PAUSED_RX, MAC.STAT_PAUSING, MAC.STAT_SPEED, MAC.STAT_LINK, MAC.RXR_SEL_RING, MAC.RXR_BASE_BASE] ++
  [MAC.RXR_DATA_DATA, MAC.RXR_CFG_PAUSE_EN, MAC.RXR_CFG_SLOT_KIB, MAC.RXR_CFG_COUNT, MAC.RXR_PROD_PROD, MAC.RXR_CONS_CONS, MAC.TXQ_SEL_QUEUE, MAC.TXQ_BASE_BASE, MAC.TXQ_CFG_COUNT, MAC.TXQ_PROD_PROD, MAC.TXQ_CONS_CONS, MAC.TXQ_STAT_BAD_PROD] ++
  [MAC.TXQ_STAT_HALTED, MAC.POL_RATE_RATE, MAC.POL_BURST_BURST, MAC.TSQ_STAT_COUNT, MAC.TSQ_POP_VALID, MAC.TSQ_POP_TAG, MAC.TSQ_POP_QUEUE, MAC.TSQ_STAMP_STAMP, MAC.TS_ADJ_RX, MAC.TS_ADJ_TX, MAC.TX_FRAMES, MAC.RX_FRAMES] ++
  [MAC.RX_FCS_ERR, MAC.RX_LEN_ERR, MAC.RX_DROP_FLOW, MAC.RX_DROP_FW, MAC.RX_DROP_HOST, MAC.RX_SHADOWED, MAC.RX_FILTERED, MAC.TX_POLICED, MAC.TX_POISON, MAC.TX_LINK_DROP, MAC.TS_LOST, MAC.PAUSE_SENT] ++
  [MAC.PAUSE_RCVD, MAC.FRAG_TX, MAC.FRAG_RX, MAC.MERGE_ERR, MAC.RX_DISABLED]

/-- Every stored field of a TIME page. -/
def TIME.fields : List Fld :=
  [TIME.C_INC_NS_NS 0, TIME.C_INC_NS_NS 1, TIME.C_INC_FRAC_FRAC 0, TIME.C_INC_FRAC_FRAC 1, TIME.C_SET_SEC_LO_SEC 0, TIME.C_SET_SEC_LO_SEC 1, TIME.C_SET_SEC_HI_SEC 0, TIME.C_SET_SEC_HI_SEC 1, TIME.C_SET_NS_GO 0, TIME.C_SET_NS_GO 1, TIME.C_SET_NS_NS 0, TIME.C_SET_NS_NS 1] ++
  [TIME.C_STEP_NS 0, TIME.C_STEP_NS 1, TIME.C_SLEW_CFG_RATE 0, TIME.C_SLEW_CFG_RATE 1, TIME.C_STAT_EPOCH 0, TIME.C_STAT_EPOCH 1, TIME.C_STAT_SLEWING 0, TIME.C_STAT_SLEWING 1, TIME.C_STAT_RUNNING 0, TIME.C_STAT_RUNNING 1, TIME.CAPTURE_DONE, TIME.CAPTURE_GO] ++
  [TIME.CAP_NS_NS 0, TIME.CAP_NS_NS 1, TIME.CAP_SEC_LO_SEC 0, TIME.CAP_SEC_LO_SEC 1, TIME.CAP_SEC_HI_SEC 0, TIME.CAP_SEC_HI_SEC 1, TIME.PTP_CFG_PROFILE_WORD 0, TIME.PTP_CFG_PROFILE_WORD 1, TIME.PTP_PORT_PORTS 0, TIME.PTP_PORT_PORTS 1, TIME.PTP_PORT_DOMAIN 0, TIME.PTP_PORT_DOMAIN 1] ++
  [TIME.PTP_STAT_UTC_OFFSET 0, TIME.PTP_STAT_UTC_OFFSET 1, TIME.PTP_STAT_CLASS 0, TIME.PTP_STAT_CLASS 1, TIME.PTP_STAT_STATE 0, TIME.PTP_STAT_STATE 1, TIME.PTP_OFFSET_NS 0, TIME.PTP_OFFSET_NS 1, TIME.MON_DIFF_NS]

/-- Every stored field of a REIN page. -/
def REIN.fields : List Fld :=
  [REIN.XO_CFG_XO_TYPE, REIN.XO_CFG_HOLD_SPEC_S, REIN.SEL_CTRL_WTR_S, REIN.SEL_CTRL_REVERT, REIN.SEL_CTRL_FALLBACK, REIN.SEL_CTRL_MAN_REF, REIN.SEL_CTRL_MODE, REIN.DPLL0_CFG_ALIGN_PPM, REIN.DPLL0_CFG_SLEW, REIN.DPLL0_CFG_BW, REIN.SEL_STAT_START_PICK, REIN.SEL_STAT_HOLD_VALID] ++
  [REIN.SEL_STAT_EPOCH_ALIGNED, REIN.SEL_STAT_SWITCHING, REIN.SEL_STAT_SEL_VALID, REIN.SEL_STAT_SELECTED, REIN.SEL_STAT_STATE, REIN.HOLD_TIMER_SECONDS, REIN.FREQ_OFS_PPB, REIN.CHECK_CFG_XO_WIDE, REIN.CHECK_CFG_HARD, REIN.CHECK_CFG_SOFT, REIN.CHECK_CFG_AGREE, REIN.CHECK_TIME_QUAL_S] ++
  [REIN.CHECK_TIME_DRIFT_S, REIN.REF_SEL_SLOT, REIN.REF_CFG_TYPE_WORD, REIN.REF_QL_RANK, REIN.REF_QL_HOST_QL, REIN.REF_QL_RAW, REIN.REF_QL_QL, REIN.REF_STAT_STATE, REIN.REF_STAT_CAUSE, REIN.REF_STAT_WTR, REIN.REF_STAT_QUAL_LEFT, REIN.REF_FREQ_PPB] ++
  [REIN.REF_MED_PPB, REIN.MCLK_CFG_EN 0, REIN.MCLK_CFG_EN 1, REIN.MCLK_CFG_EN 2, REIN.MCLK_CFG_EN 3, REIN.MCLK_CFG_DOMAIN 0, REIN.MCLK_CFG_DOMAIN 1, REIN.MCLK_CFG_DOMAIN 2, REIN.MCLK_CFG_DOMAIN 3, REIN.MCLK_CFG_MULT 0, REIN.MCLK_CFG_MULT 1, REIN.MCLK_CFG_MULT 2] ++
  [REIN.MCLK_CFG_MULT 3, REIN.FP_CTRL_STEP_LIM, REIN.FP_CTRL_ALIGN_NOW, REIN.FP_CTRL_MODE, REIN.FP_CFG_EN 0, REIN.FP_CFG_EN 1, REIN.FP_CFG_EN 2, REIN.FP_CFG_EN 3, REIN.FP_CFG_DIV1001 0, REIN.FP_CFG_DIV1001 1, REIN.FP_CFG_DIV1001 2, REIN.FP_CFG_DIV1001 3] ++
  [REIN.FP_CFG_SRC 0, REIN.FP_CFG_SRC 1, REIN.FP_CFG_SRC 2, REIN.FP_CFG_SRC 3, REIN.FP_CFG_RATE_HZ 0, REIN.FP_CFG_RATE_HZ 1, REIN.FP_CFG_RATE_HZ 2, REIN.FP_CFG_RATE_HZ 3, REIN.FP_OFS_NS 0, REIN.FP_OFS_NS 1, REIN.FP_OFS_NS 2, REIN.FP_OFS_NS 3] ++
  [REIN.FP_STAT_ALIGNED 0, REIN.FP_STAT_ALIGNED 1, REIN.FP_STAT_ALIGNED 2, REIN.FP_STAT_ALIGNED 3, REIN.FP_STAT_SRC_OK 0, REIN.FP_STAT_SRC_OK 1, REIN.FP_STAT_SRC_OK 2, REIN.FP_STAT_SRC_OK 3, REIN.FP_ERR_NS 0, REIN.FP_ERR_NS 1, REIN.FP_ERR_NS 2, REIN.FP_ERR_NS 3] ++
  [REIN.DPLL1_CFG_SOURCE, REIN.DPLL1_CFG_REF, REIN.DPLL1_CFG_BW, REIN.DPLL1_STAT_STATE, REIN.DPLL2_STAT_PORT, REIN.DPLL2_STAT_STATE, REIN.SWITCHES, REIN.DISQUALS, REIN.GLITCHES, REIN.HOLD_ENTRIES, REIN.FP_STEPS]

/-- Every stored field of a FLOW page. -/
def FLOW.fields : List Fld :=
  [FLOW.CTX_SEL_CTX, FLOW.CTX_CFG_VALID, FLOW.CTX_CFG_DIR, FLOW.CTX_CFG_DOMAIN, FLOW.CTX_CFG_ENC, FLOW.CTX_CFG_PATH_B, FLOW.CTX_CFG_PAIRED, FLOW.CTX_CFG_CHANNELS, FLOW.CTX_CFG_GROUP_EN, FLOW.CTX_CFG_GROUP, FLOW.CTX_CFG_PORT, FLOW.CTX_CFG_PTIME] ++
  [FLOW.CTX_PATCH_PATCH_BASE, FLOW.CTX_DELAY_DELAY, FLOW.CTX_STAT_STATE, FLOW.CTX_STAT_UNDERRUN, FLOW.CTX_STAT_PATH_LOST, FLOW.CTX_STAT_PROTECTED, FLOW.CTX_STAT_LINK_DOWN, FLOW.CTX_SSRC_SSRC, FLOW.CTX_LAST_SEQ_SEQ, FLOW.CTX_LAST_TS_TS, FLOW.CTX_MARGIN_NS, FLOW.CTX_SKEW_NS] ++
  [FLOW.PKTS, FLOW.DUP, FLOW.LATE_PKTS, FLOW.EARLY, FLOW.POLICED, FLOW.CONCEALED, FLOW.SEQ_GAPS, FLOW.FMT_ERR, FLOW.SHADOWED, FLOW.POISON_TXDROP, FLOW.GRP_SEL_GROUP, FLOW.GRP_CFG_IN_USE] ++
  [FLOW.GRP_CFG_DOMAIN, FLOW.GRP_CFG_MEMBERS, FLOW.GRP_CFG_DELAY, FLOW.GRP_STAT_CONCEALING, FLOW.PATH_CFG_LOSS_MS, FLOW.DOM_SEL_DOMAIN, FLOW.MEDIA_LO_N, FLOW.MEDIA_HI_N, FLOW.REBASES]

/-- Every stored field of a SAP page. -/
def SAP.fields : List Fld :=
  [SAP.CFG_LEAD, SAP.CFG_DOMAIN, SAP.CFG_D2_SRC, SAP.CFG_FMT, SAP.CFG_SLOTW, SAP.CFG_SLOTS, SAP.CFG_FSYNC, SAP.CFG_DELAY, SAP.CFG_BCLK_INV, SAP.CFG_WS_INV, SAP.CFG_TRI, SAP.MASK_IN_SLOTS] ++
  [SAP.MASK_OUT_SLOTS, SAP.PATCH_OUT_BASE, SAP.PATCH_IN_BASE, SAP.STAT_STATE, SAP.STAT_RATE_ERR, SAP.STAT_CLK_LOSS, SAP.STAT_FILL, SAP.MEAS_PPM, SAP.FCLK_CFG_EN 0, SAP.FCLK_CFG_EN 1, SAP.FCLK_CFG_EN 2, SAP.FCLK_CFG_EN 3] ++
  [SAP.FCLK_CFG_DIR 0, SAP.FCLK_CFG_DIR 1, SAP.FCLK_CFG_DIR 2, SAP.FCLK_CFG_DIR 3, SAP.FCLK_CFG_DOMAIN 0, SAP.FCLK_CFG_DOMAIN 1, SAP.FCLK_CFG_DOMAIN 2, SAP.FCLK_CFG_DOMAIN 3, SAP.SLIPS, SAP.UNDERRUNS, SAP.OVERRUNS, SAP.WS_ERRS] ++
  [SAP.CLK_LOSSES]

/-- Every stored field of a STIRRUP page. -/
def STIRRUP.fields : List Fld :=
  [STIRRUP.CFG_DOMAIN, STIRRUP.CFG_BRIDGE, STIRRUP.CFG_LOOKAHEAD, STIRRUP.CFG_IN_PATCH, STIRRUP.CTRL_LATCH_CLR, STIRRUP.CTRL_BASELINE_CAP, STIRRUP.CTRL_AVOID_APPLY, STIRRUP.CTRL_AVOID_NOW, STIRRUP.CTRL_SUPPLY_GRP, STIRRUP.CTRL_PD_EN, STIRRUP.CTRL_SIL_SLOT, STIRRUP.COMP_WINDOW] ++
  [STIRRUP.COMP_INT_FU, STIRRUP.COMP_K_IN, STIRRUP.COMP_OZ_KHZ, STIRRUP.COMP_K_OUT, STIRRUP.COMP_DEADTIME, STIRRUP.CARRIER_FC_TARGET, STIRRUP.CARRIER_FC_REQ, STIRRUP.PROT_OC_LIMIT, STIRRUP.PROT_DC_LIMIT, STIRRUP.PROT_PD_HOLD, STIRRUP.STAT_STATE, STIRRUP.STAT_LATCH_CAUSE] ++
  [STIRRUP.STAT_TRIPS_10S, STIRRUP.STAT_DRV_FLT, STIRRUP.STAT_LIMITING, STIRRUP.STAT_AVOID_PEND, STIRRUP.STAT_FC_MEAS, STIRRUP.MEAS_GR, STIRRUP.MEAS_HYST_RATIO, STIRRUP.MEAS_I_PEAK, STIRRUP.AVOID_IDX_AUTOINC, STIRRUP.AVOID_IDX_IDX, STIRRUP.AVOID_DATA_FREQ, STIRRUP.ZCAL_V_FS] ++
  [STIRRUP.ZCAL_I_FS, STIRRUP.LOAD_CFG_DRIFT_PCT, STIRRUP.LOAD_CFG_OPEN_OHM, STIRRUP.LOAD_CFG_SHORT_DOHM, STIRRUP.LOAD_SEL_BAND, STIRRUP.LOAD_Z_VALID, STIRRUP.LOAD_Z_MAG, STIRRUP.LOAD_BASE_VALID, STIRRUP.LOAD_BASE_MAG, STIRRUP.TRIPS, STIRRUP.LATCHES, STIRRUP.DEPTH_LIMITS] ++
  [STIRRUP.AVOID_MOVES, STIRRUP.WAKES, STIRRUP.LOAD_EVENTS]

/-- Every stored field of a CINCH page. -/
def CINCH.fields : List Fld :=
  [CINCH.SRC_SEL_SOURCE, CINCH.SRC_CFG_FORCE, CINCH.SRC_CFG_QUIET, CINCH.SRC_CFG_GROUP, CINCH.SRC_CFG_AUTO, CINCH.SRC_CFG_SEVERITY, CINCH.SRC_STAT_REACT_CLR, CINCH.SRC_STAT_REACT_LEVEL, CINCH.SRC_STAT_NO_GROUP, CINCH.SRC_STAT_RSTATE, CINCH.SRC_STAT_LATCH_FORCED, CINCH.SRC_STAT_LATCHED] ++
  [CINCH.SRC_INST_LAST_INST, CINCH.SRC_INST_FIRST_INST, CINCH.SRC_T_SEC_LO_SEC, CINCH.SRC_T_SEC_HI_SEC, CINCH.SRC_T_NS_NS, CINCH.SRC_COUNT_OCCURRENCES, CINCH.SRC_RECOV_RECOVERIES, CINCH.FIRST_VALID, CINCH.FIRST_SOURCE, CINCH.RESET_STAT_STORM, CINCH.RESET_STAT_LAST_SOURCE, CINCH.RESET_STAT_RESETS] ++
  [CINCH.THERM_CFG_TRIP, CINCH.THERM_CFG_WARN, CINCH.THERM_STAT_TJ_MAX, CINCH.THERM_STAT_TJ]

/-- Every stored field of a KEEPER page. -/
def KEEPER.fields : List Fld :=
  [KEEPER.CFG_HOLDOFF_S, KEEPER.CFG_REVERT, KEEPER.CFG_ROLE, KEEPER.CFG_PAIR_EN, KEEPER.CTRL_HANDOVER_REQ, KEEPER.STAT_PAIR_STATE, KEEPER.STAT_PARTNER_ALIVE, KEEPER.STAT_FW_RESTART, KEEPER.STAT_ACT_IN, KEEPER.STAT_ACT_OUT, KEEPER.STAT_PF_B_OK, KEEPER.STAT_PF_A_OK] ++
  [KEEPER.STAT_FEED_B, KEEPER.STAT_FEED_A, KEEPER.CKPT_BASE_LO_ADDR, KEEPER.CKPT_BASE_HI_ADDR, KEEPER.CKPT_SIZE_MIB, KEEPER.CKPT_EPOCH_EPOCH, KEEPER.CKPT_AGE_MS, KEEPER.FEED_SWITCHES, KEEPER.HB_MISSED, KEEPER.FRAME_ERR, KEEPER.CKPT_DISCARDS, KEEPER.FAILOVERS] ++
  [KEEPER.HANDOVERS]

/-- Every stored field of a LIFE page. -/
def LIFE.fields : List Fld :=
  [LIFE.AREA_BASE, LIFE.AREA_SIZE, LIFE.REC_CTRL_NOW, LIFE.REC_STAT_LAST, LIFE.REC_STAT_WRITING, LIFE.REC_STAT_FRESH, LIFE.REC_SEQ_SEQ, LIFE.VCORE_READ_VALID, LIFE.VCORE_READ_MV, LIFE.MARGIN_CFG_VMIN_MV, LIFE.MARGIN_CFG_TSHIFT_C, LIFE.MARGIN_CFG_WARN_D] ++
  [LIFE.MARGIN_STAT_RESULT, LIFE.MARGIN_STAT_RUNNING, LIFE.MARGIN_STAT_WORST_TILE, LIFE.MARGIN_STAT_HEADROOM, LIFE.HOURS_TO_FLOOR_HOURS, LIFE.TILE_SEL_TILE, LIFE.TILE_RATIO_VALID, LIFE.TILE_RATIO_R, LIFE.TILE_FLOOR_VALID, LIFE.TILE_FLOOR_R_FLOOR, LIFE.REPLANS, LIFE.REPLAN_STEPS] ++
  [LIFE.REPLAN_SKIPS, LIFE.REC_FAILS, LIFE.AVS_NOACK]

/-- Every stored field of a HOST page. -/
def HOST.fields : List Fld :=
  [HOST.BRINGUP_READY, HOST.BRINGUP_SOFT, HOST.BRINGUP_STAGE, HOST.BRINGUP_AVS, HOST.BRINGUP_DRAM1, HOST.BRINGUP_DRAM0, HOST.BRINGUP_GIRTH, HOST.BRINGUP_BOARD_CFG, HOST.ABSENT_HITS, HOST.BAD_ACCESS, HOST.WIN_SHADOWED, HOST.WIN_BASE_LO_ADDR] ++
  [HOST.WIN_BASE_HI_ADDR, HOST.BOOT_STAT_FW_STATE, HOST.BOOT_STAT_SLOT, HOST.BOOT_STAT_FAIL_SLOT, HOST.BOOT_STAT_FAIL_CODE, HOST.MBX_DOORBELL_SUBMIT, HOST.MBX_STAT_BUSY, HOST.MBX_STAT_RESP_READY, HOST.MBX_STAT_OVERRUN]

end Sys2Proof.Machine
end

