-- ==== Sys2Proof/Config.lean ====
section
/-!
DEFINITION. What one die or one implementation fixes and the spec leaves open, and the free values: opaque constants
without a body, so that a statement holds whatever they are.
-/

namespace Sys2Proof.Config

/-- A value that the spec leaves undefined, fresh for each count of State.freeCtr (log 3). -/
opaque freeValue : Nat → Nat

/-- Whether numerator / denominator, where it is no whole number and the spec states no rounding, is taken as the whole
number above it or the one below (log 4); exact quotients never ask for it. -/
opaque roundUp : Int → Nat → Bool

/-- A converted sample of a rate bridge, fresh for each count of State.freeCtr: the spec gives its group delay and its
figures but no conversion. Its operand lists the source samples taken so far with their output times, in fs from the
moment two destination periods before the sample's own (R27, R182, log 3). -/
opaque bridgeSample : Nat → List (Int × BitVec 32) → BitVec 32

/-- HOST.VARIANT's step letter and digit, per die (R5). -/
opaque stepMajor : BitVec 4
opaque stepMinor : BitVec 4

/-- The minimum security version fused into the die (R29). -/
opaque fusedMin : BitVec 16

/-- PG_ID.LAYOUT, per die: this manual describes 0x01 (R41). -/
opaque layout : BitVec 8

/-- DRAM.TSET_DATA at reset, by timing set and index (R245). -/
opaque timingSet : Nat → Nat

/-- The fused canary speeds of a tile in HU/µs: at 0.68 V, 0.75 V and 0.82 V (0 to 2), at 25 °C or at 105 °C (R458). -/
opaque fused : Nat → Nat → Bool → Nat

/-- The junction sensor nearest a tile, by the free value's count (R458). -/
opaque tileTemp : Nat → Nat → Int

/-- x² of R462 at a power-on hour, and x × (1 - r) at an hour and a ratio in 0.0001, in one unit: h^0.25 is irrational and the
record's fixed point is not stated (log 270). -/
opaque fitSquare : Nat → Nat
opaque fitTerm : Nat → Nat → Int

/-- Where in the Girth the snapshot buffers lie, per part: the lower one, the gap to the upper one, and whether the
buffer that is readable first is the upper one (R187). -/
opaque snapLow : Nat
opaque snapGap : Nat
opaque snapUpper : Bool

/-- The weight of a sample in a meter's exponential average, for a time constant in samples: between 1 - exp(-1/n) and
1/n, which of them or of those between the spec does not say (R186, log 340). -/
opaque averageWeight : Nat → Nat

/-- What an engine takes for a byte at a Girth offset that a refused read does not bring (R199). -/
opaque unreadByte : Nat → Byte

/-- The Girth offset at which the flow engine keeps the frame that it sends for a context (log 318). -/
opaque flowFrame : Nat → Nat

/-- Where in the Girth firmware places a receive context's playout buffer (R360, log 229). -/
opaque playBase : Nat → Nat

/-- What firmware loads in the UNITS stage and the spec does not give: base, data base, COUNT and SLOT_KIB (0 to 3) of a
port's ring (0 to 2) or queue (8 + queue), and Nirquin's OUI (R473, R274). -/
opaque ring : Nat → Nat → Nat → Nat
opaque oui : Nat

end Sys2Proof.Config
end

