-- ==== Sys2Proof/Machine/Map.lean ====
section
/-!
DEFINITION. The one home of the sparse maps that State is made of: look-up, insertion in key order, removal, and
`put`, which keeps the canonical form (keys strictly rising, no entry equal to the default).
-/

namespace Sys2Proof.Machine

/-- The value listed for a key, if any. -/
def SMap.find? {κ α : Type} [DecidableEq κ] : SMap κ α → κ → Option α
  | [], _ => none
  | (k', v) :: m, k => if k' = k then some v else SMap.find? m k

/-- The value of a key: the listed one, else the default. -/
def SMap.get {κ α : Type} [DecidableEq κ] (d : α) (m : SMap κ α) (k : κ) : α :=
  (SMap.find? m k).getD d

/-- The map without a key. -/
def SMap.erase {κ α : Type} [DecidableEq κ] : SMap κ α → κ → SMap κ α
  | [], _ => []
  | (k', v) :: m, k => if k' = k then SMap.erase m k else (k', v) :: SMap.erase m k

/-- A pair placed before the first larger key; `ord` numbers the keys. -/
def SMap.insert {κ α : Type} (ord : κ → Nat) : SMap κ α → κ → α → SMap κ α
  | [], k, v => [(k, v)]
  | (k', v') :: m, k, v =>
    if ord k < ord k' then (k, v) :: (k', v') :: m else (k', v') :: SMap.insert ord m k v

/-- The map after a write: the default is not listed. -/
def SMap.put {κ α : Type} [DecidableEq κ] [DecidableEq α] (ord : κ → Nat) (d : α)
    (m : SMap κ α) (k : κ) (v : α) : SMap κ α :=
  if v = d then SMap.erase m k else SMap.insert ord (SMap.erase m k) k v

/-- The canonical form: keys strictly rising in `ord`, and no entry equal to its key's default. -/
def SMap.wf {κ α : Type} [DecidableEq α] (ord : κ → Nat) (d : κ → α) : SMap κ α → Bool
  | [] => true
  | (k, v) :: m => m.all (fun e => ord k < ord e.1) && v ≠ d k && SMap.wf ord d m

/-- Plain sparse maps keyed by numbers. -/
def nget {α : Type} (d : α) (m : SMap Nat α) (k : Nat) : α := SMap.get d m k

/-- A write to a map keyed by numbers. -/
def nput {α : Type} [DecidableEq α] (d : α) (m : SMap Nat α) (k : Nat) (v : α) : SMap Nat α :=
  SMap.put id d m k v

/-- A write to a map keyed by numbers that has no default. -/
def nset {α : Type} (m : SMap Nat α) (k : Nat) (v : α) : SMap Nat α := SMap.insert id (SMap.erase m k) k v

end Sys2Proof.Machine
end

