-- ==== Sys2Proof/Machine/State.lean ====
section
/-!
DEFINITION. The state of the block as plain data: the register store (one entry a field), memory, the tiles, and one
structure for each unit with what its rules give it beside its registers; the reasons a command can stop; the state
after reset. Every sparse map lists only entries that differ from the reset value.
-/

namespace Sys2Proof.Machine

/-- Why a command stops with a fault. -/
inductive Fault where
  /-- Raised by a meaning whose operand names no unit, register or channel that the block has on any part (WellFormed
  refuses the command): no command of the hardware looks so. Safe. -/
  | illFormed
  deriving DecidableEq, Repr

/-- Why a command is refused. -/
inductive Refusal where
  /-- Raised by Dispatch for a command that has no meaning yet. Safe. -/
  | notModelled (mnemonic : String)
  deriving DecidableEq, Repr

/-! ### Requesters, vectors and the control complex (chapters 02 and 20) -/

/-- What a requester is answered: the completion status and the data. -/
inductive Resp where
  /-- Completed, with the 32-bit words read (none for a write). -/
  | ok (data : List Word)
  /-- Completed with bytes (BAR2 reads). -/
  | bytes (data : List Byte)
  /-- Unsupported Request (R33, R36). -/
  | unsupported
  /-- A Harness DECODE completion (R220); a read's beats carry zeros. -/
  | decode (data : List Byte)
  /-- A read with poison: its data, and the POISON flag of each of the master's beats (R223). -/
  | poison (data : List Byte) (beats : List Bool)
  /-- Another status on the Harness: MISALIGNED, LOCK_FAILED, WRITE_SHADOWED, UNSUPPORTED or ABORTED; the data and POISON
  flags of a read, and how many of its bytes came in beats before an abort (R223, R235). -/
  | error (code : String) (data : List Byte) (beats : List Bool) (good : Nat)
  deriving DecidableEq, Repr

/-- One MSI-X vector (R38, R39): masked, pending, messages sent. -/
structure Msix where
  /-- The message address, its two halves, and the message data (R32). -/
  addrLo : Word
  addrHi : Word
  data : Word
  masked : Bool
  pending : Bool
  sent : Nat
  deriving DecidableEq, Repr

/-- A vector after reset: masked, as PCI Express resets the table. -/
def Msix.reset : Msix := ⟨0, 0, 0, true, false, 0⟩

/-- A long command in progress: opcode, tag (R31, R51). -/
structure LongCmd where
  op : BitVec 8
  tag : BitVec 8
  deriving DecidableEq, Repr

/-- A record of MBX_DONE: opcode, tag, status. -/
structure DoneRec where
  op : BitVec 8
  tag : BitVec 8
  status : BitVec 8
  deriving DecidableEq, Repr

/-- The control complex: reset pin, boot slots, watchdog, mailbox, BAR2 window and the PCIe link. -/
structure Ctrl where
  /-- RESET_N is high. -/
  resetN : Bool
  bootMode : BitVec 2
  /-- The slot marked active in the flash. -/
  active : Slot
  failedA : Bool
  failedB : Bool
  /-- A slot that FW_UPDATE has marked to start at the next reset. -/
  updated : Option Slot
  /-- The slot of an updated image that has not reached RUN since the reset (R53). -/
  trial : Option Slot
  /-- Island cycles at the boot that tries it. -/
  bootAt : Nat
  img : ImgInfo
  /-- The slice counts of an image header have been applied since the last reset (R233). -/
  sliced : Bool
  /-- Island cycles at the last watchdog kick. -/
  wdogAt : Nat
  /-- A control-core restart runs (R31). -/
  restarting : Bool
  /-- Opcode and tag of the short command being carried out. -/
  short : Option LongCmd
  long : List LongCmd
  /-- Long commands a restart has lost (R31). -/
  lost : List LongCmd
  done : List DoneRec
  held : List DoneRec
  req : SMap Nat Word
  resp : SMap Nat Word
  /-- The base that BAR2 requests use (R35). -/
  winBase : Nat
  linkUp : Bool
  /-- The supply monitor drives every Stirrup output low (R489). -/
  supplyCut : Bool
  /-- The unlock sequence of each page: the first key has been written (R47). -/
  unlockKey : List Nat
  /-- Captured halves of _HI reads, by requester page and offset (R11). -/
  hiHold : SMap Nat Word
  /-- Pages whose KILL, and whose SRST, wait for QUIESCED (R43, R45). -/
  killing : List Nat
  resetting : List Nat
  /-- The image that FW_UPDATE writes: its length in bytes (R53). -/
  fwLen : Nat
  deriving DecidableEq, Repr

/-! ### The Cinch (chapter 17) -/

/-- What the Cinch keeps of one source beside its registers. -/
structure CinchSrc where
  /-- Instances whose condition is present. -/
  active : List Nat
  /-- The output group of the reaction in force (R426). -/
  group : Nat
  /-- Island cycles at the start of the quiet timer. -/
  quietAt : Nat
  /-- PEND: an occurrence at severity 1 or above is not yet acknowledged. -/
  pend : Bool
  /-- Island cycles at the latest event of each active instance of an event source (R415). -/
  heldAt : SMap Nat Nat
  deriving DecidableEq, Repr

def CinchSrc.reset : CinchSrc := ⟨[], 0, 0, false, []⟩

structure Cinch where
  srcs : SMap Nat CinchSrc
  /-- A level 4 reset waits its 10 ms (R422). -/
  resetPending : Bool
  /-- Island cycles at each level 4 reset. -/
  resetTimes : List Nat
  /-- Patch points fading back in after a mute (R513): samples already issued of the fade. -/
  release : SMap Nat Nat
  /-- Island cycles at the last reading of the junction sensors (R430). -/
  tjAt : Nat
  deriving DecidableEq, Repr

/-! ### The life unit (chapter 19) -/

/-- A re-plan in progress (R459 to R461): whether it has raised, whether it has lowered (both: it raises back after
step 2), and whether the regulator left its last request unanswered. -/
structure Replan where
  raising : Bool
  lowering : Bool
  failed : Bool
  /-- Step 3 waits for one of the four relocations. -/
  moving : Bool
  deriving DecidableEq, Repr

/-- A record of the life area (R454, R455): its sequence number, and the life counters of a full record, or the increases
of a warning record, with the fit sums of a full one. -/
structure LifeRec where
  seq : Nat
  /-- TIME0 of the record, in ns. -/
  at_ : Nat
  counters : SMap FKey Nat
  fits : SMap Nat Int
  fitCommon : Nat
  deriving DecidableEq, Repr

/-- The life area of the flash (R453): what its record slots hold, `none` for a slot that fails its CRC, with erased slots
not listed; the warning records since the warning sector was erased; and the record being written. -/
structure LifeArea where
  slots : SMap Nat (Option LifeRec)
  warns : List LifeRec
  writing : Option LifeRec
  deriving DecidableEq, Repr

structure Life where
  /-- Life counters, by page and index (R450). -/
  counters : SMap FKey Nat
  replan : Option Replan
  /-- A trigger arrived during a re-plan (R461). -/
  again : Bool
  /-- Seconds that a due re-plan has waited for the margin engine, and island cycles at its last try (R461). -/
  waited : Option Nat
  waitAt : Nat
  /-- Island cycles at the last periodic re-plan (R459), and at the end of the last settling wait of a re-plan (R460). -/
  replanAt : Nat
  settledAt : Nat
  /-- The readings of Tj of the last 10 s, newest first, with their island cycles, and the sum and count of those whose mean
  stood at the end of the last re-plan (R459). -/
  tjs : List (Nat × Int)
  tjRef : Option (Int × Nat)
  /-- A LIFE_DUMP in progress: destination. -/
  dump : Option Nat
  /-- The life-cycle state of the die (R457), and a change that waits for its wipe. -/
  cycle : BitVec 2
  cycleNext : Option (BitVec 2)
  area : LifeArea
  /-- Island cycles at the last power-on second (R452) and at the last periodic record (R454). -/
  secAt : Nat
  recAt : Nat
  /-- Power-on hours that the fit sums have taken in (R462). -/
  hoursDone : Nat
  /-- Highest Tj read in the current second (R452). -/
  tjSecond : Option Int
  /-- The last re-plan reached step 3 or step 4 (R463). -/
  deep : Bool
  /-- The common fit sum and each tile's (R462). -/
  fitCommon : Nat
  fits : SMap Nat Int
  deriving DecidableEq, Repr

/-! ### Awl tiles (chapter 04) -/

/-- Where a tile stands in the current block period (R62 to R70). -/
inductive PassState where
  /-- No pass: the tile idles between WAITB (or reset) and a tick. -/
  | idle
  /-- The tick has come; the pass waits for its input windows (R63). -/
  | waiting
  /-- Instructions issue. -/
  | running
  /-- Completed on time. -/
  | done
  /-- Missed at the fence and still running. -/
  | missedRunning
  /-- Missed at the fence, and ended since. -/
  | missed
  /-- Aborted by a tile fault before the fence. -/
  | faulted
  /-- Never started: an input window was not valid at the fence. -/
  | late
  deriving DecidableEq, Repr

/-- A RPT in force: repetitions left, and whether the repeated instruction lies at an address (R106). -/
structure Rpt where
  left : Nat
  deriving DecidableEq, Repr

/-- A waiting debug read (R124): its address, and the lower word of a 64-bit read that it is the upper half of (R33). -/
structure DbgRead where
  addr : Word
  lower : Option Word
  deriving DecidableEq, Repr

/-- One tile: register file, memories, parameter banks, and the state of its pass. Maps default to 0. -/
structure Tile where
  g : SMap Nat Word
  p : SMap Nat (BitVec 15)
  m : SMap Nat (BitVec 16)
  l : SMap Nat (BitVec 15)
  acc : SMap Nat Acc80
  clamp : BitVec 4
  lc : SMap Nat (BitVec 16)
  ls : SMap Nat (BitVec 14)
  le : SMap Nat (BitVec 14)
  /-- RSD at which each open level's RPTB executed. -/
  lrsd : SMap Nat Nat
  ret : SMap Nat (BitVec 14)
  rsd : Nat
  ldepth : Nat
  fn : Bool
  fz : Bool
  fv : Bool
  fc : Bool
  sat : Bool
  aov : Bool
  pc : BitVec 14
  imem : SMap Nat Word
  x : SMap Nat Word
  y : SMap Nat Word
  bankA : SMap Nat Word
  bankB : SMap Nat Word
  /-- Which physical window half the tile holds (R108). -/
  half : Bool
  pass : PassState
  /-- Input windows of the pending pass valid (R63). -/
  valid : Bool
  hu : Nat
  rpt : Option Rpt
  lastPc : BitVec 14
  /-- Passes started since the last commit that took effect on the tile (R138). -/
  since : Nat
  tickNo : Word
  /-- The previous pass did not commit (R138). -/
  prevFailed : Bool
  /-- Missed blocks of the present run, and whether the run is a fade to follow (R67, R68). -/
  missRun : Nat
  runPolicy : Bool
  /-- Last committed block of each output channel before the run. -/
  lastOut : SMap Nat (List Word)
  /-- The blocks that committed at the last tick, by channel, replacements included. -/
  out : SMap Nat (List Word)
  /-- Output blocks drained from a completed pass, by channel; they commit at the next tick (R64). -/
  drained : SMap Nat (List Word)
  /-- Island cycles at the pass's first instruction (R63). -/
  startAt : Nat
  /-- Lowest slack of the present second, and of the last ten, newest first. -/
  slackNow : Nat
  slackSecs : List Nat
  /-- Consecutive on-time passes since the last deadline miss (R71), and the island cycle of that miss (R80). -/
  onTime : Nat
  missAt : Nat
  /-- Consecutive passes below SLACK_WARN (R83), and passes whose observed speed is low (R72). -/
  lowSlack : Nat
  slowObs : Nat
  /-- The last 16 canary measurements, newest first (R72). -/
  canary : List Nat
  observed : Nat
  /-- Island cycle since which the canary figure and the observed speed agree (R72). -/
  agreeAt : Option Nat
  /-- Debug reads that wait for the end of the pass, oldest first (R124). -/
  dbg : List DbgRead
  /-- Output channels that carry silence in the present pass: of units that it skips (R85, R88). -/
  idle : List Nat
  /-- Passes of RAMP_BUSY left (R173), and a mirror in progress (R174). -/
  rampLeft : Nat
  mirror : Bool
  /-- A tile in shadow: passes run, outputs not delivered (R85, R179). -/
  shadow : Bool
  deriving DecidableEq, Repr

def Tile.reset : Tile :=
  { g := [], p := [], m := [], l := [], acc := [], clamp := 0, lc := [], ls := [], le := [], lrsd := [], ret := [],
    rsd := 0, ldepth := 0, fn := false, fz := false, fv := false, fc := false, sat := false, aov := false, pc := 0,
    imem := [], x := [], y := [], bankA := [], bankB := [], half := false, pass := .idle, valid := false, hu := 0,
    rpt := none, lastPc := 0, since := 0, tickNo := 0, prevFailed := false, missRun := 0, runPolicy := false,
    lastOut := [], out := [], drained := [], startAt := 0, slackNow := 100, slackSecs := [], onTime := 0, missAt := 0, lowSlack := 0, slowObs := 0, canary := [], observed := 0,
    agreeAt := none, dbg := [], idle := [], rampLeft := 0, mirror := false, shadow := false }

/-! ### The fabric scheduler and margin engine (chapter 03) -/

/-- One rate domain's timing. -/
structure Domain where
  /-- Island cycles at the last tick. -/
  tickAt : Nat
  /-- The fence of the current period has expired. -/
  fenced : Bool
  /-- Cycles of the current fence interval. -/
  tF : Nat
  /-- The miss policy in force: false MUTE_RAMP, true HOLD (R69). -/
  policy : Bool
  /-- A FENCE_PCT that applies from the next tick (R78). -/
  nextPct : Option Nat
  /-- Lowest slack and missed tiles since the last fence. -/
  worst : Nat
  missed : Nat
  /-- The media sample count at the last tick (R356), and the ticks for which it has differed from TIME0 (R357). -/
  media : Nat
  differ : Nat
  /-- A re-base that the next tick adds to the media count (R357). -/
  shift : Int
  /-- Phase in fs by which pulls have moved its ticks (R334). -/
  phase : Int
  /-- Island cycle from which ticks are counted, and ticks since (R58). -/
  epoch : Nat
  count : Nat
  /-- Lowest slack of the present second, and of the last ten, newest first. -/
  secNow : Nat
  secs : List Nat
  deriving DecidableEq, Repr

def Domain.reset : Domain := ⟨0, false, 0, false, none, 100, 0, 0, 0, 0, 0, 0, 0, 100, []⟩

/-- The stage of one tile's escalation (R79). -/
inductive EscStage where
  | voltage | relocation | shedding | exhausted | settled
  deriving DecidableEq, Repr

/-- An escalation: its stage, whether observed passes count yet (`skip`: from the next pass), those seen (true: on
time), and the stage that last succeeded (R80). -/
structure Esc where
  stage : EscStage
  observing : Bool
  skip : Bool
  seen : List Bool
  prefer : Option EscStage
  /-- Island cycles at the tile's last deadline miss. -/
  missAt : Nat
  deriving DecidableEq, Repr

/-- The outstanding voltage request (R81): its target, attempts that failed, whether the settling wait runs, and the
tiles whose slack warning it serves (R83). -/
structure Raise where
  mv : Nat
  tries : Nat
  settling : Bool
  /-- Island cycles at the last request, and then at the regulator's answer, from which the settling wait runs. -/
  ackAt : Nat
  forReplan : Bool
  warned : List Nat
  deriving DecidableEq, Repr

/-- How far a relocation has come (R85, R86). -/
inductive RelocPhase where
  /-- It starts at the next tick of its domain, the relocation tick. -/
  | due
  | copy
  /-- Shadow passes run so far. -/
  | shadow (n : Nat)
  /-- Blocks of the fade or crossfade delivered so far. -/
  | fade (n : Nat)
  deriving DecidableEq, Repr

structure Reloc where
  uid : Nat
  src : Nat
  dst : Nat
  planned : Bool
  phase : RelocPhase
  deriving DecidableEq, Repr

/-- A shed class on a tile (R88 to R90): shed now, when, the hold time in seconds, when restored and last shed. -/
structure ShedRec where
  shed : Bool
  at_ : Nat
  hold : Nat
  restoredAt : Option Nat
  deriving DecidableEq, Repr

/-- A plan load in progress. -/
structure PlanLoading where
  slot : Nat
  len : Nat
  tag : BitVec 8
  deriving DecidableEq, Repr

/-- An armed plan swap beside its commit table entry. -/
structure Swap where
  slot : Nat
  /-- WARM tiles loaded, with the shadow passes they have run. -/
  warm : List (Nat × Nat)
  /-- WARM_BLOCKS at arming. -/
  warmBlocks : Nat
  /-- Domains that have reached tick c - 1, and domains whose RELOAD fade-out has begun. -/
  started : List Nat
  fading : List Nat
  /-- The new plan's global tables are in force. -/
  installed : Bool
  deriving DecidableEq, Repr

/-- A WARM crossfade of a domain: samples issued and length; the tiles that fade in, and its old side (R179). -/
structure WarmFade where
  dom : Nat
  pos : Nat
  len : Nat
  new : List Nat
  old : List Nat
  deriving DecidableEq, Repr

structure Fabric where
  slot0 : Option Plan
  slot1 : Option Plan
  loading : Option PlanLoading
  running : Option Plan
  doms : SMap Nat Domain
  escs : SMap Nat Esc
  raise : Option Raise
  /-- VCORE in mV, as last acknowledged (R464). -/
  coreMv : Nat
  relocs : List Reloc
  /-- Units that have left their home tile: unit, present tile. -/
  moved : List (Nat × Nat)
  sheds : SMap Nat ShedRec
  swap : Option Swap
  /-- The plan entry that each tile runs. -/
  place : SMap Nat PlanTile
  /-- WARM crossfades, the oldest first. -/
  warmFades : List WarmFade
  /-- The relocations and placements of units on the old side of a WARM crossfade (R91). -/
  oldRelocs : List Reloc
  oldMoved : List (Nat × Nat)
  /-- Blocks that patch points without a tile still issue at the next ticks of a domain, before silence (R67, R93). -/
  last : List (Nat × Nat × List (List Word))
  /-- RELOAD tiles that wait L ticks before their first pass (R179). -/
  reloadWait : SMap Nat Nat
  /-- Blocks that each stream of the running plan has moved, by its index there (R245). -/
  streams : SMap Nat Nat
  /-- Output patch points that fall silent at the next tick of a domain: domain, patch point (R510). -/
  gone : List (Nat × Nat)
  /-- Next Stirrup loops that firmware starts (R480). -/
  startLoops : List Nat
  /-- Island cycle from which firmware may start the next one (R480). -/
  loopsAt : Nat
  deriving DecidableEq, Repr

/-! ### The mix unit (chapter 06) -/

/-- A queued DIRECT change (R162). -/
inductive Direct where
  | param (tile slot : Nat) (v : Word)
  | gain (tile slot : Nat) (ramp : Bool) (v : Word)
  | route (dest src : Nat)
  deriving DecidableEq, Repr

/-- An armed commit (R168): kind, set, time, and whether it has begun (R509). -/
structure Commit where
  kind : Nat
  set : Nat
  sec : Nat
  ns : Nat
  begun : Bool
  /-- Once begun: ticks left to the effect tick, by domain; and the tiles whose banks have exchanged (R170, R509). -/
  left : SMap Nat Nat
  exchanged : List Nat
  /-- Domains in which it has taken effect. -/
  applied : List Nat
  late : Bool
  deriving DecidableEq, Repr

/-- A route crossfade (R176): old and new source, samples issued, length. -/
structure Xfade where
  old : Nat
  new : Nat
  pos : Nat
  len : Nat
  deriving DecidableEq, Repr

/-- A route change that waits (R178). -/
structure WaitRoute where
  src : Nat
  len : Nat
  fenced : Bool
  deriving DecidableEq, Repr

/-- A staging record held back, or a SCENE_STAGE record: tile, slot, value, GAIN or PARAM. -/
structure StageRec where
  tile : Nat
  slot : Nat
  value : Word
  gain : Bool
  deriving DecidableEq, Repr

/-- A scene being staged: its records still to place. -/
structure Staging where
  tag : BitVec 8
  set : Nat
  rampMs : Nat
  routeMs : Nat
  recs : List StageRec
  routes : List (Nat × Nat)
  deriving DecidableEq, Repr

/-- A monitor slot's measurements (R186, R188). -/
structure Monitor where
  peak : Nat
  hold : Nat
  /-- Samples the hold has stood. -/
  holdAge : Nat
  rms : Word
  /-- The exponentially averaged square (R186). -/
  avg : Nat
  tpeak : Word
  silent : Bool
  /-- Samples at or below the threshold so far. -/
  below : Nat
  /-- Captured for the snapshot in progress. -/
  captured : Bool
  /-- A sample above the threshold has been seen since the detector entered SILENT. -/
  loud : Bool
  /-- The patch point that the slot watches, as taken at the last tick (R185). -/
  source : Nat
  deriving DecidableEq, Repr

def Monitor.reset : Monitor := ⟨0, 0, 0, 0, 0, 0, false, 0, false, false, 0x3FFF⟩

/-- A linear fade of a patch point's samples. -/
inductive Fade where
  /-- Fading in: samples issued, length. -/
  | fadeIn (pos len : Nat)
  /-- At full level for `lead` more samples, then fading out, then silent. -/
  | fadeOut (lead pos len : Nat)
  /-- Silent for a number of blocks, then a fade-in of a length. -/
  | silent (blocks len : Nat)
  /-- At the constant level num / den. -/
  | level (num den : Nat)
  /-- A fade of the output as another fade leaves it (R180). -/
  | over (inner outer : Fade)
  deriving DecidableEq, Repr

structure Mix where
  direct : List Direct
  commits : SMap Nat Commit
  staging : Option Staging
  /-- ROUTE records staged: destination, source. -/
  stageRoutes : List (Nat × Nat)
  /-- Ramps of the staged set, in ms. -/
  rampMs : Nat
  routeMs : Nat
  /-- GAIN slots staged, and every slot staged since the last commit: tile, slot. -/
  stageGains : List (Nat × Nat)
  stageSlots : List (Nat × Nat)
  held : List StageRec
  /-- TIME0 nanoseconds (whole count) at the end of the ramps of the last applied SCENE (R169). -/
  rampsEnd : Nat
  xfades : SMap Nat Xfade
  waits : SMap Nat WaitRoute
  mons : SMap Nat Monitor
  /-- A snapshot is being taken; which buffer is readable. -/
  snapBusy : Bool
  snapBuf : Bool
  /-- The samples of each patch point's channel block. -/
  patch : SMap Nat (List Word)
  /-- Samples of the current period collected at endpoint inputs. -/
  filling : SMap Nat (List Word)
  /-- The source samples that each bridge has taken, with their output times in fs, oldest first (R27). -/
  bridgeIn : SMap Nat (List (Nat × Word))
  /-- Fades in force on patch points. -/
  fades : SMap Nat Fade
  /-- LAW, scale targets of buses (R159), as the last tick took them, and steps (R160). -/
  busLaw : SMap Nat Nat
  busTarget : SMap Nat Nat
  busStep : SMap Nat Nat
  deriving DecidableEq, Repr

/-! ### The Girth (chapter 07) -/

/-- One beat waiting at a Girth bank: port rank (0 DLV, 1 NET, 2 MOV, 3 HOST), the transaction it belongs to, Girth
offset of its first byte, and the bytes with their strobes (none for a read). `cpu` marks accesses of the control
cores and the Keeper (R207). -/
structure Beat where
  port : Nat
  master : Nat
  id : Nat
  off : Nat
  len : Nat
  write : Bool
  data : List Byte
  strobes : List Bool
  locked : Bool
  /-- Slots waited. -/
  age : Nat
  deriving DecidableEq, Repr

/-- One bank: beats waiting in issue order, consecutive slots served to one port, to DLV and NET together, slots for which
a wipe has waited (R209), and island cycles of the last corrected errors by row (R200). -/
structure Bank where
  waiting : List Beat
  lastPort : Nat
  run : Nat
  dlvNet : Nat
  wipeAge : Nat
  ceRows : SMap Nat (List Nat)
  deriving DecidableEq, Repr

def Bank.reset : Bank := ⟨[], 0, 0, 0, 0, []⟩

/-- The phase of the region under background test (R202). -/
inductive BgtPhase where
  | save | test | restore
  deriving DecidableEq, Repr

structure Girth where
  banks : SMap Nat Bank
  /-- Words returned with poison until written whole (R201), by Girth offset / 4. -/
  poison : List Nat
  /-- Corrected words still to be written back (R200), and the words whose check bits show an error when they are read. -/
  writebacks : List Nat
  upset : SMap Nat Ecc
  /-- The region under test: page, phase; and the next page of the sweep. -/
  bgt : Option (Nat × BgtPhase)
  next : Nat
  /-- Regions to be tested ahead of the sweep order. -/
  ahead : List Nat
  /-- The region pinned to the reserve buffer (R205). -/
  pinned : Option Nat
  /-- The reserve buffer: bytes by offset in the region. -/
  reserve : SMap Nat Byte
  /-- Granules of a running wipe, and whether a life-cycle change waits for it (R208). -/
  wiping : BitVec 64
  /-- Granules whose VAULT_MAP bit clears when their wipe completes (R206). -/
  clearing : BitVec 64
  /-- TAMPER_N is high. -/
  tamperN : Bool
  /-- Locked sequences between their read and their write: master, offset, length, still intact (R230). -/
  locks : List (Nat × Nat × Nat × Bool)
  /-- A region start that came due while a region was under test (R203). -/
  overdue : Bool
  deriving DecidableEq, Repr

/-! ### The Harness (chapter 08) -/

/-- A granted or waiting transaction. -/
structure Txn where
  req : HReq
  port : Nat
  /-- The QoS value that it carries (R221). -/
  qos : Nat
  /-- Losses at its port, and promotion (R227). -/
  losses : Nat
  promoted : Bool
  granted : Bool
  /-- Beats not yet served at the banks. -/
  beats : Nat
  /-- Data read so far, the address ranges of target beats with poison, the status it completes with, and the bytes that
  beats before an abort brought (R223, R235). -/
  rdata : List Byte
  poison : List (Nat × Nat)
  status : Nat
  good : Nat
  /-- The unit of its target was reset (R235); addresses of 64 B words of a write that are not applied (R241). -/
  aborted : Bool
  dropped : List Nat
  /-- Its master was reset: the response is discarded, and the Harness completes a write burst on its behalf (R234). -/
  orphan : Bool
  onBehalf : Bool
  deriving DecidableEq, Repr

structure Harness where
  txns : List Txn
  /-- The master that last won at each port. -/
  lastWon : SMap Nat Nat
  /-- Bursts completed on behalf of a master whose reset is pending (R234). -/
  cut : SMap Nat Nat
  /-- Pieces of a host access that wait until fewer than 32 are outstanding (R214). -/
  held : List HReq
  deriving DecidableEq, Repr

/-! ### The DRAM channels (chapter 09) -/

/-- One rank's devices: open rows by bank, row-disturb tables by bank (row, count; R253), refresh debt (R250), and
island cycles of the last 257 corrected errors, newest first (R265). -/
structure Rank where
  openRows : SMap Nat Nat
  tables : SMap Nat (List (Nat × Nat))
  debtNs : Nat
  /-- MR4 reported a doubled rate at the last poll (R249). -/
  mr4 : Bool
  ceTimes : List Nat
  oscReads : Nat
  /-- What training helpers wrote in each sub-channel, the newest first, as far as it still stands: seed, words of the user
  pattern (none: PRBS31), accesses (R257). -/
  helper : SMap Nat (List (Nat × List Word × Nat))
  deriving DecidableEq, Repr

def Rank.reset : Rank := ⟨[], [], 0, false, [], 0, []⟩

structure Dram where
  ranks : SMap Nat Rank
  /-- Words that read with POISON, by channel offset / 64 (R240); in the target of the running migration (R262, R263). -/
  poison : List Nat
  sparePoison : List Nat
  /-- Repeats of the writes in progress that failed: by word of the transaction and rank, 2 × index + 1 for the target of
  the migration (R241). -/
  wcrc : SMap Nat Nat
  /-- The words that a stream, the copy engine or a write-back wrote last, which no granted transaction holds: offset, ranks
  and the bytes of before (R241). -/
  own : List (Nat × List Nat × List Byte)
  /-- Training run in progress: rank mask and tag. -/
  training : Option (BitVec 4 × BitVec 8)
  /-- Units of 4 KiB copied by the migration. -/
  migPos : Nat
  migPaused : Bool
  /-- The spare of a migration that was started, and ranks that wait for one (R263). -/
  failedWait : List Nat
  /-- The rank under RANK_CMD TEST. -/
  testing : Option Nat
  helper : Bool
  mrBusy : Bool
  /-- A frequency change in progress, with its target set. -/
  freqBusy : Option Nat
  selfRefresh : Bool
  /-- Mitigations charged in the window to each master, and windows of throttle left (R254). -/
  charges : SMap Nat Nat
  throttle : SMap Nat Nat
  /-- Ranks in a storm, and the island cycle at which each one ends as it stands (R265). -/
  storm : List Nat
  stormEnd : SMap Nat Nat
  deriving DecidableEq, Repr

def Dram.reset : Dram :=
  { ranks := [], poison := [], sparePoison := [], wcrc := [], own := [], training := none, migPos := 0, migPaused := false, failedWait := [],
    testing := none, helper := false, mrBusy := false, freqBusy := none, selfRefresh := false, charges := [],
    throttle := [], storm := [], stormEnd := [] }

/-! ### The serial lanes (chapter 10) -/

structure Lane where
  /-- The rate being tried (DETECT, SWITCH) and the one last established. -/
  try_ : Nat
  last : Nat
  everUp : Bool
  /-- A RX wake tries the last rate first (R279). -/
  waking : Bool
  /-- CFG.MODE and CFG.RATE_MAX as they apply since the last restart (R274). -/
  mode : Bool
  rateMax : Nat
  /-- CFG.LOS_CLEAR and CFG.AUTO_RESTART, likewise. -/
  losClear : Nat
  autoRestart : Bool
  /-- The OUI and the rates that the lane sent in its pages at the last NEGOTIATE (R273). -/
  sent : Option (Nat × Nat)
  /-- Errors that PRBS_ERR has counted since the checker's lock or the last CLR (R277). -/
  errSeen : Nat
  /-- Island cycles at the start of the present window, when the rate was established, when LOS set, and at the checker's
  lock or the last CLR since. -/
  since : Nat
  estAt : Option Nat
  losAt : Nat
  lockAt : Nat
  /-- When the recovery loop locked (R271). -/
  rxAt : Nat
  deriving DecidableEq, Repr

def Lane.reset : Lane := ⟨0, 0, false, false, true, 2, 10, true, none, 0, 0, none, 0, 0, 0⟩

/-! ### The Ethernet ports (chapter 11) -/

/-- An entry of the transmit timestamp queue (R302). -/
structure TsEntry where
  tag : BitVec 6
  queue : Nat
  stamp : Word
  deriving DecidableEq, Repr

/-- A frame on the wire, or one that waits to resume: its queue (8: a PAUSE frame) and descriptor, its bytes from the
destination address up to the FCS, fragments so far, data bytes sent in earlier fragments, the end of the present
fragment's SFD in tenths of an island cycle, a byte's time in the same unit, its stamp, and what it completes with. -/
structure TxFrame where
  queue : Nat
  idx : Nat
  bytes : List Byte
  frags : Nat
  sent : Nat
  startAt : Nat
  byteTime : Nat
  tsReq : Bool
  /-- TS_OFS and CSUM_OFS of a ONE_STEP frame, as they lie with its tag (R301). -/
  oneStep : Option (Nat × Nat)
  /-- The end of the SFD of its first fragment, in tenths of an island cycle. -/
  refAt : Nat
  /-- Where its data lies in the Girth, and its bytes there; 0 of a frame that the flow engine or the port made. -/
  buf : Nat
  len : Nat
  poison : Bool
  /-- Dropped with LINK_DOWN: nothing goes out (R293). -/
  drop : Bool
  deriving DecidableEq, Repr

structure Mac where
  /-- The frame being sent, and a preemptable frame that waits to resume (R290). -/
  cur : Option TxFrame
  resume : Option TxFrame
  /-- The end of the last frame's inter-packet gap, in tenths of an island cycle. -/
  wireAt : Nat
  /-- Each queue's token bucket (R292) in 1/5000 byte, and island cycles at its last refill. -/
  tokens : SMap Nat Nat
  tokensAt : SMap Nat Nat
  tsq : List TsEntry
  /-- The port's transmit-stamp sequence number. -/
  tsSeq : Nat
  /-- Verify mPackets sent since the link came up, island cycles at the last, and respond mPackets sent (R289). -/
  verifySent : Nat
  verifyAt : Nat
  responds : Nat
  /-- A received PAUSE stops all queues, else 0 to 5; island cycle at which it ends (R299). -/
  pausedAll : Bool
  pauseUntil : Nat
  /-- A PAUSE frame that waits to be sent, with its quanta; island cycles at the last (R298). -/
  pauseDue : Option (BitVec 16)
  pauseAt : Nat
  /-- Descriptors fetched before a drain that are still to be sent (R303). -/
  fetched : List (Nat × Nat)
  /-- Island cycle of the clearing of EN, while the frames that were being received then may still end, and that of the last
  KILL, which discards them (R303). -/
  drainAt : Option Nat
  killAt : Option Nat
  /-- FEC_EN as captured at the lane's last restart (R283). -/
  fecNext : Bool
  /-- The bytes of the last frame sent. -/
  lastSent : List Byte
  deriving DecidableEq, Repr

def Mac.reset : Mac :=
  { cur := none, resume := none, wireAt := 0, tokens := [], tokensAt := [], tsq := [], tsSeq := 0, verifySent := 0,
    verifyAt := 0, responds := 0, pausedAll := false, pauseUntil := 0, pauseDue := none, pauseAt := 0, fetched := [],
    drainAt := none, killAt := none, fecNext := false, lastSent := [] }

/-! ### Network time (chapter 12) -/

/-- One time counter (R305): the time, the increment in force, and the slew that remains, in units of 2^-32 ns. -/
structure Counter where
  sec : Nat
  ns : Nat
  frac : Nat
  incNs : Nat
  incFrac : Nat
  slew : Int
  slewStep : Nat
  deriving DecidableEq, Repr

def Counter.reset : Counter := ⟨0, 0, 0, 1, 0x9999999A, 0, 0⟩

/-- A PTP instance's history (R320): the master selected last, its clockClass, UTC offset and accuracy; LOCKED has been
reached; consecutive Sync messages within 1 µs, and beyond 10 µs. -/
structure Ptp where
  master : Option (BitVec 64)
  cls : Nat
  utc : Nat
  accuracy : Byte
  everLocked : Bool
  good : Nat
  bad : Nat
  deriving DecidableEq, Repr

def Ptp.reset : Ptp := ⟨none, 0xFF, 0, 0xFE, false, 0, 0⟩

structure TimeUnit where
  c0 : Counter
  c1 : Counter
  /-- How each counter has run of late, newest first: the island cycle at which a stretch of even counting began, and the
  counter there; for the stamps of instants that have passed (R313, R314). -/
  past0 : List (Nat × Counter)
  past1 : List (Nat × Counter)
  /-- Seconds captured for each requester and counter (R308). -/
  holds : List (Master × Nat × Nat)
  ptp0 : Ptp
  ptp1 : Ptp
  /-- Each counter's increments of the last 16 s with the island cycles at which they began, newest first (R320). -/
  incs : SMap Nat (List (Nat × Nat))
  /-- The island cycle of firmware's last capture pair for a port that serves both instances (R319). -/
  pairAt : Nat
  deriving DecidableEq, Repr

/-! ### The Rein (chapter 13) -/

/-- One reference slot's history. -/
structure RefSlot where
  /-- Its source gives edges or a clock (R328, R335). -/
  present : Bool
  /-- Island cycles at its last accepted edge, and at its glitches of the last second, newest first (R336). -/
  edgeAt : Nat
  glitches : List Nat
  /-- The present period has had a rejected edge. -/
  rejected : Bool
  /-- Accepted edges or pulses since the declaration or the last break. -/
  pulses : Nat
  /-- Island cycles since which the conditions of R328 hold, and when it last became QUALIFIED. -/
  sinceAt : Nat
  qualAt : Nat
  /-- Selected and beyond SOFT, and since when; left for another reference while it lies beyond SOFT (R339). -/
  softAt : Option Nat
  softOut : Bool
  deriving DecidableEq, Repr

def RefSlot.reset : RefSlot := ⟨false, 0, [], false, 0, 0, 0, none, false⟩

/-- A stretch of a DPLL's output frequency against nominal, in ppb: from an island cycle on it moves from one value to
another at a rate in ppb a second, and stays there (R331). -/
structure FreqSeg where
  at_ : Nat
  from_ : Int
  to_ : Int
  slew : Nat
  deriving DecidableEq, Repr

/-- One DPLL beside its state register: the slot it follows, whether it entered ACQUIRE from FREE, island cycles at the
entry to LOCKED, since which its frequency error is below 0.01 ppm, and at holdover entry; the stretches of its output
frequency, newest first (R331, R333). -/
structure Dpll where
  follows : Option Nat
  fromFree : Bool
  lockedAt : Nat
  nearAt : Nat
  holdAt : Nat
  freqs : List FreqSeg
  deriving DecidableEq, Repr

def Dpll.reset : Dpll := ⟨none, true, 0, 0, 0, []⟩

/-- A media clock that runs or has been stopped: MULT and the domain, the island cycle of its start on a low level, and of
its stop (R342). -/
structure Mclk where
  mult : Nat
  dom : Nat
  from_ : Nat
  till : Option Nat
  deriving DecidableEq, Repr

/-- A disagreement (R338): its slots, the lower first, and island cycles since which they agree again. -/
structure Dispute where
  a : Nat
  b : Nat
  agreed : Option Nat
  deriving DecidableEq, Repr

structure Rein where
  slots : SMap Nat RefSlot
  dplls : SMap Nat Dpll
  /-- REIN_STATE[2:0] pins (R345). -/
  pins : BitVec 3
  disputes : List Dispute
  /-- The last SSM code of each lane with the island cycle of its PDU, until 5 s pass without one (R327). -/
  ssm : SMap Nat (BitVec 4 × Nat)
  /-- Island cycles at the first selection from FREE (R338). -/
  pickAt : Nat
  /-- A pull of an ALIGN_NOW runs (R344), and the frequency offset of the pull of D0, and of D1 with it, in 10^-6 ppb. -/
  pulling : Bool
  pull : Int
  /-- The phase that the next frame pulse takes, in ns. -/
  fpCorrect : SMap Nat Int
  /-- The grid of each frame pulse that runs: an island time in ps, and the periods since (R343). -/
  fpGrid : SMap Nat (Int × Nat)
  /-- Frame pulses issued, and the island cycle of the last rising edge. -/
  pulses : SMap Nat Nat
  fpAt : SMap Nat Nat
  mclks : SMap Nat Mclk
  deriving DecidableEq, Repr

/-! ### Audio flows (chapter 14) -/

/-- A flow descriptor as FLOW_ADD read it (R349). -/
structure FlowDesc where
  tx : Bool
  domain : Nat
  enc : Nat
  channels : Nat
  ptime : Nat
  jumbo : Bool
  portA : Nat
  portB : Nat
  ipv6 : Bool
  vlan : Bool
  patch : Nat
  group : Option Nat
  pt : Nat
  dscp : Nat
  ttl : Nat
  ssrc : Word
  ofs : Word
  delay : Nat
  seq0 : BitVec 16
  dport : Nat
  sport : Nat
  dstA : List Word
  srcA : List Word
  dstB : List Word
  srcB : List Word
  macA : Nat
  macB : Nat
  tci : BitVec 16
  words : List Word
  deriving DecidableEq, Repr

/-- One flow context (R348). The B context of a pair holds the path's own fields; the pair's sequence history and
playout buffer are the A context's (R350). Its DELAY, state and counters are in the registers. -/
structure FlowCtx where
  desc : FlowDesc
  /-- Path B of a pair. -/
  pathB : Bool
  paired : Bool
  /-- The SSRC learned (R352). -/
  learned : Option Word
  /-- Island cycles at the last packet that passed the checks, and of the first since the path was lost (R367). -/
  acceptAt : Nat
  deliverAt : Nat
  upSince : Option Nat
  /-- Sequence numbers accepted, with their timestamps, and the newest in sequence (R352, R366). -/
  hist : List (Nat × Word)
  highest : Option Nat
  /-- Arrivals of the last second on this path: sequence number, island cycle; differences between the paths (R367). -/
  arrivals : List (Nat × Nat)
  skews : List (Nat × Int)
  /-- Margins of the last second: island cycles and ns. -/
  margins : List (Nat × Int)
  /-- Policer (R374): a packet is 625,000,000,000 × S tokens, and a cycle earns 1001 × fs. -/
  tokens : Nat
  tokensAt : Nat
  /-- The playout buffer: the media counts modulo 2^64 whose samples stand in its rings in the Girth (R360); one that it
  does not list is missing. -/
  placed : List Nat
  /-- Missing samples of the run in progress, and received samples since it ended. -/
  missing : Nat
  since : Nat
  /-- Island cycles at the last missing sample. -/
  missAt : Nat
  /-- A DELAY change that waits: value, and ticks until it applies (R364). -/
  delayNext : Option (Nat × Nat)
  /-- The next block fades out, on deletion, stop or drain (R375); then the context is freed. -/
  fading : Bool
  freeing : Bool
  /-- The running plan has left it without its patch points, until FLOW_DEL (R376). -/
  orphan : Bool
  /-- Transmission: count at which the present packet starts, next sequence number, samples collected (R368). -/
  nextCount : Nat
  seq : BitVec 16
  built : List (List Word)
  deriving DecidableEq, Repr

/-- A packet that the packetiser has posted on queue 6 of a port (R371): port, transmit context, frame. -/
structure TxPost where
  port : Nat
  ctx : Nat
  bytes : List Byte
  deriving DecidableEq, Repr

structure Flow where
  /-- Receive contexts 0 to 511, transmit contexts at 512 and up. -/
  ctxs : SMap Nat FlowCtx
  /-- Frames posted on queue 6 of each port and not yet sent, oldest first. -/
  posted : List TxPost
  /-- A group DELAY change that waits: value, ticks (R364). -/
  grpNext : SMap Nat (Nat × Nat)
  /-- Last value of g and the ticks for which it has differed from 0, by domain (R357). -/
  lastG : SMap Nat Int
  deriving DecidableEq, Repr

/-! ### Serial audio ports (chapter 15) -/

/-- What the last slip changed (R387): the counter of its kind by its offset, whether PG_EVT.SLIP was set and SAP_SLIP was
active before it, and the island cycle of the slip before. -/
structure SlipUndo where
  kind : Nat
  evt : Bool
  active : Bool
  before : Nat
  deriving DecidableEq, Repr

structure Sap where
  /-- The running plan uses the port, since the effect tick of its domain (R379). -/
  used : Bool
  /-- Frames in the elastic buffer, input and output sides, oldest first. -/
  inBuf : List (List Word)
  outBuf : List (List Word)
  /-- The last received sample of each input channel, and samples of the fade after a clock loss (R388). -/
  last : List Word
  lossFade : Option Nat
  /-- Frames of zeros left after a slip, then samples of the fade-in (R386). -/
  zeros : Nat
  fadeIn : Option Nat
  /-- Samples of the fade-in of the output side. -/
  fadeOut : Option Nat
  /-- Sample instants of the present block period that have passed. -/
  taken : Nat
  /-- Frames of the D2 source beyond the present block period, oldest first, and island cycles at its last frame-start
  edge (R16). -/
  early : List (List Word)
  edgeAt : Nat
  /-- The next frame-start edge only aligns slot 0. -/
  aligning : Bool
  /-- Island cycles at the last slip, and what a clock loss in the same frame takes back. -/
  slipAt : Nat
  undo : Option SlipUndo
  /-- The rate of a returned clock that did not match, in units of 10^-6 Hz (R389). -/
  clock : Option Nat
  /-- The last frame driven on SDO: per slot a word, none for high impedance (R382). -/
  sdo : List (Option Word)
  /-- EN has been cleared: complete the frame, fade, empty the buffer (R390). -/
  stopping : Bool
  deriving DecidableEq, Repr

def Sap.reset : Sap :=
  { used := false, inBuf := [], outBuf := [], last := [], lossFade := none, zeros := 0, fadeIn := none, fadeOut := none,
    taken := 0, early := [], edgeAt := 0, aligning := false, slipAt := 0, undo := none, clock := none, sdo := [],
    stopping := false }

/-! ### Stirrup loops (chapter 16) -/

/-- The tables and target that wait for the next carrier start (R400). -/
structure AvoidPend where
  table : SMap Nat Nat
  fcReq : Nat
  fT : Nat
  deriving DecidableEq, Repr

/-- A condition of R407: seconds for which it has held, and whether it is raised. -/
structure LoadCond where
  secs : Nat
  held : Bool
  deriving DecidableEq, Repr

structure Stirrup where
  /-- Island cycles at each trip of the last 10 s, of the loop or its group (R402, R405). -/
  trips : List Nat
  /-- Island cycles at the last trip, for STIRRUP_OC (R402). -/
  tripAt : Nat
  /-- A hiccup runs: it may outlast the safe state (R404). -/
  hiccup : Bool
  /-- STIRn_DRV_FLT_N is low. -/
  drvLow : Bool
  /-- COMP in force (R395), as its register word. -/
  comp : Word
  /-- Avoid table and request in force. -/
  avoid : SMap Nat Nat
  fcReq : Nat
  pend : Option AvoidPend
  /-- A move under AVOID_NOW (R400): the kHz at which it started, and the island cycle of its end. -/
  moving : Option (Nat × Nat)
  /-- Loudness of the last ten seconds, newest first, by band (R407). -/
  loud : SMap Nat (List Bool)
  /-- Island cycles at the last update of the load estimates (R407). -/
  loadAt : Nat
  opened : LoadCond
  shorted : LoadCond
  drift : LoadCond
  /-- Island cycles since which the watched slot has read SILENT at every tick (R408). -/
  silentAt : Option Nat
  /-- EN has been cleared and the reference fades (R411), and island cycles since when. -/
  stopping : Bool
  stopAt : Nat
  /-- Samples in the lookahead delay, oldest first (R409). -/
  ahead : List Word
  /-- The reference samples of the loop for the present block period (R19). -/
  refs : List Word
  /-- Island cycles at the last carrier start and at the last engagement of the limiter, with its reduction (R399). -/
  startAt : Nat
  limitAt : Nat
  limitGr : Nat
  /-- Seconds of the present carrier hour (R411's life counter 3). -/
  carrierSecs : Nat
  deriving DecidableEq, Repr

def Stirrup.reset : Stirrup :=
  { trips := [], tripAt := 0, hiccup := false, drvLow := false, comp := 0x03081EC5, avoid := [], fcReq := 400,
    pend := none, moving := none, loud := [], loadAt := 0, opened := ⟨0, false⟩, shorted := ⟨0, false⟩, drift := ⟨0, false⟩,
    silentAt := none, stopping := false, stopAt := 0, ahead := [], refs := [], startAt := 0, limitAt := 0, limitGr := 0, carrierSecs := 0 }

/-! ### The Keeper (chapter 18) -/

/-- A Tether frame that this node has sent. -/
inductive Tether where
  | heartbeat (seq : BitVec 16) (pairState : BitVec 4) (epoch : Word) (stamp echo echoRx : Nat) (fwRestart nack : Bool)
  | ckptData (epoch : Word) (recs : List CkptRec)
  | ckptEnd (epoch : Word) (count : Nat) (full final : Bool)
  | propose (sec ns : Nat)
  | ack (sec ns : Nat) (result : Byte) (seqs : List (Nat × BitVec 16))
  deriving DecidableEq, Repr

/-- One checkpoint copy (R441). -/
structure Ckpt where
  complete : Bool
  epoch : Word
  recs : List CkptRec
  deriving DecidableEq, Repr

/-- A handover that both partners have agreed (R446): its time in ns of TIME0, whether this node is the incoming one,
and whether its effect tick has passed. -/
structure Handover where
  at_ : Nat
  incoming : Bool
  passed : Bool
  deriving DecidableEq, Repr

structure Keeper where
  /-- POWER_WARN_N is high. -/
  warnHigh : Bool
  /-- Feed A conducts (else B). -/
  feedA : Bool
  /-- The partner's last HEARTBEAT: state, stamp, our receive stamp; heard since the state was entered. -/
  partner : BitVec 4
  hbStamp : Nat
  hbRx : Nat
  heard : Bool
  lastSeq : Option (BitVec 16)
  /-- Island cycles at the last good HEARTBEAT, and since heartbeats arrive without a gap of 3.0 ms. -/
  hbAt : Nat
  hbSince : Nat
  /-- The loss of the pair stands. -/
  lost : Bool
  txSeq : BitVec 16
  /-- Frames sent by the last command, oldest first. -/
  sent : List Tether
  /-- Checkpoint state as last sent, and whether the next epoch is FULL (R440). -/
  base : List CkptRec
  fullNext : Bool
  /-- A NACK goes with the next HEARTBEAT (R441). -/
  nack : Bool
  copyX : Ckpt
  copyY : Ckpt
  /-- The epoch being received: number, records so far, still good. -/
  rx : Option (Word × List CkptRec × Bool)
  /-- Island cycles at the completion of CKPT_EPOCH. -/
  ckptAt : Nat
  armed : Option Handover
  /-- The time last proposed and not yet answered, island cycles at the proposal, and proposals refused or unanswered. -/
  proposed : Option (Nat × Nat)
  proposedAt : Nat
  retries : Nat
  /-- First sequence numbers of HANDOVER_ACK, by transmit context. -/
  seqs : List (Nat × BitVec 16)
  /-- HANDOVER_REQ asks this node's partner. -/
  requested : Bool
  /-- Island cycles at entry to the present PAIR_STATE. -/
  stateAt : Nat
  /-- Island cycles since which PAIR_ACT_IN has been low. -/
  actLowAt : Nat
  /-- ISOLATED was entered from SEEKING (R438). -/
  isoSeek : Bool
  /-- Island cycles at the warm node's plan start, the last HEARTBEAT sent, and the last epoch sent. -/
  warmAt : Option Nat
  hbSentAt : Nat
  epochSentAt : Nat
  deriving DecidableEq, Repr

/-! ### The whole state -/

structure State where
  /-- Which part this die is (R1). -/
  part : Part
  /-- Island cycles of 1.6 ns since reset (R58). -/
  now : Nat
  /-- The model's own: how many free values have been taken. -/
  freeCtr : Nat
  /-- What the last requester was answered. -/
  lastResp : Option Resp
  /-- Register fields that differ from their reset value. -/
  regs : SMap FKey Nat
  /-- Memory bytes that differ from 0: boot ROM, control SRAM, Girth and DRAM. -/
  mem : List Host.Cell
  msix : SMap Nat Msix
  ctrl : Ctrl
  cinch : Cinch
  life : Life
  tiles : SMap Nat Tile
  fabric : Fabric
  mix : Mix
  girth : Girth
  harness : Harness
  drams : SMap Nat Dram
  lanes : SMap Nat Lane
  macs : SMap Nat Mac
  time : TimeUnit
  rein : Rein
  flow : Flow
  saps : SMap Nat Sap
  loops : SMap Nat Stirrup
  keeper : Keeper
  /-- Commands that wait, first in, first out. -/
  pending : List Instr
  deriving DecidableEq, Repr

def ImgInfo.reset : ImgInfo := ⟨0, 0, 0, 0, 0, 0, 0, 0, []⟩

def Ctrl.reset : Ctrl :=
  { resetN := false, bootMode := 0, active := .a, failedA := false, failedB := false, updated := none, trial := none, bootAt := 0,
    img := ImgInfo.reset, sliced := false, wdogAt := 0, restarting := false, short := none, long := [], lost := [], done := [], held := [],
    req := [], resp := [], winBase := 0, linkUp := false, supplyCut := false, unlockKey := [], hiHold := [], killing := [],
    resetting := [], fwLen := 0 }

def Cinch.reset : Cinch := ⟨[], false, [], [], 0⟩

def Life.reset : Life :=
  { counters := [], replan := none, again := false, waited := none, waitAt := 0, replanAt := 0, settledAt := 0, tjs := [],
    tjRef := none, dump := none, cycle := 1, cycleNext := none,
    area := ⟨[], [], none⟩, secAt := 0, recAt := 0, hoursDone := 0, tjSecond := none, deep := false,
    fitCommon := 0, fits := [] }

def Fabric.reset : Fabric :=
  { slot0 := none, slot1 := none, loading := none, running := none, doms := [], escs := [], raise := none, coreMv := 750, relocs := [],
    moved := [], sheds := [], swap := none, place := [], warmFades := [], oldRelocs := [], oldMoved := [], last := [], reloadWait := [], streams := [],
    gone := [], startLoops := [], loopsAt := 0 }

def Mix.reset : Mix :=
  { direct := [], commits := [], staging := none, stageRoutes := [], rampMs := 0, routeMs := 0, stageGains := [],
    stageSlots := [], held := [], rampsEnd := 0, xfades := [], waits := [], mons := [], snapBusy := false,
    snapBuf := false, patch := [], filling := [], bridgeIn := [], fades := [], busLaw := [],
    busTarget := [], busStep := [] }

def Girth.reset : Girth :=
  { banks := [], poison := [], writebacks := [], upset := [], bgt := none, next := 0, ahead := [], pinned := none, reserve := [],
    wiping := 0, clearing := 0, tamperN := true, locks := [], overdue := false }

def Harness.reset : Harness := ⟨[], [], [], []⟩

def TimeUnit.reset : TimeUnit := ⟨Counter.reset, Counter.reset, [], [], [], Ptp.reset, Ptp.reset, [], 0⟩

def Rein.reset : Rein :=
  { slots := [], dplls := [], pins := 0, disputes := [], ssm := [], pickAt := 0, pulling := false, pull := 0,
    fpCorrect := [], fpGrid := [], pulses := [], fpAt := [], mclks := [] }

def Flow.reset : Flow := ⟨[], [], [], []⟩

def Keeper.reset : Keeper :=
  { warnHigh := true, feedA := true, partner := 0, hbStamp := 0, hbRx := 0, heard := false, lastSeq := none, hbAt := 0,
    hbSince := 0, lost := false, txSeq := 0, sent := [], base := [], fullNext := true, nack := false,
    copyX := ⟨false, 0, []⟩, copyY := ⟨false, 0, []⟩, rx := none, ckptAt := 0, armed := none, proposed := none,
    proposedAt := 0, retries := 0, seqs := [], requested := false, stateAt := 0, actLowAt := 0, isoSeek := false,
    warmAt := none, hbSentAt := 0, epochSentAt := 0 }

/-- The machine right after power-on reset, with RESET_N low: every register at its reset value, every memory byte 0,
nothing loaded and nothing waiting. -/
def State.reset : State :=
  { part := .fa, now := 0, freeCtr := 0, lastResp := none, regs := [], mem := [], msix := [], ctrl := Ctrl.reset,
    cinch := Cinch.reset, life := Life.reset, tiles := [], fabric := Fabric.reset, mix := Mix.reset,
    girth := Girth.reset, harness := Harness.reset, drams := [], lanes := [], macs := [], time := TimeUnit.reset,
    rein := Rein.reset, flow := Flow.reset, saps := [], loops := [], keeper := Keeper.reset, pending := [] }

end Sys2Proof.Machine
end

