-- ==== Sys2Proof/Machine/Ops.lean ====
section
/-!
DEFINITION. The shared operations: pages and which part has them (R3, R40), register fields and memory bytes and the one
way to read or write them, events and MSI-X (R38, R39), counters, life counters (R450), long operations (R49), answers
to requesters, and the passage of time (R305).
-/

namespace Sys2Proof.Machine

abbrev Outcome := Host.Outcome State Fault Refusal

/-- A meaning runs only for operands that name something the block has. -/
def guardWf (ok : Bool) (o : Outcome) : Outcome := if ok then o else .fault .illFormed

/-- The same for a unit that only some parts have: on a part without it nothing happens (R9, log 6). -/
def State.guardPart (s : State) (ok present : Bool) (o : Outcome) : Outcome :=
  guardWf ok (if present then o else .next s)

/-- An event whose stated condition does not hold changes nothing (log 6). -/
def whenHolds (c : Bool) (s : State) (f : State → State) : State := if c then f s else s

/-! ### Pages (R40) -/

def Pg.host : Nat := 0x000
def Pg.ctrl : Nat := 0x001
def Pg.harness : Nat := 0x002
def Pg.cinch : Nat := 0x004
def Pg.keeper : Nat := 0x005
def Pg.life : Nat := 0x006
def Pg.rein : Nat := 0x008
def Pg.time : Nat := 0x010
def Pg.mac (n : Nat) : Nat := 0x020 + n
def Pg.lane (n : Nat) : Nat := 0x028 + n
def Pg.dram (c : Nat) : Nat := 0x040 + c
def Pg.girth : Nat := 0x048
def Pg.awl (t : Nat) : Nat := 0x100 + t
def Pg.fabric : Nat := 0x200
def Pg.mix : Nat := 0x210
def Pg.flow (n : Nat) : Nat := 0x220 + n
def Pg.sap (n : Nat) : Nat := 0x230 + n
def Pg.stirrup (n : Nat) : Nat := 0x240 + n

/-- A number in a range, both ends in. -/
def inRange (lo n hi : Nat) : Bool := lo ≤ n && n ≤ hi

/-- The pages that R40 lists. -/
def listedPage (p : Nat) : Bool :=
  inRange 0x000 p 0x002 || inRange 0x004 p 0x006 || p == 0x008 || p == 0x010 || inRange 0x020 p 0x023 ||
  inRange 0x028 p 0x031 || inRange 0x040 p 0x041 || p == 0x048 || inRange 0x100 p 0x1FF || p == 0x200 || p == 0x210 ||
  inRange 0x220 p 0x22F || inRange 0x230 p 0x23F || inRange 0x240 p 0x24F

/-- The pages of R3 that a part lacks. -/
def absentOn (part : Part) (p : Nat) : Bool :=
  match part with
  | .fa => false
  | .fb => inRange 0x240 p 0x24F
  | .ca => inRange 0x180 p 0x1FF || p == 0x041 || inRange 0x022 p 0x023 || inRange 0x02A p 0x02D ||
      inRange 0x228 p 0x22F || inRange 0x238 p 0x23F || inRange 0x240 p 0x24F

def presentOn (part : Part) (p : Nat) : Bool := listedPage p && !absentOn part p

def State.present (s : State) (p : Nat) : Bool := presentOn s.part p

/-- Numbers of units on the present part (R1). -/
def State.tileCount (s : State) : Nat := if s.part = .ca then 128 else 256
def State.flowCount (s : State) : Nat := if s.part = .ca then 256 else 512
def State.bankCount (s : State) : Nat := if s.part = .ca then 32 else 64
def State.bridgeCount (s : State) : Nat := if s.part = .ca then 256 else 512
def State.sapCount (s : State) : Nat := if s.part = .ca then 8 else 16
def State.macCount (s : State) : Nat := if s.part = .ca then 2 else 4
def State.dramCount (s : State) : Nat := if s.part = .ca then 1 else 2
def State.loopCount (s : State) : Nat := if s.part = .fa then 16 else 0
def State.pairing (s : State) : Bool := s.part ≠ .ca

/-- HOST.VARIANT (R4): the family, the part and the silicon step. -/
def State.variant (s : State) : Word :=
  let part := match s.part with
    | .fa => 1
    | .fb => 2
    | .ca => 3
  BitVec.ofNat 32 (0x5A * 2 ^ 24 + part * 2 ^ 16 + Config.stepMajor.toNat * 2 ^ 12 + Config.stepMinor.toNat * 2 ^ 8)

/-! ### Register fields -/

/-- Pages whose EN is 1 at reset: those of R46, the tiles (R123), the Rein (R472) and the PCIe lanes. -/
def enAtReset (p : Nat) : Nat :=
  if p == 0x000 || p == 0x001 || p == 0x002 || p == 0x004 || p == 0x005 || p == 0x008 || inRange 0x100 p 0x1FF ||
    inRange 0x02E p 0x031 then 1 else 0

/-- Cinch default severities (R413): sources of severity 0, THERM_TRIP, the rest. -/
def defaultSeverity (src : Nat) : Nat :=
  if src == 0x22 || src == 0x53 || src == 0x71 || src == 0x72 || src == 0x74 then 0
  else if src == 0x66 then 3 else 1

/-- The reset value of a field. -/
def resetAt (p : Nat) (f : Fld) (i : Nat) : Nat :=
  match f.reset with
  | .val n => n
  | .pageEn => enAtReset p
  | .pageQuiesced => 1 - enAtReset p
  | .cinchAuto => if i == 0x66 then 0 else 1
  | .cinchSeverity => defaultSeverity i
  | .timingSet => if 256 ≤ i then 0 else if i = 0 then 4800 else Config.timingSet i % 2 ^ f.w

/-- A field's key in the register store. -/
def fkey (p : Nat) (f : Fld) (i : Nat) : FKey := ⟨p, f.off, f.lo, i⟩

/-- The value of a register field; `i` is the instance that a select register shows (0 without one). -/
def State.get (s : State) (p : Nat) (f : Fld) (i : Nat := 0) : Nat :=
  SMap.get (resetAt p f i) s.regs (fkey p f i)

/-- A write of a field, cut to its width. -/
def State.set (s : State) (p : Nat) (f : Fld) (v : Nat) (i : Nat := 0) : State :=
  { s with regs := SMap.put FKey.ord (resetAt p f i) s.regs (fkey p f i) (v % 2 ^ f.w) }

/-- A one-bit field as a truth value. -/
def State.flag (s : State) (p : Nat) (f : Fld) (i : Nat := 0) : Bool := s.get p f i == 1

def bit (b : Bool) : Nat := if b then 1 else 0

def State.setFlag (s : State) (p : Nat) (f : Fld) (b : Bool) (i : Nat := 0) : State := s.set p f (bit b) i

/-- A counter that saturates at its width. -/
def State.count (s : State) (p : Nat) (f : Fld) (n : Nat := 1) (i : Nat := 0) : State :=
  s.set p f (min (s.get p f i + n) (2 ^ f.w - 1)) i

/-- The bits of a word that a field takes. -/
def Fld.of (f : Fld) (v : Word) : Nat := (v.toNat >>> f.lo) % 2 ^ f.w

/-- Every entry of a page returns to its reset value (R45), but for those that `keep` names. -/
def State.resetPage (s : State) (p : Nat) (keep : FKey → Bool) : State :=
  { s with regs := s.regs.filter fun e => e.1.p ≠ p || keep e.1 }

/-- Two's complement reading of a field. -/
def signed (w n : Nat) : Int := if n < 2 ^ (w - 1) then (n : Int) else (n : Int) - 2 ^ w

/-- An integer as the bits of a field. -/
def unsigned (w : Nat) (n : Int) : Nat := (n % (2 ^ w : Int)).toNat

/-- A signed value held within ±(2^(w-1) - 1). -/
def clampSym (w : Nat) (n : Int) : Int := max (-(2 ^ (w - 1) - 1)) (min (2 ^ (w - 1) - 1) n)

/-- numerator / denominator: the exact quotient, or one of the two whole numbers around it, which Config leaves open. -/
def exactDiv (num : Int) (den : Nat) : Int :=
  if num % (den : Int) = 0 then num / (den : Int)
  else num / (den : Int) + if Config.roundUp num den then 1 else 0

/-- A fresh free value, and the state that has taken it. -/
def State.free (s : State) : Nat × State := (Config.freeValue s.freeCtr, { s with freeCtr := s.freeCtr + 1 })

/-! ### Memory -/

/-- What an unlisted byte reads as (log 2). -/
def memDefault : Byte := 0

/-- Physical address of the boot ROM, control SRAM and the Girth (R217), and of a byte of a DRAM channel. -/
def Mem.sram : Nat := 0x400000
def Mem.sramSize : Nat := 0x400000
def Mem.girth : Nat := 0x40000000
def Mem.dram (chan off : Nat) : Nat := 0x800000000 + chan * 2 ^ 34 + off

def State.byte (s : State) (a : Nat) : Byte := nget memDefault s.mem a

def State.setByte (s : State) (a : Nat) (b : Byte) : State := { s with mem := nput memDefault s.mem a b }

/-- `n` bytes from an address upwards. -/
def State.bytes (s : State) (a : Nat) : Nat → List Byte
  | 0 => []
  | n + 1 => s.byte a :: s.bytes (a + 1) n

/-- Bytes stored from an address upwards. -/
def State.setBytes (s : State) (a : Nat) : List Byte → State
  | [] => s
  | b :: bs => (s.setByte a b).setBytes (a + 1) bs

/-- Bytes stored where their strobe is set; missing strobes count as set. -/
def State.setStrobed (s : State) (a : Nat) : List Byte → List Bool → State
  | [], _ => s
  | b :: bs, [] => (s.setByte a b).setStrobed (a + 1) bs []
  | b :: bs, on :: ons => (if on then s.setByte a b else s).setStrobed (a + 1) bs ons

/-- The little-endian word of four bytes (log 5). -/
def wordOf (b0 b1 b2 b3 : Byte) : Word := b3 ++ b2 ++ b1 ++ b0

def State.word (s : State) (a : Nat) : Word := wordOf (s.byte a) (s.byte (a + 1)) (s.byte (a + 2)) (s.byte (a + 3))

def bytesOf (w : Word) : List Byte := [w.setWidth 8, (w >>> 8).setWidth 8, (w >>> 16).setWidth 8, (w >>> 24).setWidth 8]

def State.setWord (s : State) (a : Nat) (w : Word) : State := s.setBytes a (bytesOf w)

/-- `n` words from an address upwards. -/
def State.words (s : State) (a : Nat) : Nat → List Word
  | 0 => []
  | n + 1 => s.word a :: s.words (a + 4) n

/-! ### MSI-X (R38, R39) -/

/-- The vector of a page, and the events of the page that it summarises (CINCH divides its events by R432). -/
def vectorOf (p : Nat) : Nat :=
  if p = 0x000 then 0 else if p = 0x001 then 1 else if p = 0x004 then 3 else if p = 0x005 then 4
  else if p = 0x006 then 5 else if p = 0x008 then 6 else if p = 0x010 then 7 else if p = 0x200 then 8
  else if inRange 0x100 p 0x1FF then 8 else if p = 0x210 then 9 else if p = 0x048 then 10 else if p = 0x002 then 11
  else if inRange 0x040 p 0x041 then 12 + (p - 0x040) else if inRange 0x020 p 0x023 then 14 + (p - 0x020)
  else if inRange 0x028 p 0x031 then 18 + (p - 0x028) else if inRange 0x220 p 0x22F then 28 + (p - 0x220)
  else if inRange 0x230 p 0x23F then 44 + (p - 0x230) / 4 else 48 + (p - 0x240)

/-- NOTIFY and CLR_REFUSED of the CINCH page lie on vector 2 (R432). -/
def notifyBits : Nat := 0b1000001

/-- The events of page p that vector v summarises. -/
def vectorMask (p v : Nat) : Nat :=
  if p = 0x004 then (if v = 2 then notifyBits else if v = 3 then 0xFFFFFFFF - notifyBits else 0)
  else if vectorOf p = v then 0xFFFFFFFF else 0

/-- A vector's summary: some enabled event of its pages is set. -/
def State.summary (s : State) (v : Nat) : Bool :=
  s.regs.any fun e => e.1.off == PG.EVT.off && (e.2 &&& s.get e.1.p PG.EVT_EN &&& vectorMask e.1.p v) != 0

/-- A vector's message is sent, or held pending while the vector is masked. -/
def State.sendMsix (s : State) (v : Nat) : State :=
  let x := nget Msix.reset s.msix v
  { s with msix := nput Msix.reset s.msix v (if x.masked then { x with pending := true } else { x with sent := x.sent + 1 }) }

/-- The message of a vector whose summary has become non-zero. -/
def State.risen (old : State) (v : Nat) (s : State) : State :=
  if !old.summary v && s.summary v then s.sendMsix v else s

/-- After a write to PG_EVT or PG_EVT_EN of page p: a vector of the page with a summary still set sends again. -/
def State.evtWritten (s : State) (p : Nat) : State :=
  if p = 0x004 then
    let s := if s.summary 2 then s.sendMsix 2 else s
    if s.summary 3 then s.sendMsix 3 else s
  else if s.summary (vectorOf p) then s.sendMsix (vectorOf p) else s

/-! ### Events (R41), answers, long operations (R49) -/

/-- Hardware sets event bits of a page; an absent page has none. -/
def State.events (s : State) (p mask : Nat) : State :=
  if s.present p then
    let s' := s.set p PG.EVT (s.get p PG.EVT ||| mask)
    if p = 0x004 then State.risen s 3 (State.risen s 2 s') else State.risen s (vectorOf p) s'
  else s

def State.event (s : State) (p b : Nat) : State := s.events p (2 ^ b)

/-- OP_DONE (R42, R43, R49). -/
def State.opDone (s : State) (p : Nat) : State := s.event p 31

/-- What the requester of the present command is answered. -/
def State.answer (s : State) (r : Resp) : State := { s with lastResp := some r }

/-- A long operation starts on a page. -/
def State.longStart (s : State) (p : Nat) : State :=
  ((s.set p PG.PROGRESS_VALID 1).set p PG.PROGRESS_PERCENT 0).set p PG.PROGRESS_POSITION 0

/-- Progress: the percentage never falls, and 100 is kept for the end. -/
def State.longStep (s : State) (p pct pos : Nat) : State :=
  (s.set p PG.PROGRESS_PERCENT (max (s.get p PG.PROGRESS_PERCENT) (min pct 99))).set p PG.PROGRESS_POSITION pos

/-- It ends, by completion or abort. -/
def State.longEnd (s : State) (p : Nat) (completed : Bool) : State :=
  (if completed then s.set p PG.PROGRESS_PERCENT 100 else s).opDone p

/-! ### Life counters (R450) -/

def lifeKey (p idx : Nat) : FKey := ⟨p, idx, 0, 0⟩

/-- Counters of 64 bits: power-on seconds and the slack histograms (R451). -/
def lifeWide (p idx : Nat) : Bool := p == 0x006 && (idx < 2 || inRange 0x1000 idx 0x2FFF)

def State.lifeGet (s : State) (p idx : Nat) : Nat := SMap.get 0 s.life.counters (lifeKey p idx)

def State.lifePut (s : State) (p idx v : Nat) : State :=
  { s with life := { s.life with counters := SMap.put FKey.ord 0 s.life.counters (lifeKey p idx) v } }

/-- A life counter advances and saturates; counters of absent units are not stored. -/
def State.lifeAdd (s : State) (p idx : Nat) (n : Nat := 1) : State :=
  if s.present p then
    s.lifePut p idx (min (s.lifeGet p idx + n) (2 ^ (if lifeWide p idx then 64 else 32) - 1))
  else s

/-! ### Accesses to pages -/

/-- An access to a page that is absent or reserved (R6). -/
def State.absentHit (s : State) : State := (s.count Pg.host HOST.ABSENT_HITS).event Pg.host 2

/-- HOST.BRINGUP.READY (R478). -/
def State.ready (s : State) : Bool := s.flag Pg.host HOST.BRINGUP_READY

/-- Host writes before READY reach HOST and CINCH only (R478). -/
def State.writeOpen (s : State) (m : Master) (p : Nat) : Bool :=
  m ≠ .host || s.ready || p == Pg.host || p == Pg.cinch

/-- A write elsewhere in a page abandons its unlock sequence (R47). -/
def State.abandonUnlock (s : State) (p : Nat) : State :=
  { s with ctrl := { s.ctrl with unlockKey := s.ctrl.unlockKey.filter (· ≠ p) } }

/-- A register write by m to page p: counted on an absent page, ignored before READY, else it has its effect. -/
def State.writeTo (s : State) (m : Master) (p : Nat) (f : State → State) : State :=
  if s.present p then
    if s.writeOpen m p then (f (s.abandonUnlock p)).answer (.ok []) else s.answer (.ok [])
  else s.absentHit.answer (.ok [])

/-- A register read by m of page p: zeros on an absent page. -/
def State.readFrom (s : State) (p : Nat) (f : State → State × Word) : State :=
  if s.present p then (f s).1.answer (.ok [(f s).2]) else s.absentHit.answer (.ok [0])

/-- The page's RWL fields ignore writes. -/
def State.locked (s : State) (p : Nat) : Bool := s.flag p PG.LOCK_LOCKED

/-- The unit of a page takes work (R42). -/
def State.enabled (s : State) (p : Nat) : Bool := s.flag p PG.CTRL_EN && !s.flag p PG.CTRL_DRAIN

/-! ### Time (R58, R305 to R315) -/

/-- 10^9. -/
def nsPerSec : Nat := 1000000000

/-- A counter's time in units of 2^-32 ns. -/
def Counter.units (c : Counter) : Nat := (c.sec * nsPerSec + c.ns) * 2 ^ 32 + c.frac

/-- Time from units: SEC wraps at 2^48 (R305). -/
def Counter.ofUnits (c : Counter) (u : Nat) : Counter :=
  { c with frac := u % 2 ^ 32, ns := u / 2 ^ 32 % nsPerSec, sec := u / 2 ^ 32 / nsPerSec % 2 ^ 48 }

/-- The slew of n cycles: its step in each, and no more than what remains (R311). -/
def Counter.slewIn (c : Counter) (n : Nat) : Int :=
  let m : Nat := min (n * c.slewStep) c.slew.natAbs
  if 0 ≤ c.slew then (m : Int) else -(m : Int)

/-- n cycles of R305 at once. -/
def Counter.advance (c : Counter) (n : Nat) : Counter :=
  let d := c.slewIn n
  { c.ofUnits ((c.units + n * (c.incNs * 2 ^ 32 + c.incFrac) : Nat) + d).toNat with slew := c.slew - d }

/-- TIME1 counts only while TIME.PG_CTRL.EN is 1 (R307). -/
def State.advance (s : State) (n : Nat) : State :=
  { s with
    now := s.now + n
    time := { s.time with
      c0 := s.time.c0.advance n
      c1 := if s.flag Pg.time PG.CTRL_EN then s.time.c1.advance n else s.time.c1 } }

/-- Time has come to `due`, if it had not (log 7). -/
def State.reach (s : State) (due : Nat) : State := s.advance (due - s.now)

/-- The island cycle at which TIME0 reaches a time in ns, at its present increment. -/
def State.cycleAt (s : State) (ns : Nat) : Nat :=
  let c := s.time.c0
  let inc := c.incNs * 2 ^ 32 + c.incFrac
  if inc = 0 then s.now else s.now + (ns * 2 ^ 32 - c.units + inc - 1) / inc

/-- Time passes until TIME0 reads at least a number of ns. -/
def State.untilTime0 (s : State) (ns : Nat) : State := s.reach (s.cycleAt ns)

/-- The full time of TIME0 in nanoseconds, and its linear stamp (R314). -/
def Counter.nanos (c : Counter) : Nat := c.sec * nsPerSec + c.ns
def Counter.linear (c : Counter) : Nat := c.nanos % 2 ^ 32
def State.nanos0 (s : State) : Nat := s.time.c0.nanos

/-- Island cycles in a time given in ns, µs or ms: 5 cycles are 8 ns. -/
def cyclesNs (ns : Nat) : Nat := ns * 5 / 8
def cyclesUs (us : Nat) : Nat := us * 625
def cyclesMs (ms : Nat) : Nat := ms * 625000
def cyclesSec (sec : Nat) : Nat := sec * 625000000

/-! ### Sample rates (R15) -/

/-- fs in Hz of FABRIC.DOM_CFG.RATE, and B of BSIZE. -/
def rateHz (code : Nat) : Nat :=
  match code with
  | 0 => 44100
  | 1 => 48000
  | 2 => 88200
  | 3 => 96000
  | 4 => 176400
  | _ => 192000

def blockOf (code : Nat) : Nat := 4 * 2 ^ code

/-! ### The output gating of a pair (R437, R446) -/

/-- The node drives its outputs: pairing is off, or PAIR_ACT_OUT is high, or the effect tick of a handover to this node
has passed and PAIR_ACT_OUT has still to rise. -/
def State.emits (s : State) : Bool :=
  !s.pairing || !s.flag Pg.keeper KEEPER.CFG_PAIR_EN || s.flag Pg.keeper KEEPER.STAT_ACT_OUT ||
    s.keeper.armed.any fun h => h.incoming && h.passed

/-! ### Masters -/

/-- A control core: the firmware's own registers take writes from no one else. -/
def Master.isCore : Master → Bool
  | .core _ => true
  | _ => false

/-- Every element of a list acts on the state in turn. -/
def State.each {α : Type} (s : State) (l : List α) (f : State → α → State) : State := l.foldl f s

end Sys2Proof.Machine
end

