-- ==== Sys2Proof/Machine/StirrupOps.lean ====
section
/-!
DEFINITION. What the Stirrup loops' commands share (chapter 16): the states of R410, the choice of the carrier (R398),
carrier starts, supply groups and bridge pairs (R405, R406), and the gate path of the node safe state (R404).
-/

namespace Sys2Proof.Machine

/-! ### Loop states (R410) -/

def Loop.off : Nat := 0
def Loop.softStart : Nat := 1
def Loop.run : Nat := 2
def Loop.hiccup : Nat := 3
def Loop.sleep : Nat := 4
def Loop.wake : Nat := 5
def Loop.safe : Nat := 6
def Loop.latched : Nat := 7

def State.loop (s : State) (n : Nat) : Stirrup := nget Stirrup.reset s.loops n
def State.setLoop (s : State) (n : Nat) (l : Stirrup) : State := { s with loops := nput Stirrup.reset s.loops n l }

def State.loopState (s : State) (n : Nat) : Nat := s.get (Pg.stirrup n) STIRRUP.STAT_STATE
def State.setLoopState (s : State) (n v : Nat) : State := s.set (Pg.stirrup n) STIRRUP.STAT_STATE v

/-- The loop exists on this part. -/
def State.hasLoop (s : State) (n : Nat) : Bool := n < s.loopCount

/-- SOFT_START, RUN and WAKE switch. -/
def State.switching (s : State) (n : Nat) : Bool :=
  s.loopState n == Loop.softStart || s.loopState n == Loop.run || s.loopState n == Loop.wake

/-- The level of a loop's gate drive and STIRn_EN: high only while it switches and the supply monitor allows (R393,
R489). -/
def State.gatesLive (s : State) (n : Nat) : Bool := s.switching n && !s.ctrl.supplyCut

/-- CFG.BRIDGE: the loop is one of a pair (R406). -/
def State.bridged (s : State) (n : Nat) : Bool := s.flag (Pg.stirrup n) STIRRUP.CFG_BRIDGE

/-- The loop whose COMP, avoid table and carrier govern loop n (R406). -/
def State.governor (s : State) (n : Nat) : Nat := if s.bridged n then n / 2 * 2 else n

/-- The input patch point of a loop: loop 2k takes the input of a bridge pair (R406). -/
def State.loopInput (s : State) (n : Nat) : Nat := s.get (Pg.stirrup (s.governor n)) STIRRUP.CFG_IN_PATCH

/-- |sample| in Q1.31. -/
def magnitude (v : Word) : Nat := v.toInt.natAbs

/-- The loops that trip and latch together with loop n: its supply group, and its bridge mate (R405, R406). -/
def State.loopGroup (s : State) (n : Nat) : List Nat :=
  let g := s.get (Pg.stirrup n) STIRRUP.CTRL_SUPPLY_GRP
  (List.range 16).filter fun k =>
    k = n || (g ≠ 0 && s.get (Pg.stirrup k) STIRRUP.CTRL_SUPPLY_GRP = g) || (s.bridged n && k / 2 = n / 2)

/-- Loop n and its bridge mate. -/
def State.loopPair (s : State) (n : Nat) : List Nat :=
  if s.bridged n then [n / 2 * 2, n / 2 * 2 + 1] else [n]

/-! ### The carrier (R396, R398) -/

/-- The kilohertz window of COMP.WINDOW. -/
def windowOf (high : Bool) : Nat × Nat := if high then (1850, 2400) else (300, 480)

/-- |k × f - a| ≥ 5 kHz + k × 2 kHz, with a in 0.1 kHz. -/
def clearOf (f k a : Nat) : Bool := 10 * (5 + 2 * k) ≤ ((10 * k * f : Nat) - (a : Int)).natAbs

/-- f keeps clear of every listed channel with its first three harmonics. -/
def allowedCarrier (table : SMap Nat Nat) (f : Nat) : Bool :=
  table.all fun e => e.2 = 0 || (clearOf f 1 e.2 && clearOf f 2 e.2 && clearOf f 3 e.2)

/-- |f - req|. -/
def carrierMiss (f req : Nat) : Nat := ((f : Int) - req).natAbs

/-- The allowed f nearest the request, the lower one on a tie (R398). -/
def chooseCarrier (high : Bool) (table : SMap Nat Nat) (req : Nat) : Option Nat :=
  let w := windowOf high
  ((List.range (w.2 - 2 - (w.1 + 2) + 1)).map (· + (w.1 + 2))).foldl
    (fun best f =>
      if allowedCarrier table f then
        match best with
        | none => some f
        | some b => if carrierMiss f req < carrierMiss b req then some f else some b
      else best)
    none

/-- The avoid table's shadow copy, as AVOID_DATA holds it. -/
def State.shadowTable (s : State) (n : Nat) : SMap Nat Nat :=
  ((List.range 32).map fun i => (i, s.get (Pg.stirrup n) STIRRUP.AVOID_DATA_FREQ i)).filter fun e => e.2 ≠ 0

/-- COMP's register word. -/
def State.compWord (s : State) (n : Nat) : Word :=
  let p := Pg.stirrup n
  BitVec.ofNat 32 (s.get p STIRRUP.COMP_WINDOW * 2 ^ 31 + s.get p STIRRUP.COMP_INT_FU * 2 ^ 20 +
    s.get p STIRRUP.COMP_K_IN * 2 ^ 16 + s.get p STIRRUP.COMP_OZ_KHZ * 2 ^ 8 + s.get p STIRRUP.COMP_K_OUT * 2 ^ 3 +
    s.get p STIRRUP.COMP_DEADTIME)

/-- fc, somewhere within 2 kHz of fT (R396): a free value in that span. -/
def State.measureCarrier (s : State) (n fT : Nat) : State :=
  s.free.2.set (Pg.stirrup n) STIRRUP.STAT_FC_MEAS (10 * fT - 20 + s.free.1 % 41)

/-- A trip of the last 10 s. -/
def recentTrips (now : Nat) (ts : List Nat) : List Nat := ts.filter fun t => now < t + cyclesSec 10

/-- What a loop shows that time alone changes: the trips of the last 10 s, and the limiter's release at 6 dB per 100 ms
(R399, R402). -/
def State.refreshLoop (s : State) (n : Nat) : State :=
  let p := Pg.stirrup n
  let l := s.loop n
  let s := s.set p STIRRUP.STAT_TRIPS_10S (min (recentTrips s.now l.trips).length 7)
  if s.flag p STIRRUP.STAT_LIMITING then
    let gr := l.limitGr - 60 * (s.now - l.limitAt) / cyclesMs 100
    (s.set p STIRRUP.MEAS_GR gr).setFlag p STIRRUP.STAT_LIMITING (gr != 0)
  else s

/-- fc and h / h0 of a switching loop: free values, fc within 2 kHz of its target, or within its window while the limiter
or a move acts (R396, R397, R399, R400, log 3). -/
def State.measureLoop (s : State) (n : Nat) : State :=
  let p := Pg.stirrup n
  if !s.switching n then s
  else
    let w := windowOf ((s.loop n).comp.getLsbD 31)
    let s := if (s.loop n).moving.isSome || s.flag p STIRRUP.STAT_LIMITING then
        s.free.2.set p STIRRUP.STAT_FC_MEAS (10 * w.1 + s.free.1 % (10 * (w.2 - w.1) + 1))
      else s.measureCarrier n (s.get p STIRRUP.CARRIER_FC_TARGET)
    s.free.2.set p STIRRUP.MEAS_HYST_RATIO s.free.1

/-- A current peak in 1/65,536 of ISNS full scale: MEAS.I_PEAK, and the highest peak current of life counter 2. -/
def State.notePeak (s : State) (n peak : Nat) : State :=
  let p := Pg.stirrup n
  let s := s.set p STIRRUP.MEAS_I_PEAK (max (s.get p STIRRUP.MEAS_I_PEAK) peak)
  let amps := (exactDiv (peak * s.get p STIRRUP.ZCAL_I_FS : Nat) 65536).toNat
  if s.lifeGet p 2 < amps then s.lifePut p 2 (min amps (2 ^ 32 - 1)) else s

/-- What a loop shows at a tick and at a read of STAT or MEAS: a switching loop's current has reached a free peak, no
higher than OC_LIMIT, which it would have tripped at (log 330). -/
def State.senseLoop (s : State) (n : Nat) : State :=
  let s := (s.refreshLoop n).measureLoop n
  if s.switching n then s.free.2.notePeak n (s.free.1 % (256 * s.get (Pg.stirrup n) STIRRUP.PROT_OC_LIMIT + 1)) else s

/-- The gates go low in a state that does not switch. -/
def State.gatesLow (s : State) (n st : Nat) : State :=
  let p := Pg.stirrup n
  ((((s.setLoopState n st).set p STIRRUP.STAT_FC_MEAS 0).set p STIRRUP.STAT_LIMITING 0).set p STIRRUP.MEAS_GR 0)

/-- The avoid table a starting loop takes: the one pending, else the one in effect (R398, R400). -/
def Stirrup.tableInForce (l : Stirrup) : SMap Nat Nat :=
  match l.pend with
  | some a => a.table
  | none => l.avoid

/-- The carrier frequency fT of a starting loop, from its governor's COMP, avoid table and FC_REQ (R395, R398). -/
def State.carrierFor (s : State) (n : Nat) : Option Nat :=
  chooseCarrier ((s.compWord (s.governor n)).getLsbD 31) (s.loop (s.governor n)).tableInForce
    (s.get (Pg.stirrup (s.governor n)) STIRRUP.CARRIER_FC_REQ)

/-- The carrier starts at fT: COMP and a pending avoid table take effect (R395, R398, R400). -/
def State.startAtCarrier (s : State) (n st fT : Nat) : State :=
  let g := s.governor n
  let l := s.loop n
  let s1 := s.setLoop n { l with
    comp := s.compWord g, avoid := (s.loop g).tableInForce, fcReq := s.get (Pg.stirrup g) STIRRUP.CARRIER_FC_REQ,
    pend := none, moving := none, startAt := s.now, stopping := false, silentAt := none, refs := [] }
  let s2 := (s1.set (Pg.stirrup n) STIRRUP.CARRIER_FC_TARGET fT).set (Pg.stirrup n) STIRRUP.STAT_AVOID_PEND 0
  (s2.setLoopState n st).measureLoop n

/-- A start with the frequency the choice gave; with no allowed frequency the loop stays OFF (R395, R398). -/
def State.startWith (s : State) (n st : Nat) : Option Nat → State
  | none => (s.gatesLow n Loop.off).event (Pg.stirrup n) 4
  | some fT => s.startAtCarrier n st fT

/-- The carrier starts in SOFT_START or WAKE (R395, R398). -/
def State.startCarrier (s : State) (n st : Nat) : State := s.startWith n st (s.carrierFor n)

/-- A loop may start: its driver reports no fault (R402). -/
def State.beginSoftStart (s : State) (n : Nat) : State :=
  if (s.loop n).drvLow then s else s.startCarrier n Loop.softStart

/-- The loop enters SAFE; a latched loop keeps its latch (R404, R418). -/
def State.enterSafe (s : State) (n : Nat) : State :=
  if !s.hasLoop n || s.loopState n == Loop.latched || s.loopState n == Loop.safe then s
  else s.gatesLow n Loop.safe

/-- It leaves SAFE: into the rest of a hiccup, into a soft start, or OFF (R404). -/
def State.leaveSafe (s : State) (n : Nat) : State :=
  if !s.hasLoop n || s.loopState n != Loop.safe then s
  else if (s.loop n).hiccup then s.setLoopState n Loop.hiccup
  else if s.flag (Pg.stirrup n) PG.CTRL_EN then (s.setLoopState n Loop.off).beginSoftStart n
  else s.setLoopState n Loop.off

/-- The loop latches with a cause: 1 OC, 2 DC, 3 OSC (R402, R403). -/
def State.latchLoop (s : State) (n cause : Nat) : State :=
  let p := Pg.stirrup n
  let s := (s.gatesLow n Loop.latched).set p STIRRUP.STAT_LATCH_CAUSE cause
  let s := s.setLoop n { s.loop n with hiccup := false }
  ((s.count p STIRRUP.LATCHES).lifeAdd p 1).event p 1

/-- A member of the group of a tripping loop: what the trip does to its gates (R401, R405). -/
def State.tripMember (s : State) (fourth : Bool) (k : Nat) : State :=
  let p := Pg.stirrup k
  let l := s.loop k
  let ts := s.now :: recentTrips s.now l.trips
  let was := s.switching k
  let st := s.loopState k
  let s := s.setLoop k { l with trips := ts, tripAt := s.now, hiccup := !fourth, moving := none, stopping := false }
  let s := s.set p STIRRUP.STAT_TRIPS_10S (min ts.length 7)
  let s := if was then s.event p 0 else s
  if fourth then (if st = Loop.latched then s else s.latchLoop k 1)
  else if was then s.gatesLow k Loop.hiccup
  else s

/-- A hiccup ends for one loop: SOFT_START, or OFF when EN has been cleared. -/
def State.hiccupOver (s : State) (k : Nat) : State :=
  let s' := s.setLoop k { s.loop k with hiccup := false }
  if s.loopState k = Loop.hiccup then
    if s.flag (Pg.stirrup k) PG.CTRL_EN then s'.beginSoftStart k else s'.setLoopState k Loop.off
  else s'

/-- A latch is cleared for one loop (R402). -/
def State.unlatch (s : State) (k : Nat) : State :=
  let p := Pg.stirrup k
  let st := s.loopState k
  let s := s.setLoop k { s.loop k with trips := [] }
  let s := s.set p STIRRUP.STAT_TRIPS_10S 0
  if st = Loop.latched then
    let s := (s.set p STIRRUP.STAT_LATCH_CAUSE 0).setLoopState k Loop.off
    if s.flag p PG.CTRL_EN then s.beginSoftStart k else s
  else s

/-- EN is set on the page: an idle loop starts (R410). -/
def State.stirrupEnabled (s : State) (n : Nat) : State :=
  if s.loopState n = Loop.off then s.beginSoftStart n else s

/-- EN is cleared: a switching loop fades its reference over 5 ms and stops; the others are OFF at once but for a
hiccup, a latch and SAFE (R411). -/
def State.stirrupDrained (s : State) (n : Nat) : State :=
  if s.switching n then s.setLoop n { s.loop n with stopping := true, stopAt := s.now }
  else if s.loopState n = Loop.sleep then s.setLoopState n Loop.off
  else s

/-- The drain of R411 has run its course: the loop is OFF. -/
def State.stirrupQuiesced (s : State) (n : Nat) : State :=
  let l := s.loop n
  let s := s.setLoop n { l with stopping := false, hiccup := false, moving := none }
  if s.loopState n = Loop.safe then s else (s.gatesLow n Loop.off).set (Pg.stirrup n) STIRRUP.STAT_LATCH_CAUSE 0

/-- A drain that fades the reference has its 5 ms (R411). -/
def State.loopFaded (s : State) (n : Nat) : State :=
  if (s.loop n).stopping then s.reach ((s.loop n).stopAt + cyclesMs 5) else s

/-- SRST also clears the latch, TRIPS_10S and the load tracker, and keeps the RWL settings (R411). STAT.DRV_FLT follows its
pin, and STIRRUP_OC the time since the last trip (R402). -/
def State.stirrupReset (s : State) (n : Nat) : State :=
  let l := s.loop n
  (s.setLoop n { Stirrup.reset with drvLow := l.drvLow, carrierSecs := l.carrierSecs, tripAt := l.tripAt, loadAt := l.loadAt }).setFlag
    (Pg.stirrup n) STIRRUP.STAT_DRV_FLT l.drvLow

end Sys2Proof.Machine
end

