-- ==== Sys2Proof/Machine/CinchOps.lean ====
section
/-!
DEFINITION. What every unit's faults share (chapter 17): sources that become active and inactive, occurrences and their
records, reactions, mutes, the node safe state, withdrawal.
-/

namespace Sys2Proof.Machine

/-! ### Sources (R413) -/

def Src.awlAov : Nat := 0x00
def Src.awlIllegal : Nat := 0x01
def Src.awlDeadline : Nat := 0x02
def Src.exhausted : Nat := 0x03
def Src.swapCancel : Nat := 0x04
def Src.deliveryLate : Nat := 0x05
def Src.girthEcc : Nat := 0x10
def Src.girthShadow : Nat := 0x11
def Src.harnessDecode : Nat := 0x12
def Src.wipeFail : Nat := 0x13
def Src.dramUe : Nat := 0x20
def Src.dramStorm : Nat := 0x21
def Src.dramThrottle : Nat := 0x22
def Src.movLate : Nat := 0x23
def Src.laneLos : Nat := 0x30
def Src.tsLost : Nat := 0x31
def Src.underrun : Nat := 0x32
def Src.pathLoss : Nat := 0x33
def Src.rebase : Nat := 0x34
def Src.reinHold : Nat := 0x40
def Src.holdExpired : Nat := 0x41
def Src.disagree : Nat := 0x42
def Src.ptpUnlocked : Nat := 0x43
def Src.stepped : Nat := 0x44
def Src.stirOc : Nat := 0x50
def Src.stirDc : Nat := 0x51
def Src.stirOsc : Nat := 0x52
def Src.stirLoad : Nat := 0x53
def Src.feedA : Nat := 0x60
def Src.feedB : Nat := 0x61
def Src.pairLoss : Nat := 0x62
def Src.powerWarn : Nat := 0x63
def Src.tamper : Nat := 0x64
def Src.thermWarn : Nat := 0x65
def Src.thermTrip : Nat := 0x66
def Src.watchdog : Nat := 0x67
def Src.margin : Nat := 0x68
def Src.sapLoss : Nat := 0x70
def Src.sapSlip : Nat := 0x71
def Src.bridgeHold : Nat := 0x72
def Src.commitFail : Nat := 0x73
def Src.linkDown : Nat := 0x74

/-- Every source of R413. -/
def Src.all : List Nat :=
  [0x00, 0x01, 0x02, 0x03, 0x04, 0x05, 0x10, 0x11, 0x12, 0x13, 0x20, 0x21, 0x22, 0x23] ++
  [0x30, 0x31, 0x32, 0x33, 0x34, 0x40, 0x41, 0x42, 0x43, 0x44, 0x50, 0x51, 0x52, 0x53] ++
  [0x60, 0x61, 0x62, 0x63, 0x64, 0x65, 0x66, 0x67, 0x68, 0x70, 0x71, 0x72, 0x73, 0x74]

/-- Sources whose condition is an event, held live for 1 s (R302, R415). -/
def Src.held (src : Nat) : Bool :=
  [0x00, 0x01, 0x03, 0x04, 0x05, 0x23, 0x31, 0x34, 0x44, 0x73].contains src

/-- An instance of a source that belongs to no absent unit (R9). -/
def State.srcPresent (s : State) (src inst : Nat) : Bool :=
  if !Src.all.contains src then false
  else if src ≤ 0x05 then src = 0x04 || inst < s.tileCount
  else if inRange 0x20 src 0x23 then inst < s.dramCount
  else if src = 0x30 then s.present (Pg.lane inst)
  else if src = 0x31 then inst < s.macCount
  else if inRange 0x32 src 0x33 then inst < s.flowCount
  else if inRange 0x50 src 0x53 then inst < s.loopCount
  else if src = 0x62 then s.pairing
  else if inRange 0x70 src 0x71 then inst < s.sapCount
  else if src = 0x72 then inst < s.bridgeCount
  else true

/-- FORCE has an effect on a source that some present unit has (R429). -/
def State.srcForceable (s : State) (src : Nat) : Bool := s.srcPresent src 0

def State.cinchSrc (s : State) (src : Nat) : CinchSrc := nget CinchSrc.reset s.cinch.srcs src

def State.setCinchSrc (s : State) (src : Nat) (c : CinchSrc) : State :=
  { s with cinch := { s.cinch with srcs := nput CinchSrc.reset s.cinch.srcs src c } }

/-- LIVE: some instance is active, or FORCE is set on a source that has a unit (R414, R429). -/
def State.live (s : State) (src : Nat) : Bool :=
  !(s.cinchSrc src).active.isEmpty || (s.flag Pg.cinch CINCH.SRC_CFG_FORCE src && s.srcForceable src)

def Rstate.idle : Nat := 0
def Rstate.active : Nat := 1
def Rstate.quiet : Nat := 2
def Rstate.held : Nat := 3

def State.rstate (s : State) (src : Nat) : Nat := s.get Pg.cinch CINCH.SRC_STAT_RSTATE src
def State.reactLevel (s : State) (src : Nat) : Nat := s.get Pg.cinch CINCH.SRC_STAT_REACT_LEVEL src

/-- The source holds a reaction of this level or above. -/
def State.reacting (s : State) (level src : Nat) : Bool :=
  s.rstate src != Rstate.idle && level ≤ s.reactLevel src

/-- CINCH.SAFE: some source holds a reaction of level 3 or 4 (R421). -/
def State.safe (s : State) : Bool := Src.all.any (s.reacting 3)

/-- CINCH.MUTE: a group is muted by a reaction of level 2 in force. -/
def State.groupMuted (s : State) (g : Nat) : Bool :=
  Src.all.any fun src => s.reacting 2 src && s.reactLevel src == 2 && (s.cinchSrc src).group == g

/-- ERR_N is low while any source holds a reaction of level 2 or above (R427). -/
def State.errLow (s : State) : Bool := Src.all.any (s.reacting 2)

/-- The output groups that the running plan declares (R417). -/
def State.planGroups (s : State) : List (Nat × List Nat) :=
  match s.fabric.running with
  | some p => p.groups
  | none => []

/-- The patch point is muted: by the safe state, or by a group that it belongs to (R418, R421). -/
def State.patchMuted (s : State) (patch : Nat) : Bool :=
  s.safe || s.planGroups.any fun g => g.2.contains patch && s.groupMuted g.1

/-- A loop is muted by the safe state or with its input patch point (R419). -/
def State.loopMuted (s : State) (n : Nat) : Bool :=
  s.safe || s.patchMuted (s.loopInput n)

/-- Every patch point of the output groups, and all that hold samples. -/
def State.outputPatches (s : State) : List Nat :=
  let blocks := match s.fabric.running with
    | some p => p.blocks.map (·.1)
    | none => []
  (s.planGroups.flatMap (·.2) ++ blocks ++ s.mix.patch.map (·.1)).eraseDups

/-- What follows from a change of the reactions in force: loops enter or leave SAFE, released patch points fade in from
the next tick (R513), the safe state's events. -/
def State.reconcile (old : State) (s : State) : State :=
  let s := s.each (List.range 16) fun t n =>
    if s.loopMuted n then t.enterSafe n else if old.loopMuted n then t.leaveSafe n else t
  let freed := s.outputPatches.filter fun p => old.patchMuted p && !s.patchMuted p
  let muted := s.outputPatches.filter s.patchMuted
  let rel := (s.cinch.release.filter fun e => !muted.contains e.1)
  let rel := freed.foldl (fun m p => SMap.insert id (SMap.erase m p) p 0) rel
  let s := { s with cinch := { s.cinch with release := rel } }
  let s := if !old.safe && s.safe then s.event Pg.cinch 3 else s
  if old.safe && !s.safe then s.event Pg.cinch 4 else s

/-! ### Occurrences (R414, R416, R423) -/

/-- Level 4 resets of the last 10 min. -/
def recentResets (now : Nat) (ts : List Nat) : List Nat := ts.filter fun t => now < t + cyclesSec 600

/-- A level 4 occurrence would make the fourth reset within 10 min, or STORM stands (R422). -/
def State.stormy (s : State) : Bool :=
  s.flag Pg.cinch CINCH.RESET_STAT_STORM || 3 ≤ (recentResets s.now s.cinch.resetTimes).length

/-- The level at which an occurrence of the present severity and group reacts (R417, R422). -/
def State.effectiveLevel (s : State) (src : Nat) : Nat :=
  let sev := s.get Pg.cinch CINCH.SRC_CFG_SEVERITY src
  let g := s.get Pg.cinch CINCH.SRC_CFG_GROUP src
  if sev = 2 && !(g ≠ 0 && s.planGroups.any fun e => e.1 == g) then 1
  else if sev = 4 && s.stormy && !s.cinch.resetPending then 3
  else sev

/-- The first-fault stamp, instance and LATCH_FORCED of an occurrence on an unlatched source. -/
def State.stampFirst (s : State) (src inst : Nat) (forced : Bool) : State :=
  let t := s.time.c0
  (((((s.set Pg.cinch CINCH.SRC_T_SEC_LO_SEC t.sec src).set Pg.cinch CINCH.SRC_T_SEC_HI_SEC (t.sec / 2 ^ 32) src).set
    Pg.cinch CINCH.SRC_T_NS_NS t.ns src).set Pg.cinch CINCH.SRC_INST_FIRST_INST inst src).setFlag
    Pg.cinch CINCH.SRC_STAT_LATCH_FORCED forced src)

/-- The record of an occurrence, whatever its severity (R423). -/
def State.recordOccurrence (s : State) (src inst : Nat) (forced : Bool) : State :=
  let s := if s.flag Pg.cinch CINCH.SRC_STAT_LATCHED src then s else s.stampFirst src inst forced
  let s := s.set Pg.cinch CINCH.SRC_STAT_LATCHED 1 src
  let s := s.set Pg.cinch CINCH.SRC_INST_LAST_INST inst src
  (s.count Pg.cinch CINCH.SRC_COUNT_OCCURRENCES 1 src).lifeAdd Pg.cinch src

/-- CINCH.FIRST at level 2 or above (R428). -/
def State.recordFirst (s : State) (src level : Nat) : State :=
  if 2 ≤ level && !s.flag Pg.cinch CINCH.FIRST_VALID then
    (s.set Pg.cinch CINCH.FIRST_VALID 1).set Pg.cinch CINCH.FIRST_SOURCE src
  else s

/-- Level 4: a reset is pending, unless one is already or the storm rule holds (R422). -/
def State.level4 (s : State) (src sev level : Nat) : State :=
  if level = 4 && !s.cinch.resetPending then
    let s := (s.count Pg.cinch CINCH.RESET_STAT_RESETS).set Pg.cinch CINCH.RESET_STAT_LAST_SOURCE src
    let s := s.lifeAdd Pg.cinch 128
    { s with cinch := { s.cinch with
        resetPending := true, resetTimes := s.now :: recentResets s.now s.cinch.resetTimes } }
  else if sev = 4 && level = 3 && !s.flag Pg.cinch CINCH.RESET_STAT_STORM then
    (s.set Pg.cinch CINCH.RESET_STAT_STORM 1).event Pg.cinch 5
  else s

/-- An occurrence: a source goes from not live to live (R414, R416, R425). -/
def State.occurrence (s : State) (src inst : Nat) (forced : Bool) : State :=
  let sev := s.get Pg.cinch CINCH.SRC_CFG_SEVERITY src
  let level := s.effectiveLevel src
  let g := s.get Pg.cinch CINCH.SRC_CFG_GROUP src
  let old := s
  let s := s.recordOccurrence src inst forced
  let s := s.setCinchSrc src { s.cinchSrc src with group := g, pend := (s.cinchSrc src).pend || 1 ≤ sev }
  let s := ((s.set Pg.cinch CINCH.SRC_STAT_RSTATE Rstate.active src).set Pg.cinch CINCH.SRC_STAT_REACT_LEVEL level src)
  let s := s.setFlag Pg.cinch CINCH.SRC_STAT_NO_GROUP (sev == 2 && level == 1) src
  let s := (s.recordFirst src level).level4 src sev level
  let s := if sev = 1 then s.event Pg.cinch 0 else if 2 ≤ sev then s.event Pg.cinch 1 else s
  State.reconcile old s

/-- An event of an event source starts or extends its hold: of 1 s (R415), of 1 ms for a shadowed write (R198), of 1 s at
least for a fall of TAMPER_N (R430). -/
def State.holdEvent (s : State) (src inst : Nat) : State :=
  if Src.held src || src == Src.girthShadow || src == Src.tamper then
    s.setCinchSrc src { s.cinchSrc src with heldAt := nset (s.cinchSrc src).heldAt inst s.now }
  else s

/-- A source's condition becomes true for an instance (R414). -/
def State.raise (s : State) (src inst : Nat) : State :=
  if !s.srcPresent src inst then s
  else if (s.cinchSrc src).active.contains inst then s.holdEvent src inst
  else
    let s := s.holdEvent src inst
    let was := s.live src
    let s := s.setCinchSrc src { s.cinchSrc src with active := inst :: (s.cinchSrc src).active }
    if was then s.set Pg.cinch CINCH.SRC_INST_LAST_INST inst src else s.occurrence src inst false

/-- LIVE falls: QUIET with auto-recovery, else HELD (R425). -/
def State.liveFell (s : State) (src : Nat) : State :=
  if s.rstate src = Rstate.active then
    if s.flag Pg.cinch CINCH.SRC_CFG_AUTO src then
      (s.setCinchSrc src { s.cinchSrc src with quietAt := s.now }).set Pg.cinch CINCH.SRC_STAT_RSTATE Rstate.quiet src
    else s.set Pg.cinch CINCH.SRC_STAT_RSTATE Rstate.held src
  else s

/-- A source's condition ends for an instance. -/
def State.lower (s : State) (src inst : Nat) : State :=
  let was := s.live src
  let s := s.setCinchSrc src { s.cinchSrc src with
    active := (s.cinchSrc src).active.filter (· ≠ inst), heldAt := SMap.erase (s.cinchSrc src).heldAt inst }
  if was && !s.live src then s.liveFell src else s

/-- The condition of an instance is what `on` says. -/
def State.setSource (s : State) (src inst : Nat) (on : Bool) : State :=
  if on then s.raise src inst else s.lower src inst

/-- The reaction of a source is withdrawn, by auto-recovery or by REACT_CLR (R425). -/
def State.withdraw (s : State) (src : Nat) (auto : Bool) : State :=
  let old := s
  let s := ((s.set Pg.cinch CINCH.SRC_STAT_RSTATE Rstate.idle src).set Pg.cinch CINCH.SRC_STAT_REACT_LEVEL 0 src).set
    Pg.cinch CINCH.SRC_STAT_NO_GROUP 0 src
  let s := if auto then
      ((s.count Pg.cinch CINCH.SRC_RECOV_RECOVERIES 1 src).lifeAdd Pg.life (0x80 + src)).event Pg.cinch 2
    else s
  State.reconcile old s

/-- QUIET_LEFT: quiet time that remains, in 10 ms (R425). -/
def State.quietLeft (s : State) (src : Nat) : Nat :=
  if s.rstate src = Rstate.quiet then
    s.get Pg.cinch CINCH.SRC_CFG_QUIET src - (s.now - (s.cinchSrc src).quietAt) / cyclesMs 10
  else 0

end Sys2Proof.Machine
end

