-- ==== Sys2Proof/Machine/Cinch.lean ====
section
/-!
DEFINITION. The commands of the Cinch (chapter 17), but for the level 4 reset, which is a soft reset (Machine/Startup).
-/

namespace Sys2Proof.Machine

/-- SOURCE_HOLD_END (R415): the second since the latest event of an instance has passed. -/
def execSourceHoldEnd (src inst : Nat) (s : State) : Outcome :=
  .next (whenHolds (Src.held src && (s.cinchSrc src).active.contains inst) s fun s =>
    (s.reach (nget s.now (s.cinchSrc src).heldAt inst + cyclesSec 1)).lower src inst)

/-- QUIET_EXPIRY (R425): the quiet timer reaches QUIET, and auto-recovery withdraws the reaction. -/
def execQuietExpiry (src : Nat) (s : State) : Outcome :=
  .next (whenHolds (s.rstate src == Rstate.quiet) s fun s =>
    (s.reach ((s.cinchSrc src).quietAt + cyclesMs (10 * s.get Pg.cinch CINCH.SRC_CFG_QUIET src))).withdraw src true)

/-- The source that SRC_SEL shows. -/
def State.shownSource (s : State) : Nat := s.get Pg.cinch CINCH.SRC_SEL_SOURCE

/-- A write that acts on the source shown; a reserved number ignores it. -/
def State.writeSource (s : State) (m : Master) (f : Nat → State → State) : State :=
  s.writeTo m Pg.cinch fun s => if Src.all.contains s.shownSource then f s.shownSource s else s

/-- REACT_CLR (R425): the reaction is withdrawn in QUIET and HELD, and the write refused while LIVE is 1. -/
def execReactClr (m : Master) (s : State) : Outcome :=
  .next (s.writeSource m fun src s =>
    if s.live src then s.event Pg.cinch 6
    else if s.rstate src = Rstate.quiet || s.rstate src = Rstate.held then s.withdraw src false
    else s)

/-- A write of 1 to LATCHED (R423, R424): ignored while LIVE is 1; else the record opens for the next first fault. -/
def State.clearLatched (s : State) (src : Nat) : State :=
  if s.live src then s
  else
    let p := Pg.cinch
    (((((((s.set p CINCH.SRC_STAT_LATCHED 0 src).set p CINCH.SRC_STAT_LATCH_FORCED 0 src).set
      p CINCH.SRC_INST_FIRST_INST 0 src).set p CINCH.SRC_INST_LAST_INST 0 src).set p CINCH.SRC_T_SEC_LO_SEC 0 src).set
      p CINCH.SRC_T_SEC_HI_SEC 0 src).set p CINCH.SRC_T_NS_NS 0 src)

/-- LATCHED_CLEAR (R424). -/
def execLatchedClear (m : Master) (s : State) : Outcome :=
  .next (s.writeSource m fun src s => s.clearLatched src)

/-- The force bit of a source (R429). -/
def State.setForce (s : State) (src : Nat) (on : Bool) : State :=
  let was := s.live src
  let s := s.setFlag Pg.cinch CINCH.SRC_CFG_FORCE on src
  if !was && s.live src then s.occurrence src 0 true
  else if was && !s.live src then s.liveFell src
  else s

/-- AUTO and QUIET of SRC_CFG, which apply at once (R426). -/
def State.setAutoQuiet (s : State) (src auto quiet : Nat) : State :=
  let p := Pg.cinch
  let s := if s.get p CINCH.SRC_CFG_AUTO src = 1 && auto = 0 && s.rstate src = Rstate.quiet then
      s.set p CINCH.SRC_STAT_RSTATE Rstate.held src else s
  let s := s.set p CINCH.SRC_CFG_AUTO auto src
  if inRange 1 quiet 6000 && quiet ≠ s.get p CINCH.SRC_CFG_QUIET src then
    (s.set p CINCH.SRC_CFG_QUIET quiet src).setCinchSrc src { s.cinchSrc src with quietAt := s.now }
  else s

/-- SRC_CFG_WRITE (R426): FORCE always, the RWL fields unless the page is locked; a reserved SEVERITY leaves the field. -/
def execSrcCfgWrite (m : Master) (v : Word) (s : State) : Outcome :=
  .next (s.writeSource m fun src s =>
    let p := Pg.cinch
    let s := if s.locked p then s
      else
        let s := s.set p CINCH.SRC_CFG_GROUP (CINCH.SRC_CFG_GROUP.of v) src
        let sev := CINCH.SRC_CFG_SEVERITY.of v
        let s := if sev ≤ 4 then s.set p CINCH.SRC_CFG_SEVERITY sev src else s
        s.setAutoQuiet src (CINCH.SRC_CFG_AUTO.of v) (CINCH.SRC_CFG_QUIET.of v)
    s.setForce src (CINCH.SRC_CFG_FORCE.of v == 1))

/-- FORCE (R429): the force bit of the source shown is set or cleared. -/
def execForce (m : Master) (on : Bool) (s : State) : Outcome :=
  .next (s.writeSource m fun src s => s.setForce src on)

/-- A thermal source becomes active at or above its limit, and inactive 5 °C below it (R430). -/
def State.thermal (s : State) (src : Nat) (tj limit : Int) : State :=
  if limit ≤ tj then s.raise src 0 else if tj < limit - 5 then s.lower src 0 else s

/-- TJ_READ (R430): the hottest junction sensor, every 1 ms. -/
def execTjRead (tj : Int) (s : State) : Outcome :=
  .next (
    let s := s.reach (s.cinch.tjAt + cyclesMs 1)
    let s := { s with cinch := { s.cinch with tjAt := s.now } }
    let p := Pg.cinch
    let top := s.get p CINCH.THERM_STAT_TJ_MAX
    let s := s.set p CINCH.THERM_STAT_TJ (unsigned 8 tj)
    let s := if signed 8 top < tj || top = 0x80 then s.set p CINCH.THERM_STAT_TJ_MAX (unsigned 8 tj) else s
    let l := s.life
    let s := { s with life := { l with
      tjSecond := some (max tj (l.tjSecond.getD tj))
      tjs := (s.now, tj) :: l.tjs.filter fun e => s.now < e.1 + cyclesSec 10 } }
    let s := s.thermal Src.thermWarn tj (s.get p CINCH.THERM_CFG_WARN)
    s.thermal Src.thermTrip tj (s.get p CINCH.THERM_CFG_TRIP))

/-- TAMPER_CLEAR (R430): TAMPER_N has been high for 1 s, which its last fall precedes. -/
def execTamperClear (s : State) : Outcome :=
  .next (whenHolds ((s.cinchSrc Src.tamper).active.contains 0) s fun s =>
    let s := s.reach (nget s.now (s.cinchSrc Src.tamper).heldAt 0 + cyclesSec 1)
    ({ s with girth := { s.girth with tamperN := true } }).lower Src.tamper 0)

end Sys2Proof.Machine
end

