-- ==== Sys2Proof/Machine/GirthOps.lean ====
section
/-!
DEFINITION. What the Girth's commands share (chapter 07): its address split, the vault, wipes, the redirection of the
region under test, poison, retention, and the service of one slot at a bank.
-/

namespace Sys2Proof.Machine

def State.onGirth (s : State) (f : Girth → Girth) : State := { s with girth := f s.girth }

def State.bank (s : State) (b : Nat) : Bank := nget Bank.reset s.girth.banks b
def State.setBank (s : State) (b : Nat) (x : Bank) : State :=
  s.onGirth fun g => { g with banks := nput Bank.reset g.banks b x }

/-! ### Addresses (R191, R192) -/

def State.girthSize (s : State) : Nat := s.bankCount * 2 ^ 20
def State.banksPerSegment (s : State) : Nat := s.bankCount / 8

/-- The bank, segment and row of a Girth offset. -/
def State.bankOf (s : State) (o : Nat) : Nat := o / 4096 % s.bankCount
def State.segmentOf (s : State) (o : Nat) : Nat := s.bankOf o / s.banksPerSegment
def State.rowOf (s : State) (o : Nat) : Nat := o / 4096 / s.bankCount * 4 + o / 1024 % 4

/-! ### The vault (R206 to R210) -/

/-- The vault area's base: the top 4 MiB. -/
def State.vaultBase (s : State) : Nat := 2 ^ 20 * (s.bankCount - 4)

/-- The granule that an offset lies in. -/
def State.granuleOf (s : State) (o : Nat) : Option Nat :=
  if s.vaultBase ≤ o then some ((o - s.vaultBase) / 65536) else none

/-- VAULT_MAP as one word of 64 bits. -/
def State.vaultMap (s : State) : BitVec 64 :=
  BitVec.ofNat 64 (s.get Pg.girth GIRTH.VAULT_MAP_HI_MAP * 2 ^ 32 + s.get Pg.girth GIRTH.VAULT_MAP_LO_MAP)

def State.setVaultMap (s : State) (m : BitVec 64) : State :=
  (s.set Pg.girth GIRTH.VAULT_MAP_LO_MAP (m.toNat % 2 ^ 32)).set Pg.girth GIRTH.VAULT_MAP_HI_MAP (m.toNat / 2 ^ 32)

def State.vaultFailed (s : State) : BitVec 64 :=
  BitVec.ofNat 64 (s.get Pg.girth GIRTH.VAULT_FAIL_HI_FAILED_MAP * 2 ^ 32 + s.get Pg.girth GIRTH.VAULT_FAIL_LO_FAILED_MAP)

def State.setVaultFailed (s : State) (m : BitVec 64) : State :=
  (s.set Pg.girth GIRTH.VAULT_FAIL_LO_FAILED_MAP (m.toNat % 2 ^ 32)).set Pg.girth GIRTH.VAULT_FAIL_HI_FAILED_MAP
    (m.toNat / 2 ^ 32)

def State.wiping (s : State) : Bool := s.flag Pg.girth GIRTH.VAULT_STAT_WIPING

/-- Control cores (masters 7 to 10) and the Keeper (12). -/
def vaultMaster (master : Nat) : Bool := inRange 7 master 10 || master == 12

/-- An access to an offset is denied: a failed granule to all; a vault granule to every master while a wipe runs, else
to all but the control cores and the Keeper (R207, R209). -/
def State.vaultDenies (s : State) (master o : Nat) : Bool :=
  match s.granuleOf o with
  | some g => s.vaultFailed.getLsbD g || (s.vaultMap.getLsbD g && (s.wiping || !vaultMaster master))
  | none => false

/-- The bits of CAUSE. -/
def Wipe.tamper : Nat := 1
def Wipe.cycle : Nat := 2
def Wipe.mapBit : Nat := 4

/-- A row of some bank failed with no free spare (R205, R476). -/
def State.bankFailed (s : State) : Bool := (List.range 64).any fun b => s.flag Pg.girth GIRTH.BANK_STAT_FAILED b

/-- GIRTH_ECC is active while ECC_INFO.VALID is 1, and from a row that found no spare on (R201, R205, R476). -/
def State.girthEccSource (s : State) : State :=
  s.setSource Src.girthEcc 0 (s.flag Pg.girth GIRTH.ECC_INFO_VALID || s.girth.pinned.isSome || s.bankFailed)

/-- A running wipe has reached some further granule of its own: which, the spec leaves open, and the value is free
(R49, R209; log 317). -/
def State.wipeProgress (s : State) : State :=
  if s.wiping then
    let total := (List.range 64).countP fun g => s.girth.wiping.getLsbD g
    let pos := s.get Pg.girth PG.PROGRESS_POSITION
    let (v, s) := s.free
    let new := pos + v % (total - pos + 1)
    s.longStep Pg.girth (100 * new / total) new
  else s

/-- The region under test ends without its work: BGT_STAT shows none. -/
def State.endTest (s : State) : State :=
  ((s.onGirth fun g => { g with bgt := none }).set Pg.girth GIRTH.BGT_STAT_STATE 0).set Pg.girth GIRTH.BGT_STAT_PHASE 0

/-- A byte of the Girth, from the reserve buffer while its region is redirected (R202, R205). -/
def State.redirected (s : State) (o : Nat) : Bool :=
  s.girth.pinned == some (o / 4096) ||
    (match s.girth.bgt with
    | some (page, ph) => page == o / 4096 && ph ≠ .save
    | none => false)

def State.girthByte (s : State) (o : Nat) : Byte :=
  if s.redirected o then nget 0 s.girth.reserve (o % 4096) else s.byte (Mem.girth + o)

/-- A byte written: to the reserve in TEST and when pinned, to both in SAVE and RESTORE. -/
def State.setGirthByte (s : State) (o : Nat) (b : Byte) : State :=
  let page := o / 4096
  let reserve (t : State) := t.onGirth fun g => { g with reserve := nput 0 g.reserve (o % 4096) b }
  if s.girth.pinned == some page then reserve s
  else match s.girth.bgt with
    | some (p, ph) =>
      if p ≠ page then s.setByte (Mem.girth + o) b
      else if ph = .test then reserve s
      else reserve (s.setByte (Mem.girth + o) b)
    | none => s.setByte (Mem.girth + o) b

/-- Offsets of a page. -/
def pageOffsets (page : Nat) : List Nat := (List.range 4096).map (page * 4096 + ·)

/-- The region's bytes copied into the reserve buffer, and back. -/
def State.saveRegion (s : State) (page : Nat) : State :=
  s.onGirth fun g => { g with
    reserve := (pageOffsets page).foldl (fun m o => nput 0 m (o % 4096) (s.byte (Mem.girth + o))) []
    upset := g.upset.filter fun e => e.1 / 1024 ≠ page
    writebacks := g.writebacks.filter fun w => w / 1024 ≠ page }

def State.restoreRegion (s : State) (page : Nat) : State :=
  s.each (pageOffsets page) fun t o => t.setByte (Mem.girth + o) (nget 0 s.girth.reserve (o % 4096))

/-- What a write to words does to locked sequences that watch them (R230). -/
def State.breakLocks (s : State) (master : Nat) (words : List Nat) : State :=
  s.onGirth fun g => { g with locks := g.locks.map fun l =>
    if l.1 ≠ master && words.any (fun w => l.2.1 / 4 ≤ w && w ≤ (l.2.1 + l.2.2.1 - 1) / 4) then
      (l.1, l.2.1, l.2.2.1, false)
    else l }

/-- The words (offset / 4) that a run of bytes meets. -/
def wordsMet (o n : Nat) : List Nat := (List.range ((o + n + 3) / 4 - o / 4)).map (o / 4 + ·)

/-- The lines that a Girth access meets, with the part of each that it covers: offset and length (R199). -/
def girthLines (o len : Nat) : List (Nat × Nat) :=
  (List.range ((o + len + 15) / 16 - o / 16)).map fun k =>
    let lo := max o ((o / 16 + k) * 16)
    let hi := min (o + len) ((o / 16 + k + 1) * 16)
    (lo, hi - lo)

/-- Lines of an access that the vault denies count one by one (R199, R207). -/
def State.countDenials (s : State) (master o n : Nat) : State :=
  let k := (girthLines o n).countP fun l => s.vaultDenies master l.1
  if k = 0 then s else (s.count Pg.girth GIRTH.VAULT_DENIED k).event Pg.girth 5

/-- Every segment leaves retention (R209). -/
def State.wakeAll (s : State) : State :=
  (s.set Pg.girth GIRTH.RET_CTRL_SEG 0).set Pg.girth GIRTH.RET_STAT_RETAINED 0

/-- A test in the vault is abandoned (R209): a region that the wipe does not cover takes back what the reserve holds, and
the reserve buffer clears (log 130). -/
def State.abandonTest (s : State) : State :=
  match s.girth.bgt with
  | some (page, ph) =>
    match s.granuleOf (page * 4096) with
    | some g =>
      if s.girth.wiping.getLsbD g || s.vaultMap.getLsbD g then
        let s := if s.girth.wiping.getLsbD g || ph == .save then s else s.restoreRegion page
        s.endTest.onGirth fun g => { g with reserve := [] }
      else s
    | none => s
  | none => s

/-- A wipe of granules starts, or the running one is widened (R208 to R210). -/
def State.startWipe (s : State) (granules : BitVec 64) (cause : Nat) : State :=
  let run := s.wiping
  let s := s.onGirth fun g => { g with wiping := (if run then g.wiping else 0) ||| granules }
  let c := if run then s.get Pg.girth GIRTH.VAULT_STAT_CAUSE else 0
  let s := s.set Pg.girth GIRTH.VAULT_STAT_CAUSE (c ||| cause)
  let s := if run then s
    else (((s.set Pg.girth GIRTH.VAULT_STAT_WIPING 1).event Pg.girth 6).longStart Pg.girth).wakeAll
  s.abandonTest

/-- The bytes of a granule as zeros, and its poison with them. -/
def State.zeroRange (s : State) (o n : Nat) : State :=
  let lo := Mem.girth + o
  let s := { s with mem := s.mem.filter fun e => !(lo ≤ e.1 && e.1 < lo + n) }
  s.onGirth fun g => { g with
    poison := g.poison.filter fun w => !(o ≤ 4 * w && 4 * w < o + n)
    upset := g.upset.filter fun e => !(o ≤ 4 * e.1 && 4 * e.1 < o + n) }

def State.zeroGranules (s : State) (m : BitVec 64) : State :=
  s.each (List.range 64) fun t g => if m.getLsbD g then t.zeroRange (t.vaultBase + g * 65536) 65536 else t

/-- Granules in a map. -/
def granuleCount (m : BitVec 64) : Nat := (List.range 64).countP fun g => m.getLsbD g

/-! ### Retention (R211) -/

def State.retained (s : State) (seg : Nat) : Bool := (s.get Pg.girth GIRTH.RET_STAT_RETAINED).testBit seg
def State.waking (s : State) (seg : Nat) : Bool := (s.get Pg.girth GIRTH.RET_STAT_WAKING).testBit seg

def setBits (v m : Nat) : Nat := v ||| m
def clearBits (v m : Nat) : Nat := v - (v &&& m)

/-- A segment begins its wake delay. -/
def State.wakeSegment (s : State) (seg : Nat) : State :=
  let m := 2 ^ seg
  let s := s.set Pg.girth GIRTH.RET_CTRL_SEG (clearBits (s.get Pg.girth GIRTH.RET_CTRL_SEG) m)
  let s := s.set Pg.girth GIRTH.RET_STAT_RETAINED (clearBits (s.get Pg.girth GIRTH.RET_STAT_RETAINED) m)
  s.set Pg.girth GIRTH.RET_STAT_WAKING (setBits (s.get Pg.girth GIRTH.RET_STAT_WAKING) m)

/-- An access reaches a segment in retention: it wakes (R211). -/
def State.wakeByAccess (s : State) (seg : Nat) : State :=
  if s.retained seg then ((s.wakeSegment seg).count Pg.girth GIRTH.RET_WAKES).event Pg.girth 8 else s

/-- An access to a range of offsets wakes the segments that it meets. -/
def State.touchGirth (s : State) (o n : Nat) : State :=
  if s.get Pg.girth GIRTH.RET_STAT_RETAINED = 0 then s
  else s.each (List.range ((o + n + 4095) / 4096 - o / 4096)) fun t k => t.wakeByAccess (t.segmentOf (4096 * (o / 4096 + k)))

/-- No access to a segment is in flight: nothing waits at its banks. -/
def State.segmentIdle (s : State) (seg : Nat) : Bool :=
  s.girth.banks.all fun e => e.1 / s.banksPerSegment ≠ seg || e.2.waiting.isEmpty

/-- Segments whose RET_CTRL bit is set enter retention once no access to them is in flight; a region under background test
is none (DESIGN CHOICE, log 311). While a wipe runs, no segment enters retention, one that the wipe does not need neither
(DESIGN CHOICE, log 351). -/
def State.settleRetention (s : State) : State :=
  s.each (List.range 8) fun t seg =>
    if (t.get Pg.girth GIRTH.RET_CTRL_SEG).testBit seg && !t.waking seg && !t.wiping && t.segmentIdle seg then
      t.set Pg.girth GIRTH.RET_STAT_RETAINED (setBits (t.get Pg.girth GIRTH.RET_STAT_RETAINED) (2 ^ seg))
    else t

/-- The domain of a patch point under a plan: of the tile that it belongs to, else of its endpoint. -/
def planPatchDomain (p : Plan) (q : Nat) : Option Nat :=
  match p.tiles.find? fun t => t.inputs.contains q with
  | some t => some t.domain
  | none =>
    match SMap.find? p.endpoints q with
    | some d => some d
    | none => (p.tiles.find? fun t => t.outputs.contains q).map (·.domain)

/-- Samples of a patch point's channel block under a plan: B of its domain. -/
def planBlock (p : Plan) (q : Nat) : Nat :=
  match p.domains.find? fun x => some x.dom == planPatchDomain p q with
  | some x => blockOf x.bsize.toNat
  | none => 8

/-- The Girth ranges of a plan: its buffers, and its audio blocks of four bytes a sample. -/
def planRanges (p : Plan) : List (Nat × Nat) := p.buffers ++ p.blocks.map fun e => (e.2, 4 * planBlock p e.1)

/-- The pages of 4 KiB that a range of the Girth touches. -/
def pagesOf (b : Nat × Nat) : List Nat := (List.range ((b.2 + b.1 % 4096 + 4095) / 4096)).map (b.1 / 4096 + ·)

/-- Segments that the running plan uses for audio blocks or flow buffers. -/
def State.planUses (s : State) (seg : Nat) : Bool :=
  match s.fabric.running with
  | some p => (planRanges p).any fun b => (pagesOf b).any fun page => s.segmentOf (4096 * page) == seg
  | none => false

/-! ### One slot at a bank (R194 to R201, R230) -/

/-- The first waiting beat of a port. -/
def Bank.head (b : Bank) (port : Nat) : Option Beat := b.waiting.find? fun x => x.port == port

/-- The words (Girth offset / 4) that a write beat writes at least one byte of. -/
def Beat.wordsWritten (x : Beat) : List Nat :=
  if x.write then
    ((List.range x.len).filter fun i => (x.strobes[i]?).getD true).map (fun i => (x.off + i) / 4) |>.eraseDups
  else []

/-- Two writes contend for a word. -/
def Beat.contends (x y : Beat) : Bool := x.wordsWritten.any fun w => y.wordsWritten.contains w

/-- The ports that wait, in rank order. -/
def Bank.ports (b : Bank) : List Nat := (List.range 4).filter fun p => (b.head p).isSome

/-- A port's wait in slots. -/
def Bank.ageOf (b : Bank) (p : Nat) : Nat :=
  match b.head p with
  | some x => x.age
  | none => 0

/-- The port that has waited longest, the higher-ranked of two equal (R195). -/
def longest (age : Nat → Nat) (ps : List Nat) : Option Nat :=
  ps.foldl (fun best p =>
    match best with
    | none => some p
    | some q => if age q < age p then some p else some q) none

/-- The ports that the yield rule counts as waiting: a running wipe that needs the bank takes HOST's place (R209). -/
def Bank.rivals (b : Bank) (wipe : Bool) : List Nat := if wipe then b.ports.filter (· ≠ 3) ++ [3] else b.ports

def Bank.rivalAge (b : Bank) (wipe : Bool) (p : Nat) : Nat := if wipe && p = 3 then b.wipeAge else b.ageOf p

/-- A port whose run has come to its end yields to the lower-ranked port that has waited longest, and a run of DLV and
NET to HOST (R195). -/
def Bank.yields (b : Bank) (wipe : Bool) : Option Nat :=
  if 7 ≤ b.dlvNet && (b.rivals wipe).contains 3 then some 3
  else if 3 ≤ b.run then longest (b.rivalAge wipe) ((b.rivals wipe).filter (b.lastPort < ·))
  else none

/-- The port that a slot serves (R194, R195); none for an idle slot, and for one that a running wipe takes in HOST's place
(R209). -/
def Bank.choose (b : Bank) (wipe : Bool) : Option Nat :=
  match b.ports, b.yields wipe with
  | [], _ => none
  | _, some p => if wipe && p = 3 then none else some p
  | top :: _, none => some top

/-- What the runs become when a slot serves a port; `wipe` says that a running wipe needs the bank. -/
def Bank.served (b : Bank) (p : Nat) (wipe : Bool) : Bank :=
  let lower := (b.rivals wipe).any fun q => p < q
  { b with
    lastPort := p
    run := if !lower then 0 else if p = b.lastPort then b.run + 1 else 1
    dlvNet := if p ≤ 1 && (b.rivals wipe).contains 3 then b.dlvNet + 1 else 0
    wipeAge := if wipe then b.wipeAge + 1 else 0 }

/-- A running wipe needs a bank: one of its granules has a page there (R209). -/
def State.wipeNeeds (s : State) (b : Nat) : Bool :=
  s.wiping && (List.range 64).any fun g => s.girth.wiping.getLsbD g &&
    (List.range 16).any fun k => s.bankOf (s.vaultBase + g * 65536 + 4096 * k) == b

/-- The first beat of a port leaves the bank. -/
def dropHead (p : Nat) : List Beat → List Beat
  | [] => []
  | x :: xs => if x.port = p then xs else x :: dropHead p xs

/-- Every head but the served one has waited a slot more. -/
def ageHeads (served : Nat) (l : List Beat) : List Beat :=
  (l.foldl (fun (acc : List Beat × List Nat) x =>
    if acc.2.contains x.port then (acc.1 ++ [x], acc.2)
    else (acc.1 ++ [if x.port = served then x else { x with age := x.age + 1 }], x.port :: acc.2)) ([], [])).1

/-- A change of the transaction that holds a Girth lane. -/
def State.laneTxn (s : State) (seg lane : Nat) (f : Txn → Txn) : State :=
  { s with harness := { s.harness with
      txns := s.harness.txns.map fun t => if t.granted && t.port == 4 * seg + lane then f t else t } }

/-- The counter of shadowed writes of a port (DLV has none). -/
def State.countShadow (s : State) (port : Nat) : State :=
  if port = 1 then s.count Pg.girth GIRTH.SHADOW_NET
  else if port = 2 then s.count Pg.girth GIRTH.SHADOW_MOV
  else if port = 3 then s.count Pg.girth GIRTH.SHADOW_HOST
  else s

/-- A locked write fails (R230). -/
def State.lockFailed (s : State) : State := (s.count Pg.harness HARNESS.LOCK_FAILS).event Pg.harness 2

/-- The statuses of R223. -/
def Hst.okay : Nat := 0
def Hst.shadowed : Nat := 1
def Hst.misaligned : Nat := 2
def Hst.lockFailed : Nat := 3
def Hst.decode : Nat := 4
def Hst.unsupported : Nat := 5
def Hst.aborted : Nat := 6

/-- The real-time class of the mover: the stream QoS of R245. -/
def realTimeMover (r : HReq) : Bool := r.master == 6 && r.descQos == 14

/-- The channel on whose page a mover's shadowed write counts: that of the plan's first read stream (log 31). -/
def State.moverChannel (s : State) : Nat :=
  match s.fabric.running with
  | some p => ((p.streams.find? fun x => x.read).map (·.chan)).getD 0
  | none => 0

/-- A shadowed write of a port counts, sets SHADOW, and makes GIRTH_SHADOW active (R198). -/
def State.shadowed (s : State) (port : Nat) : State :=
  ((s.countShadow port).event Pg.girth 2).raise Src.girthShadow (port + 1)

/-- A write is shadowed and discarded whole (R196, R198, R230, R37, R247). -/
def State.shadowBeat (s : State) (seg : Nat) (x : Beat) : State :=
  let first := s.harness.txns.any fun t => t.granted && t.port == 4 * seg + x.port && t.status ≠ Hst.shadowed
  let rt := s.harness.txns.any fun t => t.granted && t.port == 4 * seg + x.port && realTimeMover t.req
  let s := s.shadowed x.port
  let s := if x.locked then
      s.lockFailed.onGirth fun g => { g with locks := g.locks.filter fun l => l.1 ≠ x.master }
    else s
  let s := if x.master = 11 && first then (s.count Pg.host HOST.WIN_SHADOWED).event Pg.host 4 else s
  let s := if rt then s.count (Pg.dram s.moverChannel) DRAM.MOV_SHADOWED else s
  s.laneTxn seg x.port fun t =>
    { t with beats := t.beats - 1, status := if x.locked then Hst.lockFailed else Hst.shadowed }

/-- Bytes of a word that a beat writes: all four. -/
def Beat.writesWhole (x : Beat) (w : Nat) : Bool :=
  (List.range 4).all fun k =>
    let o := 4 * w + k
    x.off ≤ o && o < x.off + x.len && (x.strobes[o - x.off]?).getD true

/-- A write beat's bytes reach the Girth; words written whole lose their poison and their errors (R200, R201). -/
def State.storeBeat (s : State) (x : Beat) : State :=
  let s := s.each (List.range x.len) fun t i =>
    if (x.strobes[i]?).getD true then t.setGirthByte (x.off + i) ((x.data[i]?).getD 0) else t
  (s.breakLocks x.master x.wordsWritten).onGirth fun g => { g with
    poison := g.poison.filter fun w => !x.writesWhole w
    upset := g.upset.filter fun e => !x.writesWhole e.1 }

/-- A corrected error (R200). -/
def State.girthCe (s : State) (o : Nat) : State :=
  let b := s.bankOf o
  let row := s.rowOf o
  let s := ((s.count Pg.girth GIRTH.CE_COUNT).count Pg.girth GIRTH.BANK_STAT_CE 1 b).event Pg.girth 0
  let s := s.lifeAdd Pg.girth 0
  let ts := (s.now :: nget [] (s.bank b).ceRows row).take 4
  let s := s.setBank b { s.bank b with ceRows := nput [] (s.bank b).ceRows row ts }
  let s := s.onGirth fun g => { g with
    writebacks := if g.writebacks.contains (o / 4) then g.writebacks else g.writebacks ++ [o / 4] }
  if ts.length = 4 && ts.all (fun t => s.now < t + cyclesSec 1) && !s.girth.ahead.contains (o / 4096) then
    s.onGirth fun g => { g with ahead := g.ahead ++ [o / 4096] }
  else s

/-- An uncorrectable word is read (R201). -/
def State.girthUe (s : State) (o : Nat) : State :=
  let s := ((s.count Pg.girth GIRTH.UE_COUNT).event Pg.girth 1).lifeAdd Pg.girth 1
  let s := s.onGirth fun g => if g.poison.contains (o / 4) then g else { g with poison := (o / 4) :: g.poison }
  let s := if s.flag Pg.girth GIRTH.ECC_INFO_VALID then s
    else (s.set Pg.girth GIRTH.ECC_INFO_VALID 1).set Pg.girth GIRTH.ECC_INFO_OFFSET (o / 4 * 4)
  s.girthEccSource

/-- Words whose check bits show an error from here on, until they are written: Girth offsets (R200, R201). -/
def State.upsets (s : State) (ecc : List (Nat × Ecc)) : State :=
  s.onGirth fun g => { g with upset := ecc.foldl (fun m e => nset m (e.1 / 4) e.2) g.upset }

/-- What the check bits of a word show when it is read from its bank; the reserve buffer holds it corrected (R202). -/
def State.upsetAt (s : State) (w : Nat) : Option Ecc :=
  if s.redirected (4 * w) then none else SMap.find? s.girth.upset w

/-- Words that are read, with what their check bits show (R200, R201). -/
def State.checkRange (s : State) (o n : Nat) : State :=
  s.each (wordsMet o n) fun t w =>
    if t.girth.poison.contains w then t.girthUe (4 * w)
    else match t.upsetAt w with
      | some .single => t.girthCe (4 * w)
      | some .double => t.girthUe (4 * w)
      | none => t

/-- Some word of a range is poisoned. -/
def State.rangePoisoned (s : State) (o n : Nat) : Bool :=
  s.girth.poison.any fun w => o / 4 ≤ w && 4 * w < o + n

/-- Some word of a beat is poisoned. -/
def State.beatPoisoned (s : State) (x : Beat) : Bool := s.rangePoisoned x.off x.len

/-- A port without ROTATE refuses an access that is not aligned to 4 bytes; the whole access ends (R199). -/
def State.refuseMisaligned (s : State) (seg : Nat) (x : Beat) : State :=
  let b := s.bankOf x.off
  let s := (s.count Pg.girth GIRTH.MISALIGNED).event Pg.girth 10
  let s := s.setBank b { s.bank b with waiting := (s.bank b).waiting.filter fun y => y.port ≠ x.port }
  s.laneTxn seg x.port fun t => { t with beats := 0, status := Hst.misaligned }

/-- A vault granule denies an access (R207); a locked sequence whose write it denies is over (R230). -/
def State.denyVault (s : State) (seg : Nat) (x : Beat) : State :=
  let s := (s.count Pg.girth GIRTH.VAULT_DENIED).event Pg.girth 5
  let s := if x.locked && x.write then s.onGirth fun g => { g with locks := g.locks.filter fun l => l.1 ≠ x.master }
    else s
  s.laneTxn seg x.port fun t =>
    { t with beats := t.beats - 1, rdata := if x.write then t.rdata else t.rdata ++ List.replicate x.len 0 }

/-- A read beat; one of a locked sequence is watched from here on. -/
def State.readBeat (s : State) (seg : Nat) (x : Beat) : State :=
  let s := s.checkRange x.off x.len
  let data := (List.range x.len).map fun i => s.girthByte (x.off + i)
  let poison := if s.beatPoisoned x then [(0x40000000 + x.off / 16 * 16, 16)] else []
  let s := if x.locked then s.onGirth fun g => { g with locks := (x.master, x.off, x.len, true) :: g.locks } else s
  s.laneTxn seg x.port fun t =>
    { t with beats := t.beats - 1, rdata := t.rdata ++ data, poison := t.poison ++ poison }

/-- A write beat; a locked one is discarded when another port has written its words. -/
def State.writeBeat (s : State) (seg : Nat) (x : Beat) : State :=
  let broken := x.locked && s.girth.locks.any fun l => l.1 == x.master && !l.2.2.2
  let s := if x.locked then s.onGirth fun g => { g with locks := g.locks.filter fun l => l.1 ≠ x.master } else s
  if broken then
    s.lockFailed.laneTxn seg x.port fun t => { t with beats := t.beats - 1, status := Hst.lockFailed }
  else (s.storeBeat x).laneTxn seg x.port fun t => { t with beats := t.beats - 1 }

/-- A port without ROTATE does not take an access that is not aligned to 4 bytes (R199). -/
def State.unaligned (s : State) (port o : Nat) : Bool :=
  !(s.get Pg.girth GIRTH.PORT_CFG_ROTATE).testBit port && o % 4 ≠ 0

def State.misaligned (s : State) (x : Beat) : Bool := s.unaligned x.port x.off

/-- A chosen beat is served. -/
def State.serveBeat (s : State) (seg : Nat) (x : Beat) : State :=
  if s.misaligned x then s.refuseMisaligned seg x
  else if s.vaultDenies x.master x.off then s.denyVault seg x
  else if x.write then s.writeBeat seg x
  else s.readBeat seg x

/-- A beat changes nothing: refused or denied. -/
def State.ineffective (s : State) (x : Beat) : Bool := s.misaligned x || s.vaultDenies x.master x.off

/-- Lower-ranked writes that contend with a higher-ranked one in this slot (R196). -/
def State.losers (s : State) (b : Nat) : List Beat :=
  let heads := (s.bank b).ports.filterMap (s.bank b).head
  heads.filter fun x => !s.ineffective x && heads.any fun y => y.port < x.port && !s.ineffective y && x.contends y

/-- One slot at bank b: contending writes are discarded, one access is served, the others wait. -/
def State.slot (s : State) (b : Nat) : State :=
  let seg := b / s.banksPerSegment
  let s := s.each (s.losers b) fun t x =>
    (t.setBank b { t.bank b with waiting := dropHead x.port (t.bank b).waiting }).shadowBeat seg x
  let bk := s.bank b
  let wipe := s.wipeNeeds b
  match bk.choose wipe with
  | none =>
    if bk.ports.isEmpty then s
    else s.setBank b { bk with dlvNet := 0, run := 0, wipeAge := 0, waiting := ageHeads 4 bk.waiting }
  | some p =>
    match bk.head p with
    | none => s
    | some x =>
      let s := s.setBank b { bk.served p wipe with waiting := dropHead p (ageHeads p bk.waiting) }
      s.serveBeat seg x

/-! ### An engine's own accesses -/

/-- Accesses of the port's rank and above that wait at a bank are served ahead of one that comes now (R194, R197); `n`
bounds their slots. -/
def State.serveAhead (s : State) (port b : Nat) : Nat → State
  | 0 => s
  | n + 1 => if (s.bank b).waiting.any fun y => y.port ≤ port then (s.slot b).serveAhead port b n else s

/-- The bank comes to serve an access of a port that arrives now. -/
def State.reachBank (s : State) (port b : Nat) : State :=
  if (s.bank b).waiting.isEmpty then s
  else
    let s := s.serveAhead port b (2 * (s.bank b).waiting.length + 2)
    let bk := s.bank b
    s.setBank b { bk.served port (s.wipeNeeds b) with waiting := ageHeads port bk.waiting }

/-- Waiting heads of a bank with which a write contends. -/
def State.contenders (s : State) (x : Beat) : List Beat :=
  let bk := s.bank (s.bankOf x.off)
  (bk.ports.filterMap bk.head).filter fun y => !s.ineffective y && x.contends y

/-- A line of an engine's write reaches its bank. It is shadowed by a higher-ranked write that waits there for one of its
words, and shadows the lower-ranked ones (R196); a denied line changes nothing (R207). Answers whether it was shadowed. -/
def State.storeLine (s : State) (x : Beat) : State × Bool :=
  if s.vaultDenies x.master x.off then ((s.count Pg.girth GIRTH.VAULT_DENIED).event Pg.girth 5, false)
  else if (s.contenders x).any fun y => y.port < x.port then (s.shadowed x.port, true)
  else
    let b := s.bankOf x.off
    let s := s.each ((s.contenders x).filter fun y => x.port < y.port) fun t y =>
      (t.setBank b { t.bank b with waiting := dropHead y.port (t.bank b).waiting }).shadowBeat (b / t.banksPerSegment) y
    ((s.reachBank x.port b).storeBeat x, false)

/-- A line of an engine's access. -/
def lineBeat (port master o : Nat) (data : List Byte) (l : Nat × Nat) (write : Bool) : Beat :=
  { port := port, master := master, id := 0, off := l.1, len := l.2, write := write, data := (data.drop (l.1 - o)).take l.2,
    strobes := [], locked := false, age := 0 }

/-- An access that is not aligned is refused and counts (R199). -/
def State.countMisaligned (s : State) : State := (s.count Pg.girth GIRTH.MISALIGNED).event Pg.girth 10

/-- Bytes that an engine stores in the Girth through its port, a line at a time; answers whether a line was shadowed. -/
def State.store (s : State) (port master o : Nat) (data : List Byte) : State × Bool :=
  if s.unaligned port o then (s.countMisaligned, false)
  else (girthLines o data.length).foldl (fun r l =>
    let q := r.1.storeLine (lineBeat port master o data l true)
    (q.1, r.2 || q.2)) (s.touchGirth o data.length, false)

/-- A line that an engine reads: zeros where the vault denies it, else its bytes, checked (R200, R207). -/
def State.fetchLine (s : State) (x : Beat) : State × List Byte :=
  if s.vaultDenies x.master x.off then
    ((s.count Pg.girth GIRTH.VAULT_DENIED).event Pg.girth 5, List.replicate x.len 0)
  else
    let s := (s.reachBank x.port (s.bankOf x.off)).checkRange x.off x.len
    (s, (List.range x.len).map fun i => s.girthByte (x.off + i))

/-- Bytes that an engine reads from the Girth through its port, a line at a time. The spec does not say what an engine
takes for data that a misaligned read does not bring: it is free (log 315). -/
def State.fetch (s : State) (port master o n : Nat) : State × List Byte :=
  if s.unaligned port o then (s.countMisaligned, (List.range n).map fun i => Config.unreadByte (o + i))
  else (girthLines o n).foldl (fun r l =>
    let q := r.1.fetchLine (lineBeat port master o [] l false)
    (q.1, r.2 ++ q.2)) (s.touchGirth o n, [])

/-! ### Audio blocks (R155, R201, R207, R211) -/

/-- The Girth offset of a patch point's channel block, where the running plan names one (log 316). -/
def State.blockAt (s : State) (q : Nat) : Option Nat :=
  match s.fabric.running with
  | some p => (p.blocks.find? fun e => e.1 == q).map (·.2)
  | none => none

/-- Words of little-endian bytes (log 5). -/
def wordsOf : List Byte → List Word
  | a :: b :: c :: d :: l => wordOf a b c d :: wordsOf l
  | _ => []

/-- Samples that stand in the Girth: zeros for poisoned words and where the vault denies them. -/
def State.girthSamples (s : State) (o n : Nat) : List Word :=
  (List.range n).map fun i =>
    let a := o + 4 * i
    if s.girth.poison.contains (a / 4) || s.vaultDenies 0 a then 0
    else wordOf (s.girthByte a) (s.girthByte (a + 1)) (s.girthByte (a + 2)) (s.girthByte (a + 3))

/-- The samples that a patch point holds: those of its channel block, or of the patch point itself where the running plan
gives it no place in the Girth. -/
def State.patchWords (s : State) (q : Nat) : List Word :=
  match s.fabric.running, s.blockAt q with
  | some p, some o => s.girthSamples o (planBlock p q)
  | _, _ => nget [] s.mix.patch q

/-- A block written to a patch point through a port; answers whether a line of it was shadowed. -/
def State.putBlock (s : State) (port master q : Nat) (l : List Word) : State × Bool :=
  match s.blockAt q with
  | some o => s.store port master o (l.flatMap bytesOf)
  | none => ({ s with mix := { s.mix with patch := nset s.mix.patch q l } }, false)

/-- What the delivery engine reads of a patch point's block: an uncorrectable word counts, and its sample is replaced by
zero (R201). -/
def State.readBlock (s : State) (q : Nat) : State × List Word :=
  match s.fabric.running, s.blockAt q with
  | some p, some o =>
    let r := s.fetch 0 0 o (4 * planBlock p q)
    (r.1, (wordsOf r.2).zipIdx.map fun e => if r.1.girth.poison.contains (o / 4 + e.2) then 0 else e.1)
  | _, _ => (s, nget [] s.mix.patch q)

end Sys2Proof.Machine
end

