-- ==== Sys2Proof/Machine/Operands.lean ====
section
/-!
DEFINITION. The operands of Awl instructions: the register file, pointer addressing (R101, R102), the data memories with
the block windows and the parameter banks (R96, R97, R107, R110).
-/

namespace Sys2Proof.Machine

/-! ### Registers (R99) -/

def Tile.gReg (t : Tile) (n : BitVec 5) : Word := nget 0 t.g n.toNat
def Tile.setG (t : Tile) (n : BitVec 5) (v : Word) : Tile := { t with g := nput 0 t.g n.toNat v }
def Tile.pReg (t : Tile) (n : BitVec 3) : BitVec 15 := nget 0 t.p n.toNat
def Tile.setP (t : Tile) (n : BitVec 3) (v : BitVec 15) : Tile := { t with p := nput 0 t.p n.toNat v }
def Tile.mReg (t : Tile) (n : BitVec 3) : BitVec 16 := nget 0 t.m n.toNat
def Tile.setM (t : Tile) (n : BitVec 3) (v : BitVec 16) : Tile := { t with m := nput 0 t.m n.toNat v }
def Tile.lReg (t : Tile) (n : BitVec 3) : BitVec 15 := nget 0 t.l n.toNat
def Tile.setL (t : Tile) (n : BitVec 3) (v : BitVec 15) : Tile := { t with l := nput 0 t.l n.toNat v }
def Tile.aReg (t : Tile) (k : BitVec 2) : Acc80 := nget 0 t.acc k.toNat
def Tile.setA (t : Tile) (k : BitVec 2) (v : Acc80) : Tile := { t with acc := nput 0 t.acc k.toNat v }

/-- The clamp state of an accumulator (R115). -/
def Tile.clamped (t : Tile) (k : BitVec 2) : Bool := t.clamp.getLsbD k.toNat

def Tile.setClamp (t : Tile) (k : BitVec 2) (on : Bool) : Tile :=
  let m : BitVec 4 := 1#4 <<< k.toNat
  { t with clamp := if on then t.clamp ||| m else t.clamp &&& ~~~m }

/-! ### Pointer modifies (R101) -/

/-- The smallest power of two not below a length of 1 to 16,384. -/
def ringSize (len : Nat) : Nat :=
  ((List.range 15).map (2 ^ ·)).find? (fun n => len ≤ n) |>.getD 16384

/-- A modify of a pointer by a step under a circular length; a length above 16,384 acts as 16,384 (R99). -/
def modify (p : BitVec 15) (step : Int) (len : BitVec 15) : BitVec 15 :=
  if len = 0 then BitVec.ofInt 15 ((p.toNat : Int) + step)
  else
    let n := min len.toNat 16384
    let b := p.toNat / ringSize n * ringSize n
    BitVec.ofInt 15 ((b : Int) + ((p.toNat : Int) - b + step) % (n : Int))

/-- at(Pn, j): the address that a modify of +j from Pn reaches (R102). -/
def Tile.at_ (t : Tile) (n : BitVec 3) (j : Int) : BitVec 15 := modify (t.pReg n) j (t.lReg n)

/-- Pn moved by a step under its own length. -/
def Tile.stepP (t : Tile) (n : BitVec 3) (step : Int) : Tile := t.setP n (t.at_ n step)

/-- post(Pn), if asked for: the modify of Pn by Mn. -/
def Tile.post (t : Tile) (on : Bool) (n : BitVec 3) : Tile := if on then t.stepP n (t.mReg n).toInt else t

/-- The post-modifies of two pointer fields: one modify when they name one register (R130). -/
def Tile.post2 (t : Tile) (on1 : Bool) (n1 : BitVec 3) (on2 : Bool) (n2 : BitVec 3) : Tile :=
  if n1 = n2 then t.post (on1 || on2) n1 else (t.post on1 n1).post on2 n2

/-! ### Data memories -/

/-- What a tile's addresses depend on: WIN_HALF, NIN, NOUT, the block size, and the active bank. -/
structure Win where
  half : Nat
  nin : Nat
  nout : Nat
  block : Nat
  bankB : Bool
  deriving DecidableEq, Repr

/-- W, the first address of the tile's current half (R107). -/
def Win.base (w : Win) : Nat := 0x4000 - w.half

/-- The address lies in the delivery engine's half. -/
def Win.foreign (w : Win) (a : BitVec 15) : Bool :=
  let x := a.toNat % 0x4000
  0x4000 - 2 * w.half ≤ x && x < w.base

/-- The physical word of X behind an address: the halves exchange roles with `swapped` (R107, R108). -/
def Win.phys (w : Win) (swapped : Bool) (x : Nat) : Nat :=
  if swapped && 0x4000 - 2 * w.half ≤ x then (if x < w.base then x + w.half else x - w.half) else x

/-- X[a], by a[13:0]. -/
def Tile.readX (t : Tile) (w : Win) (a : BitVec 15) : Word := nget 0 t.x (w.phys t.half (a.toNat % 0x4000))

def Tile.writeX (t : Tile) (w : Win) (a : BitVec 15) (v : Word) : Tile :=
  { t with x := nput 0 t.x (w.phys t.half (a.toNat % 0x4000)) v }

/-- The parameter bank that is active, and the other (R110). -/
def Tile.bank (t : Tile) (b : Bool) : SMap Nat Word := if b then t.bankB else t.bankA

def Tile.param (t : Tile) (b : Bool) (slot : Nat) : Word := nget 0 (t.bank b) slot

def Tile.setParam (t : Tile) (b : Bool) (slot : Nat) (v : Word) : Tile :=
  if b then { t with bankB := nput 0 t.bankB slot v } else { t with bankA := nput 0 t.bankA slot v }

/-- Y[a], by a[13:0]: the inactive bank at 0x2000, the active bank at 0x3000. -/
def Tile.readY (t : Tile) (w : Win) (a : BitVec 15) : Word :=
  let y := a.toNat % 0x4000
  if 0x3000 ≤ y then t.param w.bankB (y - 0x3000)
  else if 0x2000 ≤ y then t.param (!w.bankB) (y - 0x2000)
  else nget 0 t.y y

/-- A tile write to Y below the banks. -/
def Tile.writeY (t : Tile) (a : BitVec 15) (v : Word) : Tile := { t with y := nput 0 t.y (a.toNat % 0x4000) v }

/-- Bit [14] selects Y (R96). -/
def selectsY (a : BitVec 15) : Bool := a.getLsbD 14

def Tile.readMem (t : Tile) (w : Win) (a : BitVec 15) : Word := if selectsY a then t.readY w a else t.readX w a

def Tile.writeMem (t : Tile) (w : Win) (a : BitVec 15) (v : Word) : Tile :=
  if selectsY a then t.writeY a v else t.writeX w a v

/-! ### Causes of AWL_ILLEGAL by address (R121) -/

/-- An X access: cause 0x2 in the delivery engine's half. -/
def Win.xCause (w : Win) (a : BitVec 15) : List Nat := if w.foreign a then [2] else []

/-- A read under R129. -/
def Win.readCause (w : Win) (a : BitVec 15) : List Nat := if selectsY a then [] else w.xCause a

/-- A write under R129: cause 0x3 in Y 0x2000 to 0x3FFF. -/
def Win.writeCause (w : Win) (a : BitVec 15) : List Nat :=
  if selectsY a then (if 0x2000 ≤ a.toNat % 0x4000 then [3] else []) else w.xCause a

end Sys2Proof.Machine
end

