-- ==== Sys2Proof/Machine/Flags.lean ====
section
/-!
DEFINITION. The arithmetic of the tiles: the flags N, Z, V and C (R100, R141), the accumulators with their clamp (R114
to R116), and the stored result of an accumulator (R118).
-/

namespace Sys2Proof.Machine

/-- Flags of a result: N and Z from it, V and C given. -/
def Tile.flags (t : Tile) (r : Word) (v c : Bool) : Tile := { t with fn := r.msb, fz := r == 0, fv := v, fc := c }

/-- Signed overflow of a sum, and its carry out of bit [31]. -/
def addOverflow (a b : Word) : Bool := (a + b).toInt ≠ a.toInt + b.toInt
def addCarry (a b : Word) : Bool := 2 ^ 32 ≤ a.toNat + b.toNat

/-- Signed overflow of a difference, and no borrow. -/
def subOverflow (a b : Word) : Bool := (a - b).toInt ≠ a.toInt - b.toInt
def subCarry (a b : Word) : Bool := b.toNat ≤ a.toNat

/-- The flags of a + b, and of a - b. -/
def Tile.addFlags (t : Tile) (a b : Word) : Tile := t.flags (a + b) (addOverflow a b) (addCarry a b)
def Tile.subFlags (t : Tile) (a b : Word) : Tile := t.flags (a - b) (subOverflow a b) (subCarry a b)

/-- The last bit shifted out, 0 for a count of 0: to the left, to the right. -/
def shlOut (a : Word) (k : Nat) : Bool := k ≠ 0 && a.getLsbD (32 - k)
def shrOut (a : Word) (k : Nat) : Bool := k ≠ 0 && a.getLsbD (k - 1)

/-- SHL overflows when ASR of the result by k differs from the operand. -/
def shlOverflow (a : Word) (k : Nat) : Bool := (a <<< k).sshiftRight k != a

/-- |v|, with |0x8000_0000| given as 0x7FFF_FFFF. -/
def sabs (v : Word) : Word := if v = 0x80000000 then 0x7FFFFFFF else if v.msb then -v else v

/-- The condition codes of BRC (R134); 0xF is reserved. -/
def Tile.holds (t : Tile) (cond : BitVec 4) : Bool :=
  match cond.toNat with
  | 0 => t.fz
  | 1 => !t.fz
  | 2 => t.fc
  | 3 => !t.fc
  | 4 => t.fn
  | 5 => !t.fn
  | 6 => t.fv
  | 7 => !t.fv
  | 8 => t.fc && !t.fz
  | 9 => !t.fc || t.fz
  | 10 => t.fn == t.fv
  | 11 => t.fn != t.fv
  | 12 => !t.fz && t.fn == t.fv
  | 13 => t.fz || t.fn != t.fv
  | _ => true

/-! ### Accumulators -/

/-- What an instruction does to its tile: the new tile, whether an accumulator newly clamped, whether a store
saturated. -/
structure Done where
  tile : Tile
  clamp : Bool
  sat : Bool
  deriving DecidableEq, Repr

/-- A tile changed with neither a clamp nor a saturation. -/
def plain (t : Tile) : Done := ⟨t, false, false⟩

/-- The value lies within the 80 bits. -/
def fits80 (v : Int) : Bool := -(2 ^ 79) ≤ v && v ≤ 2 ^ 79 - 1

/-- The extreme value of a sign. -/
def extreme80 (v : Int) : Acc80 := if 0 ≤ v then BitVec.ofInt 80 (2 ^ 79 - 1) else BitVec.ofInt 80 (-(2 ^ 79))

/-- A[k] takes an exact value, or clamps (R115). -/
def Tile.accSet (t : Tile) (k : BitVec 2) (v : Int) : Done :=
  if fits80 v then plain (t.setA k (BitVec.ofInt 80 v))
  else ⟨{ (t.setA k (extreme80 v)).setClamp k true with aov := true }, true, false⟩

/-- acc(k, v): v is added, but to a clamped accumulator (R115). -/
def Tile.accAdd (t : Tile) (k : BitVec 2) (v : Int) : Done :=
  if t.clamped k then plain t else t.accSet k ((t.aReg k).toInt + v)

/-- A[k] is set outright, its clamp state cleared (R116). -/
def Tile.accLoad (t : Tile) (k : BitVec 2) (v : Int) : Tile := (t.setA k (BitVec.ofInt 80 v)).setClamp k false

/-- The exact product of two samples (R114). -/
def product (a b : Word) : Int := a.toInt * b.toInt

/-- floor(A × 2^s / 2^31) for a pre-shift s from -8 to 8 (R118). -/
def storedValue (a : Int) (s : Int) : Int :=
  if 0 ≤ s then a * 2 ^ s.toNat / 2 ^ 31 else a / (2 ^ 31 * 2 ^ (-s).toNat)

/-- The stored word and whether it saturates. -/
def saturate32 (r : Int) : Word × Bool :=
  if -(2 ^ 31) ≤ r && r ≤ 2 ^ 31 - 1 then (BitVec.ofInt 32 r, false)
  else ((if 0 ≤ r then 0x7FFFFFFF else 0x80000000), true)

/-- store32 of an accumulator: a clamped one stores full scale of its sign and sets SAT at every pre-shift (R118). -/
def Tile.stored (t : Tile) (k : BitVec 2) (s : Int) : Word × Bool :=
  let a := (t.aReg k).toInt
  if t.clamped k then ((if 0 ≤ a then 0x7FFFFFFF else 0x80000000), true) else saturate32 (storedValue a s)

/-- SAT is sticky. -/
def Tile.markSat (t : Tile) (on : Bool) : Tile := { t with sat := t.sat || on }

end Sys2Proof.Machine
end

