-- ==== Sys2Proof/Machine/FabricOps.lean ====
section
/-!
DEFINITION. What the passes of the tiles share (chapter 03): rate domains, the fence, slack records, the end of a pass by
completion or fault, the drain of its outputs through the bus scaler (R157 to R161), and the admissible cost (R75).
-/

namespace Sys2Proof.Machine

/-! ### Tiles and domains -/

def State.tile (s : State) (t : Nat) : Tile := nget Tile.reset s.tiles t
def State.setTile (s : State) (t : Nat) (x : Tile) : State := { s with tiles := nput Tile.reset s.tiles t x }

def State.dom (s : State) (d : Nat) : Domain := nget Domain.reset s.fabric.doms d
def State.setDom (s : State) (d : Nat) (x : Domain) : State :=
  { s with fabric := { s.fabric with doms := nput Domain.reset s.fabric.doms d x } }

/-- A change of the fabric scheduler's or of the mix unit's own state. -/
def State.onFabric (s : State) (f : Fabric → Fabric) : State := { s with fabric := f s.fabric }
def State.onMix (s : State) (f : Mix → Mix) : State := { s with mix := f s.mix }

/-- The plan entry that a tile runs. -/
def State.planTile (s : State) (t : Nat) : Option PlanTile := SMap.find? s.fabric.place t

/-- The domain of a tile; 3 for none (R61). -/
def State.tileDomain (s : State) (t : Nat) : Nat :=
  match s.planTile t with
  | some x => x.domain
  | none => 3

/-- The tile has work in the running plan; one in shadow before a swap has none yet (R179). -/
def State.hasWork (s : State) (t : Nat) : Bool := s.tileDomain t < 3 && !(s.tile t).shadow

/-- TILE_CFG.DOMAIN: 0b11 for a tile with no work. -/
def State.cfgDomain (s : State) (t : Nat) : Nat := if s.hasWork t then s.tileDomain t else 3

/-- Tiles of a domain, in ascending order. -/
def State.tilesOf (s : State) (d : Nat) : List Nat := (List.range 256).filter fun t => s.tileDomain t == d

/-- fs in Hz and B of a domain (R15). -/
def State.domHz (s : State) (d : Nat) : Nat := rateHz (s.get Pg.fabric (FABRIC.DOM_CFG_RATE d))
def State.domB (s : State) (d : Nat) : Nat := blockOf (s.get Pg.fabric (FABRIC.DOM_CFG_BSIZE d))

def State.domActive (s : State) (d : Nat) : Bool := s.flag Pg.fabric (FABRIC.DOM_CFG_ACTIVE d)

/-- Island cycles of a fence interval: PCT / 100 of B / fs, rounded down (R58). -/
def fenceCycles (pct b hz : Nat) : Nat := pct * b * 625000000 / (100 * hz)

/-- Tiles at work, with the plan entries that they run: those in shadow for an armed swap are not (R179). -/
def State.working (s : State) : List (Nat × PlanTile) := s.fabric.place.filter fun e => !(s.tile e.1).shadow

/-- The plan entry that a tile at work runs. -/
def State.workOf (s : State) (t : Nat) : Option PlanTile := SMap.find? s.working t

/-- What tile t's addresses depend on. -/
def State.win (s : State) (t : Nat) : Win :=
  let p := Pg.awl t
  { half := s.get p AWL.WIN_CFG_WIN_HALF, nin := s.get p AWL.WIN_CH_NIN, nout := s.get p AWL.WIN_CH_NOUT,
    block := s.domB (s.tileDomain t), bankB := s.flag p AWL.PSTAT_ACTIVE_BANK }

/-- The patch point of output channel j. -/
def State.outPatch (s : State) (t j : Nat) : Option Nat :=
  match s.planTile t with
  | some x => x.outputs[j]?
  | none => none

/-- O of R74. -/
def overheadHu : Nat := 256

/-- floor(0.85 × (S × t_F − O)), with t_F in µs as cycles / 625 (R75). -/
def admissibleHu (speed tF : Nat) : Int := 85 * ((speed * tF : Nat) - (overheadHu * 625 : Nat) : Int) / 62500

/-- The fence interval that a domain's FENCE_PCT field gives. -/
def State.fenceOf (s : State) (d hz b : Nat) : Nat := fenceCycles (s.get Pg.fabric (FABRIC.DOM_CFG_FENCE_PCT d)) b hz

/-- The tile's A; 0 for a tile that is disabled (R123). -/
def State.admissible (s : State) (t d hz b : Nat) : Int :=
  if s.flag (Pg.awl t) PG.CTRL_EN then
    admissibleHu (s.get Pg.fabric FABRIC.TILE_SPEED_SPEED t) (s.fenceOf d hz b)
  else 0

/-- The tile takes work and its A covers a cost (R75, R123). -/
def State.covers (s : State) (t d hz b cost : Nat) : Bool :=
  s.flag (Pg.awl t) PG.CTRL_EN && (cost : Int) ≤ s.admissible t d hz b

/-- A in the tile's present domain. -/
def State.presentA (s : State) (t : Nat) : Int :=
  let d := s.tileDomain t
  s.admissible t d (s.domHz d) (s.domB d)

/-- TILE_ADMIT (R75): A, and 0 for a tile with no work. -/
def State.tileAdmit (s : State) (t : Nat) : Nat := if s.hasWork t then (s.presentA t).toNat else 0

/-- A tile without work has no windows, no entry and no cost (R107). -/
def State.unconfigureTile (s : State) (t : Nat) : State :=
  let a := Pg.awl t
  let s := ((s.set a AWL.WIN_CFG_WIN_HALF 0).set a AWL.WIN_CH_NIN 0).set a AWL.WIN_CH_NOUT 0
  (s.set a AWL.ENTRY_ADDR 0).set Pg.fabric FABRIC.TILE_COST_HU 0 t

/-! ### Life and Cinch entries of a tile (R451) -/

def State.tileLife (s : State) (t k : Nat) : State :=
  if s.present (Pg.awl t) then s.lifeAdd Pg.life (0x3000 + 4 * t + k) else s

def State.slackLife (s : State) (t bin : Nat) : State := s.lifeAdd Pg.life (0x1000 + 32 * t + 2 * bin)

/-! ### The end of a pass -/

/-- TST in the layout of R99. -/
def Tile.tst (t : Tile) : Word :=
  BitVec.ofNat 32 (t.rsd * 2 ^ 20 + t.clamp.toNat * 2 ^ 16 + t.ldepth * 2 ^ 8 + bit t.aov * 32 + bit t.sat * 16 +
    bit t.fn * 8 + bit t.fz * 4 + bit t.fv * 2 + bit t.fc)

/-- TST_SNAP and PC_SNAP. -/
def State.snapPass (s : State) (t : Nat) (aborted : Bool) : State :=
  let p := Pg.awl t
  let x := s.tile t
  ((s.set p AWL.TST_SNAP_TST x.tst.toNat).setFlag p AWL.PC_SNAP_ABORTED aborted).set p AWL.PC_SNAP_PC x.lastPc.toNat

/-- An observed pass of a tile under escalation (R79). -/
def State.observePass (s : State) (t : Nat) (onTime : Bool) : State :=
  match SMap.find? s.fabric.escs t with
  | some e =>
    if e.observing && !e.skip && e.seen.length < 8 then
      s.onFabric fun f => { f with escs := nset f.escs t { e with seen := onTime :: e.seen } }
    else s
  | none => s

/-- A missed pass still running ends: aborted at a tick, by a fault, or by KILL (R66). -/
def State.abortPass (s : State) (t : Nat) (ended : PassState) : State :=
  (s.setTile t { s.tile t with pass := ended, rpt := none }).snapPass t true

/-- LAST_HU and MAX_HU of a completed pass (R120). -/
def State.recordHu (s : State) (t : Nat) : State :=
  let p := Pg.awl t
  let hu := min (s.tile t).hu (2 ^ 24 - 1)
  let s := s.set p AWL.LAST_HU_HU hu
  s.set p AWL.MAX_HU_HU (max (s.get p AWL.MAX_HU_HU) hu)

/-- The last pass did not commit, start or end whole: TILE_STAT (R65, R70). -/
def State.tileStat (s : State) (t : Nat) (missed late fault : Bool) : State :=
  ((s.setFlag Pg.fabric FABRIC.TILE_STAT_MISSED missed t).setFlag Pg.fabric FABRIC.TILE_STAT_LATE_DELIVERY late t).setFlag
    Pg.fabric FABRIC.TILE_STAT_FAULT_ABORT fault t

/-- floor(100 × (t_F − t_done) / t_F) (R60). -/
def slackOf (tF done : Nat) : Nat := 100 * (tF - done) / tF

/-- The slack of a pass is recorded (R60, R83). -/
def State.recordSlack (s : State) (t slack : Nat) : State :=
  let p := Pg.fabric
  let s := s.set p FABRIC.TILE_SLACK_LAST slack t
  let s := s.set p FABRIC.TILE_SLACK_WORST_RESET (min (s.get p FABRIC.TILE_SLACK_WORST_RESET t) slack) t
  let x := s.tile t
  let low := if slack < s.get p FABRIC.MARGIN_CTRL_SLACK_WARN then x.lowSlack + 1 else 0
  let s := s.setTile t { x with slackNow := min x.slackNow slack, lowSlack := low }
  let d := s.tileDomain t
  s.setDom d { s.dom d with worst := min (s.dom d).worst slack }

/-- The slack histogram's bin of an on-time pass (R452). -/
def slackBin (slack : Nat) : Nat := if 70 ≤ slack then 15 else slack / 5 + 1

/-- The lowest of the last 16 canary measurements (R72). -/
def canarySpeed (c : List Nat) : Nat :=
  match c with
  | [] => 0
  | x :: xs => xs.foldl min x

/-- The canary figure and the observed speed lie within 3 % of one another. -/
def Tile.speedsAgree (x : Tile) : Bool :=
  100 * ((x.observed : Int) - canarySpeed x.canary).natAbs ≤ 3 * canarySpeed x.canary

/-- The time for which the two agree while S is taken from the observed speed (R72). -/
def State.noteAgree (s : State) (t : Nat) : State :=
  let x := s.tile t
  let on := s.flag Pg.fabric FABRIC.TILE_SPEED_EST_SOURCE t && x.speedsAgree
  s.setTile t { x with agreeAt := if on then some (x.agreeAt.getD s.now) else none }

/-- The observed speed of a completed pass, declared HU over busy time, and S from it after 16 low passes (R72). -/
def State.observeSpeed (s : State) (t busy : Nat) : State :=
  let x := s.tile t
  let hu := s.get Pg.fabric FABRIC.TILE_COST_HU t
  if busy = 0 then s
  else
    let speed := (exactDiv (hu * 625 : Nat) busy).toNat
    let low := if 100 * hu * 625 < 97 * canarySpeed x.canary * busy then min (x.slowObs + 1) 16 else 0
    let s := s.setTile t { x with observed := speed, slowObs := low }
    if 16 ≤ low || s.flag Pg.fabric FABRIC.TILE_SPEED_EST_SOURCE t then
      ((s.set Pg.fabric FABRIC.TILE_SPEED_EST_SOURCE 1 t).set Pg.fabric FABRIC.TILE_SPEED_SPEED (min speed 65535) t).noteAgree t
    else s

/-! ### Units of work (R84 to R88) -/

/-- The units of the running plan, each with its home tile. -/
def State.planUnits (s : State) : List (Nat × PlanUnit) := s.working.flatMap fun e => e.2.units.map (e.1, ·)

def State.relocOf (s : State) (uid : Nat) : Option Reloc := s.fabric.relocs.find? fun r => r.uid == uid

/-- The tile belongs to the old side of a WARM crossfade, whose relocations stand until it ends (R91). -/
def State.isOldTile (s : State) (t : Nat) : Bool := s.fabric.warmFades.any fun w => w.old.contains t

/-- The relocation of a unit of a home tile. -/
def State.unitReloc (s : State) (home uid : Nat) : Option Reloc :=
  (if s.isOldTile home then s.fabric.oldRelocs else s.fabric.relocs).find? fun r => r.uid == uid

/-- The tile on which a unit that no relocation moves runs. -/
def State.unitHome (s : State) (home uid : Nat) : Nat :=
  (((if s.isOldTile home then s.fabric.oldMoved else s.fabric.moved).find? fun e => e.1 == uid).map (·.2)).getD home

/-- The tiles that run a unit: in an emergency relocation the destination from the first shadow pass, in a planned one
both until its crossfade has ended (R85 to R87). -/
def State.unitTiles (s : State) (home : Nat) (u : PlanUnit) : List Nat :=
  match s.unitReloc home u.uid with
  | some r =>
    match r.phase with
    | .due => [r.src]
    | .copy => if r.planned then [r.src] else []
    | _ => if r.planned then [r.src, r.dst] else [r.dst]
  | none => [s.unitHome home u.uid]

/-- The output channels that a unit has on a tile: its own at home, the reserved ones elsewhere. -/
def unitChannels (u : PlanUnit) (home t : Nat) : List Nat :=
  if t = home then u.outs
  else match u.dests.find? fun d => d.tile == t with
    | some d => d.outs
    | none => []

/-- A class is shed on a tile (R88). -/
def State.shedOn (s : State) (t cls : Nat) : Bool := (s.get Pg.fabric FABRIC.TILE_STAT_SHED_MASK t).testBit cls

/-- Units that are part of a tile's work. -/
def State.unitsOn (s : State) (t : Nat) : List (Nat × PlanUnit) :=
  s.planUnits.filter fun e => (s.unitTiles e.1 e.2).contains t && !s.shedOn t e.2.shedClass

/-- Output channels of a tile that carry silence in a pass that starts now: of units that it does not run. -/
def State.idleChannels (s : State) (t : Nat) : List Nat :=
  s.planUnits.flatMap fun e =>
    if (s.unitTiles e.1 e.2).contains t && !s.shedOn t e.2.shedClass then [] else unitChannels e.2 e.1 t

/-! ### The drain and the bus scaler -/

/-- The bus that a declared output channel forms (R157). -/
def State.busAt (s : State) (t j : Nat) : Option Nat :=
  match s.fabric.running with
  | some p => (p.buses.find? fun b => b.tile == t && b.outCh == j).map (·.bus)
  | none => none

/-- s moves towards s_t by the step and never overshoots (R160). -/
def stepScale (cur target step : Nat) : Nat :=
  if cur < target then min (cur + step) target else max (cur - step) target

/-- floor(x × s × 2^H / 2^31) saturated (R161). -/
def scaleSample (x : Word) (sc h : Nat) : Word × Bool := saturate32 (x.toInt * (sc : Int) * 2 ^ h / 2 ^ 31)

/-- The samples of a block through the scaler: the new samples, the scale after them, how many saturated. -/
def scaleBlock (off : Bool) (target step h : Nat) : List Word → Nat → List Word × Nat × Nat
  | [], sc => ([], sc, 0)
  | x :: xs, sc =>
    let sc' := stepScale sc target step
    let y := scaleSample x sc' h
    let r := scaleBlock off target step h xs sc'
    if off then (x :: r.1, r.2.1, r.2.2) else (y.1 :: r.1, r.2.1, r.2.2 + bit y.2)

/-- A bus's current scale. -/
def State.busScale (s : State) (b : Nat) : Nat := s.get Pg.mix MIX.BUS_SCALE_S b
def State.busTarget (s : State) (b : Nat) : Nat := nget 0x80000000 s.mix.busTarget b

/-- A block drained from an output channel, through the scaler where the channel is a bus: with the LAW that the last tick
took (R159). -/
def State.drainChannel (s : State) (t j : Nat) (block : List Word) : State × List Word :=
  match s.busAt t j with
  | none => (s, block)
  | some b =>
    let law := (SMap.find? s.mix.busLaw b).getD (s.get Pg.mix MIX.BUS_CFG_LAW b)
    let r := scaleBlock (law == 0) (s.busTarget b) (nget 0 s.mix.busStep b)
      (s.get Pg.mix MIX.BUS_CFG_HEADROOM b) block (s.busScale b)
    ((s.set Pg.mix MIX.BUS_SCALE_S r.2.1 b).count Pg.mix MIX.SCALE_SAT r.2.2, r.1)

/-- The words of output channel j in the tile's half. -/
def Tile.outBlock (x : Tile) (w : Win) (j : Nat) : List Word :=
  (List.range w.block).map fun i => x.readX w (BitVec.ofNat 15 (w.base + (w.nin + j) * w.block + i))

/-- The delivery engine drains the output windows of a pass completed on time (R64); units that the pass skips give
silence (R85, R88). -/
def State.drainPass (s : State) (t : Nat) : State :=
  let w := s.win t
  let x := s.tile t
  let r := (List.range w.nout).foldl
    (fun (acc : State × SMap Nat (List Word)) j =>
      let d := acc.1.drainChannel t j (if x.idle.contains j then List.replicate w.block 0 else x.outBlock w j)
      (d.1, acc.2 ++ [(j, d.2)]))
    (s, [])
  r.1.setTile t { r.1.tile t with drained := r.2 }

/-- The busy time of a pass that ends `done` cycles after its tick. -/
def State.busyTime (s : State) (t done : Nat) : Nat := done - ((s.tile t).startAt - (s.dom (s.tileDomain t)).tickAt)

/-- A pass completed on time, `done` cycles after its tick (R59, R60, R71, R72, R79). -/
def State.passOnTime (s : State) (t done : Nat) : State :=
  let d := s.tileDomain t
  let slack := slackOf (s.dom d).tF done
  let x := s.tile t
  let s := s.setTile t { x with pass := .done, onTime := min (x.onTime + 1) 64 }
  let s := (s.tileStat t false false false).set Pg.fabric FABRIC.TILE_STAT_CONSEC_MISS 0 t
  let s := (s.recordSlack t slack).slackLife t (slackBin slack)
  let s := s.observeSpeed t (s.busyTime t done)
  (s.observePass t true).drainPass t

/-- WAITB retires, `done` cycles after the tick of the pass. While the fence has not expired the completion lies no
later than it; a pass completed late gives an observed speed too (R72). -/
def State.completePass (s : State) (t done : Nat) : State :=
  let d := s.dom (s.tileDomain t)
  let done := if (s.tile t).pass = .running then min done d.tF else done
  let s := s.reach (d.tickAt + done)
  let s := (s.recordHu t).snapPass t false
  if (s.tile t).pass = .running then s.passOnTime t done
  else (s.setTile t { s.tile t with pass := .missed }).observeSpeed t (s.busyTime t done)

/-! ### Tile faults (R70, R121) -/

/-- FAULT_INFO keeps the first cause since it was cleared. -/
def State.recordFault (s : State) (t cause : Nat) (pc : BitVec 14) : State :=
  let p := Pg.awl t
  if s.flag p AWL.FAULT_INFO_VALID then s
  else ((s.set p AWL.FAULT_INFO_VALID 1).set p AWL.FAULT_INFO_CAUSE cause).set p AWL.FAULT_INFO_PC pc.toNat

/-- The pass ends as a fault abort; one already missed stays a deadline miss too (R70). -/
def State.faultAbort (s : State) (t : Nat) : State :=
  let missed := (s.tile t).pass == .missedRunning
  let s := s.abortPass t (if missed then .missed else .faulted)
  let s := s.tileStat t true false true
  (s.count Pg.fabric FABRIC.FAULT_ABORTS).tileLife t 3

/-- AWL_ILLEGAL with a cause. -/
def State.tileFault (s : State) (t cause : Nat) : State :=
  let p := Pg.awl t
  let s := (s.count p AWL.ILLEGAL_COUNT).recordFault t cause (s.tile t).pc
  let s := (s.event p 2).tileLife t 1
  (s.faultAbort t).raise Src.awlIllegal t

end Sys2Proof.Machine
end

