-- ==== Sys2Proof/Machine/NetParse.lean ====
section
/-!
DEFINITION. Reading an Ethernet frame: the fields that classification (R294, R296) and flow matching (R351) use, in
network byte order.
-/

namespace Sys2Proof.Machine

/-- A byte of a frame; 0 beyond its end. -/
def byteAt (l : List Byte) (i : Nat) : Nat := ((l[i]?).getD 0).toNat

def be16 (l : List Byte) (i : Nat) : Nat := byteAt l i * 256 + byteAt l (i + 1)
def be32 (l : List Byte) (i : Nat) : Nat := be16 l i * 65536 + be16 l (i + 2)
def be48 (l : List Byte) (i : Nat) : Nat := be16 l i * 2 ^ 32 + be32 l (i + 2)

/-- The `n` low bytes of a number, most significant first. -/
def beBytes (v : Nat) : Nat → List Byte
  | 0 => []
  | n + 1 => BitVec.ofNat 8 (v / 256 ^ n) :: beBytes v n

/-- Bytes replaced from an index on. -/
def overlay (l : List Byte) (i : Nat) (new : List Byte) : List Byte :=
  l.take i ++ new ++ l.drop (i + new.length)

/-- What the headers of a frame say. `l3` is the index of the first byte after the EtherType; `udp` that of the UDP
header. -/
structure Headers where
  tci : Option Nat
  etherType : Nat
  l3 : Nat
  ipv4 : Bool
  ipv6 : Bool
  udp : Option Nat
  src : List Word
  dst : List Word
  deriving DecidableEq, Repr

def words32 (l : List Byte) (i : Nat) : Nat → List Word
  | 0 => []
  | n + 1 => BitVec.ofNat 32 (be32 l i) :: words32 l (i + 4) n

/-- The headers of a frame whose tag, if any, is still in it. An address is four words, the first of which alone is an
IPv4 address (R349). -/
def headers (l : List Byte) : Headers :=
  let tagged := be16 l 12 == 0x8100
  let tci := if tagged then some (be16 l 14) else none
  let et := be16 l (if tagged then 16 else 12)
  let l3 := if tagged then 18 else 14
  if et = 0x0800 && byteAt l l3 / 16 = 4 then
    let hl := byteAt l l3 % 16 * 4
    { tci := tci, etherType := et, l3 := l3, ipv4 := true, ipv6 := false,
      udp := if byteAt l (l3 + 9) = 17 then some (l3 + hl) else none,
      src := words32 l (l3 + 12) 1 ++ [0, 0, 0], dst := words32 l (l3 + 16) 1 ++ [0, 0, 0] }
  else if et = 0x86DD && byteAt l l3 / 16 = 6 then
    { tci := tci, etherType := et, l3 := l3, ipv4 := false, ipv6 := true,
      udp := if byteAt l (l3 + 6) = 17 then some (l3 + 40) else none,
      src := words32 l (l3 + 8) 4, dst := words32 l (l3 + 24) 4 }
  else
    { tci := tci, etherType := et, l3 := l3, ipv4 := false, ipv6 := false, udp := none, src := [], dst := [] }

/-- The UDP destination port. -/
def Headers.dport (h : Headers) (l : List Byte) : Option Nat := h.udp.map fun u => be16 l (u + 2)

/-- Ring 1 traffic: PTP over Ethernet or UDP, and ESMC (R294). -/
def forFirmware (h : Headers) (l : List Byte) : Bool :=
  h.etherType == 0x88F7 || h.dport l == some 319 || h.dport l == some 320 ||
    (h.etherType == 0x8809 && byteAt l h.l3 == 0x0A)

/-- The ones' complement sum of 16-bit words. -/
def onesSum (l : List Nat) : Nat :=
  let t := l.foldl (· + ·) 0
  let t := t % 65536 + t / 65536
  let t := t % 65536 + t / 65536
  t % 65536 + t / 65536

/-- The big-endian 16-bit words of bytes, an odd last byte padded with 0. -/
def wordsBe : List Byte → List Nat
  | [] => []
  | [a] => [a.toNat * 256]
  | a :: b :: l => (a.toNat * 256 + b.toNat) :: wordsBe l

/-- The Internet checksum. -/
def inetSum (l : List Byte) : Nat := 65535 - onesSum (wordsBe l)

end Sys2Proof.Machine
end

