-- ==== Sys2Proof/Machine/FlowCtxOps.lean ====
section
/-!
DEFINITION. Flow contexts (chapter 14): where they stand on the FLOW pages, their parameters, the media count, and the
states of their paths.
-/

namespace Sys2Proof.Machine

/-! ### Contexts: receive 0 to 511, transmit from 512 -/

/-- The page of a context, and its instance there. -/
def ctxPage (c : Nat) : Nat := Pg.flow (c % 512 / 32)
def ctxSel (c : Nat) : Nat := c % 32 + (if 512 ≤ c then 32 else 0)

def State.ctx (s : State) (c : Nat) : Option FlowCtx := SMap.find? s.flow.ctxs c

def State.onFlow (s : State) (f : Flow → Flow) : State := { s with flow := f s.flow }

def State.setCtx (s : State) (c : Nat) (x : FlowCtx) : State := s.onFlow fun g => { g with ctxs := nset g.ctxs c x }

/-- A change of an allocated context. -/
def State.onCtx (s : State) (c : Nat) (f : FlowCtx → FlowCtx) : State :=
  match s.ctx c with
  | some x => s.setCtx c (f x)
  | none => s

def State.ctxGet (s : State) (c : Nat) (f : Fld) : Nat := s.get (ctxPage c) f (ctxSel c)
def State.ctxSet (s : State) (c : Nat) (f : Fld) (v : Nat) : State := s.set (ctxPage c) f v (ctxSel c)

/-- A counter of a context advances. -/
def State.ctxCount (s : State) (c : Nat) (f : Fld) (n : Nat := 1) : State := s.count (ctxPage c) f n (ctxSel c)

/-- STATE of CTX_STAT. -/
def Cs.free : Nat := 0
def Cs.wait : Nat := 1
def Cs.run : Nat := 2
def Cs.conceal : Nat := 3
def Cs.stopped : Nat := 4
def Cs.sending : Nat := 5
def Cs.draining : Nat := 6

def State.ctxState (s : State) (c : Nat) : Nat := s.ctxGet c FLOW.CTX_STAT_STATE

/-- The context that holds a pair's history and buffer, and the contexts that share it. -/
def FlowCtx.home (x : FlowCtx) (c : Nat) : Nat := if x.pathB then c - 1 else c
def FlowCtx.both (x : FlowCtx) (c : Nat) : List Nat := if x.paired then [x.home c, x.home c + 1] else [c]

/-- A state shows on both contexts of a pair. -/
def State.setCtxState (s : State) (c v : Nat) : State :=
  match s.ctx c with
  | some x => s.each (x.both c) fun t k => t.ctxSet k FLOW.CTX_STAT_STATE v
  | none => s

/-- The port of a context's path. -/
def FlowCtx.port (x : FlowCtx) : Nat := if x.pathB then x.desc.portB else x.desc.portA

/-! ### Stream parameters (R353, R354, R358, R374) -/

/-- S: samples per packet. -/
def samplesPer (ptime hz : Nat) : Nat :=
  let s := [6, 12, 16, 48, 192].getD ptime 6
  if hz ≤ 48000 then s else if hz ≤ 96000 then 2 * s else 4 * s

/-- W: 16 ms in samples. -/
def playWindow (hz : Nat) : Nat := 16 * hz / 1000

/-- Bytes of a sample. -/
def sampleBytes (enc : Nat) : Nat := enc + 2

def State.ctxHz (s : State) (x : FlowCtx) : Nat := s.domHz x.desc.domain
def State.ctxS (s : State) (x : FlowCtx) : Nat := samplesPer x.desc.ptime (s.ctxHz x)

/-- Tokens of a packet, and the depth: the packet times in 16 ms plus 4. -/
def State.packetTokens (s : State) (x : FlowCtx) : Nat := 625000000000 * s.ctxS x
def State.policerDepth (s : State) (x : FlowCtx) : Nat :=
  (playWindow (s.ctxHz x) / s.ctxS x + 4) * s.packetTokens x

/-- The policer as it stands now. -/
def State.policer (s : State) (x : FlowCtx) : FlowCtx :=
  { x with
    tokens := min (s.policerDepth x) (x.tokens + (s.now - x.tokensAt) * 1001 * s.ctxHz x)
    tokensAt := s.now }

/-! ### The media count (R356, R359) -/

/-- Counts and stamps wrap at 64 and 32 bits. -/
def wrap64 : Nat := 2 ^ 64

/-- N_now: the count of the sample that is due now. -/
def State.countNow (s : State) (d : Nat) : Nat :=
  let x := s.dom d
  x.media + (s.now - x.tickAt) * s.domHz d / 625000000

/-- DELAY in force: the group's, or the context's own (R363). -/
def State.delayOf (s : State) (c : Nat) (x : FlowCtx) : Nat :=
  match x.desc.group with
  | some g => s.get (Pg.flow 0) FLOW.GRP_CFG_DELAY g
  | none => s.ctxGet (x.home c) FLOW.CTX_DELAY_DELAY

/-- DELAY lies from S to W - S. -/
def delayOk (sper hz delay : Nat) : Bool := sper ≤ delay && delay + sper ≤ playWindow hz

/-! ### Paths (R367) -/

/-- The path A context of a pair shows PROTECTED. -/
def State.showProtected (s : State) (a : Nat) : State :=
  let good (c : Nat) : Bool :=
    s.ctxGet c FLOW.CTX_STAT_PATH_LOST == 0 && 0 ≤ signed 32 (s.ctxGet c FLOW.CTX_MARGIN_NS)
  s.ctxSet a FLOW.CTX_STAT_PROTECTED (bit (good a && good (a + 1)))

/-- FLOW_2022_7_PATHLOSS of a pair. -/
def State.pathSource (s : State) (a : Nat) : State :=
  s.setSource Src.pathLoss a
    (s.ctxGet a FLOW.CTX_STAT_PATH_LOST == 1 || s.ctxGet (a + 1) FLOW.CTX_STAT_PATH_LOST == 1)

/-- What a path's change means to its pair. -/
def State.pathChanged (s : State) (c : Nat) (x : FlowCtx) : State :=
  if x.paired then (s.showProtected (x.home c)).pathSource (x.home c) else s

/-- A receive path becomes LOST, or its 100 ms begin again. -/
def State.losePath (s : State) (c : Nat) : State :=
  match s.ctx c with
  | some x =>
    let s := s.setCtx c { x with upSince := none }
    if s.ctxGet c FLOW.CTX_STAT_PATH_LOST = 1 then s
    else (((s.ctxSet c FLOW.CTX_STAT_PATH_LOST 1).event (ctxPage c) 2).lifeAdd (ctxPage c) 2).pathChanged c x
  | none => s

/-- A port's link is gone: the paths on it are LOST. -/
def State.pathsDown (s : State) (port : Nat) : State :=
  s.each (s.flow.ctxs.map (·.1)) fun t c =>
    match t.ctx c with
    | some x => if c < 512 && x.port = port then t.losePath c else t
    | none => t

end Sys2Proof.Machine
end

