-- ==== Sys2Proof/Machine/MacOps.lean ====
section
/-!
DEFINITION. What the Ethernet ports' commands share (chapter 11): queues and descriptors, the scheduler with strict
priority and preemption, policing, stamps, PAUSE, and what a port does when its link changes.
-/

namespace Sys2Proof.Machine

def State.mac (s : State) (n : Nat) : Mac := nget Mac.reset s.macs n
def State.setMac (s : State) (n : Nat) (x : Mac) : State := { s with macs := nput Mac.reset s.macs n x }
def State.onMac (s : State) (n : Nat) (f : Mac → Mac) : State := s.setMac n (f (s.mac n))

def State.hasMac (s : State) (n : Nat) : Bool := n < s.macCount
def State.linkUp (s : State) (n : Nat) : Bool := s.flag (Pg.mac n) MAC.STAT_LINK

/-! ### Girth accesses of a port: masters 1 to 4 -/

/-- NET without ROTATE takes no access that is not aligned to 4 bytes (R199). -/
def State.netMisaligned (s : State) (o : Nat) : Bool := s.unaligned 1 o

/-- Bytes that a port reads on NET, where `ecc` are the words whose check bits show an error. -/
def State.netRead (s : State) (master o n : Nat) (ecc : List (Nat × Ecc)) : State × List Byte :=
  (s.upsets ecc).fetch 1 master o n

/-- Bytes that a port writes on NET, and whether one of their lines was shadowed (R196). -/
def State.netWrite (s : State) (master o : Nat) (data : List Byte) : State × Bool := s.store 1 master o data

/-! ### Queues -/

def State.qCount (s : State) (n q : Nat) : Nat := s.get (Pg.mac n) MAC.TXQ_CFG_COUNT q
def State.qProd (s : State) (n q : Nat) : Nat := s.get (Pg.mac n) MAC.TXQ_PROD_PROD q
def State.qCons (s : State) (n q : Nat) : Nat := s.get (Pg.mac n) MAC.TXQ_CONS_CONS q
def State.qHalted (s : State) (n q : Nat) : Bool := s.flag (Pg.mac n) MAC.TXQ_STAT_HALTED q

/-- Descriptors that wait in a queue. -/
def State.qWaiting (s : State) (n q : Nat) : Nat :=
  let c := s.qCount n q
  if c = 0 then 0 else (s.qProd n q + c - s.qCons n q) % c

/-- The Girth offset of a descriptor. -/
def State.descAt (s : State) (n q idx : Nat) : Nat := s.get (Pg.mac n) MAC.TXQ_BASE_BASE q / 16 * 16 + 16 * idx

/-- The queue is stopped by a received PAUSE (R299). -/
def State.qPaused (s : State) (n q : Nat) : Bool :=
  s.flag (Pg.mac n) MAC.STAT_PAUSED_RX && (q ≤ 5 || (s.mac n).pausedAll)

/-- Tenths of an island cycle that a byte takes (R269). -/
def byteTimeOf (rate : Nat) : Nat := if rate = 0 then 50 else if rate = 1 then 5 else 2
def State.byteTime (s : State) (n : Nat) : Nat := byteTimeOf (s.get (Pg.mac n) MAC.STAT_SPEED)

/-- Statuses of R286. -/
def Tx.notEnabled : Nat := 0x02
def Tx.aborted : Nat := 0x03
def Tx.badArg : Nat := 0x06
def Tx.poison : Nat := 0x10
def Tx.policed : Nat := 0x11
def Tx.linkDown : Nat := 0x12

/-- Where the flow engine keeps a context's frame in the Girth: outside the vault, else the spec does not say (free, log
318). -/
def State.flowFrameAt (s : State) (c : Nat) : Nat := Config.flowFrame c % s.vaultBase / 16 * 16

/-- The frame posted first on a port's queue 6. -/
def State.postedHead (s : State) (n : Nat) : Option TxPost := s.flow.posted.find? fun p => p.port == n

def dropPosted (n : Nat) : List TxPost → List TxPost
  | [] => []
  | x :: xs => if x.port = n then xs else x :: dropPosted n xs

/-- What a queue 6 completion does to its context (R373). -/
def State.flowCompletion (s : State) (n status : Nat) (shadowed : Bool) : State :=
  match s.postedHead n with
  | none => s
  | some p =>
    let s := { s with flow := { s.flow with posted := dropPosted n s.flow.posted } }
    let s := if status = Tx.linkDown || status = Tx.policed || status = Tx.aborted || status = Tx.poison then
      s.ctxCount p.ctx FLOW.POISON_TXDROP else s
    if shadowed then (s.ctxCount p.ctx FLOW.SHADOWED).event (ctxPage p.ctx) 8 else s


/-- The completion of a descriptor: words 2 and 3, and CONS (R284, R286, R297). -/
def State.completeTx (s : State) (n q idx status : Nat) (tag : Option Nat) (lost : Bool) (frags : Nat)
    (shadowed : Bool) : State :=
  let w2 := 2 ^ 31 + bit lost * 2 ^ 30 + bit tag.isSome * 2 ^ 29 + tag.getD 0 % 64 * 2 ^ 16 + status * 2 ^ 8 + min frags 255
  let r := if shadowed then (s.shadowed 1, true)
    else s.netWrite (n + 1) (s.descAt n q idx + 8) (bytesOf (BitVec.ofNat 32 w2) ++ [0, 0, 0, 0])
  let shadowed := r.2
  let s := if shadowed then (r.1.count (Pg.mac n) MAC.RX_SHADOWED).event (Pg.mac n) 8 else r.1
  let s := s.set (Pg.mac n) MAC.TXQ_CONS_CONS ((idx + 1) % s.qCount n q) q
  let s := s.onMac n fun x => { x with fetched := x.fetched.filter (· ≠ (q, idx)) }
  if q = 6 then s.flowCompletion n status shadowed else s

/-! ### Descriptors (R285, R287) -/

/-- A transmit descriptor as read. -/
structure TxDesc where
  buf : Nat
  len : Nat
  vlan : Bool
  tsReq : Bool
  oneStep : Bool
  tci : Nat
  tsOfs : Nat
  csumOfs : Nat
  zeros : Bool
  deriving DecidableEq, Repr

def txDesc (w0 w1 w2 w3 : Word) : TxDesc :=
  { buf := w0.toNat % 2 ^ 26, len := w1.toNat % 2 ^ 14, vlan := w1.getLsbD 16, tsReq := w1.getLsbD 17,
    oneStep := w1.getLsbD 18, tci := w2.toNat % 2 ^ 16, tsOfs := w2.toNat / 2 ^ 16, csumOfs := w3.toNat % 2 ^ 16,
    zeros := (w1 >>> 19) == 0 && !w1.getLsbD 14 && !w1.getLsbD 15 && (w3 >>> 16) == 0 }

/-- Within its ranges (R285, R287; TS_OFS and CSUM_OFS are in use for ONE_STEP). -/
def TxDesc.ok (d : TxDesc) (maxFrame : Nat) : Bool :=
  d.zeros && d.len + 4 ≤ maxFrame &&
    (!d.oneStep || (34 ≤ d.tsOfs && d.tsOfs + 10 ≤ d.len &&
      (d.csumOfs == 0 || (34 ≤ d.csumOfs && d.csumOfs + 2 ≤ d.len))))

def State.readDesc (s : State) (n q idx : Nat) : State × TxDesc :=
  let (s, b) := s.netRead (n + 1) (s.descAt n q idx) 16 []
  let w (i : Nat) : Word := wordOf ((b[i]?).getD 0) ((b[i + 1]?).getD 0) ((b[i + 2]?).getD 0) ((b[i + 3]?).getD 0)
  (s, txDesc (w 0) (w 4) (w 8) (w 12))

/-- A tag inserted after the source address. -/
def insertTag (l : List Byte) (tci : Nat) : List Byte := l.take 12 ++ [0x81, 0x00] ++ beBytes tci 2 ++ l.drop 12

/-- A frame padded to 60 B. -/
def padded (l : List Byte) : List Byte := l ++ List.replicate (60 - l.length) 0

/-! ### Stamps (R300 to R302) -/

/-- The corrections of R300 in tenths of a ns: transmit, receive, and the receive uncertainty. -/
def stampCorr (speed : Nat) (fec : Bool) : Int × Int × Nat :=
  if speed = 0 then (2080, 3440, 40) else if speed = 1 then (544, 928, 16)
  else if fec then (1024, 2470, 16) else (384, 614, 16)

/-- A free error within ± bound. -/
def State.freeErr (s : State) (bound : Nat) : Int × State :=
  (((s.free.1 % (2 * bound + 1) : Nat) : Int) - bound, s.free.2)

/-- A counter's time in tenths of ns at an instant of its present stretch, in tenths of an island cycle from the cycle at
which it stands: its increment, and the slew of the whole cycles since. -/
def Counter.timeAt (c : Counter) (tenths : Int) : Int :=
  let inc : Int := ((c.incNs * 2 ^ 32 + c.incFrac : Nat) : Int)
  ((c.units : Int) * 10 + tenths * inc + 10 * c.slewIn (tenths / 10).toNat) / 2 ^ 32

/-- The counter that CFG.TS_SRC selects, in tenths of ns at an instant in tenths of an island cycle: in the stretch of
counting that the instant lies in, so that a later set, step, slew or stop does not move it (R309, R313, R314). -/
def State.stampAt (s : State) (n tenths : Nat) : Int :=
  let one := s.flag (Pg.mac n) MAC.CFG_TS_SRC
  match (if one then s.time.past1 else s.time.past0).find? fun e => 10 * e.1 ≤ tenths with
  | some (at_, c) => c.timeAt ((tenths : Int) - 10 * at_)
  | none =>
    let c := if one then s.time.c1 else s.time.c0
    let c := if one && !s.flag Pg.time PG.CTRL_EN then { c with incNs := 0, incFrac := 0 } else c
    c.timeAt ((tenths : Int) - 10 * s.now)

/-- The stamp of a frame sent, in whole ns of the counter. -/
def State.txStamp (s : State) (n tenths : Nat) : Nat × State :=
  let t := s.stampAt n tenths
  if s.flag (Pg.mac n) MAC.CFG_TS_CORR then
    let (e, s') := s.freeErr 20
    let (c, _) := stampCorr (s.get (Pg.mac n) MAC.STAT_SPEED) (s.flag (Pg.mac n) MAC.STAT_FEC_ACTIVE)
    (((t + c + 10 * signed 16 (s.get (Pg.mac n) MAC.TS_ADJ_TX) + e) / 10).toNat, s')
  else ((t / 10).toNat, s)

/-- The stamp of a frame received whose reference bit crossed the pins at an instant. -/
def State.rxStamp (s : State) (n tenths : Nat) : Nat × State :=
  let (_, c, u) := stampCorr (s.get (Pg.mac n) MAC.STAT_SPEED) (s.flag (Pg.mac n) MAC.STAT_FEC_ACTIVE)
  let (e, s') := s.freeErr (20 + u)
  let t := s.stampAt n tenths + e
  if s.flag (Pg.mac n) MAC.CFG_TS_CORR then
    (((t + 10 * signed 16 (s.get (Pg.mac n) MAC.TS_ADJ_RX)) / 10).toNat, s')
  else (((t + c) / 10).toNat, s')

/-- The originTimestamp written at TS_OFS, and the UDP checksum corrected incrementally (R301). -/
def stampFrame (l : List Byte) (tsOfs csumOfs ns : Nat) : List Byte :=
  let new := beBytes (ns / nsPerSec % 2 ^ 48) 6 ++ beBytes (ns % nsPerSec) 4
  let l' := overlay l tsOfs new
  if csumOfs = 0 then l'
  else
    -- The words of the datagram that the ten bytes touch, aligned as the checksum takes them.
    let first := tsOfs - (tsOfs + csumOfs) % 2
    let count := if (tsOfs + csumOfs) % 2 = 0 then 5 else 6
    let old := (List.range count).map fun i => 65535 - be16 l (first + 2 * i)
    let now := (List.range count).map fun i => be16 l' (first + 2 * i)
    overlay l' csumOfs (beBytes (65535 - onesSum ((65535 - be16 l csumOfs) :: old ++ now)) 2)

/-! ### Policing (R292): tokens in 1/5000 byte, which a cycle earns POL_RATE of -/

def State.burst (s : State) (n q : Nat) : Nat := s.get (Pg.mac n) MAC.POL_BURST_BURST q * 1024 * 5000

/-- The bucket as it stands now. -/
def State.refill (s : State) (n q : Nat) : State :=
  let x := s.mac n
  let t := nget 0 x.tokens q + (s.now - nget 0 x.tokensAt q) * s.get (Pg.mac n) MAC.POL_RATE_RATE q
  s.setMac n { x with tokens := nput 0 x.tokens q (min t (s.burst n q)), tokensAt := nput 0 x.tokensAt q s.now }

/-- POL_RATE or POL_BURST written: the bucket is filled up to now first, and a bucket that is turned on holds a free
amount. -/
def State.setPolice (s : State) (n q : Nat) (f : State → State) : State :=
  let off := s.get (Pg.mac n) MAC.POL_RATE_RATE q = 0
  let s := f (s.refill n q)
  if off && s.get (Pg.mac n) MAC.POL_RATE_RATE q ≠ 0 then
    let (v, s) := s.free
    s.onMac n fun x => { x with tokens := nput 0 x.tokens q (v % (s.burst n q + 1)), tokensAt := nput 0 x.tokensAt q s.now }
  else s.onMac n fun x => { x with tokens := nput 0 x.tokens q (min (nget 0 x.tokens q) (s.burst n q)) }

/-- The bucket lacks the tokens of a frame of this many bytes with its FCS. -/
def State.policedOut (s : State) (n q bytes : Nat) : Bool :=
  s.get (Pg.mac n) MAC.POL_RATE_RATE q ≠ 0 && nget 0 (s.mac n).tokens q < bytes * 5000

def State.takeTokens (s : State) (n q bytes : Nat) : State :=
  if s.get (Pg.mac n) MAC.POL_RATE_RATE q = 0 then s
  else s.onMac n fun x => { x with tokens := nput 0 x.tokens q (nget 0 x.tokens q - bytes * 5000) }

/-! ### The scheduler (R288 to R293) -/

/-- Preemption runs while EN is 1 and verification has succeeded, or while VERIFY_DIS is 1 (R289). -/
def State.preempting (s : State) (n : Nat) : Bool :=
  let p := Pg.mac n
  (s.flag p MAC.PREEMPT_CTRL_EN && s.get p MAC.PREEMPT_CTRL_VERIFY == 3) || s.flag p MAC.PREEMPT_CTRL_VERIFY_DIS

/-- The frame length, with FCS and tag, of the descriptor at the head of a queue. -/
def State.headBytes (s : State) (n q : Nat) : Nat :=
  if q = 6 then ((s.postedHead n).map fun p => p.bytes.length + 4).getD 0
  else
    let d := (s.readDesc n q (s.qCons n q)).2
    max d.len 60 + 4 + (if d.vlan then 4 else 0)

/-- Descriptors at the head of a queue that are not sent complete now; true: the queue then has a frame to start (or, with
the link down, to drop). -/
def State.headReady (s : State) (n q : Nat) : Nat → State × Bool
  | 0 => (s, false)
  | fuel + 1 =>
    let idx := s.qCons n q
    let p := Pg.mac n
    if s.qWaiting n q = 0 || s.qHalted n q then (s, false)
    else if !s.enabled p && !(s.mac n).fetched.contains (q, idx) then
      (s.completeTx n q idx Tx.notEnabled none false 0 false).headReady n q fuel
    else if s.linkUp n && s.qPaused n q then (s, false)
    else if s.rangePoisoned (s.descAt n q idx) 16 then
      (((s.readDesc n q idx).1.set p MAC.TXQ_STAT_HALTED 1 q).event p 10, false)
    else if !(s.readDesc n q idx).2.ok (s.get p MAC.CFG_MAX_FRAME) then
      ((s.readDesc n q idx).1.completeTx n q idx Tx.badArg none false 0 false).headReady n q fuel
    else if !s.linkUp n then (s, 6 ≤ q)
    else
      let s := s.refill n q
      if s.policedOut n q (s.headBytes n q) then
        let s := ((s.count p MAC.TX_POLICED).event p 11).completeTx n q idx Tx.policed none false 0 false
        s.headReady n q fuel
      else (s, true)

/-- The frame at the head of a queue begins at the earliest instant from `from_` (tenths of a cycle) on. -/
def State.startHead (s : State) (n q from_ : Nat) : State :=
  let idx := s.qCons n q
  let bt := s.byteTime n
  let at_ := max from_ (s.mac n).wireAt + 8 * bt
  if q = 6 then
    match s.postedHead n with
    | none => s
    | some p =>
      let drop := !s.linkUp n
      let buf := s.flowFrameAt p.ctx
      let s := (s.netRead (n + 1) buf p.bytes.length []).1
      let poison := s.rangePoisoned buf p.bytes.length
      let s := if drop then s else s.takeTokens n q (p.bytes.length + 4)
      let f : TxFrame := { queue := q, idx := idx, bytes := p.bytes, frags := 1, sent := 0, startAt := at_,
                           byteTime := bt, tsReq := false, oneStep := none, refAt := at_, buf := buf,
                           len := p.bytes.length, poison := poison, drop := drop }
      s.onMac n fun x => { x with cur := some f }
  else
    let (s, d) := s.readDesc n q idx
    let drop := !s.linkUp n
    let (s, raw) := s.netRead (n + 1) d.buf d.len []
    let poison := s.rangePoisoned d.buf d.len
    let raw := padded raw
    let bytes := if d.vlan then insertTag raw d.tci else raw
    let tag := if d.vlan then 4 else 0
    let once := if d.oneStep then some (d.tsOfs + tag, if d.csumOfs = 0 then 0 else d.csumOfs + tag) else none
    let s := if drop then s else s.takeTokens n q (bytes.length + 4)
    let f : TxFrame := { queue := q, idx := idx, bytes := bytes, frags := 1, sent := 0, startAt := at_,
                         byteTime := bt, tsReq := d.tsReq, oneStep := once, refAt := at_, buf := d.buf, len := d.len,
                         poison := poison, drop := drop }
    s.onMac n fun x => { x with cur := some f }

/-- Reserved multicast address, port address, 0x8808, opcode 1, quanta (Annex 31B). -/
def State.pauseBytes (s : State) (n : Nat) (quanta : BitVec 16) : List Byte :=
  padded ([0x01, 0x80, 0xC2, 0x00, 0x00, 0x01] ++ beBytes (s.get (Pg.mac n) MAC.ADDR_HI_ADDR) 2 ++
    beBytes (s.get (Pg.mac n) MAC.ADDR_LO_ADDR) 4 ++ [0x88, 0x08, 0x00, 0x01] ++ beBytes quanta.toNat 2)

def State.startPause (s : State) (n : Nat) (quanta : BitVec 16) : State :=
  let bt := s.byteTime n
  let at_ := max (10 * s.now) (s.mac n).wireAt + 8 * bt
  let bytes := s.pauseBytes n quanta
  let f : TxFrame := { queue := 8, idx := 0, bytes := bytes, frags := 1, sent := 0, startAt := at_, byteTime := bt,
                       tsReq := false, oneStep := none, refAt := at_, buf := 0, len := 0, poison := false,
                       drop := false }
  s.onMac n fun x => { x with pauseDue := none, cur := some f }

/-- The first of some queues with a frame to start starts it. -/
def State.tryQueues (s : State) (n : Nat) : List Nat → State
  | [] => s
  | q :: qs =>
    let (s, ready) := s.headReady n q (s.qWaiting n q + 1)
    if ready then s.startHead n q (10 * s.now) else s.tryQueues n qs

/-- The preempted frame goes on with its next fragment. -/
def State.resumeFrame (s : State) (n : Nat) : State :=
  let x := s.mac n
  match x.resume with
  | none => s
  | some f =>
    s.setMac n { x with
      resume := none
      cur := some { f with startAt := max (10 * s.now) x.wireAt + 8 * f.byteTime, frags := f.frags + 1 } }

/-- The wire is free: a PAUSE frame, an express frame, the preempted frame or a preemptable frame goes out (R288, R290). -/
def State.pick (s : State) (n : Nat) : State :=
  if (s.mac n).cur.isSome then s
  else
    match (if s.linkUp n then (s.mac n).pauseDue else none) with
    | some q => s.startPause n q
    | none =>
      let s := s.tryQueues n [7, 6]
      if (s.mac n).cur.isSome then s
      else if (s.mac n).resume.isSome then s.resumeFrame n
      else s.tryQueues n [5, 4, 3, 2, 1, 0]

/-- Data bytes of the frame that have left, the byte under way included. -/
def TxFrame.gone (f : TxFrame) (now : Nat) : Nat := f.sent + (10 * now - f.startAt + f.byteTime - 1) / f.byteTime

/-- The 4-byte boundary at which an express frame interrupts, if the fragment and the rest keep 60 B (R290). -/
def TxFrame.boundary (f : TxFrame) (now : Nat) : Option Nat :=
  let b := (max (f.gone now) (f.sent + 60) + 3) / 4 * 4
  if b + 60 ≤ f.bytes.length then some b else none

/-- An express frame that has reached the head of its queue interrupts a preemptable one (R290). -/
def State.preempt (s : State) (n : Nat) : State :=
  match (s.mac n).cur with
  | none => s.pick n
  | some f =>
    if f.drop || 5 < f.queue || !s.preempting n then s
    else
      match f.boundary s.now with
      | none => s
      | some b =>
        let (s, r7) := s.headReady n 7 (s.qWaiting n 7 + 1)
        let (s, r6) := if r7 then (s, false) else s.headReady n 6 (s.qWaiting n 6 + 1)
        if r7 || r6 then
          let s := s.count (Pg.mac n) MAC.FRAG_TX
          let end_ := f.startAt + (b - f.sent + 16) * f.byteTime
          let s := s.onMac n fun x => { x with cur := none, resume := some { f with sent := b }, wireAt := end_ }
          s.startHead n (if r7 then 7 else 6) end_
        else s

/-- Everything that can complete without a turn on the wire does so, and the wire takes its next frame. -/
def State.schedule (s : State) (n : Nat) : State :=
  let s := if s.enabled (Pg.mac n) then s
    else s.each (List.range 8) fun t q =>
      if (t.mac n).fetched.any fun e => e.1 == q then t
      else if t.qHalted n q then t
      else (t.headReady n q (t.qWaiting n q + 1)).1
  s.preempt n

/-- The stamp of a frame that ended with a good FCS enters the timestamp queue, or is lost (R302). The tag, if queued. -/
def State.offerStamp (s : State) (n : Nat) (f : TxFrame) (ns : Nat) : State × Option Nat :=
  let x := s.mac n
  let p := Pg.mac n
  if x.tsq.length < 64 then
    let e : TsEntry := { tag := BitVec.ofNat 6 x.tsSeq, queue := f.queue, stamp := BitVec.ofNat 32 ns }
    ((s.setMac n { x with tsq := x.tsq ++ [e], tsSeq := x.tsSeq + 1 }).set p MAC.TSQ_STAT_COUNT (x.tsq.length + 1),
     some (x.tsSeq % 64))
  else
    let s := s.setMac n { x with tsSeq := x.tsSeq + 1 }
    ((((s.count p MAC.TS_LOST).lifeAdd p 2).event p 9).raise Src.tsLost n, none)

/-! ### PAUSE (R298, R299) -/

/-- A ring's occupancy exceeds a percentage. -/
def State.ringAbove (s : State) (n r pct : Nat) : Bool :=
  let p := Pg.mac n
  let c := s.get p MAC.RXR_CFG_COUNT r
  c ≠ 0 && pct * c < 100 * ((s.get p MAC.RXR_PROD_PROD r + c - s.get p MAC.RXR_CONS_CONS r) % c)

/-- Some ring that counts towards PAUSE exceeds a percentage. -/
def State.someRingAbove (s : State) (n pct : Nat) : Bool :=
  (List.range 3).any fun r => s.flag (Pg.mac n) MAC.RXR_CFG_PAUSE_EN r && s.ringAbove n r pct

/-- PAUSE starts above a high watermark, and ends with zero quanta when every ring is at or below the low one. -/
def State.pauseUpdate (s : State) (n : Nat) : State :=
  let p := Pg.mac n
  let on := s.flag p MAC.CFG_PAUSE_TX
  if s.flag p MAC.STAT_PAUSING then
    if !on || !s.someRingAbove n (s.get p MAC.PAUSE_CFG_LOW_PCT) then
      let s := (s.set p MAC.STAT_PAUSING 0).event p 3
      let s := if on && s.linkUp n then s.onMac n fun x => { x with pauseDue := some 0, pauseAt := s.now } else s
      s.schedule n
    else s
  else if on && s.enabled p && s.linkUp n && s.someRingAbove n (s.get p MAC.PAUSE_CFG_HIGH_PCT) then
    let s := (s.set p MAC.STAT_PAUSING 1).event p 2
    (s.onMac n fun x => { x with
      pauseDue := some (BitVec.ofNat 16 (s.get p MAC.PAUSE_CFG_QUANTA)), pauseAt := s.now }).schedule n
  else s

/-- Island cycles of a number of quanta: 64 byte times each. -/
def quantaCycles (q bt : Nat) : Nat := q * 64 * bt / 10

/-- A received PAUSE (R299). -/
def State.pauseReceived (s : State) (n quanta : Nat) : State :=
  let p := Pg.mac n
  let s := s.count p MAC.PAUSE_RCVD
  let s := if quanta = 0 then s else s.event p 4
  let mode := s.get p MAC.CFG_PAUSE_RX
  if mode = 0 then s
  else if quanta = 0 then (s.set p MAC.STAT_PAUSED_RX 0).schedule n
  else (s.set p MAC.STAT_PAUSED_RX 1).onMac n fun x =>
    { x with pausedAll := mode == 2, pauseUntil := s.now + quantaCycles quanta (s.byteTime n) }

/-! ### The link (R282, R283, R289, R293) -/

/-- Verification is disabled, or waits for the link. -/
def State.verifyIdle (s : State) (n : Nat) : Nat :=
  let p := Pg.mac n
  if s.flag p MAC.PREEMPT_CTRL_EN && !s.flag p MAC.PREEMPT_CTRL_VERIFY_DIS then 1 else 0

/-- The lane below the port carries traffic at a rate. -/
def State.macUp (s : State) (n rate : Nat) : State :=
  let p := Pg.mac n
  if s.linkUp n then s
  else
    let s := (s.set p MAC.STAT_LINK 1).set p MAC.STAT_SPEED rate
    let s := s.setFlag p MAC.STAT_FEC_ACTIVE (rate == 2 && (s.mac n).fecNext)
    let s := s.event p 0
    let s := if s.verifyIdle n = 1 then
        (s.set p MAC.PREEMPT_CTRL_VERIFY 2).onMac n fun x => { x with verifySent := 1, verifyAt := s.now }
      else s.set p MAC.PREEMPT_CTRL_VERIFY 0
    (s.pauseUpdate n).schedule n

def State.macDown (s : State) (n : Nat) : State :=
  let p := Pg.mac n
  if s.linkUp n then
    let s := (((s.set p MAC.STAT_LINK 0).set p MAC.STAT_FEC_ACTIVE 0).event p 1).lifeAdd p 3
    let s := (s.set p MAC.PREEMPT_CTRL_VERIFY (s.verifyIdle n)).onMac n fun x => { x with pauseDue := none }
    (s.pathsDown n).schedule n
  else s

/-! ### Receive rings (R295) -/

/-- A ring or queue size: 0, or 16 to 4,096. -/
def ringCount (n : Nat) : Bool := n = 0 || inRange 16 n 4096

/-- A range of Girth offsets meets a vault granule. -/
def State.inVault (s : State) (o n : Nat) : Bool :=
  (List.range 64).any fun g => s.vaultMap.getLsbD g && o < s.vaultBase + (g + 1) * 65536 && s.vaultBase + g * 65536 < o + n

/-- A ring of a port overlaps a vault granule, which firmware refuses. -/
def State.ringInVault (s : State) (n r : Nat) : Bool :=
  let p := Pg.mac n
  let c := s.get p MAC.RXR_CFG_COUNT r
  s.inVault (s.get p MAC.RXR_BASE_BASE r / 16 * 16) (16 * c) ||
    s.inVault (s.get p MAC.RXR_DATA_DATA r / 1024 * 1024) (2048 * s.get p MAC.RXR_CFG_SLOT_KIB r * c)

/-- A ring takes a setting, unless its size or its slots' is none or it would overlap a vault granule. -/
def State.setRing (s : State) (n r base data count slot : Nat) : State :=
  let p := Pg.mac n
  let t := (s.set p MAC.RXR_BASE_BASE base r).set p MAC.RXR_DATA_DATA data r
  let t := (t.set p MAC.RXR_CFG_COUNT count r).set p MAC.RXR_CFG_SLOT_KIB slot r
  if ringCount count && inRange 1 slot 5 && !t.ringInVault n r then t else s

/-! ### Enabling and disabling (R303) -/

/-- EN has been cleared: up to 4 descriptors of each queue have been fetched. -/
def State.macDrained (s : State) (n : Nat) : State :=
  let l := (List.range 8).flatMap fun q =>
    if s.qHalted n q then []
    else (List.range (min 4 (s.qWaiting n q))).map fun k => (q, (s.qCons n q + k) % s.qCount n q)
  let p := Pg.mac n
  let due := s.flag p MAC.STAT_PAUSING && s.linkUp n
  let s := if s.flag p MAC.STAT_PAUSING then (s.set p MAC.STAT_PAUSING 0).event p 3 else s
  let now := s.now
  (s.onMac n fun x => { x with fetched := l, drainAt := some now, pauseDue := if due then some 0 else x.pauseDue }).schedule n

/-- Nothing that the port knows of is in flight. That no frame is being received any more, QUIESCED itself says (log 342). -/
def State.macIdle (s : State) (n : Nat) : Bool :=
  let x := s.mac n
  x.cur.isNone && x.resume.isNone && x.fetched.isEmpty && x.pauseDue.isNone

/-- KILL: what is in flight completes with ABORTED; `live` says that the port took work until now. -/
def State.macKilled (s : State) (n : Nat) (live : Bool) : State :=
  let x := s.mac n
  let frames := ((x.cur.toList ++ x.resume.toList).filter fun f => f.queue ≤ 7).map fun f => (f.queue, f.idx)
  let all := (List.range 8).flatMap fun q =>
    if s.qHalted n q then []
    else ((List.range (min 4 (s.qWaiting n q))).map fun k => (q, (s.qCons n q + k) % s.qCount n q)).filter fun e =>
      x.fetched.contains e || frames.contains e || live
  let p := Pg.mac n
  let s := if s.flag p MAC.STAT_PAUSING then (s.set p MAC.STAT_PAUSING 0).event p 3 else s
  let s := s.setMac n { x with cur := none, resume := none, pauseDue := none, drainAt := none, killAt := some s.now }
  ((s.each all fun t e => t.completeTx n e.1 e.2 Tx.aborted none false 0 false).onMac n fun y =>
    { y with fetched := [] }).schedule n

/-- SRST: the queues and indices are empty; what the page shows of the lane stays true, and what KILL discards is discarded. -/
def State.macReset (s : State) (n : Nat) (old : State) : State :=
  let p := Pg.mac n
  let s := s.setMac n { Mac.reset with
    tsSeq := (old.mac n).tsSeq, fecNext := (old.mac n).fecNext, killAt := (old.mac n).killAt }
  let s := { s with flow := { s.flow with posted := s.flow.posted.filter fun x => x.port ≠ n } }
  ((s.set p MAC.STAT_LINK (old.get p MAC.STAT_LINK)).set p MAC.STAT_SPEED (old.get p MAC.STAT_SPEED)).set p
    MAC.STAT_FEC_ACTIVE (old.get p MAC.STAT_FEC_ACTIVE)

/-- EN set: what waits goes out. -/
def State.macEnabled (s : State) (n : Nat) : State := (s.onMac n fun x => { x with drainAt := none }).schedule n

end Sys2Proof.Machine
end

