-- ==== Sys2Proof/Machine/MbxOps.lean ====
section
/-!
DEFINITION. What the mailbox commands share (R48 to R52): status codes, the answer in MBX_RESP, long operations and their
MBX_DONE records, and what stands before a command is carried out (R29, R471, R478).
-/

namespace Sys2Proof.Machine

/-! ### Status codes (R48) -/

def St.ok : Nat := 0x00
def St.accepted : Nat := 0x01
def St.notEnabled : Nat := 0x02
def St.aborted : Nat := 0x03
def St.absent : Nat := 0x04
def St.badOpcode : Nat := 0x05
def St.badArg : Nat := 0x06
def St.busy : Nat := 0x07
def St.refused : Nat := 0x08
def St.tooLate : Nat := 0x09
def St.authFail : Nat := 0x0A
def St.fwRestart : Nat := 0x0B
def St.fwRecovery : Nat := 0x0C
def St.mfgTest : Nat := 0x0D

/-! ### Opcodes (R52) -/

def Op.planLoad : Nat := 0x01
def Op.planAdmit : Nat := 0x02
def Op.commitAt : Nat := 0x03
def Op.sceneStage : Nat := 0x04
def Op.flowAdd : Nat := 0x05
def Op.flowDel : Nat := 0x06
def Op.ptpProfile : Nat := 0x07
def Op.refDeclare : Nat := 0x08
def Op.trainDram : Nat := 0x09
def Op.ckptNow : Nat := 0x0A
def Op.lifeDump : Nat := 0x0B
def Op.fwUpdate : Nat := 0x0C

/-- Firmware states of HOST.BOOT_STAT. -/
def Fw.rom : Nat := 0
def Fw.verify : Nat := 1
def Fw.run : Nat := 2
def Fw.recovery : Nat := 3
def Fw.restarting : Nat := 4
def Fw.mfgTest : Nat := 5

def State.fwState (s : State) : Nat := s.get Pg.host HOST.BOOT_STAT_FW_STATE

/-- A change of the control complex. -/
def State.onCtrl (s : State) (f : Ctrl → Ctrl) : State := { s with ctrl := f s.ctrl }

/-- Word 0 of a response: OPCODE, TAG, STATUS, NWORDS (R50). -/
def respHeader (op : Nat) (tag : BitVec 8) (status n : Nat) : Word :=
  BitVec.ofNat 32 (op * 2 ^ 24 + tag.toNat * 2 ^ 16 + status * 2 ^ 8 + n)

/-- Words placed from an index of MBX_RESP upwards. -/
def putWords (m : SMap Nat Word) (i : Nat) : List Word → SMap Nat Word
  | [] => m
  | w :: ws => putWords (nput 0 m i w) (i + 1) ws

/-- Firmware answers a command: MBX_RESP, BUSY, RESP_READY and the event. -/
def State.reply (s : State) (op : Nat) (tag : BitVec 8) (status : Nat) (words : List Word) : State :=
  let ws := respHeader op tag status words.length :: words
  let s := s.onCtrl fun c => { c with resp := putWords c.resp 0 ws, short := none }
  let s := (s.set Pg.host HOST.MBX_STAT_BUSY 0).set Pg.host HOST.MBX_STAT_RESP_READY 1
  (s.event Pg.host 0).answer (.ok ws)

/-- A doorbell that no firmware answers yet. -/
def State.mbxHeld (s : State) (op : Nat) (tag : BitVec 8) : State :=
  (s.set Pg.host HOST.MBX_STAT_BUSY 1).onCtrl fun c => { c with short := some ⟨BitVec.ofNat 8 op, tag⟩ }

/-- Word 0 of MBX_REQ: OPCODE, TAG and NARGS (R50). -/
def reqHeader (op : Nat) (tag : BitVec 8) (nargs : Nat) : Word :=
  BitVec.ofNat 32 (op * 2 ^ 24 + tag.toNat * 2 ^ 16 + nargs % 64)

/-- A Harness address as two argument words, the low word first (R52). -/
def addrArgs (a : Nat) : List Word := [BitVec.ofNat 32 a, BitVec.ofNat 32 (a / 2 ^ 32)]

/-- The host writes a request of argument words into MBX_REQ (R50). -/
def State.submit (s : State) (op : Nat) (tag : BitVec 8) (args : List Word) : State :=
  s.onCtrl fun c => { c with req := putWords c.req 0 (reqHeader op tag args.length :: args) }

/-- The number of argument words in MBX_REQ (R50), and the words. -/
def State.reqCount (s : State) : Nat := (nget 0 s.ctrl.req 0).toNat % 64
def State.reqArgs (s : State) : List Word := (List.range s.reqCount).map fun i => nget 0 s.ctrl.req (i + 1)

/-- A request waits whose doorbell a register write has rung: the command is the one that MBX_REQ spells, and firmware is
there to carry it out. -/
def State.rung (s : State) (op : Nat) (tag : BitVec 8) (args : List Word) : Bool :=
  (s.fwState == Fw.run || s.fwState == Fw.recovery) && s.ctrl.short == some ⟨BitVec.ofNat 8 op, tag⟩ && s.reqArgs == args

/-- A mailbox command with its argument words: MBX_REQ and the doorbell in one, or the carrying out of a request whose
doorbell has rung (log 70). One command at a time: a doorbell while BUSY is ignored and sets OVERRUN (R50). The command is
refused in RECOVERY, in manufacturing test and before READY, left waiting while no firmware runs, else carried out. -/
def State.mailbox (s : State) (op : Nat) (tag : BitVec 8) (args : List Word) (f : State → State) : State :=
  let st := s.fwState
  let busy := s.flag Pg.host HOST.MBX_STAT_BUSY
  if busy && !s.rung op tag args then s.set Pg.host HOST.MBX_STAT_OVERRUN 1
  else
    let s := if busy then s else s.submit op tag args
    if st = Fw.recovery then (if op = Op.fwUpdate then f s else s.reply op tag St.fwRecovery [])
    else if st = Fw.mfgTest then s.reply op tag St.mfgTest []
    else if st = Fw.run then (if s.ready then f s else s.reply op tag St.busy [])
    else s.mbxHeld op tag

/-- The argument words of each command (R52). -/
def argCount (op : Nat) : Nat :=
  if op = Op.planLoad || op = Op.commitAt || op = Op.refDeclare then 4
  else if op = Op.sceneStage || op = Op.ptpProfile || op = Op.lifeDump || op = Op.fwUpdate then 3
  else if op = Op.flowAdd || op = Op.trainDram then 2
  else if op = Op.ckptNow then 0
  else 1

/-- A short command's final status. -/
def State.done (s : State) (op : Nat) (tag : BitVec 8) : State := s.reply op tag St.ok []
def State.refuse (s : State) (op : Nat) (tag : BitVec 8) (reason : Nat) : State :=
  s.reply op tag St.refused [BitVec.ofNat 32 reason]

/-- A refusal for which the spec names no reason: its word is a free value (log 3). -/
def State.refuseOpen (s : State) (op : Nat) (tag : BitVec 8) : State := s.free.2.refuse op tag s.free.1

/-! ### Long operations (R49, R51) -/

/-- A long command is accepted and reports on a page. -/
def State.accept (s : State) (op : Nat) (tag : BitVec 8) (page : Nat) : State :=
  let s := (s.longStart page).onCtrl fun c => { c with long := c.long ++ [⟨BitVec.ofNat 8 op, tag⟩] }
  s.reply op tag St.accepted []

/-- A record enters MBX_DONE. -/
def State.putDone (s : State) (r : DoneRec) : State :=
  (s.onCtrl fun c => { c with done := c.done ++ [r] }).event Pg.host 1

/-- MBX_DONE takes a record, or firmware holds it back, behind those it holds already, while the queue is full. -/
def State.queueDone (s : State) (r : DoneRec) : State :=
  if s.ctrl.held.isEmpty && s.ctrl.done.length < 8 then s.putDone r
  else s.onCtrl fun c => { c with held := c.held ++ [r] }

/-- A long command of an opcode and tag ends with a status. -/
def State.finish (s : State) (op : Nat) (tag : BitVec 8) (page status : Nat) : State :=
  let s := s.onCtrl fun c => { c with long := c.long.filter fun l => !(l.op == BitVec.ofNat 8 op && l.tag == tag) }
  (s.longEnd page (status == St.ok)).queueDone ⟨BitVec.ofNat 8 op, tag, BitVec.ofNat 8 status⟩

/-- A long command of an opcode runs. -/
def State.longRuns (s : State) (op : Nat) : Bool := s.ctrl.long.any fun l => l.op == BitVec.ofNat 8 op

/-! ### The pair's states that hold plans and flows back (R481) -/

def Pair.alone : Nat := 0
def Pair.seeking : Nat := 1
def Pair.active : Nat := 2
def Pair.standby : Nat := 3
def Pair.warming : Nat := 4
def Pair.holdoff : Nat := 5
def Pair.takingOver : Nat := 6
def Pair.isolated : Nat := 7

def State.pairState (s : State) : Nat := s.get Pg.keeper KEEPER.STAT_PAIR_STATE

def State.pairEnabled (s : State) : Bool := s.flag Pg.keeper KEEPER.CFG_PAIR_EN

/-- Reason 0x10: a paired node that is neither ALONE nor ACTIVE. -/
def State.pairHoldsBack (s : State) : Bool :=
  s.pairEnabled && s.pairState ≠ Pair.alone && s.pairState ≠ Pair.active

end Sys2Proof.Machine
end

