-- ==== Sys2Proof/Machine/LaneOps.lean ====
section
/-!
DEFINITION. What the serial lanes' commands share (chapter 10): bring-up, LOS, tests and sleep.
-/

namespace Sys2Proof.Machine

def State.lane (s : State) (n : Nat) : Lane := nget Lane.reset s.lanes n
def State.setLane (s : State) (n : Nat) (x : Lane) : State := { s with lanes := nput Lane.reset s.lanes n x }
def State.onLane (s : State) (n : Nat) (f : Lane → Lane) : State := s.setLane n (f (s.lane n))

/-- Network lanes 0 to 3, Tether lanes 4 and 5, PCIe lanes 6 to 9 (R269). -/
def networkLane (n : Nat) : Bool := n < 4
def pcieLane (n : Nat) : Bool := 6 ≤ n

/-- STATE of R273. -/
def Ls.off : Nat := 0
def Ls.listen : Nat := 1
def Ls.negotiate : Nat := 2
def Ls.detect : Nat := 3
def Ls.switch : Nat := 4
def Ls.up : Nat := 5
def Ls.sleep : Nat := 6
def Ls.test : Nat := 7

def State.laneState (s : State) (n : Nat) : Nat := s.get (Pg.lane n) LANE.STAT_STATE
def State.laneLos (s : State) (n : Nat) : Bool := s.flag (Pg.lane n) LANE.STAT_LOS

/-- A new state, whose window begins now (or `ms` later). -/
def State.setLaneState (s : State) (n v : Nat) (ms : Nat := 0) : State :=
  (s.set (Pg.lane n) LANE.STAT_STATE v).onLane n fun x => { x with since := s.now + cyclesMs ms }

/-- The recovery loop is locked. A lock from before the move of SWITCH is lost with the move: the loop has to find the new
rate (R271, R273). -/
def State.rxLocked (s : State) (n : Nat) : Bool :=
  let x := s.lane n
  s.flag (Pg.lane n) LANE.STAT_RX_LOCKED && !(s.laneState n = Ls.switch && x.since ≤ s.now && decide (x.rxAt < x.since))

/-- The loop tracks ±200 ppm, in units of 0.01 ppm (R271). -/
def tracks (ppm : BitVec 16) : Bool := decide (ppm.toInt.natAbs ≤ 20000)

/-- The recovery loop locks, with the offset it measures. -/
def State.setLocked (s : State) (n : Nat) (ppm : BitVec 16) : State :=
  let p := Pg.lane n
  let s := ((s.set p LANE.STAT_RX_LOCKED 1).set p LANE.STAT_SIG_DET 1).set p LANE.STAT_PPM ppm.toNat
  s.onLane n fun x => { x with rxAt := s.now }

/-- The loop locks to a signal whose offset, within what it tracks, is free. -/
def State.findLock (s : State) (n : Nat) : State :=
  let (v, s) := s.free
  s.setLocked n (BitVec.ofInt 16 ((v % 40001 : Nat) - 20000))

/-- A waking receiver that is not locked: whether a signal has let its loop lock by now the line decides (free, log 341). -/
def State.seekLock (s : State) (n : Nat) : State :=
  let p := Pg.lane n
  if s.enabled p && !s.flag p LANE.SLEEP_RX && !s.rxLocked n && (s.laneState n ≠ Ls.off || pcieLane n) then
    let (v, s) := s.free
    if v % 2 = 1 then s.findLock n else s
  else s

/-- The recovery loop is not locked (R271). -/
def State.unlockRx (s : State) (n : Nat) : State :=
  ((s.set (Pg.lane n) LANE.STAT_RX_LOCKED 0).set (Pg.lane n) LANE.STAT_PPM 0).onLane n fun x => { x with estAt := none }

/-- The port above the lane has its link while the lane is UP without LOS. -/
def State.laneLink (s : State) (n : Nat) : State :=
  if networkLane n then
    if s.laneState n = Ls.up && !s.laneLos n then s.macUp n (s.get (Pg.lane n) LANE.STAT_RATE) else s.macDown n
  else s

/-- LOS clears: the lane has been established again (R275), or it sleeps, is tested or is off. -/
def State.dropLos (s : State) (n : Nat) : State :=
  if s.laneLos n then ((s.set (Pg.lane n) LANE.STAT_LOS 0).event (Pg.lane n) 2).lower Src.laneLos n else s

/-- The lane tries a rate in DETECT; the loop has to lock to it. -/
def State.detectAt (s : State) (n rate : Nat) : State :=
  let s := (s.setLaneState n Ls.detect).unlockRx n
  (s.set (Pg.lane n) LANE.STAT_RATE rate).onLane n fun x => { x with try_ := rate }

/-- The lane listens at 1.25 Gb/s. -/
def State.listens (s : State) (n : Nat) : State :=
  ((s.setLaneState n Ls.listen).unlockRx n).set (Pg.lane n) LANE.STAT_RATE 0

/-- Bring-up begins: CFG and FEC_EN apply; LISTEN, or DETECT in FIXED mode (R273, R274, R283). -/
def State.bringUp (s : State) (n : Nat) : State :=
  let p := Pg.lane n
  let mode := s.flag p LANE.CFG_MODE
  let rate := s.get p LANE.CFG_RATE_MAX
  let clear := s.get p LANE.CFG_LOS_CLEAR
  let auto_ := s.flag p LANE.CFG_AUTO_RESTART
  let s := (s.unlockRx n).onLane n fun x => { x with
    mode := mode, rateMax := rate, losClear := clear, autoRestart := auto_, waking := false, try_ := 0 }
  let s := if networkLane n then s.onMac n fun x => { x with fecNext := s.flag (Pg.mac n) MAC.CFG_FEC_EN } else s
  let s := if mode then s.listens n else s.detectAt n rate
  s.laneLink n

/-- A restart under R275: it counts. -/
def State.restartLane (s : State) (n : Nat) : State :=
  let p := Pg.lane n
  (((s.count p LANE.RESTARTS).lifeAdd p 1).event p 4).bringUp n

/-- The lane enters UP at a rate. -/
def State.laneUp (s : State) (n rate : Nat) : State :=
  let s := (s.setLaneState n Ls.up).set (Pg.lane n) LANE.STAT_RATE rate
  let s := s.onLane n fun x => { x with last := rate, everUp := true, waking := false }
  (s.event (Pg.lane n) 0).laneLink n

/-! ### Tests (R276 to R278) -/

/-- A loopback is selected, or the generator or the checker is on. -/
def State.testing (s : State) (n : Nat) : Bool :=
  let p := Pg.lane n
  s.get p LANE.LB_MODE ≠ 0 || s.flag p LANE.PRBS_CTRL_GEN_EN || s.flag p LANE.PRBS_CTRL_CHK_EN

/-- The Keeper reports the pair up: the partner is alive. -/
def State.pairUp (s : State) : Bool := s.flag Pg.keeper KEEPER.STAT_PARTNER_ALIVE

/-- Test writes that R278 refuses whatever they say. -/
def State.testBarred (s : State) (n : Nat) : Bool :=
  (pcieLane n && s.ctrl.linkUp) || (inRange 4 n 5 && s.pairUp)

/-! The pattern checker (R277). -/

/-- Bits in 20 island cycles at a lane's rate code: 1.25, 10.3125 or 25.78125 Gb/s; 2.5 to 16 GT/s on a PCIe lane (R269). -/
def lineBits (n rate : Nat) : Nat :=
  if pcieLane n then (if rate = 0 then 80 else if rate = 1 then 160 else if rate = 2 then 256 else 512)
  else if rate = 0 then 40 else if rate = 1 then 330 else 825

/-- Compared bits in a number of island cycles at a rate. -/
def bitsIn (n rate cycles : Nat) : Nat := cycles * lineBits n rate / 20

/-- PRBS_BITS as stored. -/
def State.prbsBits (s : State) (n : Nat) : Nat :=
  s.get (Pg.lane n) LANE.PRBS_BITS_HI_BITS * 2 ^ 32 + s.get (Pg.lane n) LANE.PRBS_BITS_LO_BITS

/-- Bits compared since the lock or the last CLR. -/
def State.prbsSince (s : State) (n : Nat) : Nat :=
  if s.flag (Pg.lane n) LANE.PRBS_STAT_CHK_LOCK then
    bitsIn n (s.get (Pg.lane n) LANE.STAT_RATE) (s.now - (s.lane n).lockAt)
  else 0

/-- PRBS_BITS as read: while locked, the bits since the lock count as time passes. -/
def State.prbsLive (s : State) (n : Nat) : Nat := min (2 ^ 48 - 1) (s.prbsBits n + s.prbsSince n)

/-- Errors among the bits compared so far count as they come; how many there are the line decides (free, log 325). -/
def State.prbsErrors (s : State) (n : Nat) : State :=
  if s.flag (Pg.lane n) LANE.PRBS_STAT_CHK_LOCK then
    let (v, s) := s.free
    let new := v % (s.prbsSince n - (s.lane n).errSeen + 1)
    (s.count (Pg.lane n) LANE.PRBS_ERR_ERRORS new).onLane n fun x => { x with errSeen := x.errSeen + new }
  else s

/-- PRBS_BITS takes a number of bits. -/
def State.addBits (s : State) (n bits : Nat) : State :=
  let total := min (2 ^ 48 - 1) (s.prbsBits n + bits)
  (s.set (Pg.lane n) LANE.PRBS_BITS_LO_BITS total).set (Pg.lane n) LANE.PRBS_BITS_HI_BITS (total / 2 ^ 32)

/-- The checker stops: what it has compared since its lock stays counted. -/
def State.unlockChecker (s : State) (n : Nat) : State :=
  let s := s.prbsErrors n
  (s.addBits n (s.prbsSince n)).set (Pg.lane n) LANE.PRBS_STAT_CHK_LOCK 0

/-- The exponents of a pattern's polynomial. -/
def prbsTaps (code : Nat) : Nat × Nat :=
  match code with
  | 0 => (7, 6)
  | 1 => (9, 5)
  | 2 => (15, 14)
  | 3 => (23, 18)
  | _ => (31, 28)

/-- Bits follow a pattern: each is the sum of the two that its polynomial names, in the inverted stream where INV says so.
A pattern's register never holds zeros alone. -/
def followsPrbs (code : Nat) (inv : Bool) (rx : List Bool) : Bool :=
  let t := prbsTaps code
  let b (i : Nat) : Bool := ((rx[i]?).getD false) != inv
  (List.range t.1).any b && (List.range (rx.length - t.1)).all fun k => b (k + t.1) == (b k != b (k + t.1 - t.2))

/-! Loopbacks (R276). -/

/-- What drives the transmit pins: PCS data or the generator's pattern (R277), idle, a copy of what is looped near, or what
is looped far. -/
inductive TxPins where
  | pcs
  | pattern (code : Nat) (inv : Bool)
  | idle
  | received
  deriving DecidableEq, Repr

/-- The data ahead of the serialiser. -/
def State.txData (s : State) (n : Nat) : TxPins :=
  let p := Pg.lane n
  if s.flag p LANE.PRBS_CTRL_GEN_EN then .pattern (s.get p LANE.PRBS_CTRL_GEN_POLY) (s.flag p LANE.PRBS_CTRL_GEN_INV)
  else .pcs

/-- The transmit pins: idle asleep, off, and in a near-end loopback but for a serial one with TX_ECHO (R276, R279). -/
def State.txPins (s : State) (n : Nat) : TxPins :=
  let p := Pg.lane n
  let mode := s.get p LANE.LB_MODE
  if s.flag p LANE.SLEEP_TX then .idle
  else if mode = 3 then .received
  else if mode = 2 || (mode = 1 && !s.flag p LANE.LB_TX_ECHO) then .idle
  else s.txData n

/-- A near-end loopback brings the lane's own transmit data to its receiver. -/
def State.nearLoop (s : State) (n : Nat) : Bool := inRange 1 (s.get (Pg.lane n) LANE.LB_MODE) 2

/-- With the serialiser's output at the receiver the recovery loop locks to the lane's own clock, whatever the line
brings. -/
def State.lockNear (s : State) (n : Nat) : State :=
  if s.get (Pg.lane n) LANE.LB_MODE = 1 then s.setLocked n 0 else s

/-- Bring-up halts; the rate stays, or becomes RATE_MAX. -/
def State.enterTest (s : State) (n : Nat) : State :=
  let p := Pg.lane n
  let s := if s.laneState n = Ls.up then s else (s.unlockRx n).set p LANE.STAT_RATE (s.get p LANE.CFG_RATE_MAX)
  let s := s.setLaneState n Ls.test
  (((s.onLane n fun x => { x with waking := false }).dropLos n).laneLink n).lockNear n

/-- TEST ends: bring-up restarts; a PCIe lane is the endpoint's again. -/
def State.leaveTest (s : State) (n : Nat) : State :=
  let s := s.unlockChecker n
  if pcieLane n then s.setLaneState n Ls.off else (s.event (Pg.lane n) 4).bringUp n

/-- The lane enters or leaves TEST as its registers say; a sleeping or disabled lane does neither. -/
def State.updateTest (s : State) (n : Nat) : State :=
  let st := s.laneState n
  let on := s.testing n
  if st = Ls.test then (if on then s.lockNear n else s.leaveTest n)
  else if on && s.flag (Pg.lane n) PG.CTRL_EN && st ≠ Ls.sleep && (st ≠ Ls.off || pcieLane n) then s.enterTest n
  else s

/-! ### Sleep (R279) and disabling (R280) -/

/-- The receiver sleeps. -/
def State.sleepLane (s : State) (n : Nat) : State :=
  ((((s.setLaneState n Ls.sleep).unlockRx n).dropLos n).unlockChecker n).laneLink n

/-- The receiver wakes: the last established rate first. -/
def State.wakeLane (s : State) (n : Nat) : State :=
  if s.testing n then s.enterTest n
  else if (s.lane n).everUp then
    let rate := min (s.lane n).last (s.lane n).rateMax
    (s.onLane n fun x => { x with waking := true }).detectAt n rate
  else s.bringUp n

/-- OFF: both directions asleep. -/
def State.laneOff (s : State) (n : Nat) : State :=
  let p := Pg.lane n
  let s := ((s.setLaneState n Ls.off).set p LANE.SLEEP_RX 1).set p LANE.SLEEP_TX 1
  ((((s.unlockRx n).dropLos n).unlockChecker n).onLane n fun x => { x with waking := false }).laneLink n

def State.laneEnabled (s : State) (n : Nat) : State :=
  if pcieLane n then s
  else if s.flag (Pg.lane n) LANE.SLEEP_RX then s.sleepLane n
  else if s.testing n then s.enterTest n
  else s.bringUp n

/-- EN has been cleared: a rate switch completes or fails first. -/
def State.laneDrained (s : State) (n : Nat) : State := if s.laneState n = Ls.switch then s else s.laneOff n

/-- SRST: OFF, with nothing kept of what the registers said before. -/
def State.laneReset (s : State) (n : Nat) : State := (s.laneOff n).setLane n Lane.reset

def State.laneIdle (s : State) (n : Nat) : Bool := s.laneState n ≠ Ls.switch

/-- A switch that has ended on a draining lane. -/
def State.switchEnded (s : State) (n : Nat) (f : State → State) : State :=
  if s.enabled (Pg.lane n) then f s else s.laneOff n

/-- CFG as it stands applies at once: no rate above RATE_MAX is tried any more (R274), and a FIXED lane that brings itself up
tries RATE_MAX alone (R273). -/
def State.applyLaneCfg (s : State) (n : Nat) : State :=
  let p := Pg.lane n
  let mode := s.flag p LANE.CFG_MODE
  let rate := s.get p LANE.CFG_RATE_MAX
  let clear := s.get p LANE.CFG_LOS_CLEAR
  let auto_ := s.flag p LANE.CFG_AUTO_RESTART
  let s := s.onLane n fun x => { x with
    mode := mode, rateMax := rate, losClear := clear, autoRestart := auto_, try_ := min x.try_ rate }
  let st := s.laneState n
  if !(st = Ls.listen || st = Ls.negotiate || st = Ls.detect || st = Ls.switch) then s
  else if !mode then (if st = Ls.detect && s.get p LANE.STAT_RATE = rate then s else s.detectAt n rate)
  else if rate = 0 && (st = Ls.detect || st = Ls.switch) then s.listens n
  else if st = Ls.detect && rate < s.get p LANE.STAT_RATE then s.detectAt n rate
  else s

/-- A write of CFG but for RESTART: RATE_MAX 3 and LOS_CLEAR 0 are ignored; on a lane that is not UP it applies at once
(R274). -/
def State.writeLaneCfg (s : State) (n : Nat) (v : Word) : State :=
  let p := Pg.lane n
  if pcieLane n then s
  else
    let s := (s.set p LANE.CFG_RX_INV (LANE.CFG_RX_INV.of v)).set p LANE.CFG_TX_INV (LANE.CFG_TX_INV.of v)
    let s := if LANE.CFG_LOS_CLEAR.of v = 0 then s else s.set p LANE.CFG_LOS_CLEAR (LANE.CFG_LOS_CLEAR.of v)
    let s := (s.set p LANE.CFG_AUTO_RESTART (LANE.CFG_AUTO_RESTART.of v)).set p LANE.CFG_MODE (LANE.CFG_MODE.of v)
    let s := if LANE.CFG_RATE_MAX.of v = 3 then s else s.set p LANE.CFG_RATE_MAX (LANE.CFG_RATE_MAX.of v)
    if s.laneState n = Ls.up then s else s.applyLaneCfg n

end Sys2Proof.Machine
end

