-- ==== Sys2Proof/Machine/AwlDebug.lean ====
section
/-!
DEFINITION. The registers of the AWL page that act on a tile: sticky clears (R99) and the debug window (R124).
-/

namespace Sys2Proof.Machine

/-- A register write on tile t's page. -/
def State.tileWrite (s : State) (m : Master) (t : Nat) (f : State → State) : Outcome :=
  guardWf (t < 256) (.next (s.writeTo m (Pg.awl t) f))

/-- STICKY_CLR_AOV (R99): TST.AOV clears before the next pass starts. -/
def execStickyClrAov (m : Master) (t : Nat) (s : State) : Outcome :=
  s.tileWrite m t fun s => s.set (Pg.awl t) AWL.STICKY_CLR_AOV 1

/-- STICKY_CLR_SAT (R99). -/
def execStickyClrSat (m : Master) (t : Nat) (s : State) : Outcome :=
  s.tileWrite m t fun s => s.set (Pg.awl t) AWL.STICKY_CLR_SAT 1

/-- The word of an accumulator at index 0x38 + j of the register space. -/
def Tile.accAt (x : Tile) (j : Nat) : Word := ((nget 0 x.acc (j / 3)).extractLsb' (32 * (j % 3)) 32)

/-- One word of an accumulator replaced; the clamp state stays. -/
def Tile.setAccAt (x : Tile) (j : Nat) (v : Word) : Tile :=
  let a := nget 0 x.acc (j / 3)
  let n := if j % 3 = 2 then 16 else 32
  let mask : Acc80 := (BitVec.ofNat 80 (2 ^ n - 1)) <<< (32 * (j % 3))
  let a' := (a &&& ~~~mask) ||| (((v.setWidth 80) <<< (32 * (j % 3))) &&& mask)
  { x with acc := nput 0 x.acc (j / 3) a' }

/-- The register space of DBG_ADDR; an index that is not defined reads zero. -/
def Tile.dbgReg (x : Tile) (i : Nat) : Word :=
  if i < 0x20 then nget 0 x.g i
  else if i < 0x28 then (nget 0 x.p (i - 0x20)).setWidth 32
  else if i < 0x30 then (nget 0 x.m (i - 0x28)).setWidth 32
  else if i < 0x38 then (nget 0 x.l (i - 0x30)).setWidth 32
  else if i < 0x44 then x.accAt (i - 0x38)
  else if i < 0x48 then (nget 0 x.lc (i - 0x44)).setWidth 32
  else if i < 0x4C then (nget 0 x.ls (i - 0x48)).setWidth 32
  else if i < 0x50 then (nget 0 x.le (i - 0x4C)).setWidth 32
  else if i = 0x50 then x.tst
  else if i = 0x51 then x.pc.setWidth 32
  else if i < 0x5A then (nget 0 x.ret (i - 0x52)).setWidth 32
  else 0

/-- A debug write to TST: RSD and LDEPTH ignore it (R124). -/
def Tile.setTst (x : Tile) (v : Word) : Tile :=
  { x with
    clamp := v.extractLsb' 16 4, aov := v.getLsbD 5, sat := v.getLsbD 4, fn := v.getLsbD 3, fz := v.getLsbD 2,
    fv := v.getLsbD 1, fc := v.getLsbD 0 }

/-- A debug write to the register space. -/
def Tile.setDbgReg (x : Tile) (i : Nat) (v : Word) : Tile :=
  if i < 0x20 then { x with g := nput 0 x.g i v }
  else if i < 0x28 then { x with p := nput 0 x.p (i - 0x20) (v.setWidth 15) }
  else if i < 0x30 then { x with m := nput 0 x.m (i - 0x28) (v.setWidth 16) }
  else if i < 0x38 then { x with l := nput 0 x.l (i - 0x30) (v.setWidth 15) }
  else if i < 0x44 then x.setAccAt (i - 0x38) v
  else if i < 0x48 then { x with lc := nput 0 x.lc (i - 0x44) (v.setWidth 16) }
  else if i < 0x4C then { x with ls := nput 0 x.ls (i - 0x48) (v.setWidth 14) }
  else if i < 0x50 then { x with le := nput 0 x.le (i - 0x4C) (v.setWidth 14) }
  else if i = 0x50 then x.setTst v
  else if i = 0x51 then { x with pc := v.setWidth 14 }
  else if i < 0x5A then { x with ret := nput 0 x.ret (i - 0x52) (v.setWidth 14) }
  else x

/-- The word at a space and index of DBG_ADDR, as it stands now. -/
def State.dbgWord (s : State) (t space i : Nat) : Word :=
  let x := s.tile t
  match space with
  | 0 => nget 0 x.imem i
  | 1 => x.readX (s.win t) (BitVec.ofNat 15 i)
  | 2 => x.readY (s.win t) (BitVec.ofNat 15 i)
  | _ => x.dbgReg i

/-- A word of the tile replaced: the banks too. -/
def State.setDbgWord (s : State) (t space i : Nat) (v : Word) : State :=
  let x := s.tile t
  let w := s.win t
  s.setTile t (match space with
    | 0 => { x with imem := nput 0 x.imem i v }
    | 1 => x.writeX w (BitVec.ofNat 15 i) v
    | 2 =>
      if 0x3000 ≤ i then x.setParam w.bankB (i - 0x3000) v
      else if 0x2000 ≤ i then x.setParam (!w.bankB) (i - 0x2000) v
      else x.writeY (BitVec.ofNat 15 i) v
    | _ => x.setDbgReg i v)

/-- AUTOINC: an access to DBG_DATA advances INDEX. -/
def State.dbgAdvance (s : State) (t : Nat) : State :=
  let p := Pg.awl t
  if s.flag p AWL.DBG_ADDR_AUTOINC then s.set p AWL.DBG_ADDR_INDEX (s.get p AWL.DBG_ADDR_INDEX + 1) else s

/-- The tile stands between WAITB and a tick, or has no work. -/
def State.betweenPasses (s : State) (t : Nat) : Bool :=
  let st := (s.tile t).pass
  !s.hasWork t || !(st == .waiting || st == .running || st == .missedRunning)

/-- DBG_ADDR as one number. -/
def State.dbgAddr (s : State) (t : Nat) : Word :=
  BitVec.ofNat 32 (s.get (Pg.awl t) AWL.DBG_ADDR_SPACE * 2 ^ 30 + s.get (Pg.awl t) AWL.DBG_ADDR_INDEX)

/-- A read of the word at an address of the debug window. -/
def State.dbgRead (s : State) (t : Nat) (a : Word) : Word := s.dbgWord t (a.toNat / 2 ^ 30) (a.toNat % 2 ^ 14)

/-- DBG_DATA_READ (R124): completes at once between passes, else it waits. -/
def execDbgDataRead (_m : Master) (t : Nat) (s : State) (lower : Option Word := none) : Outcome :=
  guardWf (t < 256) (.next (
    if !s.present (Pg.awl t) then s.absentHit.answer (.ok [0])
    else
      let a := s.dbgAddr t
      if s.betweenPasses t then (s.dbgAdvance t).answer (.ok (lower.toList ++ [s.dbgRead t a]))
      else
        let s := s.dbgAdvance t
        { s.setTile t { s.tile t with dbg := (s.tile t).dbg ++ [⟨a, lower⟩] } with lastResp := none }))

/-- DBG_READ_DONE (R124): the oldest waiting read completes with what the pass has left. -/
def execDbgReadDone (t : Nat) (s : State) : Outcome :=
  guardWf (t < 256) (.next (match (s.tile t).dbg with
    | r :: l =>
      if s.betweenPasses t then
        (s.setTile t { s.tile t with dbg := l }).answer (.ok (r.lower.toList ++ [s.dbgRead t r.addr]))
      else s
    | [] => s))

/-- DBG_DATA_WRITE (R124): only while the tile has no work or the fabric is disabled. -/
def execDbgDataWrite (m : Master) (t : Nat) (v : Word) (s : State) : Outcome :=
  s.tileWrite m t fun s =>
    let p := Pg.awl t
    let s' := if !s.hasWork t || !s.flag Pg.fabric PG.CTRL_EN then
        s.setDbgWord t (s.get p AWL.DBG_ADDR_SPACE) (s.get p AWL.DBG_ADDR_INDEX) v
      else (s.count p AWL.DBG_REFUSED).event p 4
    s'.dbgAdvance t

end Sys2Proof.Machine
end

