-- ==== Sys2Proof/Machine/DramOps.lean ====
section
/-!
DEFINITION. What the DRAM channels' commands share (chapter 09): the address map and orders, QoS, row-disturb tables,
errors and migrations, refresh debt.
-/

namespace Sys2Proof.Machine

def State.dram (s : State) (c : Nat) : Dram := nget Dram.reset s.drams c
def State.setDram (s : State) (c : Nat) (x : Dram) : State := { s with drams := nput Dram.reset s.drams c x }
def State.onDram (s : State) (c : Nat) (f : Dram → Dram) : State := s.setDram c (f (s.dram c))

def State.rank (s : State) (c r : Nat) : Rank := nget Rank.reset (s.dram c).ranks r
def State.setRank (s : State) (c r : Nat) (x : Rank) : State :=
  s.onDram c fun d => { d with ranks := nput Rank.reset d.ranks r x }

/-! ### Rank states (R259) -/

def Rs.absent : Nat := 0
def Rs.untrained : Nat := 1
def Rs.ready : Nat := 2
def Rs.service : Nat := 3
def Rs.spare : Nat := 4
def Rs.standby : Nat := 5
def Rs.migrating : Nat := 6
def Rs.degraded : Nat := 7
def Rs.retired : Nat := 8
def Rs.retrained : Nat := 9
def Rs.tested : Nat := 10
def Rs.failed : Nat := 11

def State.rankState (s : State) (c r : Nat) : Nat := s.get (Pg.dram c) (DRAM.RANK_STAT_STATE r)
def State.setRankState (s : State) (c r v : Nat) : State := s.set (Pg.dram c) (DRAM.RANK_STAT_STATE r) v

/-- The chip select of a channel in a state, the lowest one. -/
def State.rankIn (s : State) (c v : Nat) : Option Nat := (List.range 4).find? fun r => s.rankState c r == v

/-- Some rank holds mapped data: SERVICE, MIGRATING or DEGRADED. -/
def mappedRank (v : Nat) : Bool := v == Rs.service || v == Rs.migrating || v == Rs.degraded

/-- The channel's size in HARNESS.DRAM_MAP, in GiB. -/
def State.mappedGiB (s : State) (c : Nat) : Nat :=
  s.get Pg.harness (if c = 0 then HARNESS.DRAM_MAP_SIZE0 else HARNESS.DRAM_MAP_SIZE1)

/-! ### Addresses (R217, R242) -/

def giB : Nat := 2 ^ 30

/-- The channel and the offset within it of an address in the DRAM region. -/
def State.dramAt (s : State) (a : Nat) : Option (Nat × Nat) :=
  let d := a - 0x800000000
  let s0 := s.mappedGiB 0 * giB
  let s1 := s.mappedGiB 1 * giB
  let intlv := s.get Pg.harness HARNESS.DRAM_MAP_INTLV
  if s0 + s1 ≤ d then none
  else if intlv = 1 then some (d / 256 % 2, d / 512 * 256 + d % 256)
  else if intlv = 2 then some (d / 4096 % 2, d / 8192 * 4096 + d % 4096)
  else if d < s0 then some (0, d) else some (1, d - s0)

/-- Bits of the BANK field: 4 for ×16, 5 for ×8. -/
def State.bankBits (s : State) (c : Nat) : Nat := if s.get (Pg.dram c) DRAM.CFG_DEVICE = 1 then 5 else 4

/-- There are two service ranks, and so an LR bit. -/
def State.twoRanks (s : State) (c : Nat) : Bool :=
  s.flag (Pg.dram c) DRAM.RANK_MAP_LR0_VALID && s.flag (Pg.dram c) DRAM.RANK_MAP_LR1_VALID

/-- Where a 64 B word lies: sub-channel, bank, logical rank, row. -/
structure DramPlace where
  sc : Nat
  bank : Nat
  lr : Nat
  row : Nat
  deriving DecidableEq, Repr

/-- The address orders (R242). -/
def State.place (s : State) (c off : Nat) : DramPlace :=
  let w := off / 64
  let nb := 2 ^ s.bankBits c
  let order := s.get (Pg.dram c) DRAM.CFG_ORDER
  let rest := w / (128 * nb)
  let two := s.twoRanks c
  let row := (if two then rest / 2 else rest) % 65536
  let bank := if order = 1 then w / 2 % nb else w / 128 % nb
  { sc := if order = 2 then w / 64 % 2 else w % 2
    bank := if order = 3 then Nat.xor bank (row % nb) else bank
    lr := if two then rest % 2 else 0
    row := row }

/-- The offset within its rank of a channel offset, and back. -/
def State.rankOffset (s : State) (c off : Nat) : Nat :=
  let m := 2 ^ (13 + s.bankBits c)
  if s.twoRanks c then off / m / 2 * m + off % m else off

def State.channelOffset (s : State) (c lr loc : Nat) : Nat :=
  let m := 2 ^ (13 + s.bankBits c)
  if s.twoRanks c then (loc / m * 2 + lr) * m + loc % m else loc

/-- The chip select behind a logical rank. -/
def State.selectOf (s : State) (c lr : Nat) : Nat :=
  s.get (Pg.dram c) (if lr = 0 then DRAM.RANK_MAP_LR0 else DRAM.RANK_MAP_LR1)

def State.migActive (s : State) (c : Nat) : Bool := s.flag (Pg.dram c) DRAM.MIG_STAT_ACTIVE
def State.migFrom (s : State) (c : Nat) : Nat := s.get (Pg.dram c) DRAM.MIG_STAT_FROM
def State.migTo (s : State) (c : Nat) : Nat := s.get (Pg.dram c) DRAM.MIG_STAT_TO

/-- The rank that a read of an offset comes from: the spare for ranges already migrated (R259). -/
def State.readRank (s : State) (c off : Nat) : Nat :=
  let cs := s.selectOf c (s.place c off).lr
  if s.migActive c && s.migFrom c = cs && s.rankOffset c off / 4096 < (s.dram c).migPos then s.migTo c else cs

/-- The ranks that an access to an offset reaches: a write to a rank that is being migrated goes to both (R262). -/
def State.ranksHit (s : State) (c off : Nat) (write : Bool) : List Nat :=
  let cs := s.selectOf c (s.place c off).lr
  if write && s.migActive c && s.migFrom c = cs then [cs, s.migTo c] else [s.readRank c off]

/-- The memory key of an address in the DRAM region. -/
def State.dramKey (s : State) (a : Nat) : Nat :=
  match s.dramAt a with
  | some (c, off) => Mem.dram c off
  | none => 0

/-! ### QoS (R214, R228, R254) -/

def qosSource (r : HReq) : Nat :=
  let m := r.master
  if m = 0 then 15 else if m ≤ 4 then 12 else if m = 5 then 13 else if m = 6 then r.descQos
  else if m ≤ 10 then 6 else if m = 11 then 4 else 8

def State.qos (s : State) (r : HReq) : Nat :=
  if r.master = 0 then 15 else min (qosSource r) (s.get Pg.harness HARNESS.MQOS_CAP r.master)

/-- The channel whose throttle lowers a request, if any; the mover's real-time class has none (R254, R255). Of two channels that
throttle a master the lower one's RH_CFG.QOS applies, at both ports (R228; DESIGN CHOICE, log 356). -/
def State.throttledBy (s : State) (r : HReq) : Option Nat :=
  if realTimeMover r then none
  else (List.range 2).find? fun c => (s.get (Pg.dram c) DRAM.RH_STAT_THROTTLED).testBit r.master

/-- QoS in the arbitration of a port: what the transaction carries, or less at the DRAM ports for a throttled master. -/
def State.qosAt (s : State) (port : Nat) (t : Txn) : Nat :=
  if port = 32 || port = 33 then
    match s.throttledBy t.req with
    | some c => s.get (Pg.dram c) DRAM.RH_CFG_QOS
    | none => t.qos
  else t.qos

/-! ### Row-disturb protection (R253 to R255) -/

/-- The key of a master's charges in the window of a rank; the mover's real-time class stands as 13. -/
def chargeKey (r cls : Nat) : Nat := 16 * r + cls

/-- Who is charged for a request's activates: its master, or the mover's class (R254, R255). -/
def chargeClass (r : HReq) : Nat := if realTimeMover r then 13 else r.master

/-- RH_STAT and DRAM_RH_THROTTLE follow the throttles in force. -/
def State.showThrottles (s : State) (c : Nat) : State :=
  let bits := ((s.dram c).throttle.map fun e => e.1 % 16).eraseDups.foldl (fun v m => v + 2 ^ m) 0
  (s.set (Pg.dram c) DRAM.RH_STAT_THROTTLED bits).setSource Src.dramThrottle c (bits ≠ 0)

/-- A mitigation is charged to a master: beyond 4 in one window it is throttled for the rest of this one and the next; the
mover's real-time class never is (R255). -/
def State.chargeMaster (s : State) (c r master : Nat) : State :=
  let k := chargeKey r master
  let n := nget 0 (s.dram c).charges k + 1
  let s := s.onDram c fun d => { d with charges := nput 0 d.charges k n }
  if n ≤ 4 || master = 13 then s
  else
    let new := nget 0 (s.dram c).throttle k = 0
    let s := s.onDram c fun d => { d with throttle := nput 0 d.throttle k 2 }
    let s := if new then (s.count (Pg.dram c) DRAM.RH_THROTTLES).event (Pg.dram c) 7 else s
    s.showThrottles c

/-- The entry of the table with the lowest count, the first of several (log 32). -/
def lowestEntry : List (Nat × Nat) → Nat × Nat
  | [] => (0, 0)
  | e :: es => es.foldl (fun m x => if x.2 < m.2 then x else m) e

/-- A row's activate in a bank's table of 16: the new table and the row's count. -/
def countActivate (tbl : List (Nat × Nat)) (row : Nat) : List (Nat × Nat) × Nat :=
  match tbl.find? fun e => e.1 == row with
  | some e => (tbl.map fun x => if x.1 = row then (row, e.2 + 1) else x, e.2 + 1)
  | none =>
    if tbl.length < 16 then (tbl ++ [(row, 1)], 1)
    else
      let e := lowestEntry tbl
      (tbl.map fun x => if x.1 = e.1 then (row, e.2 + 1) else x, e.2 + 1)

/-- An access to a row of a rank's bank, an activate unless the row is open; `who` is charged for a mitigation. One leaves
the bank precharged, since it activates and precharges the rows around (R253). -/
def State.activate (s : State) (c cs key row : Nat) (who : Option Nat) : State :=
  let k := s.rank c cs
  if SMap.find? k.openRows key = some row then s
  else
    let t := countActivate (nget [] k.tables key) row
    let hit := s.get (Pg.dram c) DRAM.RH_CFG_THRESH ≤ t.2
    let tbl := if hit then t.1.map fun x => if x.1 = row then (row, 0) else x else t.1
    let rows := if hit then SMap.erase k.openRows key else nset k.openRows key row
    let s := s.setRank c cs { k with openRows := rows, tables := nput [] k.tables key tbl }
    if hit then
      let s := (s.count (Pg.dram c) DRAM.RH_MITIG).lifeAdd (Pg.dram c) 10
      match who with
      | some m => s.chargeMaster c cs m
      | none => s
    else s

/-! ### Errors and migrations (R240, R261 to R265) -/

/-- DRAM_UE is active during a migration and while any rank is DEGRADED. -/
def State.dramUeSource (s : State) (c : Nat) : State :=
  s.setSource Src.dramUe c (s.migActive c || (s.rankIn c Rs.degraded).isSome)

/-- A training run or rank test runs on the channel. -/
def State.dramBusy (s : State) (c : Nat) : Bool := (s.dram c).training.isSome || (s.dram c).testing.isSome

/-- A migration of a rank to the spare starts, with nothing yet migrated (R261, R263). -/
def State.startMigration (s : State) (c cs spare : Nat) : State :=
  let p := Pg.dram c
  let s := s.setRankState c cs Rs.migrating
  let s := ((s.set p DRAM.MIG_STAT_ACTIVE 1).set p DRAM.MIG_STAT_FROM cs).set p DRAM.MIG_STAT_TO spare
  let wait := s.dramBusy c
  let s := s.setFlag p DRAM.MIG_STAT_WAITING wait
  -- With the channel disabled it waits, as a migration pauses on a drain (R267).
  let paused := !s.enabled p
  let s := s.onDram c fun d => { d with migPos := 0, migPaused := paused, sparePoison := [] }
  let s := if wait then s else s.longStart p
  ((s.event p 3).lifeAdd p 8).dramUeSource c

/-- A service rank fails: it migrates to the spare, or is DEGRADED without one or during another's migration. -/
def State.serviceFails (s : State) (c cs : Nat) : State :=
  if s.migActive c then
    ((s.setRankState c cs Rs.degraded).onDram c fun d => { d with failedWait := d.failedWait ++ [cs] }).dramUeSource c
  else match s.rankIn c Rs.spare with
    | some sp => s.startMigration c cs sp
    | none => (s.setRankState c cs Rs.degraded).dramUeSource c

/-- The standby becomes the spare. -/
def State.promoteStandby (s : State) (c : Nat) : State :=
  match s.rankIn c Rs.standby with
  | some r => s.setRankState c r Rs.spare
  | none => s

/-- A rank that failed during a migration migrates once a spare exists and none runs (R263). -/
def State.nextMigration (s : State) (c : Nat) : State :=
  if s.migActive c then s
  else match (s.dram c).failedWait, s.rankIn c Rs.spare with
    | cs :: rest, some sp => (s.onDram c fun d => { d with failedWait := rest }).startMigration c cs sp
    | _, _ => s

/-- The spare fails during a migration: it is abandoned, and starts again from 0 on the standby (R263). -/
def State.spareFails (s : State) (c : Nat) : State :=
  let p := Pg.dram c
  let old := s.migFrom c
  let s := ((s.setRankState c (s.migTo c) Rs.failed).event p 5).setRankState c old Rs.degraded
  let s := (s.set p DRAM.MIG_STAT_ACTIVE 0).set p DRAM.MIG_STAT_WAITING 0
  let s := s.onDram c fun d => { d with sparePoison := [] }
  let s := (s.longEnd p false).promoteStandby c
  match s.rankIn c Rs.spare with
  | some sp => s.startMigration c old sp
  | none => s.dramUeSource c

/-- A rank meets an uncorrectable read or command error. -/
def State.rankError (s : State) (c cs : Nat) : State :=
  if s.migActive c && s.migTo c = cs then s.spareFails c
  else if s.rankState c cs = Rs.service then s.serviceFails c cs
  else s

/-- ECC_INFO takes the first uncorrectable error since it was cleared. -/
def State.dramInfo (s : State) (c off kind cs : Nat) : State :=
  let p := Pg.dram c
  if s.flag p DRAM.ECC_INFO_VALID then s
  else
    let s := ((s.set p DRAM.ECC_INFO_VALID 1).set p DRAM.ECC_INFO_KIND kind).set p DRAM.ECC_INFO_RANK cs
    let s := s.set p DRAM.ECC_INFO_SUBCH (s.place c off).sc
    (s.set p DRAM.ECC_ADDR_LO_OFFSET (off % 2 ^ 32)).set p DRAM.ECC_ADDR_HI_OFFSET (off / 2 ^ 32)

/-- A word joins a list of words once. -/
def addWord (w : Nat) (l : List Nat) : List Nat := if l.contains w then l else w :: l

/-- An offset reads from the target of the running migration. -/
def State.readsSpare (s : State) (c off : Nat) : Bool := s.migActive c && s.readRank c off == s.migTo c

/-- The word at an offset reads with POISON. -/
def State.poisonedWord (s : State) (c off : Nat) : Bool :=
  (if s.readsSpare c off then (s.dram c).sparePoison else (s.dram c).poison).contains (off / 64)

/-- The word at an offset is uncorrectable: KIND 1 read, 3 merge read, whose word is written back with the poison pattern
to every rank that a write goes to, 4 migration copy, which writes it so to the spare (R240, R262). -/
def State.dramUe (s : State) (c off kind cs : Nat) : State :=
  let p := Pg.dram c
  let s := ((s.count p DRAM.UE_COUNT).event p 1).lifeAdd p (4 + cs)
  let spare := s.readsSpare c off
  let both := (s.ranksHit c off true).length = 2 && kind ≠ 1
  let s := s.onDram c fun d => { d with
    poison := if both || !spare then addWord (off / 64) d.poison else d.poison
    sparePoison := if both || spare then addWord (off / 64) d.sparePoison else d.sparePoison }
  s.dramInfo c (off / 64 * 64) kind cs

/-- A word of a rank is corrected; the 257th within 1 s is a storm (R240, R265). -/
def State.dramCe (s : State) (c cs : Nat) : State :=
  let p := Pg.dram c
  let s := ((s.count p DRAM.CE_COUNT).event p 0).lifeAdd p cs
  let ts := (s.now :: (s.rank c cs).ceTimes).take 257
  let s := s.setRank c cs { s.rank c cs with ceTimes := ts }
  let storm := ts.length = 257 && ts.all fun t => s.now ≤ t + cyclesSec 1
  if storm then
    let oldest := (ts.getLast?).getD 0
    let s := s.onDram c fun d => { d with stormEnd := nput 0 d.stormEnd cs (oldest + cyclesSec 11) }
    if (s.dram c).storm.contains cs then s
    else ((s.onDram c fun d => { d with storm := cs :: d.storm }).event p 2).raise Src.dramStorm c
  else s

/-- Words that the controller or the mover writes outside a granted transaction (R241). -/
def State.ownWrite (s : State) (c : Nat) (l : List (Nat × List Nat × List Byte)) : State :=
  s.onDram c fun d => { d with own := l, wcrc := [] }

/-- What a read of a word shows: nothing, a correction, whose word is written back, or an uncorrectable word. -/
def State.checkDram (s : State) (c off kind : Nat) (ecc : List (Nat × Ecc)) : State :=
  let cs := s.readRank c off
  let bad := s.poisonedWord c off
  match bad, ecc.find? fun e => e.1 / 64 == off / 64 with
  | false, none => s
  | false, some (_, .single) => (s.dramCe c cs).onDram c fun d => { d with own := [(off / 64 * 64, [cs], [])] }
  | _, _ => (s.dramUe c off kind cs).rankError c cs

/-! ### Accesses of 64 B words (R240, R244, R253) -/

/-- A 64 B word that an access meets: its channel and offset, and whether the access covers all of it. -/
structure DramWord where
  chan : Nat
  off : Nat
  whole : Bool
  deriving DecidableEq, Repr

/-- The row of a word in its bank: sub-channel, bank, logical rank and row. -/
def State.wordRow (s : State) (w : DramWord) : DramPlace := s.place w.chan w.off

/-- The row of a word is activated in every rank that the access reaches, unless it is open. -/
def State.activateWord (s : State) (w : DramWord) (write : Bool) (who : Option Nat) : State :=
  let pl := s.wordRow w
  s.each (s.ranksHit w.chan w.off write) fun u cs => u.activate w.chan cs (pl.sc * 32 + pl.bank) pl.row who

/-- The row of a word is precharged. -/
def State.closeWord (s : State) (w : DramWord) (write : Bool) : State :=
  let pl := s.wordRow w
  s.each (s.ranksHit w.chan w.off write) fun u cs =>
    let k := u.rank w.chan cs
    u.setRank w.chan cs { k with openRows := SMap.erase k.openRows (pl.sc * 32 + pl.bank) }

/-- The access to a word's row ends with it: what follows on its sub-channel is in another row. -/
def State.rowEnds (s : State) (w : DramWord) (rest : List DramWord) : Bool :=
  match rest.find? fun x => x.chan == w.chan && (s.wordRow x).sc == (s.wordRow w).sc with
  | some x => s.wordRow x ≠ s.wordRow w
  | none => true

/-- A read of the word cannot be corrected. -/
def State.wordFails (s : State) (w : DramWord) (ecc : List (Nat × Ecc)) : Bool :=
  s.poisonedWord w.chan w.off ||
    (ecc.find? fun e => e.1 / 64 == w.off / 64).any fun e => e.2 == .double

/-- A word of an access: its row is activated, and it is checked where it is read or merged; a row access of a CLOSE
transaction ends with auto-precharge. -/
def State.accessWord (s : State) (write close : Bool) (who : Option Nat) (ecc : List (Nat × Ecc)) (w : DramWord)
    (rest : List DramWord) : State :=
  let s := s.activateWord w write who
  let s := if !write then s.checkDram w.chan w.off 1 ecc
    else if w.whole then s
    else s.checkDram w.chan w.off 3 ecc
  if close && s.rowEnds w rest then s.closeWord w write else s

/-- The words of an access in beat order, and which of them a read returns with POISON (R240). -/
def State.accessWords (s : State) (write close : Bool) (who : Option Nat) (ecc : List (Nat × Ecc)) :
    List DramWord → State × List Bool
  | [] => (s, [])
  | w :: rest =>
    let bad := !write && s.wordFails w ecc
    let r := (s.accessWord write close who ecc w rest).accessWords write close who ecc rest
    (r.1, bad :: r.2)

/-- A sample in DRAM, little-endian (log 5). -/
def State.dramSample (s : State) (c off : Nat) : Word :=
  let b (k : Nat) : Byte := s.byte (Mem.dram c (off + k))
  wordOf (b 0) (b 1) (b 2) (b 3)

/-- Words written whole lose their poison; what a training helper wrote in the ranks is no longer whole (R240, R257). -/
def State.wordsWritten (s : State) (ws : List DramWord) : State :=
  s.each ws fun t w =>
    let t := t.each (t.ranksHit w.chan w.off true) fun u cs => u.setRank w.chan cs { u.rank w.chan cs with helper := [] }
    if w.whole then t.onDram w.chan fun d => { d with
      poison := d.poison.filter (· ≠ w.off / 64)
      sparePoison := d.sparePoison.filter (· ≠ w.off / 64) }
    else t

/-! ### Refresh (R248 to R251) -/

/-- The rank is above the doubled-refresh threshold (R249). -/
def State.doubled (s : State) (c r : Nat) : Bool :=
  (s.rank c r).mr4 || s.flag (Pg.dram c) DRAM.REF_CFG_FORCE_2X

/-- tREFI in ns. -/
def State.trefi (s : State) (c r : Nat) : Nat := if s.doubled c r then 1950 else 3900

def State.owed (s : State) (c r : Nat) : Nat := (s.rank c r).debtNs / s.trefi c r

/-- REF_STAT follows a rank's debt and threshold. -/
def State.showRefresh (s : State) (c r : Nat) : State :=
  (s.set (Pg.dram c) (DRAM.REF_STAT_OWED r) (min (s.owed c r) 7)).setFlag (Pg.dram c) (DRAM.REF_STAT_DOUBLED r)
    (s.doubled c r)

/-- n owed refreshes are paid; the rank's rows close first (R244). -/
def State.payRefresh (s : State) (c r n : Nat) : State :=
  if n = 0 then s
  else
    let k := s.rank c r
    (s.setRank c r { k with openRows := [], debtNs := k.debtNs - n * s.trefi c r }).showRefresh c r

/-- The 64 B words of a request in the DRAM region: channel and offset of each. -/
def State.dramWords (s : State) (r : HReq) : List (Nat × Nat) :=
  (List.range ((r.addr + r.len + 63) / 64 - r.addr / 64)).filterMap fun k => s.dramAt ((r.addr / 64 + k) * 64)

/-- QoS at or above which a transaction is real-time (R245). -/
def State.rtQos (s : State) (c : Nat) : Nat := min (s.get (Pg.dram c) DRAM.REF_CFG_RT_QOS) 15

/-- A real-time transaction is in progress or waiting for a rank, at either port where the channels interleave. -/
def State.rtBusy (s : State) (c cs : Nat) : Bool :=
  s.harness.txns.any fun t =>
    inRange 32 t.port 33 && s.rtQos c ≤ s.qosAt t.port t &&
      (s.dramWords t.req).any fun w => w.1 == c && (s.ranksHit c w.2 t.req.write).contains cs

/-- What is owed is paid at once, postponed, or, from 4 owed, forced by a preemption (R250). -/
def State.serveRefresh (s : State) (c r : Nat) : State :=
  let owed := s.owed c r
  if !s.rtBusy c r then s.payRefresh c r owed
  else if 4 ≤ owed then (s.payRefresh c r 4).count (Pg.dram c) DRAM.REF_PREEMPT
  else s.showRefresh c r

/-- A rank crosses the threshold, or does not; `sinceNs` is the time since its debt last advanced (R249, R251). -/
def State.crossThreshold (s : State) (c r : Nat) (was : Bool) (sinceNs : Nat) : State :=
  let p := Pg.dram c
  if was = s.doubled c r then s
  else
    let k := s.rank c r
    let s := s.setRank c r { k with debtNs := k.debtNs + sinceNs }
    let s := ((s.count p DRAM.TEMP_CROSS).event p 6).lifeAdd p 9
    let s := s.showRefresh c r
    if s.doubled c r then s.serveRefresh c r else s

/-- CFG.RANKS: the rank is populated. -/
def State.populated (s : State) (c r : Nat) : Bool := (s.get (Pg.dram c) DRAM.CFG_RANKS).testBit r

end Sys2Proof.Machine
end

