-- ==== Sys2Proof/Machine/HarnessOps.lean ====
section
/-!
DEFINITION. What the Harness's commands share (chapter 08): decoding of addresses, refusals, arbitration, the service of
a granted transaction, its response, and the reset of a master or a target.
-/

namespace Sys2Proof.Machine

def State.onHarness (s : State) (f : Harness → Harness) : State := { s with harness := f s.harness }

/-! ### Targets (R215 to R219) -/

/-- Target ports: the lanes of a Girth segment at 4 × segment, the DRAM channels, and the three targets of the control
cores; 99 for a transaction that holds none. -/
def Port.dram (c : Nat) : Nat := 32 + c
def Port.pages : Nat := 34
def Port.rom : Nat := 35
def Port.sram : Nat := 36
def Port.none : Nat := 99

/-- Masters 7 to 10. -/
def coreMaster (m : Nat) : Bool := inRange 7 m 10

/-- The Girth lane of a master (R193, R219). -/
def laneOf (m : Nat) : Nat := if m = 0 then 0 else if m ≤ 5 then 1 else if m = 6 || m = 12 then 2 else 3

/-- The address that a master's request means, with REMAP for the control cores (R218). -/
def State.remapped (s : State) (r : HReq) : Nat :=
  if coreMaster r.master && s.flag Pg.harness HARNESS.REMAP_REMAP && r.addr < 0x800000 then
    (if r.addr < 0x400000 then r.addr + 0x400000 else r.addr - 0x400000)
  else r.addr

/-- The port that a transaction is decoded to; none where it is unmapped or not allowed (R216, R217, R219). -/
def State.decodePort (s : State) (r : HReq) : Option Nat :=
  let a := s.remapped r
  let core := coreMaster r.master
  if a < 0x400000 then (if core && a < 0x40000 then some Port.rom else none)
  else if a < 0x800000 then (if core then some Port.sram else none)
  else if inRange 0x10000000 a 0x13FFFFFF then (if core then some Port.pages else none)
  else if inRange 0x40000000 a 0x43FFFFFF then
    (if a - 0x40000000 < s.girthSize then some (4 * s.segmentOf (a - 0x40000000) + laneOf r.master) else none)
  else if inRange 0x800000000 a 0xFFFFFFFFF then
    (if core || r.master = 6 || r.master = 11 || r.master = 12 then (s.dramAt a).map fun w => Port.dram w.1 else none)
  else none

/-- The memory key of a byte at an address of control SRAM, the boot ROM or DRAM. -/
def State.memKey (s : State) (a : Nat) : Nat := if 0x800000000 ≤ a then s.dramKey a else a

/-- What the register pages, the boot ROM and locked sequences refuse (R224, R229). A register takes a write only whole: one
with a byte strobe off is no access of 4 or 8 bytes (DESIGN CHOICE, log 337). -/
def refusedKind (port : Nat) (r : HReq) : Bool :=
  if r.locked && port ≠ Port.sram && 32 ≤ port then true
  else if port = Port.pages then
    !((r.len = 4 && r.addr % 4 = 0) || (r.len = 8 && r.addr % 8 = 0)) || (r.write && (r.strobes.take r.len).contains false)
  else port = Port.rom && r.write

/-! ### Responses (R220, R223, R36) -/

/-- The width of a master's beats in bytes (R214). -/
def masterWidth (m : Nat) : Nat := if m = 0 || m = 6 then 64 else if m = 5 || m = 11 then 32 else 16

/-- The POISON flags of the master's beats of a read: each set where some target beat behind it has poison (R223). -/
def poisonFlags (r : HReq) (poison : List (Nat × Nat)) : List Bool :=
  let w := masterWidth r.master
  (List.range ((r.addr + r.len + w - 1) / w - r.addr / w)).map fun k =>
    poison.any fun e => e.1 < (r.addr / w + k + 1) * w && (r.addr / w + k) * w < e.1 + e.2

/-- What a master is answered. -/
def State.respond (s : State) (t : Txn) : State :=
  let r := t.req
  let reads := !r.write || r.locked
  let data := if reads then t.rdata else []
  let flags := if reads then poisonFlags r t.poison else []
  let fail (code : String) : State := s.answer (.error code data flags t.good)
  if t.status = Hst.shadowed then (if r.master = 11 then s.answer (.ok []) else fail "WRITE_SHADOWED")
  else if t.status = Hst.misaligned then fail "MISALIGNED"
  else if t.status = Hst.lockFailed then fail "LOCK_FAILED"
  else if t.status = Hst.decode then
    s.answer (if r.master = 11 then (if r.write then .ok [] else .unsupported) else .decode data)
  else if t.status = Hst.unsupported then fail "UNSUPPORTED"
  else if t.status = Hst.aborted then fail "ABORTED"
  else if !reads then s.answer (.ok [])
  else if t.poison.isEmpty then s.answer (.bytes data)
  else s.answer (.poison data flags)

/-- An access that a target refuses counts (R224, R229). -/
def State.countRefused (s : State) : State := (s.count Pg.harness HARNESS.UNSUPPORTED).event Pg.harness 1

/-- A new transaction. -/
def Txn.new (r : HReq) (port qos : Nat) : Txn :=
  { req := r, port := port, qos := qos, losses := 0, promoted := false, granted := false, beats := 0, rdata := [],
    poison := [], status := Hst.okay, good := 0, aborted := false, dropped := [], orphan := false, onBehalf := false }

/-- Responses of one ID return in issue order (R225): as long as its oldest transaction has released its path, that one
is answered; `n` bounds their number. -/
def State.flushId (s : State) (master id : Nat) : Nat → State
  | 0 => s
  | n + 1 =>
    match s.harness.txns.find? fun t => t.req.master == master && t.req.id == id with
    | some t =>
      if t.port = Port.none then
        let s := s.onHarness fun h => { h with
          txns := h.txns.eraseP fun x => x == t
          cut := if t.onBehalf then nput 0 h.cut master (nget 0 h.cut master + 1) else h.cut }
        (if t.orphan then s else s.respond t).flushId master id n
      else s
    | none => s

/-- The responses that an ID now owes. -/
def State.flush (s : State) (master id : Nat) : State := s.flushId master id s.harness.txns.length

/-- A transaction that reaches no target completes. -/
def State.endNow (s : State) (r : HReq) (status : Nat) : State :=
  (s.onHarness fun h => { h with
    txns := h.txns ++ [{ Txn.new r Port.none 0 with
      granted := true, status := status, rdata := List.replicate (if r.write then 0 else r.len) 0 }] }).flush r.master r.id

/-- An access that reaches no target counts and is recorded; HARNESS_DECODE is active while DECODE_INFO.VALID is 1
(R220). -/
def State.countMiss (s : State) (r : HReq) : State :=
  let p := Pg.harness
  let s := (s.count p HARNESS.DECODE_COUNT).event p 0
  if s.flag p HARNESS.DECODE_INFO_VALID then s
  else
      let s := ((s.set p HARNESS.DECODE_INFO_VALID 1).setFlag p HARNESS.DECODE_INFO_WRITE r.write).set p
        HARNESS.DECODE_INFO_MASTER r.master
      let s := (s.set p HARNESS.DECODE_ADDR_LO_ADDR (r.addr % 2 ^ 32)).set p HARNESS.DECODE_ADDR_HI_ADDR (r.addr / 2 ^ 32)
      s.raise Src.harnessDecode r.master

def State.decodeMiss (s : State) (r : HReq) : State := (s.countMiss r).endNow r Hst.decode

/-- The reset of a master is pending: it issues nothing (R234). -/
def State.masterInReset (s : State) (m : Nat) : Bool := (s.get Pg.harness HARNESS.MRST_STAT_PENDING).testBit m

/-- A master has its 32 transactions outstanding, or is absent (R214, R215). -/
def State.mayIssue (s : State) (m : Nat) : Bool :=
  !s.masterInReset m && s.harness.txns.countP (fun t => t.req.master == m) < 32 && !(s.part = .ca && inRange 3 m 4)

/-- A master issues a transaction (R216 to R221, R224, R229). -/
def State.request (s : State) (r : HReq) : State :=
  match s.decodePort r with
  | none => s.decodeMiss r
  | some port =>
    if refusedKind port r then s.countRefused.endNow r Hst.unsupported
    else s.onHarness fun h => { h with txns := h.txns ++ [Txn.new { r with addr := s.remapped r } port (s.qos r)] }

/-- The transaction ID that a piece of a host access takes: the least one of the master that is not outstanding (R221 names
none; DESIGN CHOICE, log 354). -/
def State.freeId (s : State) (m : Nat) : Nat :=
  ((List.range 32).find? fun i => !s.harness.txns.any fun t => t.req.master == m && t.req.id == i).getD 0

/-- A piece of a host access enters the Harness, or waits behind others (R214). -/
def State.requestPiece (s : State) (r : HReq) : State :=
  if s.harness.held.isEmpty && s.mayIssue r.master then s.request { r with id := s.freeId r.master }
  else s.onHarness fun h => { h with held := h.held ++ [r] }

/-- Waiting pieces enter as transactions of their master end; `n` bounds their number. -/
def State.issueHeld (s : State) : Nat → State
  | 0 => s
  | n + 1 =>
    match s.harness.held with
    | [] => s
    | r :: rest =>
      if s.mayIssue r.master then
        ((s.onHarness fun h => { h with held := rest }).request { r with id := s.freeId r.master }).issueHeld n
      else s

/-! ### Arbitration (R226, R227) -/

/-- A write waits for an earlier one of its master to overlapping bytes, wherever that is served (R225). -/
def Harness.waitsFor (h : Harness) (i : Nat) (t : Txn) : Bool :=
  t.req.write && (h.txns.take i).any fun x =>
    x.req.master == t.req.master && x.req.write && x.port ≠ Port.none &&
      x.req.addr < t.req.addr + t.req.len && t.req.addr < x.req.addr + x.req.len

/-- Positions of the transactions that head their masters' queues at a port: a master's oldest waiting one. -/
def Harness.heads (h : Harness) (port : Nat) : List (Nat × Txn) :=
  (List.range 13).filterMap fun m =>
    let i := h.txns.findIdx fun t => t.port == port && !t.granted && t.req.master == m
    match h.txns[i]? with
    | some t => if h.waitsFor i t then none else some (i, t)
    | none => none

/-- The first in ascending order of master after the one that last won. -/
def nextAfter (last : Nat) (l : List (Nat × Txn)) : Option (Nat × Txn) :=
  match l.find? fun e => last < e.2.req.master with
  | some e => some e
  | none => l.head?

/-- The winner at a port: a promoted request, else the highest QoS; turns among equals, the lowest master ID where none
has won yet (DESIGN CHOICE, log 312). -/
def State.winner (s : State) (port : Nat) : Option (Nat × Txn) :=
  let heads := s.harness.heads port
  let promoted := heads.filter fun e => e.2.promoted
  let best := heads.foldl (fun q e => max q (s.qosAt port e.2)) 0
  let pool := if promoted.isEmpty then heads.filter fun e => s.qosAt port e.2 == best else promoted
  match SMap.find? s.harness.lastWon port with
  | some last => nextAfter last pool
  | none => pool.head?

/-- A head that lost this arbitration. -/
def Txn.lose (t : Txn) : Txn := { t with losses := t.losses + 1, promoted := t.promoted || 64 ≤ t.losses + 1 }

/-- The winner is granted; the other masters' loss counts advance. -/
def State.grant (s : State) (port i : Nat) (w : Txn) : State :=
  let others := (s.harness.heads port).filter fun e => e.1 ≠ i
  let promotions := others.countP fun e => !e.2.promoted && 64 ≤ e.2.losses + 1
  let s := s.onHarness fun h =>
    { h with
      txns := (others.foldl (fun l e => l.set e.1 e.2.lose) h.txns).set i { w with granted := true }
      lastWon := nset h.lastWon port w.req.master }
  s.count Pg.harness HARNESS.AGE_PROMOTIONS promotions

/-! ### Service of a granted transaction -/

/-- The granted transaction of a port changes. -/
def State.portTxn (s : State) (port : Nat) (f : Txn → Txn) : State :=
  s.onHarness fun h => { h with txns := h.txns.map fun t => if t.granted && t.port == port then f t else t }


/-- The beats of a Girth transaction, one per line; a locked sequence is its read and its write (R229). -/
def girthBeats (lane o : Nat) (r : HReq) : List Beat :=
  let beat (lo n : Nat) (write : Bool) : Beat :=
    { port := lane, master := r.master, id := r.id, off := lo, len := n, write := write,
      data := (r.data.drop (lo - o)).take n, strobes := (r.strobes.drop (lo - o)).take n, locked := r.locked, age := 0 }
  (girthLines o r.len).flatMap fun l =>
    if r.locked then [beat l.1 l.2 false, beat l.1 l.2 true] else [beat l.1 l.2 r.write]

/-- A Girth transaction's beats go to the one bank that its page lies in. -/
def State.serveGirth (s : State) (port : Nat) (r : HReq) : State :=
  let o := r.addr - 0x40000000
  let beats := girthBeats (port % 4) o r
  let b := s.bankOf o
  (s.setBank b { s.bank b with waiting := (s.bank b).waiting ++ beats }).portTxn port fun t =>
    { t with beats := beats.length }

/-- Bytes of memory at a run of addresses. -/
def State.loadRun (s : State) (a len : Nat) : List Byte := (List.range len).map fun i => s.byte (s.memKey (a + i))

/-- Strobed bytes stored at a run of addresses. -/
def State.storeRun (s : State) (r : HReq) : State :=
  s.each (List.range r.len) fun t i =>
    if (r.strobes[i]?).getD true then t.setByte (t.memKey (r.addr + i)) ((r.data[i]?).getD 0) else t

/-- The boot ROM and control SRAM answer at once; the path is held from a locked read to its write (R230). -/
def State.serveLocal (s : State) (port : Nat) (r : HReq) : State :=
  let data := if r.write && !r.locked then [] else s.loadRun r.addr r.len
  let s := if r.write || r.locked then s.storeRun r else s
  s.portTxn port fun t => { t with rdata := data }

/-- A request covers all 64 B of the word at an address, every strobe on. -/
def HReqWhole (r : HReq) (w : Nat) : Bool :=
  r.addr ≤ w && w + 64 ≤ r.addr + r.len &&
    (List.range 64).all fun k => (r.strobes[w + k - r.addr]?).getD true

/-- The addresses of the 64 B words that a request meets. -/
def State.lineAddrs (_ : State) (r : HReq) : List Nat :=
  (List.range ((r.addr + r.len + 63) / 64 - r.addr / 64)).map fun k => (r.addr / 64 + k) * 64

/-- The 64 B words of a request, each with its address. -/
def State.reqWords (s : State) (r : HReq) : List (Nat × DramWord) :=
  (s.lineAddrs r).filterMap fun a => (s.dramAt a).map fun w => (a, ⟨w.1, w.2, HReqWhole r a⟩)

/-- Disabled channels that a request meets: they refuse it (R267). -/
def State.closedChannels (s : State) (r : HReq) : List Nat :=
  (List.range 2).filter fun c => !s.enabled (Pg.dram c) && (s.dramWords r).any fun w => w.1 == c

/-- A request reaches its DRAM words: rows are activated and words checked (R240 to R244). Answers the address ranges that a
read returns with POISON. -/
def State.reachDram (s : State) (r : HReq) (ecc : List (Nat × Ecc)) : State × List (Nat × Nat) :=
  let ws := s.reqWords r
  let q := s.accessWords r.write (!r.openHint) (some (chargeClass r)) ecc (ws.map (·.2))
  (q.1, ((ws.zip q.2).filter (·.2)).map fun e => (e.1.1, 64))

/-- A disabled channel refuses an access (R267). -/
def State.countClosed (s : State) (r : HReq) : State :=
  s.each (s.closedChannels r) fun t c => t.count (Pg.dram c) DRAM.DISABLED_HITS

/-- A DRAM transaction is served; a read gathers its data, and a write reaches memory when the transaction ends. -/
def State.serveDram (s : State) (c port : Nat) (r : HReq) (ecc : List (Nat × Ecc)) : State :=
  if !(s.closedChannels r).isEmpty then
    (s.countClosed r).portTxn port fun t => { t with status := Hst.unsupported }
  else
    let q := (s.onDram c fun d => { d with wcrc := [] }).reachDram r ecc
    if r.write then q.1
    else
      let data := q.1.loadRun r.addr r.len
      q.1.portTxn port fun t => { t with rdata := data, poison := q.2 }

/-- A DRAM write reaches memory. -/
def State.applyDram (s : State) (r : HReq) : State :=
  (s.storeRun r).wordsWritten ((s.reqWords r).map (·.2))

/-- A write without some of its 64 B words. -/
def reqWithout (r : HReq) (words : List Nat) : HReq :=
  if words.isEmpty then r
  else { r with strobes := (List.range r.len).map fun i =>
    !words.contains ((r.addr + i) / 64 * 64) && (r.strobes[i]?).getD true }


/-- A port is free: no granted transaction holds it, and its channel is not changing frequency (R266). -/
def State.portFree (s : State) (port : Nat) : Bool :=
  !(s.harness.txns.any fun t => t.granted && t.port == port) &&
    !(inRange 32 port 33 && (s.dram (port - 32)).freqBusy.isSome)

/-- A transaction releases its path. -/
def State.releasePath (s : State) (t : Txn) : State :=
  s.onHarness fun h => { h with
    txns := h.txns.set (h.txns.findIdx fun x => x == t) { t with port := Port.none } }

/-- What a DRAM transaction leaves at its end: the write, and the refreshes that it postponed at every channel it met
(R250). -/
def State.endDram (s : State) (t : Txn) : State :=
  let s := if t.req.write && t.status = Hst.okay && !t.aborted then s.applyDram (reqWithout t.req t.dropped) else s
  s.each (((s.dramWords t.req).map (·.1)).eraseDups) fun u c =>
    u.each (List.range 4) fun v r => if v.populated c r then v.serveRefresh c r else v

/-! ### Resets of masters and targets (R234, R235) -/

/-- A write at a DRAM port is in progress. -/
def Txn.dramWrite (t : Txn) : Bool := t.granted && t.req.write && inRange 32 t.port 33

/-- A write whose strobes are off from some beat of the master on. -/
def reqCutAt (r : HReq) (beats : Nat) : HReq :=
  { r with strobes := (List.range r.len).map fun i => i < beats * masterWidth r.master && (r.strobes[i]?).getD true }

/-- How many beats a DRAM transaction has behind it when it is cut, which the spec leaves to timing (free, log 319). -/
def Txn.beatsDone (t : Txn) (v : Nat) : Nat :=
  let w := masterWidth t.req.master
  (if t.port = 32 then v else v / 2 ^ 32) % ((t.req.len + w - 1) / w + 1)

/-- A free value where some transaction at a DRAM port needs one. -/
def State.freeCut (s : State) (hit : Txn → Bool) : Nat × State :=
  if s.harness.txns.any fun t => t.granted && inRange 32 t.port 33 && hit t then s.free else (0, s)

/-- A master is reset: waiting requests are withdrawn, writes end with strobes off and keep the beats already sent, locked
sequences fail. -/
def State.resetMaster (s : State) (m : Nat) : State :=
  let (v, s) := s.freeCut fun t => t.req.master == m && t.req.write
  let s := s.onHarness fun h => { h with
    held := h.held.filter fun r => r.master ≠ m
    txns := (h.txns.filter fun t => t.granted || t.req.master ≠ m).map fun t =>
      if t.req.master == m && !t.orphan then
        { t with
          orphan := true
          onBehalf := t.req.write && (0 < t.beats || inRange 32 t.port 33)
          req := if t.dramWrite then reqCutAt t.req (t.beatsDone v) else t.req }
      else t }
  let broken := s.girth.locks.countP fun l => l.1 == m
  let s := s.onGirth fun g => { g with
    locks := g.locks.filter fun l => l.1 ≠ m
    banks := g.banks.map fun e => (e.1, { e.2 with waiting := e.2.waiting.map fun x =>
      if x.master = m then { x with strobes := List.replicate x.len false, locked := false } else x }) }
  let s := if broken = 0 then s else (s.count Pg.harness HARNESS.LOCK_FAILS broken).event Pg.harness 2
  s.set Pg.harness HARNESS.MRST_STAT_PENDING (setBits (s.get Pg.harness HARNESS.MRST_STAT_PENDING) (2 ^ m))

/-- Every ID of a reset master is retired and its paths are free. -/
def State.retireMaster (s : State) (m : Nat) : State :=
  let bursts := s.harness.txns.countP (fun t => t.req.master == m && t.onBehalf) + nget 0 s.harness.cut m
  let ends := s.harness.txns.filter fun t => t.req.master == m && t.granted && inRange 32 t.port 33
  let s := s.onHarness fun h => { h with
    txns := h.txns.filter fun t => t.req.master ≠ m
    cut := nput 0 h.cut m 0 }
  let s := s.each ends State.endDram
  let s := s.onGirth fun g => { g with
    banks := (g.banks.map fun e => (e.1, { e.2 with waiting := e.2.waiting.filter fun x => x.master ≠ m })).filter
      fun e => e.2 ≠ Bank.reset }
  let p := Pg.harness
  let s := s.set p HARNESS.MRST_STAT_PENDING (clearBits (s.get p HARNESS.MRST_STAT_PENDING) (2 ^ m))
  ((s.count p HARNESS.MRST_BURSTS bursts).event p 3).settleRetention

/-- Bytes of a Girth write whose beats have been served. -/
def Txn.girthDone (t : Txn) : Nat :=
  let l := girthLines (t.req.addr - 0x40000000) t.req.len
  ((l.take (l.length - t.beats)).map (·.2)).sum

/-- The parts below an address of ranges that hold poison. -/
def poisonBefore (a : Nat) (l : List (Nat × Nat)) : List (Nat × Nat) :=
  (l.filter fun e => e.1 < a).map fun e => (e.1, min e.2 (a - e.1))

/-- The unit of some target ports is reset: what they hold ends with ABORTED, reads with zeros (R235). -/
def State.abortPorts (s : State) (hit : Nat → Bool) : State :=
  let (v, s) := s.freeCut fun t => hit t.port
  let came (t : Txn) : Nat :=
    if inRange 32 t.port 33 then min (t.beatsDone v * masterWidth t.req.master) t.req.len
    else if t.req.write && !t.req.locked then t.girthDone
    else t.rdata.length
  let abort (t : Txn) : Txn :=
    if t.granted && hit t.port && !t.aborted then
      { t with
        aborted := true
        status := Hst.aborted
        beats := 0
        good := came t
        poison := poisonBefore (t.req.addr + came t) t.poison
        rdata := if t.req.write then t.rdata
          else t.rdata.take (came t) ++ List.replicate (t.req.len - (t.rdata.take (came t)).length) 0 }
    else t
  let writes := s.harness.txns.filter fun t => t.dramWrite && hit t.port && !t.aborted && t.status == Hst.okay
  let s := s.each writes fun u t => u.applyDram (reqCutAt (reqWithout t.req t.dropped) (t.beatsDone v))
  let keep (b : Nat) (x : Beat) : Bool := !hit (4 * (b / s.banksPerSegment) + x.port)
  let s := s.onHarness fun h => { h with txns := h.txns.map abort }
  s.onGirth fun g => { g with
    banks := (g.banks.map fun e => (e.1, { e.2 with waiting := e.2.waiting.filter (keep e.1) })).filter fun e =>
      e.2 ≠ Bank.reset }

/-! ### Firmware's own accesses -/

/-- The part of a run of bytes that a burst carries: up to 4 KiB, none across a 4 KiB boundary, all at 48-bit addresses
(R216, R221). -/
def burstsOf (a n : Nat) : List (Nat × Nat) :=
  ((List.range ((a + n + 4095) / 4096 - a / 4096)).map fun k =>
    let lo := max a ((a / 4096 + k) * 4096)
    let hi := min (a + n) ((a / 4096 + k + 1) * 4096)
    (lo, hi - lo)).filter fun e => e.2 ≠ 0 && e.1 < 2 ^ 48

/-- A burst that firmware issues for a mailbox command: as control core 0 with the CLOSE hint (log 338), or as the mover's
`bulk` class where that moves a set or a life record in DRAM (R245). -/
def coreBurst (a n : Nat) (write : Bool) (data : List Byte) (bulk : Bool := false) : HReq :=
  let moves := bulk && 0x800000000 ≤ a
  { master := if moves then 6 else 7, id := 0, addr := a, len := n, write := write, data := data, strobes := [],
    locked := false, descQos := if moves then 4 else 0, openHint := moves }

/-- A byte at a Harness address as a control core reads it: 0 where it is unmapped, refused or denied; free where its target
brings none, a disabled channel or a misaligned Girth access (log 338). -/
def State.peekByte (s : State) (a : Nat) (at_ : Nat := a) : Byte :=
  let r := coreBurst a 1 false []
  let b := s.remapped r
  match s.decodePort r with
  | none => 0
  | some port =>
    if port < 32 then
      if s.unaligned 3 at_ then Config.unreadByte (b - 0x40000000)
      else if s.vaultDenies 7 (b - 0x40000000) then 0
      else s.girthByte (b - 0x40000000)
    else if port = Port.pages then 0
    else if inRange 32 port 33 && !s.enabled (Pg.dram (port - 32)) then Config.unreadByte b
    else s.byte (s.memKey b)

/-- What a burst that firmware reads leaves behind: an unmapped one counts (R220), a refused one too (R224, R267); at
the Girth and in DRAM it is an access like any other. -/
def State.peekBurst (s : State) (a n : Nat) (bulk : Bool := false) : State :=
  let r := coreBurst a n false [] bulk
  match s.decodePort r with
  | none => s.countMiss r
  | some port =>
    if refusedKind port r then s.countRefused
    else if port < 32 then (s.fetch 3 7 (s.remapped r - 0x40000000) n).1
    else if inRange 32 port 33 then
      if (s.closedChannels r).isEmpty then (s.reachDram r []).1 else s.countClosed r
    else s

/-- Firmware reads a run of bytes. -/
def State.peeked (s : State) (a n : Nat) (bulk : Bool := false) : State :=
  s.each (burstsOf a n) fun t b => t.peekBurst b.1 b.2 bulk

/-- The word at a Harness address, little-endian (log 5). -/
def State.peekWord (s : State) (a : Nat) : Word :=
  wordOf (s.peekByte a a) (s.peekByte (a + 1) a) (s.peekByte (a + 2) a) (s.peekByte (a + 3) a)

def State.peekWords (s : State) (a n : Nat) : List Word := (List.range n).map fun i => s.peekWord (a + 4 * i)

/-- A burst that firmware stores; nothing where it may not. -/
def State.pokeBurst (s : State) (a : Nat) (l : List Byte) (bulk : Bool := false) : State :=
  let r := coreBurst a l.length true l bulk
  let q := { r with addr := s.remapped r }
  match s.decodePort r with
  | none => s.countMiss r
  | some port =>
    if refusedKind port r then s.countRefused
    else if port < 32 then (s.store 3 7 (q.addr - 0x40000000) l).1
    else if port = Port.sram then s.storeRun q
    else if inRange 32 port 33 then
      if (s.closedChannels q).isEmpty then (s.reachDram q []).1.applyDram q else s.countClosed q
    else s

/-- Firmware stores a run of bytes. -/
def State.pokeBytes (s : State) (a : Nat) (l : List Byte) (bulk : Bool := false) : State :=
  s.each (burstsOf a l.length) fun t b => t.pokeBurst b.1 ((l.drop (b.1 - a)).take b.2) bulk

end Sys2Proof.Machine
end

