-- ==== Sys2Proof/Machine/MixOps.lean ====
section
/-!
DEFINITION. What the mix unit's commands share (chapter 06): DIRECT changes, staging and bank exchange, the commit
table, route changes and the swap fades.
-/

namespace Sys2Proof.Machine

/-- A time in ms as samples, rounded to the nearest; of a tie the spec says nothing (log 4). -/
def samplesOf (ms hz : Nat) : Nat :=
  let n := ms * hz
  let q := n / 1000
  let r := n % 1000
  if 2 * r < 1000 then q else if 1000 < 2 * r then q + 1
  else if Config.roundUp n 1000 then q + 1 else q

/-- Blocks that hold a number of samples. -/
def blocksOf (samples b : Nat) : Nat := (samples + b - 1) / b

def noSource : Nat := 0x3FFF

/-- Patch points of the part (R155). -/
def State.patchCount (s : State) : Nat := if s.part = .ca then 8192 else 16383

/-- Offsets in the Girth of the two snapshot buffers of 128 KiB each, which do not overlap (R187). -/
def snapLow : Nat := Config.snapLow % 0x1FC0001 / 16 * 16
def snapHigh : Nat := snapLow + 0x20000 + Config.snapGap % (0x1FC0001 - snapLow) / 16 * 16

/-- The Harness address of a snapshot buffer: somewhere in the Girth (R187). -/
def snapBase (second : Bool) : Nat := Mem.girth + if second == Config.snapUpper then snapLow else snapHigh

/-- Concurrent route crossfades (R178). -/
def State.xfadeLimit (s : State) : Nat := if s.part = .ca then 256 else 512

def State.mixEnabled (s : State) : Bool := s.enabled Pg.mix

/-! ### Where patch points lie -/

/-- The tile of the running plan whose input a patch point is. -/
def State.inputTile (s : State) (patch : Nat) : Option PlanTile :=
  (s.working.find? fun e => e.2.inputs.contains patch).map (·.2)

def State.outputTile (s : State) (patch : Nat) : Option PlanTile :=
  (s.working.find? fun e => e.2.outputs.contains patch).map (·.2)

/-- The domain of an endpoint patch point. -/
def State.endpointDomain (s : State) (patch : Nat) : Option Nat :=
  match s.fabric.running with
  | some p => SMap.find? p.endpoints patch
  | none => none

/-- The domain of a patch point: of the tile that it belongs to, else of its endpoint. -/
def State.patchDomain (s : State) (patch : Nat) : Option Nat :=
  match s.inputTile patch with
  | some x => some x.domain
  | none =>
    match s.endpointDomain patch with
    | some d => some d
    | none => (s.outputTile patch).map (·.domain)

/-! ### DIRECT changes (R162 to R165) -/

def State.directRefused (s : State) : State := (s.count Pg.mix MIX.DIRECT_REFUSED).event Pg.mix 0

/-- A slot of the inactive bank takes a DIRECT change too, unless staging has written it or a ramp runs (R165). -/
def State.mirrorsDirect (s : State) (t slot : Nat) : Bool :=
  !s.flag (Pg.awl t) AWL.PSTAT_RAMP_BUSY && !s.mix.stageSlots.contains (t, slot)

/-- A value for a slot of the active bank, and of the inactive one. -/
def State.writeActive (s : State) (t slot : Nat) (v : Word) : State :=
  let b := s.flag (Pg.awl t) AWL.PSTAT_ACTIVE_BANK
  let x := (s.tile t).setParam b slot v
  s.setTile t (if s.mirrorsDirect t slot then x.setParam (!b) slot v else x)

/-- The value of a slot of the active bank. -/
def State.activeParam (s : State) (t slot : Nat) : Word :=
  (s.tile t).param (s.flag (Pg.awl t) AWL.PSTAT_ACTIVE_BANK) slot

/-- ceil(|target - held| / N) (R163, R173). -/
def rampStep (target held : Word) (n : Nat) : Word :=
  let d := (target.toInt - held.toInt).natAbs
  BitVec.ofNat 32 (if n = 0 then 0 else (d + n - 1) / n)

/-- The rate of a tile with work. -/
def State.tileHz (s : State) (t : Nat) : Nat := s.domHz (s.tileDomain t)

/-- One change reaches its tile. -/
def State.applyDirect (s : State) (c : Direct) : State :=
  match c with
  | .param t slot v => s.writeActive t slot v
  | .gain t slot ramp v =>
    let step := if ramp then rampStep v (s.activeParam t slot) (samplesOf (s.get Pg.mix MIX.RAMP_CFG_GAIN_MS) (s.tileHz t))
      else 0xFFFFFFFF
    (s.writeActive t slot v).writeActive t (slot + 1) step
  | .route _ _ => s

/-- The tile of a PARAM or GAIN change. -/
def Direct.tile? : Direct → Option Nat
  | .param t _ _ => some t
  | .gain t _ _ _ => some t
  | .route _ _ => none

/-- The changes queued for a tile are applied in order. -/
def State.applyQueued (s : State) (t : Nat) : State :=
  let mine := s.mix.direct.filter fun c => Direct.tile? c == some t
  let s := s.onMix fun m => { m with direct := m.direct.filter fun c => Direct.tile? c != some t }
  s.each mine fun u c => u.applyDirect c

/-- What the present DIRECT_TGT makes of a value. -/
def State.directOf (s : State) (v : Word) : Direct :=
  let p := Pg.mix
  let sd := s.get p MIX.DIRECT_TGT_SLOT_DEST
  let t := s.get p MIX.DIRECT_TGT_TILE
  if s.get p MIX.DIRECT_TGT_KIND = 0 then .param t (sd % 4096) v
  else if s.get p MIX.DIRECT_TGT_KIND = 1 then .gain t (sd % 4096) (s.flag p MIX.DIRECT_TGT_RAMP) v
  else .route sd (v.toNat % 16384)

/-- A change that is refused at submission (R162, R163). -/
def State.directBad (s : State) (c : Direct) : Bool :=
  match c with
  | .param t slot _ => s.tileCount ≤ t || 4094 ≤ slot
  | .gain t slot ramp _ => s.tileCount ≤ t || 4093 ≤ slot || (ramp && !s.hasWork t)
  | .route d src => s.patchCount ≤ d || (src ≠ noSource && s.patchCount ≤ src)

/-- A write of DIRECT_VAL submits a change (R162). -/
def State.submitDirect (s : State) (v : Word) : State :=
  let c := s.directOf v
  if !s.mixEnabled || 64 ≤ s.mix.direct.length || s.get Pg.mix MIX.DIRECT_TGT_KIND = 3 || s.directBad c then
    s.directRefused
  else match Direct.tile? c with
    | some t => if s.hasWork t then s.onMix fun m => { m with direct := m.direct ++ [c] } else s.applyDirect c
    | none => s.onMix fun m => { m with direct := m.direct ++ [c] }

/-! ### Routes (R176 to R178) -/

/-- The source of a destination's route. -/
def State.routeSource (s : State) (dest : Nat) : Nat := s.get Pg.mix MIX.ROUTE_DATA_SOURCE dest

/-- A change waits. -/
def State.deferRoute (s : State) (dest : Nat) (w : WaitRoute) : State :=
  let s := (s.onMix fun m => { m with waits := nset m.waits dest w }).event Pg.mix 4
  if w.fenced then s.count Pg.mix MIX.ROUTE_DEFERRED else s

/-- A crossfade to a new source starts with the next block delivered, or the change waits. -/
def State.startRoute (s : State) (dest src len : Nat) (fenced : Bool) : State :=
  if (SMap.find? s.mix.xfades dest).isSome || s.xfadeLimit ≤ s.mix.xfades.length then s.deferRoute dest ⟨src, len, fenced⟩
  else
    (s.onMix fun m => { m with xfades := nset m.xfades dest ⟨s.routeSource dest, src, 0, len⟩ }).set Pg.mix
      MIX.ROUTE_DATA_SOURCE src dest

/-- Waiting changes start in ascending destination order while they may. -/
def State.startWaiting (s : State) : State :=
  s.each s.mix.waits fun t w =>
    if (SMap.find? t.mix.xfades w.1).isSome || t.xfadeLimit ≤ t.mix.xfades.length then t
    else (t.onMix fun m => { m with waits := SMap.erase m.waits w.1 }).startRoute w.1 w.2.src w.2.len w.2.fenced

/-- The length of a route ramp at a destination, in samples of its domain. -/
def State.routeLen (s : State) (dest ms : Nat) : Nat :=
  match s.patchDomain dest with
  | some d => samplesOf ms (s.domHz d)
  | none => 0

/-! ### Staging (R166, R167) -/

/-- One staged record reaches the inactive bank of its tile. -/
def State.placeStaged (s : State) (r : StageRec) : State :=
  let b := s.flag (Pg.awl r.tile) AWL.PSTAT_ACTIVE_BANK
  let s := s.setTile r.tile ((s.tile r.tile).setParam (!b) r.slot r.value)
  let key := (r.tile, r.slot)
  s.onMix fun m => { m with
    stageSlots := if m.stageSlots.contains key then m.stageSlots else m.stageSlots ++ [key]
    stageGains := if r.gain then (if m.stageGains.contains key then m.stageGains else m.stageGains ++ [key])
      else m.stageGains.erase key }

/-- A staging write: held while RAMP_BUSY is 1, and behind those of its tile that are held already (R111, R167). -/
def State.stageWrite (s : State) (r : StageRec) : State :=
  if s.flag (Pg.awl r.tile) AWL.PSTAT_RAMP_BUSY || s.mix.held.any (·.tile == r.tile) then s.onMix fun m => { m with held := m.held ++ [r] }
  else s.placeStaged r

/-- Held staging writes of a tile are placed (R112). -/
def State.releaseStaging (s : State) (t : Nat) : State :=
  let mine := s.mix.held.filter fun r => r.tile == t
  (s.onMix fun m => { m with held := m.held.filter fun r => r.tile ≠ t }).each mine fun u r => u.placeStaged r

/-- Nothing is staged any more: what a plan swap, an applied scene or SRST leaves (R169). -/
def State.clearStage (s : State) : State :=
  let s := s.onMix fun m => { m with stageRoutes := [], stageGains := [], stageSlots := [], held := [] }
  (s.set Pg.mix MIX.STAGE_SET_SET 0).set Pg.mix MIX.STAGE_SET_INCOMPLETE 0

/-- What is staged is discarded: the slots written in the inactive banks take the active values again (R169). -/
def State.discardStage (s : State) : State :=
  let s := s.each s.mix.stageSlots fun t e =>
    let b := t.flag (Pg.awl e.1) AWL.PSTAT_ACTIVE_BANK
    t.setTile e.1 ((t.tile e.1).setParam (!b) e.2 ((t.tile e.1).param b e.2))
  s.clearStage

/-- A tile's banks exchange roles for a SCENE: steps, N and 1/N, RAMP_BUSY, then pending DIRECT changes (R173, R112). -/
def State.exchangeBank (s : State) (t rampMs : Nat) : State :=
  let p := Pg.awl t
  let old := s.flag p AWL.PSTAT_ACTIVE_BANK
  let n := samplesOf rampMs (s.tileHz t)
  let b := s.domB (s.tileDomain t)
  let x := s.tile t
  let gains := (s.mix.stageGains.filter fun g => g.1 == t).map (·.2)
  let x := gains.foldl (fun y slot =>
    y.setParam (!old) (slot + 1) (rampStep (y.param (!old) slot) (y.param old slot) n)) x
  let x := (x.setParam (!old) 4094 (BitVec.ofNat 32 n)).setParam (!old) 4095 (BitVec.ofNat 32 (2 ^ 31 / n))
  let s := s.setTile t { x with rampLeft := blocksOf n b, since := 0 }
  let s := (s.setFlag p AWL.PSTAT_ACTIVE_BANK (!old)).set p AWL.PSTAT_RAMP_BUSY 1
  let s := s.onMix fun m => { m with
    stageGains := m.stageGains.filter fun g => g.1 ≠ t
    stageSlots := m.stageSlots.filter fun g => g.1 ≠ t }
  s.applyQueued t

/-- RAMP_MS and ROUTE_MS of a set, where 0 means the defaults of RAMP_CFG (R166). -/
def State.stageRamp (s : State) : Nat :=
  if s.mix.rampMs = 0 then s.get Pg.mix MIX.RAMP_CFG_GAIN_MS else s.mix.rampMs

def State.stageRouteMs (s : State) : Nat :=
  if s.mix.routeMs = 0 then s.get Pg.mix MIX.RAMP_CFG_ROUTE_MS else s.mix.routeMs

/-! ### The commit table (R168 to R172, R509) -/

def Ck.scene : Nat := 1
def Ck.swap : Nat := 2
def Ck.refSwitch : Nat := 3
def Ck.handover : Nat := 4

def Cr.applied : Nat := 0
def Cr.late : Nat := 1
def Cr.cancelled : Nat := 2
def Cr.incomplete : Nat := 3
def Cr.admitFail : Nat := 4
def Cr.disabled : Nat := 5
def Cr.tooLate : Nat := 6

/-- The commit's time in ns of TIME0. -/
def Commit.at_ (c : Commit) : Nat := c.sec * nsPerSec + c.ns

/-- COMMIT_RESULT of a commit. -/
def State.commitResult (s : State) (c : Commit) (result : Nat) : State :=
  ((s.set Pg.mix MIX.COMMIT_RESULT_RESULT result).set Pg.mix MIX.COMMIT_RESULT_SET c.set).set Pg.mix
    MIX.COMMIT_RESULT_KIND c.kind

/-- COMMIT_CANCELLED and MIX_COMMIT_FAIL. -/
def State.commitFails (s : State) (c : Commit) (result : Nat) : State :=
  ((s.commitResult c result).event Pg.mix 2).raise Src.commitFail 0

/-- A commit leaves the table applied, on time or LATE (R172). -/
def State.commitApplied (s : State) (entry : Nat) (c : Commit) : State :=
  let s := s.onMix fun m => { m with commits := SMap.erase m.commits entry }
  let s := s.commitResult c (if c.late then Cr.late else Cr.applied)
  let s := if c.kind = Ck.scene || c.kind = Ck.swap then (s.count Pg.mix MIX.COMMITS_APPLIED).event Pg.mix 1 else s
  if c.late then (s.event Pg.mix 3).raise Src.commitFail 0 else s

/-- A commit leaves the table cancelled. -/
def State.commitDropped (s : State) (entry : Nat) (c : Commit) (result : Nat) : State :=
  (s.onMix fun m => { m with commits := SMap.erase m.commits entry }).commitFails c result

/-- The armed commit of a kind. -/
def State.armed (s : State) (kind : Nat) : Option (Nat × Commit) := s.mix.commits.find? fun e => e.2.kind == kind

/-- The first free entry of the table. -/
def State.freeEntry (s : State) : Option Nat :=
  (List.range 16).find? fun i => (SMap.find? s.mix.commits i).isNone

/-- A commit enters the table. -/
def State.arm (s : State) (kind set sec ns : Nat) : State :=
  match s.freeEntry with
  | some i => s.onMix fun m => { m with commits := nset m.commits i ⟨kind, set, sec, ns, false, [], [], [], false⟩ }
  | none => s

/-- COMMIT_AT's argument names a kind, and its other bits are zero (R168). -/
def commitArgOk (kind : Nat) (arg : Word) (sec ns : Nat) : Bool :=
  arg.toNat % 256 = kind && arg.toNat < 65536 && sec < 2 ^ 48 && ns < nsPerSec

def commitSet (arg : Word) : Nat := arg.toNat / 256 % 256

/-- The argument words of COMMIT_AT (R52, R168). -/
def commitArgs (arg : Word) (sec ns : Nat) : List Word := arg :: addrArgs sec ++ [BitVec.ofNat 32 ns]

/-- COMMIT_AT up to the arming: the checks that every kind shares, around those of its own (R52, R169). -/
def State.commitAt (s : State) (tag : BitVec 8) (kind : Nat) (arg : Word) (sec ns : Nat) (setOk enabled busy : Bool)
    (rest : State → State) : State :=
  let op := Op.commitAt
  if !commitArgOk kind arg sec ns || !setOk then s.reply op tag St.badArg []
  else if !enabled then s.reply op tag St.notEnabled []
  else if sec * nsPerSec + ns < s.nanos0 + 5000000 then s.reply op tag St.tooLate []
  else if busy || s.freeEntry.isNone then s.reply op tag St.busy []
  else rest s

/-- A SCENE or a PLAN_SWAP is armed (R169). -/
def State.changeArmed (s : State) : Bool := (s.armed Ck.scene).isSome || (s.armed Ck.swap).isSome

/-! ### Plan swaps: classes and fades (R179, R510, R511) -/

/-- The predecessor that a plan names is running. -/
def State.predRuns (s : State) (p : Plan) : Bool :=
  match s.fabric.running with
  | some r => p.pred == some r.ident
  | none => false

/-- A domain runs in the old plan with the rate and B that the new plan gives it. -/
def State.sameDomain (s : State) (p : Plan) (d : Nat) : Bool :=
  s.domActive d && p.domains.any fun x => x.dom == d &&
    x.rate.toNat == s.get Pg.fabric (FABRIC.DOM_CFG_RATE d) && x.bsize.toNat == s.get Pg.fabric (FABRIC.DOM_CFG_BSIZE d)

/-- A tile of two plans has the same image and the same memory layout (R179). -/
def sameImage (x o : PlanTile) : Bool :=
  x.imem == o.imem && x.xmem == o.xmem && x.ymem == o.ymem && x.params == o.params && x.winHalf == o.winHalf &&
    x.inputs.length == o.inputs.length && x.outputs.length == o.outputs.length

/-- The class by which a tile of the new plan acts. -/
def State.swapClass (s : State) (p : Plan) (x : PlanTile) : SwapClass :=
  if !s.predRuns p || !s.sameDomain p x.domain then .reload
  else match x.cls, s.workOf x.tile with
    | .keep, some o => if o.domain = x.domain && sameImage x o then .keep else .reload
    | .warm, none => .warm
    | _, _ => .reload

/-- Tiles of the new plan in a class. -/
def State.tilesIn (s : State) (p : Plan) (c : SwapClass) : List PlanTile := p.tiles.filter fun x => s.swapClass p x == c

/-- The old-side tiles of the WARM crossfades: old tiles that feed output patch points of WARM tiles (log 33). -/
def State.oldSide (s : State) (p : Plan) : List Nat :=
  let outs := (s.tilesIn p .warm).flatMap (·.outputs)
  (s.working.filter fun e => !s.isOldTile e.1 && e.2.outputs.any outs.contains).map (·.1)

/-- Output patch points of a domain that fade out before the effect tick: those of every old tile but KEEP tiles and
the old sides of WARM crossfades, of one that still runs too (R180). -/
def State.fadingOutputs (s : State) (p : Plan) (d : Nat) : List Nat :=
  let keep := (s.tilesIn p .keep).map (·.tile)
  let old := s.oldSide p
  (s.working.filter fun e => e.2.domain == d && !keep.contains e.1 && !old.contains e.1 && !s.isOldTile e.1).flatMap
    (·.2.outputs)

/-- A fade that is taken back returns to full level from where it stands. -/
def takeBack : Fade → Option Fade
  | .fadeOut 0 pos len => some (.fadeIn (len - pos) len)
  | .fadeOut _ _ _ => none
  | .over i o => match takeBack o with
    | none => some i
    | some g => some (.over i g)
  | f => some f

/-- Input patch points of loops whose LOOKAHEAD the plan changes (R409). -/
def State.lookaheadPatches (s : State) (p : Plan) (d : Nat) : List Nat :=
  (p.loops.filter fun x => x.domain == d && s.flag Pg.fabric FABRIC.PLAN_STAT_ACTIVE_VALID &&
    s.get (Pg.stirrup x.loop) STIRRUP.CFG_IN_PATCH == x.inPatch &&
    s.flag (Pg.stirrup x.loop) STIRRUP.CFG_LOOKAHEAD != x.lookahead).map (·.inPatch)

/-- A route takes a new source: at once, or by a crossfade of ROUTE_MS (R512). Where the source stays, a change that waits
stays too (DESIGN CHOICE, log 310). -/
def State.swapRoute (s : State) (dest src : Nat) (atOnce : Bool) : State :=
  if atOnce then
    (s.onMix fun m => { m with xfades := SMap.erase m.xfades dest, waits := SMap.erase m.waits dest }).set Pg.mix
      MIX.ROUTE_DATA_SOURCE src dest
  else if s.routeSource dest = src then s
  else s.startRoute dest src (s.routeLen dest (s.get Pg.mix MIX.RAMP_CFG_ROUTE_MS)) true

/-- The source that a plan's route table gives a destination. -/
def planSource (p : Plan) (dest : Nat) : Nat := (SMap.find? p.routes dest).getD noSource

/-- The plan of an armed swap. -/
def State.swapPlan (s : State) : Option Plan :=
  match s.fabric.swap with
  | some w => if w.slot = 0 then s.fabric.slot0 else s.fabric.slot1
  | none => none

/-- An armed swap that has not begun ends without effect (R511). -/
def State.dropSwap (s : State) : State :=
  match s.fabric.swap, s.swapPlan with
  | some w, some p =>
    let s := s.each (s.tilesIn p .warm) fun t x =>
      let y := t.tile x.tile
      if y.shadow then
        ((t.setTile x.tile { y with shadow := false, pass := .idle, rpt := none }).onFabric fun f =>
          { f with place := SMap.erase f.place x.tile }).unconfigureTile x.tile
      else t
    let back := w.fading.flatMap fun d => s.fadingOutputs p d ++ s.lookaheadPatches p d
    let s := s.onMix fun m => { m with
      fades := m.fades.filterMap fun e => if back.contains e.1 then (takeBack e.2).map (e.1, ·) else some e }
    let s := s.onFabric fun f => { f with swap := none }
    ((s.set Pg.fabric FABRIC.PLAN_STAT_SWAP_ARMED 0).set Pg.mix MIX.SWAP_STAT_L 0).set Pg.mix MIX.SWAP_STAT_RELOAD_TILES 0
  | _, _ => (s.onFabric fun f => { f with swap := none }).set Pg.fabric FABRIC.PLAN_STAT_SWAP_ARMED 0

/-- FABRIC.PG_EVT.SWAP_CANCELLED and its source (R77, R92, R93). -/
def State.swapCancelled (s : State) : State := (s.event Pg.fabric 8).raise Src.swapCancel 0

/-- Ticks for which a commit waits before it may be cancelled no more: 4 ms, and 20 ms for a PLAN_SWAP (R171, R77). -/
def cancelLead (kind : Nat) : Nat := if kind = Ck.swap then 20000000 else 4000000

/-! ### Rate bridges (R183, R184) -/

/-- BRG_STAT.STATE. -/
def Brg.locked : Nat := 1
def Brg.hold : Nat := 2
def Brg.fadingIn : Nat := 3

def State.bridgeState (s : State) (b : Nat) : Nat := s.get Pg.mix MIX.BRG_STAT_STATE b

/-- The destination patch point of a bridge, and its rate. -/
def State.bridgeDst (s : State) (b : Nat) : Nat := s.get Pg.mix MIX.BRG_CFG_DST b
def State.bridgeHz (s : State) (b : Nat) : Nat := s.domHz (s.get Pg.mix MIX.BRG_CFG_DST_DOM b)

/-- The level that a fade-in has reached, which the fade to zero starts from. -/
def fadeFrom (old : Option Fade) (len : Nat) : Fade :=
  match old with
  | some (.fadeIn pos n) => .over (.level pos n) (.fadeOut 0 0 len)
  | _ => .fadeOut 0 0 len

/-- A bridge enters HOLD (R183): its output is faded to zero over 1.0 ms from the level it has reached. -/
def State.unlockBridge (s : State) (b : Nat) : State :=
  if s.bridgeState b = Brg.locked || s.bridgeState b = Brg.fadingIn then
    let s := s.set Pg.mix MIX.BRG_STAT_STATE Brg.hold b
    let s := s.onMix fun m => { m with
      fades := nset m.fades (s.bridgeDst b)
        (fadeFrom (SMap.find? m.fades (s.bridgeDst b)) (samplesOf 1 (s.bridgeHz b))) }
    ((s.count Pg.mix MIX.BRG_UNLOCKS).event Pg.mix 7).raise Src.bridgeHold b
  else s

end Sys2Proof.Machine
end

