-- ==== Sys2Proof/Machine/MarginOps.lean ====
section
/-!
DEFINITION. The margin engine (R79 to R91, R464): escalations and their stages, voltage requests over AVSBus,
relocations, shed classes.
-/

namespace Sys2Proof.Machine

/-! ### What the engine is acting for -/

def State.esc (s : State) (t : Nat) : Option Esc := SMap.find? s.fabric.escs t

def State.setEsc (s : State) (t : Nat) (e : Esc) : State := s.onFabric fun f => { f with escs := nset f.escs t e }

/-- MARGIN_STAT.STAGE of a stage. -/
def stageCode : EscStage → Nat
  | .voltage => 1
  | .relocation => 2
  | .shedding => 3
  | .exhausted => 0
  | .settled => 0

/-- The stage in which the engine acts for a tile: one under way, or its emergency relocation that still runs. -/
def State.actingStage (s : State) (t : Nat) : Nat :=
  let r := if s.fabric.relocs.any fun r => !r.planned && r.src == t then 2 else 0
  match s.esc t with
  | some e => if stageCode e.stage ≠ 0 then stageCode e.stage else r
  | none => r

def State.setStage (s : State) (t stage : Nat) : State :=
  (s.set Pg.fabric FABRIC.MARGIN_STAT_TILE t).set Pg.fabric FABRIC.MARGIN_STAT_STAGE stage

/-- MARGIN_STAT after a change: the tile it shows while the engine acts for it, else the lowest one, else a raise for a
slack warning, else idle. -/
def State.showStage (s : State) : State :=
  let t := s.get Pg.fabric FABRIC.MARGIN_STAT_TILE
  if s.actingStage t ≠ 0 then s.setStage t (s.actingStage t)
  else match (List.range 256).find? fun u => s.actingStage u ≠ 0 with
    | some u => s.setStage u (s.actingStage u)
    | none =>
      match s.fabric.raise with
      | some r => s.setStage t (if r.forReplan then 0 else 1)
      | none => s.setStage t 0

/-- The engine acts: STAGE is not idle (R461). -/
def State.marginActs (s : State) : Bool := s.get Pg.fabric FABRIC.MARGIN_STAT_STAGE ≠ 0

/-- A pass of the tile is under way, so that observed passes start with its next one (R79, R81). -/
def State.midPass (s : State) (t : Nat) : Bool := (s.tile t).pass == .waiting || (s.tile t).pass == .running

/-- The tile's escalation, a new one where it has none. -/
def State.escOf (s : State) (t : Nat) : Esc := (s.esc t).getD ⟨.settled, false, false, [], none, s.now⟩

/-- A stage is under way and its observed passes count. -/
def State.observe (s : State) (t : Nat) (stage : EscStage) : State :=
  (s.setEsc t { s.escOf t with stage := stage, observing := true, skip := s.midPass t, seen := [] }).setStage t
    (stageCode stage)

/-- A stage waits: for a voltage request, or for one of the four relocations (R81). -/
def State.awaitStage (s : State) (t : Nat) (stage : EscStage) : State :=
  (s.setEsc t { s.escOf t with stage := stage, observing := false, skip := false, seen := [] }).setStage t
    (stageCode stage)

/-- Tiles that wait in a stage, in ascending order. -/
def State.awaiting (s : State) (stage : EscStage) : List Nat :=
  (s.fabric.escs.filter fun e => e.2.stage == stage && !e.2.observing).map (·.1)

/-! ### Voltage (R79, R81, R464) -/

/-- A Vout request goes out. -/
def State.requestVout (s : State) (mv : Nat) (forReplan : Bool) (warned : List Nat) : State :=
  (s.onFabric fun f => { f with raise := some ⟨mv, 0, false, s.now, forReplan, warned⟩ }).set Pg.fabric
    FABRIC.MARGIN_STAT_VCORE_MV mv

/-- 30 mV higher, capped at VMAX_MV, in whole steps of 10 mV (R464). -/
def State.raiseTarget (s : State) : Nat :=
  min (s.fabric.coreMv + 30) (s.get Pg.fabric FABRIC.MARGIN_CTRL_VMAX_MV) / 10 * 10

def State.avsEnabled (s : State) : Bool := s.flag Pg.fabric FABRIC.MARGIN_CTRL_AVS_EN

/-- VCORE is at VMAX_MV already. -/
def State.atCeiling (s : State) : Bool := s.raiseTarget ≤ s.fabric.coreMv

/-- Stage 1 requests a raise. -/
def State.startRaise (s : State) (warned : List Nat) : State :=
  ((s.requestVout s.raiseTarget false warned).count Pg.fabric FABRIC.AVS_STEPS).event Pg.fabric 2

/-- Other tiles' observed passes for the last raise still run. -/
def State.raiseObserved (s : State) : Bool :=
  s.fabric.escs.any fun e => e.2.stage == .voltage && e.2.observing && e.2.seen.length < 8

/-- Stage 1 for a tile, and whether it is available. -/
def State.tryVoltage (s : State) (t : Nat) : State × Bool :=
  if !s.avsEnabled then (s, false)
  else if s.fabric.raise.isSome then (s.awaitStage t .voltage, true)
  else if s.raiseObserved then (s.observe t .voltage, true)
  else if s.atCeiling then (s.event Pg.fabric 10, false)
  else ((s.startRaise []).awaitStage t .voltage, true)

/-! ### Relocation (R84 to R87) -/

def State.cost (s : State) (t : Nat) : Nat := s.get Pg.fabric FABRIC.TILE_COST_HU t
def State.setCost (s : State) (t v : Nat) : State := s.set Pg.fabric FABRIC.TILE_COST_HU v t

/-- A unit's HU in the plan. -/
def State.unitHu (s : State) (uid : Nat) : Nat := ((s.planUnits.find? fun e => e.2.uid == uid).map (·.2.hu)).getD 0

/-- A tile's cost with the units that come to it at the next tick. -/
def State.costAhead (s : State) (t : Nat) : Nat :=
  s.cost t + ((s.fabric.relocs.filter fun r => r.dst == t && r.phase == .due).map fun r => s.unitHu r.uid).sum

/-- A listed destination whose A covers its present cost plus the unit. -/
def State.qualifies (s : State) (t : Nat) (u : PlanUnit) (d : PlanDest) : Bool :=
  d.tile ≠ t && s.hasWork d.tile && s.tileDomain d.tile == s.tileDomain t &&
    s.flag (Pg.awl d.tile) PG.CTRL_EN && ((s.costAhead d.tile + u.hu : Nat) : Int) ≤ s.presentA d.tile

/-- The first relocatable unit still on its home tile that has a qualifying destination, and the first of those. -/
def State.pickUnit (s : State) (t : Nat) : Option (PlanUnit × Nat) :=
  let units := (s.unitsOn t).filter fun e => e.1 == t && e.2.relocatable && (s.relocOf e.2.uid).isNone
  units.findSome? fun e => (e.2.dests.find? (s.qualifies t e.2)).map fun d => (e.2, d.tile)

/-- RELOCATING of a tile. -/
def State.showReloc (s : State) (t : Nat) : State :=
  s.setFlag Pg.fabric FABRIC.TILE_STAT_RELOCATING
    (s.fabric.relocs.any fun r => (r.src == t || r.dst == t) && r.phase ≠ .due) t

/-- The phase of a relocation changes; the old side of a WARM crossfade follows it (R91). -/
def State.setPhase (s : State) (uid : Nat) (ph : RelocPhase) : State :=
  let set (r : Reloc) : Reloc := if r.uid = uid then { r with phase := ph } else r
  s.onFabric fun f => { f with relocs := f.relocs.map set, oldRelocs := f.oldRelocs.map set }

/-- A relocation starts: the unit's cost moves (R85). -/
def State.beginReloc (s : State) (r : Reloc) : State :=
  let hu := s.unitHu r.uid
  let s := (s.setCost r.src (s.cost r.src - hu)).setCost r.dst (s.cost r.dst + hu)
  (((s.setPhase r.uid .copy).showReloc r.src).showReloc r.dst).event Pg.fabric 3

/-- A relocation is taken up: an emergency one starts at the next tick of its domain, the relocation tick (R85), a planned
one at once. -/
def State.startReloc (s : State) (t : Nat) (u : PlanUnit) (dst : Nat) (planned : Bool) : State :=
  let r : Reloc := ⟨u.uid, t, dst, planned, .due⟩
  let s := s.onFabric fun f => { f with relocs := f.relocs ++ [r] }
  if planned then s.beginReloc r else s

/-- An armed plan swap lies less than a time in ns away (R91, R461). -/
def State.swapWithin (s : State) (ns : Nat) : Bool :=
  match s.armed Ck.swap with
  | some e => e.2.at_ ≤ s.nanos0 + ns
  | none => false

/-- Stage 2 for a tile; with four relocations running it waits. -/
def State.tryRelocation (s : State) (t : Nat) : State × Bool :=
  if !s.flag Pg.fabric FABRIC.MARGIN_CTRL_RELOC_EN || s.swapWithin 100000000 then (s, false)
  else match s.pickUnit t with
    | none => (s, false)
    | some (u, d) =>
      if 4 ≤ s.fabric.relocs.length then (s.awaitStage t .relocation, true)
      else ((s.startReloc t u d false).observe t .relocation, true)

/-- Blocks of a relocation's fade: XFADE_MS rounded up to whole blocks. -/
def State.relocBlocks (s : State) (r : Reloc) : Nat :=
  let d := s.tileDomain r.dst
  let n := s.get Pg.fabric FABRIC.RELOC_CFG_XFADE_MS * s.domHz d
  (n + 1000 * s.domB d - 1) / (1000 * s.domB d)

/-- Samples of a relocation's fade: a planned crossfade runs over XFADE_MS sample by sample, the fade-in of an emergency
relocation over whole blocks (R85, R86). -/
def State.relocLen (s : State) (r : Reloc) : Nat :=
  if r.planned then samplesOf (s.get Pg.fabric FABRIC.RELOC_CFG_XFADE_MS) (s.domHz (s.tileDomain r.dst))
  else s.relocBlocks r * s.domB (s.tileDomain r.dst)

/-- A unit runs on a tile from now on. -/
def Fabric.place' (f : Fabric) (uid t : Nat) : Fabric :=
  { f with moved := f.moved.filter (fun e => e.1 ≠ uid) ++ [(uid, t)] }

/-- A relocation leaves the list. -/
def State.dropReloc (s : State) (r : Reloc) : State :=
  let s := s.onFabric fun f => { f with relocs := f.relocs.filter fun x => x.uid ≠ r.uid }
  (s.showReloc r.src).showReloc r.dst

/-- Relocations stop: each unit stays where its outputs then come from (R92), the destination once a block of the fade has
been issued. -/
def State.stopRelocs (s : State) : State :=
  (s.each s.fabric.relocs fun s r =>
    match r.phase with
    | .due => s.dropReloc r
    | .fade (_ + 2) => (s.onFabric fun f => f.place' r.uid r.dst).dropReloc r
    | _ =>
      let hu := s.unitHu r.uid
      ((s.setCost r.src (s.cost r.src + hu)).setCost r.dst (s.cost r.dst - hu)).dropReloc r).showStage

/-! ### Shed classes (R88 to R90) -/

def shedKey (t cls : Nat) : Nat := 8 * t + cls

def State.shedRec (s : State) (t cls : Nat) : ShedRec :=
  (SMap.find? s.fabric.sheds (shedKey t cls)).getD ⟨false, 0, 10, none⟩

def State.setShedRec (s : State) (t cls : Nat) (r : ShedRec) : State :=
  s.onFabric fun f => { f with sheds := nset f.sheds (shedKey t cls) r }

/-- The highest shed class present on a tile, 0 for none. -/
def State.topClass (s : State) (t : Nat) : Nat := (s.unitsOn t).foldl (fun m e => max m e.2.shedClass) 0

/-- Units of a class on a tile, shed or not. -/
def State.classUnits (s : State) (t cls : Nat) : List (Nat × PlanUnit) :=
  s.planUnits.filter fun e => e.2.shedClass == cls && (s.unitTiles e.1 e.2).contains t

def State.classHu (s : State) (t cls : Nat) : Nat := (s.classUnits t cls).foldl (fun n e => n + e.2.hu) 0

/-- The hold time at a shed: doubled, up to 160 s, within 60 s of the class's restore. -/
def ShedRec.holdAt (r : ShedRec) (now : Nat) : Nat :=
  match r.restoredAt with
  | some a => if now ≤ a + cyclesSec 60 then min (2 * r.hold) 160 else r.hold
  | none => r.hold

/-- A class is shed on a tile, from its next pass on. -/
def State.shedClass (s : State) (t cls : Nat) : State :=
  let hu := s.classHu t cls
  let r := s.shedRec t cls
  let s := s.setShedRec t cls { r with shed := true, at_ := s.now, hold := r.holdAt s.now }
  let mask := s.get Pg.fabric FABRIC.TILE_STAT_SHED_MASK t ||| 2 ^ cls
  let s := (s.set Pg.fabric FABRIC.TILE_STAT_SHED_MASK mask t).setCost t (s.cost t - hu)
  (s.count Pg.fabric FABRIC.SHED_COUNT).event Pg.fabric 5

/-- Stage 3 for a tile. -/
def State.tryShed (s : State) (t : Nat) : State × Bool :=
  if !s.flag Pg.fabric FABRIC.MARGIN_CTRL_SHED_EN || s.topClass t = 0 then (s, false)
  else ((s.shedClass t (s.topClass t)).observe t .shedding, true)

/-- The output patch points of a unit. -/
def State.unitPatches (s : State) (home : Nat) (u : PlanUnit) : List Nat := u.outs.filterMap (s.outPatch home)

/-- The class qualifies for its restore (R89). -/
def State.mayRestore (s : State) (t cls : Nat) : Bool :=
  let r := s.shedRec t cls
  s.shedOn t cls && r.at_ + cyclesSec r.hold ≤ s.now && 30 < s.get Pg.fabric FABRIC.TILE_SLACK_WORST_10S t &&
    ((s.cost t + s.classHu t cls : Nat) : Int) ≤ s.presentA t && (List.range cls).all fun c => !s.shedOn t c

/-- The class returns: its outputs fade in over 10 ms from the first block that holds it again. -/
def State.restoreClass (s : State) (t cls : Nat) : State :=
  let units := s.classUnits t cls
  let len := samplesOf 10 (s.tileHz t)
  let s := s.setCost t (s.cost t + s.classHu t cls)
  let s := s.setShedRec t cls { s.shedRec t cls with shed := false, restoredAt := some s.now }
  let mask := s.get Pg.fabric FABRIC.TILE_STAT_SHED_MASK t - 2 ^ cls
  let s := s.set Pg.fabric FABRIC.TILE_STAT_SHED_MASK mask t
  let patches := units.flatMap fun e => s.unitPatches e.1 e.2
  let s := s.onMix fun m => { m with fades := patches.foldl (fun f p => nset f p (.silent 1 len)) m.fades }
  s.event Pg.fabric 6

/-! ### The stages in their order (R79, R80) -/

/-- No stage is left. -/
def State.exhaust (s : State) (t : Nat) : State :=
  let s := s.setEsc t { s.escOf t with stage := .exhausted, observing := false }
  ((s.event Pg.fabric 11).raise Src.exhausted t).showStage

def State.fromShedding (s : State) (t : Nat) : State :=
  let r := s.tryShed t
  if r.2 then r.1 else r.1.exhaust t

def State.fromRelocation (s : State) (t : Nat) : State :=
  let r := s.tryRelocation t
  if r.2 then r.1 else r.1.fromShedding t

def State.fromVoltage (s : State) (t : Nat) : State :=
  let r := s.tryVoltage t
  if r.2 then r.1 else r.1.fromRelocation t

/-- The engine takes up a tile that has reached the trigger, at the stage that last succeeded or at stage 1. -/
def State.escalate (s : State) (t : Nat) : State :=
  let e := { s.escOf t with missAt := (s.tile t).missAt }
  let s := (s.setEsc t e).set Pg.fabric FABRIC.TILE_STAT_ESCALATED 1 t
  match e.prefer with
  | some .relocation => s.fromRelocation t
  | some .shedding => s.fromShedding t
  | _ => s.fromVoltage t

/-- The 8 observed passes of a stage have ended. -/
def State.judge (s : State) (t : Nat) (e : Esc) : State :=
  if e.seen.all (· == true) then
    let prefer := if e.stage == .voltage then none else some e.stage
    (s.setEsc t { e with stage := .settled, observing := false, prefer := prefer }).showStage
  else match e.stage with
    | .voltage => s.fromRelocation t
    | .relocation => if e.prefer == some .relocation then s.fromRelocation t else s.fromShedding t
    | _ => s.fromShedding t

/-- Tiles that wait for one of the four relocations are served in ascending order (R81). -/
def State.serveRelocation (s : State) : State :=
  s.each (s.awaiting .relocation) fun s t => if s.fabric.relocs.length < 4 then s.fromRelocation t else s

/-- The old side of a WARM crossfade keeps the outputs that its relocations give it (R91). -/
def State.keepOldRelocs (s : State) (old : List Nat) : State :=
  let mine (uid : Nat) : Bool := s.planUnits.any fun e => e.2.uid == uid && old.contains e.1
  s.onFabric fun f => { f with
    oldRelocs := f.oldRelocs ++ f.relocs.filter fun r => mine r.uid
    oldMoved := f.oldMoved ++ f.moved.filter fun e => mine e.1 }

/-- Escalations, relocations and sheds end with the running plan (R91). -/
def State.endMargin (s : State) : State :=
  let gone (k : FKey) : Bool := k.p == Pg.fabric && k.off == FABRIC.TILE_STAT_ESCALATED.off &&
    (k.lo == FABRIC.TILE_STAT_ESCALATED.lo || k.lo == FABRIC.TILE_STAT_RELOCATING.lo ||
      k.lo == FABRIC.TILE_STAT_SHED_MASK.lo || k.lo == FABRIC.TILE_STAT_CONSEC_MISS.lo)
  let s := { s with regs := s.regs.filter fun e => !gone e.1 }
  (s.onFabric fun f => { f with
    escs := [], relocs := [], moved := [], sheds := [] }).showStage

end Sys2Proof.Machine
end

