-- ==== Sys2Proof/Machine/PlanOps.lean ====
section
/-!
DEFINITION. Plans: the slots, the admission checks of R75, what a tile takes from a plan (R99, R110, R179), and the tick
grid by which a commit finds its effect tick (R58, R170).
-/

namespace Sys2Proof.Machine

/-! ### The slots (R52, R76) -/

def State.slotPlan (s : State) (k : Nat) : Option Plan := if k = 0 then s.fabric.slot0 else s.fabric.slot1

def loadedFld (k : Nat) : Fld := if k = 0 then FABRIC.PLAN_STAT_SLOT0_LOADED else FABRIC.PLAN_STAT_SLOT1_LOADED
def admittedFld (k : Nat) : Fld := if k = 0 then FABRIC.PLAN_STAT_SLOT0_ADMITTED else FABRIC.PLAN_STAT_SLOT1_ADMITTED

/-- A slot holds a verified plan, or none. -/
def State.setSlot (s : State) (k : Nat) (p : Option Plan) : State :=
  (s.onFabric fun f => if k = 0 then { f with slot0 := p } else { f with slot1 := p }).setFlag Pg.fabric (loadedFld k)
    p.isSome

def State.admitted (s : State) (k : Nat) : Bool := s.flag Pg.fabric (admittedFld k)
def State.setAdmitted (s : State) (k : Nat) (b : Bool) : State := s.setFlag Pg.fabric (admittedFld k) b

/-- The slot is the running plan's. -/
def State.slotRuns (s : State) (k : Nat) : Bool :=
  s.flag Pg.fabric FABRIC.PLAN_STAT_ACTIVE_VALID && s.get Pg.fabric FABRIC.PLAN_STAT_ACTIVE_SLOT == k

/-- An armed plan swap names the slot. -/
def State.slotArmed (s : State) (k : Nat) : Bool :=
  match s.fabric.swap with
  | some w => w.slot == k
  | none => false

def State.fabricEnabled (s : State) : Bool := s.enabled Pg.fabric

/-! ### Admission (R75) -/

def Ad.cost : Nat := 1
def Ad.absent : Nat := 2
def Ad.period : Nat := 3
def Ad.gap : Nat := 4
def Ad.structure : Nat := 5
def Ad.notLoaded : Nat := 6

/-- A failed check: reason, and for COST the tile, its declared HU and its A. -/
structure AdmitFail where
  reason : Nat
  tile : Nat
  decl : Nat
  limit : Nat
  deriving DecidableEq, Repr

def AdmitFail.of (reason : Nat) : AdmitFail := ⟨reason, 0xFFFFFFFF, 0, 0⟩

def planHz (x : PlanDomain) : Nat := rateHz x.rate.toNat
def planB (x : PlanDomain) : Nat := blockOf x.bsize.toNat

/-- The rate and B that a plan gives a domain. -/
def planRate (p : Plan) (d : Nat) : Nat × Nat :=
  match p.domains.find? fun x => x.dom == d with
  | some x => (planHz x, planB x)
  | none => (48000, 8)

/-- A field that may name no patch point: 0x3FFF, which is never one (R155). -/
def orNone (q : Nat) : List Nat := if q = noSource then [] else [q]

/-- The patch points from a base on, one for each enabled slot of a mask; a chain without slots names its base at most
(R382). -/
def slotPatches (base slots mask : Nat) : List Nat :=
  orNone base ++ (List.range ((List.range slots).countP mask.testBit)).map (base + ·)

/-- Every patch point that a plan names. 0x3FFF stands for none in the source of a route (R155) and where a monitor slot,
a port's side without slots and a loop show none (their reset values). -/
def planPatches (p : Plan) : List Nat :=
  let sap (x : PlanSap) : List Nat :=
    slotPatches (x.patch.toNat % 2 ^ 14) (x.cfg.toNat / 2 ^ 16 % 64) x.maskIn.toNat ++
      slotPatches (x.patch.toNat / 2 ^ 16 % 2 ^ 14) (x.cfg.toNat / 2 ^ 16 % 64) x.maskOut.toNat
  (p.routes.flatMap fun r => r.1 :: orNone r.2) ++ (p.tiles.flatMap fun t => t.inputs ++ t.outputs) ++
    p.endpoints.map (·.1) ++ (p.monitors.flatMap fun m => orNone (m.cfg.toNat % 2 ^ 14)) ++
    (p.bridges.flatMap fun b => [b.src, b.dst]) ++ p.saps.flatMap sap ++ (p.loops.flatMap fun l => orNone l.inPatch) ++
    p.streams.map (·.patch) ++ p.groups.flatMap (·.2) ++ p.flowIn ++ p.flowOut ++ p.blocks.map (·.1)

/-- Every unit that the plan uses is present (R8). -/
def State.unitsPresent (s : State) (p : Plan) : Bool :=
  let ca := s.part = .ca
  (p.tiles.all fun t => t.tile < s.tileCount && t.units.all fun u => u.dests.all fun d => d.tile < s.tileCount) &&
  (p.bridges.all fun b => b.bridge < s.bridgeCount) && (p.saps.all fun x => x.port < s.sapCount) &&
  (match p.d2Source with | some n => n < s.sapCount | none => true) &&
  (p.flows.all fun c => c < 1024 && c % 512 < s.flowCount) && (p.macs.all fun n => n < s.macCount) &&
  (p.loops.all fun l => l.loop < s.loopCount) && (p.streams.all fun x => x.chan < s.dramCount) &&
  (p.monitors.all fun m => m.slot < (if ca then 4096 else 8192) && !(ca && m.cfg.getLsbD 31)) &&
  (p.buses.all fun b => b.bus < (if ca then 512 else 1024) && b.tile < s.tileCount &&
    b.base + b.count ≤ (if ca then 32768 else 65536)) &&
  (p.members.all fun m => m.entry < (if ca then 32768 else 65536) && m.tile < s.tileCount &&
    m.slot < (if ca then 4096 else 8192)) &&
  (planPatches p).all fun x => x < s.patchCount

/-- The block period lies in the span of R17: 20.83 µs to 666.67 µs, which is 4 samples at 192 kHz to 32 at 48 kHz. -/
def periodOk (x : PlanDomain) : Bool :=
  x.rate.toNat < 6 && planHz x ≤ 48000 * planB x && 3000 * planB x ≤ 2 * planHz x

/-- T × (100 - PCT) / 100 ≥ 1.0 µs. -/
def gapOk (pct b hz : Nat) : Bool := 100 * hz ≤ 1000000 * b * (100 - pct)

def State.fencePct (s : State) (d : Nat) : Nat := s.get Pg.fabric (FABRIC.DOM_CFG_FENCE_PCT d)

/-- A of a tile in a plan. -/
def State.planA (s : State) (p : Plan) (t d : Nat) : Int :=
  let r := planRate p d
  s.admissible t d r.1 r.2

/-- The first tile, in ascending order, whose declared HU exceeds its A. -/
def State.costFailure (s : State) (p : Plan) : Option AdmitFail :=
  (List.range 256).findSome? fun t =>
    match p.tiles.find? fun x => x.tile == t with
    | some x =>
      let r := planRate p x.domain
      if s.covers t x.domain r.1 r.2 x.cost then none else some ⟨Ad.cost, t, x.cost, (s.planA p t x.domain).toNat⟩
    | none => none

/-- The output channels of a tile belong to one relocatable unit or to its other work, never to two (R84). -/
def channelsOk (p : Plan) (x : PlanTile) : Bool :=
  let own := (x.units.filter (·.relocatable)).map (·.outs)
  let guests := p.tiles.flatMap fun y => y.units.flatMap fun u => (u.dests.filter fun d => d.tile == x.tile).map (·.outs)
  let other := (x.units.filter fun u => !u.relocatable).flatMap (·.outs)
  let reserved := (own ++ guests).flatMap id
  reserved.eraseDups.length == reserved.length && reserved.all fun j => !other.contains j

/-- SAP0.FCLK_CFG of a plan. -/
def planFclk (p : Plan) : Nat :=
  match p.saps.find? fun y => y.port == 0 with
  | some y => y.fclk.toNat
  | none => 0

/-- The slots that a frame format has (R380). -/
def slotsFit (fmt slots : Nat) : Bool :=
  if fmt ≤ 1 then slots = 2 else fmt = 2 && inRange 4 slots 32 && slots % 2 = 0

/-- A serial port of a plan (R380 to R385). -/
def sapOk (p : Plan) (x : PlanSap) : Bool :=
  let v := x.cfg.toNat
  let dom := v / 2 ^ 29 % 4
  let slotw := [16, 24, 32, 32].getD (v / 2 ^ 24 % 4) 32
  let fsync := v / 2 ^ 12 % 8
  let slots := v / 2 ^ 16 % 64
  slotsFit (v / 2 ^ 26 % 4) slots && slots * slotw * (planRate p dom).1 ≤ 49152000 &&
    !((v.testBit 28 || p.d2Source == some x.port) && v.testBit 31) && fsync ≤ 4 &&
    (fsync = 0 || planFclk p / 2 ^ (8 * (fsync - 1)) % 4 = dom)

/-- The D2 sources that a plan names, by CFG.D2_SRC or as its D2 source: no more than one (R383). -/
def planD2 (p : Plan) : List Nat :=
  (p.d2Source.toList ++ (p.saps.filter fun x => x.cfg.getLsbD 28).map (·.port)).eraseDups

/-- No audio block or buffer in a vault granule or a failed bank (R207, R476). -/
def State.bufferOk (s : State) (b : Nat × Nat) : Bool :=
  (pagesOf b).all fun page =>
    !s.flag Pg.girth GIRTH.BANK_STAT_FAILED (page % s.bankCount) &&
      (match s.granuleOf (page * 4096) with
      | some g => !s.vaultMap.getLsbD g
      | none => true)

/-- The checks that chapters other than chapter 3 give to PLAN_ADMIT. The bounds of WIN_HALF are given to no command
(DESIGN CHOICE, log 307). -/
def State.structureOk (s : State) (p : Plan) : Bool :=
  let news := p.tiles.map (·.tile)
  (p.tiles.all fun x => x.lead ≤ 3 && channelsOk p x) && ((s.oldSide p).all fun t => !news.contains t) &&
    (p.bridges.all fun b => b.srcDom ≠ b.dstDom) && p.saps.all (sapOk p) &&
    (planD2 p).length ≤ 1 && (planRanges p).all s.bufferOk

/-- The first failed check of R75, in its order. -/
def State.admitFailure (s : State) (p : Plan) : Option AdmitFail :=
  if !s.unitsPresent p then some (AdmitFail.of Ad.absent)
  else if !p.domains.all periodOk then some (AdmitFail.of Ad.period)
  else if !p.domains.all fun x => gapOk (s.fencePct x.dom) (planB x) (planHz x) then some (AdmitFail.of Ad.gap)
  else match s.costFailure p with
    | some f => some f
    | none => if s.structureOk p then none else some (AdmitFail.of Ad.structure)

/-- PLAN_STAT after a failed check: the reason, and the tile and figures of a cost failure. -/
def State.recordFailure (s : State) (f : AdmitFail) : State :=
  let s := s.set Pg.fabric FABRIC.PLAN_STAT_FAIL_CHECK f.reason
  if f.reason = Ad.cost then
    ((s.set Pg.fabric FABRIC.PLAN_STAT_FAIL_TILE f.tile).set Pg.fabric FABRIC.ADMIT_DECL_HU f.decl).set Pg.fabric
      FABRIC.ADMIT_LIMIT_HU f.limit
  else s

/-- The destination passes the relocation check of R75. -/
def State.destOk (s : State) (p : Plan) (x : PlanTile) (u : PlanUnit) (d : PlanDest) : Bool :=
  match p.tiles.find? fun y => y.tile == d.tile with
  | some y => y.domain == x.domain && s.covers d.tile x.domain (planRate p x.domain).1 (planRate p x.domain).2 (y.cost + u.hu)
  | none => false

/-- The plan without the destinations that fail. -/
def State.strike (s : State) (p : Plan) : Plan :=
  { p with tiles := p.tiles.map fun x =>
      { x with units := x.units.map fun u => { u with dests := u.dests.filter (s.destOk p x u) } } }

/-- The admission of a loaded slot: ADMITTED set, or cleared with the failure recorded (R76). -/
def State.admitPlan (s : State) (k : Nat) (p : Plan) : State × Option AdmitFail :=
  match s.admitFailure p with
  | some f => ((s.setAdmitted k false).recordFailure f, some f)
  | none => ((s.setSlot k (some (s.strike p))).setAdmitted k true, none)

/-! ### What a tile takes from a plan -/

/-- Every register at the plan's preset, 0 where the image holds none (R99); TST's sticky bits too (DESIGN CHOICE,
log 308). -/
def Tile.preset (x : Tile) (p : PlanTile) : Tile :=
  let y := { x with
    g := [], p := [], m := [], l := [], acc := [], clamp := 0, lc := [], ls := [], le := [], lrsd := [], ret := [],
    rsd := 0, ldepth := 0, fn := false, fz := false, fv := false, fc := false, sat := false, aov := false, pc := 0 }
  p.presets.foldl (fun y e => y.setDbgReg e.1 e.2) y

/-- Words of an image. -/
def imageWords (l : List (Nat × Word)) : SMap Nat Word := l.foldl (fun m e => nput 0 m e.1 e.2) []

/-- The plan's image in the tile's memories, its parameters in both banks (R110). -/
def Tile.load (x : Tile) (p : PlanTile) : Tile :=
  { x with
    imem := imageWords p.imem, x := imageWords p.xmem, y := imageWords p.ymem, bankA := imageWords p.params,
    bankB := imageWords p.params, rampLeft := 0, mirror := false, since := 0 }

/-- The windows and the entry that a plan gives a tile. -/
def State.setWindows (s : State) (p : PlanTile) : State :=
  let a := Pg.awl p.tile
  let s := (s.set a AWL.WIN_CFG_WIN_HALF p.winHalf).set a AWL.WIN_CH_NIN p.inputs.length
  (s.set a AWL.WIN_CH_NOUT p.outputs.length).set a AWL.ENTRY_ADDR p.entry.toNat

/-- The tile's registers of the AWL and FABRIC pages under a plan. -/
def State.configureTile (s : State) (p : PlanTile) : State := (s.setWindows p).setCost p.tile p.cost

/-- A tile's image is loaded into it. -/
def State.loadTile (s : State) (p : PlanTile) : State :=
  (s.setTile p.tile ((s.tile p.tile).load p)).set (Pg.awl p.tile) AWL.PSTAT_RAMP_BUSY 0

/-! ### The tick grid (R58, R170) -/

/-- Island cycles at tick k of a domain, counted from its epoch, moved by the pulls so far (R334): a cycle is
1,600,000 fs. -/
def State.tickCycle (s : State) (d k : Nat) : Nat :=
  let hz := s.domHz d
  (s.dom d).epoch + (((k * s.domB d * 10 ^ 15 : Nat) + (s.dom d).phase * hz) / (1600000 * hz : Nat)).toNat

/-- The first tick of a domain at or after an island cycle. -/
def State.tickAtOrAfter (s : State) (d cycle : Nat) : Nat :=
  let per : Int := s.domB d * 10 ^ 15
  let fs : Int := ((cycle - (s.dom d).epoch) * 1600000 : Nat) - (s.dom d).phase
  ((fs * s.domHz d + per - 1) / per).toNat

/-- The effect tick of a commit in a domain: the first tick at or after its time, and no tick already past (R170,
R172). -/
def State.effectTick (s : State) (d ns : Nat) : Nat := max ((s.dom d).count + 1) (s.tickAtOrAfter d (s.cycleAt ns))

/-- L = ceil(150 µs / T). -/
def silentBlocks (hz b : Nat) : Nat := (150 * hz + 1000000 * b - 1) / (1000000 * b)

end Sys2Proof.Machine
end

