-- ==== Sys2Proof/Machine/Time.lean ====
section
/-!
DEFINITION. Network time (chapter 12): the counters' steering, sets and steps, captures, and the PTP servo states.
-/

namespace Sys2Proof.Machine

/-! ### Counters -/

def State.counter (s : State) (n : Nat) : Counter := if n = 0 then s.time.c0 else s.time.c1

/-- A stretch of even counting begins. -/
def TimeUnit.mark (u : TimeUnit) (n now : Nat) (c : Counter) : TimeUnit :=
  if n = 0 then { u with past0 := ((now, c) :: u.past0).take 16 } else { u with past1 := ((now, c) :: u.past1).take 16 }

def State.setCounter (s : State) (n : Nat) (c : Counter) : State :=
  let u := s.time.mark n s.now c
  { s with time := if n = 0 then { u with c0 := c } else { u with c1 := c } }

/-- A counter that stands still. -/
def Counter.stopped (c : Counter) : Counter := { c with incNs := 0, incFrac := 0, slew := 0 }

/-- A set, step, slew or increment write on a disabled page is ignored (R323). -/
def State.timeWrite (s : State) (m : Master) (n : Nat) (f : State → State) : Outcome :=
  guardWf (n < 2) (.next (s.writeTo m Pg.time fun s =>
    if s.flag Pg.time PG.CTRL_EN then f s else s.event Pg.time 1))

/-- The increment in force, in units of 2^-32 ns a cycle. -/
def Counter.inc (c : Counter) : Nat := c.incNs * 2 ^ 32 + c.incFrac

/-- 1.5992 ns to 1.6008 ns (R310). -/
def incAllowed (inc : Nat) : Bool := 15992 * 2 ^ 32 ≤ 10000 * inc && 10000 * inc ≤ 16008 * 2 ^ 32

/-- The increments of a counter that began in the last 16 s, and the one before them. -/
def State.recentIncs (s : State) (n : Nat) : List (Nat × Nat) :=
  let l := nget [] s.time.incs n
  let kept := l.takeWhile fun e => s.now < e.1 + cyclesSec 16
  kept ++ (l.drop kept.length).take 1

/-- A counter takes an increment from now on. -/
def State.setInc (s : State) (n inc : Nat) : State :=
  let incs := (s.now, inc) :: s.recentIncs n
  let s := { s with time := { s.time with incs := nput [] s.time.incs n incs } }
  s.setCounter n { s.counter n with incNs := inc / 2 ^ 32, incFrac := inc % 2 ^ 32 }

/-- The increment of INC_NS and a new INC_FRAC applies, or both fields keep their previous values (R310). -/
def State.writeInc (s : State) (n : Nat) (v : Word) : State :=
  let ns := s.get Pg.time (TIME.C_INC_NS_NS n)
  let c := s.counter n
  if incAllowed (ns * 2 ^ 32 + v.toNat) then
    (s.set Pg.time (TIME.C_INC_FRAC_FRAC n) v.toNat).setInc n (ns * 2 ^ 32 + v.toNat)
  else
    ((s.set Pg.time (TIME.C_INC_NS_NS n) c.incNs).set Pg.time (TIME.C_INC_FRAC_FRAC n) c.incFrac).event Pg.time 2

/-- INC_FRAC_WRITE (R310). -/
def execIncFracWrite (m : Master) (n : Nat) (v : Word) (s : State) : Outcome :=
  s.timeWrite m n fun s => s.writeInc n v

/-- round(RATE × 6,871.95), half up (R311, log 17). -/
def slewStepOf (rate : Nat) : Nat := (rate * 687195 + 50) / 100

/-- A slew of an amount in ns at the present rate starts, or replaces the one that runs (R311). -/
def State.startSlew (s : State) (n : Nat) (amount : Int) : State :=
  let step := slewStepOf (s.get Pg.time (TIME.C_SLEW_CFG_RATE n))
  (s.setCounter n { s.counter n with slew := amount * 2 ^ 32, slewStep := step }).setFlag
    Pg.time (TIME.C_STAT_SLEWING n) (amount ≠ 0)

/-- SLEW_NS_WRITE (R311). -/
def execSlewNsWrite (m : Master) (n : Nat) (v : Word) (s : State) : Outcome :=
  s.timeWrite m n fun s => s.startSlew n v.toInt

/-- Cycles that a slew still takes. -/
def Counter.slewCycles (c : Counter) : Nat :=
  if c.slewStep = 0 then 0 else (c.slew.natAbs + c.slewStep - 1) / c.slewStep

/-- SLEW_DONE (R311): the last cycle has added what remained. -/
def execSlewDone (n : Nat) (s : State) : Outcome :=
  guardWf (n < 2) (.next (whenHolds (s.flag Pg.time (TIME.C_STAT_SLEWING n)) s fun s =>
    let s := s.reach (s.now + (s.counter n).slewCycles)
    ((s.setCounter n { s.counter n with slew := 0 }).set Pg.time (TIME.C_STAT_SLEWING n) 0).event Pg.time 3))

/-- Commits whose time a step forward passes are LATE (R172): they have not begun, and their time lies after the count
before the step and not after the count now. One whose time a step back restores waits for it. -/
def State.passCommits (s : State) (before : Nat) : State :=
  let pass (e : Nat × Commit) : Nat × Commit :=
    let at_ := e.2.sec * nsPerSec + e.2.ns
    if e.2.begun then e else (e.1, { e.2 with late := (e.2.late || before < at_) && at_ ≤ s.nanos0 })
  { s with mix := { s.mix with commits := s.mix.commits.map pass } }

/-- A set or step has taken effect: any slew ends, EPOCH counts, TIME_STEPPED is held (R312), EPOCH_ALIGNED clears
(R334). -/
def State.stepped (s : State) (n : Nat) (c : Counter) : State :=
  let p := Pg.time
  let before := s.nanos0
  let s := (s.setCounter n { c with slew := 0 }).set p (TIME.C_STAT_SLEWING n) 0
  let s := s.set p (TIME.C_STAT_EPOCH n) (s.get p (TIME.C_STAT_EPOCH n) + 1)
  let s := if n = 0 then (s.lifeAdd p 0).set Pg.rein REIN.SEL_STAT_EPOCH_ALIGNED 0 |>.passCommits before else s
  (s.event p 0).raise Src.stepped n

/-- SET_GO (R312): a write of Cn_SET_NS; with GO the time of SET_SEC and NS is loaded, with FRAC 0. -/
def State.setTime (s : State) (n : Nat) (v : Word) : State :=
  let p := Pg.time
  let ns := (TIME.C_SET_NS_NS n).of v
  let s := s.set p (TIME.C_SET_NS_NS n) ns
  if (TIME.C_SET_NS_GO n).of v = 1 then
    if nsPerSec ≤ ns then s.event p 1
    else
      let sec := s.get p (TIME.C_SET_SEC_HI_SEC n) * 2 ^ 32 + s.get p (TIME.C_SET_SEC_LO_SEC n)
      s.stepped n { s.counter n with sec := sec, ns := ns, frac := 0 }
  else s

def execSetGo (m : Master) (n : Nat) (v : Word) (s : State) : Outcome :=
  s.timeWrite m n fun s => s.setTime n v

/-- A signed step, refused where it would take the time below 0:0 (R312). -/
def State.stepTime (s : State) (n : Nat) (d : Int) : State :=
  let c := s.counter n
  let t := (c.units : Int) + d * 2 ^ 32
  if t < 0 then s.event Pg.time 1 else s.stepped n (c.ofUnits t.toNat)

/-- STEP_WRITE (R312). -/
def execStepWrite (m : Master) (n : Nat) (v : Word) (s : State) : Outcome :=
  s.timeWrite m n fun s => s.stepTime n v.toInt

/-- NS is returned and SEC captured for the requester (R308). -/
def State.readNs (s : State) (m : Master) (n : Nat) : State × Word :=
  let c := s.counter n
  let holds := (m, n, c.sec) :: s.time.holds.filter fun h => !(h.1 = m && h.2.1 = n)
  ({ s with time := { s.time with holds := holds } }, BitVec.ofNat 32 c.ns)

/-- CN_NS_READ (R308). -/
def execCnNsRead (m : Master) (n : Nat) (s : State) : Outcome :=
  guardWf (n < 2) (.next (s.readFrom Pg.time fun s => s.readNs m n))

/-- Both counters captured in one cycle (R309). -/
def State.capture (s : State) : State :=
  let p := Pg.time
  let s := s.each [0, 1] fun s n =>
    let c := s.counter n
    ((s.set p (TIME.CAP_NS_NS n) c.ns).set p (TIME.CAP_SEC_LO_SEC n) c.sec).set p (TIME.CAP_SEC_HI_SEC n) (c.sec / 2 ^ 32)
  s.set p TIME.CAPTURE_DONE 1

/-- CAPTURE (R309). -/
def execCapture (m : Master) (s : State) : Outcome :=
  .next (s.writeTo m Pg.time State.capture)

/-- Firmware runs (BOOT_STAT.FW_STATE is RUN). -/
def State.fwRunning (s : State) : Bool := s.get Pg.host HOST.BOOT_STAT_FW_STATE == 2

/-- MON_UPDATE (R322): each second, TIME1 - TIME0 of a capture pair. -/
def execMonUpdate (s : State) : Outcome :=
  .next (whenHolds s.fwRunning s fun s =>
    let s := s.capture
    let d := (s.time.c1.nanos : Int) - s.time.c0.nanos
    (s.set Pg.time TIME.MON_DIFF_NS (unsigned 32 (clampSym 32 d))).event Pg.time 6)

/-! ### The PTP instances (R320) -/

def Servo.disabled : Nat := 0
def Servo.listening : Nat := 1
def Servo.acquiring : Nat := 2
def Servo.locked : Nat := 3
def Servo.holdover : Nat := 4
def Servo.grandmaster : Nat := 5

def State.ptp (s : State) (n : Nat) : Ptp := if n = 0 then s.time.ptp0 else s.time.ptp1

def State.setPtp (s : State) (n : Nat) (p : Ptp) : State :=
  { s with time := if n = 0 then { s.time with ptp0 := p } else { s.time with ptp1 := p } }

def State.servo (s : State) (n : Nat) : Nat := s.get Pg.time (TIME.PTP_STAT_STATE n)

/-- The profile word of an instance (R317). -/
def State.profile (s : State) (n : Nat) : Word := BitVec.ofNat 32 (s.get Pg.time (TIME.PTP_CFG_PROFILE_WORD n))

def gmCapable (w : Word) : Bool := w.getLsbD 5
def stepOk (w : Word) : Bool := w.getLsbD 14

/-- PTP_UNLOCKED: the TIME0 instance in ACQUIRING or HOLDOVER after it has once been LOCKED (R413). -/
def State.ptpSource (s : State) : State :=
  s.setSource Src.ptpUnlocked 0
    (s.time.ptp0.everLocked && (s.servo 0 == Servo.acquiring || s.servo 0 == Servo.holdover))

/-- The mean increment of a counter over the last 16 s, or since reset, weighted by time (R320). Before the first write the
reset increment ran. -/
def State.meanInc (s : State) (n : Nat) : Nat :=
  let from_ := s.now - cyclesSec 16
  let r := (s.recentIncs n ++ [(0, Counter.reset.inc)]).foldl (fun (acc : Nat × Nat) (e : Nat × Nat) =>
    let start := max e.1 from_
    (acc.1 + e.2 * (acc.2 - start), min acc.2 start)) (0, s.now)
  if s.now = from_ then (s.counter n).inc else (exactDiv (r.1 : Int) (s.now - from_)).toNat

/-- Firmware moves a counter: on a disabled page its write is ignored as any other (R323). -/
def State.fwMoves (s : State) (f : State → State) : State := if s.flag Pg.time PG.CTRL_EN then f s else s.event Pg.time 1

/-- Firmware writes an increment, INC_NS before INC_FRAC. -/
def State.fwInc (s : State) (n inc : Nat) : State :=
  s.fwMoves fun s => (s.set Pg.time (TIME.C_INC_NS_NS n) (inc / 2 ^ 32)).writeInc n (BitVec.ofNat 32 inc)

/-- A change of STATE: its event, LOCKED remembered, HOLDOVER freezes the increment at its mean. -/
def State.setServo (s : State) (n st : Nat) : State :=
  if s.servo n = st then s
  else
    let s := (s.set Pg.time (TIME.PTP_STAT_STATE n) st).event Pg.time (4 + n)
    let p := s.ptp n
    let s := s.setPtp n { p with good := 0, bad := 0, everLocked := p.everLocked || st == Servo.locked }
    let s := if st = Servo.holdover then
        let s := s.fwInc n (s.meanInc n)
        if n = 0 then s.lifeAdd Pg.time 1 else s
      else s
    s.ptpSource

/-- The offset of a Sync counts towards LOCKED or out of it (R320). -/
def State.countOffset (s : State) (n : Nat) (off : Int) : State :=
  let p := s.ptp n
  let good := if off.natAbs ≤ 1000 then p.good + 1 else 0
  let bad := if 10000 < off.natAbs then p.bad + 1 else 0
  let s := s.setPtp n { p with good := good, bad := bad }
  if s.servo n = Servo.acquiring && 16 ≤ good then s.setServo n Servo.locked
  else if s.servo n = Servo.locked && 16 ≤ bad then s.setServo n Servo.acquiring
  else s

/-- The servo may step: in ACQUIRING, beyond 100 µs, before the first LOCKED or with STEP_OK (R320). -/
def State.servoSteps (s : State) (n : Nat) (off : Int) : Bool :=
  s.servo n == Servo.acquiring && 100000 < off.natAbs && (!(s.ptp n).everLocked || stepOk (s.profile n))

/-- Firmware's increment and slew. -/
def State.steer (s : State) (n : Nat) (incFrac : Word) (slew : Int) : State :=
  let s := s.writeInc n incFrac
  if slew = 0 then s else s.startSlew n slew

/-- The capture pair that firmware takes every 10 ms while a port serves both instances: it converts that port's TIME0 stamps
for the TIME1 instance (R319). The model takes it with the Sync whose stamps need it (log 344). -/
def State.capturePair (s : State) : State :=
  let shared := s.get Pg.time (TIME.PTP_PORT_PORTS 0) &&& s.get Pg.time (TIME.PTP_PORT_PORTS 1) ≠ 0
  if shared && s.time.pairAt + cyclesMs 10 ≤ s.now then
    let s := s.capture
    { s with time := { s.time with pairAt := s.now } }
  else s

/-- The class and UTC offset that an instance shows. -/
def State.showMaster (s : State) (n : Nat) (cls : Nat) (utc : Nat) : State :=
  (s.set Pg.time (TIME.PTP_STAT_CLASS n) cls).set Pg.time (TIME.PTP_STAT_UTC_OFFSET n) utc


/-- A profile starts on a counter's instance, in LISTENING with nothing learned, or the instance stops (R318, R320). -/
def State.startPtp (s : State) (n : Nat) (word : Word) (dom mask : Nat) : State :=
  let p := Pg.time
  let s := s.set p (TIME.PTP_CFG_PROFILE_WORD n) word.toNat
  let s := (s.set p (TIME.PTP_PORT_PORTS n) mask).set p (TIME.PTP_PORT_DOMAIN n) dom
  let s := (s.setPtp n Ptp.reset).showMaster n 0xFF 0
  let s := s.set p (TIME.PTP_OFFSET_NS n) 0
  let st := if word.toNat % 16 = 0 then Servo.disabled else Servo.listening
  (s.setServo n st).ptpSource

/-- The TIME unit as its page is disabled (R323): slews end, TIME1 stops with EN. -/
def State.timeDrained (s : State) : State :=
  let s := s.each [0, 1] fun s n =>
    (s.setCounter n { s.counter n with slew := 0 }).set Pg.time (TIME.C_STAT_SLEWING n) 0
  ({ s with time := s.time.mark 1 s.now s.time.c1.stopped }).set Pg.time (TIME.C_STAT_RUNNING 1) 0

/-- EN is set: TIME1 counts. -/
def State.timeEnabled (s : State) : State :=
  ({ s with time := s.time.mark 1 s.now s.time.c1 }).set Pg.time (TIME.C_STAT_RUNNING 1) 1

/-- SRST sets TIME1 to 0:0 with the reset increment and forgets the captured seconds; TIME0 counts on (R323). -/
def State.timeReset (s : State) : State :=
  let c0 := { s.time.c0 with slew := 0 }
  let u := (s.time.mark 0 s.now c0).mark 1 s.now Counter.reset.stopped
  { s with time := { u with
      c0 := c0, c1 := Counter.reset, ptp0 := Ptp.reset, ptp1 := Ptp.reset, holds := [],
      incs := nput [] u.incs 1 [(s.now, Counter.reset.inc)] } }

end Sys2Proof.Machine
end

