-- ==== Sys2Proof/Machine/ReinOps.lean ====
section
/-!
DEFINITION. What the Rein's commands share (chapter 13): reference slots, their qualification and quality, selection,
the states of the DPLLs, disagreements, the pull onto the epoch grid.
-/

namespace Sys2Proof.Machine

/-- A change of the Rein's own state. -/
def State.onRein (s : State) (f : Rein → Rein) : State := { s with rein := f s.rein }

def State.ref (s : State) (i : Nat) : RefSlot := nget RefSlot.reset s.rein.slots i
def State.onRef (s : State) (i : Nat) (f : RefSlot → RefSlot) : State :=
  s.onRein fun r => { r with slots := nput RefSlot.reset r.slots i (f (s.ref i)) }

def State.dpll (s : State) (k : Nat) : Dpll := nget Dpll.reset s.rein.dplls k
def State.onDpll (s : State) (k : Nat) (f : Dpll → Dpll) : State :=
  s.onRein fun r => { r with dplls := nput Dpll.reset r.dplls k (f (s.dpll k)) }

/-- The eight slots. -/
def refSlots : List Nat := List.range 8

def State.reinEnabled (s : State) : Bool := s.enabled Pg.rein

/-! ### What a slot is declared as (R325, R326) -/

/-- REF_STAT.STATE. -/
def Rs.undeclared : Nat := 0
def Rs.qualifying : Nat := 1
def Rs.qualified : Nat := 2
def Rs.disqualified : Nat := 3
def Rs.latched : Nat := 4

/-- REF_STAT.CAUSE. -/
def Rc.stop : Nat := 1
def Rc.glitch : Nat := 2
def Rc.rateChange : Nat := 3
def Rc.driftHard : Nat := 4
def Rc.xoWide : Nat := 5
def Rc.ptpState : Nat := 6

def State.refState (s : State) (i : Nat) : Nat := s.get Pg.rein REIN.REF_STAT_STATE i
def State.refWord (s : State) (i : Nat) : Nat := s.get Pg.rein REIN.REF_CFG_TYPE_WORD i
def refType (w : Nat) : Nat := w % 16
def refSource (w : Nat) : Nat := w / 16 % 8
def refNominal (w : Nat) : Nat := w / 256 % 2 ^ 20
def refDiv (w : Nat) : Bool := w.testBit 30
def State.refKind (s : State) (i : Nat) : Nat := refType (s.refWord i)

def State.refRank (s : State) (i : Nat) : Nat := s.get Pg.rein REIN.REF_QL_RANK i
def State.refFreq (s : State) (i : Nat) : Int := signed 32 (s.get Pg.rein REIN.REF_FREQ_PPB i)
def State.refMed (s : State) (i : Nat) : Int := signed 32 (s.get Pg.rein REIN.REF_MED_PPB i)

/-- A reference on REF0 to REF3, and a pulse-type reference. -/
def pinType (t : Nat) : Bool := 1 ≤ t && t ≤ 4
def pulseType (t : Nat) : Bool := 3 ≤ t && t ≤ 5

/-- The nominal frequency of a type word in Hz, as numerator and denominator. -/
def refHz (w : Nat) : Nat × Nat :=
  match refType w with
  | 1 => (refNominal w, 1)
  | 2 => (10000000, 1)
  | 3 => (1, 1)
  | 4 => if refDiv w then (refNominal w * 1000, 1001) else (refNominal w, 1)
  | 6 => (156250000, 1)
  | _ => (1, 1)

/-- The source a declaration binds: its kind (pin, TIME0 or lane) and number. -/
def boundSource (w : Nat) : Nat × Nat := (if pinType (refType w) then 1 else refType w, refSource w)

/-- Its source gives edges or a clock (R335). -/
def State.refPresent (s : State) (i : Nat) : Bool :=
  match s.refKind i with
  | 5 => s.servo 0 == Servo.locked
  | 6 => s.rxLocked (refSource (s.refWord i))
  | _ => (s.ref i).present

def State.isQualified (s : State) (i : Nat) : Bool := s.refState i == Rs.qualified

/-! ### Quality levels (R327) -/

/-- QL of an SSM code, option I. -/
def ssmQl (c : Nat) : Nat := if c = 2 then 2 else if c = 4 then 4 else if c = 8 then 6 else if c = 11 then 10 else 15

/-- QL of a clockClass and clockAccuracy. -/
def classQl (cls accuracy : Nat) : Nat :=
  let q := if cls = 6 then 1 else if cls = 7 then 3 else if cls = 13 then 5 else if cls = 14 then 7
    else if cls = 52 || cls = 58 then 9 else if cls = 187 || cls = 193 then 11 else if cls = 248 then 12 else 15
  if q < 15 && 0x27 < accuracy then min (q + 1) 14 else q

/-- The clockClass of PTP_STAT0, which RAW of a PTP slot shows. -/
def State.ptpClass (s : State) : Nat := s.get Pg.time (TIME.PTP_STAT_CLASS 0)

/-- The effective quality level: of a PTP slot what PTP_STAT0 and the master's accuracy give at any moment. -/
def State.refQl (s : State) (i : Nat) : Nat :=
  if s.refKind i = 5 then classQl s.ptpClass s.time.ptp0.accuracy.toNat else s.get Pg.rein REIN.REF_QL_QL i

/-- usable() of R329. -/
def State.usable (s : State) (i : Nat) : Bool := s.isQualified i && s.refQl i < 15

/-- REF_QL of a pin or SyncE slot as its source stands now. -/
def State.refreshQl (s : State) (i : Nat) : State :=
  let p := Pg.rein
  match s.refKind i with
  | 0 => s
  | 5 => s
  | 6 =>
    match SMap.find? s.rein.ssm (refSource (s.refWord i)) with
    | some c => (s.set p REIN.REF_QL_RAW c.1.toNat i).set p REIN.REF_QL_QL (ssmQl c.1.toNat) i
    | none => s.set p REIN.REF_QL_QL 15 i
  | _ => s.set p REIN.REF_QL_QL (s.get p REIN.REF_QL_HOST_QL i) i

/-! ### DPLL states (R332, R341, R345) -/

def Ds.free : Nat := 0
def Ds.acquire : Nat := 1
def Ds.locked : Nat := 2
def Ds.holdover : Nat := 3
def Ds.expired : Nat := 4

/-- DPLL1_CFG.SOURCE is OWN. -/
def State.ownD1 (s : State) : Bool := s.get Pg.rein REIN.DPLL1_CFG_SOURCE == 2

def State.dpllState (s : State) (k : Nat) : Nat :=
  if k = 0 then s.get Pg.rein REIN.SEL_STAT_STATE
  else if k = 1 then s.get Pg.rein REIN.DPLL1_STAT_STATE
  else s.get Pg.rein REIN.DPLL2_STAT_STATE

def holding (st : Nat) : Bool := st == Ds.holdover || st == Ds.expired

/-- REIN_HOLD and REIN_HOLD_EXPIRED (R340). -/
def State.holdSources (s : State) : State :=
  s.each [0, 1] fun s k =>
    let own := k == 0 || s.ownD1
    (s.setSource Src.reinHold k (own && holding (s.dpllState k))).setSource Src.holdExpired k
      (own && s.dpllState k == Ds.expired)

/-- A DPLL's state register and the event of a change. -/
def State.putDpll (s : State) (k st : Nat) : State :=
  if s.dpllState k = st then s
  else if k = 0 then
    ((s.set Pg.rein REIN.SEL_STAT_STATE st).onRein fun r => { r with pins := BitVec.ofNat 3 st }).event Pg.rein 0
  else if k = 1 then (s.set Pg.rein REIN.DPLL1_STAT_STATE st).event Pg.rein 11
  else (s.set Pg.rein REIN.DPLL2_STAT_STATE st).event Pg.rein 12

/-- A change of state; a FOLLOW setting shares that of DPLL0 (R341). -/
def State.setDpll (s : State) (k st : Nat) : State :=
  let s := s.putDpll k st
  let s := if k = 0 && !s.ownD1 then s.putDpll 1 st else s
  s.holdSources

/-! ### Output frequency (R331, R333) -/

/-- The loop bandwidth of a BW code, in mHz. -/
def bwMilliHz (code : Nat) : Nat := ([100, 200, 500, 1000, 2000, 5000, 10000, 20000, 50000, 100000][code]?).getD 1000

/-- The bandwidth in effect of a DPLL on a slot, in mHz: the lower of BW and a twentieth of the phase update rate, and not
below 0.1 Hz (R331). -/
def State.bandwidth (s : State) (k i : Nat) : Nat :=
  let hz := refHz (s.refWord i)
  let code := if k = 1 && s.ownD1 then s.get Pg.rein REIN.DPLL1_CFG_BW else s.get Pg.rein REIN.DPLL0_CFG_BW
  max 100 (min (bwMilliHz code) (50 * hz.1 / hz.2))

/-- Island cycles of a move by a number of ppb at a rate. -/
def slewCycles (ppb slew : Nat) : Nat := (ppb * 625000000 + slew - 1) / slew

/-- The frequency at an island cycle of the stretch. -/
def FreqSeg.freqAt (g : FreqSeg) (cycle : Nat) : Int :=
  let moved : Nat := min (g.slew * (cycle - g.at_) / 625000000) (g.to_ - g.from_).natAbs
  if g.from_ ≤ g.to_ then g.from_ + moved else g.from_ - moved

/-- Twice the sum of the frequency over the island cycles of a part of the stretch. -/
def FreqSeg.area (g : FreqSeg) (from_ till : Nat) : Int :=
  let turn := min till (max from_ (g.at_ + slewCycles (g.to_ - g.from_).natAbs g.slew))
  (g.freqAt from_ + g.freqAt turn) * ((turn - from_ : Nat) : Int) + 2 * g.to_ * ((till - turn : Nat) : Int)

/-- The mean of the output frequency (stretches newest first) from one island cycle to another. -/
def meanFreq (from_ till : Nat) (l : List FreqSeg) : Int :=
  let r := l.foldl (fun (acc : Int × Nat) g =>
    let start := max g.at_ from_
    if start < acc.2 then (acc.1 + g.area start acc.2, start) else acc) (0, till)
  exactDiv r.1 (2 * (till - from_))

/-- A new stretch of a DPLL's output frequency, with those that the windows of R333 and R388 still reach. -/
def State.moveFreq (s : State) (k : Nat) (from_ to_ : Int) (slew : Nat) : State :=
  s.onDpll k fun x =>
    let kept := x.freqs.takeWhile fun g => s.now < g.at_ + cyclesSec 20
    { x with freqs := ⟨s.now, from_, to_, slew⟩ :: kept ++ (x.freqs.drop kept.length).take 1 }

/-- An output frequency stands from now on. -/
def State.noteFreq (s : State) (k : Nat) (ppb : Int) : State := s.moveFreq k ppb ppb 1

/-- A DPLL's output frequency against nominal, in ppb: 0 until a reference or a holdover has given one. -/
def State.outFreq (s : State) (k : Nat) : Int :=
  match (s.dpll k).freqs with
  | [] => 0
  | g :: _ => g.freqAt s.now

/-- DPLL0_CFG.SLEW in ppb a second. -/
def State.slewLimit (s : State) : Nat := 100 * s.get Pg.rein REIN.DPLL0_CFG_SLEW

/-- The output moves to the frequency of the reference followed, from where it is, at the slew limit (R331): to within 0.01
ppm of its mean, by a free amount (log 206). A `fresh` reference has not been near yet. -/
def State.aim (s : State) (k : Nat) (fresh : Bool) : State :=
  match (s.dpll k).follows with
  | some i =>
    let (e, t) := s.freeErr 9
    let cur := s.outFreq k
    let off := (cur - s.refFreq i).natAbs
    let near := s.now + slewCycles (off - 9) s.slewLimit
    (t.moveFreq k cur (s.refFreq i + e) s.slewLimit).onDpll k fun x =>
      { x with nearAt := if !fresh && off ≤ 9 && x.nearAt ≤ s.now then x.nearAt else near }
  | none => s

/-- The window of R333 at a loss now of a reference of period num / den s: its end, and the LOCKED history it holds. -/
def State.holdWindow (s : State) (k : Nat) (hz : Nat × Nat) : Nat × Nat :=
  let end_ := s.now - cyclesSec 1 - 2 * 625000000 * hz.2 / hz.1
  (end_, max (end_ - cyclesSec 16) (s.dpll k).lockedAt)

/-- The holdover frequency (R333), and whether 16 s of LOCKED history stood behind it. With less than 1 s, as in ACQUIRE, it
is the last output frequency. -/
def State.holdFreq (s : State) (k : Nat) (slot : Option Nat) : Int × Bool :=
  let hz := match slot with | some i => refHz (s.refWord i) | none => (1, 1)
  let w := s.holdWindow k hz
  if s.dpllState k ≠ Ds.locked || w.1 - w.2 < cyclesSec 1 then (s.outFreq k, false)
  else (meanFreq w.2 w.1 (s.dpll k).freqs, cyclesSec 16 ≤ w.1 - w.2)

/-- The switch in progress ends (R331). -/
def State.endSwitch (s : State) : State :=
  if s.flag Pg.rein REIN.SEL_STAT_SWITCHING then (s.set Pg.rein REIN.SEL_STAT_SWITCHING 0).event Pg.rein 2 else s

/-- EPOCH_ALIGNED clears (R334). -/
def State.dropEpoch (s : State) : State := s.set Pg.rein REIN.SEL_STAT_EPOCH_ALIGNED 0

/-- DPLL0 follows nothing. -/
def State.unselect (s : State) : State :=
  let s := (s.set Pg.rein REIN.SEL_STAT_SEL_VALID 0).set Pg.rein REIN.SEL_STAT_SELECTED 0
  s.dropEpoch.onRein fun r => { r with pulling := false }

/-- enter_holdover_or_free() (R329, R332, R333): a DPLL that follows a reference loses it. The output stays within
0.01 ppm of the holdover frequency, by a free amount (log 206); `asIs` keeps the present frequency. -/
def State.enterHold (s : State) (k : Nat) (asIs : Bool := false) : State :=
  let st := s.dpllState k
  let slot := (s.dpll k).follows
  if st = Ds.locked || st = Ds.acquire then
    let toFree := st == Ds.acquire && (s.dpll k).fromFree
    let (f, valid) := if asIs then (s.outFreq k, false) else s.holdFreq k slot
    let (e, t) := s.freeErr 10
    let s := if toFree then s.noteFreq k 0 else t.noteFreq k (f + e)
    let s := s.onDpll k fun x => { x with follows := none, holdAt := s.now }
    let s := if k = 0 then s.unselect.endSwitch else s
    if toFree then s.setDpll k Ds.free
    else
      let s := if k = 0 then s.setFlag Pg.rein REIN.SEL_STAT_HOLD_VALID valid else s
      let s := (s.count Pg.rein REIN.HOLD_ENTRIES).lifeAdd Pg.rein 1
      (s.event Pg.rein 6).setDpll k Ds.holdover
  else s

/-- A DPLL takes a reference hitlessly (R331, R332). The first selection from FREE is no switch. -/
def State.switchTo (s : State) (k i : Nat) : State :=
  let st := s.dpllState k
  let s := s.onDpll k fun x => { x with follows := some i, fromFree := st == Ds.free || (st == Ds.acquire && x.fromFree) }
  let s := if k = 0 then
      let s := (s.set Pg.rein REIN.SEL_STAT_SEL_VALID 1).set Pg.rein REIN.SEL_STAT_SELECTED i
      if s.refKind i = 5 then s else s.dropEpoch
    else s
  let s := if st = Ds.free then (if k = 0 then s.onRein fun r => { r with pickAt := s.now } else s)
    else
      let s := if k = 0 then (s.set Pg.rein REIN.SEL_STAT_SWITCHING 1).set Pg.rein REIN.SEL_STAT_START_PICK 0 else s
      ((s.count Pg.rein REIN.SWITCHES).lifeAdd Pg.rein 0).event Pg.rein 1
  let s := s.aim k true
  if st = Ds.acquire || st = Ds.locked then s else s.setDpll k Ds.acquire

/-! ### Qualification (R328) -/

/-- The 1 s in which glitches count (R336). -/
def recentGlitches (now : Nat) (l : List Nat) : List Nat := l.filter fun t => now < t + cyclesSec 1

/-- The other qualified slots. -/
def State.otherQualified (s : State) (i : Nat) : List Nat := refSlots.filter fun j => j != i && s.isQualified j

def State.sameWeight (s : State) (i j : Nat) : Bool := s.refQl i == s.refQl j && s.refRank i == s.refRank j

/-- R339 compares the slot: another is qualified, and not only one of the same QL and rank. -/
def State.compared (s : State) (i : Nat) : Bool :=
  match s.otherQualified i with
  | [] => false
  | [j] => !s.sameWeight i j
  | _ => true

/-- The cause of a disqualification by R339 still stands: the slot lies beyond HARD of the others. -/
def State.driftStands (s : State) (i : Nat) : Bool :=
  s.get Pg.rein REIN.REF_STAT_CAUSE i == Rc.driftHard && s.compared i &&
    100 * s.get Pg.rein REIN.CHECK_CFG_HARD < (s.refMed i).natAbs

/-- What must hold without a break (R328), but for the count of pulses. -/
def State.refConditions (s : State) (i : Nat) : Bool :=
  s.refPresent i && (s.refFreq i).natAbs ≤ 100 * s.get Pg.rein REIN.CHECK_CFG_XO_WIDE &&
    (recentGlitches s.now (s.ref i).glitches).length ≤ 2 && !s.driftStands i

/-- A slot starts qualifying as soon as the cause has gone; a timer that runs starts again where a condition does not
hold. After a glitch the clean time counts from the last one (log 201). -/
def State.requalify (s : State) (i : Nat) : State :=
  if s.refState i = Rs.disqualified && s.refConditions i then
    let glitch := s.get Pg.rein REIN.REF_STAT_CAUSE i == Rc.glitch
    (s.set Pg.rein REIN.REF_STAT_STATE Rs.qualifying i).onRef i fun x =>
      { x with sinceAt := if glitch then x.sinceAt else s.now, pulses := 0 }
  else if s.refState i = Rs.qualifying && !s.refConditions i then s.onRef i fun x => { x with sinceAt := s.now, pulses := 0 }
  else s

/-- Seconds left in qualification. -/
def State.qualLeft (s : State) (i : Nat) : Nat :=
  if s.refState i = Rs.qualifying then
    s.get Pg.rein REIN.CHECK_TIME_QUAL_S - (s.now - (s.ref i).sinceAt) / cyclesSec 1
  else 0

/-- A slot leaves the pairs that it is in: REIN_DISAGREE with the lower slot as its instance. -/
def State.dropDisputes (s : State) (gone : Dispute → Bool) : State :=
  let old := s.rein.disputes
  let s := s.onRein fun r => { r with disputes := r.disputes.filter fun d => !gone d }
  s.each (old.filter gone) fun s d => if s.rein.disputes.any (·.a == d.a) then s else s.lower Src.disagree d.a

/-- A slot is disqualified with a cause, in a state of DISQUALIFIED or LATCHED. -/
def State.disqualify (s : State) (i cause st : Nat) : State :=
  let p := Pg.rein
  let s := ((s.set p REIN.REF_STAT_STATE st i).set p REIN.REF_STAT_CAUSE cause i).set p REIN.REF_STAT_WTR 0 i
  let s := s.onRef i fun x => { x with sinceAt := s.now, pulses := 0, softAt := none, softOut := false }
  let s := ((s.count p REIN.DISQUALS).lifeAdd p 3).event p 3
  s.dropDisputes fun d => d.a == i || d.b == i

/-- A slot in QUALIFYING or QUALIFIED. -/
def State.refLive (s : State) (i : Nat) : Bool := s.refState i == Rs.qualifying || s.isQualified i

/-! ### Medians and disagreement (R338, R339) -/

/-- The median; of an even number, the middle pair's mean (log 4). -/
def median (l : List Int) : Int :=
  let v := l.mergeSort
  let n := v.length
  if n % 2 = 1 then v.getD (n / 2) 0 else exactDiv (v.getD (n / 2 - 1) 0 + v.getD (n / 2) 0) 2

/-- REF_MED of every declared slot. -/
def State.showMedians (s : State) : State :=
  s.each refSlots fun s i =>
    let l := s.otherQualified i
    let v := if s.refState i = Rs.undeclared || l.isEmpty then 0 else s.refFreq i - median (l.map s.refFreq)
    s.set Pg.rein REIN.REF_MED_PPB (unsigned 32 v) i

/-- Two qualified slots of equal QL and rank differ by more than AGREE. -/
def State.disagreeing (s : State) (i j : Nat) : Bool :=
  s.isQualified i && s.isQualified j && s.sameWeight i j &&
    100 * s.get Pg.rein REIN.CHECK_CFG_AGREE < (s.refFreq i - s.refFreq j).natAbs

/-- Slots beyond the XO wide check, and beyond HARD and SOFT of the others' median. -/
def State.beyondXo (s : State) (i : Nat) : Bool :=
  s.isQualified i && 100 * s.get Pg.rein REIN.CHECK_CFG_XO_WIDE < (s.refFreq i).natAbs
def State.beyondHard (s : State) (i : Nat) : Bool :=
  s.isQualified i && s.compared i && 100 * s.get Pg.rein REIN.CHECK_CFG_HARD < (s.refMed i).natAbs
def State.beyondSoft (s : State) (i : Nat) : Bool :=
  s.isQualified i && s.compared i && 100 * s.get Pg.rein REIN.CHECK_CFG_SOFT < (s.refMed i).natAbs

/-- Pairs of slots, the lower first. -/
def refPairs : List (Nat × Nat) :=
  refSlots.flatMap fun i => (refSlots.filter fun j => i < j).map fun j => (i, j)

/-- Pairs that begin to disagree, agree again, and have agreed for 10 s. -/
def State.updateDisputes (s : State) : State :=
  let look : Dispute → Dispute := fun d =>
    if s.disagreeing d.a d.b then { d with agreed := none } else { d with agreed := some (d.agreed.getD s.now) }
  let s := s.onRein fun r => { r with disputes := r.disputes.map look }
  let s := s.dropDisputes fun d => match d.agreed with
    | some t => t + cyclesSec 10 ≤ s.now
    | none => false
  s.each refPairs fun s e =>
    if s.disagreeing e.1 e.2 && !s.rein.disputes.any (fun d => d.a == e.1 && d.b == e.2) then
      ((s.onRein fun r => { r with disputes := r.disputes ++ [⟨e.1, e.2, none⟩] }).event Pg.rein 5).raise Src.disagree e.1
    else s

/-! ### Selection (R329, R330, R338, R339) -/

/-- The candidate of R329; a slot that a soft drift has displaced is not chosen while it lies beyond SOFT. -/
def State.candidate (s : State) : Option Nat :=
  refSlots.foldl (fun (c : Option Nat) i =>
    if !s.usable i || (s.ref i).softOut then c
    else if s.refKind i = 5 && s.servo 0 == Servo.grandmaster then c
    else match c with
      | none => some i
      | some j => if s.refQl i < s.refQl j || (s.refQl i = s.refQl j && s.refRank i < s.refRank j) then some i else c) none

def State.wtrDone (s : State) (i : Nat) : Bool :=
  (s.ref i).qualAt + cyclesSec (s.get Pg.rein REIN.SEL_CTRL_WTR_S) ≤ s.now

/-- The slot that DPLL0 follows. -/
def State.selected (s : State) : Option Nat :=
  if s.flag Pg.rein REIN.SEL_STAT_SEL_VALID then some (s.get Pg.rein REIN.SEL_STAT_SELECTED) else none

/-- The candidate would displace the present reference once its wait to restore has run (R329). -/
def State.wtrFor (s : State) (c cur : Nat) : Bool :=
  s.refQl c == s.refQl cur && s.refRank c < s.refRank cur && s.flag Pg.rein REIN.SEL_CTRL_REVERT

/-- R338's vote: a slot that disagrees with the selected one and lies nearer the median of all, where a third reference
qualifies. -/
def State.voteFor (s : State) (cur : Nat) : Option Nat :=
  let all := refSlots.filter s.isQualified
  let med := median (all.map s.refFreq)
  if all.length < 3 then none
  else refSlots.find? fun j => j != cur && (s.disagreeing cur j || s.disagreeing j cur) && s.usable j &&
    (s.refFreq j - med).natAbs < (s.refFreq cur - med).natAbs

/-- START_PICK: the pair disagrees, no selection stood before the present moment, and there is no third reference: DPLL0
takes the lower index. -/
def State.startPick (s : State) (cur : Nat) : State :=
  match refSlots.filter s.isQualified with
  | [a, b] =>
    if s.dpllState 0 = Ds.acquire && s.rein.pickAt = s.now && (s.dpll 0).fromFree && s.disagreeing a b then
      let s := s.set Pg.rein REIN.SEL_STAT_START_PICK 1
      if cur = a then s
      else ((s.set Pg.rein REIN.SEL_STAT_SELECTED a).onDpll 0 fun x => { x with follows := some a }).aim 0 true
    else s
  | _ => s

/-- The evaluation of R329. R338 lets the qualified references vote on the present one unless the evaluation leaves it. -/
def State.selectAuto (s : State) : State :=
  match s.candidate with
  | none => s.enterHold 0
  | some c =>
    match s.selected with
    | none => (s.switchTo 0 c).startPick c
    | some cur =>
      if !s.usable cur then s.switchTo 0 c
      else
        let s := s.set Pg.rein REIN.REF_STAT_WTR (bit (s.wtrFor c cur && !s.wtrDone c)) c
        if s.refQl c < s.refQl cur || (s.wtrFor c cur && s.wtrDone c) then s.switchTo 0 c
        else match s.voteFor cur with
          | some j => s.switchTo 0 j
          | none => s.startPick cur

/-- AUTO is in force: by MODE, or as the fallback of MANUAL (R330). -/
def State.autoActive (s : State) : Bool :=
  let mode := s.get Pg.rein REIN.SEL_CTRL_MODE
  mode == 0 || (mode == 1 && s.flag Pg.rein REIN.SEL_CTRL_FALLBACK && !s.usable (s.get Pg.rein REIN.SEL_CTRL_MAN_REF))

/-- DPLL0's selection under SEL_CTRL. -/
def State.select0 (s : State) : State :=
  let man := s.get Pg.rein REIN.SEL_CTRL_MAN_REF
  let s := s.each refSlots fun s i => s.set Pg.rein REIN.REF_STAT_WTR 0 i
  if s.autoActive then s.selectAuto
  else if s.get Pg.rein REIN.SEL_CTRL_MODE = 1 && s.usable man then
    (if s.selected = some man then s else s.switchTo 0 man)
  else s.enterHold 0

/-- DPLL1 in the OWN setting follows its one slot (R341). -/
def State.select1 (s : State) : State :=
  if s.ownD1 then
    let i := s.get Pg.rein REIN.DPLL1_CFG_REF
    if s.usable i then (if (s.dpll 1).follows = some i then s else s.switchTo 1 i) else s.enterHold 1
  else s

/-- The time for which the selected reference lies beyond SOFT, and whether one that was left for it still does (R339). -/
def State.trackSoft (s : State) : State :=
  s.each refSlots fun s i =>
    let beyond := s.beyondSoft i
    s.onRef i fun x => { x with
      softAt := if beyond && s.selected = some i then (match x.softAt with | some t => some t | none => some s.now) else none
      softOut := x.softOut && beyond }

/-- As grandmaster firmware steers TIME0 to the reference that the Rein selects (R320): at its mean frequency, the increment
to the nearest unit (log 345). -/
def State.steerGrandmaster (s : State) : State :=
  match s.selected with
  | some i =>
    if s.servo 0 = Servo.grandmaster && s.fwRunning && s.refKind i ≠ 5 then
      s.fwInc 0 (((68719476736 * (10 ^ 9 + s.refFreq i) + 5 * 10 ^ 9) / 10 ^ 10).toNat)
    else s
  | none => s

/-- The evaluation once per millisecond, and at once when a reference changes state or QL. With EN 0 only the selection
stops (R346). -/
def State.reselect (s : State) : State :=
  let s := (s.each refSlots fun s i => (s.refreshQl i).requalify i).updateDisputes.trackSoft
  let was := s.selected
  let s := if s.reinEnabled then s.select0.select1 else s
  if s.selected = was then s else s.steerGrandmaster

/-! ### A reference fails -/

/-- A disqualification, and the selection that follows it. -/
def State.loseRef (s : State) (i cause st : Nat) : State := (s.disqualify i cause st).showMedians.reselect

/-! ### The epoch grid (R334) -/

/-- A tick of a domain against the grid of k × B / fs s of TIME0, in fs: to the nearest tick of the grid. The counter's
fraction stands for less than a ns. -/
def State.epochError (s : State) (d : Nat) : Int :=
  let hz := s.domHz d
  let per := s.domB d * 10 ^ 15
  let t := s.time.c0.units * 10 ^ 6 / 2 ^ 32 * hz % per
  (if 2 * t ≤ per then (t : Int) else (t : Int) - per) / hz

/-- D0, and D1 in a FOLLOW setting, are on the epoch while DPLL0 follows a type 0x5 reference. -/
def State.onEpoch (s : State) (d : Nat) : Bool :=
  (d == 0 || (d == 1 && !s.ownD1)) && (match s.selected with
    | some i => s.refKind i == 5
    | none => false)

/-- The pull works: in SERVICE, or from an ALIGN_NOW until the grid is reached (R344), while the Rein is enabled. -/
def State.pullRuns (s : State) : Bool := s.reinEnabled && (s.get Pg.rein REIN.FP_CTRL_MODE == 0 || s.rein.pulling)

/-- The domain whose error the pull of D0, and of a D1 that follows it, removes: D0, or D1 where D0 is not in use. -/
def State.pullDomain (s : State) : Nat := if !s.domActive 0 && s.domActive 1 && !s.ownD1 then 1 else 0

/-- A value moved towards another by no more than a step. -/
def stepTo (v want step : Int) : Int := if v < want then min (v + step) want else max (v - step) want

/-- The frequency offset that the pull wants for an error of e fs, in 10^-6 ppb, while it is v: its limit, or 0 once the way
that is left is the way down at the slew limit. -/
def pullWant (v e : Int) (slew limit : Nat) : Int :=
  let brake := v.natAbs * v.natAbs / (2 * slew * 10 ^ 6)
  if e.natAbs ≤ brake && ((0 < v && e < 0) || (v < 0 && 0 < e)) then 0
  else if e.natAbs < 1000000 then 0
  else if 0 < e then -(limit : Int) else limit

/-- The DPLL that carries a domain: DPLL0 carries D1 too but in its OWN setting. -/
def State.carrierDpll (s : State) (d : Nat) : Nat := if d = 1 && !s.ownD1 then 0 else d

/-- The later ticks of a domain keep the rate of its DPLL, which a pull moves by v in 10^-6 ppb (R16, R331, R334; DEDUCED,
log 314). -/
def State.turnPhase (s : State) (d : Nat) (v : Int) : State :=
  let y := v - 1000000 * s.outFreq (s.carrierDpll d)
  if y = 0 then s
  else s.setDom d { s.dom d with phase := (s.dom d).phase + y * (s.domB d : Int) / (s.domHz d : Int) }

/-- EPOCH_ALIGNED follows the error of D0. -/
def State.showAligned (s : State) (e : Int) : State :=
  if e.natAbs ≤ 100000000 && !s.flag Pg.rein REIN.SEL_STAT_EPOCH_ALIGNED then
    (s.set Pg.rein REIN.SEL_STAT_EPOCH_ALIGNED 1).event Pg.rein 8
  else if 1000000000 < e.natAbs then s.dropEpoch else s

/-- The pull reaches and leaves its offset at the slew limit of R331, and goes on to 0 once it has no more work (log 51). -/
def State.pullStep (s : State) (d : Nat) : State :=
  let e := s.epochError d
  let works := s.onEpoch d && s.pullRuns
  let want := if works then pullWant s.rein.pull e s.slewLimit (10 ^ 8 * s.get Pg.rein REIN.DPLL0_CFG_ALIGN_PPM) else 0
  let v := stepTo s.rein.pull want (s.slewLimit * 10 ^ 6 * s.domB d / s.domHz d : Nat)
  s.onRein fun r => { r with pull := v, pulling := r.pulling && !(works && v == 0 && e.natAbs ≤ 100000000) }

/-- At a tick of a domain: the pull moves the later ticks of D0, and those of D1 in a FOLLOW setting exactly as much
(R341). -/
def State.pullTick (s : State) (d : Nat) : State :=
  let s := if d = 0 && s.onEpoch 0 then s.showAligned (s.epochError 0) else s
  let s := if d = s.pullDomain then s.pullStep d else s
  s.turnPhase d (if s.carrierDpll d = 0 then s.rein.pull else 0)

/-- A domain that is not active steps its ticks onto the grid at once (R344). -/
def State.stepDomain (s : State) (d : Nat) : State :=
  if s.domActive d then s
  else
    let per := s.domB d * nsPerSec
    let k := s.nanos0 * s.domHz d / per
    let at_ := s.cycleAt ((k * per + s.domHz d - 1) / s.domHz d)
    let next := s.cycleAt (((k + 1) * per + s.domHz d - 1) / s.domHz d)
    s.setDom d { s.dom d with epoch := if at_ < s.now || at_ = s.now then s.now + (next - s.now) else at_, count := 0, phase := 0 }

/-! ### Media clocks (R342) -/

/-- MULT × fs of a setting, in Hz. -/
def State.mclkHz (s : State) (mult dom : Nat) : Nat := 128 * 2 ^ mult * s.domHz dom

/-- Half periods of a media clock at an island cycle since the sample grid of its domain began: it is divided from the
domain's sample clock, and so goes on in phase through all that moves that (R342). -/
def State.mclkHalves (s : State) (mult dom cycle : Nat) : Int :=
  let fs : Int := ((cycle - (s.dom dom).epoch) * 1600000 : Nat) - (s.dom dom).phase
  fs * (2 * s.mclkHz mult dom) / 10 ^ 15

/-- The present half period is a high one. -/
def State.mclkHigh (s : State) (mult dom : Nat) : Bool := s.mclkHalves mult dom s.now % 2 == 1

/-- The island cycle at which the present high half period ends, or now on a low level. -/
def State.mclkLowAt (s : State) (mult dom : Nat) : Nat :=
  if s.mclkHigh mult dom then
    let half : Nat := 2 * s.mclkHz mult dom
    let fs : Int := (s.mclkHalves mult dom s.now + 1) * 10 ^ 15 + (s.dom dom).phase * half
    max s.now ((s.dom dom).epoch + ((fs + 1600000 * half - 1) / (1600000 * half)).toNat)
  else s.now

/-- The level of MCLKn: low but while it runs. -/
def State.mclkLevel (s : State) (n : Nat) : Bool :=
  match SMap.find? s.rein.mclks n with
  | some m => m.from_ ≤ s.now && m.till.all (s.now < ·) && s.mclkHigh m.mult m.dom
  | none => false

/-- An output runs as its setting says: it starts and stops on a low level, and a changed setting starts it anew. -/
def State.runMclk (s : State) (n : Nat) : State :=
  let p := Pg.rein
  let on := s.flag p (REIN.MCLK_CFG_EN n)
  let mult := s.get p (REIN.MCLK_CFG_MULT n)
  let dom := s.get p (REIN.MCLK_CFG_DOMAIN n)
  match SMap.find? s.rein.mclks n with
  | some m =>
    if m.till.isSome && !on then s
    else if m.till.isNone && on && m.mult = mult && m.dom = dom then s
    else
      let low := if m.till.isSome || s.now < m.from_ then s.now else s.mclkLowAt m.mult m.dom
      s.onRein fun r => { r with mclks := nset r.mclks n (if on then ⟨mult, dom, max low (s.mclkLowAt mult dom), none⟩ else
        { m with till := some low }) }
  | none => if on then s.onRein fun r => { r with mclks := nset r.mclks n ⟨mult, dom, s.mclkLowAt mult dom, none⟩ } else s

/-! ### Disabling the Rein (R346) -/

/-- Pending ALIGN_NOW commands are dropped. -/
def State.dropAligns (s : State) : State := s.set Pg.rein REIN.FP_CTRL_ALIGN_NOW 0

/-- DPLL0 and DPLL1 enter holdover, or stay in FREE; a switch ends at its present frequency. -/
def State.reinHold (s : State) : State :=
  let s := s.enterHold 0 (s.flag Pg.rein REIN.SEL_STAT_SWITCHING)
  if s.ownD1 then s.enterHold 1 else s

/-- A pull stops where it stands, and pending ALIGN_NOW commands are dropped. -/
def State.stopPull (s : State) : State := s.dropAligns.onRein fun r => { r with pulling := false, pull := 0 }

/-- EN is cleared: a switch completes its slew first. -/
def State.reinDrained (s : State) : State :=
  let s := s.stopPull
  if s.flag Pg.rein REIN.SEL_STAT_SWITCHING then s else s.reinHold

/-- Nothing is in flight: no switch runs. -/
def State.reinIdle (s : State) : Bool := !s.flag Pg.rein REIN.SEL_STAT_SWITCHING

/-- KILL ends a switch at its present frequency. -/
def State.reinKilled (s : State) : State := s.stopPull.reinHold

/-- SRST (R346), after the page's registers have been reset: no slot is declared, and the loops keep phase and frequency
in holdover, or in FREE. DPLL1 follows DPLL0 again. -/
def State.reinReset (s : State) (old : State) : State :=
  let held := old.reinHold
  let s := s.dropDisputes fun _ => true
  let s := s.onRein fun r => { r with
    slots := [], ssm := [], pulling := false, pull := 0, fpCorrect := [], fpGrid := [], dplls := held.rein.dplls
    pins := held.rein.pins }
  let s := s.each (List.range 4) State.runMclk
  let s := (s.set Pg.rein REIN.SEL_STAT_STATE (held.dpllState 0)).set Pg.rein REIN.DPLL1_STAT_STATE (held.dpllState 0)
  (s.set Pg.rein REIN.DPLL2_STAT_STATE (held.dpllState 2)).holdSources

end Sys2Proof.Machine
end

