-- ==== Sys2Proof/Machine/Rein.lean ====
section
/-!
DEFINITION. The commands of the Rein (chapter 13).
-/

namespace Sys2Proof.Machine

/-! ### References -/

/-- An edge whose offset from the prediction is within 1/8 of the nominal period (R336). -/
def edgeAccepted (w : Nat) (off : Int) : Bool :=
  let hz := refHz w
  off.natAbs * 8 * hz.1 ≤ 10 ^ 12 * hz.2

/-- A glitch, and the third within 1 s. -/
def State.glitch (s : State) (i : Nat) : State :=
  let s := (s.count Pg.rein REIN.GLITCHES).onRef i fun x => { x with glitches := s.now :: recentGlitches s.now x.glitches }
  if 3 ≤ (s.ref i).glitches.length then
    if s.refLive i then s.loseRef i Rc.glitch Rs.disqualified else s.onRef i fun x => { x with sinceAt := s.now }
  else s

/-- The phase window of one period (R336): an accepted edge, or one glitch for a rejected edge, an empty window or
both. -/
def State.window (s : State) (i : Nat) (off : Option Int) : State :=
  match off with
  | some o =>
    if edgeAccepted (s.refWord i) o then
      let s := s.onRef i fun x => { x with
        present := true, rejected := false, edgeAt := s.now, pulses := x.pulses + 1
        sinceAt := if x.present then x.sinceAt else s.now }
      s.requalify i
    else if (s.ref i).rejected then s
    else (s.onRef i fun x => { x with rejected := true }).glitch i
  | none => if (s.ref i).rejected then s.onRef i fun x => { x with rejected := false } else s.glitch i

/-- REF_EDGE (R336, R337): an edge, or the end of a window without one; with an edge the raw rate of the last eight. -/
def execRefEdge (slot : Nat) (offPs : Option Int) (ratePpm : Int) (s : State) : Outcome :=
  guardWf (slot < 8) (.next (whenHolds (pinType (s.refKind slot)) s fun s =>
    let s := s.window slot offPs
    if offPs.isSome && 1000 < ratePpm.natAbs && s.refState slot ≠ Rs.latched then
      if s.refLive slot then s.loseRef slot Rc.rateChange Rs.latched
      else (s.set Pg.rein REIN.REF_STAT_STATE Rs.latched slot).set Pg.rein REIN.REF_STAT_CAUSE Rc.rateChange slot
    else s))

/-- Island cycles from the last accepted edge to the stop: 2 periods and 1/8 (R335). -/
def stopCycles (w : Nat) : Nat :=
  let hz := refHz w
  (17 * 625000000 * hz.2 + 8 * hz.1 - 1) / (8 * hz.1)

/-- REF_STOP (R335). -/
def execRefStop (slot : Nat) (s : State) : Outcome :=
  guardWf (slot < 8) (.next (
    let t := s.refKind slot
    if pinType t then
      whenHolds (s.ref slot).present s fun s =>
        let s := s.reach ((s.ref slot).edgeAt + stopCycles (s.refWord slot))
        let s := s.onRef slot fun x => { x with present := false }
        if s.refLive slot then s.loseRef slot Rc.stop Rs.disqualified else s
    else
      whenHolds (t ≠ 0 && s.refLive slot && !s.refPresent slot) s fun s =>
        s.loseRef slot (if t = 5 then Rc.ptpState else Rc.stop) Rs.disqualified))

/-- QUALIFIED (R328): QUAL_S of the conditions without a break, and 8 pulses of a pin pulse reference. A type 0x5
reference is no pin and gives far more than eight instants of its grid in the least QUAL_S. -/
def execQualified (slot : Nat) (s : State) : Outcome :=
  guardWf (slot < 8) (.next (
    let t := s.refKind slot
    whenHolds (s.refState slot = Rs.qualifying && s.refConditions slot && (t = 5 || !pulseType t || 8 ≤ (s.ref slot).pulses)) s
      fun s =>
        let p := Pg.rein
        let s := s.reach ((s.ref slot).sinceAt + cyclesSec (s.get p REIN.CHECK_TIME_QUAL_S))
        let s := (s.set p REIN.REF_STAT_STATE Rs.qualified slot).set p REIN.REF_STAT_CAUSE 0 slot
        let s := (s.onRef slot fun x => { x with qualAt := s.now }).event p 4
        s.showMedians.reselect))

/-- A DPLL that follows one of some slots tracks its new mean. -/
def State.track (s : State) (k : Nat) (slots : List Nat) : State :=
  match (s.dpll k).follows with
  | some i => if slots.contains i && (s.dpllState k = Ds.acquire || s.dpllState k = Ds.locked) then s.aim k false else s
  | none => s

/-- REF_MEAN_UPDATE (R328, R338, R339): new 10 s means of declared slots. -/
def execRefMeanUpdate (means : List (Nat × Int)) (s : State) : Outcome :=
  guardWf (means.all fun m => m.1 < 8) (.next (
    let s := s.each means fun s m =>
      if s.refState m.1 = Rs.undeclared then s else s.set Pg.rein REIN.REF_FREQ_PPB (unsigned 32 (clampSym 32 m.2)) m.1
    let s := s.each (refSlots.filter s.beyondXo) fun s i => s.disqualify i Rc.xoWide Rs.disqualified
    let s := s.showMedians
    let s := (s.each (refSlots.filter s.beyondHard) fun s i => s.disqualify i Rc.driftHard Rs.disqualified).showMedians
    let s := s.reselect
    let new := means.map (·.1)
    let s := (s.track 0 new).track 1 new
    if s.selected.any new.contains then s.steerGrandmaster else s))

/-- SOFT_DRIFT_SWITCH (R339): DRIFT_S beyond SOFT, and another usable reference. -/
def execSoftDriftSwitch (s : State) : Outcome :=
  .next (match s.selected with
    | none => s
    | some i =>
      match (s.ref i).softAt with
      | none => s
      | some t =>
        if !s.autoActive || !s.reinEnabled then s
        else
          let s := s.reach (t + cyclesSec (s.get Pg.rein REIN.CHECK_TIME_DRIFT_S))
          let u := s.onRef i fun x => { x with softOut := true, softAt := none }
          match u.candidate with
          | some j => u.switchTo 0 j
          | none => s)

/-- SELECTION (R329). -/
def execSelection (s : State) : Outcome := .next s.reselect

/-- SWITCH_DONE (R331): the frequency error has stayed below 0.01 ppm for 1 s; a drain of the page waited for it (R346). -/
def execSwitchDone (s : State) : Outcome :=
  .next (whenHolds (s.flag Pg.rein REIN.SEL_STAT_SWITCHING) s fun s =>
    let s := (s.reach ((s.dpll 0).nearAt + cyclesSec 1)).endSwitch
    if s.reinEnabled then s else s.reinHold)

/-- DPLL_LOCKED (R332): the frequency error has stayed below 0.01 ppm for 5 s. DPLL2 has locked to the clock of its port, with
no slew limit (R389). -/
def execDpllLocked (k : Nat) (s : State) : Outcome :=
  guardWf (k < 3) (.next (whenHolds (s.dpllState k = Ds.acquire && (k ≠ 1 || s.ownD1)) s fun s =>
    let s := if k = 2 then s.noteFreq 2 (10 * signed 32 (s.get (Pg.sap (s.get Pg.rein REIN.DPLL2_STAT_PORT)) SAP.MEAS_PPM))
      else s.reach ((s.dpll k).nearAt + cyclesSec 5)
    (s.onDpll k fun x => { x with lockedAt := s.now }).setDpll k Ds.locked))

/-- The holdover specification time (R333). -/
def State.holdSpec (s : State) : Nat :=
  let n := s.get Pg.rein REIN.XO_CFG_HOLD_SPEC_S
  if n ≠ 0 then n else if s.flag Pg.rein REIN.XO_CFG_XO_TYPE then 14400 else 300

/-- HOLD_TIMER. -/
def State.holdTimer (s : State) : Nat :=
  if holding (s.dpllState 0) then (s.now - (s.dpll 0).holdAt) / cyclesSec 1 else 0

/-- HOLD_EXPIRED (R333). -/
def execHoldExpired (k : Nat) (s : State) : Outcome :=
  guardWf (k < 3) (.next (whenHolds (s.dpllState k = Ds.holdover && (k ≠ 1 || s.ownD1)) s fun s =>
    let s := s.reach ((s.dpll k).holdAt + cyclesSec s.holdSpec)
    ((s.setDpll k Ds.expired).event Pg.rein 7).lifeAdd Pg.rein 2))

/-- ESMC_PDU (R327): firmware passes the code to the Rein. -/
def execEsmcPdu (lane : Nat) (ssm : BitVec 4) (s : State) : Outcome :=
  guardWf (lane < 4) (.next (whenHolds s.fwRunning s fun s =>
    (s.onRein fun r => { r with ssm := nset r.ssm lane (ssm, s.now) }).reselect))

/-- ESMC_TIMEOUT (R327): 5 s after the last PDU. -/
def execEsmcTimeout (lane : Nat) (s : State) : Outcome :=
  guardWf (lane < 4) (.next (match SMap.find? s.rein.ssm lane with
    | some c =>
      let s := s.reach (c.2 + cyclesSec 5)
      (s.onRein fun r => { r with ssm := SMap.erase r.ssm lane }).reselect
    | none => s))

/-! ### Configuration -/

/-- A write of SEL_CTRL (R330): RWL fields; MODE 0b11 is ignored. -/
def State.writeSelCtrl (s : State) (v : Word) : State :=
  let p := Pg.rein
  if s.locked p then s
  else
    let s := ((s.set p REIN.SEL_CTRL_WTR_S (REIN.SEL_CTRL_WTR_S.of v)).set p REIN.SEL_CTRL_REVERT
      (REIN.SEL_CTRL_REVERT.of v)).set p REIN.SEL_CTRL_FALLBACK (REIN.SEL_CTRL_FALLBACK.of v)
    let s := s.set p REIN.SEL_CTRL_MAN_REF (REIN.SEL_CTRL_MAN_REF.of v)
    let mode := REIN.SEL_CTRL_MODE.of v
    (if mode = 3 then s else s.set p REIN.SEL_CTRL_MODE mode).reselect

/-- SEL_CTRL_WRITE (R330). -/
def execSelCtrlWrite (m : Master) (v : Word) (s : State) : Outcome := .next (s.writeTo m Pg.rein fun s => s.writeSelCtrl v)

/-- A write of DPLL1_CFG (R341): SOURCE 0b11 and an unlisted BW are ignored. -/
def State.writeDpll1 (s : State) (v : Word) : State :=
  let p := Pg.rein
  let src := REIN.DPLL1_CFG_SOURCE.of v
  let bw := REIN.DPLL1_CFG_BW.of v
  let s := if src = 3 then s else s.set p REIN.DPLL1_CFG_SOURCE src
  let s := s.set p REIN.DPLL1_CFG_REF (REIN.DPLL1_CFG_REF.of v)
  let s := if 9 < bw then s else s.set p REIN.DPLL1_CFG_BW bw
  (if s.ownD1 then s else (s.onDpll 1 fun x => { x with follows := none }).putDpll 1 (s.dpllState 0)).holdSources.reselect

/-- A write of DPLL0_CFG: values outside their ranges are ignored. -/
def State.writeDpll0 (s : State) (v : Word) : State :=
  let p := Pg.rein
  let a := REIN.DPLL0_CFG_ALIGN_PPM.of v
  let w := REIN.DPLL0_CFG_SLEW.of v
  let bw := REIN.DPLL0_CFG_BW.of v
  let s := if inRange 1 a 100 then s.set p REIN.DPLL0_CFG_ALIGN_PPM a else s
  let s := if inRange 1 w 50 then s.set p REIN.DPLL0_CFG_SLEW w else s
  if bw ≤ 9 then s.set p REIN.DPLL0_CFG_BW bw else s

/-- A write of CHECK_CFG: ignored where it would leave 0 < AGREE ≤ SOFT < HARD false. -/
def State.writeCheckCfg (s : State) (v : Word) : State :=
  let p := Pg.rein
  let agree := REIN.CHECK_CFG_AGREE.of v
  let soft := REIN.CHECK_CFG_SOFT.of v
  let hard := REIN.CHECK_CFG_HARD.of v
  if s.locked p || agree = 0 || soft < agree || hard ≤ soft then s
  else (((s.set p REIN.CHECK_CFG_XO_WIDE (REIN.CHECK_CFG_XO_WIDE.of v)).set p REIN.CHECK_CFG_HARD hard).set p
    REIN.CHECK_CFG_SOFT soft).set p REIN.CHECK_CFG_AGREE agree

/-- A write of CHECK_TIME: 0 is ignored. -/
def State.writeCheckTime (s : State) (v : Word) : State :=
  let p := Pg.rein
  let q := REIN.CHECK_TIME_QUAL_S.of v
  let d := REIN.CHECK_TIME_DRIFT_S.of v
  if s.locked p then s
  else
    let s := if q = 0 then s else s.set p REIN.CHECK_TIME_QUAL_S q
    if d = 0 then s else s.set p REIN.CHECK_TIME_DRIFT_S d

/-- A write of MCLK_CFGn (R342): reserved codes are ignored, and a setting above 49.152 MHz is refused whole. -/
def State.writeMclk (s : State) (n : Nat) (v : Word) : State :=
  let p := Pg.rein
  let dom := if (REIN.MCLK_CFG_DOMAIN n).of v = 3 then s.get p (REIN.MCLK_CFG_DOMAIN n) else (REIN.MCLK_CFG_DOMAIN n).of v
  let mult := if (REIN.MCLK_CFG_MULT n).of v = 3 then s.get p (REIN.MCLK_CFG_MULT n) else (REIN.MCLK_CFG_MULT n).of v
  if 49152000 < s.mclkHz mult dom then s.event p 13
  else (((s.set p (REIN.MCLK_CFG_EN n) ((REIN.MCLK_CFG_EN n).of v)).set p (REIN.MCLK_CFG_DOMAIN n) dom).set p
    (REIN.MCLK_CFG_MULT n) mult).runMclk n

/-- MCLK_CFG_WRITE (R342). -/
def execMclkCfgWrite (m : Master) (n : Nat) (v : Word) (s : State) : Outcome :=
  guardWf (n < 4) (.next (s.writeTo m Pg.rein fun s => s.writeMclk n v))

/-! ### Frame pulses (R343, R344) -/

/-- A write of FP_CTRL (R344): a change of MODE drops pending alignments; ALIGN_NOW steps the ticks of idle domains and
starts the pull of the others. -/
def State.writeFpCtrl (s : State) (v : Word) : State :=
  let p := Pg.rein
  let s := s.set p REIN.FP_CTRL_STEP_LIM (REIN.FP_CTRL_STEP_LIM.of v)
  let mode := REIN.FP_CTRL_MODE.of v
  let s := if mode = s.get p REIN.FP_CTRL_MODE then s
    else (s.set p REIN.FP_CTRL_MODE mode).dropAligns.onRein fun r => { r with pulling := false }
  let bits := REIN.FP_CTRL_ALIGN_NOW.of v
  if bits = 0 || !s.reinEnabled then s
  else
    let s := s.set p REIN.FP_CTRL_ALIGN_NOW (s.get p REIN.FP_CTRL_ALIGN_NOW ||| bits)
    (s.each [0, 1, 2] State.stepDomain).onRein fun r => { r with pulling := s.domActive 0 || s.domActive 1 }

/-- ALIGN_NOW (R344). -/
def execAlignNow (m : Master) (v : Word) (s : State) : Outcome := .next (s.writeTo m Pg.rein fun s => s.writeFpCtrl v)

/-- The source of a frame pulse is a pulse-type slot that is QUALIFIED. -/
def State.fpSource (s : State) (n : Nat) : Bool :=
  let i := s.get Pg.rein (REIN.FP_CFG_SRC n)
  pulseType (s.refKind i) && s.isQualified i

/-- The period of FPn in ns, as numerator and denominator: 1 / RATE_HZ s, times 1,001 / 1,000 with DIV1001 (R343). -/
def State.fpPeriod (s : State) (n : Nat) : Nat × Nat :=
  (if s.flag Pg.rein (REIN.FP_CFG_DIV1001 n) then 1001000000 else 1000000000, s.get Pg.rein (REIN.FP_CFG_RATE_HZ n))

/-- A write of FP_CFGn: a RATE_HZ outside 1 to 1,000 is ignored, and a changed rate or EN starts the pulses anew. -/
def State.writeFpCfg (s : State) (n : Nat) (v : Word) : State :=
  let p := Pg.rein
  let old := (s.fpPeriod n, s.flag p (REIN.FP_CFG_EN n))
  let s := ((s.set p (REIN.FP_CFG_EN n) ((REIN.FP_CFG_EN n).of v)).set p (REIN.FP_CFG_DIV1001 n)
    ((REIN.FP_CFG_DIV1001 n).of v)).set p (REIN.FP_CFG_SRC n) ((REIN.FP_CFG_SRC n).of v)
  let rate := (REIN.FP_CFG_RATE_HZ n).of v
  let s := if inRange 1 rate 1000 then s.set p (REIN.FP_CFG_RATE_HZ n) rate else s
  if (s.fpPeriod n, s.flag p (REIN.FP_CFG_EN n)) = old then s
  else s.onRein fun r => { r with fpGrid := SMap.erase r.fpGrid n, fpCorrect := SMap.erase r.fpCorrect n }

/-- The grid of FPn as its next pulse finds it: moved by the correction that the pulse takes and by the output frequency
of DPLL0 over a period, and one pulse further. The first pulse starts a grid where it stands (log 328). -/
def State.fpNext (s : State) (n : Nat) : Int × Nat :=
  let per := s.fpPeriod n
  match SMap.find? s.rein.fpGrid n with
  | some g => (g.1 + 1000 * nget 0 s.rein.fpCorrect n - s.outFreq 0 * (per.1 : Int) / ((per.2 * 1000000 : Nat) : Int), g.2 + 1)
  | none => ((s.now * 1600 : Nat), 0)

/-- The island cycle of the next pulse of FPn. -/
def State.fpDue (s : State) (n : Nat) : Nat :=
  let g := s.fpNext n
  let per := s.fpPeriod n
  ((g.1 + ((g.2 * per.1 * 1000 / per.2 : Nat) : Int)).toNat + 1599) / 1600

/-- The error of a pulse in ns, to the nearest aligned instant: those of a PTP source lie at k / RATE_HZ of TIME0, those of a
pin where the Rein measures them, both moved by FP_OFSn. -/
def State.fpError (s : State) (n : Nat) (measured : Int) : Int :=
  let per := s.fpPeriod n
  let at_ : Int := if s.refKind (s.get Pg.rein (REIN.FP_CFG_SRC n)) = 5 then (s.nanos0 : Int) else measured
  let t := (at_ - signed 32 (s.get Pg.rein (REIN.FP_OFS_NS n))) * (per.2 : Int) % (per.1 : Int)
  (if 2 * t ≤ (per.1 : Int) then t else t - (per.1 : Int)) / (per.2 : Int)

/-- The level of FPn: high for the 1.0 µs, 625 island cycles, from its rising edge on (R343). -/
def State.fpLevel (s : State) (n : Nat) : Bool :=
  match SMap.find? s.rein.fpAt n with
  | some t => s.now < t + 625
  | none => false

/-- FRAME_PULSE (R343, R344): a pulse falls due, with the error in ns that the Rein measures against a pin; it is
corrected, stepped or left. -/
def execFramePulse (n : Nat) (measured : Int) (s : State) : Outcome :=
  guardWf (n < 4) (.next (whenHolds (s.flag Pg.rein (REIN.FP_CFG_EN n)) s fun s =>
    let p := Pg.rein
    let grid := s.fpNext n
    let s := s.reach (s.fpDue n)
    let s := s.onRein fun r => { r with
      pulses := nput 0 r.pulses n (nget 0 r.pulses n + 1)
      fpAt := nset r.fpAt n s.now
      fpCorrect := SMap.erase r.fpCorrect n
      fpGrid := nset r.fpGrid n grid }
    if !s.fpSource n then s
    else
      let err := s.fpError n measured
      let e := clampSym 32 err
      let s := (s.set p (REIN.FP_ERR_NS n) (unsigned 32 e)).setFlag p (REIN.FP_STAT_ALIGNED n) (err.natAbs ≤ 10)
      let take (v : Int) (s : State) : State := s.onRein fun r => { r with fpCorrect := nput 0 r.fpCorrect n v }
      let bits := s.get p REIN.FP_CTRL_ALIGN_NOW
      if bits.testBit n then
        ((take (-err) s).set p REIN.FP_CTRL_ALIGN_NOW (bits - 2 ^ n)).event p 9
      else if s.get p REIN.FP_CTRL_MODE = 0 && s.reinEnabled then
        if err.natAbs ≤ s.get p REIN.FP_CTRL_STEP_LIM then take (-(max (-10) (min 10 err))) s
        else ((take (-err) s).count p REIN.FP_STEPS).event p 9
      else s))

/-! ### Declarations (R326) -/

/-- The words of a declaration hold no reserved value, no bit outside the fields and a NOMINAL in range. -/
def declarationOk (index w quality rank : Nat) : Bool :=
  let t := refType w
  let nominal := refNominal w
  index < 8 && rank < 16 && w &&& 0xB0000080 == 0 && t ≤ 6 &&
    (if t = 0 then w == 0 && quality < 16
     else
      (if t = 5 then refSource w == 0 else refSource w < 4) &&
      (if t = 1 then inRange 32000 nominal 192000 else if t = 4 then inRange 1 nominal 1000 else nominal == 0) &&
      (t == 4 || !refDiv w) && (if pinType t then quality < 16 else quality == 0))

/-- Another slot holds the source. -/
def State.sourceBound (s : State) (index w : Nat) : Bool :=
  refType w ≠ 0 && refSlots.any fun j => j != index && s.refKind j != 0 && boundSource (s.refWord j) == boundSource w

/-- A DPLL follows the slot in ACQUIRE or LOCKED. -/
def State.refFollowed (s : State) (i : Nat) : Bool :=
  ([0, 1] : List Nat).any fun k => (s.dpll k).follows == some i && (k == 0 || s.ownD1) &&
    (s.dpllState k == Ds.acquire || s.dpllState k == Ds.locked)

/-- A slot takes a declaration, and its qualification starts afresh. -/
def State.declareRef (s : State) (i w quality rank : Nat) : State :=
  let p := Pg.rein
  let s := s.dropDisputes fun d => d.a == i || d.b == i
  let s := s.onRein fun r => { r with slots := SMap.erase r.slots i }
  let s := ((s.set p REIN.REF_STAT_STATE (if refType w = 0 then Rs.undeclared else Rs.qualifying) i).set p
    REIN.REF_STAT_CAUSE 0 i).set p REIN.REF_STAT_WTR 0 i
  let s := (s.set p REIN.REF_CFG_TYPE_WORD w i).set p REIN.REF_QL_RANK (if refType w = 0 then 0 else rank) i
  let s := (s.set p REIN.REF_QL_HOST_QL (if pinType (refType w) then quality else 0) i).set p REIN.REF_QL_RAW 0 i
  let s := ((s.set p REIN.REF_QL_QL 15 i).set p REIN.REF_FREQ_PPB 0 i).set p REIN.REF_MED_PPB 0 i
  let s := if refType w = 0 then s else s.onRef i fun x => { x with sinceAt := s.now }
  s.showMedians.reselect

/-- REF_DECLARE (R326). -/
def execRefDeclare (tag : BitVec 8) (index type quality rank : Word) (s : State) : Outcome :=
  .next (s.mailbox Op.refDeclare tag [index, type, quality, rank] fun s =>
    let op := Op.refDeclare
    let i := index.toNat
    let w := type.toNat
    if !declarationOk i w quality.toNat rank.toNat || s.sourceBound i w then s.reply op tag St.badArg []
    else if refType w = 6 && !s.present (Pg.lane (refSource w)) then s.reply op tag St.absent []
    else if !s.reinEnabled then s.reply op tag St.notEnabled []
    else if s.refFollowed i && (refType w ≠ s.refKind i || refSource w ≠ refSource (s.refWord i)) then
      s.reply op tag St.busy []
    else (s.declareRef i w quality.toNat rank.toNat).done op tag)

/-! ### Reference switches by commit (R330) -/

/-- COMMIT_AT_REF_SWITCH: SET holds a slot in [2:0] and MODE in [7]. -/
def execCommitAtRefSwitch (tag : BitVec 8) (arg : Word) (sec ns : Nat) (s : State) : Outcome :=
  .next (s.mailbox Op.commitAt tag (commitArgs arg sec ns) fun s =>
    s.commitAt tag Ck.refSwitch arg sec ns (commitSet arg / 8 % 16 = 0) s.reinEnabled false
      fun s => (s.arm Ck.refSwitch (commitSet arg) sec ns).done Op.commitAt tag)

/-- A REF_SWITCH commit falls due; without a usable slot nothing changes. -/
def State.applyRefSwitch (s : State) (c : Commit) : State :=
  let p := Pg.rein
  let slot := c.set % 8
  if 128 ≤ c.set && !s.usable slot then s.event p 10
  else
    let s := if 128 ≤ c.set then (s.set p REIN.SEL_CTRL_MAN_REF slot).set p REIN.SEL_CTRL_MODE 1
      else s.set p REIN.SEL_CTRL_MODE 0
    s.reselect

end Sys2Proof.Machine
end

