-- ==== Sys2Proof/Machine/FenceOps.lean ====
section
/-!
DEFINITION. The fence of a rate domain (R58 to R71), shared by FENCE_EXPIRY and by a tick that comes while the fence has
not been taken.
-/

namespace Sys2Proof.Machine

/-- A pass still running at its fence is missed (R65, R71). -/
def State.missTile (s : State) (t : Nat) : State :=
  let p := Pg.fabric
  let d := s.tileDomain t
  let s := (s.count p FABRIC.TILE_MISSES 1 t).count p FABRIC.MISS_TOTAL
  let s := (s.tileStat t true false false).set p FABRIC.TILE_STAT_CONSEC_MISS
    (min (s.get p FABRIC.TILE_STAT_CONSEC_MISS t + 1) 15) t
  let s := s.setTile t { s.tile t with pass := .missedRunning, onTime := 0, missAt := s.now }
  let s := ((s.recordSlack t 0).slackLife t 0).tileLife t 2
  let s := s.setDom d { s.dom d with missed := (s.dom d).missed + 1 }
  let s := s.observePass t false
  let s := match s.esc t with
    | some e => s.setEsc t { e with missAt := s.now }
    | none => s
  (s.event p 0).raise Src.awlDeadline t

/-- A pass whose inputs are not valid at the fence never starts (R70). -/
def State.lateTile (s : State) (t : Nat) : State :=
  let s := s.setTile t { s.tile t with pass := .late }
  let s := (s.tileStat t true true false).count Pg.fabric FABRIC.DELIVERY_LATE
  (s.event Pg.fabric 9).raise Src.deliveryLate t

/-- The fence expires for one tile. -/
def State.fenceTile (s : State) (t : Nat) : State :=
  match (s.tile t).pass with
  | .running => s.missTile t
  | .waiting => s.lateTile t
  | _ => s

/-- DOM_SLACK at the fence. -/
def State.domSlack (s : State) (d : Nat) : State :=
  let x := s.dom d
  let s := (s.set Pg.fabric (FABRIC.DOM_SLACK_WORST_LAST d) x.worst).set Pg.fabric (FABRIC.DOM_SLACK_MISSED_TILES d)
    (min x.missed 255)
  s.setDom d { x with fenced := true, secNow := min x.secNow x.worst, worst := 100, missed := 0 }

/-- The fence of a domain expires. -/
def State.runFence (s : State) (d : Nat) : State :=
  if (s.dom d).fenced then s
  else
    let s := s.reach ((s.dom d).tickAt + (s.dom d).tF)
    (s.each (s.tilesOf d) State.fenceTile).domSlack d

end Sys2Proof.Machine
end

