-- ==== Sys2Proof/Machine/Fabric.lean ====
section
/-!
DEFINITION. The commands of the fabric scheduler (chapter 03) and of plan swaps: plan loads and admission, passes and
fences, speed, the margin engine.
-/

namespace Sys2Proof.Machine

/-! ### Plan loads and admission (R52, R75 to R77) -/

/-- PLAN_LOAD (R52). -/
def execPlanLoad (tag : BitVec 8) (addr len slot : Nat) (s : State) : Outcome :=
  .next (s.mailbox Op.planLoad tag (addrArgs addr ++ [BitVec.ofNat 32 len, BitVec.ofNat 32 slot]) fun s =>
    let op := Op.planLoad
    if 1 < slot || len = 0 || 2 ^ 48 ≤ addr then s.reply op tag St.badArg []
    else if !s.fabricEnabled then s.reply op tag St.notEnabled []
    else if s.slotRuns slot then s.refuseOpen op tag
    else if s.slotArmed slot || s.fabric.loading.isSome then s.reply op tag St.busy []
    else
      let s := (s.setSlot slot none).setAdmitted slot false
      (s.onFabric fun f => { f with loading := some ⟨slot, len, tag⟩ }).accept op tag Pg.fabric)

/-- The image passes verification. -/
def imageOk (l : PlanLoading) (img : PlanImage) : Bool := img.formatOk && img.length == l.len && img.integrityOk

/-- No stream addresses DRAM beyond the service capacity mapped at this moment (R245). -/
def State.streamsFit (s : State) (p : Plan) : Bool :=
  p.streams.all fun x => s.dramCount ≤ x.chan || x.base + x.bytes ≤ s.mappedGiB x.chan * giB

/-- PLAN_LOAD_DONE (R52): what the load found at the image address. -/
def execPlanLoadDone (img : PlanImage) (s : State) : Outcome :=
  .next (match s.fabric.loading with
    | none => s
    | some l =>
      let s := s.onFabric fun f => { f with loading := none }
      let s := s.set Pg.fabric PG.PROGRESS_POSITION (l.len / 1024)
      if imageOk l img && s.streamsFit img.plan then (s.setSlot l.slot (some img.plan)).finish Op.planLoad l.tag Pg.fabric St.ok
      else s.finish Op.planLoad l.tag Pg.fabric St.badArg)

/-- A PLAN_LOAD into the slot runs. -/
def State.slotLoading (s : State) (k : Nat) : Bool :=
  match s.fabric.loading with
  | some l => l.slot == k
  | none => false

/-- The four words of a refused PLAN_ADMIT (R75). -/
def AdmitFail.words (f : AdmitFail) : List Word := [f.reason, f.tile, f.decl, f.limit].map (BitVec.ofNat 32)

/-- PLAN_ADMIT (R75, R76). -/
def execPlanAdmit (tag : BitVec 8) (slot : Nat) (s : State) : Outcome :=
  .next (s.mailbox Op.planAdmit tag [BitVec.ofNat 32 slot] fun s =>
    let op := Op.planAdmit
    if 1 < slot then s.reply op tag St.badArg []
    else if !s.fabricEnabled then s.reply op tag St.notEnabled []
    else if s.slotLoading slot then s.reply op tag St.busy []
    else match s.slotPlan slot with
      | none =>
        let f := AdmitFail.of Ad.notLoaded
        ((s.setAdmitted slot false).recordFailure f).reply op tag St.refused f.words
      | some p =>
        match s.admitPlan slot p with
        | (s, some f) => s.reply op tag St.refused f.words
        | (s, none) => s.done op tag)

/-! ### Plan swaps (R76, R77, R179, R511) -/

/-- Whole block periods of a WARM tile's domain between the end of its load and tick c - 1 (R511). -/
def State.warmPeriods (s : State) (d ns : Nat) : Nat :=
  s.effectTick d ns - 1 - max ((s.dom d).count + 1) (s.tickAtOrAfter d (s.now + cyclesUs 150))

/-- Some WARM tile would run too few shadow passes. -/
def State.warmTooLate (s : State) (p : Plan) (ns : Nat) : Bool :=
  (s.tilesIn p .warm).any fun x => s.warmPeriods x.domain ns < s.get Pg.fabric FABRIC.RELOC_CFG_WARM_BLOCKS

/-- The largest L of the domains that hold RELOAD tiles. -/
def State.swapSilence (s : State) (p : Plan) : Nat :=
  (s.tilesIn p .reload).foldl (fun m x => max m (silentBlocks (planRate p x.domain).1 (planRate p x.domain).2)) 0

/-- A plan swap is armed: PLAN_STAT and SWAP_STAT show it, and WARM tiles start to load. -/
def State.armSwap (s : State) (slot sec ns : Nat) (p : Plan) : State :=
  let warm := s.get Pg.fabric FABRIC.RELOC_CFG_WARM_BLOCKS
  let s := s.arm Ck.swap slot sec ns
  let s := s.onFabric fun f => { f with swap := some ⟨slot, [], warm, [], [], false⟩ }
  let s := s.set Pg.fabric FABRIC.PLAN_STAT_SWAP_ARMED 1
  (s.set Pg.mix MIX.SWAP_STAT_L (s.swapSilence p)).set Pg.mix MIX.SWAP_STAT_RELOAD_TILES (s.tilesIn p .reload).length

/-- COMMIT_AT_PLAN_SWAP (R76, R169, R179, R481). -/
def execCommitAtPlanSwap (tag : BitVec 8) (arg : Word) (sec ns : Nat) (s : State) : Outcome :=
  .next (s.mailbox Op.commitAt tag (commitArgs arg sec ns) fun s =>
    let slot := commitSet arg
    s.commitAt tag Ck.swap arg sec ns (slot < 2) s.fabricEnabled s.changeArmed fun s =>
      let op := Op.commitAt
      if s.pairHoldsBack then s.refuse op tag 0x10
      else if !s.admitted slot || s.slotRuns slot then s.refuseOpen op tag
      else match s.slotPlan slot with
        | none => s.refuseOpen op tag
        | some p =>
          if s.warmTooLate p (sec * nsPerSec + ns) then s.reply op tag St.tooLate []
          else (s.armSwap slot sec ns p).done op tag)

/-- WARM_TILE_LOADED (R179): the tile holds the new image and may run in shadow. Its WIN_CFG, WIN_CH and ENTRY show the armed
plan's values from here on, though they are fields of the running plan (DESIGN CHOICE, log 346). -/
def execWarmTileLoaded (t : Nat) (s : State) : Outcome :=
  guardWf (t < 256) (.next (match s.fabric.swap, s.swapPlan with
    | some w, some p =>
      match (s.tilesIn p .warm).find? fun x => x.tile == t with
      | some x =>
        if w.warm.any fun e => e.1 == t then s
        else
          let s := s.loadTile x
          let s := s.setTile t { (s.tile t).preset x with shadow := true, pass := .idle, rpt := none }
          (s.setWindows { x with tile := t }).onFabric fun f => { f with
            place := nset f.place t x, swap := some { w with warm := w.warm ++ [(t, 0)] } }
      | none => s
    | _, _ => s))

/-- SWAP_ADMIT_CHECK (R77): the admission runs again 20 ms before the commit time, with the strikes of R75. -/
def execSwapAdmitCheck (s : State) : Outcome :=
  .next (match s.armed Ck.swap, s.fabric.swap, s.swapPlan with
    | some (i, c), some w, some p =>
      if c.begun then s
      else
        let s := s.untilTime0 (c.at_ - 20000000)
        match s.admitFailure p with
        | some f =>
          let s := ((s.setAdmitted w.slot false).recordFailure f).dropSwap
          (s.commitDropped i c Cr.admitFail).swapCancelled
        | none => s.setSlot w.slot (some (s.strike p))
    | _, _, _ => s)

/-- SWAP_XFADE_END (R179): the WARM crossfades of a domain have ended, and the old-side tiles stop. -/
def execSwapXfadeEnd (d : Nat) (s : State) : Outcome :=
  guardWf (d < 3) (.next (
    let ended (w : WarmFade) : Bool := w.dom == d && w.len ≤ w.pos
    let old := (s.fabric.warmFades.filter ended).flatMap (·.old)
    let rest := s.fabric.warmFades.filter fun w => !ended w
    let s := s.each old fun s t => (s.setTile t { s.tile t with pass := .idle, rpt := none }).unconfigureTile t
    let kept : List Nat := match s.fabric.running with
      | some p => p.tiles.flatMap (·.inputs) ++ p.endpoints.map (·.1)
      | none => []
    let ins := ((s.fabric.place.filter fun e => old.contains e.1).flatMap (·.2.inputs)).filter fun q => !kept.contains q
    let s := (s.each ins fun s q => s.swapRoute q noSource true).startWaiting
    s.onFabric fun f => { f with
      warmFades := rest
      oldRelocs := if rest.isEmpty then [] else f.oldRelocs
      oldMoved := if rest.isEmpty then [] else f.oldMoved
      place := f.place.filter fun e => !old.contains e.1 }))

/-! ### Passes and fences -/

/-- PASS_START (R57, R63): the first instruction issues 40 ns after the tick, or once the input windows are valid. -/
def execPassStart (t : Nat) (s : State) : Outcome :=
  guardWf (t < 256) (.next (whenHolds ((s.tile t).pass == .waiting && !(s.dom (s.tileDomain t)).fenced) s fun s =>
    let s := s.reach ((s.dom (s.tileDomain t)).tickAt + cyclesNs 40)
    s.setTile t { s.tile t with pass := .running, valid := true, startAt := s.now }))

/-- FENCE_EXPIRY (R58, R65, R70). -/
def execFenceExpiry (d : Nat) (s : State) : Outcome :=
  guardWf (d < 3) (.next (whenHolds ((s.dom d).tF ≠ 0) s fun s => s.runFence d))

/-- DEADLINE_CLEAR (R71). -/
def execDeadlineClear (t : Nat) (s : State) : Outcome :=
  guardWf (t < 256) (.next (whenHolds (64 ≤ (s.tile t).onTime) s fun s => s.lower Src.awlDeadline t))

/-- The fence-gap and cost checks of the running plan under a new FENCE_PCT of a domain (R78). -/
def State.fenceAllowed (s : State) (d pct : Nat) : Bool :=
  let b := s.domB d
  let hz := s.domHz d
  gapOk pct b hz && s.working.all fun e =>
    e.2.domain ≠ d ||
      (s.flag (Pg.awl e.1) PG.CTRL_EN &&
        (s.cost e.1 : Int) ≤ admissibleHu (s.get Pg.fabric FABRIC.TILE_SPEED_SPEED e.1) (fenceCycles pct b hz))

/-- A new FENCE_PCT (R78): taken at once by an idle domain, from the next tick by a running one, or refused. -/
def State.writeFence (s : State) (d pct : Nat) : State :=
  if !inRange 50 pct 95 then s.event Pg.fabric 7
  else if !s.domActive d then s.set Pg.fabric (FABRIC.DOM_CFG_FENCE_PCT d) pct
  else if s.fenceAllowed d pct then s.setDom d { s.dom d with nextPct := some pct }
  else s.event Pg.fabric 7

/-- FENCE_PCT_WRITE (R78). -/
def execFencePctWrite (m : Master) (d pct : Nat) (s : State) : Outcome :=
  guardWf (d < 3) (.next (s.writeTo m Pg.fabric fun s => s.writeFence d pct))

/-! ### Speed (R72) -/

/-- One canary measurement of a tile. -/
def State.measureSpeed (s : State) (e : Nat × Nat) : State :=
  let x := s.tile e.1
  let c := (e.2 :: x.canary).take 16
  let s := (s.setTile e.1 { x with canary := c }).noteAgree e.1
  if s.flag Pg.fabric FABRIC.TILE_SPEED_EST_SOURCE e.1 then s
  else s.set Pg.fabric FABRIC.TILE_SPEED_SPEED (min (canarySpeed c) 65535) e.1

/-- SPEED_MEASURE (R72): the measurements of one millisecond, by tile. -/
def execSpeedMeasure (speeds : List (Nat × Nat)) (s : State) : Outcome :=
  .next (s.each (speeds.filter fun e => e.1 < s.tileCount) State.measureSpeed)

/-- SPEED_SOURCE_REVERT (R72): the two figures have agreed for 1 s. -/
def execSpeedSourceRevert (t : Nat) (s : State) : Outcome :=
  guardWf (t < 256) (.next (match s.flag Pg.fabric FABRIC.TILE_SPEED_EST_SOURCE t, (s.tile t).agreeAt with
    | true, some a =>
      let s := s.reach (a + cyclesSec 1)
      let x := s.tile t
      let s := (s.setTile t { x with slowObs := 0, agreeAt := none }).set Pg.fabric FABRIC.TILE_SPEED_EST_SOURCE 0 t
      s.set Pg.fabric FABRIC.TILE_SPEED_SPEED (min (canarySpeed x.canary) 65535) t
    | _, _ => s))

/-! ### The margin engine (R79 to R90, R464) -/

/-- ESCALATION_TRIGGER (R79): CONSEC_MISS has reached 8 and no stage is under way; the engine acts from the next tick of
the tile's domain. -/
def execEscalationTrigger (t : Nat) (s : State) : Outcome :=
  guardWf (t < 256) (.next (
    let free := match s.esc t with
      | some e => e.stage == .settled
      | none => true
    whenHolds (free && 8 ≤ s.get Pg.fabric FABRIC.TILE_STAT_CONSEC_MISS t) s fun s =>
      let d := s.tileDomain t
      (s.reach (s.tickCycle d ((s.dom d).count + 1))).escalate t))

/-- AVS_ACK (R464): Vout reads back as `mv`, and the settling wait starts. -/
def execAvsAck (mv : Nat) (s : State) : Outcome :=
  .next (match s.fabric.raise with
    | some r =>
      if r.settling then s
      else
        let s := s.onFabric fun f => { f with raise := some { r with settling := true, ackAt := s.now }, coreMv := r.mv }
        let s := (s.set Pg.life LIFE.VCORE_READ_VALID 1).set Pg.life LIFE.VCORE_READ_MV mv
        if r.forReplan then s.count Pg.life LIFE.REPLAN_STEPS else s
    | none => s)

/-- The re-plan's request in hand lowers VCORE (R460, step 2). -/
def State.lowersVcore (s : State) (r : Raise) : Bool :=
  r.forReplan && (match s.life.replan with
    | some x => x.lowering && !x.raising
    | none => false)

/-- Stage 1 for a slack warning (R83): a raise that is outstanding serves it, or one is requested; a lowering of the
re-plan is no raise, and the request follows it. -/
def State.warnRaise (s : State) (t : Nat) : State :=
  match s.fabric.raise with
  | some r => s.onFabric fun f => { f with raise := some { r with warned := t :: r.warned } }
  | none =>
    if !s.avsEnabled then s
    else if s.atCeiling then s.event Pg.fabric 10
    else (s.startRaise [t]).setStage t 1

/-- AVS_SETTLE_DONE (R81): 250 µs after the regulator's answer, the passes of the waiting tiles are observed from here;
after a lowering their own raise goes out instead, and that of a slack warning. -/
def execAvsSettleDone (s : State) : Outcome :=
  .next (match s.fabric.raise with
    | some r =>
      if !r.settling then s
      else
        let s := s.reach (r.ackAt + cyclesUs 250)
        let waiting := s.awaiting .voltage
        let lowered := s.lowersVcore r
        let s := s.onFabric fun f => { f with raise := none }
        let s := if r.forReplan then { s with life := { s.life with settledAt := s.now } } else s
        if lowered then (s.each waiting State.fromVoltage).each r.warned State.warnRaise |>.showStage
        else
          let s := s.each r.warned fun s t => s.setTile t { s.tile t with lowSlack := 0 }
          (s.each waiting fun s t => s.observe t .voltage).showStage
    | none => s)

/-- AVS_NOACK (R464): 1 ms without an acknowledgement; sent again twice; after the third failure the waiting tiles go on to
relocation. -/
def execAvsNoack (s : State) : Outcome :=
  .next (match s.fabric.raise with
    | some r =>
      if r.settling then s
      else
        let s := s.reach (r.ackAt + cyclesMs 1)
        let s := (s.count Pg.life LIFE.AVS_NOACK).event Pg.life 6
        if r.tries < 2 then s.onFabric fun f => { f with raise := some { r with tries := r.tries + 1, ackAt := s.now } }
        else
          let s := s.onFabric fun f => { f with raise := none }
          let s := match r.forReplan, s.life.replan with
            | true, some x => { s with life := { s.life with replan := some { x with failed := true } } }
            | _, _ => s
          (s.each (s.awaiting .voltage) State.fromRelocation).showStage
    | none => s)

/-- STAGE_JUDGED (R79). -/
def execStageJudged (t : Nat) (s : State) : Outcome :=
  guardWf (t < 256) (.next (match s.esc t with
    | some e => if e.observing && 8 ≤ e.seen.length then s.judge t e else s
    | none => s))


/-- The unit's image and its parameters, as they stand on the source, lie in the reserved region of the destination
(R84, R85). -/
def Tile.takeUnit (x : Tile) (d : PlanDest) (src : Tile) : Tile :=
  { x with
    imem := d.imem.foldl (fun m e => nput 0 m e.1 e.2) x.imem
    x := d.xmem.foldl (fun m e => nput 0 m e.1 e.2) x.x
    y := d.ymem.foldl (fun m e => nput 0 m e.1 e.2) x.y
    bankA := d.params.foldl (fun m e => nput 0 m e.2 (nget 0 src.bankA e.1)) x.bankA
    bankB := d.params.foldl (fun m e => nput 0 m e.2 (nget 0 src.bankB e.1)) x.bankB }

/-- The copy of a relocation into its destination. -/
def State.copyUnit (s : State) (r : Reloc) : State :=
  match s.planUnits.find? fun e => e.2.uid == r.uid with
  | some e => (match e.2.dests.find? fun d => d.tile == r.dst with
    | some d =>
      let src := s.tile r.src
      let src' := if s.flag (Pg.awl r.src) AWL.PSTAT_ACTIVE_BANK == s.flag (Pg.awl r.dst) AWL.PSTAT_ACTIVE_BANK then src
        else { src with bankA := src.bankB, bankB := src.bankA }
      s.setTile r.dst ((s.tile r.dst).takeUnit d src')
    | none => s)
  | none => s

/-- RELOC_COPY_DONE (R85): the unit lies in the destination's memories. -/
def execRelocCopyDone (uid : Nat) (s : State) : Outcome :=
  .next (match s.relocOf uid with
    | some r => if r.phase = .copy then (s.copyUnit r).setPhase uid (.shadow 0) else s
    | none => s)

/-- RELOC_WARM_DONE (R85): the fade's first block is that of the next pass. -/
def execRelocWarmDone (uid : Nat) (s : State) : Outcome :=
  .next (match s.relocOf uid with
    | some r =>
      match r.phase with
      | .shadow n => if s.get Pg.fabric FABRIC.RELOC_CFG_WARM_BLOCKS ≤ n then s.setPhase uid (.fade 0) else s
      | _ => s
    | none => s)

/-- RELOC_DONE (R86): the fade or crossfade has been delivered whole. -/
def execRelocDone (uid : Nat) (s : State) : Outcome :=
  .next (match s.relocOf uid with
    | some r =>
      match r.phase with
      | .fade n =>
        if s.relocBlocks r < n then
          let s := (s.onFabric fun f => f.place' uid r.dst).dropReloc r
          ((s.count Pg.fabric FABRIC.RELOC_COUNT).event Pg.fabric 4).serveRelocation.showStage
        else s
      | _ => s
    | none => s)

/-- ESCALATION_END (R80): 10 s without a deadline miss. -/
def execEscalationEnd (t : Nat) (s : State) : Outcome :=
  guardWf (t < 256) (.next (match s.esc t with
    | some e =>
      if s.now < e.missAt + cyclesSec 10 then s
      else
        let s := s.onFabric fun f => { f with escs := SMap.erase f.escs t }
        (s.set Pg.fabric FABRIC.TILE_STAT_ESCALATED 0 t).showStage
    | none => s))


/-- SLACK_WARN (R83). -/
def execSlackWarn (t : Nat) (s : State) : Outcome :=
  guardWf (t < 256) (.next (
    whenHolds (s.get Pg.fabric FABRIC.MARGIN_CTRL_SLACK_WARN ≠ 0 && 1024 ≤ (s.tile t).lowSlack) s fun s =>
      ((s.event Pg.fabric 1).setTile t { s.tile t with lowSlack := 0 }).warnRaise t))

/-- RESTORE (R89). -/
def execRestore (t cls : Nat) (s : State) : Outcome :=
  guardWf (t < 256 && inRange 1 cls 7) (.next (whenHolds (s.mayRestore t cls) s fun s => s.restoreClass t cls))

/-- SHED_BACKOFF_RESET (R90). -/
def execShedBackoffReset (t cls : Nat) (s : State) : Outcome :=
  guardWf (t < 256 && inRange 1 cls 7) (.next (
    whenHolds ((s.shedRec t cls).at_ + cyclesSec 600 ≤ s.now) s fun s =>
      s.setShedRec t cls { s.shedRec t cls with hold := 10 }))

/-- Every hold time returns to 10 s. -/
def State.clearBackoff (s : State) : State :=
  s.onFabric fun f => { f with sheds := f.sheds.map fun e => (e.1, { e.2 with hold := 10 }) }

/-- BACKOFF_CLR (R90). -/
def execBackoffClr (m : Master) (s : State) : Outcome := .next (s.writeTo m Pg.fabric State.clearBackoff)

end Sys2Proof.Machine
end

