-- ==== Sys2Proof/Machine/FlowOps.lean ====
section
/-!
DEFINITION. What the flow engine does (chapter 14): matching and checking packets, placing and taking samples,
concealment, packets built and posted, and the contexts of a page that is drained, killed or reset.
-/

namespace Sys2Proof.Machine

/-! ### Matching (R351) -/

def FlowCtx.dst (x : FlowCtx) : List Word := if x.pathB then x.desc.dstB else x.desc.dstA
def FlowCtx.filter (x : FlowCtx) : List Word := if x.pathB then x.desc.srcB else x.desc.srcA

/-- The key of a receive path: port, destination address and port, source filter, VLAN identifier. -/
def FlowCtx.key (x : FlowCtx) : Nat × List Word × Nat × List Word × Option Nat :=
  (x.port, x.dst, x.desc.dport, x.filter, if x.desc.vlan then some (x.desc.tci.toNat % 4096) else none)

/-- A frame matches a path. -/
def FlowCtx.accepts (x : FlowCtx) (port : Nat) (h : Headers) (l : List Byte) : Bool :=
  !x.freeing && x.port == port && x.desc.ipv6 == h.ipv6 && h.dport l == some x.desc.dport && x.dst == h.dst &&
    (x.filter.all (· == 0) || x.filter == h.src) &&
    (match h.tci with
    | some v => x.desc.vlan && v % 4096 == x.desc.tci.toNat % 4096
    | none => !x.desc.vlan)

/-- The receive context that a frame of a port matches. -/
def State.flowMatch (s : State) (port : Nat) (h : Headers) (l : List Byte) : Option Nat :=
  (s.flow.ctxs.find? fun e => e.1 < 512 && e.2.accepts port h l).map (·.1)

/-! ### Checking and placing a packet (R352, R358, R359, R365, R366) -/

/-- An RTP packet: whether it is version 2 and whole, its fields, and its payload. -/
structure Rtp where
  ok : Bool
  pt : Nat
  seq : Nat
  ts : Word
  ssrc : Word
  payload : List Byte
  deriving DecidableEq, Repr

/-- The RTP packet of a UDP datagram whose header begins at `u`. -/
def rtpOf (l : List Byte) (u : Nat) : Rtp :=
  let r := u + 8
  let stop := u + be16 l (u + 4)
  let b0 := byteAt l r
  let head := 12 + 4 * (b0 % 16)
  let head := if b0.testBit 4 then head + 4 + 4 * be16 l (r + head + 2) else head
  let pad := if b0.testBit 5 then byteAt l (stop - 1) else 0
  { ok := b0 / 64 == 2 && stop ≤ l.length && r + head + pad ≤ stop && (!b0.testBit 5 || 1 ≤ pad),
    pt := byteAt l (r + 1) % 128, seq := be16 l (r + 2), ts := BitVec.ofNat 32 (be32 l (r + 4)),
    ssrc := BitVec.ofNat 32 (be32 l (r + 8)), payload := (l.drop (r + head)).take (stop - pad - (r + head)) }

/-- A drop counted in FMT_ERR. -/
def State.fmtErr (s : State) (c : Nat) : State := (s.ctxCount c FLOW.FMT_ERR).event (ctxPage c) 7

/-- Sample `ch` of period `i`, left-aligned in 32 bits (R354, R360). -/
def sampleAt (payload : List Byte) (chans bytes i ch : Nat) : Word :=
  let o := (i * chans + ch) * bytes
  BitVec.ofNat 32 ((List.range bytes).foldl (fun a k => a * 256 + byteAt payload (o + k)) 0 * 2 ^ (8 * (4 - bytes)))

/-- The low-32-bit difference of two counts, as a signed number. -/
def near32 (a b : Nat) : Int := signed 32 (unsigned 32 ((a : Int) - b))

/-- The sequence gap that a new number shows, and the newest number after it. -/
def seqStep (highest : Option Nat) (seq : Nat) : Nat × Nat :=
  match highest with
  | none => (0, seq)
  | some h =>
    let ahead := (seq + 65536 - h) % 65536
    if ahead < 32768 then (ahead - 1, seq)
    else if (h + 65536 - seq) % 65536 < 512 then (0, h) else (0, seq)

/-- What a list of dated values still holds of the last second. -/
def State.lastSecond (s : State) (l : List (Nat × Int)) : List (Nat × Int) := l.filter fun e => s.now < e.1 + cyclesSec 1

/-- CTX_MARGIN shows the least margin of those kept; with none it is a free value (log 329). -/
def State.putMargin (s : State) (c : Nat) (l : List (Nat × Int)) : State :=
  match l with
  | [] => s.free.2.ctxSet c FLOW.CTX_MARGIN_NS s.free.1
  | e :: r => s.ctxSet c FLOW.CTX_MARGIN_NS (unsigned 32 (clampSym 32 (r.foldl (fun a x => min a x.2) e.2)))

/-- CTX_MARGIN: the least margin of the last second. -/
def State.showMargin (s : State) (c : Nat) (ns : Int) : State :=
  match s.ctx c with
  | none => s
  | some x =>
    let l := (s.now, ns) :: s.lastSecond x.margins
    let s := (s.setCtx c { x with margins := l }).putMargin c l
    if x.paired then s.showProtected (x.home c) else s

/-- Words of a playout ring: the smallest power of two not below W + 32 (R360). -/
def playRing (hz : Nat) : Nat := if hz ≤ 48000 then 1024 else if hz ≤ 96000 then 2048 else 4096

/-- The Girth offset of a channel's sample with a media count in the playout buffer of context `a`: a ring per channel,
outside the vault area; where firmware places the buffer the spec does not say (free, log 229). -/
def State.playAddr (s : State) (a hz count ch : Nat) : Nat :=
  (Config.playBase a % s.vaultBase / 16 * 16 + 4 * (ch * playRing hz + count % playRing hz)) % s.vaultBase

/-- One sample period stored in the playout buffer of context `a`, left missing where a write of it is shadowed (R373).
Answers whether one was. -/
def State.placeSample (s : State) (a hz count : Nat) (v : List Word) : State × Bool :=
  let r := v.zipIdx.foldl (fun r e =>
    let q := r.1.store 1 5 (r.1.playAddr a hz count e.2) (bytesOf e.1)
    (q.1, r.2 || q.2)) (s, false)
  (r.1.onCtx a fun y => { y with
    placed := (if r.2 then [] else [count]) ++ y.placed.filter fun k => k % playRing hz ≠ count % playRing hz }, r.2)

/-- Samples of an accepted packet enter the playout buffer. -/
def State.placePacket (s : State) (c : Nat) (x : FlowCtx) (p : Rtp) (shadowed : List Nat) : State :=
  let hz := s.ctxHz x
  let sper := s.ctxS x
  let now := s.countNow x.desc.domain
  let rel := near32 (p.ts - x.desc.ofs).toNat now
  let delay := s.delayOf c x
  let first := rel + delay
  let late := first < 0
  let early := (playWindow hz : Int) ≤ first + sper - 1
  let s := if shadowed.isEmpty then s else s.shadowed 1
  let r := (List.range sper).foldl (fun (r : State × Bool) (i : Nat) =>
    let at_ : Int := first + (i : Int)
    if 0 ≤ at_ && at_ < playWindow hz && !shadowed.contains i then
      let q := r.1.placeSample (x.home c) hz (unsigned 64 ((now : Int) + rel + (i : Int)))
        ((List.range x.desc.channels).map fun ch => sampleAt p.payload x.desc.channels (sampleBytes x.desc.enc) i ch)
      (q.1, r.2 || q.2)
    else r) (s, !shadowed.isEmpty)
  let s := r.1
  let s := if late then ((s.ctxCount c FLOW.LATE_PKTS).event (ctxPage c) 4).lifeAdd (ctxPage c) 1 else s
  let s := if early then (s.ctxCount c FLOW.EARLY).event (ctxPage c) 5 else s
  let s := if r.2 then (s.ctxCount c FLOW.SHADOWED).event (ctxPage c) 8 else s
  let d := s.dom x.desc.domain
  -- Presentation time of the first sample less now, in ns: cycles are 8/5 ns.
  let ns := exactDiv (((now : Int) + first - d.media) * 5000000000 - 8 * hz * ((s.now : Int) - d.tickAt)) (5 * hz)
  let s := (s.ctxSet c FLOW.CTX_LAST_SEQ_SEQ p.seq).ctxSet c FLOW.CTX_LAST_TS_TS p.ts.toNat
  (s.ctxCount c FLOW.PKTS).showMargin c ns

/-- CTX_SKEW: the mean difference of arrivals of the last second. -/
def State.showSkew (s : State) (a : Nat) : State :=
  match s.ctx a with
  | some x =>
    if x.skews.isEmpty then s.ctxSet a FLOW.CTX_SKEW_NS 0
    else s.ctxSet a FLOW.CTX_SKEW_NS (unsigned 32 (clampSym 32
      (exactDiv (8 * x.skews.foldl (fun t e => t + e.2) 0) (5 * x.skews.length))))
  | none => s

/-- Margins and arrival differences older than a second leave CTX_MARGIN, CTX_SKEW and PROTECTED. -/
def State.ageCtx (s : State) (c : Nat) : State :=
  match s.ctx c with
  | none => s
  | some x =>
    let m := s.lastSecond x.margins
    let k := s.lastSecond x.skews
    let t := s.setCtx c { x with margins := m, skews := k }
    let t := if m = x.margins then t else (let u := t.putMargin c m; if x.paired then u.showProtected (x.home c) else u)
    if k = x.skews then t else t.showSkew c

/-- A path has accepted a packet: it learns the SSRC (R352). -/
def State.accepted (s : State) (c : Nat) (x : FlowCtx) (p : Rtp) : State :=
  let s := s.onCtx c fun y => { y with learned := some p.ssrc, acceptAt := s.now }
  if x.desc.ssrc = 0 then s.ctxSet c FLOW.CTX_SSRC_SSRC p.ssrc.toNat else s

/-- A path has delivered a packet, placed or duplicate (R367). -/
def State.delivered (s : State) (c : Nat) (x : FlowCtx) (p : Rtp) : State :=
  let recent (l : List (Nat × Nat)) := l.filter fun e => s.now < e.2 + cyclesSec 1
  let s := s.onCtx c fun y => { y with
    deliverAt := s.now
    upSince := match y.upSince with | some t => some t | none => some s.now
    arrivals := (p.seq, s.now) :: recent y.arrivals }
  if x.paired then
    let other := if x.pathB then c - 1 else c + 1
    match (s.ctx other).bind fun y => (recent y.arrivals).find? fun e => e.1 == p.seq with
    | some (_, at_) =>
      let diff : Int := if x.pathB then (s.now : Int) - at_ else (at_ : Int) - s.now
      let s := s.onCtx (x.home c) fun y => { y with
        skews := (s.now, diff) :: s.lastSecond y.skews }
      s.showSkew (x.home c)
    | none => s
  else s

/-- The SSRC that a path accepts now: none where it learns. -/
def State.ssrcWanted (s : State) (x : FlowCtx) : Option Word :=
  if x.desc.ssrc ≠ 0 then some x.desc.ssrc
  else if x.acceptAt + cyclesSec 1 ≤ s.now then none else x.learned

/-- The checks of R352 in their order, and what each leads to. -/
def State.checkPacket (s : State) (c : Nat) (x : FlowCtx) (csumOk : Bool) (p : Rtp) (shadowed : List Nat) : State :=
  let size := x.desc.channels * s.ctxS x * sampleBytes x.desc.enc
  if !csumOk || !p.ok || p.pt ≠ x.desc.pt then s.fmtErr c
  else if (s.ssrcWanted x).any (· ≠ p.ssrc) then s.fmtErr c
  else if p.payload.length ≠ size then s.fmtErr c
  else
    let a := x.home c
    match s.ctx a with
    | none => s
    | some h =>
      let seen := h.hist.find? fun e => e.1 == p.seq
      if seen.any fun e => e.2 ≠ p.ts then s.fmtErr c
      else if seen.isSome then (s.delivered c x p).ctxCount c FLOW.DUP
      else
        let y := s.policer x
        if y.tokens < s.packetTokens x then
          ((s.onCtx c fun z => { z with tokens := y.tokens, tokensAt := y.tokensAt }).ctxCount c FLOW.POLICED).event
            (ctxPage c) 6
        else
          let s := s.onCtx c fun z => { z with tokens := y.tokens - s.packetTokens x, tokensAt := y.tokensAt }
          let (gaps, top) := seqStep h.highest p.seq
          let s := s.onCtx a fun z => { z with
            highest := some top
            hist := (p.seq, p.ts) :: z.hist.filter fun e => (top + 65536 - e.1) % 65536 < 512 }
          let s := if gaps = 0 then s else s.ctxCount c FLOW.SEQ_GAPS gaps
          ((s.accepted c x p).delivered c x p).placePacket c x p shadowed

/-- One packet of a context, by the context's state (R376, R377). -/
def State.contextPacket (s : State) (c : Nat) (csumOk : Bool) (p : Rtp) (shadowed : List Nat) : State :=
  match s.ctx c with
  | none => s
  | some x =>
    let st := s.ctxState c
    if st = Cs.draining then s.ctxCount c FLOW.POLICED
    else if st = Cs.stopped then s
    else s.checkPacket c x csumOk p shadowed

/-- A packet that the flow engine reads from ring 0: its context, whether the UDP checksum allows it, and its RTP part. -/
structure RingPacket where
  ctx : Nat
  csumOk : Bool
  rtp : Rtp
  deriving DecidableEq, Repr

/-- A frame waits in a port's ring 0. -/
def State.ringWaits (s : State) (port : Nat) : Bool :=
  s.get (Pg.mac port) MAC.RXR_CFG_COUNT 0 ≠ 0 &&
    s.get (Pg.mac port) MAC.RXR_PROD_PROD 0 ≠ s.get (Pg.mac port) MAC.RXR_CONS_CONS 0

/-- The flow engine reads the oldest frame of a port's ring 0 (R294 to R296). -/
def State.readRing (s : State) (port : Nat) : State × Option RingPacket :=
  let pg := Pg.mac port
  let cons := s.get pg MAC.RXR_CONS_CONS 0
  let (s, d) := s.netRead 5 (s.get pg MAC.RXR_BASE_BASE 0 / 16 * 16 + 16 * cons) 8 []
  let w0 := wordOf ((d[0]?).getD 0) ((d[1]?).getD 0) ((d[2]?).getD 0) ((d[3]?).getD 0)
  let tci := ((d[4]?).getD 0).toNat + 256 * ((d[5]?).getD 0).toNat
  let slot := s.get pg MAC.RXR_DATA_DATA 0 / 1024 * 1024 + cons * (2048 * s.get pg MAC.RXR_CFG_SLOT_KIB 0)
  let (s, l) := s.netRead 5 slot (w0.toNat % 2 ^ 14) []
  let h := headers l
  let h := if w0.getLsbD 16 then { h with tci := some tci } else h
  (s, match s.flowMatch port h l, h.udp with
    | some c, some u => some ⟨c, w0.getLsbD 21 || be16 l (u + 6) == 0, rtpOf l u⟩
    | _, _ => none)

/-- The oldest frame leaves a port's ring 0; the packets of a page that is being killed are discarded (R377). -/
def State.takeFrame (s : State) (port : Nat) (shadowed : List Nat) (kill : Option Nat) : State :=
  if s.ringWaits port then
    let pg := Pg.mac port
    let r := s.readRing port
    let s := r.1.set pg MAC.RXR_CONS_CONS ((s.get pg MAC.RXR_CONS_CONS 0 + 1) % s.get pg MAC.RXR_CFG_COUNT 0) 0
    let s := s.pauseUpdate port
    match r.2 with
    | some k => if kill = some (k.ctx % 512 / 32) then s else s.contextPacket k.ctx k.csumOk k.rtp shadowed
    | none => s
  else s

/-- The port of path A whose copy of the same packet waits in its ring at the same time: a path B packet that heads this
port's ring lets it go first (R365). -/
def State.twinPort (s : State) (port : Nat) : Option Nat :=
  match (s.readRing port).2 with
  | some k =>
    match s.ctx k.ctx with
    | some x =>
      if x.pathB && s.ringWaits x.desc.portA &&
          ((s.readRing x.desc.portA).2.any fun j => j.ctx + 1 == k.ctx && j.rtp.seq == k.rtp.seq) then some x.desc.portA
      else none
    | none => none
  | none => none

/-- The flow engine takes the oldest frame of a port's ring 0 (R352), behind its path A copy of one placement cycle. -/
def State.takeRing (s : State) (port : Nat) (shadowed : List Nat) : State :=
  match (if s.ringWaits port then s.twinPort port else none) with
  | some a => (s.takeFrame a [] none).takeFrame port shadowed none
  | none => s.takeFrame port shadowed none

/-! ### Taking samples (R360 to R364) -/

/-- A sample times num / den. -/
def fraction (v : Word) (num den : Nat) : Word := BitVec.ofInt 32 (exactDiv (v.toInt * num) den)

/-- What the engine takes for one context in one block: its counters, the samples (channel 0 first), how many were
missing, and how often it entered and left CONCEAL. -/
structure Taken where
  waiting : Bool
  missing : Nat
  since : Nat
  out : List (List Word)
  lost : Nat
  entered : Nat
  left : Nat
  deriving DecidableEq, Repr

/-- One sample period, whose received value has media count `m` (R361, R362). -/
def takeSample (play : SMap Nat (List Word)) (chans sper m : Nat) (k : Taken) : Taken :=
  match SMap.find? play m with
  | some v =>
    let v := if k.since < sper then v.map fun w => fraction w (k.since + 1) sper else v
    { k with waiting := false, missing := 0, since := k.since + 1, out := k.out ++ [v],
             left := k.left + (if k.missing = 0 then 0 else 1) }
  | none =>
    if k.waiting then { k with out := k.out ++ [List.replicate chans 0] }
    else
      let zeros := List.replicate chans (0 : Word)
      let v := if k.missing < sper then
          ((SMap.find? play ((m + wrap64 - sper) % wrap64)).getD zeros).map fun w => fraction w (sper - 1 - k.missing) sper
        else zeros
      { k with missing := k.missing + 1, since := 0, out := k.out ++ [v], lost := k.lost + 1,
               entered := k.entered + (if k.missing = 0 then 1 else 0) }

/-- A block faded out or in over its length. -/
def fadeBlock (out : Bool) (l : List (List Word)) : List (List Word) :=
  l.zipIdx.map fun e => e.1.map fun w => fraction w (if out then l.length - 1 - e.2 else e.2 + 1) l.length

/-- The blocks of a context's channels, which reach its patch points once this tick has delivered. -/
def State.fillPatches (s : State) (base chans : Nat) (l : List (List Word)) : State :=
  s.each (List.range chans) fun t ch =>
    t.onMix fun x => { x with filling := nset x.filling (base + ch) (l.map fun v => (v[ch]?).getD 0) }

/-- The engine writes a context's block to its patch points on NET; a shadowed write keeps the winning value and counts
(R373). -/
def State.landBlock (s : State) (c : Nat) (x : FlowCtx) : State :=
  s.each ((List.range x.desc.channels).map (x.desc.patch + ·)) fun t q =>
    match SMap.find? t.mix.filling q with
    | some l =>
      let r := t.putBlock 1 5 q l
      let t := r.1.onMix fun m => { m with filling := SMap.erase m.filling q }
      if r.2 then (t.ctxCount c FLOW.SHADOWED).event (ctxPage c) 8 else t
    | none => t

/-- Every block that the receive contexts have filled. -/
def State.landFlows (s : State) : State :=
  s.each (s.flow.ctxs.filter fun e => e.1 < 512 && !e.2.pathB) fun t e => t.landBlock e.1 e.2

/-- FLOW_UNDERRUN of a receive context. -/
def State.underrunSource (s : State) (c : Nat) : State :=
  s.setSource Src.underrun c (s.ctxGet c FLOW.CTX_STAT_UNDERRUN == 1)

/-- The counters of a block, and the events of a context that still runs. -/
def State.concealState (s : State) (c : Nat) (k : Taken) (runs : Bool) : State :=
  let p := ctxPage c
  let s := if 0 < k.lost then
      ((((s.ctxCount c FLOW.CONCEALED k.lost).lifeAdd p 0 k.lost).ctxSet c FLOW.CTX_STAT_UNDERRUN 1).onCtx c fun x =>
        { x with missAt := s.now }).underrunSource c
    else s
  let s := if runs && 0 < k.entered then s.event p 0 else s
  if runs && 0 < k.left then s.event p 1 else s

/-- A context that is in CONCEAL leaves it for another state (R378). -/
def State.leaveConceal (s : State) (c : Nat) : State :=
  if s.ctxState c = Cs.conceal then s.event (ctxPage c) 1 else s

/-- Members of a group in CONCEAL. -/
def State.showGroup (s : State) (g : Nat) : State :=
  s.set (Pg.flow 0) FLOW.GRP_STAT_CONCEALING
    (s.flow.ctxs.countP fun e => e.1 < 512 && !e.2.pathB && e.2.desc.group == some g && s.ctxState e.1 == Cs.conceal) g

/-- A DELAY change comes one tick nearer; the state, and whether this block fades out or in (R364). -/
def State.delayTick (s : State) (c : Nat) (x : FlowCtx) : State × Option Bool :=
  match x.desc.group with
  | some g =>
    match SMap.find? s.flow.grpNext g with
    | some (_, 1) => (s, some true)
    | some (_, 0) => (s, some false)
    | _ => (s, none)
  | none =>
    match x.delayNext with
    | some (_, 2) => (s.onCtx c fun y => { y with delayNext := y.delayNext.map fun e => (e.1, 1) }, some true)
    | some (v, _) =>
      let s := s.onCtx c fun y => { y with delayNext := none }
      (((s.each (x.both c) fun t k => t.ctxSet k FLOW.CTX_DELAY_DELAY v)).event (ctxPage c) 11, some false)
    | none => (s, none)

/-- Group DELAY changes of a domain come one tick nearer: ticks left 2, then 1 (the fade-out), then 0 (applied). -/
def State.groupTick (s : State) (d : Nat) : State :=
  s.each s.flow.grpNext fun t e =>
    if t.get (Pg.flow 0) FLOW.GRP_CFG_DOMAIN e.1 = d then
      if e.2.2 = 2 then t.onFlow fun f => { f with grpNext := nset f.grpNext e.1 (e.2.1, 1) }
      else if e.2.2 = 1 then
        let t := t.onFlow fun f => { f with grpNext := nset f.grpNext e.1 (e.2.1, 0) }
        let t := (t.set (Pg.flow 0) FLOW.GRP_CFG_DELAY e.2.1 e.1).event (Pg.flow 0) 11
        t.each (t.flow.ctxs.filter fun k => k.1 < 512 && k.2.desc.group == some e.1) fun u k =>
          u.ctxSet k.1 FLOW.CTX_DELAY_DELAY e.2.1
      else t.onFlow fun f => { f with grpNext := SMap.erase f.grpNext e.1 }
    else t

/-- A context's registers of its allocation return to 0; its counters stand. -/
def State.clearCtx (s : State) (c : Nat) : State :=
  { s with regs := s.regs.filter fun e =>
      !(e.1.p == ctxPage c && e.1.i == ctxSel c && inRange 0x044 e.1.off 0x064) }

/-- A context leaves its group (R363). -/
def State.leaveGroup (s : State) (x : FlowCtx) : State :=
  match x.desc.group with
  | none => s
  | some g =>
    let p := Pg.flow 0
    let n := s.get p FLOW.GRP_CFG_MEMBERS g - 1
    let s := s.set p FLOW.GRP_CFG_MEMBERS n g
    if n = 0 then
      let s := ((s.set p FLOW.GRP_CFG_IN_USE 0 g).set p FLOW.GRP_CFG_DOMAIN 0 g).set p FLOW.GRP_CFG_DELAY 0 g
      s.onFlow fun f => { f with grpNext := SMap.erase f.grpNext g }
    else s

/-- A context, with its partner, is free. -/
def State.freeCtx (s : State) (c : Nat) : State :=
  match s.ctx c with
  | none => s
  | some x =>
    let a := x.home c
    let s := if a < 512 then s.leaveGroup x else s
    let s := s.each (x.both c) fun t k =>
      let t := if k < 512 then (t.clearCtx k).underrunSource k else t.clearCtx k
      t.onFlow fun f => { f with ctxs := SMap.erase f.ctxs k }
    let s := if a < 512 then
        let s := if x.paired then s.lower Src.pathLoss a else s
        s.each ((List.range x.desc.channels).map (x.desc.patch + ·)) fun t q =>
          (t.putBlock 1 5 q (List.replicate (t.domB x.desc.domain) 0)).1
      else s
    match x.desc.group with
    | some g => if a < 512 then s.showGroup g else s
    | none => s

/-- FLOW_DEL of a receive context is answered once it is free (R52, R375). -/
def State.flowFreed (s : State) : State :=
  match s.ctrl.short with
  | some l =>
    if s.fwState = Fw.run && l.op.toNat = Op.flowDel && (s.ctx (nget 0 s.ctrl.req 1).toNat).isNone then
      s.done Op.flowDel l.tag
    else s
  | none => s

/-- A context is free, and a FLOW_DEL that waits for it is answered. -/
def State.releaseCtx (s : State) (c : Nat) : State := (s.freeCtx c).flowFreed

/-- The samples of a context that the engine reads for a block, by media count: those that are placed and, in every
channel, not poisoned; a poisoned one counts (R361). -/
def State.readPlay (s : State) (c : Nat) (x : FlowCtx) (counts : List Nat) : State × SMap Nat (List Word) :=
  let hz := s.ctxHz x
  (counts.filter x.placed.contains).foldl (fun r m =>
    let chans := List.range x.desc.channels
    let q := chans.foldl (fun (q : State × List Word) ch =>
      let f := q.1.fetch 1 5 (q.1.playAddr c hz m ch) 4
      (f.1, q.2 ++ wordsOf f.2)) (r.1, [])
    let bad := chans.countP fun ch => q.1.girth.poison.contains (q.1.playAddr c hz m ch / 4)
    if bad = 0 then (q.1, nset r.2 m q.2) else (q.1.ctxCount c FLOW.POISON_TXDROP bad, r.2)) (s, [])

/-- Patch points that some other unit of the running plan, or another context, writes. -/
def State.writtenElsewhere (s : State) (c q : Nat) : Bool :=
  let sapIn (n : Nat) : List Nat := (List.range 32).filterMap fun k =>
    if k < (List.range 32).countP (s.get (Pg.sap n) SAP.MASK_IN_SLOTS).testBit then
      some (s.get (Pg.sap n) SAP.PATCH_IN_BASE + k) else none
  (s.working.any fun e => e.2.outputs.contains q) ||
    (match s.fabric.running with
    | some p => (p.bridges.any fun b => b.dst == q) || (p.streams.any fun x => x.read && x.patch == q) ||
        p.saps.any fun x => (sapIn x.port).contains q
    | none => false) ||
    s.flow.ctxs.any fun e => e.1 < 512 && e.1 / 2 ≠ c / 2 && !e.2.orphan && e.2.desc.patch ≤ q &&
      q < e.2.desc.patch + e.2.desc.channels

/-- A context that neither runs nor fades: silence, but where an orphan's patch points are another's now (R376). -/
def State.fillSilence (s : State) (c : Nat) (x : FlowCtx) (b : Nat) : State :=
  s.each ((List.range x.desc.channels).map (x.desc.patch + ·)) fun t q =>
    if x.orphan && t.writtenElsewhere c q then t
    else t.onMix fun m => { m with filling := nset m.filling q (List.replicate b 0) }

/-- The engine takes the block of counts N to N + B - 1 for one receive context; the first block on a new DELAY, at the
tick of a re-base, on the new counts (R364). -/
def State.takeContext (s : State) (c : Nat) (x : FlowCtx) (n b : Nat) : State :=
  let st := s.ctxState c
  let runs := st = Cs.wait || st = Cs.run || st = Cs.conceal
  let (s, fade) := s.delayTick c x
  if !runs && !x.fading then
    if x.freeing then s.releaseCtx c else s.fillSilence c x b
  else
    let delay := s.delayOf c x
    let n := if fade = some false then unsigned 64 (n + (s.dom x.desc.domain).shift) else n
    let at_ (i : Nat) : Nat := (n + i + wrap64 - delay) % wrap64
    let sper := s.ctxS x
    let r := s.readPlay c x (((List.range b).map at_ ++ (List.range b).map fun i => (at_ i + wrap64 - sper) % wrap64).eraseDups)
    let s := r.1
    let k0 : Taken := { waiting := st = Cs.wait, missing := x.missing, since := x.since, out := [], lost := 0,
                        entered := 0, left := 0 }
    let k := (List.range b).foldl (fun k i => takeSample r.2 x.desc.channels sper (at_ i) k) k0
    let out := match fade with
      | some f => fadeBlock f k.out
      | none => k.out
    let out := if x.fading then fadeBlock true out else out
    let old := (n + wrap64 - 8192) % wrap64
    let s := s.onCtx c fun y => { y with
      missing := k.missing
      since := min k.since sper
      fading := false
      placed := y.placed.filter fun e => (e + wrap64 - old) % wrap64 < wrap64 / 2 }
    let s := s.concealState c k (runs && !x.freeing)
    let s := if !runs || x.freeing then s
      else s.setCtxState c (if k.waiting then Cs.wait else if k.missing = 0 then Cs.run else Cs.conceal)
    let s := s.fillPatches x.desc.patch x.desc.channels out
    let s := match x.desc.group with
      | some g => s.showGroup g
      | none => s
    if x.freeing then s.setCtxState c Cs.draining else s

/-- Every receive context of a domain at a tick, before the media count moves on. -/
def State.takeFlows (s : State) (d : Nat) : State :=
  let n := (s.dom d).media
  let s := s.groupTick d
  s.each (s.flow.ctxs.map (·.1)) fun t c =>
    let t := t.ageCtx c
    match t.ctx c with
    | some x => if c < 512 && !x.pathB && x.desc.domain = d then t.takeContext c x n (t.domB d) else t
    | none => t

/-! ### Transmission (R356, R368 to R374) -/

/-- The destination MAC address of a path (R349). -/
def FlowDesc.mac (x : FlowDesc) (b : Bool) : Nat :=
  let m := if b then x.macB else x.macA
  let dst := ((if b then x.dstB else x.dstA)[if x.ipv6 then 3 else 0]?).getD 0
  if m ≠ 0 then m
  else if x.ipv6 then 0x3333 * 2 ^ 32 + dst.toNat
  else 0x01005E * 2 ^ 24 + dst.toNat % 2 ^ 23

def wordBytes (l : List Word) : List Byte := l.flatMap fun w => beBytes w.toNat 4

/-- The UDP checksum, of the pseudo-header and the datagram; 0 is sent as 0xFFFF. -/
def udpSum (src dst : List Byte) (udp : List Byte) : Nat :=
  let v := inetSum (src ++ dst ++ [0, 17] ++ beBytes udp.length 2 ++ udp)
  if v = 0 then 0xFFFF else v

/-- The frame of a packet on one path (R369). -/
def State.flowFrame (s : State) (x : FlowDesc) (b : Bool) (rtp : List Byte) : List Byte :=
  let port := if b then x.portB else x.portA
  let n := if x.ipv6 then 4 else 1
  let src := wordBytes ((if b then x.srcB else x.srcA).take n)
  let dst := wordBytes ((if b then x.dstB else x.dstA).take n)
  let len := 8 + rtp.length
  let udp0 := beBytes x.sport 2 ++ beBytes x.dport 2 ++ beBytes len 2
  let udp := udp0 ++ beBytes (udpSum src dst (udp0 ++ [0, 0] ++ rtp)) 2 ++ rtp
  let ip := if x.ipv6 then
      beBytes (6 * 2 ^ 28 + x.dscp * 4 * 2 ^ 20) 4 ++ beBytes len 2 ++ [17, BitVec.ofNat 8 x.ttl] ++ src ++ dst
    else
      let h0 := [0x45, BitVec.ofNat 8 (x.dscp * 4)] ++ beBytes (20 + len) 2 ++ [0, 0, 0x40, 0, BitVec.ofNat 8 x.ttl, 17]
      h0 ++ beBytes (inetSum (h0 ++ [0, 0] ++ src ++ dst)) 2 ++ src ++ dst
  let eth := beBytes (x.mac b) 6 ++ beBytes (s.get (Pg.mac port) MAC.ADDR_HI_ADDR) 2 ++
    beBytes (s.get (Pg.mac port) MAC.ADDR_LO_ADDR) 4
  let tag := if x.vlan then [0x81, 0x00] ++ beBytes x.tci.toNat 2 else []
  eth ++ tag ++ beBytes (if x.ipv6 then 0x86DD else 0x0800) 2 ++ ip ++ udp

/-- Samples in 10 ms. -/
def n10 (hz : Nat) : Nat := hz / 100

/-- A sample of an endpoint output at release index `r` of its patch point (R419, R513): the samples of a muted patch
point are zero, those of a released one fade in from c_f. -/
def State.mutedSample (s : State) (patch hz : Nat) (r : Int) (v : Word) : Word :=
  if s.patchMuted patch then 0
  else
    match SMap.find? s.cinch.release patch with
    | none => v
    | some k =>
      let i := (k : Int) + r
      if i < 0 then 0
      else if n10 hz ≤ i.toNat + 1 then v
      else fraction v (i.toNat + 1) (n10 hz)

/-- Releases of a domain's patch points are B samples older, and end once no packet holds a sample of their fade. -/
def State.ageReleases (s : State) (d : Nat) : State :=
  { s with cinch := { s.cinch with
      release := s.cinch.release.filterMap fun e =>
        if s.patchDomain e.1 = some d then
          (if n10 (s.domHz d) + 1024 ≤ e.2 then none else some (e.1, e.2 + s.domB d))
        else some e } }

/-- A frame is posted on queue 6 of a port (R284, R371): its descriptor, and PROD, where it does not pass CONS. Where the
engine keeps a frame's bytes the spec does not say: they are held apart from the Girth, and only their poison there is
modelled (log 318). -/
def State.post (s : State) (port c : Nat) (bytes : List Byte) : State :=
  let count := s.qCount port 6
  if count = 0 || count ≤ s.qWaiting port 6 + 1 then s.set (Pg.mac port) MAC.TXQ_STAT_BAD_PROD 1 6
  else
    let buf := s.flowFrameAt c
    let words : List Word := [BitVec.ofNat 32 buf, BitVec.ofNat 32 bytes.length, 0, 0]
    let s := s.onGirth fun g => { g with
      poison := g.poison.filter fun w => !(wordsMet buf bytes.length).contains w
      upset := g.upset.filter fun e => !(wordsMet buf bytes.length).contains e.1 }
    let r := s.netWrite 5 (s.descAt port 6 (s.qProd port 6)) (words.flatMap bytesOf)
    let s := if r.2 then (r.1.ctxCount c FLOW.SHADOWED).event (ctxPage c) 8 else r.1
    let s := s.onFlow fun f => { f with posted := f.posted ++ [{ port := port, ctx := c, bytes := bytes }] }
    (s.set (Pg.mac port) MAC.TXQ_PROD_PROD ((s.qProd port 6 + 1) % count) 6).schedule port

/-- The count of the effect sample of a handover at T in a domain: the first multiple of B at or after T × fs. -/
def State.changeCount (s : State) (d : Nat) (h : Handover) : Nat :=
  (h.at_ * s.domHz d + s.domB d * nsPerSec - 1) / (s.domB d * nsPerSec) * s.domB d

/-- This node posts the packet that starts at a count: by the gating of R437, and around a handover by R446. -/
def State.mayPost (s : State) (d start : Nat) : Bool :=
  match s.keeper.armed with
  | some h => if h.incoming then s.changeCount d h ≤ start else start < s.changeCount d h
  | none => s.emits

/-- The sequence number of a packet: at a change of sender the one that HANDOVER_ACK gave. -/
def State.packetSeq (s : State) (c : Nat) (x : FlowCtx) : BitVec 16 :=
  match s.keeper.armed with
  | some h =>
    if h.incoming && s.changeCount x.desc.domain h ≤ x.nextCount then (SMap.find? s.keeper.seqs (c % 512)).getD x.seq
    else x.seq
  | none => x.seq

/-- A whole packet leaves: its last sample is sample `i` of the block that has just committed. -/
def State.sendPacket (s : State) (c i : Nat) : State :=
  match s.ctx c with
  | none => s
  | some x =>
    let hz := s.ctxHz x
    let sper := x.built.length
    let bytes := sampleBytes x.desc.enc
    let ts := BitVec.ofNat 32 x.nextCount + x.desc.ofs
    let payload := x.built.zipIdx.flatMap fun e => e.1.zipIdx.flatMap fun w =>
      let v := s.mutedSample (x.desc.patch + w.2) hz ((i : Int) + e.2 + 1 - sper) w.1
      (beBytes v.toNat 4).take bytes
    let seq := s.packetSeq c x
    let rtp := [0x80, BitVec.ofNat 8 x.desc.pt] ++ beBytes seq.toNat 2 ++ beBytes ts.toNat 4 ++
      beBytes x.desc.ssrc.toNat 4 ++ payload
    let y := s.policer x
    let post := s.mayPost x.desc.domain x.nextCount
    let sent := post && s.packetTokens x ≤ y.tokens
    let s := s.setCtx c { y with
      tokens := if sent then y.tokens - s.packetTokens x else y.tokens
      seq := seq + 1
      nextCount := (x.nextCount + sper) % wrap64
      built := [] }
    let s := { s with keeper := { s.keeper with
      seqs := if post then SMap.erase s.keeper.seqs (c % 512) else s.keeper.seqs } }
    if !post then s
    else if sent then
      let s := ((s.ctxSet c FLOW.CTX_LAST_SEQ_SEQ seq.toNat).ctxSet c FLOW.CTX_LAST_TS_TS ts.toNat).ctxCount c FLOW.PKTS
      let s := s.post x.desc.portA c (s.flowFrame x.desc false rtp)
      if x.desc.portB = 15 then s else s.post x.desc.portB c (s.flowFrame x.desc true rtp)
    else (s.ctxCount c FLOW.POLICED).event (ctxPage c) 6


/-- The Girth offset of a sample of a patch point's channel block, where it is poisoned (R201). -/
def State.poisonedSample (s : State) (q i : Nat) : Option Nat :=
  (s.blockAt q).bind fun o => if s.girth.poison.contains (o / 4 + i) then some (o + 4 * i) else none

/-- One sample period of the committed block, with count n + i, joins the packet of a context that is sending; a
poisoned word reads as 0 and counts (R368). -/
def State.collect (s : State) (c n i : Nat) : State :=
  match s.ctx c with
  | none => s
  | some x =>
    if s.ctxState c = Cs.sending && ((n + i + wrap64 - x.nextCount) % wrap64 < wrap64 / 2) then
      let bad := (List.range x.desc.channels).filter fun ch => (s.poisonedSample (x.desc.patch + ch) i).isSome
      let v := (List.range x.desc.channels).map fun ch =>
        if bad.contains ch then 0 else ((s.patchWords (x.desc.patch + ch))[i]?).getD 0
      let s := s.each bad fun t ch =>
        match t.poisonedSample (x.desc.patch + ch) i with
        | some o => (t.checkRange o 4).ctxCount c FLOW.POISON_TXDROP
        | none => t
      let s := s.setCtx c { x with built := x.built ++ [v] }
      if x.built.length + 1 = s.ctxS x then s.sendPacket c i else s
    else s

/-- Every transmit context of a domain at a tick, with the block that has just committed. -/
def State.buildFlows (s : State) (d : Nat) : State :=
  let n := (s.dom d).media
  s.each (s.flow.ctxs.map (·.1)) fun t c =>
    match t.ctx c with
    | some x => if 512 ≤ c && x.desc.domain = d then t.each (List.range (t.domB d)) fun u i => u.collect c n i else t
    | none => t

/-- The first count at or after n that is a multiple of S. -/
def nextBoundary (n sper : Nat) : Nat := (n + sper - 1) / sper * sper

/-- Transmit contexts of a domain start a new packet after a re-base (R357). -/
def State.restartFlows (s : State) (d : Nat) : State :=
  let n := (s.dom d).media
  s.each (s.flow.ctxs.map (·.1)) fun t c =>
    t.onCtx c fun x =>
      if 512 ≤ c && x.desc.domain = d then { x with nextCount := nextBoundary n (t.ctxS x), built := [] } else x

/-! ### Deletion, draining, killing (R375 to R377) -/

/-- A receive context fades out over the next block; with its domain stopped there is none. -/
def State.fadeCtx (s : State) (c : Nat) (freeing : Bool) : State :=
  match s.ctx c with
  | none => s
  | some x =>
    let a := x.home c
    if s.domActive x.desc.domain then
      let fade := s.ctxState a = Cs.run || s.ctxState a = Cs.conceal
      s.each (x.both c) fun t k => t.onCtx k fun y => { y with fading := y.fading || fade, freeing := freeing || y.freeing }
    else if freeing then s.releaseCtx a else s

/-- The contexts of a page. -/
def State.pageCtxs (s : State) (n : Nat) : List Nat := (s.flow.ctxs.map (·.1)).filter fun c => c % 512 / 32 == n

/-- The page's contexts stop: receive contexts fade out, packets being built are dropped. -/
def State.stopPage (s : State) (n : Nat) : State :=
  s.each (s.pageCtxs n) fun t c =>
    let t := if c < 512 then (t.fadeCtx c false).leaveConceal c else t.onCtx c fun x => { x with built := [] }
    t.ctxSet c FLOW.CTX_STAT_STATE Cs.draining

/-- Frames that wait in a ring are taken. -/
def State.emptyRing (s : State) (port : Nat) (kill : Option Nat) : Nat → State
  | 0 => s
  | n + 1 => (s.takeFrame port [] kill).emptyRing port kill n

/-- The packets classified so far are placed, but for those of a page that is killed. -/
def State.emptyRings (s : State) (kill : Option Nat) : State :=
  s.each (List.range s.macCount) fun t port =>
    let count := t.get (Pg.mac port) MAC.RXR_CFG_COUNT 0
    if count = 0 then t
    else t.emptyRing port kill
      ((t.get (Pg.mac port) MAC.RXR_PROD_PROD 0 + count - t.get (Pg.mac port) MAC.RXR_CONS_CONS 0) % count)

/-- EN has been cleared on page n. -/
def State.flowDrained (s : State) (n : Nat) : State := (s.emptyRings none).stopPage n

/-- Nothing of page n is in flight: no context fades. -/
def State.flowIdle (s : State) (n : Nat) : Bool :=
  (s.pageCtxs n).all fun c => (s.ctx c).all fun x => !x.fading

/-- KILL on page n discards its classified packets (R377). -/
def State.flowKilled (s : State) (n : Nat) : State := (s.emptyRings (some n)).stopPage n

/-- EN is set again: receive contexts wait for their first sample, transmit contexts send from the next boundary; orphans
stay STOPPED (R376). -/
def State.flowEnabled (s : State) (n : Nat) : State :=
  s.each (s.pageCtxs n) fun t c =>
    if t.ctxState c = Cs.draining then
      if (t.ctx c).any (·.orphan) then t.ctxSet c FLOW.CTX_STAT_STATE Cs.stopped
      else if c < 512 then
        (t.onCtx c fun x => { x with fading := false, missing := 0, since := 0, placed := [] }).ctxSet c
          FLOW.CTX_STAT_STATE Cs.wait
      else
        (t.onCtx c fun x => { x with
          nextCount := nextBoundary (t.countNow x.desc.domain + t.domB x.desc.domain) (t.ctxS x)
          built := [] }).ctxSet c FLOW.CTX_STAT_STATE Cs.sending
    else t

/-- SRST: the page's contexts are free; on FLOW0 the groups and REBASES too. -/
def State.flowReset (s : State) (n : Nat) : State :=
  let s := s.each (s.pageCtxs n) fun t c => if c < 512 then t.releaseCtx c else
    t.onFlow fun f => { f with ctxs := SMap.erase f.ctxs c }
  if n = 0 then
    let s := s.onFlow fun f => { f with grpNext := [] }
    s.each (s.flow.ctxs.map (·.1)) fun t c =>
      ((t.onCtx c fun x => { x with desc := { x.desc with group := none } }).ctxSet c FLOW.CTX_CFG_GROUP_EN 0).ctxSet c
        FLOW.CTX_CFG_GROUP 0
  else s

end Sys2Proof.Machine
end

