-- ==== Sys2Proof/Machine/Flow.lean ====
section
/-!
DEFINITION. The commands of the flow engine (chapter 14).
-/

namespace Sys2Proof.Machine

/-! ### FLOW_ADD (R349, R350) -/

/-- Bits of a word from `lo`, `w` wide. -/
def field (v : Word) (lo w : Nat) : Nat := v.toNat / 2 ^ lo % 2 ^ w

/-- A descriptor's fields. -/
def flowDesc (l : List Word) : FlowDesc :=
  let w (i : Nat) : Word := (l[i]?).getD 0
  let quad (i : Nat) : List Word := [w i, w (i + 1), w (i + 2), w (i + 3)]
  { tx := (w 0).getLsbD 16, domain := field (w 1) 0 2, enc := field (w 1) 4 2, channels := field (w 1) 8 7,
    ptime := field (w 1) 16 3, jumbo := (w 1).getLsbD 19, portA := field (w 1) 20 4, portB := field (w 1) 24 4,
    ipv6 := (w 1).getLsbD 28, vlan := (w 1).getLsbD 29, patch := field (w 2) 0 14,
    group := if (w 2).getLsbD 23 && !(w 0).getLsbD 16 then some (field (w 2) 16 6) else none,
    pt := field (w 3) 0 7, dscp := field (w 3) 8 6, ttl := field (w 3) 16 8, ssrc := w 4, ofs := w 5,
    delay := field (w 6) 0 16, seq0 := BitVec.ofNat 16 (field (w 6) 16 16), dport := field (w 7) 0 16,
    sport := field (w 7) 16 16, dstA := quad 8, srcA := quad 12, dstB := quad 16, srcB := quad 20,
    macA := field (w 25) 0 16 * 2 ^ 32 + (w 24).toNat, macB := field (w 27) 0 16 * 2 ^ 32 + (w 26).toNat,
    tci := BitVec.ofNat 16 (field (w 28) 0 16), words := l }

/-- The bits that the layout names, by word. -/
def namedBits : List Nat :=
  [0xFF01FFFF, 0x3FFF7F33, 0x00BF3FFF, 0x00FF3F7F] ++ List.replicate 21 0xFFFFFFFF ++
    [0x0000FFFF, 0xFFFFFFFF, 0x0000FFFF, 0x0000FFFF, 0, 0, 0]

/-- Format, and every unnamed bit zero. -/
def descFormOk (l : List Word) : Bool :=
  field ((l[0]?).getD 0) 24 8 == 1 && (l.zip namedBits).all fun e => e.1.toNat &&& (0xFFFFFFFF - e.2) == 0

/-- An address in the form of its family: IPv4 uses the first word only. -/
def addrFormOk (ipv6 : Bool) (a : List Word) : Bool := ipv6 || (a.drop 1).all (· == 0)

/-- A multicast destination. -/
def multicast (ipv6 : Bool) (a : List Word) : Bool :=
  if ipv6 then field ((a[0]?).getD 0) 24 8 == 0xFF else field ((a[0]?).getD 0) 28 4 == 0xE

/-- Bytes of a flow's frame, FCS included. -/
def FlowDesc.frameBytes (x : FlowDesc) (sper : Nat) : Nat :=
  14 + (if x.vlan then 4 else 0) + (if x.ipv6 then 40 else 20) + 8 + 12 + x.channels * sper * sampleBytes x.enc + 4

def FlowDesc.ports (x : FlowDesc) : List Nat := if x.portB = 15 then [x.portA] else [x.portA, x.portB]

/-- The patch points are flow patch points of the direction and domain in the running plan. -/
def State.flowPatchesOk (s : State) (x : FlowDesc) : Bool :=
  match s.fabric.running with
  | some p => (List.range x.channels).all fun k =>
      (if x.tx then p.flowOut else p.flowIn).contains (x.patch + k) && SMap.find? p.endpoints (x.patch + k) == some x.domain
  | none => false

/-- Nothing of R350's BAD_ARG applies, but for what depends on absent ports. -/
def State.descOk (s : State) (x : FlowDesc) (want : Nat) : Bool :=
  let hz := s.domHz x.domain
  let sper := samplesPer x.ptime hz
  let payload := x.channels * sper * sampleBytes x.enc
  let two := x.portB ≠ 15
  descFormOk x.words && x.domain < 2 && s.domActive x.domain && x.enc < 3 && 1 ≤ x.channels && x.channels ≤ 64 &&
    x.ptime < 5 && x.portA < 4 && (!two || (x.portB < 4 && x.portA ≠ x.portB)) &&
    payload ≤ (if x.jumbo then 8192 else 1440) &&
    (!x.jumbo || x.ports.all fun n => !s.hasMac n || x.frameBytes sper ≤ s.get (Pg.mac n) MAC.CFG_MAX_FRAME) &&
    (x.tx || delayOk sper hz x.delay) && s.flowPatchesOk x &&
    [x.dstA, x.srcA, x.dstB, x.srcB].all (addrFormOk x.ipv6) &&
    (two || (x.dstB ++ x.srcB).all (· == 0)) &&
    (!x.tx || (1 ≤ x.ttl && (multicast x.ipv6 x.dstA || x.macA ≠ 0) &&
      (!two || multicast x.ipv6 x.dstB || x.macB ≠ 0))) &&
    (match x.group with
    | some g => !s.flag (Pg.flow 0) FLOW.GRP_CFG_IN_USE g || s.get (Pg.flow 0) FLOW.GRP_CFG_DOMAIN g == x.domain
    | none => true) &&
    (x.tx || !two || want = 0xFFFF || want % 2 = 0)

/-- A context as FLOW_ADD leaves it. -/
def State.newCtx (s : State) (x : FlowDesc) (pathB paired : Bool) : FlowCtx :=
  let y : FlowCtx :=
    { desc := x, pathB := pathB, paired := paired, learned := none, acceptAt := s.now, deliverAt := s.now,
      upSince := none, hist := [], highest := none, arrivals := [], skews := [], margins := [], tokens := 0,
      tokensAt := s.now, placed := [], missing := 0, since := 0, missAt := 0, delayNext := none, fading := false,
      freeing := false, orphan := false, nextCount := nextBoundary (s.countNow x.domain + s.domB x.domain) (samplesPer x.ptime (s.domHz x.domain)),
      seq := x.seq0, built := [] }
  { y with tokens := s.policerDepth y }

/-- The registers of a new context. -/
def State.showCtx (s : State) (c : Nat) (y : FlowCtx) : State :=
  let x := y.desc
  let w (s : State) (f : Fld) (v : Nat) : State := s.ctxSet c f v
  let s := w s FLOW.CTX_CFG_VALID 1
  let s := w s FLOW.CTX_CFG_DIR (bit x.tx)
  let s := w s FLOW.CTX_CFG_DOMAIN x.domain
  let s := w s FLOW.CTX_CFG_ENC x.enc
  let s := w s FLOW.CTX_CFG_PATH_B (bit y.pathB)
  let s := w s FLOW.CTX_CFG_PAIRED (bit y.paired)
  let s := w s FLOW.CTX_CFG_CHANNELS x.channels
  let s := w s FLOW.CTX_CFG_GROUP_EN (bit x.group.isSome)
  let s := w s FLOW.CTX_CFG_GROUP (x.group.getD 0)
  let s := w s FLOW.CTX_CFG_PORT y.port
  let s := w s FLOW.CTX_CFG_PTIME x.ptime
  let s := w s FLOW.CTX_PATCH_PATCH_BASE x.patch
  let s := w s FLOW.CTX_SSRC_SSRC x.ssrc.toNat
  let s := w s FLOW.CTX_DELAY_DELAY (if x.tx then 0 else
    match x.group with
    | some g => s.get (Pg.flow 0) FLOW.GRP_CFG_DELAY g
    | none => x.delay)
  w s FLOW.CTX_STAT_STATE (if x.tx then Cs.sending else Cs.wait)

/-- A receive context joins its group; the first one sets the group's DELAY (R363). -/
def State.joinGroup (s : State) (x : FlowDesc) : State :=
  match x.group with
  | none => s
  | some g =>
    let p := Pg.flow 0
    let s := if s.flag p FLOW.GRP_CFG_IN_USE g then s
      else ((s.set p FLOW.GRP_CFG_IN_USE 1 g).set p FLOW.GRP_CFG_DOMAIN x.domain g).set p FLOW.GRP_CFG_DELAY x.delay g
    s.count p FLOW.GRP_CFG_MEMBERS 1 g

/-- The contexts that a descriptor takes: the one wanted, or the lowest free. -/
def State.ctxsFor (s : State) (x : FlowDesc) (want : Nat) : Option (List Nat) :=
  let base := if x.tx then 512 else 0
  let pair := !x.tx && x.portB ≠ 15
  let free (k : Nat) : Bool := (s.ctx (base + k)).isNone
  let fits (k : Nat) : Bool := free k && (!pair || (k % 2 == 0 && free (k + 1)))
  let out (k : Nat) : List Nat := if pair then [base + k, base + k + 1] else [base + k]
  if want = 0xFFFF then ((List.range s.flowCount).find? fits).map out
  else if fits want then some (out want) else none

/-- FLOW_ADD up to its answer. -/
def State.addFlow (s : State) (tag : BitVec 8) (l : List Word) : State :=
  let op := Op.flowAdd
  let x := flowDesc l
  let want := field ((l[0]?).getD 0) 0 16
  if !s.descOk x want then s.reply op tag St.badArg []
  else if !(x.ports.all s.hasMac) || (want ≠ 0xFFFF && s.flowCount ≤ want) then s.reply op tag St.absent []
  else
    match s.ctxsFor x want with
    | none => s.refuse op tag (if want = 0xFFFF then 1 else 2)
    | some cs =>
      let y := s.newCtx x false (2 ≤ cs.length)
      let ys := if cs.length = 2 then [y, { y with pathB := true }] else [y]
      let keyUsed := !x.tx && s.flow.ctxs.any fun e => e.1 < 512 && !e.2.freeing && ys.any fun z => z.key == e.2.key
      let patchUsed := s.flow.ctxs.any fun e =>
        x.patch < e.2.desc.patch + e.2.desc.channels && e.2.desc.patch < x.patch + x.channels
      if keyUsed then s.refuse op tag 3
      else if patchUsed then s.refuse op tag 4
      else if !s.enabled (ctxPage (cs.headD 0)) then s.reply op tag St.notEnabled []
      else
        let s := if x.tx then s else s.joinGroup x
        let s := s.each (cs.zip ys) fun t e => (t.setCtx e.1 e.2).showCtx e.1 e.2
        let s := s.each (cs.zip ys) fun t e => if e.1 < 512 && !t.linkUp e.2.port then t.losePath e.1 else t
        let s := if cs.length = 2 then s.showProtected (cs.headD 0) else s
        s.reply op tag St.ok [BitVec.ofNat 32 (cs.headD 0 % 512)]

/-- FLOW_ADD (R350). -/
def execFlowAdd (tag : BitVec 8) (addr : Nat) (s : State) : Outcome :=
  .next (s.mailbox Op.flowAdd tag (addrArgs addr) fun s =>
    let s := s.peeked addr 128
    s.addFlow tag (s.peekWords addr 32))

/-! ### FLOW_DEL (R375) -/

def State.delFlow (s : State) (tag : BitVec 8) (arg : Word) : State :=
  let op := Op.flowDel
  let k := arg.toNat % 65536
  let c := k + (if arg.getLsbD 16 then 512 else 0)
  if arg.toNat / 2 ^ 17 ≠ 0 then s.reply op tag St.badArg []
  else if s.flowCount ≤ k then s.reply op tag St.absent []
  else
    match s.ctx c with
    | none => s.reply op tag St.badArg []
    | some x =>
      if !s.enabled (ctxPage c) then s.reply op tag St.notEnabled []
      else if x.freeing then (if s.flag Pg.host HOST.MBX_STAT_BUSY then s.set Pg.host HOST.MBX_STAT_OVERRUN 1 else s.mbxHeld op tag)
      else if c < 512 && s.domActive x.desc.domain then ((s.leaveConceal c).fadeCtx (x.home c) true).mbxHeld op tag
      else (s.freeCtx (x.home c)).done op tag

/-- FLOW_DEL: the argument holds the context number in [15:0] and the direction in [16] (log 46). -/
def execFlowDel (tag : BitVec 8) (arg : Word) (s : State) : Outcome :=
  .next (s.mailbox Op.flowDel tag [arg] fun s => s.delFlow tag arg)

/-! ### Packets and the events of time -/

/-- FLOW_PACKET (R352): the engine takes the oldest frame of a port's ring 0; `shadowed` lists the samples whose write
into the playout buffer was shadowed (R373). -/
def execFlowPacket (port : Nat) (shadowed : List Nat) (s : State) : Outcome :=
  guardWf (port < 4) (.next (if s.hasMac port then s.takeRing port shadowed else s))

/-- REBASE (R357): g has been non-zero at 16 consecutive ticks; the tick that comes now adds the last g. -/
def execRebase (d : Nat) (s : State) : Outcome :=
  guardWf (d < 2) (.next (whenHolds (16 ≤ (s.dom d).differ && s.domActive d) s fun s =>
    let s := s.reach (s.tickCycle d ((s.dom d).count + 1))
    let g := nget 0 s.flow.lastG d
    let s := s.setDom d { s.dom d with shift := g, differ := 0 }
    let p := Pg.flow 0
    (((s.count p FLOW.REBASES).event p 10).lifeAdd p 3).raise Src.rebase d))

/-- A receive context's command. -/
def rxCmd (c : Nat) (s : State) (f : FlowCtx → State → State) : Outcome :=
  guardWf (c < 512) (.next (match s.ctx c with | some x => f x s | none => s))

/-- UNDERRUN_CLEAR (R362): 1 s without a missing sample. -/
def execUnderrunClear (c : Nat) (s : State) : Outcome :=
  rxCmd c s fun x s =>
    whenHolds (s.ctxGet c FLOW.CTX_STAT_UNDERRUN == 1) s fun s =>
      let s := s.reach (x.missAt + cyclesSec 1)
      (s.ctxSet c FLOW.CTX_STAT_UNDERRUN 0).underrunSource c

/-- SSRC_RELEARN (R352): 1 s without an accepted packet. -/
def execSsrcRelearn (c : Nat) (s : State) : Outcome :=
  rxCmd c s fun x s =>
    whenHolds (x.desc.ssrc == 0 && x.learned.isSome) s fun s =>
      let s := s.reach (x.acceptAt + cyclesSec 1)
      (s.onCtx c fun y => { y with learned := none }).ctxSet c FLOW.CTX_SSRC_SSRC 0

/-- PATH_LOST (R367): no packet for LOSS_MS; again while LOST: a further loss. -/
def execPathLost (c : Nat) (s : State) : Outcome :=
  rxCmd c s fun x s => (s.reach (x.deliverAt + cyclesMs (s.get (Pg.flow 0) FLOW.PATH_CFG_LOSS_MS))).losePath c

/-- PATH_UP (R367): packets for 100 ms without a further loss. -/
def execPathUp (c : Nat) (s : State) : Outcome :=
  rxCmd c s fun x s =>
    match x.upSince with
    | none => s
    | some t =>
      whenHolds (s.ctxGet c FLOW.CTX_STAT_PATH_LOST == 1 && s.linkUp x.port) s fun s =>
        let s := s.reach (t + cyclesMs 100)
        ((s.ctxSet c FLOW.CTX_STAT_PATH_LOST 0).event (ctxPage c) 3).pathChanged c x

/-! ### DELAY (R364) -/

/-- A write of CTX_DELAY for the context in CTX_SEL. -/
def State.writeDelay (s : State) (n : Nat) (v : Word) : State :=
  let k := s.get (Pg.flow n) FLOW.CTX_SEL_CTX
  let delay := v.toNat % 65536
  let c := 32 * n + k
  if 32 ≤ k then s
  else
    match s.ctx c with
    | none => s
    | some x =>
      if x.desc.group.isSome then s
      else if !delayOk (s.ctxS x) (s.ctxHz x) delay then s.event (Pg.flow n) 12
      else s.onCtx (x.home c) fun y => { y with delayNext := some (delay, 2) }

/-- CTX_DELAY_WRITE (R364). -/
def execCtxDelayWrite (m : Master) (n : Nat) (v : Word) (s : State) : Outcome :=
  guardWf (n < 16) (.next (s.writeTo m (Pg.flow n) fun s => s.writeDelay n v))

/-- A write of GRP_CFG.DELAY for the group in GRP_SEL. -/
def State.writeGroupDelay (s : State) (v : Word) : State :=
  let p := Pg.flow 0
  let g := s.get p FLOW.GRP_SEL_GROUP
  let delay := v.toNat % 65536
  if !s.flag p FLOW.GRP_CFG_IN_USE g then s
  else if s.flow.ctxs.any fun e => e.1 < 512 && e.2.desc.group == some g &&
      !delayOk (s.ctxS e.2) (s.ctxHz e.2) delay then s.event p 12
  else s.onFlow fun f => { f with grpNext := nset f.grpNext g (delay, 2) }

/-- GRP_DELAY_WRITE (R364). -/
def execGrpDelayWrite (m : Master) (v : Word) (s : State) : Outcome :=
  .next (s.writeTo m (Pg.flow 0) fun s => s.writeGroupDelay v)

end Sys2Proof.Machine
end

