-- ==== Sys2Proof/Machine/Mix.lean ====
section
/-!
DEFINITION. The commands of the mix unit (chapter 06): DIRECT changes, staging, scenes, route ends, bridges, snapshots
and silence.
-/

namespace Sys2Proof.Machine

/-! ### DIRECT changes -/

/-- A write of DIRECT_VAL while DIRECT_TGT holds a kind; the row of another kind has no effect (log 6). -/
def State.directWrite (s : State) (m : Master) (kind : Nat) (v : Word) : Outcome :=
  .next (s.writeTo m Pg.mix fun s =>
    if s.get Pg.mix MIX.DIRECT_TGT_KIND = kind then s.submitDirect v else s)

/-- DIRECT_PARAM (R162). -/
def execDirectParam (m : Master) (v : Word) (s : State) : Outcome := s.directWrite m 0 v

/-- DIRECT_GAIN (R163). -/
def execDirectGain (m : Master) (v : Word) (s : State) : Outcome := s.directWrite m 1 v

/-- DIRECT_ROUTE (R177): it leaves the queue at the next tick of the destination's domain. -/
def execDirectRoute (m : Master) (v : Word) (s : State) : Outcome := s.directWrite m 2 v

/-- DIRECT_APPLY (R162): in an interval between passes of the tile. -/
def execDirectApply (t : Nat) (s : State) : Outcome :=
  guardWf (t < 256) (.next (whenHolds (s.betweenPasses t) s fun s => s.applyQueued t))

/-! ### Staging (R166, R167) -/

/-- A record target word and value of a parameter set. -/
inductive SetRec where
  | value (r : StageRec)
  | route (dest src : Nat)
  | bad
  | absent
  deriving DecidableEq, Repr

/-- One record (R166). -/
def State.setRec (s : State) (target value : Word) : SetRec :=
  let kind := target.toNat / 2 ^ 30
  let tile := target.toNat / 2 ^ 20 % 256
  let slot := target.toNat % 4096
  if kind = 3 then .bad
  else if kind = 2 then
    let d := target.toNat % 2 ^ 30
    if s.patchCount ≤ d || (value.toNat ≠ noSource && s.patchCount ≤ value.toNat) then .bad
    else .route d value.toNat
  else if target.toNat / 4096 % 256 ≠ 0 || target.toNat / 2 ^ 28 % 4 ≠ 0 then .bad
  else if s.tileCount ≤ tile then .absent
  else if !s.hasWork tile || 4094 ≤ slot || (kind = 1 && slot = 4093) then .bad
  else .value ⟨tile, slot, value, kind == 1⟩

/-- The records of a parameter set in memory. -/
def State.setRecs (s : State) (addr n : Nat) : List SetRec :=
  (List.range n).map fun r => s.setRec (s.peekWord (addr + 12 + 8 * r)) (s.peekWord (addr + 16 + 8 * r))

/-- Word 0 and word 2 of a set hold no reserved value; RAMP_MS and ROUTE_MS are at most 100. -/
def setHeaderOk (w0 w2 : Word) : Bool :=
  w0.toNat / 2 ^ 24 = 1 && w0.toNat / 2 ^ 16 % 256 = 0 && w0.toNat % 256 = 0 && w0.toNat / 256 % 256 ≠ 0 &&
    w2.toNat < 65536 && w2.toNat % 256 ≤ 100 && w2.toNat / 256 ≤ 100

/-- What the records of a set say of it: the first record that is bad or absent, else its content. -/
def recsStatus (l : List SetRec) : Nat :=
  match l.find? fun r => r == .bad || r == .absent with
  | some .absent => St.absent
  | some _ => St.badArg
  | none => St.ok

/-- SCENE_STAGE (R166): the length is 12 bytes and 8 for each record (log 34). -/
def execSceneStage (tag : BitVec 8) (addr len : Nat) (s : State) : Outcome :=
  .next (s.mailbox Op.sceneStage tag (addrArgs addr ++ [BitVec.ofNat 32 len]) fun s =>
    let op := Op.sceneStage
    let s := s.peeked addr len true
    let w0 := s.peekWord addr
    let w2 := s.peekWord (addr + 8)
    let n := (s.peekWord (addr + 4)).toNat
    let recs := s.setRecs addr n
    if 2 ^ 48 ≤ addr || len ≠ 12 + 8 * n || !setHeaderOk w0 w2 then s.reply op tag St.badArg []
    else if !s.mixEnabled then s.reply op tag St.notEnabled []
    else if s.mix.staging.isSome then s.reply op tag St.busy []
    else
      let routes := recs.filterMap fun r => match r with | .route d x => some (d, x) | _ => none
      let values := recs.filterMap fun r => match r with | .value v => some v | _ => none
      if recsStatus recs ≠ St.ok then s.reply op tag (recsStatus recs) []
      else if s.xfadeLimit < routes.length then s.reply op tag St.badArg []
      else if s.pairHoldsBack then s.refuse op tag 0x10
      else
        let st : Staging := ⟨tag, w0.toNat / 256 % 256, w2.toNat % 256, w2.toNat / 256, values, routes⟩
        (s.onMix fun m => { m with staging := some st }).accept op tag Pg.mix)

/-- ROUTE records join the route stage list; a destination written twice keeps the later source. -/
def mergeRoutes (l new : List (Nat × Nat)) : List (Nat × Nat) :=
  new.foldl (fun acc r => acc.filter (fun e => e.1 ≠ r.1) ++ [r]) l

/-- SCENE_STAGE_DONE (R167): every record is in its bank, held, or in the route stage list. -/
def execSceneStageDone (s : State) : Outcome :=
  .next (match s.mix.staging with
    | none => s
    | some st =>
      let s := s.each st.recs fun t r => t.stageWrite r
      let s := s.onMix fun m => { m with
        staging := none, stageRoutes := mergeRoutes m.stageRoutes st.routes, rampMs := st.rampMs, routeMs := st.routeMs }
      let s := (s.set Pg.mix MIX.STAGE_SET_SET st.set).set Pg.mix MIX.STAGE_SET_INCOMPLETE 0
      let s := s.set Pg.mix PG.PROGRESS_POSITION st.recs.length
      s.finish Op.sceneStage st.tag Pg.mix St.ok)

/-- STAGING_RELEASE (R112): RAMP_BUSY is 0 again. -/
def execStagingRelease (t : Nat) (s : State) : Outcome :=
  guardWf (t < 256) (.next (whenHolds (!s.flag (Pg.awl t) AWL.PSTAT_RAMP_BUSY) s fun s => s.releaseStaging t))

/-! ### Scenes (R168 to R174) -/

/-- COMMIT_AT_SCENE (R169, R170): BUSY while a change is armed, and before the end of the last scene's ramps. -/
def execCommitAtScene (tag : BitVec 8) (arg : Word) (sec ns : Nat) (s : State) : Outcome :=
  .next (s.mailbox Op.commitAt tag (commitArgs arg sec ns) fun s =>
    s.commitAt tag Ck.scene arg sec ns (commitSet arg ≠ 0) s.mixEnabled
      (s.changeArmed || sec * nsPerSec + ns < s.mix.rampsEnd)
      fun s => (s.arm Ck.scene (commitSet arg) sec ns).done Op.commitAt tag)

/-- A staged set would not apply whole: writes are held, staging was aborted, or it is another set (R171, R189). -/
def State.stageIncomplete (s : State) (set : Nat) : Bool :=
  !s.mix.held.isEmpty || s.flag Pg.mix MIX.STAGE_SET_INCOMPLETE || s.get Pg.mix MIX.STAGE_SET_SET ≠ set

/-- SCENE_CHECK (R171): 4 ms before the time of the armed scene. -/
def execSceneCheck (s : State) : Outcome :=
  .next (match s.armed Ck.scene with
    | none => s
    | some (i, c) =>
      if c.begun then s
      else
        let s := s.untilTime0 (c.at_ - 4000000)
        if s.stageIncomplete c.set then s.commitDropped i c Cr.incomplete else s)

/-- COMMIT_CANCEL (R171): only SCENE and PLAN_SWAP entries; after its last moment, or once the commit has begun, the
write is ignored with TOO_LATE_TO_CANCEL. -/
def execCommitCancel (m : Master) (v : Word) (s : State) : Outcome :=
  .next (s.writeTo m Pg.mix fun s =>
    if MIX.COMMIT_CANCEL_GO.of v = 0 then s
    else
      let i := MIX.COMMIT_CANCEL_ENTRY.of v
      match SMap.find? s.mix.commits i with
      | none => s
      | some c =>
        if c.kind ≠ Ck.scene && c.kind ≠ Ck.swap then s
        else if c.begun || c.at_ < s.nanos0 + cancelLead c.kind then s.commitFails c Cr.tooLate
        else
          let s := if c.kind = Ck.swap then s.dropSwap else s
          s.commitDropped i c Cr.cancelled)

/-- RAMP_END (R174): the last ramp pass has run, and the mirror starts. -/
def execRampEnd (t : Nat) (s : State) : Outcome :=
  guardWf (t < 256) (.next (whenHolds (s.flag (Pg.awl t) AWL.PSTAT_RAMP_BUSY && (s.tile t).rampLeft = 0) s fun s =>
    (s.set (Pg.awl t) AWL.PSTAT_RAMP_BUSY 0).setTile t { s.tile t with mirror := true }))

/-- The active bank copied over the inactive one, but for slots that staging has written (R174). -/
def Tile.mirrored (x : Tile) (active : Bool) (skip : List Nat) : Tile :=
  (List.range 4096).foldl (fun y slot => if skip.contains slot then y else y.setParam (!active) slot (y.param active slot)) x

/-- BANK_MIRROR_DONE (R174): within 250 µs. -/
def execBankMirrorDone (t : Nat) (s : State) : Outcome :=
  guardWf (t < 256) (.next (whenHolds (s.tile t).mirror s fun s =>
    let skip := (s.mix.stageSlots.filter fun e => e.1 == t).map (·.2)
    let x := (s.tile t).mirrored (s.flag (Pg.awl t) AWL.PSTAT_ACTIVE_BANK) skip
    s.setTile t { x with mirror := false }))

/-- ROUTE_XFADE_END (R178): waiting changes may start. -/
def execRouteXfadeEnd (dest : Nat) (s : State) : Outcome :=
  .next (match SMap.find? s.mix.xfades dest with
    | some x =>
      if x.len ≤ x.pos then (s.onMix fun m => { m with xfades := SMap.erase m.xfades dest }).startWaiting else s
    | none => s)

/-! ### Rate bridges (R183, R184) -/

/-- BRIDGE_UNLOCK (R183). -/
def execBridgeUnlock (b : Nat) (s : State) : Outcome :=
  s.guardPart (b < 512) (b < s.bridgeCount) (.next (s.unlockBridge b))

/-- BRIDGE_LOCK (R184): the source has been back for 100 ms, and the output fades in over 10 ms. BRIDGE_LOCK sets when
the fade has ended (Machine/Tick). -/
def execBridgeLock (b : Nat) (s : State) : Outcome :=
  s.guardPart (b < 512) (b < s.bridgeCount) (.next (whenHolds (s.bridgeState b = Brg.hold) s fun s =>
    let s := s.set Pg.mix MIX.BRG_STAT_STATE Brg.fadingIn b
    let s := s.onMix fun m => { m with
      fades := nset m.fades (s.bridgeDst b) (.fadeIn 0 (samplesOf 10 (s.bridgeHz b))) }
    s.lower Src.bridgeHold b))

/-! ### Snapshots and silence (R185 to R188) -/

def State.monitorCount (s : State) : Nat := if s.part = .ca then 4096 else 8192

def State.monitor (s : State) (k : Nat) : Monitor := nget Monitor.reset s.mix.mons k
def State.setMonitor (s : State) (k : Nat) (x : Monitor) : State :=
  s.onMix fun m => { m with mons := nput Monitor.reset m.mons k x }

/-- SNAP_REQ (R187): ignored on ZNG2048-CA, before READY, and while the page takes no work. -/
def execSnapReq (m : Master) (s : State) : Outcome :=
  .next (s.writeTo m Pg.mix fun s =>
    if s.part = .ca || s.mix.snapBusy || !s.mixEnabled then s
    else
      let s := s.onMix fun x => { x with snapBusy := true, mons := x.mons.map fun e => (e.1, { e.2 with captured := false }) }
      (s.set Pg.mix MIX.SNAP_CTRL_REQ 1).set Pg.mix MIX.SNAP_CTRL_READY 0)

/-- Slots that still have to capture: those that watch a patch point of an active domain. -/
def State.uncaptured (s : State) : Bool :=
  s.mix.mons.any fun e => !e.2.captured && (match s.patchDomain e.2.source with
    | some d => s.domActive d
    | none => false)

/-- SNAP_READY (R187): every slot has captured, and the buffers exchange roles. -/
def execSnapReady (s : State) : Outcome :=
  .next (whenHolds (s.mix.snapBusy && !s.uncaptured) s fun s =>
    let s := s.onMix fun m => { m with snapBusy := false, snapBuf := !m.snapBuf }
    ((s.set Pg.mix MIX.SNAP_CTRL_REQ 0).set Pg.mix MIX.SNAP_CTRL_READY 1).event Pg.mix 5)

/-- Samples that must stay at or below the threshold: SIL_HOLD, or one block for 0 (R188). -/
def State.silenceSamples (s : State) (k d : Nat) : Nat :=
  let h := s.get Pg.mix MIX.MON_CFG_SIL_HOLD k
  if h = 0 then s.domB d else h * s.domHz d / 10

/-- SILENCE_ENTER (R188). -/
def execSilenceEnter (slot : Nat) (s : State) : Outcome :=
  s.guardPart (slot < 8192) (slot < s.monitorCount) (.next (
    let x := s.monitor slot
    match s.patchDomain x.source with
    | none => s
    | some d =>
      if s.flag Pg.mix MIX.MON_CFG_SIL_EN slot && !x.silent && s.silenceSamples slot d ≤ x.below then
        (s.setMonitor slot { x with silent := true, loud := false }).event Pg.mix 6
      else s))

/-- SILENCE_EXIT (R188): a sample above the threshold. -/
def execSilenceExit (slot : Nat) (s : State) : Outcome :=
  s.guardPart (slot < 8192) (slot < s.monitorCount) (.next (
    let x := s.monitor slot
    if x.silent && x.loud then (s.setMonitor slot { x with silent := false, loud := false }).event Pg.mix 6 else s))

end Sys2Proof.Machine
end

