-- ==== Sys2Proof/Machine/SapOps.lean ====
section
/-!
DEFINITION. What the serial audio ports' commands share (chapter 15): frames, the elastic buffer against the sample
instants of the domain, slips, fades, starts and stops.
-/

namespace Sys2Proof.Machine

def State.sap (s : State) (n : Nat) : Sap := nget Sap.reset s.saps n
def State.setSap (s : State) (n : Nat) (x : Sap) : State := { s with saps := nput Sap.reset s.saps n x }
def State.onSap (s : State) (n : Nat) (f : Sap → Sap) : State := s.setSap n (f (s.sap n))

/-- STAT.STATE. -/
def Ss.off : Nat := 0
def Ss.wait : Nat := 1
def Ss.run : Nat := 2
def Ss.slip : Nat := 3
def Ss.clkLoss : Nat := 4

def State.sapState (s : State) (n : Nat) : Nat := s.get (Pg.sap n) SAP.STAT_STATE
def State.setSapState (s : State) (n st : Nat) : State := s.set (Pg.sap n) SAP.STAT_STATE st

/-! ### The port's configuration (R379 to R384) -/

def State.sapLead (s : State) (n : Nat) : Bool := s.flag (Pg.sap n) SAP.CFG_LEAD
def State.sapD2 (s : State) (n : Nat) : Bool := s.flag (Pg.sap n) SAP.CFG_D2_SRC
def State.sapDom (s : State) (n : Nat) : Nat := s.get (Pg.sap n) SAP.CFG_DOMAIN

/-- A leader and the D2 source move one frame a sample instant; E is 0. Other followers have the elastic buffer. -/
def State.sapElastic (s : State) (n : Nat) : Bool := !s.sapLead n && !s.sapD2 n

/-- The centre of the elastic buffer. -/
def sapCentre : Nat := 4

/-- Bits of a slot, and slots of a frame. -/
def State.slotBits (s : State) (n : Nat) : Nat := [16, 24, 32, 32].getD (s.get (Pg.sap n) SAP.CFG_SLOTW) 32
def State.slotCount (s : State) (n : Nat) : Nat := s.get (Pg.sap n) SAP.CFG_SLOTS

/-- Enabled slots of a mask, ascending. -/
def slotsOf (mask count : Nat) : List Nat := (List.range count).filter mask.testBit
def State.inSlots (s : State) (n : Nat) : List Nat := slotsOf (s.get (Pg.sap n) SAP.MASK_IN_SLOTS) (s.slotCount n)
def State.outSlots (s : State) (n : Nat) : List Nat := slotsOf (s.get (Pg.sap n) SAP.MASK_OUT_SLOTS) (s.slotCount n)

/-- A word cut to the slot width: received words are left-aligned, sent ones truncated (R381). -/
def cutSlot (bits : Nat) (v : Word) : Word := BitVec.ofNat 32 (v.toNat / 2 ^ (32 - bits) * 2 ^ (32 - bits))

/-- The input channels of a frame's slots (R382). -/
def State.frameIn (s : State) (n : Nat) (slots : List Word) : List Word :=
  (s.inSlots n).map fun k => cutSlot (s.slotBits n) (slots.getD k 0)

/-- The slots of a frame of output channels: disabled ones are zeros, or released (R382). -/
def State.frameOut (s : State) (n : Nat) (chans : List Word) : List (Option Word) :=
  let on := s.outSlots n
  let tri := s.flag (Pg.sap n) SAP.CFG_TRI
  (List.range (s.slotCount n)).map fun k =>
    if on.contains k then some (cutSlot (s.slotBits n) (chans.getD (on.findIdx (· == k)) 0))
    else if tri then none else some 0

/-- SDO driven low for a frame. -/
def State.sdoLow (s : State) (n : Nat) : State := s.onSap n fun x => { x with sdo := List.replicate (s.slotCount n) (some 0) }

/-- The output channels at sample i of the block that plays; the blocks played since a tick are one block older than the
releases of that tick (R513). A node that may not drive its outputs sends zeros (R437). -/
def State.outChannels (s : State) (n i : Nat) : List Word :=
  let base := s.get (Pg.sap n) SAP.PATCH_OUT_BASE
  let d := s.sapDom n
  (List.range (s.outSlots n).length).map fun j =>
    if !s.emits then 0 else s.mutedSample (base + j) (s.domHz d) ((i : Int) - s.domB d) (((s.patchWords (base + j))[i]?).getD 0)

/-- The port follows its pins: neither off, nor without a clock, nor waiting for an edge. -/
def State.sapAligned (s : State) (n : Nat) : Bool :=
  (s.sapState n == Ss.run || s.sapState n == Ss.slip) && !(s.sap n).aligning

/-! ### Pins (R380, R383, R385) -/

/-- Half periods of a clock of a number of periods a sample, at an island cycle, since the sample grid of the domain began:
the port's clocks are divided from the domain's sample clock, as the media clocks are. -/
def State.clockHalves (s : State) (d perSample : Nat) : Int :=
  let fs : Int := ((s.now - (s.dom d).epoch) * 1600000 : Nat) - (s.dom d).phase
  fs * (2 * perSample * s.domHz d) / 10 ^ 15

/-- BCLK periods of a frame. -/
def State.frameBits (s : State) (n : Nat) : Nat := s.slotCount n * s.slotBits n

/-- A leader drives its clocks from its start on, muted or not. -/
def State.leads (s : State) (n : Nat) : Bool := s.sapLead n && (s.sapState n == Ss.wait || s.sapState n == Ss.run || s.sapState n == Ss.slip)

/-- The BCLK period of a leader's frame that runs. -/
def State.frameBit (s : State) (n : Nat) : Nat := (s.clockHalves (s.sapDom n) (s.frameBits n) / 2 % (s.frameBits n : Int)).toNat

/-- SAPn_BCLK of a leader: data changes on its falling edge and is sampled on its rising edge; BCLK_INV swaps them. -/
def State.bclkLevel (s : State) (n : Nat) : Bool :=
  s.leads n && ((s.clockHalves (s.sapDom n) (s.frameBits n) % 2 == 1) != s.flag (Pg.sap n) SAP.CFG_BCLK_INV)

/-- WS in a BCLK period of a frame (R380): low for slot 0 in I²S, high for it in the other formats; WS_INV inverts it. -/
def State.wsAt (s : State) (n b : Nat) : Bool :=
  (if s.get (Pg.sap n) SAP.CFG_FMT = 0 then decide (s.slotBits n ≤ b) else decide (b < s.slotBits n)) != s.flag (Pg.sap n) SAP.CFG_WS_INV

/-- SAPn_WS of a leader. -/
def State.wsLevel (s : State) (n : Nat) : Bool := s.leads n && s.wsAt n (s.frameBit n)

/-- BCLK periods from the frame start to the MSB of slot 0 (R380). -/
def State.msbDelay (s : State) (n : Nat) : Nat :=
  let fmt := s.get (Pg.sap n) SAP.CFG_FMT
  if fmt = 0 then 1 else if fmt = 1 then 0 else s.get (Pg.sap n) SAP.CFG_DELAY

/-- SAPn_SDO of a leader in the present BCLK period, MSB first; none where it is released. The periods before the MSB of slot
0 belong to the frame before. -/
def State.sdoLevel (s : State) (n : Nat) : Option Bool :=
  let i := s.frameBit n - s.msbDelay n
  match (s.sap n).sdo[i / s.slotBits n]? with
  | some v => v.map fun w => w.getLsbD (31 - i % s.slotBits n)
  | none => some false

/-- FCLKk is in use, and an output. -/
def State.fclkOn (s : State) (k : Nat) : Bool := s.flag (Pg.sap 0) (SAP.FCLK_CFG_EN k)

/-- An FCLK that is an output: a square wave at fs that rises at the frame start of its domain. -/
def State.fclkLevel (s : State) (k : Nat) : Bool :=
  s.fclkOn k && s.flag (Pg.sap 0) (SAP.FCLK_CFG_DIR k) &&
    s.clockHalves (s.get (Pg.sap 0) (SAP.FCLK_CFG_DOMAIN k)) 1 % 2 == 0

/-- The frame start of a port has a source: its own WS, or an FCLK that the plan uses (R385). -/
def State.framed (s : State) (n : Nat) : Bool :=
  let k := s.get (Pg.sap n) SAP.CFG_FSYNC
  k == 0 || s.fclkOn (k - 1)

/-! ### Sources, slips and losses -/

/-- SAP_SLIP ends when 1 s has passed without a slip (R386). -/
def State.slipQuiet (s : State) (n : Nat) : State :=
  if (s.cinchSrc Src.sapSlip).active.contains n && (s.sap n).slipAt + cyclesSec 1 ≤ s.now then s.lower Src.sapSlip n else s

/-- Slot 0 is aligned to the next frame-start edge; the fades start afresh (R386, R387). -/
def State.realign (s : State) (n : Nat) : State :=
  s.onSap n fun x => { x with aligning := true, inBuf := [], outBuf := [], early := [], zeros := 0, fadeIn := none, fadeOut := none }

/-- A slip of a kind (R386). -/
def State.slip (s : State) (n : Nat) (kind : Fld) : State :=
  let p := Pg.sap n
  let undo : SlipUndo :=
    { kind := kind.off, evt := (s.get p PG.EVT).testBit 0, active := (s.cinchSrc Src.sapSlip).active.contains n
      before := (s.sap n).slipAt }
  let s := ((s.count p SAP.SLIPS).count p kind).lifeAdd p 0
  let s := ((s.realign n).setSapState n Ss.slip).onSap n fun x => { x with slipAt := s.now, undo := some undo }
  (s.event p 0).raise Src.sapSlip n

/-- A nominal frame period, in island cycles. -/
def State.framePeriod (s : State) (n : Nat) : Nat := (625000000 + s.domHz (s.sapDom n) - 1) / s.domHz (s.sapDom n)

/-- A clock loss governs a slip of the same frame, which then is not counted (R387): what it counted and set is taken back,
but for a message that its event has sent. -/
def State.undoSlip (s : State) (n : Nat) : State :=
  match (s.sap n).undo with
  | some u =>
    if s.now < (s.sap n).slipAt + s.framePeriod n then
      let p := Pg.sap n
      let back (s : State) (f : Fld) : State := s.set p f (s.get p f - 1)
      let s := ([SAP.SLIPS, SAP.UNDERRUNS, SAP.OVERRUNS, SAP.WS_ERRS].filter fun f => f.off == SAP.SLIPS.off || f.off == u.kind).foldl
        back s
      let s := s.lifePut p 0 (s.lifeGet p 0 - 1)
      let s := if u.evt then s else s.set p PG.EVT (s.get p PG.EVT / 2 * 2)
      let s := if u.active then s else s.lower Src.sapSlip n
      s.onSap n fun x => { x with slipAt := u.before, undo := none }
    else s
  | none => s

/-- Input channels hold their last received sample and fade to zero over 64 samples (R388). -/
def State.fadeLast (s : State) (n : Nat) : State := s.onSap n fun x => { x with lossFade := some 0 }

/-- Frames wait in the buffer. -/
def State.showFill (s : State) (n : Nat) : State :=
  s.set (Pg.sap n) SAP.STAT_FILL (if s.sapElastic n then (s.sap n).outBuf.length else 0)

/-! ### Sample instants -/

/-- One sample of each input channel reaches its patch point for the block that fills. -/
def State.deliverIn (s : State) (n : Nat) (vals : List Word) : State :=
  let base := s.get (Pg.sap n) SAP.PATCH_IN_BASE
  s.each vals.zipIdx fun s e => s.onMix fun m => { m with filling := nset m.filling (base + e.2) (nget [] m.filling (base + e.2) ++ [e.1]) }

/-- Received samples through the zeros and the fade-in that follow an alignment: 8 samples weighted (i + 1) / 8. -/
def State.fadeFrame (s : State) (n : Nat) (vals : List Word) : State :=
  let x := s.sap n
  if 0 < x.zeros then
    ((s.onSap n fun x => { x with zeros := x.zeros - 1, fadeIn := some 0 }).deliverIn n (vals.map fun _ => 0))
  else match x.fadeIn with
    | none => s.deliverIn n vals
    | some i =>
      let s := s.deliverIn n (vals.map fun v => fraction v (i + 1) 8)
      if i < 7 then s.onSap n fun x => { x with fadeIn := some (i + 1) }
      else (s.onSap n fun x => { x with fadeIn := none }).setSapState n Ss.run

/-- The samples of a channel set that carries no clock: the fade of the last ones, then zeros. -/
def State.silentIn (s : State) (n : Nat) : State :=
  let k := (s.inSlots n).length
  match (s.sap n).lossFade with
  | some i =>
    let s := s.deliverIn n ((List.range k).map fun j => fraction ((s.sap n).last.getD j 0) (63 - i) 64)
    s.onSap n fun x => { x with lossFade := if i < 63 then some (i + 1) else none }
  | none => s.deliverIn n (List.replicate k 0)

/-- The output channels of an instant, through the fade-in that follows an alignment. -/
def State.nextOut (s : State) (n : Nat) : State × List Word :=
  let x := s.sap n
  let v := if x.stopping then List.replicate (s.outSlots n).length 0 else s.outChannels n x.taken
  match x.fadeOut with
  | none => (s, v)
  | some i =>
    (s.onSap n fun x => { x with fadeOut := if i < 7 then some (i + 1) else none }, v.map fun w => fraction w (i + 1) 8)

/-- An instant of a port with the elastic buffer: a frame leaves its input side and one enters its output side; a ninth
is an overrun. -/
def State.elasticInstant (s : State) (n : Nat) : State :=
  if !s.sapAligned n then s.silentIn n
  else
    let s := match (s.sap n).inBuf with
      | v :: rest => (s.onSap n fun x => { x with inBuf := rest }).fadeFrame n v
      | [] => s.deliverIn n (List.replicate (s.inSlots n).length 0)
    if (s.sap n).stopping then s
    else if 8 ≤ (s.sap n).outBuf.length then s.slip n SAP.OVERRUNS
    else
      let r := s.nextOut n
      r.1.onSap n fun x => { x with outBuf := x.outBuf ++ [r.2] }

/-- Sample instants of the port's domain that have passed in the present period. -/
def State.instantsDue (s : State) (n : Nat) : Nat :=
  let d := s.sapDom n
  min (s.domB d) ((s.now - (s.dom d).tickAt) * s.domHz d / 625000000 + 1)

/-- The instants up to a number in the period pass. -/
def State.passInstants (s : State) (n upTo : Nat) (f : State → State) : State :=
  s.each (List.range (upTo - (s.sap n).taken)) fun s _ => (f s).onSap n fun x => { x with taken := x.taken + 1 }

/-- The instants of an elastic port that lie behind. -/
def State.catchUp (s : State) (n : Nat) : State :=
  let s := s.slipQuiet n
  if s.sapElastic n then (s.passInstants n (s.instantsDue n) fun s => s.elasticInstant n).showFill n else s

/-- An instant of a leader or of the D2 source with the words of the frame that ends. -/
def State.lockInstant (s : State) (n : Nat) (vals : List Word) : State :=
  let r := s.nextOut n
  let s := r.1.onSap n fun x => { x with sdo := s.frameOut n r.2, last := vals, taken := x.taken + 1 }
  s.fadeFrame n vals

/-- A leader's frame whose data no command has given: free values (log 3). -/
def State.freeFrame (s : State) (n : Nat) : State :=
  let r := (List.range (s.slotCount n)).foldl (fun (a : State × List Word) _ =>
    (a.1.free.2, a.2 ++ [BitVec.ofNat 32 a.1.free.1])) (s, [])
  r.1.lockInstant n (r.1.frameIn n r.2)

/-- The block period of the port's domain ends: every instant of it has passed. -/
def State.sapFinish (s : State) (n : Nat) : State :=
  let b := s.domB (s.sapDom n)
  let s := s.slipQuiet n
  let s := if s.sapElastic n then (s.passInstants n b fun s => s.elasticInstant n).showFill n
    else s.each (List.range (b - (s.sap n).taken)) fun s _ =>
      if s.sapLead n && s.sapAligned n then s.freeFrame n
      else (s.silentIn n).onSap n fun x => { x with taken := x.taken + 1 }
  s.onSap n fun x => { x with taken := 0 }

/-! ### Starts and stops (R387, R390) -/

/-- The port is used by the running plan. -/
def State.sapUsed (s : State) (n : Nat) : Bool := (s.sap n).used && s.sapDom n < 3

/-- The D2 source whose frames D2's ticks follow: DPLL2 has locked to its clock (R16; DEDUCED, log 313). -/
def State.d2Port (s : State) : Option Nat :=
  if s.dpllState 2 = Ds.locked then
    (List.range 16).find? fun n => s.present (Pg.sap n) && s.sapD2 n && s.sapUsed n && s.sapAligned n
  else none

/-- The D2 source's frames that came before the tick enter the period that has started. -/
def State.earlyFrames (s : State) (d : Nat) : State :=
  match (if d = 2 then s.d2Port else none) with
  | none => s
  | some n =>
    let l := (s.sap n).early
    s.each l fun s f => (s.onSap n fun x => { x with early := x.early.drop 1 }).lockInstant n (s.frameIn n f)

/-- The port waits for its first frame, as after a slip without its count. -/
def State.startSap (s : State) (n : Nat) : State :=
  if s.enabled (Pg.sap n) && s.sapUsed n then ((s.realign n).onSap n fun x => { x with stopping := false }).setSapState n Ss.wait
  else s

/-- CLK_LOSS clears without its event. -/
def State.dropClkLoss (s : State) (n : Nat) : State :=
  ((s.set (Pg.sap n) SAP.STAT_CLK_LOSS 0).set (Pg.sap n) SAP.STAT_RATE_ERR 0).lower Src.sapLoss n

/-- The clock that came back at another rate matches the present one: RATE_ERR ends, and its frames may clear CLK_LOSS
(R389). -/
def State.admitRate (s : State) (n : Nat) : State :=
  let hz := s.domHz (s.sapDom n)
  match (s.sap n).clock with
  | some r =>
    if ((r : Int) - (hz * 1000000 : Nat)).natAbs ≤ 1000 * hz then
      (s.set (Pg.sap n) SAP.STAT_RATE_ERR 0).onSap n fun x => { x with clock := none }
    else s
  | none => s

/-- Shared frame clocks of a domain take their setting from a plan. -/
def State.loadFclks (s : State) (p : Plan) (ks : List Nat) : State :=
  let v := BitVec.ofNat 32 (planFclk p)
  s.each ks fun s k =>
    s.each [SAP.FCLK_CFG_EN k, SAP.FCLK_CFG_DIR k, SAP.FCLK_CFG_DOMAIN k] fun s f => s.set (Pg.sap 0) f (f.of v)

/-- A plan swap gives the port its configuration, and restarts it where anything changes, or its shared frame clock does
(R379, R387). A follower without its clock stays in CLK_LOSS. -/
def State.configureSap (s : State) (x : PlanSap) (again : Bool) : State :=
  let n := x.port
  let p := Pg.sap n
  let s := s.onSap n fun y => { y with used := true }
  let old := s
  let put := fun (s : State) (fs : List Fld) (v : Word) => s.each fs fun s f => s.set p f (f.of v)
  let s := put s [SAP.CFG_LEAD, SAP.CFG_DOMAIN, SAP.CFG_D2_SRC, SAP.CFG_FMT, SAP.CFG_SLOTW, SAP.CFG_SLOTS, SAP.CFG_FSYNC,
    SAP.CFG_DELAY, SAP.CFG_BCLK_INV, SAP.CFG_WS_INV, SAP.CFG_TRI] x.cfg
  let low := 2 ^ s.slotCount n
  let s := (s.set p SAP.MASK_IN_SLOTS (x.maskIn.toNat % low)).set p SAP.MASK_OUT_SLOTS (x.maskOut.toNat % low)
  let s := put s [SAP.PATCH_OUT_BASE, SAP.PATCH_IN_BASE] x.patch
  let s := if s.sapD2 n then s.set Pg.rein REIN.DPLL2_STAT_PORT n else s
  if s.regs = old.regs && !again then s
  else if s.sapState n = Ss.clkLoss && !s.sapLead n then s
  else (s.dropClkLoss n).startSap n

/-- A port that the new plan does not use stops. -/
def State.unuseSap (s : State) (n : Nat) : State :=
  ((s.dropClkLoss n).setSap n Sap.reset).setSapState n Ss.off |>.set (Pg.sap n) SAP.CFG_DOMAIN 3

/-- EN is cleared: the inputs fade, the outputs send zeros until the buffer is empty. -/
def State.sapDrained (s : State) (n : Nat) : State :=
  let s := s.catchUp n
  let s := if s.sapState n = Ss.run || s.sapState n = Ss.slip then s.fadeLast n else s
  s.onSap n fun x => { x with
    stopping := true, inBuf := [], outBuf := x.outBuf.map fun f => f.map fun _ => 0 }

/-- Nothing waits in the buffer. -/
def State.sapIdle (s : State) (n : Nat) : Bool := (s.sap n).outBuf.isEmpty || !s.sapAligned n

/-- The port has stopped, with its pins low. -/
def State.sapStopped (s : State) (n : Nat) : State :=
  let s := (s.dropClkLoss n).setSapState n Ss.off
  ((s.onSap n fun x => { x with stopping := false, inBuf := [], outBuf := [], aligning := false }).sdoLow n).showFill n

/-- KILL stops it at once, with the input fade. -/
def State.sapKilled (s : State) (n : Nat) : State :=
  let s := s.catchUp n
  let s := if s.sapState n = Ss.run || s.sapState n = Ss.slip then s.fadeLast n else s
  s.sapStopped n

/-- SRST, after the page's registers have been reset: the configuration from the running plan stands. -/
def State.sapReset (s : State) (n : Nat) : State :=
  let x := s.sap n
  let s := (s.setSap n { Sap.reset with used := x.used, taken := x.taken, slipAt := x.slipAt }).lower Src.sapLoss n
  match s.fabric.running with
  | some p => (match p.saps.find? fun x => x.port == n with
    | some x => (if n = 0 then s.loadFclks p (List.range 4) else s).configureSap x false
    | none => s)
  | none => s

end Sys2Proof.Machine
end

