-- ==== Sys2Proof/Machine/Stirrup.lean ====
section
/-!
DEFINITION. The commands of the Stirrup loops (chapter 16, R480, R489).
-/

namespace Sys2Proof.Machine

/-- An event of a loop: nothing happens on a part without it (R9). -/
def State.loopEvent (s : State) (n : Nat) (c : State → Bool) (f : State → State) : Outcome :=
  guardWf (n < 16) (.next (whenHolds (s.hasLoop n && c s) s f))

/-- A trip of loop n: its group goes low, hiccups, and latches at the fourth trip in 10 s (R401, R402, R405). -/
def State.tripLoop (s : State) (n : Nat) (ipeak : Nat) : State :=
  let p := Pg.stirrup n
  let group := s.loopGroup n
  let fourth := 4 ≤ (recentTrips s.now (s.loop n).trips).length + 1
  let s := s.each group fun t k => t.tripMember fourth k
  let s := (s.count p STIRRUP.TRIPS).lifeAdd p 0
  let s := s.notePeak n ipeak
  if fourth then s.each group fun t k => t.raise Src.stirOc k else s.raise Src.stirOc n

/-- ISNS has passed ±OC_LIMIT at a peak in 1/65,536 of full scale (R401). -/
def State.passesOc (s : State) (n ipeak : Nat) : Bool := 256 * s.get (Pg.stirrup n) STIRRUP.PROT_OC_LIMIT ≤ ipeak

/-- TRIP (R401, R402): ISNS passes OC_LIMIT, or DRV_FLT_N falls (`drv`); a loop that does not switch counts no trip. -/
def execTrip (n : Nat) (drv : Bool) (ipeak : BitVec 16) (s : State) : Outcome :=
  s.loopEvent n (fun _ => true) fun s =>
    let s := if drv then
        (s.setLoop n { s.loop n with drvLow := true }).set (Pg.stirrup n) STIRRUP.STAT_DRV_FLT 1
      else s
    if s.switching n && (drv || s.passesOc n ipeak.toNat) then s.tripLoop n ipeak.toNat else s

/-- HICCUP_END (R401): 80 ms after the trip the loop and its group restart in SOFT_START; in the safe state only the
hiccup ends (R404). -/
def execHiccupEnd (n : Nat) (s : State) : Outcome :=
  s.loopEvent n (fun s => (s.loop n).hiccup) fun s =>
    let s := s.reach ((s.loop n).tripAt + cyclesMs 80)
    s.each ((s.loopGroup n).filter fun k => (s.loop k).hiccup) State.hiccupOver

/-- SOFT_START_END (R402): 20 ms after the start the loop is in RUN. -/
def execSoftStartEnd (n : Nat) (s : State) : Outcome :=
  s.loopEvent n (fun s => s.loopState n == Loop.softStart) fun s =>
    (s.reach ((s.loop n).startAt + cyclesMs 20)).setLoopState n Loop.run

/-- Some loop is LATCHED for a cause. -/
def State.anyLatched (s : State) (cause : Nat) : Bool :=
  (List.range 16).any fun k =>
    s.loopState k == Loop.latched && s.get (Pg.stirrup k) STIRRUP.STAT_LATCH_CAUSE == cause

/-- STIRRUP_OC_CLEAR (R402): every loop has run 1 s without a trip and none is LATCHED for OC. -/
def execStirrupOcClear (s : State) : Outcome :=
  .next (whenHolds (!(s.cinchSrc Src.stirOc).active.isEmpty && !s.anyLatched 1) s fun s =>
    let last := ((List.range 16).map fun k => (s.loop k).tripAt).foldl max 0
    let s := s.reach (last + cyclesSec 1)
    s.each (s.cinchSrc Src.stirOc).active fun t k => t.lower Src.stirOc k)

/-- A DC or OSC latch of a loop and its bridge mate (R403, R406). -/
def State.latchPair (s : State) (n cause src : Nat) : State :=
  s.each ((s.loopPair n).filter fun k => s.loopState k != Loop.latched) fun t k => (t.latchLoop k cause).raise src k

/-- DC_LATCH (R403). -/
def execDcLatch (n : Nat) (s : State) : Outcome :=
  s.loopEvent n (fun s => s.loopState n != Loop.latched) fun s => s.latchPair n 2 Src.stirDc

/-- OSC_LATCH (R403): in SOFT_START, WAKE or RUN. -/
def execOscLatch (n : Nat) (s : State) : Outcome :=
  s.loopEvent n (fun s => s.switching n) fun s => s.latchPair n 3 Src.stirOsc

/-- A register write on loop n's page. -/
def State.loopWrite (s : State) (m : Master) (n : Nat) (f : State → State) : Outcome :=
  guardWf (n < 16) (.next (s.writeTo m (Pg.stirrup n) f))

/-- LATCH_CLR (R402, R403, R405, R406): the loop's whole group leaves LATCHED. -/
def State.latchClear (s : State) (n : Nat) : State :=
  let group := s.loopGroup n
  let s := s.each group State.unlatch
  let s := s.each group fun t k => (t.lower Src.stirDc k).lower Src.stirOsc k
  s.each group fun t k => if t.safe then t.enterSafe k else t

def execLatchClr (m : Master) (n : Nat) (s : State) : Outcome :=
  s.loopWrite m n fun s => s.latchClear n

/-- The carrier's frequency in kHz: its target, or on the way there at 100 kHz per ms (R400). -/
def State.carrierNow (s : State) (n : Nat) : Nat :=
  let target := s.get (Pg.stirrup n) STIRRUP.CARRIER_FC_TARGET
  match (s.loop n).moving with
  | some (from_, due) =>
    let left := (due - s.now) / 6250
    if from_ ≤ target then target - left else target + left
  | none => target

/-- AVOID_APPLY (R400): the shadow copy is evaluated, and applied, deferred, moved to or refused. -/
def State.avoidApply (s : State) (n : Nat) : State :=
  let p := Pg.stirrup n
  let l := s.loop n
  let table := s.shadowTable n
  let req := s.get p STIRRUP.CARRIER_FC_REQ
  let comp := if s.switching n then l.comp else s.compWord n
  match chooseCarrier (comp.getLsbD 31) table req with
  | none => s.event p 4
  | some f =>
    if f = s.get p STIRRUP.CARRIER_FC_TARGET then
      (s.setLoop n { l with avoid := table, fcReq := req, pend := none }).set p STIRRUP.STAT_AVOID_PEND 0
    else if s.flag p STIRRUP.CTRL_AVOID_NOW && s.switching n then
      let from_ := s.carrierNow n
      let s := s.setLoop n { l with
        avoid := table, fcReq := req, pend := none, moving := some (from_, s.now + 6250 * carrierMiss f from_) }
      let s := s.each (s.loopPair n) fun t k => t.set (Pg.stirrup k) STIRRUP.CARRIER_FC_TARGET f
      (s.set p STIRRUP.STAT_AVOID_PEND 0).count p STIRRUP.AVOID_MOVES
    else (s.setLoop n { l with pend := some ⟨table, req, f⟩ }).set p STIRRUP.STAT_AVOID_PEND 1

/-- On the odd loop of a bridge pair the write is ignored (R406). -/
def execAvoidApply (m : Master) (n : Nat) (s : State) : Outcome :=
  s.loopWrite m n fun s => if s.governor n = n then s.avoidApply n else s

/-- AVOID_MOVED (R400): the move reaches the new target; that of a loop which no longer switches has ended with its carrier. -/
def execAvoidMoved (n : Nat) (s : State) : Outcome :=
  s.loopEvent n (fun s => (s.loop n).moving.isSome && s.switching n) fun s =>
    let s := match (s.loop n).moving with
      | some m => s.reach m.2
      | none => s
    ((s.setLoop n { s.loop n with moving := none }).measureLoop n).event (Pg.stirrup n) 3

/-! ### Load tracking (R407) -/

/-- One band's second: VALID once it was loud in two of the last ten. -/
def State.loadBand (s : State) (n : Nat) (b : LoadBand) : State :=
  let p := Pg.stirrup n
  let l := s.loop n
  let hist := (b.loud :: nget [] l.loud b.band).take 10
  let valid := 2 ≤ (hist.filter id).length
  let s := s.setLoop n { l with loud := nput [] l.loud b.band hist }
  let s := s.setFlag p STIRRUP.LOAD_Z_VALID valid b.band
  if b.loud then s.set p STIRRUP.LOAD_Z_MAG b.mag.toNat b.band else s

/-- Z_MIN: the lowest VALID band, if any. -/
def State.zMin (s : State) (n : Nat) : Option Nat :=
  let p := Pg.stirrup n
  ((List.range 10).filter fun b => s.flag p STIRRUP.LOAD_Z_VALID b).foldl
    (fun z b =>
      let v := s.get p STIRRUP.LOAD_Z_MAG b
      match z with
      | none => some v
      | some w => some (min v w))
    none

/-- Some VALID band differs from its VALID baseline by more than DRIFT_PCT. -/
def State.drifted (s : State) (n : Nat) : Bool :=
  let p := Pg.stirrup n
  (List.range 10).any fun b =>
    let z := s.get p STIRRUP.LOAD_Z_MAG b
    let base := s.get p STIRRUP.LOAD_BASE_MAG b
    s.flag p STIRRUP.LOAD_Z_VALID b && s.flag p STIRRUP.LOAD_BASE_VALID b &&
      s.get p STIRRUP.LOAD_CFG_DRIFT_PCT * base < 100 * ((z : Int) - base).natAbs

/-- A condition's seconds, and whether it holds after `need` of them. -/
def LoadCond.tick (c : LoadCond) (now : Bool) (need : Nat) : LoadCond :=
  if now then ⟨min (c.secs + 1) need, need ≤ c.secs + 1⟩ else ⟨0, false⟩

/-- An entry to a condition raises its event. -/
def State.loadEntry (s : State) (n ev : Nat) (was is_ : Bool) : State :=
  if !was && is_ then (s.event (Pg.stirrup n) ev).count (Pg.stirrup n) STIRRUP.LOAD_EVENTS else s

/-- LOAD_UPDATE (R407): each second's estimates, and the conditions Open, Short and Drift. -/
def State.loadUpdate (s : State) (n : Nat) (bands : List LoadBand) : State :=
  let p := Pg.stirrup n
  let s := s.reach ((s.loop n).loadAt + cyclesSec 1)
  let s := s.setLoop n { s.loop n with loadAt := s.now }
  let s := s.each (bands.filter fun b => b.band < 10) fun t b => t.loadBand n b
  let l := s.loop n
  let z := s.zMin n
  let opened := l.opened.tick (z.any fun z => 100 * s.get p STIRRUP.LOAD_CFG_OPEN_OHM < z) 2
  let shorted := l.shorted.tick (z.any fun z => z < 10 * s.get p STIRRUP.LOAD_CFG_SHORT_DOHM) 2
  let drift := l.drift.tick (s.drifted n) 10
  let s := s.setLoop n { l with opened := opened, shorted := shorted, drift := drift }
  let s := s.loadEntry n 7 l.opened.held opened.held
  let s := s.loadEntry n 8 l.shorted.held shorted.held
  let s := s.loadEntry n 9 l.drift.held drift.held
  s.setSource Src.stirLoad n (opened.held || shorted.held || drift.held)

/-- Of a bridge pair, the even loop tracks the load (R406). -/
def execLoadUpdate (n : Nat) (bands : List LoadBand) (s : State) : Outcome :=
  s.loopEvent n (fun s => s.governor n == n) fun s => s.loadUpdate n bands

/-- BASELINE_CAP (R407): every VALID band becomes the baseline, the others' baselines are not valid. -/
def State.baselineCap (s : State) (n : Nat) : State :=
  let p := Pg.stirrup n
  s.each (List.range 10) fun s b =>
    if s.flag p STIRRUP.LOAD_Z_VALID b then
      (s.set p STIRRUP.LOAD_BASE_VALID 1 b).set p STIRRUP.LOAD_BASE_MAG (s.get p STIRRUP.LOAD_Z_MAG b) b
    else s.set p STIRRUP.LOAD_BASE_VALID 0 b

def execBaselineCap (m : Master) (n : Nat) (s : State) : Outcome :=
  s.loopWrite m n fun s => s.baselineCap n

/-! ### Silence power-down (R408, R409) -/

/-- The watched slot watches the loop's input for silence. -/
def State.watchesSilence (s : State) (n : Nat) : Bool :=
  let p := Pg.stirrup n
  let k := s.get p STIRRUP.CTRL_SIL_SLOT
  s.flag p STIRRUP.CTRL_PD_EN && s.flag Pg.mix MIX.MON_CFG_SIL_EN k &&
    s.get Pg.mix MIX.MON_CFG_SOURCE k == s.loopInput n

/-- STIRRUP_SLEEP (R408): the slot has read SILENT at every tick for PD_HOLD. -/
def execStirrupSleep (n : Nat) (s : State) : Outcome :=
  s.loopEvent n (fun s => s.loopState n == Loop.run && s.watchesSilence n && (s.loop n).silentAt.isSome) fun s =>
    let p := Pg.stirrup n
    let s := s.reach ((s.loop n).silentAt.getD s.now + cyclesSec (s.get p STIRRUP.PROT_PD_HOLD))
    (s.gatesLow n Loop.sleep).event p 5

/-- A sample of the block at the loop's input lies above the watched slot's MON_THRESH (R409). -/
def State.inputLoud (s : State) (n : Nat) : Bool :=
  (s.patchWords (s.loopInput n)).any fun v =>
    s.get Pg.mix MIX.MON_THRESH_LEVEL (s.get (Pg.stirrup n) STIRRUP.CTRL_SIL_SLOT) < magnitude v

/-- STIRRUP_WAKE (R409): a sample above the threshold starts the carrier; not while a group hiccup runs (R405), nor while
DRV_FLT_N is low (R402). -/
def execStirrupWake (n : Nat) (s : State) : Outcome :=
  s.loopEvent n (fun s => s.loopState n == Loop.sleep && s.inputLoud n && !(s.loop n).hiccup && !(s.loop n).drvLow) fun s =>
    let s := s.startCarrier n Loop.wake
    if s.loopState n == Loop.wake then s.count (Pg.stirrup n) STIRRUP.WAKES else s

/-- WAKE_SETTLED (R409): the 0.5 ms settle ends. -/
def execWakeSettled (n : Nat) (s : State) : Outcome :=
  s.loopEvent n (fun s => s.loopState n == Loop.wake) fun s =>
    ((s.reach ((s.loop n).startAt + cyclesUs 500)).setLoopState n Loop.run).event (Pg.stirrup n) 6

/-! ### Starts and pins -/

/-- Firmware starts no loop in the safe state, nor on a paired node that may not drive its outputs (R480, R446). -/
def State.loopsMayStart (s : State) : Bool :=
  !s.safe && s.emits

/-- Firmware sets EN of a loop. -/
def State.startLoop (s : State) (n : Nat) : State :=
  let p := Pg.stirrup n
  ((s.set p PG.CTRL_EN 1).set p PG.STAT_QUIESCED 0).stirrupEnabled n

/-- STIRRUP_START_TIMER (R480): the next loop, with its bridge mate and its supply group, is enabled, 5 ms after the one
before. -/
def execStirrupStartTimer (s : State) : Outcome :=
  .next (match s.fabric.startLoops with
    | [] => s
    | n :: ns =>
      if s.loopsMayStart then
        let group := (n :: ns).filter fun k => k = n || (s.loopGroup n).contains k
        let s := s.reach s.fabric.loopsAt
        let left := ns.filter fun k => !group.contains k
        let s := { s with fabric := { s.fabric with startLoops := left, loopsAt := s.now + cyclesMs 5 } }
        s.each group State.startLoop
      else s)

/-- SUPPLY_MONITOR_TRIP (R489): every Stirrup output is driven low while the supply is low. -/
def execSupplyMonitorTrip (s : State) : Outcome :=
  .next { s with ctrl := { s.ctrl with supplyCut := true } }

/-- DRV_FLT_N_RELEASE (R402): DRV_FLT clears, and a loop held back by it starts. -/
def execDrvFltNRelease (n : Nat) (s : State) : Outcome :=
  s.loopEvent n (fun s => (s.loop n).drvLow) fun s =>
    let p := Pg.stirrup n
    let s := (s.setLoop n { s.loop n with drvLow := false }).set p STIRRUP.STAT_DRV_FLT 0
    if s.flag p PG.CTRL_EN && (s.loopState n = Loop.off || (s.loopState n = Loop.hiccup && !(s.loop n).hiccup)) then
      s.beginSoftStart n
    else s

/-- DEPTH_LIMIT (R399): the limiter engages with a gain reduction in 0.1 dB; engaged already, it only reduces further. -/
def execDepthLimit (n : Nat) (gr : Byte) (s : State) : Outcome :=
  s.loopEvent n (fun s => s.switching n) fun s =>
    let p := Pg.stirrup n
    let s := s.refreshLoop n
    let was := s.flag p STIRRUP.STAT_LIMITING
    let gr := if was then max gr.toNat (s.get p STIRRUP.MEAS_GR) else gr.toNat
    let s := s.setLoop n { s.loop n with limitAt := s.now, limitGr := gr }
    let s := (s.set p STIRRUP.STAT_LIMITING 1).set p STIRRUP.MEAS_GR gr
    if was then s else (s.count p STIRRUP.DEPTH_LIMITS).event p 2

/-! ### The end of a drain, KILL and SRST (R411) -/

/-- A loop that is OFF is LATCHED for nothing. -/
def State.loopStopped (s : State) (n : Nat) : State :=
  ((s.stirrupQuiesced n).lower Src.stirDc n).lower Src.stirOsc n

/-- SRST ends the load conditions too; the safe state stands. -/
def State.loopReset (s : State) (n : Nat) : State :=
  let s := (((s.stirrupReset n).lower Src.stirDc n).lower Src.stirOsc n).lower Src.stirLoad n
  if s.safe then s.enterSafe n else s

/-- A second of a loop that switches (life counter 3, carrier hours). -/
def State.loopSecond (s : State) (n : Nat) : State :=
  if !s.switching n then s
  else
    let l := s.loop n
    if l.carrierSecs + 1 < 3600 then s.setLoop n { l with carrierSecs := l.carrierSecs + 1 }
    else (s.setLoop n { l with carrierSecs := 0 }).lifeAdd (Pg.stirrup n) 3

end Sys2Proof.Machine
end

