-- ==== Sys2Proof/Machine/SwapOps.lean ====
section
/-!
DEFINITION. How a plan takes the place of another (chapter 06, R15, R91, R376, R379, R479): the change of the tiles of a
domain at tick c - 1, the domain and its endpoints at tick c, and the tables of the whole node; and how a plan stops.
-/

namespace Sys2Proof.Machine

/-- SWAP_MS in samples of a rate. -/
def State.swapSamples (s : State) (hz : Nat) : Nat := samplesOf (s.get Pg.mix MIX.RAMP_CFG_SWAP_MS) hz

/-- Every entry of some registers of a page returns to its reset value. -/
def State.clearRegs (s : State) (p : Nat) (offs : List Nat) : State :=
  { s with regs := s.regs.filter fun e => !(e.1.p == p && offs.contains e.1.off) }

/-- The fields of a register take their bits of a word. -/
def State.putFields (s : State) (p : Nat) (fs : List Fld) (v : Word) (i : Nat) : State :=
  s.each fs fun s f => s.set p f (f.of v) i

/-! ### The tables of the MIX page -/

/-- The bus table; a bus that the plan declares again keeps its scale. -/
def State.loadBuses (s : State) (p : Plan) : State :=
  let g := Pg.mix
  let names := p.buses.map (·.bus)
  let s := s.clearRegs g [MIX.BUS_CFG_LAW.off, MIX.BUS_MEMB_BASE.off, MIX.BUS_FLOOR_GAIN_FLOOR.off, MIX.BUS_STAT_ACTIVE.off]
  let s := { s with regs := s.regs.filter fun e =>
      !(e.1.p == g && e.1.off == MIX.BUS_SCALE_S.off && !names.contains e.1.i) }
  let s := s.onMix fun m => { m with
    busLaw := m.busLaw.filter fun e => names.contains e.1
    busTarget := m.busTarget.filter fun e => names.contains e.1
    busStep := m.busStep.filter fun e => names.contains e.1 }
  s.each p.buses fun s b =>
    let s := ((s.set g MIX.BUS_CFG_LAW b.law.toNat b.bus).set g MIX.BUS_CFG_HEADROOM b.headroom b.bus).set g
      MIX.BUS_CFG_TILE b.tile b.bus
    let s := (s.set g MIX.BUS_CFG_OUT_CH b.outCh b.bus).set g MIX.BUS_MEMB_BASE b.base b.bus
    (s.set g MIX.BUS_MEMB_COUNT b.count b.bus).set g MIX.BUS_FLOOR_GAIN_FLOOR b.floor.toNat b.bus

/-- The member table (R158). -/
def State.loadMembers (s : State) (p : Plan) : State :=
  let g := Pg.mix
  let s := s.clearRegs g [MIX.MEMB_SIL_SLOT.off, MIX.MEMB_GAIN_VALID.off]
  s.each p.members fun s m =>
    let s := (s.set g MIX.MEMB_SIL_SLOT m.slot m.entry).setFlag g MIX.MEMB_GAIN_VALID m.valid m.entry
    (s.set g MIX.MEMB_GAIN_TILE m.tile m.entry).set g MIX.MEMB_GAIN_PSLOT m.pslot m.entry

/-- The fields of MON_CFG. -/
def monFields : List Fld :=
  [MIX.MON_CFG_MTR_EN, MIX.MON_CFG_SIL_EN, MIX.MON_CFG_RMS_TC, MIX.MON_CFG_PK_HOLD, MIX.MON_CFG_SIL_HOLD, MIX.MON_CFG_SOURCE]

/-- The monitor slots (R185). -/
def State.loadMonitors (s : State) (p : Plan) : State :=
  let s := s.clearRegs Pg.mix [MIX.MON_CFG_SOURCE.off, MIX.MON_THRESH_LEVEL.off]
  s.each p.monitors fun s m => (s.putFields Pg.mix monFields m.cfg m.slot).set Pg.mix MIX.MON_THRESH_LEVEL m.thresh.toNat m.slot

/-- What the plan loads at its commit, and SRST of the MIX page restores. -/
def State.loadMixTables (s : State) (p : Plan) : State := ((s.loadBuses p).loadMembers p).loadMonitors p

/-- The bridges; one that is new starts in HOLD, silent, until BRIDGE_LOCK (R184). -/
def State.loadBridges (s : State) (p : Plan) : State :=
  let g := Pg.mix
  let old := s
  let s := s.clearRegs g [MIX.BRG_CFG_SRC.off, MIX.BRG_STAT_STATE.off]
  let gone := (List.range 512).filter fun b => !p.bridges.any fun x => x.bridge == b
  let s := s.each (gone.filter fun b => (old.cinchSrc Src.bridgeHold).active.contains b) fun s b => s.lower Src.bridgeHold b
  s.each p.bridges fun s x =>
    let b := x.bridge
    let same := old.get g MIX.BRG_CFG_SRC b == x.src && old.get g MIX.BRG_CFG_DST b == x.dst &&
      old.get g MIX.BRG_CFG_SRC_DOM b == x.srcDom && old.get g MIX.BRG_CFG_DST_DOM b == x.dstDom
    let s := (s.set g MIX.BRG_CFG_SRC_DOM x.srcDom b).set g MIX.BRG_CFG_DST_DOM x.dstDom b
    let s := (s.set g MIX.BRG_CFG_SRC x.src b).set g MIX.BRG_CFG_DST x.dst b
    if same && old.bridgeState b ≠ 0 then
      (s.set g MIX.BRG_STAT_STATE (old.bridgeState b) b).set g MIX.BRG_STAT_RATIO_ERR (old.get g MIX.BRG_STAT_RATIO_ERR b) b
    else s.set g MIX.BRG_STAT_STATE Brg.hold b

/-! ### Serial ports and loops (R379, R479, R480) -/

/-- The plan's ports of a domain are configured and enabled at its effect tick, with its shared frame clocks; ports of the
domain that the plan does not use stop (R170, R379). Domain 3 is that of unused ports. -/
def State.loadSaps (s : State) (p : Plan) (d : Nat) : State :=
  let fclk (k : Nat) : Nat := planFclk p / 2 ^ (8 * k) % 16
  let now (k : Nat) : Nat := s.get (Pg.sap 0) (SAP.FCLK_CFG_DOMAIN k) + 4 * s.get (Pg.sap 0) (SAP.FCLK_CFG_DIR k) +
    8 * s.get (Pg.sap 0) (SAP.FCLK_CFG_EN k)
  let turned := (List.range 4).filter fun k => fclk k % 4 = d && fclk k ≠ now k
  let s := s.loadFclks p turned
  let s := s.each (List.range s.sapCount) fun s n =>
    if s.sapDom n = d && (s.sap n).used && !p.saps.any (·.port == n) then s.unuseSap n else s
  s.each (p.saps.filter fun x => SAP.CFG_DOMAIN.of x.cfg = d) fun s x =>
    let fresh := !s.flag (Pg.sap x.port) PG.CTRL_EN
    let s := (s.set (Pg.sap x.port) PG.CTRL_EN 1).set (Pg.sap x.port) PG.STAT_QUIESCED 0
    let s := (s.configureSap x (turned.contains (SAP.CFG_FSYNC.of x.cfg - 1) && SAP.CFG_FSYNC.of x.cfg ≠ 0)).admitRate x.port
    if fresh then s.startSap x.port else s

/-- STIRRUP.CFG of a domain's loops comes from the plan at its effect tick (R170); a loop that the plan drops takes no more
samples. Mutes in force apply to the new inputs (R417). -/
def State.loadLoops (s : State) (p : Plan) (d : Nat) : State :=
  State.reconcile s <| s.each (List.range s.loopCount) fun s n =>
    let g := Pg.stirrup n
    match p.loops.find? fun x => x.loop == n with
    | some x =>
      if x.domain = d then
        ((s.set g STIRRUP.CFG_DOMAIN x.domain).setFlag g STIRRUP.CFG_BRIDGE x.bridge).setFlag g STIRRUP.CFG_LOOKAHEAD
          x.lookahead |>.set g STIRRUP.CFG_IN_PATCH x.inPatch
      else s
    | none =>
      if s.get g STIRRUP.CFG_DOMAIN = d then
        (s.clearRegs g [STIRRUP.CFG_DOMAIN.off]).setLoop n { s.loop n with refs := [], ahead := [] }
      else s

/-- Firmware will start the plan's loops in ascending order (R480). -/
def State.listLoops (s : State) (p : Plan) : State :=
  s.onFabric fun f => { f with startLoops := (List.range 16).filter fun n => p.loops.any fun x => x.loop == n }

/-! ### The tiles of a domain at tick c - 1 (R179, R510) -/

/-- A tile has no work any more. -/
def State.stopTile (s : State) (t : Nat) : State :=
  let x := s.tile t
  let s := s.setTile t { x with
    pass := .idle, rpt := none, missRun := 0, lastOut := [], out := [], drained := [], shadow := false }
  (s.unconfigureTile t).onFabric fun f => { f with place := SMap.erase f.place t, reloadWait := SMap.erase f.reloadWait t }

/-- A tile takes its plan entry and its presets (R99). -/
def State.placeTile (s : State) (x : PlanTile) : State :=
  let s := s.setTile x.tile ((s.tile x.tile).preset x)
  (s.onFabric fun f => { f with place := nset f.place x.tile x }).configureTile x

/-- A RELOAD tile: its image is loaded, it waits L ticks, and its outputs stay silent and then fade in. -/
def State.reloadTile (s : State) (x : PlanTile) (hz b : Nat) : State :=
  let l := silentBlocks hz b
  let y := s.tile x.tile
  let s := s.setTile x.tile { y with
    pass := .idle, rpt := none, missRun := 0, lastOut := [], out := [], drained := [], shadow := false }
  let s := (s.loadTile x).placeTile x
  let s := s.onFabric fun f => { f with reloadWait := nset f.reloadWait x.tile l }
  let n := s.swapSamples hz
  s.onMix fun m => { m with fades := x.outputs.foldl (fun f q => nset f q (.silent l n)) m.fades }


/-- WARM crossfades of earlier swaps without the tiles that stop; one that has no tile left to fade in is over (R180). -/
def State.cutWarm (s : State) (stopped : List Nat) : State :=
  s.onFabric fun f => { f with
    warmFades := (f.warmFades.map fun w => { w with
      new := w.new.filter fun t => !stopped.contains t, old := w.old.filter fun t => !stopped.contains t }).filter
        fun w => !w.new.isEmpty }

/-- Tiles of a domain that stop at a swap: those that the new plan does not keep and that are no old side of a WARM
crossfade, a running one among them while some tile still fades in there (R180). -/
def State.stopping (s : State) (p : Plan) (d : Nat) (kept old : List Nat) : List Nat :=
  let mine := (s.working.filter fun e => e.2.domain == d).map (·.1)
  let stop := mine.filter fun t => !kept.contains t && !old.contains t && !s.isOldTile t
  let ended := s.fabric.warmFades.filter fun w => w.new.all stop.contains
  stop ++ mine.filter fun t => s.isOldTile t && (ended.any (·.old.contains t) || p.tiles.any fun x => x.tile == t)

/-- Every tile of a domain changes to the new plan; the tiles whose next pass is their first of the plan are those of the
plan that do not reload. -/
def State.swapTiles (s : State) (p : Plan) (d : Nat) : State :=
  let mine := (p.tiles.filter fun x => x.domain == d).map fun x => (x, s.swapClass p x)
  let kept := (mine.filter fun e => e.2 == .keep).map (·.1.tile)
  let warm := (mine.filter fun e => e.2 == .warm).map (·.1)
  let old := (s.oldSide p).filter fun t => s.tileDomain t == d
  let ends := s.stopping p d kept old
  let stop := s.working.filter fun e => ends.contains e.1
  let outs := p.tiles.flatMap (·.outputs)
  let freed := stop.flatMap fun e => e.2.outputs
  let gone := freed.filter fun q => !outs.contains q
  -- A point that a KEEP tile takes over carries that tile's output from here on, whatever faded out there.
  let takes := ((mine.filter fun e => e.2 == .keep).flatMap fun e => e.1.outputs).filter freed.contains
  let hz := (planRate p d).1
  let look := s.lookaheadPatches p d
  let s := ((s.keepOldRelocs old).cutWarm ends).each ends State.stopTile
  let s := s.onMix fun m => { m with fades := m.fades.filter fun e => !takes.contains e.1 }
  let s := s.each mine fun s e =>
    match e.2 with
    | .keep => s.placeTile e.1
    | .warm =>
      let s := if (s.tile e.1.tile).shadow then s else s.loadTile e.1
      let s := s.placeTile e.1
      s.setTile e.1.tile { s.tile e.1.tile with shadow := false, missRun := 0 }
    | .reload => s.reloadTile e.1 hz (planRate p d).2
  let n := s.swapSamples hz
  let s := s.onFabric fun f => { f with
    gone := f.gone ++ gone.map fun q => (d, q)
    warmFades := if warm.isEmpty then f.warmFades else f.warmFades ++ [⟨d, 0, n, warm.map (·.tile), old⟩]
    swap := f.swap.map fun w => { w with started := w.started ++ [d] } }
  let s := s.onMix fun m => { m with
    fades := look.foldl (fun f q => nset f q (.silent (silentBlocks hz (planRate p d).2) n)) m.fades }
  let route (reload : Bool) (s : State) : State :=
    s.each (mine.filter fun e => (e.2 == .reload) == reload) fun s e =>
      s.each e.1.inputs fun s q => s.swapRoute q (planSource p q) reload
  (route false (route true s)).startWaiting

/-! ### A domain at its effect tick (R15, R180, R356, R510) -/

/-- B × round(τ × fs / B) at a time of TIME0 in ns (R356). -/
def mediaAt (ns hz b : Nat) : Nat := (2 * ns * hz + b * nsPerSec) / (2 * b * nsPerSec) * b

/-- The domain starts, or goes on where rate and B stay (R15): a new one counts its ticks from here. -/
def State.startDomain (s : State) (x : PlanDomain) : State :=
  let d := x.dom
  let f := Pg.fabric
  let was := s.domActive d
  let same := was && s.get f (FABRIC.DOM_CFG_RATE d) == x.rate.toNat && s.get f (FABRIC.DOM_CFG_BSIZE d) == x.bsize.toNat
  let s := (s.set f (FABRIC.DOM_CFG_RATE d) x.rate.toNat).set f (FABRIC.DOM_CFG_BSIZE d) x.bsize.toNat
  let s := s.set f (FABRIC.DOM_CFG_ACTIVE d) 1
  if same then s
  else
    let y := s.dom d
    let s := s.setDom d { y with
      epoch := s.now, count := 0, phase := 0, differ := 0, shift := 0, media := mediaAt s.nanos0 (s.domHz d) (s.domB d) }
    if was then s else s.set f (FABRIC.DOM_TICKS_TICKS d) 0

/-- The domain is in use no more. -/
def State.stopDomain (s : State) (d : Nat) : State :=
  (s.set Pg.fabric (FABRIC.DOM_CFG_ACTIVE d) 0).setDom d { s.dom d with differ := 0, shift := 0, nextPct := none }

/-- Contexts of a domain whose patch points the new plan does not assign as before are STOPPED (R376). -/
def State.orphanFlows (s : State) (d : Nat) (sameRate : Bool) : State :=
  s.each (s.flow.ctxs.map (·.1)) fun s c =>
    match s.ctx c with
    | some x =>
      if x.pathB || x.desc.domain ≠ d || x.orphan || (sameRate && s.flowPatchesOk x.desc) then s
      else
        let s := if c < 512 then (s.fadeCtx c false).leaveConceal c else s.onCtx c fun y => { y with built := [] }
        let s := s.each (x.both c) fun t k => t.onCtx k fun y => { y with orphan := true }
        (if s.ctxState c = Cs.draining then s else s.setCtxState c Cs.stopped).event (ctxPage c) 9
    | none => s

/-- Contexts of a stopped domain that were being deleted are free at once: no tick fades them out. -/
def State.freeStopped (s : State) (d : Nat) : State :=
  s.each (s.flow.ctxs.filter fun e => e.2.freeing && !e.2.pathB && e.2.desc.domain == d) fun s e => s.releaseCtx e.1

/-- Patch points keep their samples where the new plan gives their channel blocks other places (log 316). -/
def State.moveBlocks (s : State) (old : State) (p : Plan) : State :=
  let qs := ((p.blocks ++ (old.fabric.running.map (·.blocks)).getD []).map (·.1)).eraseDups
  s.each (qs.filter fun q => s.blockAt q ≠ old.blockAt q) fun s q => (s.putBlock 0 0 q (old.patchWords q)).1

/-- The new plan becomes the running plan: the tables of the whole node (R91, R512). The inputs of the old side of a WARM
crossfade keep their sources until it ends. -/
def State.installPlan (s : State) (p : Plan) (slot : Nat) : State :=
  let old := s
  let s := (s.endMargin.onFabric fun f => { f with running := some p, streams := [] }).moveBlocks s p
  let s := (s.set Pg.fabric FABRIC.PLAN_STAT_ACTIVE_SLOT slot).set Pg.fabric FABRIC.PLAN_STAT_ACTIVE_VALID 1
  let s := ((s.loadMixTables p).loadBridges p).discardStage
  let s := (s.loadSaps p 3).listLoops p
  let dests := (s.regs.filterMap fun e =>
    if e.1.p = Pg.mix && e.1.off = MIX.ROUTE_DATA_SOURCE.off then some e.1.i else none) ++ p.routes.map (·.1) ++
    s.mix.xfades.map (·.1) ++ s.mix.waits.map (·.1)
  let olds := (s.fabric.place.filter fun e => s.isOldTile e.1).flatMap (·.2.inputs)
  let tied := p.tiles.flatMap (·.inputs) ++ p.endpoints.map (·.1) ++ olds
  let s := s.each (dests.filter fun q => !tied.contains q) fun s q => s.swapRoute q (planSource p q) true
  State.reconcile old s.startWaiting

/-- A plan's domain takes effect, or one that only the old plan used ends. -/
def State.swapDomain (s : State) (p : Plan) (d : Nat) : State :=
  let f := Pg.fabric
  let rate := s.get f (FABRIC.DOM_CFG_RATE d)
  let s := match p.domains.find? fun x => x.dom == d with
    | some x => (s.orphanFlows d (rate == x.rate.toNat)).startDomain x
    | none => ((s.orphanFlows d false).stopDomain d).freeStopped d
  let s := (s.loadSaps p d).loadLoops p d
  s.each p.endpoints fun s e => if e.2 = d then s.swapRoute e.1 (planSource p e.1) false else s

/-- The domains that a swap concerns. -/
def State.swapDomains (s : State) (p : Plan) : List Nat :=
  (List.range 3).filter fun d => s.domActive d || p.domains.any fun x => x.dom == d

/-- Tick c of a domain: the first domain's brings the tables of the whole node. -/
def State.swapEffect (s : State) (d : Nat) : State :=
  match s.fabric.swap, s.swapPlan with
  | some w, some p =>
    let s := if w.installed then s
      else
        let s := s.each ((s.swapDomains p).filter fun k => !w.started.contains k) fun s k => s.swapTiles p k
        (s.installPlan p w.slot).onFabric fun f => { f with swap := f.swap.map fun w => { w with installed := true } }
    s.swapDomain p d
  | _, _ => s

/-- The swap is over in every domain. -/
def State.endSwap (s : State) : State :=
  let s := (s.onFabric fun f => { f with swap := none }).set Pg.fabric FABRIC.PLAN_STAT_SWAP_ARMED 0
  (s.set Pg.mix MIX.SWAP_STAT_L 0).set Pg.mix MIX.SWAP_STAT_RELOAD_TILES 0

/-! ### A plan that starts without a swap, and one that stops (R443, R445, R448) -/

/-- A plan starts at the next tick of each of its domains, on the epoch grid, with its outputs fading in. SINCE_COMMIT of
a tile's first pass is then 1 (DESIGN CHOICE, log 309). -/
def State.coldStart (s : State) (p : Plan) (slot : Nat) : State :=
  let s := s.each (p.tiles.map fun x => x) fun s x =>
    let hz := (planRate p x.domain).1
    let n := s.swapSamples hz
    let s := (s.loadTile x).placeTile x
    s.onMix fun m => { m with fades := x.outputs.foldl (fun f q => nset f q (.silent 1 n)) m.fades }
  let s := s.each p.domains fun s x =>
    let s := (s.stopDomain x.dom).startDomain x
    let s := ((s.stopDomain x.dom).stepDomain x.dom).set Pg.fabric (FABRIC.DOM_CFG_ACTIVE x.dom) 1
    let hz := s.domHz x.dom
    let b := s.domB x.dom
    let s := s.setDom x.dom { s.dom x.dom with tickAt := s.now, tF := 0, fenced := false }
    let due := s.tickCycle x.dom 1 - s.now
    let first := mediaAt (s.nanos0 + due * 8 / 5) hz b
    s.setDom x.dom { s.dom x.dom with media := (first + wrap64 - b) % wrap64 }
  let s := (s.installPlan p slot).each (List.range 3) fun s d => (s.loadSaps p d).loadLoops p d
  s.each p.routes fun s r => s.swapRoute r.1 r.2 true

/-- The running plan stops, with every flow, fade and armed commit of it. -/
def State.stopPlan (s : State) : State :=
  let s := s.each (s.fabric.place.map (·.1)) State.stopTile
  let s := s.each (List.range 3) State.stopDomain
  let s := s.each ((s.flow.ctxs.filter fun e => !e.2.pathB).map (·.1)) State.releaseCtx
  let s := s.each (List.range s.sapCount) fun s n => if (s.sap n).used then s.unuseSap n else s
  let s := s.each (List.range s.loopCount) fun s n =>
    (if s.switching n || s.loopState n = Loop.sleep then s.gatesLow n Loop.off else s).set (Pg.stirrup n) PG.CTRL_EN 0
  let s := s.endMargin.clearStage
  let s := s.onFabric fun f => { f with
    running := none, swap := none, place := [], warmFades := [], oldRelocs := [], oldMoved := [], reloadWait := [], gone := [], startLoops := [] }
  let s := s.onMix fun m => { m with
    commits := [], direct := [], staging := none, xfades := [], waits := [], patch := [], filling := [], fades := [],
    bridgeIn := [], busLaw := [], busTarget := [], busStep := [] }
  (s.set Pg.fabric FABRIC.PLAN_STAT_ACTIVE_VALID 0).set Pg.fabric FABRIC.PLAN_STAT_SWAP_ARMED 0

end Sys2Proof.Machine
end

