-- ==== Sys2Proof/Machine/KeeperOps.lean ====
section
/-!
DEFINITION. What the Keeper's commands share (chapter 18): the states of a pair, PAIR_ACT_OUT, going cold, checkpoints,
declaring a loss, taking over, and the effect of a handover.
-/

namespace Sys2Proof.Machine

def State.onKeeper (s : State) (f : Keeper → Keeper) : State := { s with keeper := f s.keeper }

def State.secondary (s : State) : Bool := s.flag Pg.keeper KEEPER.CFG_ROLE

/-- The node pairs: it has Tether lanes and PAIR_EN is 1. -/
def State.pairs (s : State) : Bool := s.pairing && s.pairEnabled

def State.actOut (s : State) : Bool := s.flag Pg.keeper KEEPER.STAT_ACT_OUT
def State.actIn (s : State) : Bool := s.flag Pg.keeper KEEPER.STAT_ACT_IN

/-- The node receives checkpoints. -/
def State.follows (s : State) : Bool :=
  s.pairs && (s.pairState == Pair.standby || s.pairState == Pair.warming || s.pairState == Pair.holdoff)

/-- The states in which PAIR_ACT_OUT may be high (R437). -/
def State.mayDrive (s : State) : Bool :=
  s.pairs && (s.pairState == Pair.active || s.pairState == Pair.alone || s.pairState == Pair.takingOver)

/-- Frames go out on both Tether lanes. -/
def State.sendTether (s : State) (l : List Tether) : State :=
  s.onKeeper fun k => { k with sent := l, txSeq := k.txSeq + BitVec.ofNat 16 l.length }

/-! ### PAIR_ACT_OUT and the states (R436, R437) -/

/-- The loops of a node that drives nothing stop, to be started again in their order. -/
def State.stopLoops (s : State) : State :=
  let s := s.each (List.range s.loopCount) fun s n =>
    (if s.switching n || s.loopState n = Loop.sleep then s.gatesLow n Loop.off else s).set (Pg.stirrup n) PG.CTRL_EN 0
  match s.fabric.running with
  | some p => s.onFabric fun f => { f with startLoops := (List.range 16).filter fun n => p.loops.any fun x => x.loop == n }
  | none => s

/-- PAIR_ACT_OUT goes low. -/
def State.dropActOut (s : State) : State :=
  if s.actOut then
    let s := s.set Pg.keeper KEEPER.STAT_ACT_OUT 0
    if s.emits then s else s.stopLoops
  else s

/-- The pair state changes. -/
def State.setPair (s : State) (st : Nat) : State :=
  let s := (s.set Pg.keeper KEEPER.STAT_PAIR_STATE st).onKeeper fun k => { k with stateAt := s.now, heard := false }
  if s.mayDrive then s else s.dropActOut

/-- The node goes cold: no plan, the fabric gated, the Girth in retention, the MACs disabled (R436, R439). -/
def State.goCold (s : State) : State :=
  let s := s.stopPlan.onKeeper fun k => { k with warmAt := none, armed := none, seqs := [] }
  let s := s.each (List.range s.tileCount) fun s t => s.set Pg.fabric FABRIC.TILE_CFG_GATED 1 t
  let s := (s.set Pg.girth GIRTH.RET_CTRL_SEG 0xFF).settleRetention
  s.each (List.range s.macCount) fun s n =>
    let live := s.enabled (Pg.mac n)
    ((s.set (Pg.mac n) PG.CTRL_EN 0).macKilled n live).set (Pg.mac n) PG.STAT_QUIESCED 1

/-- The fabric and the Girth wake. -/
def State.wakeNode (s : State) : State :=
  let s := s.each (List.range s.tileCount) fun s t => s.set Pg.fabric FABRIC.TILE_CFG_GATED 0 t
  s.each (List.range 8) fun s g => if s.retained g then s.wakeSegment g else s

/-- The MACs are enabled (R443). -/
def State.enableMacs (s : State) : State :=
  s.each (List.range s.macCount) fun s n =>
    if s.enabled (Pg.mac n) then s
    else ((s.set (Pg.mac n) PG.CTRL_EN 1).set (Pg.mac n) PG.STAT_QUIESCED 0).macEnabled n

/-- STANDBY. -/
def State.standBy (s : State) : State := (s.setPair Pair.standby).goCold

/-! ### The state that a checkpoint carries (R440) -/

/-- Fields of the REIN page that hold its configuration. -/
def reinFields : List Fld :=
  [REIN.XO_CFG_XO_TYPE, REIN.XO_CFG_HOLD_SPEC_S, REIN.SEL_CTRL_WTR_S, REIN.SEL_CTRL_REVERT, REIN.SEL_CTRL_FALLBACK,
    REIN.SEL_CTRL_MAN_REF, REIN.SEL_CTRL_MODE, REIN.DPLL0_CFG_ALIGN_PPM, REIN.DPLL0_CFG_SLEW, REIN.DPLL0_CFG_BW] ++
  [REIN.CHECK_CFG_XO_WIDE, REIN.CHECK_CFG_HARD, REIN.CHECK_CFG_SOFT, REIN.CHECK_CFG_AGREE, REIN.CHECK_TIME_QUAL_S,
    REIN.CHECK_TIME_DRIFT_S, REIN.FP_CTRL_STEP_LIM, REIN.DPLL1_CFG_SOURCE, REIN.DPLL1_CFG_REF, REIN.DPLL1_CFG_BW] ++
  ([0, 1, 2, 3] : List Nat).flatMap fun n =>
    [REIN.MCLK_CFG_EN n, REIN.MCLK_CFG_DOMAIN n, REIN.MCLK_CFG_MULT n, REIN.FP_CFG_EN n, REIN.FP_CFG_DIV1001 n,
      REIN.FP_CFG_SRC n, REIN.FP_CFG_RATE_HZ n, REIN.FP_OFS_NS n]

/-- The parameters of a tile, by slot: of the active bank and of the other. -/
def State.tileParams (s : State) (t : Nat) : List CkptRec :=
  let b := s.flag (Pg.awl t) AWL.PSTAT_ACTIVE_BANK
  let x := s.tile t
  (x.bank b).map (fun e => .param t e.1 true e.2) ++ (x.bank !b).map fun e => .param t e.1 false e.2

/-- A context's record: the A context stands for a pair. -/
def State.flowRec (s : State) (c : Nat) (x : FlowCtx) : CkptRec :=
  .flow c x.desc.words x.seq x.nextCount (s.delayOf c x)

/-- The whole state of a checkpoint, one record a thing. -/
def State.ckptState (s : State) : List CkptRec :=
  let f := s.fabric
  let plans := (if f.slot0.isSome then [CkptRec.plan 0 f.slot0] else []) ++ (if f.slot1.isSome then [.plan 1 f.slot1] else [])
  let active := if s.flag Pg.fabric FABRIC.PLAN_STAT_ACTIVE_VALID then
      [CkptRec.active (some (s.get Pg.fabric FABRIC.PLAN_STAT_ACTIVE_SLOT))] else []
  let routes := s.regs.filterMap fun e =>
    if e.1.p = Pg.mix && e.1.off = MIX.ROUTE_DATA_SOURCE.off then some (CkptRec.route e.1.i e.2) else none
  let commits := s.mix.commits.map fun e => CkptRec.commit e.1 e.2.kind e.2.set e.2.sec e.2.ns
  let set := s.get Pg.mix MIX.STAGE_SET_SET
  let stage := if set = 0 then [] else
    [CkptRec.stage set s.mix.rampMs s.mix.routeMs s.mix.stageGains s.mix.stageSlots s.mix.stageRoutes]
  let flows := s.flow.ctxs.filterMap fun e => if e.2.pathB || e.2.freeing then none else some (s.flowRec e.1 e.2)
  let g := Pg.rein
  let refs := refSlots.filterMap fun i =>
    if s.get g REIN.REF_CFG_TYPE_WORD i = 0 then none
    else some (CkptRec.rein i (BitVec.ofNat 32 (s.get g REIN.REF_CFG_TYPE_WORD i)) (s.get g REIN.REF_QL_HOST_QL i)
      (s.get g REIN.REF_QL_RANK i))
  let cfg := reinFields.filterMap fun x =>
    if s.get g x = resetAt g x 0 then none else some (CkptRec.reinCfg x.off x.lo 0 (s.get g x))
  plans ++ active ++ s.working.flatMap (fun e => s.tileParams e.1) ++ routes ++ commits ++ stage ++ flows ++ refs ++ cfg

/-- What a record is about. -/
def ckptKey : CkptRec → List Nat
  | .plan k _ => [0, k]
  | .active _ => [1]
  | .param t k a _ => [2, t, k, bit a]
  | .route d _ => [3, d]
  | .commit e _ _ _ _ => [4, e]
  | .stage _ _ _ _ _ _ => [5]
  | .flow c _ _ _ _ => [6, c]
  | .rein k _ _ _ => [7, k]
  | .reinCfg o l i _ => [8, o, l, i]

/-- The record of a thing that is there no more. -/
def ckptGone : CkptRec → CkptRec
  | .plan k _ => .plan k none
  | .active _ => .active none
  | .param t k a _ => .param t k a 0
  | .route d _ => .route d noSource
  | .commit e _ _ _ _ => .commit e 0 0 0 0
  | .stage _ _ _ _ _ _ => .stage 0 0 0 [] [] []
  | .flow c _ _ _ _ => .flow c [] 0 0 0
  | .rein k _ _ _ => .rein k 0 0 0
  | .reinCfg o l i _ => .reinCfg o l i (((reinFields.find? fun f => f.off == o && f.lo == l).map fun f =>
      resetAt Pg.rein f i).getD 0)

/-- What has changed since a base. -/
def ckptDiff (base new : List CkptRec) : List CkptRec :=
  (new.filter fun r => !base.contains r) ++
    ((base.filter fun r => !new.any fun x => ckptKey x == ckptKey r).map ckptGone)

/-- A state with the changes of an epoch. -/
def ckptMerge (base recs : List CkptRec) : List CkptRec :=
  recs.foldl (fun l r => l.filter (fun x => ckptKey x ≠ ckptKey r) ++ (if r = ckptGone r then [] else [r])) base

/-- One epoch is sent, with everything or with what has changed. -/
def State.sendEpoch (s : State) : State :=
  let k := s.keeper
  let st := s.ckptState
  let epoch := BitVec.ofNat 32 (s.get Pg.keeper KEEPER.CKPT_EPOCH_EPOCH + 1)
  let recs := if k.fullNext then st else ckptDiff k.base st
  let s := s.set Pg.keeper KEEPER.CKPT_EPOCH_EPOCH epoch.toNat
  let s := s.sendTether [.ckptData epoch recs, .ckptEnd epoch recs.length k.fullNext false]
  s.onKeeper fun k => { k with base := st, fullNext := false, epochSentAt := s.now, ckptAt := s.now }

/-- The CKPT_END with FINAL of R435, which ends an epoch without records. -/
def State.sendFinal (s : State) : State :=
  let epoch := BitVec.ofNat 32 (s.get Pg.keeper KEEPER.CKPT_EPOCH_EPOCH + 1)
  let s := if s.pairState = Pair.active then s.set Pg.keeper KEEPER.CKPT_EPOCH_EPOCH epoch.toNat else s
  s.sendTether [.ckptEnd epoch 0 false true]

/-! ### The copies (R441) -/

/-- The newest complete copy: false X, true Y. -/
def Keeper.newest (k : Keeper) (epoch : Nat) : Option Bool :=
  if k.copyX.complete && k.copyX.epoch.toNat = epoch then some false
  else if k.copyY.complete && k.copyY.epoch.toNat = epoch then some true
  else none

/-- The newest complete state. -/
def State.ckptNewest (s : State) : Option (List CkptRec) :=
  (s.keeper.newest (s.get Pg.keeper KEEPER.CKPT_EPOCH_EPOCH)).map fun y =>
    if y then s.keeper.copyY.recs else s.keeper.copyX.recs

/-- A change of the copy that does not hold the newest state. -/
def State.writeCopy (s : State) (c : Ckpt) : State :=
  match s.keeper.newest (s.get Pg.keeper KEEPER.CKPT_EPOCH_EPOCH) with
  | some true => s.onKeeper fun k => { k with copyX := c }
  | some false => s.onKeeper fun k => { k with copyY := c }
  | none => s.onKeeper fun k => { k with copyX := c }

/-- An epoch is discarded, and a NACK asks for a FULL one. -/
def State.discardEpoch (s : State) : State :=
  (((s.count Pg.keeper KEEPER.CKPT_DISCARDS).event Pg.keeper 8).writeCopy ⟨false, 0, []⟩).onKeeper fun k =>
    { k with rx := none, nack := true }

/-! ### Loading a checkpoint (R443, R445) -/

/-- A parameter reaches its bank. -/
def State.loadParam (s : State) (t slot : Nat) (active : Bool) (v : Word) : State :=
  let b := s.flag (Pg.awl t) AWL.PSTAT_ACTIVE_BANK
  s.setTile t ((s.tile t).setParam (if active then b else !b) slot v)

/-- A flow context starts with a sequence number and the count at which that packet started; `pass` packets later it
stands here. -/
def State.loadFlow (s : State) (c : Nat) (desc : List Word) (seq : BitVec 16) (next delay : Nat) : State :=
  let x := flowDesc desc
  let pair := c < 512 && x.portB ≠ 15
  let y := s.newCtx x false pair
  let sper := s.ctxS y
  let passed := if sper = 0 then 0 else (y.nextCount + wrap64 - next) % wrap64 / sper
  let y := { y with seq := if c < 512 then seq else seq + BitVec.ofNat 16 passed }
  let s := if c < 512 then s.joinGroup x else s
  let s := (s.setCtx c y).showCtx c y
  let s := if pair then (s.setCtx (c + 1) { y with pathB := true }).showCtx (c + 1) { y with pathB := true } else s
  let s := if c < 512 && x.group.isNone then s.each (y.both c) fun s k => s.ctxSet k FLOW.CTX_DELAY_DELAY delay else s
  let s := match x.group with
    | some g => if c < 512 then s.set (Pg.flow 0) FLOW.GRP_CFG_DELAY delay g else s
    | none => s
  let s := if c < 512 then s.each (y.both c) fun s k =>
      match s.ctx k with
      | some z => if s.linkUp z.port then s else s.losePath k
      | none => s
    else s
  if pair then s.showProtected c else s

/-- An armed commit enters the table in its entry. -/
def State.loadCommit (s : State) (entry kind set sec ns : Nat) : State :=
  let s := s.onMix fun m => { m with commits := nset m.commits entry ⟨kind, set, sec, ns, false, [], [], [], false⟩ }
  if kind = Ck.swap then
    match s.slotPlan set with
    | some p =>
      let s := s.onFabric fun f => { f with
        swap := some ⟨set, [], s.get Pg.fabric FABRIC.RELOC_CFG_WARM_BLOCKS, [], [], false⟩ }
      let s := s.set Pg.fabric FABRIC.PLAN_STAT_SWAP_ARMED 1
      (s.set Pg.mix MIX.SWAP_STAT_L (s.swapSilence p)).set Pg.mix MIX.SWAP_STAT_RELOAD_TILES (s.tilesIn p .reload).length
    | none => s.onMix fun m => { m with commits := SMap.erase m.commits entry }
  else s

/-- A field of the REIN page. -/
def State.loadReinField (s : State) (off lo i v : Nat) : State :=
  match reinFields.find? fun f => f.off == off && f.lo == lo with
  | some f => s.set Pg.rein f v i
  | none => s

/-- A record takes effect on a node that runs the plan; an armed commit is armed unless its time has passed here. -/
def State.applyRec (s : State) (r : CkptRec) : State :=
  match r with
  | .plan k p => if s.slotRuns k then s else (s.setSlot k p).setAdmitted k (p.any fun p => (s.admitFailure p).isNone)
  | .active _ => s
  | .param t k a v => if s.hasWork t then s.loadParam t k a v else s
  | .route d v => s.swapRoute d v false
  | .commit e kind set sec ns =>
    match SMap.find? s.mix.commits e with
    | some c =>
      if c.begun then s
      else if kind = 0 then (if c.kind = Ck.swap then s.dropSwap else s).onMix fun m => { m with commits := SMap.erase m.commits e }
      else s.loadCommit e kind set sec ns
    | none => if kind = 0 || sec * nsPerSec + ns ≤ s.nanos0 then s else s.loadCommit e kind set sec ns
  | .stage set ramp route gains slots routes =>
    (s.set Pg.mix MIX.STAGE_SET_SET set).onMix fun m => { m with
      rampMs := ramp, routeMs := route, stageGains := gains, stageSlots := slots, stageRoutes := routes }
  | .flow c desc seq next delay =>
    match s.ctx c with
    | some x =>
      if desc = [] then s.releaseCtx c
      else if x.desc.words = desc then
        (if c < 512 && x.desc.group.isNone then s.each (x.both c) fun s k => s.ctxSet k FLOW.CTX_DELAY_DELAY delay else s)
      else (s.freeCtx c).loadFlow c desc seq next delay
    | none => if desc = [] then s else s.loadFlow c desc seq next delay
  | .rein k w q rank => s.declareRef k w.toNat q rank
  | .reinCfg o l i v => s.loadReinField o l i v

/-- The plan slot that a checkpoint runs. -/
def ckptActive (recs : List CkptRec) : Option Nat :=
  recs.findSome? fun r => match r with | .active k => k | _ => none

/-- The plan images of a checkpoint are in their slots. -/
def State.loadPlans (s : State) (recs : List CkptRec) : State :=
  s.each recs fun s r => match r with | .plan k p => s.setSlot k p | _ => s

/-- The plan that a checkpoint runs, and its slot. -/
def ckptPlan (recs : List CkptRec) : Option (Nat × Plan) :=
  (ckptActive recs).bind fun k => recs.findSome? fun r => match r with
    | .plan j p => if j = k then p.map fun p => (k, p) else none
    | _ => none

/-- A checkpoint's plan starts, with its parameters, routes, armed commits, Rein configuration and flows. -/
def State.loadCheckpoint (s : State) (recs : List CkptRec) : State :=
  let s := s.loadPlans recs
  match ckptPlan recs with
  | none => s
  | some (k, p) =>
    let s := (s.setAdmitted k true).coldStart p k
    let s := s.each p.tiles fun s x => s.setTile x.tile { s.tile x.tile with bankA := [], bankB := [] }
    let s := s.clearRegs Pg.mix [MIX.ROUTE_DATA_SOURCE.off]
    let s := s.each (List.range 2) fun s j =>
      if j = k then s else s.setAdmitted j ((s.slotPlan j).any fun p => (s.admitFailure p).isNone)
    let s := s.each recs fun s r =>
      match r with
      | .plan _ _ => s
      | .route d v => s.swapRoute d v true
      | .commit e kind set sec ns => if kind = Ck.handover then s else s.loadCommit e kind set sec ns
      | r => s.applyRec r
    s.reselect

/-! ### Losing the partner (R442, R443, R447) -/

/-- The handover agreed or proposed is off, unless its effect tick has passed. -/
def State.cancelHandover (s : State) : State :=
  let s := match s.armed Ck.handover with
    | some (i, c) => if c.begun then s else s.onMix fun m => { m with commits := SMap.erase m.commits i }
    | none => s
  let passed := s.keeper.armed.any (·.passed)
  s.onKeeper fun k => { k with
    armed := if passed then k.armed else none
    seqs := if passed then k.seqs else []
    proposed := none, retries := 0, requested := false }

/-- TAKING_OVER: a warm node's plan runs already, a cold one wakes and prepares its Rein. -/
def State.takeOver (s : State) : State :=
  let warm := s.fabric.running.isSome
  let s := s.setPair Pair.takingOver
  if warm then s
  else s.wakeNode.writeFpCtrl (BitVec.ofNat 32 (3 + s.get Pg.rein REIN.FP_CTRL_STEP_LIM * 256 + 15 * 2 ^ REIN.FP_CTRL_ALIGN_NOW.lo))

/-- The loss of the partner is declared. -/
def State.declareLoss (s : State) : State :=
  let st := s.pairState
  let s := (s.onKeeper fun k => { k with lost := true }).event Pg.keeper 3
  let s := (s.raise Src.pairLoss 0).setFlag Pg.keeper KEEPER.STAT_PARTNER_ALIVE s.actIn
  let s := s.cancelHandover
  if st = Pair.active then s
  else if s.actIn then (s.setPair Pair.isolated).onKeeper fun k => { k with isoSeek := false }
  else s.takeOver

/-! ### Handovers (R446) -/

/-- Serial port outputs and loop inputs of the running plan in a domain. -/
def State.localOutputs (s : State) (d : Nat) : List Nat :=
  match s.fabric.running with
  | some p => (p.saps.filter fun x => s.sapDom x.port == d).flatMap (fun x =>
      (List.range (s.outSlots x.port).length).map (s.get (Pg.sap x.port) SAP.PATCH_OUT_BASE + ·)) ++
      (p.loops.filter fun x => x.domain == d).map (·.inPatch)
  | none => []

/-- The handover's effect tick: the outgoing partner drops PAIR_ACT_OUT, the incoming one becomes ACTIVE. -/
def State.handoverEffect (s : State) : State :=
  match s.keeper.armed with
  | none => s
  | some h =>
    let s := (s.onKeeper fun k => { k with armed := some { h with passed := true } }).event Pg.keeper 6
    if h.incoming then
      let s := (s.setPair Pair.active).onKeeper fun k => { k with warmAt := none }
      s.each [0, 1, 2] fun s d => s.onMix fun m => { m with
        fades := (s.localOutputs d).foldl (fun f q => nset f q (.fadeIn 0 (s.swapSamples (s.domHz d)))) m.fades }
    else
      let s := ((s.count Pg.keeper KEEPER.HANDOVERS).lifeAdd Pg.keeper 3).setPair Pair.standby
      s.dropActOut

/-- The outgoing partner has built every packet before the change boundary of its flows. -/
def State.flowsHandedOver (s : State) (h : Handover) : Bool :=
  s.flow.ctxs.all fun e => e.1 < 512 || s.ctxState e.1 ≠ Cs.sending || s.changeCount e.2.desc.domain h ≤ e.2.nextCount

end Sys2Proof.Machine
end

