-- ==== Sys2Proof/Machine/LifeOps.lean ====
section
/-!
DEFINITION. What the life unit's commands share (chapter 19): speed ratios and headroom, the steps of the margin re-plan,
the life margin, full records and their image.
-/

namespace Sys2Proof.Machine

def State.onLife (s : State) (f : Life → Life) : State := { s with life := f s.life }

/-- LIFE.POH: power-on seconds ÷ 3,600. -/
def State.powerOnHours (s : State) : Nat := s.lifeGet Pg.life 0 / 3600

/-! ### Ratios, headroom, floors (R458, R459, R462) -/

/-- 5,600 × S0 of a tile in HU/µs at a voltage in mV and a temperature in °C: between the fused points of the voltages about
it, 70 mV apart, and of the temperatures, 80 °C apart, extended linearly outside them (R458). -/
def baseline (t mv : Nat) (temp : Int) : Nat :=
  let k := if mv < 750 then 0 else 1
  let at_ (hot : Bool) : Int := Config.fused t k hot * (750 + 70 * (k : Int) - mv) +
    Config.fused t (k + 1) hot * ((mv : Int) - (680 + 70 * k))
  (at_ false * (105 - temp) + at_ true * (temp - 25)).toNat

/-- 5,600 × S0 at VCORE_READ and the temperature nearest the tile, which no rule lets the device show: a free value. -/
def State.baseAt (s : State) (t : Nat) : Nat :=
  baseline t (s.get Pg.life LIFE.VCORE_READ_MV) (Config.tileTemp s.freeCtr t)

/-- The speed ratio of a tile in 0.0001, rounded down. -/
def State.ratioOf (s : State) (t : Nat) : Nat := 10000 * 5600 * canarySpeed (s.tile t).canary / s.baseAt t

/-- The ratios of every tile are computed. -/
def State.computeRatios (s : State) : State :=
  let old := s
  let s := s.each (List.range s.tileCount) fun u t =>
    (u.set Pg.life LIFE.TILE_RATIO_VALID 1 t).set Pg.life LIFE.TILE_RATIO_R (min (old.ratioOf t) 65535) t
  { s with freeCtr := s.freeCtr + 1 }

/-- S_req = need / (17 t_F), where t_F counts cycles of 1.6 ns: (TILE_COST / 0.85 + O) / t_F (R459). -/
def State.need (s : State) (t : Nat) : Nat := (20 * s.cost t + 17 * overheadHu) * 625

def State.fenceOfTile (s : State) (t : Nat) : Nat :=
  let d := s.tileDomain t
  s.fenceOf d (s.domHz d) (s.domB d)

/-- Headroom = room / need. -/
def State.room (s : State) (t : Nat) : Nat := s.get Pg.fabric FABRIC.TILE_SPEED_SPEED t * 17 * s.fenceOfTile t

/-- Headroom below n / 1000. -/
def State.headBelow (s : State) (t n : Nat) : Bool := 1000 * s.room t < n * s.need t

/-- Tiles with work, in ascending order. -/
def State.workTiles (s : State) : List Nat := s.working.map (·.1)

/-- The tile of lowest headroom of a list, the first of equals. -/
def State.worstOf (s : State) (l : List Nat) : Option Nat :=
  l.foldl (fun best t =>
    match best with
    | none => some t
    | some b => if s.room t * s.need b < s.room b * s.need t then some t else some b) none

def State.worstTile (s : State) : Option Nat := s.worstOf s.workTiles

/-- H below n / 1000. -/
def State.hBelow (s : State) (n : Nat) : Bool :=
  match s.worstTile with
  | some t => s.headBelow t n
  | none => false

/-- MARGIN_STAT.HEADROOM and WORST_TILE. -/
def State.showHeadroom (s : State) : State :=
  match s.worstTile with
  | some t =>
    (s.set Pg.life LIFE.MARGIN_STAT_WORST_TILE t).set Pg.life LIFE.MARGIN_STAT_HEADROOM
      (min (1000 * s.room t / s.need t) 65535)
  | none => s

/-- 5,600 × S0 at VMAX_MV and T_ref. -/
def State.floorBase (s : State) (t : Nat) : Nat :=
  baseline t (s.get Pg.fabric FABRIC.MARGIN_CTRL_VMAX_MV) (s.get Pg.cinch CINCH.THERM_CFG_WARN)

/-- r_floor = S_req / S0 = floorNum / floorDen. -/
def State.floorNum (s : State) (t : Nat) : Nat := 5600 * s.need t
def State.floorDen (s : State) (t : Nat) : Nat := 17 * s.fenceOfTile t * s.floorBase t

/-- The floor ratio in 0.0001, rounded down. -/
def State.floorOf (s : State) (t : Nat) : Nat := 10000 * s.floorNum t / s.floorDen t

/-- The tile's ratio, as recorded, is at or below its floor ratio. -/
def State.atFloor (s : State) (t : Nat) : Bool :=
  s.get Pg.life LIFE.TILE_RATIO_R t * s.floorDen t ≤ 10000 * s.floorNum t

/-- TILE_FLOOR of every tile. -/
def State.computeFloors (s : State) : State :=
  s.each (List.range s.tileCount) fun s t =>
    if s.hasWork t then
      (s.set Pg.life LIFE.TILE_FLOOR_VALID 1 t).set Pg.life LIFE.TILE_FLOOR_R_FLOOR (min (s.floorOf t) 65535) t
    else (s.set Pg.life LIFE.TILE_FLOOR_VALID 0 t).set Pg.life LIFE.TILE_FLOOR_R_FLOOR 0 t

def State.fit (s : State) (t : Nat) : Int := nget 0 s.life.fits t

/-- h_floor - h = ((1 - r_floor) / a)^4 - h of a tile, where a = fit / fitCommon (R462). -/
def State.floorHours (s : State) (t : Nat) : Nat :=
  let n : Int := ((s.floorDen t : Int) - s.floorNum t) * s.life.fitCommon
  let d : Nat := s.floorDen t * (s.fit t).toNat
  (exactDiv (n ^ 4 - s.powerOnHours * (d : Int) ^ 4) (d ^ 4)).toNat

/-- HOURS_TO_FLOOR (R462). -/
def State.hoursToFloor (s : State) : Nat :=
  if s.workTiles.any s.atFloor then 0
  else
    let aged := s.workTiles.filter fun t => 0 < s.fit t && 0 < s.life.fitCommon
    match aged.map s.floorHours with
    | [] => 0xFFFFFFFF
    | h :: hs =>
      let n := hs.foldl min h
      if 200000 < n then 0xFFFFFFFF else n

/-- LIFE_MARGIN and its event (R463). -/
def State.lifeMargin (s : State) : State :=
  let on := s.get Pg.life LIFE.HOURS_TO_FLOOR_HOURS < 24 * s.get Pg.life LIFE.MARGIN_CFG_WARN_D || s.life.deep
  let was := (s.cinchSrc Src.margin).active.contains 0
  let s := if on && !was then s.event Pg.life 5 else s
  s.setSource Src.margin 0 on

/-! ### The margin re-plan (R459 to R461) -/

def Rp.inBand : Nat := 1
def Rp.raised : Nat := 2
def Rp.lowered : Nat := 3
def Rp.relocated : Nat := 4
def Rp.shed : Nat := 5
def Rp.skipped : Nat := 6
def Rp.stuck : Nat := 7

def State.setReplan (s : State) (r : Replan) : State := s.onLife fun l => { l with replan := some r }

/-- The sum and the count of the readings of Tj in the last 10 s. -/
def State.tjMean (s : State) : Int × Nat :=
  let l := s.life.tjs.filter fun e => s.now < e.1 + cyclesSec 10
  ((l.map (·.2)).sum, l.length)

/-- The 10 s mean of Tj has moved by TSHIFT_C or more from its value at the end of the last re-plan (R459). -/
def State.tempShifted (s : State) : Bool :=
  match s.life.tjRef with
  | some (a, n) =>
    let m := s.tjMean
    m.2 ≠ 0 && s.get Pg.life LIFE.MARGIN_CFG_TSHIFT_C * n * m.2 ≤ (m.1 * n - a * m.2).natAbs
  | none => false

/-- The re-plan ends with a result; a trigger that came during it starts one more (R461). -/
def State.endReplan (s : State) (result : Nat) (deep : Bool) : State :=
  let s := s.showHeadroom.computeFloors
  let s := s.set Pg.life LIFE.HOURS_TO_FLOOR_HOURS s.hoursToFloor
  let s := (s.set Pg.life LIFE.MARGIN_STAT_RESULT result).set Pg.life LIFE.MARGIN_STAT_RUNNING 0
  let m := s.tjMean
  let s := s.onLife fun l => { l with replan := none, deep := deep, tjRef := if m.2 = 0 then none else some m }
  ((s.count Pg.life LIFE.REPLANS).event Pg.life 4).lifeMargin

/-- A voltage step of 10 mV is requested. -/
def State.stepVout (s : State) (mv : Nat) (r : Replan) : State := (s.requestVout mv true []).setReplan r

/-- The re-plan may request a voltage: AVS_EN is 1, and it lies from VMIN_MV to VMAX_MV (R460). -/
def State.replanMay (s : State) (mv : Nat) : Bool :=
  s.avsEnabled && s.get Pg.life LIFE.MARGIN_CFG_VMIN_MV ≤ mv && mv ≤ s.get Pg.fabric FABRIC.MARGIN_CTRL_VMAX_MV

/-- Step 1 may raise. -/
def State.replanRaises (s : State) : Bool := s.replanMay (s.fabric.coreMv + 10)

/-- Step 2 may lower: R82, and no armed swap within 1 s. -/
def State.replanLowers (s : State) : Bool :=
  s.replanMay (s.fabric.coreMv - 10) && !s.swapWithin nsPerSec &&
    (List.range s.tileCount).all fun t => 30 ≤ s.get Pg.fabric FABRIC.TILE_SLACK_WORST_10S t

/-- Step 3: planned relocations off the tiles below 1.000, worst first; `none` moved stops, and `wait` says that one
more unit could move but four relocations run. -/
def State.replanMoves (s : State) : Nat → List Nat → State × Bool × Bool
  | 0, _ => (s, false, false)
  | n + 1, skip =>
    match s.worstOf (s.workTiles.filter fun t => s.headBelow t 1000 && !skip.contains t) with
    | none => (s, false, false)
    | some t =>
      match s.pickUnit t with
      | none => s.replanMoves n (t :: skip)
      | some (u, d) =>
        if 4 ≤ s.fabric.relocs.length then (s, false, true)
        else
          let r := (s.startReloc t u d true).replanMoves n skip
          (r.1, true, r.2.2)

/-- Classes of a tile are shed, highest first, until its headroom is at least 1.000. -/
def State.shedDown (s : State) (t : Nat) : Nat → State
  | 0 => s
  | n + 1 =>
    if !s.headBelow t 1000 || s.topClass t = 0 then s else (s.shedClass t (s.topClass t)).shedDown t n

/-- Step 4. -/
def State.replanSheds (s : State) : State :=
  s.each (s.workTiles.filter fun t => s.headBelow t 1000) fun s t => s.shedDown t 7

/-- The result of steps 1 and 2. -/
def Replan.result (r : Replan) : Nat := if r.lowering then Rp.lowered else if r.raising then Rp.raised else Rp.inBand

/-- Steps 3 and 4, and the end (R460): step 3 is left out within 100 ms of an armed swap (R91). -/
def State.replanTail (s : State) (r : Replan) : State :=
  if !s.hBelow 1000 && !r.moving then s.endReplan r.result false
  else
    let fuel := s.planUnits.length + s.workTiles.length + 1
    let m := if s.swapWithin 100000000 then (s, false, false) else s.replanMoves fuel []
    if m.2.2 then m.1.setReplan { r with moving := true }
    else
      let before := m.1.get Pg.fabric FABRIC.SHED_COUNT
      let s' := m.1.replanSheds
      let result :=
        if s'.hBelow 1000 then Rp.stuck
        else if s'.get Pg.fabric FABRIC.SHED_COUNT ≠ before then Rp.shed
        else if m.2.1 || r.moving then Rp.relocated
        else r.result
      s'.endReplan result true

/-- What the re-plan does next, with S measured (R460). A unit that is disabled takes no further step (R466). -/
def State.replanNext (s : State) (r : Replan) : State :=
  if !s.enabled Pg.life then s.endReplan r.result s.life.deep
  else if r.moving || r.failed then s.replanTail r
  else if r.lowering then
    if !r.raising && s.hBelow 1030 && s.replanRaises then s.stepVout (s.fabric.coreMv + 10) { r with raising := true }
    else s.replanTail r
  else if r.raising then
    if s.hBelow 1030 && s.replanRaises then s.stepVout (s.fabric.coreMv + 10) r else s.replanTail r
  else if s.hBelow 1020 then
    if s.replanRaises then s.stepVout (s.fabric.coreMv + 10) { r with raising := true } else s.replanTail r
  else if !s.hBelow 1100 && s.replanLowers then s.stepVout (s.fabric.coreMv - 10) { r with lowering := true }
  else s.replanTail r

/-- A re-plan starts. -/
def State.startReplan (s : State) : State :=
  let s := (s.set Pg.life LIFE.MARGIN_STAT_RUNNING 1).onLife fun l => { l with again := false, waited := none }
  let s := if s.flag Pg.life LIFE.VCORE_READ_VALID then s
    else (s.set Pg.life LIFE.VCORE_READ_VALID 1).set Pg.life LIFE.VCORE_READ_MV s.fabric.coreMv
  let s := s.computeRatios.showHeadroom
  let r : Replan := ⟨false, false, false, false⟩
  (s.setReplan r).replanNext r

/-! ### Records (R453 to R456, R465) -/

/-- The valid full record of the highest sequence number, with its slot. -/
def LifeArea.newest (a : LifeArea) : Option (Nat × LifeRec) :=
  a.slots.foldl (fun best e =>
    match e.2, best with
    | some r, some b => if b.2.seq < r.seq then some (e.1, r) else best
    | some r, none => some (e.1, r)
    | none, _ => best) none

/-- The sequence number of the newest record, full or warning. -/
def LifeArea.lastSeq (a : LifeArea) : Nat :=
  a.warns.foldl (fun n r => max n r.seq) ((a.newest.map (·.2.seq)).getD 0)

/-- The slot after the newest record, of SIZE - 1 slots (R453, R454). -/
def LifeArea.nextSlot (a : LifeArea) (size : Nat) : Nat :=
  match a.newest with
  | some e => (e.1 + 1) % (size - 1)
  | none => 0

/-- The record being written stands in its slot, and the slot after it is erased; the warning sector is erased once it is
full (R454, R455). -/
def LifeArea.close (a : LifeArea) (size : Nat) : LifeArea :=
  let k := a.nextSlot size
  { slots := nset (SMap.erase a.slots ((k + 1) % (size - 1))) k a.writing
    warns := if 128 ≤ a.warns.length then [] else a.warns
    writing := none }

/-- The write in progress, if any, ends with a slot that fails its CRC. -/
def LifeArea.cut (a : LifeArea) (size : Nat) : LifeArea :=
  if a.writing.isSome then { a with slots := nset a.slots (a.nextSlot size) none, writing := none } else a

/-- The flash holds other records. -/
def State.onArea (s : State) (f : LifeArea → Nat → LifeArea) : State :=
  s.onLife fun l => { l with area := f l.area (s.get Pg.life LIFE.AREA_SIZE) }

/-- A full record of the live counters, as the write takes them at its start (log 279). -/
def State.fullRecord (s : State) : LifeRec :=
  ⟨s.life.area.lastSeq + 1, s.nanos0, s.life.counters, s.life.fits, s.life.fitCommon⟩

/-- A full record write starts, or fails at once in an area of fewer than 8 sectors (R453). -/
def State.startRecord (s : State) : State :=
  let p := Pg.life
  let s := s.set p LIFE.REC_CTRL_NOW 0
  if s.get p LIFE.AREA_SIZE < 8 then ((s.set p LIFE.REC_STAT_LAST 2).count p LIFE.REC_FAILS).event p 1
  else (s.onArea fun a _ => { a with writing := some s.fullRecord }).set p LIFE.REC_STAT_WRITING 1

/-- The record being written is abandoned: its slot fails its CRC (R455, R466). -/
def State.abandonRecord (s : State) : State :=
  if s.flag Pg.life LIFE.REC_STAT_WRITING then
    (((s.onArea LifeArea.cut).set Pg.life LIFE.REC_STAT_WRITING 0).set Pg.life LIFE.REC_STAT_LAST 3).event Pg.life 1
  else s

/-- The counters of a warning record: power-on seconds, both histograms, and those of the CINCH and KEEPER pages. -/
def warnedKey (k : FKey) : Bool :=
  k.p == Pg.cinch || k.p == Pg.keeper || (k.p == Pg.life && (k.off == 0 || inRange 0x10 k.off 0x44))

/-- A warning record: the increase since the last full record (R455). -/
def State.warnRecord (s : State) : LifeRec :=
  let base := match s.life.area.newest with
    | some e => e.2.counters
    | none => []
  ⟨s.life.area.lastSeq + 1, s.nanos0,
    (s.life.counters.filter fun e => warnedKey e.1).map fun e => (e.1, e.2 - SMap.get 0 base e.1), [], 0⟩

/-- POWER_WARN_N falls: a full write is abandoned, and the warning record is written into the next erased page pair of the
warning sector, whatever EN reads (R455). -/
def State.warningRecord (s : State) : State :=
  let p := Pg.life
  let s := s.abandonRecord
  let s := if s.get p LIFE.AREA_SIZE < 8 || 128 ≤ s.life.area.warns.length then s
    else
      let r := s.warnRecord
      let s := (s.onArea fun a _ => { a with warns := a.warns ++ [r] }).set p LIFE.REC_SEQ_SEQ r.seq
      (s.lifeAdd p 4).event p 2
  if s.flag p LIFE.REC_CTRL_NOW then s.startRecord else s

/-- Indices of a page's life counters (R451 and each chapter's PG_CAP). -/
def State.lifeIndices (s : State) (p : Nat) : List Nat :=
  if p = 0x004 then List.range 129
  else if p = 0x006 then
    List.range 5 ++ (List.range 32).map (0x10 + ·) ++ (List.range 21).map (0x30 + ·) ++ (List.range 128).map (0x80 + ·) ++
      (List.range (32 * s.tileCount)).map (0x1000 + ·) ++ (List.range (4 * s.tileCount)).map (0x3000 + ·)
  else if p = 0x005 || p = 0x008 || p = 0x048 || inRange 0x020 p 0x023 || inRange 0x240 p 0x24F then List.range 4
  else if p = 0x010 || inRange 0x230 p 0x23F then List.range 2
  else if inRange 0x028 p 0x031 then List.range 3
  else if inRange 0x040 p 0x041 then List.range 11
  else if p = 0x220 then List.range 4
  else if inRange 0x221 p 0x22F then List.range 3
  else []

/-- Pages that have life counters, in ascending order. -/
def lifePages : List Nat :=
  [0x004, 0x005, 0x006, 0x008, 0x010, 0x020, 0x021, 0x022, 0x023] ++ (List.range 10).map (0x028 + ·) ++
    [0x040, 0x041, 0x048] ++ (List.range 48).map (0x220 + ·)

/-- The word that PG_LIFE_DATA shows at an index: a 64-bit counter takes two, lower first (R41). -/
def State.lifeWord (s : State) (p idx : Nat) : Word :=
  if !(s.lifeIndices p).contains idx then 0
  else if lifeWide p idx then BitVec.ofNat 32 (s.lifeGet p (idx / 2 * 2) / 2 ^ (32 * (idx % 2)))
  else BitVec.ofNat 32 (s.lifeGet p idx)

/-- A page's part of a record. -/
def State.lifePart (s : State) (p : Nat) : List Word :=
  let l := s.lifeIndices p
  BitVec.ofNat 32 p :: BitVec.ofNat 32 l.length :: l.map (s.lifeWord p)

def lowHigh (n : Nat) : List Word := [BitVec.ofNat 32 n, BitVec.ofNat 32 (n / 2 ^ 32)]

/-- Words that the layout of R454 does not name: free values. -/
def State.gap (s : State) (n : Nat) : List Word := (List.range n).map fun i => BitVec.ofNat 32 (Config.freeValue (s.freeCtr + i))

/-- The words of a full record before its CRC. -/
def State.recordWords (s : State) : List Word :=
  let t := s.time.c0
  let head : List Word := [0x5A4C5201, BitVec.ofNat 32 (s.life.area.lastSeq + 1)] ++ lowHigh t.sec ++
    [BitVec.ofNat 32 t.ns, s.variant, s.life.cycle.setWidth 32]
  let pages := (lifePages.filter s.present).flatMap s.lifePart
  let tiles := (List.range s.tileCount).flatMap fun n =>
    lowHigh (unsigned 64 (s.fit n)) ++ [BitVec.ofNat 32 (s.get Pg.life LIFE.TILE_RATIO_R n)]
  let body := head ++ s.gap (16 - head.length) ++ pages ++ tiles ++ lowHigh s.life.fitCommon
  body ++ s.gap (16383 - body.length)

/-- One bit of the CRC-32 of IEEE 802.3, least bit first. -/
def crcBit (c : Word) : Word := if c.getLsbD 0 then (c >>> 1) ^^^ 0xEDB88320 else c >>> 1

def crcByte (c : Word) (b : Byte) : Word :=
  let x := c ^^^ b.setWidth 32
  crcBit (crcBit (crcBit (crcBit (crcBit (crcBit (crcBit (crcBit x)))))))

def crc32 (bs : List Byte) : Word := bs.foldl crcByte 0xFFFFFFFF ^^^ 0xFFFFFFFF

/-- The bytes of a full record of the live counters. -/
def State.recordBytes (s : State) : List Byte :=
  let bs := s.recordWords.flatMap bytesOf
  bs ++ bytesOf (crc32 bs)

/-- A range of Harness addresses overlaps a vault granule (R465). -/
def State.overVault (s : State) (addr len : Nat) : Bool :=
  (List.range 64).any fun g =>
    let lo := Mem.girth + s.vaultBase + g * 65536
    s.vaultMap.getLsbD g && addr < lo + 65536 && lo < addr + len

/-! ### Disabling (R466) -/

/-- KILL: the write is abandoned, the dump aborted; a re-plan stops at its step boundary. -/
def State.lifeKilled (s : State) : State :=
  let s := s.abandonRecord
  match s.life.dump, s.ctrl.long.find? fun l => l.op == BitVec.ofNat 8 Op.lifeDump with
  | some _, some l => (s.onLife fun x => { x with dump := none }).finish Op.lifeDump l.tag Pg.life St.aborted
  | _, _ => s

/-- SRST: the re-plan, its settings and a write in progress go; counters, cycle and fits stay. -/
def State.lifeReset (s : State) : State :=
  let s := s.onArea LifeArea.cut
  let l := s.life
  { s with life := { l with replan := none, again := false, waited := none, dump := none, deep := false } }.lifeMargin

end Sys2Proof.Machine
end

