-- ==== Sys2Proof/Machine/Ptp.lean ====
section
/-!
DEFINITION. The PTP instances (R317 to R320): the profile word and its checks, the start or stop of an instance, and what
Sync and Announce messages do to it.
-/

namespace Sys2Proof.Machine

/-! ### Messages (R320) -/

/-- The Rein evaluates its selection at once where a slot is bound to the TIME0 instance (R327, R329). -/
def State.ptpSeen (s : State) : State := if refSlots.any fun i => s.refKind i = 5 then s.reselect else s

/-- This node becomes grandmaster; the clockClass that it announces is firmware's own (free value, log 3). Firmware steers
TIME0 to the reference that the Rein selects. -/
def State.becomeGrandmaster (s : State) (n : Nat) : State :=
  if s.servo n = Servo.grandmaster then s
  else
    let s := s.free.2.set Pg.time (TIME.PTP_STAT_CLASS n) s.free.1
    (s.setServo n Servo.grandmaster).steerGrandmaster

/-- A master is selected: another than before, or after a state without one, has the instance in ACQUIRING. -/
def State.takeMaster (s : State) (n : Nat) (a : Announce) : State :=
  let fresh := (s.ptp n).master != some a.source
  let s := s.setPtp n { s.ptp n with
    master := some a.source, cls := a.clockClass.toNat, utc := a.utcOffset.toNat, accuracy := a.accuracy }
  let s := s.showMaster n a.clockClass.toNat a.utcOffset.toNat
  if fresh && s.servo n = Servo.acquiring then s.setPtp n { s.ptp n with good := 0, bad := 0 }
  else if fresh || s.servo n ≠ Servo.locked then s.setServo n Servo.acquiring
  else s

/-- SYNC_RECEIVED (R320): a Sync of the selected master shows an offset; firmware steps where it may, else steers by the
increment and slew given. -/
def execSyncReceived (n : Nat) (offset : Int) (incFrac : Word) (slew : Int) (s : State) : Outcome :=
  guardWf (n < 2) (.next (whenHolds (s.fwRunning && (s.servo n == Servo.acquiring || s.servo n == Servo.locked)) s
    fun s =>
      let s := if n = 1 then s.capturePair else s
      let s := s.set Pg.time (TIME.PTP_OFFSET_NS n) (unsigned 32 (clampSym 32 offset))
      let s := s.fwMoves fun s => if s.servoSteps n offset then s.stepTime n (-offset) else s.steer n incFrac slew
      (s.countOffset n offset).ptpSeen))

/-- ANNOUNCE_RECEIVED (R320): the best master clock algorithm has weighed an Announce. -/
def execAnnounceReceived (n : Nat) (a : Announce) (s : State) : Outcome :=
  guardWf (n < 2) (.next (whenHolds (s.fwRunning && s.servo n != Servo.disabled) s fun s =>
    if a.wins && gmCapable (s.profile n) then (s.becomeGrandmaster n).ptpSeen
    else if a.selects then (s.takeMaster n a).ptpSeen
    else s))

/-- ANNOUNCE_TIMEOUT (R320): no qualified master remains. -/
def execAnnounceTimeout (n : Nat) (wins : Bool) (s : State) : Outcome :=
  guardWf (n < 2) (.next (whenHolds (s.fwRunning && s.servo n != Servo.disabled) s fun s =>
    if wins && gmCapable (s.profile n) then (s.becomeGrandmaster n).ptpSeen
    else if s.servo n = Servo.acquiring || s.servo n = Servo.locked then (s.setServo n Servo.holdover).ptpSeen
    else s))

/-! ### PTP_PROFILE (R317, R318) -/

/-- A signed 4-bit interval field; 0x8 takes the profile default. -/
def logField (w : Nat) (lo : Nat) : Option Int :=
  let v := w / 2 ^ lo % 16
  if v = 8 then none else some (signed 4 v)

/-- An interval in a range, or the default. -/
def logOk (l : Option Int) (lo hi : Int) : Bool :=
  match l with
  | none => true
  | some v => lo ≤ v && v ≤ hi

/-- Intervals that both the table of R317 and the profile's standard permit. The standards' ranges are PRESUMED (log
50): ST 2059-2 Sync -7 to -1, Announce -3 to 1, delay from the Sync interval to 5 above it; AES67 Sync -4 to 1, Announce
0 to 4, delay -3 to 5; 802.1AS takes all of the table. -/
def intervalsOk (profile w : Nat) : Bool :=
  let sync := logField w 16
  let ann := logField w 20
  let delay := logField w 24
  logOk sync (-7) 1 && logOk ann (-3) 4 && logOk delay (-7) 5 &&
    (if profile = 1 then
      let base := sync.getD (-3)
      logOk sync (-7) (-1) && logOk ann (-3) 1 && logOk delay base (base + 5)
     else if profile = 2 then logOk sync (-4) 1 && logOk ann 0 4 && logOk delay (-3) 5
     else true)

/-- No bit lies outside the fields of a profile word. -/
def profileBits (w : Nat) : Bool := w &&& 0xF000AC80 == 0

/-- The transport is one that the profile names (R316). -/
def transportOk (profile transport : Nat) : Bool := if profile = 3 then transport == 2 else transport ≤ 1

/-- A profile word, domain and mask of a start (R318). -/
def profileOk (w dom mask : Nat) : Bool :=
  let profile := w % 16
  profileBits w && profile ≤ 3 && transportOk profile (w / 256 % 4) && dom ≤ 127 && intervalsOk profile w &&
    !(w.testBit 5 && w.testBit 6) && (!w.testBit 12 || w.testBit 6) && mask ≠ 0 && mask < 16

/-- Firmware stamps a port that serves only a TIME1 instance by TIME1, every other port that serves one by TIME0
(R319). -/
def State.stampSources (s : State) : State :=
  let m0 := s.get Pg.time (TIME.PTP_PORT_PORTS 0)
  let m1 := s.get Pg.time (TIME.PTP_PORT_PORTS 1)
  s.each (List.range s.macCount) fun s p =>
    if m0.testBit p || m1.testBit p then s.setFlag (Pg.mac p) MAC.CFG_TS_SRC (!m0.testBit p) else s

/-- PTP_PROFILE (R318). -/
def execPtpProfile (tag : BitVec 8) (code domain mask : Word) (s : State) : Outcome :=
  .next (s.mailbox Op.ptpProfile tag [code, domain, mask] fun s =>
    let op := Op.ptpProfile
    let w := code.toNat
    let n := bit (w.testBit 12)
    if w % 16 = 0 then
      if !profileBits w then s.reply op tag St.badArg []
      else if !s.enabled Pg.time then s.reply op tag St.notEnabled []
      else (s.startPtp n code 0 0).stampSources.ptpSeen.done op tag
    else if !profileOk w domain.toNat mask.toNat then s.reply op tag St.badArg []
    else if (List.range 4).any fun p => mask.getLsbD p && s.macCount ≤ p then s.reply op tag St.absent []
    else if !s.enabled Pg.time then s.reply op tag St.notEnabled []
    else (s.startPtp n code domain.toNat mask.toNat).stampSources.ptpSeen.done op tag)

end Sys2Proof.Machine
end

