-- ==== Sys2Proof/Machine/Keeper.lean ====
section
/-!
DEFINITION. The commands of the Keeper (chapter 18): the feeds and the power warning, heartbeats, checkpoints, the pair's
states, failover, takeback and handover.
-/

namespace Sys2Proof.Machine

/-! ### Feeds (R433 to R435) -/

def feedOk (b : Bool) : Fld := if b then KEEPER.STAT_PF_B_OK else KEEPER.STAT_PF_A_OK
def feedLost (b : Bool) : Fld := if b then KEEPER.STAT_FEED_B else KEEPER.STAT_FEED_A
def feedSrc (b : Bool) : Nat := if b then Src.feedB else Src.feedA

/-- A field that shows the level of a pin, or a condition of the supplies: no reset changes it. -/
def isPin (k : FKey) : Bool :=
  let f : List Fld := [feedOk false, feedOk true, feedLost false, feedLost true, KEEPER.STAT_ACT_IN]
  k.p == Pg.keeper && f.any (fun x => k.off == x.off && k.lo == x.lo) ||
  Pg.stirrup 0 ≤ k.p && k.p ≤ Pg.stirrup 15 && k.off == STIRRUP.STAT_DRV_FLT.off && k.lo == STIRRUP.STAT_DRV_FLT.lo

/-- Every unit at its reset values: what the flash, the fuses and the pins hold stays (log 60). -/
def State.cold (s : State) (up : Bool) : State :=
  let c := s.ctrl
  { State.reset with
    part := s.part
    freeCtr := s.freeCtr
    pending := s.pending
    regs := s.regs.filter fun e => isPin e.1
    ctrl := { Ctrl.reset with
      resetN := up, bootMode := c.bootMode, active := c.active, failedA := c.failedA, failedB := c.failedB
      updated := c.updated }
    life := { Life.reset with cycle := s.life.cycle, area := s.life.area.cut (s.get Pg.life LIFE.AREA_SIZE) }
    girth := { Girth.reset with tamperN := s.girth.tamperN }
    loops := (s.loops.filter fun e => e.2.drvLow).map fun e => (e.1, { Stirrup.reset with drvLow := true })
    keeper := { Keeper.reset with warnHigh := s.keeper.warnHigh, feedA := s.keeper.feedA } }

/-- FEED_LOSS (R433, R434): a feed fails, by its PF_OK pin or by its voltage; the OR passes the other where it is good, and
with both lost the node powers down until its next power-on reset. -/
def execFeedLoss (b : Bool) (pin : Bool) (s : State) : Outcome :=
  let s := if pin then s.set Pg.keeper (feedOk b) 0 else s
  .next (if s.flag Pg.keeper (feedLost b) then s
    else if s.flag Pg.keeper (feedLost !b) then (s.set Pg.keeper (feedLost b) 1).cold false
    else
    let s := ((s.set Pg.keeper (feedLost b) 1).event Pg.keeper 0).raise (feedSrc b) 0
    if s.keeper.feedA != b then
      ((s.onKeeper fun k => { k with feedA := b }).count Pg.keeper KEEPER.FEED_SWITCHES).lifeAdd Pg.keeper 0
    else s)

/-- FEED_RECOVER (R434): the feed has been good for 10 ms; the domain draws from it again where the other is lost. -/
def execFeedRecover (b : Bool) (s : State) : Outcome :=
  .next (whenHolds (s.flag Pg.keeper (feedLost b)) s fun s =>
    let s := ((s.set Pg.keeper (feedOk b) 1).set Pg.keeper (feedLost b) 0).lower (feedSrc b) 0
    if s.keeper.feedA = b && s.flag Pg.keeper (feedLost !b) then
      ((s.onKeeper fun k => { k with feedA := !b }).count Pg.keeper KEEPER.FEED_SWITCHES).lifeAdd Pg.keeper 0
    else s)

/-- POWER_WARN (R435): the FINAL frame, the warning record and the event; the Cinch reacts by its severity. -/
def execPowerWarn (s : State) : Outcome :=
  .next (whenHolds s.keeper.warnHigh s fun s =>
    let s := s.onKeeper fun k => { k with warnHigh := false }
    let s := if s.pairs then s.sendFinal else s
    let s := ((s.event Pg.keeper 1).lifeAdd Pg.keeper 1).warningRecord
    s.raise Src.powerWarn 0)

/-- POWER_WARN_N_RISE (R435): the record write goes on. -/
def execPowerWarnNRise (s : State) : Outcome :=
  .next (whenHolds (!s.keeper.warnHigh) s fun s =>
    (s.onKeeper fun k => { k with warnHigh := true }).lower Src.powerWarn 0)

/-! ### Heartbeats (R438, R439) -/

/-- HEARTBEAT_SEND (R439): every 1 ms, in every state while pairing is on; an interval without a good one counts. -/
def execHeartbeatSend (s : State) : Outcome :=
  .next (whenHolds s.pairs s fun s =>
    let k := s.keeper
    let s := s.reach (k.hbSentAt + cyclesMs 1)
    let s := if k.lastSeq.isNone || k.hbAt < k.hbSentAt then s.count Pg.keeper KEEPER.HB_MISSED else s
    let s := s.sendTether [.heartbeat k.txSeq (BitVec.ofNat 4 s.pairState)
      (BitVec.ofNat 32 (s.get Pg.keeper KEEPER.CKPT_EPOCH_EPOCH)) s.time.c0.linear k.hbStamp k.hbRx (!s.fwRunning) k.nack]
    s.onKeeper fun k => { k with hbSentAt := s.now, nack := false })

/-- The standby's TIME0 slews by the offset that the two-way stamps of a HEARTBEAT show. -/
def State.steerStandby (s : State) (h : Heartbeat) : State :=
  let rx := s.time.c0.linear
  let there : Int := signed 32 ((rx + 2 ^ 32 - h.stamp % 2 ^ 32) % 2 ^ 32)
  let back : Int := signed 32 ((h.echoRx + 2 ^ 32 - h.echo % 2 ^ 32) % 2 ^ 32)
  s.startSlew 0 (-((there - back) / 2))

/-- What a HEARTBEAT says of the partner. -/
def State.noteHeartbeat (s : State) (h : Heartbeat) : State :=
  let k := s.keeper
  let first := k.lastSeq.isNone || k.lost || k.hbAt + cyclesMs 3 ≤ s.now
  let s := if first then s.event Pg.keeper 2 else s
  let s := (s.set Pg.keeper KEEPER.STAT_PARTNER_ALIVE 1).setFlag Pg.keeper KEEPER.STAT_FW_RESTART h.fwRestart
  let s := s.onKeeper fun k => { k with
    partner := h.pairState, hbStamp := h.stamp, hbRx := s.time.c0.linear, hbAt := s.now, heard := true, lost := false
    lastSeq := some h.seq
    hbSince := if first then s.now else k.hbSince
    fullNext := k.fullNext || h.nack || first }
  if s.keeper.hbSince + cyclesSec 1 ≤ s.now then s.lower Src.pairLoss 0 else s

/-- A node that waits for its partner meets it ACTIVE, or ALONE with pairing on. -/
def State.meetActive (s : State) : State :=
  if !s.secondary && s.flag Pg.keeper KEEPER.CFG_REVERT then (s.setPair Pair.warming).onKeeper fun k => { k with nack := true }
  else s.standBy

/-- HEARTBEAT (R438, R439, R442): the first good copy of a sequence number counts, the second is discarded. -/
def execHeartbeat (h : Heartbeat) (s : State) : Outcome :=
  .next (whenHolds s.pairs s fun s =>
    if !h.good then s.count Pg.keeper KEEPER.FRAME_ERR
    else if s.keeper.lastSeq = some h.seq then s
    else
      let s := s.noteHeartbeat h
      let st := s.pairState
      let active := h.pairState.toNat = Pair.active || h.pairState.toNat = Pair.alone
      if st = Pair.seeking || st = Pair.isolated && s.keeper.isoSeek then (if active then s.meetActive else s)
      else if st = Pair.isolated then s.standBy
      else if st = Pair.alone then s.setPair Pair.active
      else if st = Pair.standby then s.steerStandby h
      else s)

/-! ### PAIR_ACT_IN and PAIR_ACT_OUT (R437, R438, R442) -/

/-- PAIR_ACT_IN_RISE (R437); ignored where pairing is absent. -/
def execPairActInRise (s : State) : Outcome :=
  .next (whenHolds (s.pairing && !s.actIn) s fun s =>
    let s := s.set Pg.keeper KEEPER.STAT_ACT_IN 1
    if s.actOut && s.secondary then s.standBy else s)

/-- PAIR_ACT_IN_FALL (R442): an ISOLATED node whose partner has no heartbeats takes over. -/
def execPairActInFall (s : State) : Outcome :=
  .next (whenHolds (s.pairing && s.actIn) s fun s =>
    let s := (s.set Pg.keeper KEEPER.STAT_ACT_IN 0).onKeeper fun k => { k with actLowAt := s.now }
    if s.pairs && s.pairState = Pair.isolated && !s.keeper.isoSeek && s.keeper.lost then
      (s.set Pg.keeper KEEPER.STAT_PARTNER_ALIVE 0).takeOver
    else s)

/-- PAIR_ACT_OUT_RAISE (R437, R438, R446): PAIR_ACT_IN has been low for 100 µs. -/
def execPairActOutRaise (s : State) : Outcome :=
  let isolated := s.pairState = Pair.isolated && s.keeper.isoSeek && !s.keeper.heard
  .next (whenHolds (s.pairs && !s.actIn && !s.actOut && (s.mayDrive || isolated)) s fun s =>
    let s := s.reach (s.keeper.actLowAt + cyclesUs 100)
    let s := if isolated then (s.setPair Pair.active).set Pg.keeper KEEPER.STAT_PARTNER_ALIVE 0 else s
    let s := s.set Pg.keeper KEEPER.STAT_ACT_OUT 1
    if s.keeper.armed.any fun h => h.incoming && h.passed then
      ((s.count Pg.keeper KEEPER.HANDOVERS).lifeAdd Pg.keeper 3).onKeeper fun k => { k with armed := none }
    else s)

/-- Island cycle since which the first Tether lane has been UP. -/
def State.tetherUp (s : State) : Option Nat :=
  (([4, 5] : List Nat).filter fun n => s.get (Pg.lane n) LANE.STAT_STATE = Ls.up).map
    (fun n => (s.lane n).since) |>.foldl (fun m t => some (match m with | some u => min u t | none => t)) none

/-- SEEKING_TIMEOUT (R438): no HEARTBEAT has been heard; a PRIMARY waits for 1 s of Tether link or 5 s, a SECONDARY 5 s. -/
def execSeekingTimeout (s : State) : Outcome :=
  .next (whenHolds (s.pairs && s.pairState = Pair.seeking && !s.keeper.heard) s fun s =>
    let full := s.keeper.stateAt + cyclesSec 5
    let due := match s.tetherUp with
      | some t => if s.secondary then full else min full (max t s.keeper.stateAt + cyclesSec 1)
      | none => full
    let s := s.reach due
    if s.actIn then
      ((s.setPair Pair.isolated).set Pg.keeper KEEPER.STAT_PARTNER_ALIVE 1).onKeeper fun k => { k with isoSeek := true }
    else s.setPair Pair.active)

/-! ### Checkpoints (R440, R441) -/

/-- CHECKPOINT_EPOCH (R440): every 50 ms, but none while firmware restarts. -/
def execCheckpointEpoch (s : State) : Outcome :=
  .next (whenHolds (s.pairs && s.pairState = Pair.active && s.fwRunning) s fun s =>
    (s.reach (s.keeper.epochSentAt + cyclesMs 50)).sendEpoch)

/-- CKPT_NOW (R440, R52): a node that is not ACTIVE has no one to send to. -/
def execCkptNow (tag : BitVec 8) (s : State) : Outcome :=
  .next (s.mailbox Op.ckptNow tag [] fun s =>
    let op := Op.ckptNow
    if !s.pairing then s.reply op tag St.absent []
    else if s.longRuns op then s.reply op tag St.busy []
    else if !s.pairs || s.pairState ≠ Pair.active then s.refuseOpen op tag
    else s.accept op tag Pg.keeper)

/-- CKPT_NOW_DONE (R440): a FULL epoch has been sent; the KiB that it took is a free value (log 3). -/
def execCkptNowDone (s : State) : Outcome :=
  .next (match s.ctrl.long.find? fun l => l.op == BitVec.ofNat 8 Op.ckptNow with
    | some l =>
      let s := (s.onKeeper fun k => { k with fullNext := true }).sendEpoch
      let f := s.free
      (f.2.set Pg.keeper PG.PROGRESS_POSITION f.1).finish Op.ckptNow l.tag Pg.keeper St.ok
    | none => s)

/-- CKPT_DATA (R441): the records go into the copy that does not hold the newest complete state. -/
def execCkptData (f : CkptData) (s : State) : Outcome :=
  .next (whenHolds s.follows s fun s =>
    if !f.good then
      (s.count Pg.keeper KEEPER.FRAME_ERR).onKeeper fun k => { k with rx := k.rx.map fun r => (r.1, r.2.1, false) }
    else
      let s := match s.keeper.rx with
        | some (e, _, _) => if e = f.epoch then s else s.discardEpoch
        | none => s
      let old := match s.keeper.rx with
        | some (_, l, ok) => (l, ok)
        | none => ([], true)
      let l := old.1 ++ f.recs
      (s.writeCopy ⟨false, f.epoch, l⟩).onKeeper fun k => { k with rx := some (f.epoch, l, old.2 && f.writeOk && f.fits) })

/-- The records of the epoch that a CKPT_END closes, where every frame and every CRC of it is good. -/
def State.epochRecs (s : State) (f : CkptEnd) : Option (List CkptRec) :=
  let rx := match s.keeper.rx with
    | some (e, l, ok) => if e = f.epoch && ok then some l else none
    | none => some []
  let next := (s.keeper.newest (s.get Pg.keeper KEEPER.CKPT_EPOCH_EPOCH)).isSome &&
    f.epoch = BitVec.ofNat 32 (s.get Pg.keeper KEEPER.CKPT_EPOCH_EPOCH + 1)
  rx.filter fun l => f.crcOk && l.length == f.count && (f.full || next)

/-- A complete epoch: the copy is marked, and a warm node applies it. -/
def State.completeEpoch (s : State) (f : CkptEnd) (recs : List CkptRec) : State :=
  let whole := if f.full then recs else ckptMerge (s.ckptNewest.getD []) recs
  let s := s.writeCopy ⟨true, f.epoch, whole⟩
  let s := (s.set Pg.keeper KEEPER.CKPT_EPOCH_EPOCH f.epoch.toNat).onKeeper fun k => { k with rx := none, ckptAt := s.now }
  if s.pairState = Pair.standby then s
  else if s.keeper.warmAt.isNone then
    if f.full then
      let s := s.loadCheckpoint whole
      let s := s.enableMacs
      s.onKeeper fun k => { k with warmAt := some s.now }
    else { s with keeper := { s.keeper with nack := true } }
  else s.each recs State.applyRec

/-- CKPT_END (R441, R442). -/
def execCkptEnd (f : CkptEnd) (s : State) : Outcome :=
  .next (whenHolds s.pairs s fun s =>
    let s :=
      if !f.good then
        let s := s.count Pg.keeper KEEPER.FRAME_ERR
        if s.follows then s.discardEpoch else s
      else if !s.follows then s
      else match s.epochRecs f with
        | some recs => s.completeEpoch f recs
        | none => s.discardEpoch
    if f.good && f.final && !s.keeper.lost && (s.follows || s.pairState = Pair.active) then s.declareLoss else s)

/-! ### Failover (R442, R443) -/

/-- PAIR_LOST (R442): 3.0 ms pass with no good HEARTBEAT. -/
def execPairLost (s : State) : Outcome :=
  .next (whenHolds ((s.follows || s.pairs && s.pairState = Pair.active) && s.keeper.lastSeq.isSome && !s.keeper.lost) s
    fun s => (s.reach (s.keeper.hbAt + cyclesMs 3)).declareLoss)

/-- A cold node's plan may start: the newest copy is complete, and admission passes; `none` in the copy's plan is a node
that ran none. -/
def State.takeoverAdmits (s : State) : Bool :=
  match s.ckptNewest with
  | none => false
  | some recs =>
    match ckptPlan recs with
    | some (_, p) => (s.admitFailure p).isNone
    | none => true

/-- The takeover completes. -/
def State.finishTakeover (s : State) : State :=
  let alone := s.keeper.lost || !s.keeper.heard
  let s := s.setPair (if alone then Pair.alone else Pair.active)
  let s := s.onKeeper fun k => { k with warmAt := none }
  ((s.count Pg.keeper KEEPER.FAILOVERS).lifeAdd Pg.keeper 2).event Pg.keeper 4

/-- TAKEOVER_DONE (R443, R447): the plan is admitted and starts, or admission fails and the outputs stay silent; a warm
node's plan runs already. -/
def execTakeoverDone (admitted : Bool) (s : State) : Outcome :=
  .next (whenHolds (s.pairState = Pair.takingOver && s.fwRunning) s fun s =>
    if s.fabric.running.isSome then (if admitted then s.finishTakeover else s)
    else if s.takeoverAdmits ≠ admitted then s
    else if admitted then
      let s := s.loadCheckpoint (s.ckptNewest.getD [])
      let s := s.enableMacs
      let s := s.startPtp 0 (s.profile 0) (s.get Pg.time (TIME.PTP_PORT_DOMAIN 0)) (s.get Pg.time (TIME.PTP_PORT_PORTS 0))
      s.ptpSeen.finishTakeover
    else s.event Pg.keeper 5)

/-! ### Takeback and handover (R445 to R447) -/

/-- WARMING_END (R445): the warm node has run the plan for 1 s. -/
def execWarmingEnd (s : State) : Outcome :=
  .next (match s.keeper.warmAt with
    | some t => whenHolds (s.pairState = Pair.warming) s fun s => (s.reach (t + cyclesSec 1)).setPair Pair.holdoff
    | none => s)

/-- T of a proposal, in ns: the first multiple of 32 sample periods of D0 at least 200 ms ahead. -/
def State.handoverTime (s : State) : Nat :=
  let fs := s.domHz 0
  let k := ((s.nanos0 + 200000001) * fs + 32 * nsPerSec - 1) / (32 * nsPerSec)
  k * 32 * nsPerSec / fs

/-- HANDOVER_PROPOSE goes out. -/
def State.propose (s : State) : State :=
  let t := s.handoverTime
  let s := s.sendTether [.propose (t / nsPerSec) (t % nsPerSec)]
  s.onKeeper fun k => { k with proposed := some (t / nsPerSec, t % nsPerSec), proposedAt := s.now }

/-- The incoming partner may propose. -/
def State.proposes (s : State) : Bool :=
  s.pairs && s.pairState = Pair.holdoff && s.keeper.proposed.isNone && s.keeper.armed.isNone

/-- HOLDOFF_END (R446). -/
def execHoldoffEnd (s : State) : Outcome :=
  .next (whenHolds (s.proposes && s.keeper.retries = 0) s fun s =>
    (s.reach (s.keeper.stateAt + cyclesSec (s.get Pg.keeper KEEPER.CFG_HOLDOFF_S))).propose)

/-- HANDOVER_REQ (R446): ignored unless ACTIVE. -/
def execHandoverReq (m : Master) (s : State) : Outcome :=
  .next (s.writeTo m Pg.keeper fun s =>
    if s.pairs && s.pairState = Pair.active then s.onKeeper fun k => { k with requested := true } else s)

/-- For each transmit context, the number of its first packet at or after the effect sample. -/
def State.handoverSeqs (s : State) (h : Handover) : List (Nat × BitVec 16) :=
  s.flow.ctxs.filterMap fun e =>
    let x := e.2
    if e.1 < 512 || s.ctxState e.1 ≠ Cs.sending then none
    else
      let sper := s.ctxS x
      let ahead := if sper = 0 then 0 else (s.changeCount x.desc.domain h - x.nextCount + sper - 1) / sper
      some (e.1 % 512, x.seq + BitVec.ofNat 16 ahead)

/-- HANDOVER_PROPOSE (R446): the outgoing partner answers and arms, or refuses where it cannot. -/
def execHandoverPropose (sec ns : Nat) (s : State) : Outcome :=
  .next (whenHolds s.pairs s fun s =>
    let t := sec * nsPerSec + ns
    if s.pairState = Pair.active && s.keeper.armed.isNone && s.freeEntry.isSome && ns < nsPerSec && s.nanos0 < t then
      let h : Handover := ⟨t, false, false⟩
      let s := (s.arm Ck.handover 0 sec ns).onKeeper fun k => { k with armed := some h, requested := false }
      s.sendTether [.ack sec ns 0x00 (s.handoverSeqs h)]
    else s.sendTether [.ack sec ns 0x08 []])

/-- A proposal failed: another follows after 1 s, up to 3 times, then the hold-off starts again. -/
def State.proposalFails (s : State) : State :=
  if s.keeper.retries < 3 then
    s.onKeeper fun k => { k with proposed := none, proposedAt := s.now, retries := k.retries + 1 }
  else
    (s.onKeeper fun k => { k with proposed := none, retries := 0, stateAt := s.now }).event Pg.keeper 7

/-- HANDOVER_ACK (R446, R447): it answers the proposal that waits. -/
def execHandoverAck (sec ns : Nat) (result : Byte) (seqs : List (Nat × BitVec 16)) (s : State) : Outcome :=
  .next (whenHolds (s.pairs && s.pairState = Pair.holdoff && s.keeper.proposed == some (sec, ns)) s fun s =>
    if result = 0 && s.freeEntry.isSome then
      (s.arm Ck.handover 1 sec ns).onKeeper fun k => { k with
        armed := some ⟨sec * nsPerSec + ns, true, false⟩, proposed := none, retries := 0, seqs := seqs }
    else s.proposalFails)

/-- HANDOVER_ACK_TIMEOUT (R447). -/
def execHandoverAckTimeout (s : State) : Outcome :=
  .next (whenHolds (s.pairState = Pair.holdoff && s.keeper.proposed.isSome) s fun s =>
    (s.reach (s.keeper.proposedAt + cyclesMs 20)).proposalFails)

/-- HANDOVER_RETRY (R447). -/
def execHandoverRetry (s : State) : Outcome :=
  .next (whenHolds (s.proposes && 0 < s.keeper.retries) s fun s =>
    (s.reach (s.keeper.proposedAt + cyclesSec 1)).propose)

/-- HANDOVER_FAIL (R446): PAIR_ACT_OUT has not risen within 1 ms of the effect tick. -/
def execHandoverFail (s : State) : Outcome :=
  .next (match s.keeper.armed with
    | some h => whenHolds (h.incoming && h.passed && !s.actOut) s fun s =>
        let s := s.untilTime0 (h.at_ + 1000000)
        ((s.onKeeper fun k => { k with armed := none, seqs := [] }).stopLoops).event Pg.keeper 7
    | none => s)

/-- COMMIT_AT_HANDOVER (R446): a host may not arm it; the spec names no reason word. -/
def execCommitAtHandover (tag : BitVec 8) (arg : Word) (sec ns : Nat) (s : State) : Outcome :=
  .next (s.mailbox Op.commitAt tag (commitArgs arg sec ns) fun s =>
    s.commitAt tag Ck.handover arg sec ns (commitSet arg < 2) true false fun s => s.refuseOpen Op.commitAt tag)

/-! ### CFG (R448) -/

/-- PAIR_EN goes from 1 to 0: ALONE, with PAIR_ACT_OUT low. -/
def State.pairOff (s : State) : State :=
  let st := s.pairState
  let s := (s.set Pg.keeper KEEPER.CFG_PAIR_EN 0).setPair Pair.alone
  let s := (s.lower Src.pairLoss 0).cancelHandover
  let s := s.onKeeper fun k => { k with lost := false, lastSeq := none, rx := none }
  let s := s.set Pg.keeper KEEPER.STAT_PARTNER_ALIVE 0
  if st = Pair.standby then s.wakeNode
  else if st = Pair.warming || st = Pair.holdoff then s.stopPlan.onKeeper fun k => { k with warmAt := none }
  else s

/-- PAIR_EN goes from 0 to 1: a node without a plan seeks its partner, one with a plan is a survivor. -/
def State.pairOn (s : State) : State :=
  let s := s.set Pg.keeper KEEPER.CFG_PAIR_EN 1
  let s := s.onKeeper fun k => { k with fullNext := true }
  if s.fabric.running.isNone then s.setPair Pair.seeking
  else
    let s := s.onKeeper fun k => { k with stateAt := s.now }
    if s.emits then s else s.stopLoops

/-- KEEPER_CFG_WRITE (R448). -/
def State.writeKeeperCfg (s : State) (v : Word) : State :=
  let p := Pg.keeper
  if s.locked p then s
  else if s.pairState ≠ Pair.alone && s.pairState ≠ Pair.seeking && s.pairState ≠ Pair.standby then s.event p 9
  else
    let hold := KEEPER.CFG_HOLDOFF_S.of v
    let s := if inRange 5 hold 3600 then s.set p KEEPER.CFG_HOLDOFF_S hold else s
    let s := (s.set p KEEPER.CFG_REVERT (KEEPER.CFG_REVERT.of v)).set p KEEPER.CFG_ROLE (KEEPER.CFG_ROLE.of v)
    let on := KEEPER.CFG_PAIR_EN.of v == 1
    if !s.pairing || on = s.pairEnabled then s else if on then s.pairOn else s.pairOff

def execKeeperCfgWrite (m : Master) (v : Word) (s : State) : Outcome :=
  .next (s.writeTo m Pg.keeper fun s => s.writeKeeperCfg v)

end Sys2Proof.Machine
end

