-- ==== Sys2Proof/Machine/Dram.lean ====
section
/-!
DEFINITION. The commands of the DRAM channels (chapter 09): write CRC, the movers' lateness, refresh, row disturb,
training, ranks and migrations, frequency changes.
-/

namespace Sys2Proof.Machine

/-- A channel that the part has. -/
def State.hasDram (s : State) (c : Nat) : Bool := c < s.dramCount

/-- The write in progress at a channel. -/
def State.dramWrite (s : State) (c : Nat) : Option Txn :=
  s.harness.txns.find? fun t => t.granted && t.port == 32 + c && t.req.write && t.status == Hst.okay

/-- A write that a device refused: its word's offset in the channel, its rank, and how the word is left unwritten. -/
structure Alerted where
  off : Nat
  cs : Nat
  key : Nat
  undo : State → State

/-- The word of a granted write, where it lies on the channel and still goes to the memory. `port` is the channel's own, or
the other one's with a transaction that spans both. -/
def State.alertedTxn (s : State) (chan port word : Nat) (spare : Bool) : Option Alerted :=
  match s.dramWrite (port - 32) with
  | none => none
  | some t =>
    match (s.lineAddrs t.req)[word]? with
    | none => none
    | some a =>
      match s.dramAt a with
      | none => none
      | some (ch, off) =>
        if ch ≠ chan || t.dropped.contains a then none
        else ((s.ranksHit chan off true)[bit spare]?).map fun cs =>
          ⟨off, cs, 2 * word + bit spare + (if port = 32 + chan then 0 else 1024),
            fun u => u.portTxn port fun x => { x with dropped := a :: x.dropped }⟩

/-- The word of the channel's last write outside a transaction. -/
def State.alertedOwn (s : State) (chan word : Nat) (spare : Bool) : Option Alerted :=
  match (s.dram chan).own[word]? with
  | none => none
  | some (off, ranks, old) => (ranks[bit spare]?).map fun cs =>
      ⟨off, cs, 2 * word + bit spare,
        fun u => old.zipIdx.foldl (fun v e => v.setByte (Mem.dram chan (off + e.2)) e.1) u⟩

/-- The write that ALERT_N tells of: one of the transaction in progress at the channel's port, of one at the other port that
reaches the channel, or of the last write outside a transaction. -/
def State.alerted (s : State) (chan word : Nat) (spare : Bool) : Option Alerted :=
  match s.alertedTxn chan (32 + chan) word spare with
  | some x => some x
  | none =>
    match s.alertedTxn chan (33 - chan) word spare with
    | some x => some x
    | none => if (s.dramWrite chan).isSome then none else s.alertedOwn chan word spare

/-- ALERT_N (R241): one write in progress, its 64 B word by index, is repeated up to 2 times; a third failure is a command
error of its rank. `spare` says that the second copy of a dual write failed, in the target of the migration. Only what the
failing rank serves is not applied. -/
def execAlertN (chan : Nat) (s : State) (word : Nat := 0) (spare : Bool := false) : Outcome :=
  s.guardPart (chan < 2) (s.hasDram chan) (.next (
    let p := Pg.dram chan
    match s.alerted chan word spare with
    | none => s
    | some x =>
      if !s.flag p DRAM.CFG_WCRC_EN then s
      else if nget 0 (s.dram chan).wcrc x.key < 2 then
        (s.count p DRAM.WCRC_RETRY).onDram chan fun d => { d with wcrc := nput 0 d.wcrc x.key (nget 0 d.wcrc x.key + 1) }
      else
        let lost := s.readRank chan x.off = x.cs
        let s := s.onDram chan fun d => { d with wcrc := nput 0 d.wcrc x.key 0 }
        let s := if lost then x.undo s else s
        let s := ((s.event p 1).lifeAdd p (4 + x.cs)).dramInfo chan x.off 2 x.cs
        s.rankError chan x.cs))

/-- MOV_LATE (R246): zeros take the place of the late block. -/
def execMovLate (chan patch : Nat) (s : State) : Outcome :=
  s.guardPart (chan < 2) (s.hasDram chan) (.next (
    match s.fabric.running with
    | none => s
    | some p =>
      match p.streams.find? fun x => x.chan == chan && x.read && x.patch == patch with
      | none => s
      | some x =>
        let s := s.onMix fun m => { m with filling := nput [] m.filling patch (List.replicate (s.domB x.domain) 0) }
        ((s.count (Pg.dram chan) DRAM.MOV_LATE).event (Pg.dram chan) 15).raise Src.movLate chan))

/-! ### Refresh and row disturb -/

/-- The ranks refresh themselves: the channel is quiesced, or changes its frequency and no transaction holds it (R266,
R267). -/
def State.selfRefreshes (s : State) (c : Nat) : Bool :=
  (s.dram c).selfRefresh ||
    ((s.dram c).freqBusy.isSome && !s.harness.txns.any fun t => t.granted && t.port == 32 + c)

/-- REFRESH_DUE (R250): one more interval of a rank's debt has passed. -/
def execRefreshDue (chan rank : Nat) (s : State) : Outcome :=
  s.guardPart (chan < 2 && rank < 4) (s.hasDram chan) (.next (whenHolds (s.populated chan rank && !s.selfRefreshes chan) s fun s =>
    let k := s.rank chan rank
    (s.setRank chan rank { k with debtNs := (s.owed chan rank + 1) * s.trefi chan rank }).serveRefresh chan rank))

/-- MR4_POLL (R249): bit n of `doubled` says that MR4 of CS n reports twice the rate or more. -/
def execMr4Poll (chan : Nat) (doubled : BitVec 4) (sinceNs : Nat) (s : State) : Outcome :=
  s.guardPart (chan < 2) (s.hasDram chan) (.next (s.each (List.range 4) fun t r =>
    if t.populated chan r then
      let was := t.doubled chan r
      let t := t.setRank chan r { t.rank chan r with mr4 := doubled.getLsbD r }
      t.crossThreshold chan r was (min sinceNs (t.trefi chan r))
    else t))

/-- REFRESH_WINDOW (R253, R254): the rank's tables clear, and its throttles have one window less. -/
def execRefreshWindow (chan rank : Nat) (s : State) : Outcome :=
  s.guardPart (chan < 2 && rank < 4) (s.hasDram chan) (.next (
    let s := s.setRank chan rank { s.rank chan rank with tables := [] }
    let s := s.onDram chan fun d => { d with
      charges := d.charges.filter fun e => e.1 / 16 ≠ rank
      throttle := (d.throttle.map fun e => if e.1 / 16 = rank then (e.1, e.2 - 1) else e).filter fun e => e.2 ≠ 0 }
    s.showThrottles chan))

/-- DQS_OSC_READ (R252): every 8 ms for each rank. -/
def execDqsOscRead (chan rank : Nat) (s : State) : Outcome :=
  s.guardPart (chan < 2 && rank < 4) (s.hasDram chan) (.next (whenHolds (s.populated chan rank) s fun s =>
    s.setRank chan rank { s.rank chan rank with oscReads := (s.rank chan rank).oscReads + 1 }))

/-- ROW_IDLE_CLOSE (R244): PAGE_IDLE has passed without an access to the open row. -/
def execRowIdleClose (chan rank bank : Nat) (s : State) : Outcome :=
  s.guardPart (chan < 2 && rank < 4 && bank < 64) (s.hasDram chan) (.next (
    s.setRank chan rank { s.rank chan rank with openRows := SMap.erase (s.rank chan rank).openRows bank }))

/-- Units of 4 KiB in a rank: 8 GiB with ×16 devices, 16 GiB with ×8. -/
def State.rankUnits (s : State) (c : Nat) : Nat := if s.get (Pg.dram c) DRAM.CFG_DEVICE = 1 then 2 ^ 22 else 2 ^ 21

/-- A rank test walks a row of a bank, in both sub-channels (R253, R264). -/
def State.testRows (s : State) (c cs bank row : Nat) : State :=
  s.each [0, 1] fun t sc => t.activate c cs (sc * 32 + bank) row none

/-- A rank test has come some way: how far, the spec leaves open, and the value is free (log 339). -/
def State.testProgress (s : State) (c : Nat) : State :=
  if (s.dram c).testing.isNone then s
  else
    let p := Pg.dram c
    let n := s.get p DRAM.RANK_OP_STAT_PERCENT
    let (v, s) := s.free
    s.set p DRAM.RANK_OP_STAT_PERCENT (n + v % (100 - n))

/-! ### Training (R256 to R258) -/

/-- The ranks of a mask. -/
def ranksOf (mask : Nat) : List Nat := (List.range 4).filter fun r => mask.testBit r

/-- TRAIN_DRAM (R258). -/
def execTrainDram (tag : BitVec 8) (chan mask : Word) (s : State) : Outcome :=
  .next (s.mailbox Op.trainDram tag [chan, mask] fun s =>
    let c := chan.toNat
    let p := Pg.dram c
    let op := Op.trainDram
    if 2 ≤ c || 16 ≤ mask.toNat then s.reply op tag St.badArg []
    else if !s.hasDram c then s.reply op tag St.absent []
    else if !s.enabled p then s.reply op tag St.notEnabled []
    else if s.migActive c || s.dramBusy c then s.reply op tag St.busy []
    else if s.mappedGiB c ≠ 0 && (ranksOf mask.toNat).any (fun r => mappedRank (s.rankState c r)) then s.refuseOpen op tag
    else
      let s := s.set p DRAM.TRN_RESULT_VALID 0
      let s := (s.set p DRAM.TRN_STEP_TOTAL (8 * (ranksOf mask.toNat).length)).set p DRAM.TRN_STEP_DONE 0
      let s := s.onDram c fun d => { d with training := some (BitVec.ofNat 4 mask.toNat, tag) }
      s.accept op tag p)

/-- Another operation ends: a migration that waited for it begins to copy (R263). -/
def State.endWaiting (s : State) (c : Nat) : State :=
  if s.flag (Pg.dram c) DRAM.MIG_STAT_WAITING then
    (s.set (Pg.dram c) DRAM.MIG_STAT_WAITING 0).longStart (Pg.dram c)
  else s

/-- The state of a rank that passed its training (R256, R264). -/
def trainedState (v : Nat) : Nat :=
  if v = Rs.untrained then Rs.ready else if v = Rs.retired || v = Rs.failed then Rs.retrained else v

/-- TRAIN_DRAM_DONE (R256): the run has ended, whether or not every rank passed. -/
def execTrainDramDone (chan : Nat) (passed : BitVec 4) (s : State) : Outcome :=
  s.guardPart (chan < 2) (s.hasDram chan) (.next (
    match (s.dram chan).training with
    | none => s
    | some (mask, tag) =>
      let p := Pg.dram chan
      let ok := passed &&& mask
      let s := ((s.set p DRAM.TRN_RESULT_VALID 1).set p DRAM.TRN_RESULT_TRAINED mask.toNat).set p
        DRAM.TRN_RESULT_PASSED ok.toNat
      let s := s.each (ranksOf ok.toNat) fun t r => t.setRankState chan r (trainedState (t.rankState chan r))
      let s := s.onDram chan fun d => { d with training := none }
      (s.finish Op.trainDram tag p St.ok).endWaiting chan))

/-- TRN_GO (R257): SUBCH 0b00 and OP 0b11 are reserved, and GO is then ignored. -/
def execTrnGo (m : Master) (chan : Nat) (v : Word) (s : State) : Outcome :=
  guardWf (chan < 2) (.next (s.writeTo m (Pg.dram chan) fun s =>
    let p := Pg.dram chan
    let s := ((s.set p DRAM.TRN_CTRL_RANK (DRAM.TRN_CTRL_RANK.of v)).set p DRAM.TRN_CTRL_SUBCH
      (DRAM.TRN_CTRL_SUBCH.of v)).set p DRAM.TRN_CTRL_OP (DRAM.TRN_CTRL_OP.of v)
    let s := (s.set p DRAM.TRN_CTRL_PAT (DRAM.TRN_CTRL_PAT.of v)).set p DRAM.TRN_CTRL_BURSTS (DRAM.TRN_CTRL_BURSTS.of v)
    if DRAM.TRN_CTRL_GO.of v = 1 && DRAM.TRN_CTRL_SUBCH.of v ≠ 0 && DRAM.TRN_CTRL_OP.of v ≠ 3 && s.enabled p &&
        !(s.dram chan).helper then
      let s := (s.set p DRAM.TRN_CTRL_GO 1).set p DRAM.TRN_CTRL_DONE 0
      let s := (s.set p DRAM.TRN_ERR0_SC0_DQ 0).set p DRAM.TRN_ERR1_SC0_CB 0
      let s := (s.set p DRAM.TRN_ERR1_SC1_CB 0).set p DRAM.TRN_ERR2_SC1_DQ 0
      s.onDram chan fun d => { d with helper := true }
    else s))

/-! The helper's patterns and walk (R256, R257). -/

/-- One shift of a PRBS31 generator, x^31 + x^28 + 1. -/
def prbsNext (x : BitVec 31) : BitVec 31 := (x <<< 1) ||| (if x.getLsbD 30 != x.getLsbD 27 then 1 else 0)

/-- The seed of a bit lane: TRN_SEED XOR the lane number, 0 acting as 1. -/
def laneSeed (seed lane : Nat) : BitVec 31 :=
  let x := BitVec.ofNat 31 (Nat.xor seed lane)
  if x = 0 then 1 else x

/-- One beat of the 32 data lanes: each lane's next bit, and the generators after it. -/
def prbsBeat (lanes : List (BitVec 31)) : List (BitVec 31) × Word :=
  let next := lanes.map prbsNext
  (next, next.zipIdx.foldl (fun w e => if e.1.getLsbD 0 then w ||| (1#32 <<< e.2) else w) 0)

/-- n beats of the pattern. -/
def prbsBeats (lanes : List (BitVec 31)) : Nat → List Word
  | 0 => []
  | n + 1 => (prbsBeat lanes).2 :: prbsBeats (prbsBeat lanes).1 n

/-- The 32-bit beats that a helper writes in n accesses of 16 beats: PRBS31, or the user words in turn. -/
def helperBeats (seed : Nat) (user : List Word) (n : Nat) : List Word :=
  if user.isEmpty then prbsBeats ((List.range 32).map (laneSeed seed)) (16 * n)
  else (List.range (16 * n)).map fun i => (user[i % 16]?).getD 0

/-- The user pattern, or none for PRBS31; and the seed that acts. -/
def State.helperUser (s : State) (p : Nat) : List Word :=
  if s.get p DRAM.TRN_CTRL_PAT = 1 then (List.range 16).map fun i => BitVec.ofNat 32 (s.get p DRAM.TRN_PAT_DATA_WORD i)
  else []

def State.helperSeed (s : State) (p : Nat) : Nat := max 1 (s.get p DRAM.TRN_SEED_SEED)

/-- The channel offset of a column of a row, the inverse of the address orders (R242). -/
def State.offsetOf (s : State) (c : Nat) (pl : DramPlace) (col : Nat) : Nat :=
  let nb := 2 ^ s.bankBits c
  let order := s.get (Pg.dram c) DRAM.CFG_ORDER
  let row := if s.twoRanks c then pl.row * 2 + pl.lr else pl.row
  let bank := if order = 3 then Nat.xor pl.bank (pl.row % nb) else pl.bank
  64 * (if order = 1 then ((row * 64 + col) * nb + bank) * 2 + pl.sc
    else if order = 2 then ((row * nb + bank) * 2 + pl.sc) * 64 + col
    else ((row * nb + bank) * 64 + col) * 2 + pl.sc)

/-- The logical rank that a chip select serves. -/
def State.logicalOf (s : State) (c cs : Nat) : Option Nat :=
  let p := Pg.dram c
  if s.flag p DRAM.RANK_MAP_LR0_VALID && s.get p DRAM.RANK_MAP_LR0 = cs then some 0
  else if s.flag p DRAM.RANK_MAP_LR1_VALID && s.get p DRAM.RANK_MAP_LR1 = cs then some 1
  else none

/-- The sub-channels of TRN_CTRL.SUBCH. -/
def State.helperSubs (s : State) (p : Nat) : List Nat :=
  (List.range 2).filter fun k => (s.get p DRAM.TRN_CTRL_SUBCH).testBit k

/-- The walk of one sub-channel activates its rows: 64 columns of a row, the banks, then the rows (R253). -/
def State.helperRows (s : State) (c cs sc n : Nat) : State :=
  let nb := 2 ^ s.bankBits c
  s.each (List.range ((n + 63) / 64)) fun t k => t.activate c cs (sc * 32 + k % nb) (k / nb) none

/-- A pattern joins what helpers wrote in a sub-channel; older ones stand beyond it only. -/
def addHelper (e : Nat × List Word × Nat) (l : List (Nat × List Word × Nat)) : List (Nat × List Word × Nat) :=
  e :: l.filter fun x => e.2.2 < x.2.2

/-- The channel offset of a helper's i-th beat in a mapped rank: 64 columns of a row, the banks, then the rows. -/
def State.helperAt (s : State) (c lr sc i : Nat) : Nat :=
  let k := i / 16
  let nb := 2 ^ s.bankBits c
  s.offsetOf c { sc := sc, bank := k / 64 % nb, lr := lr, row := k / 64 / nb } (k % 64) + 4 * (i % 16)

/-- A WRITE of one sub-channel: the rank holds the pattern, and the memory that a mapped rank serves with it. -/
def State.helperWrite (s : State) (c cs sc n : Nat) : State :=
  let p := Pg.dram c
  let seed := s.helperSeed p
  let user := s.helperUser p
  let k := s.rank c cs
  let s := s.setRank c cs { k with helper := nset k.helper sc (addHelper (seed, user, n) (nget [] k.helper sc)) }
  match s.logicalOf c cs with
  | none => s
  | some lr =>
    s.each (helperBeats seed user n).zipIdx fun t e =>
      (bytesOf e.1).zipIdx.foldl (fun u b => u.setByte (Mem.dram c (t.helperAt c lr sc e.2 + b.2)) b.1) t

/-- The data beats that n accesses of a sub-channel find in the cells: memory in a mapped rank, else what helpers wrote; none
where the model does not know them. -/
def State.helperCells (s : State) (c cs sc n : Nat) : List (Option Word) :=
  match s.logicalOf c cs with
  | some lr => (List.range (16 * n)).map fun i => some (s.dramSample c (s.helperAt c lr sc i))
  | none =>
    let es := (nget [] (s.rank c cs).helper sc).map fun e => helperBeats e.1 e.2.1 (min e.2.2 n)
    (List.range (16 * n)).map fun i => es.findSome? fun l => l[i]?

/-- The check bits of n accesses hold the pattern, as a helper wrote it. -/
def State.helperHolds (s : State) (c cs sc n : Nat) : Bool :=
  let p := Pg.dram c
  match (nget [] (s.rank c cs).helper sc).head? with
  | some (seed, user, m) => seed == s.helperSeed p && user == s.helperUser p && decide (n ≤ m)
  | none => false

/-- The compare logic (R256): bits of a sub-channel that differ in some beat, with those that its devices and wires returned
wrong. What unknown cells hold is free (log 322). -/
def State.helperErrors (s : State) (c cs sc n dq cb : Nat) : State × Nat × Nat :=
  let p := Pg.dram c
  let want := helperBeats (s.helperSeed p) (s.helperUser p) n
  let cells := s.helperCells c cs sc n
  let known := (want.zip cells).foldl (fun m e => m ||| (match e.2 with | some x => x ^^^ e.1 | none => 0)) 0#32
  let bits := Nat.lor dq known.toNat
  if s.helperHolds c cs sc n then (s, bits, cb)
  else
    let (v, s) := s.free
    (s, if cells.contains none then Nat.lor bits (v % 2 ^ 32) else bits, v / 2 ^ 32 % 256)

/-- TRN_DONE (R257): the operation has made its walk; `err0` to `err2` are the bits that the devices and their wires
returned wrong. -/
def execTrnDone (chan : Nat) (err0 err1 err2 : Word) (s : State) : Outcome :=
  s.guardPart (chan < 2) (s.hasDram chan) (.next (whenHolds (s.dram chan).helper s fun s =>
    let p := Pg.dram chan
    let cs := s.get p DRAM.TRN_CTRL_RANK
    let n := s.get p DRAM.TRN_CTRL_BURSTS
    let op := s.get p DRAM.TRN_CTRL_OP
    let subs := s.helperSubs p
    let s := s.each subs fun t sc => t.helperRows chan cs sc n
    let s := if op = 1 then s else s.each subs fun t sc => t.helperWrite chan cs sc n
    let cmp (sc : Nat) (s : State) (dq cb : Nat) : State × Nat × Nat :=
      if op = 0 || !subs.contains sc then (s, 0, 0) else s.helperErrors chan cs sc n dq cb
    let (s, dq0, cb0) := cmp 0 s err0.toNat (DRAM.TRN_ERR1_SC0_CB.of err1)
    let (s, dq1, cb1) := cmp 1 s err2.toNat (DRAM.TRN_ERR1_SC1_CB.of err1)
    let s := (s.set p DRAM.TRN_ERR0_SC0_DQ dq0).set p DRAM.TRN_ERR1_SC0_CB cb0
    let s := (s.set p DRAM.TRN_ERR1_SC1_CB cb1).set p DRAM.TRN_ERR2_SC1_DQ dq1
    let s := (s.set p DRAM.TRN_CTRL_GO 0).set p DRAM.TRN_CTRL_DONE 1
    (s.onDram chan fun d => { d with helper := false }).event p 8))

/-- TRN_STEP_ADVANCE (R256): one more training step is counted, and PG_PROGRESS follows. -/
def execTrnStepAdvance (m : Master) (chan : Nat) (s : State) : Outcome :=
  guardWf (chan < 2) (.next (s.writeTo m (Pg.dram chan) fun s =>
    let p := Pg.dram chan
    let n := s.get p DRAM.TRN_STEP_DONE + 1
    let s := s.count p DRAM.TRN_STEP_DONE
    let total := s.get p DRAM.TRN_STEP_TOTAL
    if (s.dram chan).training.isSome && total ≠ 0 then s.longStep p (100 * n / total) n else s))

/-! ### Mode registers -/

/-- MR_GO: a mode-register access starts (R256, R267). -/
def execMrGo (m : Master) (chan : Nat) (v : Word) (s : State) : Outcome :=
  guardWf (chan < 2) (.next (s.writeTo m (Pg.dram chan) fun s =>
    let p := Pg.dram chan
    let s := (s.set p DRAM.MR_CTRL_WRITE (DRAM.MR_CTRL_WRITE.of v)).set p DRAM.MR_CTRL_RANK (DRAM.MR_CTRL_RANK.of v)
    let s := (s.set p DRAM.MR_CTRL_SUBCH (DRAM.MR_CTRL_SUBCH.of v)).set p DRAM.MR_CTRL_MR (DRAM.MR_CTRL_MR.of v)
    if DRAM.MR_CTRL_GO.of v = 1 && s.enabled p && !(s.dram chan).mrBusy then
      ((s.set p DRAM.MR_CTRL_GO 1).set p DRAM.MR_CTRL_DONE 0).onDram chan fun d => { d with mrBusy := true }
    else s))

/-- MR_DONE (R268): a read leaves the value read in MR_DATA. -/
def execMrDone (chan : Nat) (value : Byte) (s : State) : Outcome :=
  s.guardPart (chan < 2) (s.hasDram chan) (.next (whenHolds (s.dram chan).mrBusy s fun s =>
    let p := Pg.dram chan
    let s := if s.flag p DRAM.MR_CTRL_WRITE then s else s.set p DRAM.MR_DATA_VALUE value.toNat
    let s := (s.set p DRAM.MR_CTRL_GO 0).set p DRAM.MR_CTRL_DONE 1
    (s.onDram chan fun d => { d with mrBusy := false }).event p 9))

/-! ### Ranks (R260 to R265) -/

/-- A RANK_CMD: what the state of the rank does not allow is ignored and sets CMD_REFUSED. -/
def State.rankCmd (s : State) (m : Master) (chan : Nat) (ok : State → Bool) (f : State → State) : Outcome :=
  guardWf (chan < 2) (.next (s.writeTo m (Pg.dram chan) fun s => if ok s then f s else s.event (Pg.dram chan) 12))

/-- The next free logical index: two service ranks with ×16 devices, one with ×8 (R239). -/
def State.freeLogical (s : State) (c : Nat) : Option Nat :=
  let p := Pg.dram c
  if !s.flag p DRAM.RANK_MAP_LR0_VALID then some 0
  else if !s.flag p DRAM.RANK_MAP_LR1_VALID && s.get p DRAM.CFG_DEVICE ≠ 1 then some 1
  else none

/-- A logical rank is served by a chip select. -/
def State.mapRank (s : State) (c lr cs : Nat) : State :=
  let p := Pg.dram c
  if lr = 0 then (s.set p DRAM.RANK_MAP_LR0_VALID 1).set p DRAM.RANK_MAP_LR0 cs
  else (s.set p DRAM.RANK_MAP_LR1_VALID 1).set p DRAM.RANK_MAP_LR1 cs

/-- RANK_CMD_SERVICE (R260). -/
def execRankCmdService (m : Master) (chan : Nat) (rank : BitVec 2) (s : State) : Outcome :=
  s.rankCmd m chan
    (fun s => s.mappedGiB chan = 0 && s.rankState chan rank.toNat = Rs.ready && (s.freeLogical chan).isSome)
    fun s => (s.mapRank chan ((s.freeLogical chan).getD 0) rank.toNat).setRankState chan rank.toNat Rs.service

/-- A rank becomes the spare, or the standby when a spare exists; a waiting migration may then start. -/
def State.addSpare (s : State) (c r : Nat) : State :=
  (s.setRankState c r (if (s.rankIn c Rs.spare).isSome then Rs.standby else Rs.spare)).nextMigration c

/-- The channel has a spare and a standby. -/
def State.sparesFull (s : State) (c : Nat) : Bool := (s.rankIn c Rs.spare).isSome && (s.rankIn c Rs.standby).isSome

/-- RANK_CMD_SPARE (R260). -/
def execRankCmdSpare (m : Master) (chan : Nat) (rank : BitVec 2) (s : State) : Outcome :=
  s.rankCmd m chan
    (fun s => s.mappedGiB chan = 0 && s.rankState chan rank.toNat = Rs.ready && !s.sparesFull chan)
    fun s => s.addSpare chan rank.toNat

/-- RANK_CMD_RETIRE (R261): a migration of a rank in SERVICE or DEGRADED to the spare. -/
def execRankCmdRetire (m : Master) (chan : Nat) (rank : BitVec 2) (s : State) : Outcome :=
  s.rankCmd m chan
    (fun s => (s.rankState chan rank.toNat = Rs.service || s.rankState chan rank.toNat = Rs.degraded) &&
      !s.migActive chan && (s.rankIn chan Rs.spare).isSome && s.enabled (Pg.dram chan))
    fun s => (s.onDram chan fun d => { d with failedWait := d.failedWait.filter (· ≠ rank.toNat) }).startMigration chan
      rank.toNat ((s.rankIn chan Rs.spare).getD 0)

/-- A rank under test no longer holds what a training helper wrote there, or holds the test's own pattern whole. -/
def State.testPattern (s : State) (c cs : Nat) (whole : Bool) : State :=
  let n := 32 * s.rankUnits c
  let e := [(s.helperSeed (Pg.dram c), ([] : List Word), n)]
  s.setRank c cs { s.rank c cs with helper := if whole then [(0, e), (1, e)] else [] }

/-- RANK_CMD_TEST (R264): refused while a migration runs. The test's first 4 KiB lie in row 0 of bank 0 (log 339). -/
def execRankCmdTest (m : Master) (chan : Nat) (rank : BitVec 2) (s : State) : Outcome :=
  s.rankCmd m chan
    (fun s => s.rankState chan rank.toNat = Rs.retrained && !s.migActive chan && !s.dramBusy chan &&
      s.enabled (Pg.dram chan))
    fun s =>
      let p := Pg.dram chan
      let s := ((s.set p DRAM.RANK_OP_STAT_BUSY 1).set p DRAM.RANK_OP_STAT_PERCENT 0).set p DRAM.RANK_OP_STAT_RANK rank.toNat
      let s := (s.set p DRAM.RANK_OP_STAT_RESULT 0).onDram chan fun d => { d with testing := some rank.toNat }
      (s.testPattern chan rank.toNat false).testRows chan rank.toNat 0 0

/-- RANK_CMD_RETURN (R264). -/
def execRankCmdReturn (m : Master) (chan : Nat) (rank : BitVec 2) (s : State) : Outcome :=
  s.rankCmd m chan (fun s => s.rankState chan rank.toNat = Rs.tested && !s.sparesFull chan)
    fun s => s.addSpare chan rank.toNat

/-- A rank test ends with a result: 1 pass, 2 fail, 3 aborted. -/
def State.endRankTest (s : State) (chan result : Nat) : State :=
  let p := Pg.dram chan
  let s := (s.set p DRAM.RANK_OP_STAT_BUSY 0).set p DRAM.RANK_OP_STAT_RESULT result
  ((s.onDram chan fun d => { d with testing := none }).event p 14).endWaiting chan

/-- TEST_DONE (R264). -/
def execTestDone (chan : Nat) (pass : Bool) (s : State) : Outcome :=
  s.guardPart (chan < 2) (s.hasDram chan) (.next (
    match (s.dram chan).testing with
    | none => s
    | some r =>
      let s := s.testProgress chan
      let s := if pass then (s.set (Pg.dram chan) DRAM.RANK_OP_STAT_PERCENT 100).testRows chan r (2 ^ s.bankBits chan - 1) 65535
        else s
      let s := s.testPattern chan r pass
      (s.setRankState chan r (if pass then Rs.tested else Rs.failed)).endRankTest chan (if pass then 1 else 2)))

/-- A 64 B word that the copy reads: clean, corrected, or written to the spare with the poison pattern (R262). Its row is
activated in both ranks, and what a training helper wrote in the spare is gone. -/
def State.copyWord (s : State) (c off : Nat) (e : Option Ecc) : State :=
  let pl := s.place c off
  let s := s.each [s.migFrom c, s.migTo c] fun u cs => u.activate c cs (pl.sc * 32 + pl.bank) pl.row none
  let s := s.setRank c (s.migTo c) { s.rank c (s.migTo c) with helper := [] }
  match (s.dram c).poison.contains (off / 64), e with
  | false, none => s
  | false, some .single => s.dramCe c (s.migFrom c)
  | _, _ => s.dramUe c off 4 (s.migFrom c)

/-- MIGRATION_COPY_UNIT (R262): one unit of 4 KiB, while no transaction holds the port. `ecc` lists the offsets of words
of the unit that are not read clean. -/
def execMigrationCopyUnit (chan : Nat) (ecc : List (Nat × Ecc)) (s : State) : Outcome :=
  s.guardPart (chan < 2) (s.hasDram chan) (.next (whenHolds (s.migActive chan && !s.flag (Pg.dram chan) DRAM.MIG_STAT_WAITING &&
      !(s.dram chan).migPaused && s.portFree (32 + chan) && (s.dram chan).migPos < s.rankUnits chan) s fun s =>
    let lr := if s.get (Pg.dram chan) DRAM.RANK_MAP_LR0 = s.migFrom chan && s.flag (Pg.dram chan) DRAM.RANK_MAP_LR0_VALID
      then 0 else 1
    let unit := (s.dram chan).migPos
    let offs := (List.range 64).map fun k => s.channelOffset chan lr (4096 * unit + 64 * k)
    let to_ := s.migTo chan
    let s := s.each offs fun t off => t.copyWord chan off ((ecc.find? fun e => e.1 / 64 == off / 64).map (·.2))
    let s := s.ownWrite chan (offs.map fun off => (off, [to_], []))
    let s := s.onDram chan fun d => { d with migPos := unit + 1 }
    s.longStep (Pg.dram chan) (100 * (unit + 1) / s.rankUnits chan) ((unit + 1) / 256)))

/-- MIG_DONE (R262): every MiB has been copied. -/
def execMigDone (chan : Nat) (s : State) : Outcome :=
  s.guardPart (chan < 2) (s.hasDram chan) (.next (whenHolds (s.migActive chan && (s.dram chan).migPos = s.rankUnits chan) s fun s =>
    let p := Pg.dram chan
    let from_ := s.migFrom chan
    let to_ := s.migTo chan
    let lr := if s.get p DRAM.RANK_MAP_LR0 = from_ && s.flag p DRAM.RANK_MAP_LR0_VALID then 0 else 1
    -- What the spare holds is what the range reads from here on.
    let other (w : Nat) : Bool := (s.place chan (64 * w)).lr ≠ lr
    let s := s.onDram chan fun d => { d with poison := d.poison.filter other ++ d.sparePoison, sparePoison := [] }
    let s := (s.mapRank chan lr to_).setRankState chan to_ Rs.service
    let s := (s.setRankState chan from_ Rs.retired).promoteStandby chan
    let s := (s.set p DRAM.MIG_STAT_ACTIVE 0).event p 4
    ((s.longEnd p true).dramUeSource chan).nextMigration chan))

/-- CE_STORM_END (R265): 10 s after the rank last had more than 256 corrected errors within 1 s. -/
def execCeStormEnd (chan rank : Nat) (s : State) : Outcome :=
  s.guardPart (chan < 2 && rank < 4) (s.hasDram chan) (.next (whenHolds ((s.dram chan).storm.contains rank) s fun s =>
    let s := (s.reach (nget 0 (s.dram chan).stormEnd rank)).onDram chan fun d => { d with
      storm := d.storm.erase rank
      stormEnd := nput 0 d.stormEnd rank 0 }
    if (s.dram chan).storm.isEmpty then s.lower Src.dramStorm chan else s))

/-! ### Frequency and configuration -/

/-- The running plan has real-time streams on a channel. -/
def State.streamsOn (s : State) (c : Nat) : Bool :=
  match s.fabric.running with
  | some p => p.streams.any fun x => x.chan == c
  | none => false

/-- FREQ_CHANGE (R266). -/
def execFreqChange (m : Master) (chan : Nat) (v : Word) (s : State) : Outcome :=
  guardWf (chan < 2) (.next (s.writeTo m (Pg.dram chan) fun s =>
    let p := Pg.dram chan
    let s := s.set p DRAM.FREQ_CTRL_TARGET (DRAM.FREQ_CTRL_TARGET.of v)
    if DRAM.FREQ_CTRL_CHANGE.of v = 0 || (s.dram chan).freqBusy.isSome || !s.enabled p then s
    else if s.streamsOn chan || s.migActive chan || s.dramBusy chan then (s.set p DRAM.FREQ_CTRL_RESULT 2).event p 11
    else
      (s.set p DRAM.FREQ_CTRL_CHANGE 1).onDram chan fun d => { d with freqBusy := some (s.get p DRAM.FREQ_CTRL_TARGET) }))

/-- FREQ_DONE (R266): the ranks have been precharged and come out of self-refresh; DQS oscillators are read. -/
def execFreqDone (chan : Nat) (locked : Bool) (s : State) : Outcome :=
  s.guardPart (chan < 2) (s.hasDram chan) (.next (
    match (s.dram chan).freqBusy with
    | none => s
    | some target =>
      if s.harness.txns.any fun t => t.granted && t.port == 32 + chan then s
      else
        let p := Pg.dram chan
        let s := s.onDram chan fun d => { d with freqBusy := none }
        let s := s.each (List.range 4) fun t r =>
          if t.populated chan r then
            let k := t.rank chan r
            (t.setRank chan r { k with openRows := [], debtNs := 0, oscReads := k.oscReads + 1 }).showRefresh chan r
          else t
        let s := (s.set p DRAM.FREQ_CTRL_CHANGE 0).event p 10
        if locked then (s.set p DRAM.FREQ_CTRL_ACTIVE target).set p DRAM.FREQ_CTRL_RESULT 1
        else (s.set p DRAM.FREQ_CTRL_RESULT 3).event p 11))

/-- Ranks that CFG.RANKS populates begin UNTRAINED; others are ABSENT and leave the rank map. -/
def State.populate (s : State) (c : Nat) : State :=
  let p := Pg.dram c
  let s := s.each (List.range 4) fun t r =>
    if !t.populated c r then
      let t := (t.setRank c r Rank.reset).setRankState c r Rs.absent
      (t.set p (DRAM.REF_STAT_OWED r) 0).set p (DRAM.REF_STAT_DOUBLED r) 0
    else (if t.rankState c r = Rs.absent then t.setRankState c r Rs.untrained else t).showRefresh c r
  let gone (lr : Nat) := s.rankState c (s.selectOf c lr) = Rs.absent
  let s := if gone 0 then s.set p DRAM.RANK_MAP_LR0_VALID 0 else s
  if gone 1 then s.set p DRAM.RANK_MAP_LR1_VALID 0 else s

/-- DRAM_CFG_WRITE (R243): DEVICE, RANKS and ORDER only while the channel is unmapped. -/
def execDramCfgWrite (m : Master) (chan : Nat) (v : Word) (s : State) : Outcome :=
  guardWf (chan < 2) (.next (s.writeTo m (Pg.dram chan) fun s =>
    let p := Pg.dram chan
    let s := if DRAM.CFG_PAGE_IDLE.of v = 0 then s else s.set p DRAM.CFG_PAGE_IDLE (DRAM.CFG_PAGE_IDLE.of v)
    if s.locked p then s
    else
      let s := s.set p DRAM.CFG_WCRC_EN (DRAM.CFG_WCRC_EN.of v)
      if s.mappedGiB chan ≠ 0 then s.event p 13
      else
        let dev := DRAM.CFG_DEVICE.of v
        let s := if dev < 2 then s.set p DRAM.CFG_DEVICE dev else s
        ((s.set p DRAM.CFG_RANKS (DRAM.CFG_RANKS.of v)).set p DRAM.CFG_ORDER (DRAM.CFG_ORDER.of v)).populate chan))

end Sys2Proof.Machine
end

