-- ==== Sys2Proof/Machine/Girth.lean ====
section
/-!
DEFINITION. The commands of the Girth (chapter 07): bank slots, write-backs, the background test, the vault, retention.
-/

namespace Sys2Proof.Machine

/-- GIRTH_ACCESS (R194): one slot at a bank. An access to a segment in retention wakes it and stalls (R211). -/
def execGirthAccess (bank : Nat) (ecc : List (Nat × Ecc)) (s : State) : Outcome :=
  s.guardPart (bank < 64) (bank < s.bankCount) (.next (
    let s := s.upsets (ecc.filter fun e => s.bankOf e.1 = bank)
    whenHolds (!(s.bank bank).waiting.isEmpty) s fun s =>
      let seg := bank / s.banksPerSegment
      if s.waking seg then s
      else if s.retained seg then s.wakeByAccess seg
      else (s.slot bank).settleRetention))

/-- RET_WAKE_DONE (R211): 20 µs after the wake began. -/
def execRetWakeDone (seg : Nat) (s : State) : Outcome :=
  guardWf (seg < 8) (.next (whenHolds (s.waking seg) s fun s =>
    (s.set Pg.girth GIRTH.RET_STAT_WAKING (clearBits (s.get Pg.girth GIRTH.RET_STAT_WAKING) (2 ^ seg))).settleRetention))

/-- ECC_WRITEBACK (R200): in an idle slot a corrected word goes back; its check bits are good again. -/
def execEccWriteback (bank : Nat) (s : State) : Outcome :=
  s.guardPart (bank < 64) (bank < s.bankCount) (.next (whenHolds ((s.bank bank).waiting.isEmpty) s fun s =>
    match s.girth.writebacks.find? fun w => s.bankOf (4 * w) == bank with
    | some w => s.onGirth fun g => { g with
        writebacks := g.writebacks.erase w, upset := g.upset.filter fun e => e.1 ≠ w }
    | none => s))

/-- GIRTH_SHADOW_END (R198), by port: 1 NET, 2 MOV, 3 HOST. The millisecond since the latest shadowed write passes. -/
def execGirthShadowEnd (port : Nat) (s : State) : Outcome :=
  guardWf (inRange 1 port 3) (.next (whenHolds ((s.cinchSrc Src.girthShadow).active.contains (port + 1)) s fun s =>
    (s.reach (nget s.now (s.cinchSrc Src.girthShadow).heldAt (port + 1) + cyclesMs 1)).lower Src.girthShadow (port + 1)))

/-! ### The background test (R202 to R205) -/

/-- Pages of the Girth. -/
def State.girthPages (s : State) : Nat := s.girthSize / 4096

/-- A page may be tested: its segment is awake, and its bank has no row that found no spare (R476). -/
def State.testable (s : State) (page : Nat) : Bool :=
  let seg := s.segmentOf (4096 * page)
  !s.retained seg && !s.waking seg && !s.flag Pg.girth GIRTH.BANK_STAT_FAILED (s.bankOf (4096 * page))

/-- A running wipe covers a page, or the page lies in the vault that it denies: no test of it stands (R209). -/
def State.wipeBars (s : State) (page : Nat) : Bool :=
  s.wiping && (match s.granuleOf (4096 * page) with
    | some g => s.girth.wiping.getLsbD g || s.vaultMap.getLsbD g
    | none => false)

/-- The next page of the sweep, in ascending order. -/
def State.nextPage (s : State) : Option Nat :=
  (List.range s.girthPages).find? fun p => s.girth.next ≤ p && s.testable p

/-- No page is left in the order: a full sweep counts, and the order begins again (R203). With every segment in retention
the sweep stands still (R211). -/
def State.wrapSweep (s : State) : State :=
  if s.nextPage.isNone && s.girth.next ≠ 0 && (List.range s.girthPages).any s.testable then
    ((s.count Pg.girth GIRTH.SWEEPS).event Pg.girth 11).onGirth fun g => { g with next := 0 }
  else s

/-- A region's test starts: one put ahead of the order, else the next of the sweep. One that a running wipe covers is
passed over in its turn (DESIGN CHOICE, log 130). -/
def State.startRegion (s : State) : State :=
  let start (page : Nat) (s : State) : State :=
    if s.wipeBars page then s
    else (((s.onGirth fun g => { g with bgt := some (page, .save) }).set Pg.girth GIRTH.BGT_STAT_STATE 1).set Pg.girth
      GIRTH.BGT_STAT_PHASE 1).set Pg.girth GIRTH.BGT_STAT_REGION page
  match s.girth.ahead.find? s.testable with
  | some p => start p (s.onGirth fun g => { g with ahead := g.ahead.erase p, overdue := false })
  | none =>
    let s := s.wrapSweep
    match s.nextPage with
    | some p => start p (s.onGirth fun g => { g with next := p + 1, overdue := false })
    | none => s

/-- The sweep runs: EN, SWEEP, and no pinned region. -/
def State.sweeps (s : State) : Bool :=
  s.enabled Pg.girth && s.flag Pg.girth GIRTH.BGT_CTRL_SWEEP && s.girth.pinned.isNone

/-- BGT_REGION_START (R203). -/
def execBgtRegionStart (s : State) : Outcome :=
  .next (whenHolds s.sweeps s fun s =>
    match s.girth.bgt with
    | none => s.startRegion
    | some _ =>
      if s.girth.overdue then s
      else (s.count Pg.girth GIRTH.BGT_STAT_LATE).onGirth fun g => { g with overdue := true })

/-- A failing row takes a spare, or the region is pinned (R204, R205). -/
def State.repairRow (s : State) (page : Nat) : State :=
  let b := s.bankOf (4096 * page)
  let used := s.get Pg.girth GIRTH.BANK_STAT_SPARES_USED b
  if used < 8 then
    (((s.set Pg.girth GIRTH.BANK_STAT_SPARES_USED (used + 1) b).count Pg.girth GIRTH.REPAIRS).lifeAdd Pg.girth 2).event
      Pg.girth 3
  else
    let s := ((s.onGirth fun g => { g with pinned := some page }).set Pg.girth GIRTH.BANK_STAT_FAILED 1 b).event Pg.girth 4
    s.girthEccSource

/-- A phase begins. -/
def State.testPhase (s : State) (page : Nat) (ph : BgtPhase) (code : Nat) : State :=
  (s.onGirth fun g => { g with bgt := some (page, ph) }).set Pg.girth GIRTH.BGT_STAT_PHASE code

/-- The TEST phase ends. -/
def State.testEnds (s : State) (page : Nat) (failed : List Nat) : State :=
  let s := s.each failed.eraseDups fun t _ => t.repairRow page
  if s.girth.pinned = some page then s.endTest.set Pg.girth GIRTH.BGT_STAT_STATE 2
  else s.testPhase page .restore 3

/-- A region is done: a full sweep counts, and a region that was due starts. -/
def State.regionDone (s : State) : State :=
  let s := s.endTest.wrapSweep
  if s.girth.overdue && s.sweeps then s.startRegion else s

/-- BGT_PHASE_DONE (R202); `failed` are the rows of the region, 0 to 3, that TEST found failing. -/
def execBgtPhaseDone (failed : List Nat) (s : State) : Outcome :=
  guardWf (failed.all (· < 4)) (.next (
    match s.girth.bgt with
    | none => s
    | some (page, .save) => ((s.checkRange (4096 * page) 4096).saveRegion page).testPhase page .test 2
    | some (page, .test) => s.testEnds page failed
    | some (page, .restore) => (s.restoreRegion page).regionDone))

/-! ### The vault (R206 to R210) -/

/-- VAULT_MAP_WRITE (R206): from a control core; set bits apply at once, cleared bits after their wipe. -/
def execVaultMapWrite (m : Master) (hi : Bool) (v : Word) (s : State) : Outcome :=
  .next (s.writeTo m Pg.girth fun s =>
    if !Master.isCore m || s.locked Pg.girth then s
    else
      let sh := if hi then 32 else 0
      let half : BitVec 64 := 0xFFFFFFFF <<< sh
      let new : BitVec 64 := v.setWidth 64 <<< sh
      let old := s.vaultMap
      let s := s.setVaultMap (old ||| new)
      let cleared := old &&& half &&& ~~~new
      let s := s.onGirth fun g => { g with clearing := (g.clearing ||| cleared) &&& ~~~new }
      if cleared = 0 then s else s.startWipe cleared Wipe.mapBit)

/-- TAMPER_N_FALL (R208, R430): each fall starts a wipe, one within 1 s of the pin's rise too. -/
def execTamperNFall (s : State) : Outcome :=
  .next (((s.onGirth fun g => { g with tamperN := false }).startWipe s.vaultMap Wipe.tamper).raise Src.tamper 0)

/-- LIFE_CYCLE_CHANGE (R457): it takes effect when the wipe that it starts has completed (R208). While one waits for its wipe, a
change to the present state is ignored and any other one takes its place (DESIGN CHOICE, log 350). -/
def execLifeCycleChange (cyc : BitVec 2) (s : State) : Outcome :=
  guardWf (cyc ≠ 3) (.next (whenHolds (cyc ≠ s.life.cycle) s fun s =>
    { s with life := { s.life with cycleNext := some cyc } }.startWipe s.vaultMap Wipe.cycle))

/-- A life-cycle change that waited for its wipe takes effect. -/
def State.cycleTakes (s : State) : State :=
  match s.life.cycleNext with
  | some c => { s with life := { s.life with cycle := c, cycleNext := none } }
  | none => s

/-- A pinned region in the wiped granules loses its reserve copy with them. -/
def State.clearPinned (s : State) (m : BitVec 64) : State :=
  match s.girth.pinned with
  | some page =>
    match s.granuleOf (4096 * page) with
    | some g => if m.getLsbD g then s.onGirth fun x => { x with reserve := [] } else s
    | none => s
  | none => s

/-- WIPE_DONE (R209); `failed` are the granules of the wipe with a line that did not read back zero. -/
def execWipeDone (failed : BitVec 64) (s : State) : Outcome :=
  .next (whenHolds s.wiping s fun s =>
    let done := s.girth.wiping
    let bad := failed &&& done
    let s := (s.zeroGranules done).clearPinned done
    let s := s.setVaultMap (s.vaultMap &&& ~~~s.girth.clearing)
    let s := (s.setVaultFailed (s.vaultFailed ||| bad)).onGirth fun g => { g with wiping := 0, clearing := 0 }
    let s := (s.set Pg.girth GIRTH.VAULT_STAT_WIPING 0).count Pg.girth GIRTH.VAULT_STAT_WIPES
    let s := s.lifeAdd Pg.girth 3
    let s := (s.set Pg.girth PG.PROGRESS_POSITION (granuleCount done)).longEnd Pg.girth true
    let s := if bad = 0 then s else (s.event Pg.girth 7).raise Src.wipeFail 0
    s.cycleTakes.settleRetention)

/-! ### Retention (R211) -/

/-- RET_CTRL_WRITE (R211): bits for segments that the running plan uses are refused; a cleared bit wakes its segment. -/
def execRetCtrlWrite (m : Master) (v : Word) (s : State) : Outcome :=
  .next (s.writeTo m Pg.girth fun s =>
    if s.locked Pg.girth then s
    else
      let old := s.get Pg.girth GIRTH.RET_CTRL_SEG
      let s := s.each (List.range 8) fun t seg =>
        let on := v.getLsbD seg
        let cur := t.get Pg.girth GIRTH.RET_CTRL_SEG
        if on && !old.testBit seg && t.planUses seg then t.event Pg.girth 9
        else if on then t.set Pg.girth GIRTH.RET_CTRL_SEG (setBits cur (2 ^ seg))
        else if t.retained seg then t.wakeSegment seg
        else t.set Pg.girth GIRTH.RET_CTRL_SEG (clearBits cur (2 ^ seg))
      s.settleRetention)

end Sys2Proof.Machine
end

