-- ==== Sys2Proof/Machine/Harness.lean ====
section
/-!
DEFINITION. The commands of the Harness (chapter 08) and the host's window into it (R34 to R37); HARNESS_GRANT, which
may reach a register page, stands with the register accesses (Machine/Access).
-/

namespace Sys2Proof.Machine

/-- A transaction that R221 and R229 allow a master to form. -/
def goodRequest (r : HReq) : Bool :=
  r.master < 13 && r.id < 32 && 1 ≤ r.len && r.addr + r.len ≤ 2 ^ 48 && r.addr / 4096 = (r.addr + r.len - 1) / 4096 &&
    (r.master ≠ 6 || (r.openHint && (r.descQos = 14 || r.descQos = 4))) && (!r.write || r.data.length = r.len) &&
    (!r.locked || (coreMaster r.master && r.data.length = r.len && r.addr / 16 = (r.addr + r.len - 1) / 16))

/-- HARNESS_REQUEST (R216). -/
def execHarnessRequest (r : HReq) (s : State) : Outcome :=
  guardWf (goodRequest r) (.next (whenHolds (s.mayIssue r.master) s fun s => s.request r))

/-- The path of a finished transaction is released (R222), and its response returns in issue order (R225). -/
def State.endTxn (s : State) (t : Txn) : State :=
  let s := s.releasePath t
  (if inRange 32 t.port 33 then s.endDram t else s).flush t.req.master t.req.id

/-- TRANSACTION_END (R222): the last beat of the oldest transaction of an ID that holds a path has completed. -/
def execTransactionEnd (master id : Nat) (s : State) : Outcome :=
  .next (match s.harness.txns.find? fun t =>
      t.req.master == master && t.req.id == id && t.granted && t.port ≠ Port.none && t.beats = 0 with
    | some t => (s.endTxn t).issueHeld s.harness.held.length
    | none => s)

/-- MASTER_RESET (R234). -/
def execMasterReset (master : Nat) (s : State) : Outcome :=
  guardWf (master < 13) (.next (s.resetMaster master))

/-- MRST_DONE (R234): within 5 µs of the reset. -/
def execMrstDone (master : Nat) (s : State) : Outcome :=
  guardWf (master < 13) (.next (whenHolds (s.masterInReset master) s fun s =>
    (s.retireMaster master).issueHeld s.harness.held.length))

/-- REMAP_WRITE (R218). -/
def execRemapWrite (m : Master) (v : Word) (s : State) : Outcome :=
  .next (s.writeTo m Pg.harness fun s =>
    if Master.isCore m then s.set Pg.harness HARNESS.REMAP_REMAP (HARNESS.REMAP_REMAP.of v) else s)

/-- Sizes of 0 to 16 GiB, and an interleave only of equal sizes that are not 0 (R217). A write with a greater size is refused
whole, as one with a forbidden interleave is (DESIGN CHOICE, log 352). -/
def mapAllowed (size0 size1 intlv : Nat) : Bool :=
  size0 ≤ 16 && size1 ≤ 16 && (intlv = 0 || ((intlv = 1 || intlv = 2) && size0 = size1 && size0 ≠ 0))

/-- DRAM_MAP_WRITE (R217). -/
def execDramMapWrite (m : Master) (v : Word) (s : State) : Outcome :=
  .next (s.writeTo m Pg.harness fun s =>
    if s.locked Pg.harness then s
    else
      let s0 := HARNESS.DRAM_MAP_SIZE0.of v
      let s1 := if s.part = .ca then 0 else HARNESS.DRAM_MAP_SIZE1.of v
      let i := HARNESS.DRAM_MAP_INTLV.of v
      if mapAllowed s0 s1 i then
        ((s.set Pg.harness HARNESS.DRAM_MAP_SIZE0 s0).set Pg.harness HARNESS.DRAM_MAP_SIZE1 s1).set Pg.harness
          HARNESS.DRAM_MAP_INTLV i
      else s.event Pg.harness 4)

/-! ### BAR2 (R34 to R37) -/

/-- WIN_BASE_HI_WRITE (R35): the new base applies to every BAR2 request from here on. -/
def execWinBaseHiWrite (m : Master) (v : Word) (s : State) : Outcome :=
  .next (s.writeTo m Pg.host fun s =>
    let s := s.set Pg.host HOST.WIN_BASE_HI_ADDR (HOST.WIN_BASE_HI_ADDR.of v)
    { s with ctrl := { s.ctrl with
        winBase := s.get Pg.host HOST.WIN_BASE_HI_ADDR * 2 ^ 32 + s.get Pg.host HOST.WIN_BASE_LO_ADDR * 2 ^ 26 } })


/-- A host request enters the Harness, split at 4 KiB boundaries (R221); `fuel` bounds the pieces. They carry the page hint CLOSE
(DESIGN CHOICE, log 353), and an address past 2^48 wraps (DESIGN CHOICE, log 355). -/
def State.bar2Pieces (s : State) (write : Bool) (data : List Byte) (strobes : List Bool) : Nat → Nat → Nat → State
  | 0, _, _ => s
  | fuel + 1, a, len =>
    if len = 0 then s
    else
      let n := min len (4096 - a % 4096)
      let r : HReq := { master := 11, id := 0, addr := a % 2 ^ 48, len := n, write := write, data := data.take n,
                        strobes := strobes.take n, locked := false, descQos := 0, openHint := false }
      (s.requestPiece r).bar2Pieces write (data.drop n) (strobes.drop n) fuel (a + n) (len - n)

/-- BAR2_ACCESS (R34): a posted write answers nothing; a read answers when its transaction ends. -/
def execBar2Access (write : Bool) (off len : Nat) (data : List Byte) (strobes : List Bool) (s : State) : Outcome :=
  guardWf (1 ≤ len && off + len ≤ 2 ^ 30 && (!write || data.length = len))
    (.next (whenHolds (s.mayIssue 11) s fun s =>
      let s := s.bar2Pieces write data strobes (len / 4096 + 2) (s.ctrl.winBase + off) len
      if write then s.answer (.ok []) else s))

end Sys2Proof.Machine
end

