-- ==== Sys2Proof/Machine/Lane.lean ====
section
/-!
DEFINITION. The commands of the serial lanes (chapter 10).
-/

namespace Sys2Proof.Machine

/-- A lane's command. -/
def laneCmd (n : Nat) (s : State) (f : State → State) : Outcome :=
  guardWf (n < 10) (.next (if s.present (Pg.lane n) then f s else s))

/-! ### Bring-up (R273) -/

/-- The window of LISTEN, DETECT or SWITCH has expired. -/
def State.windowEnds (s : State) (n : Nat) : State :=
  let x := s.lane n
  let st := s.laneState n
  if st = Ls.listen then
    if x.rateMax = 0 then s.setLaneState n Ls.listen else s.detectAt n x.rateMax
  else if st = Ls.detect then
    if x.waking then s.restartLane n
    else if !x.mode then s.setLaneState n Ls.detect
    else if 1 < x.try_ then s.detectAt n (x.try_ - 1)
    else s.listens n
  else if st = Ls.switch then
    s.switchEnded n fun s =>
      let p := Pg.lane n
      let s := (((s.unlockRx n).count p LANE.STEP_DOWNS).lifeAdd p 2).event p 3
      if x.try_ ≤ 1 then s.listens n
      else (s.setLaneState n Ls.switch).onLane n fun y => { y with try_ := x.try_ - 1 }
  else s

/-- LANE_STATE_TIMEOUT (R273): 20 ms in LISTEN and DETECT, 10 ms in SWITCH. -/
def execLaneStateTimeout (n : Nat) (s : State) : Outcome :=
  laneCmd n s fun s =>
    let st := s.laneState n
    whenHolds (st == Ls.listen || st == Ls.detect || st == Ls.switch) s fun s =>
      (s.reach ((s.lane n).since + cyclesMs (if st = Ls.switch then 10 else 20))).windowEnds n

/-- The recovery loop is locked, with the offset it measures, and the PCS is synchronised. -/
def State.lockRx (s : State) (n : Nat) (ppm : BitVec 16) : State :=
  (s.setLocked n ppm).onLane n fun x => { x with estAt := some s.now }

/-- NEGOTIATE begins: with a NEG_OUI the lane sends it and the rates that it offers (R273, R274). -/
def State.negotiates (s : State) (n : Nat) : State :=
  let oui := s.get (Pg.lane n) LANE.NEG_OUI_OUI
  (s.setLaneState n Ls.negotiate).onLane n fun x => { x with
    sent := if oui = 0 then none else some (oui, 2 ^ (x.rateMax + 1) - 1) }

/-- The rate is established. -/
def State.establish (s : State) (n : Nat) (ppm : BitVec 16) : State :=
  let s := s.lockRx n ppm
  let st := s.laneState n
  let rate := (s.lane n).try_
  if st = Ls.listen then s.negotiates n
  else if st = Ls.detect then s.laneUp n rate
  else if st = Ls.switch then s.switchEnded n fun s => s.laneUp n rate
  else s

/-- RATE_ESTABLISHED (R273): the PCS has held synchronisation for 2 ms, so not before 2 ms of the window have passed. On a
lane that is UP, or of the endpoint, synchronisation has returned. -/
def execRateEstablished (n : Nat) (ppm : BitVec 16) (s : State) : Outcome :=
  laneCmd n s fun s =>
    let st := s.laneState n
    if !tracks ppm then s
    else if st == Ls.up || (pcieLane n && st ≠ Ls.test && !s.flag (Pg.lane n) LANE.SLEEP_RX) then s.establish n ppm
    else whenHolds (st == Ls.listen || st == Ls.detect || st == Ls.switch) s fun s =>
      (s.reach ((s.lane n).since + cyclesMs 2)).establish n ppm

/-- The highest rate code that both sides offer. -/
def bestRate (rateMax : Nat) (rates : BitVec 3) : Nat :=
  if 2 ≤ rateMax && rates.getLsbD 2 then 2 else if 1 ≤ rateMax && rates.getLsbD 1 then 1 else 0

/-- NEGOTIATE (R273): the exchange has completed; `ouiMatch` says that the partner sent the OUI of NEG_OUI, with the rates
it offers. The switch comes 10 ms later. -/
def execNegotiate (n : Nat) (ouiMatch : Bool) (rates : BitVec 3) (s : State) : Outcome :=
  laneCmd n s fun s =>
    whenHolds (s.laneState n == Ls.negotiate) s fun s =>
      let best := bestRate (s.lane n).rateMax rates
      if s.get (Pg.lane n) LANE.NEG_OUI_OUI ≠ 0 && ouiMatch && 0 < best then
        (s.setLaneState n Ls.switch 10).onLane n fun x => { x with try_ := best }
      else s.laneUp n 0

/-! ### LOS (R275) -/

/-- What the receiver loses with the signal, its lock or its synchronisation. -/
def State.loseRx (s : State) (n : Nat) (cause : LosCause) : State :=
  match cause with
  | .signal => (s.set (Pg.lane n) LANE.STAT_SIG_DET 0).unlockRx n
  | .lock => s.unlockRx n
  | .sync => s.onLane n fun x => { x with estAt := none }

/-- LOS sets. -/
def State.setLos (s : State) (n : Nat) (cause : LosCause) : State :=
  let p := Pg.lane n
  let s := s.loseRx n cause
  let s := (((s.set p LANE.STAT_LOS 1).count p LANE.LOS_COUNT).lifeAdd p 0).event p 1
  (((s.onLane n fun x => { x with losAt := s.now })).raise Src.laneLos n).laneLink n

/-- The receiver sleeps: its detector alone runs (R279). -/
def State.rxSleeps (s : State) (n : Nat) : Bool := s.laneState n = Ls.sleep || s.flag (Pg.lane n) LANE.SLEEP_RX

/-- LOS (R275): on an enabled lane, outside SLEEP and TEST; while LOS is 1 it is lost once more. A sleeping receiver's
detector reports a signal that vanishes (R279), and so does that of a lane that is off; in TEST the receiver loses what the
line no longer gives it, unless a serial loopback feeds it. -/
def execLos (n : Nat) (cause : LosCause) (s : State) : Outcome :=
  laneCmd n s fun s =>
    if s.rxSleeps n || !s.enabled (Pg.lane n) then
      if cause = .signal then s.set (Pg.lane n) LANE.STAT_SIG_DET 0 else s
    else if s.laneState n = Ls.test then
      if s.get (Pg.lane n) LANE.LB_MODE = 1 then s else s.loseRx n cause
    else if s.laneLos n then s.loseRx n cause
    else s.setLos n cause

/-- LOS_CLEAR (R275): the lane has been established again for CFG.LOS_CLEAR ms, all at one rate: what was established before
the move of SWITCH does not last beyond it. -/
def execLosClear (n : Nat) (s : State) : Outcome :=
  laneCmd n s fun s =>
    match (s.lane n).estAt with
    | none => s
    | some t =>
      let due := t + cyclesMs (s.lane n).losClear
      whenHolds (s.laneLos n && !(s.laneState n = Ls.switch && (s.lane n).since < due)) s fun s =>
        ((s.reach due).dropLos n).laneLink n

/-- AUTO_RESTART (R275): LOS has lasted 50 ms. -/
def execAutoRestart (n : Nat) (s : State) : Outcome :=
  laneCmd n s fun s =>
    whenHolds (!pcieLane n && s.laneLos n && (s.lane n).autoRestart) s fun s =>
      let s := s.reach ((s.lane n).losAt + cyclesMs 50)
      (s.onLane n fun x => { x with losAt := s.now }).restartLane n

/-- CFG.RESTART restarts bring-up, where bring-up is at work. -/
def State.requestRestart (s : State) (n : Nat) : State :=
  let st := s.laneState n
  if pcieLane n || st = Ls.off || st = Ls.sleep || st = Ls.test || !s.enabled (Pg.lane n) then s else s.restartLane n

/-- LANE_RESTART (R273, R275). -/
def execLaneRestart (m : Master) (n : Nat) (s : State) : Outcome :=
  guardWf (n < 10) (.next (s.writeTo m (Pg.lane n) fun s => s.requestRestart n))

/-! ### Tests (R276 to R278) -/

/-- A write of LB: a refused one changes nothing. -/
def State.writeLb (s : State) (n : Nat) (v : Word) : State :=
  let p := Pg.lane n
  if s.testBarred n || (LANE.LB_MODE.of v = 3 && s.flag p LANE.PRBS_CTRL_GEN_EN) then s.event p 7
  else
    let fed := s.laneState n = Ls.test && s.get p LANE.LB_MODE = 1 && LANE.LB_MODE.of v ≠ 1
    let s := if fed then s.unlockRx n else s
    ((s.set p LANE.LB_MODE (LANE.LB_MODE.of v)).set p LANE.LB_TX_ECHO (LANE.LB_TX_ECHO.of v)).updateTest n

/-- LB_MODE_WRITE (R278). -/
def execLbModeWrite (m : Master) (n : Nat) (v : Word) (s : State) : Outcome :=
  guardWf (n < 10) (.next (s.writeTo m (Pg.lane n) fun s => s.writeLb n v))

/-- CLR zeroes both counters at once, and SYNC_LOSS. -/
def State.clearPrbs (s : State) (n : Nat) : State :=
  let p := Pg.lane n
  let s := ((s.set p LANE.PRBS_ERR_ERRORS 0).set p LANE.PRBS_BITS_LO_BITS 0).set p LANE.PRBS_BITS_HI_BITS 0
  let now := s.now
  (s.set p LANE.PRBS_STAT_SYNC_LOSS 0).onLane n fun x => { x with lockAt := now, errSeen := 0 }

/-- A polynomial that the field names: 0 to 4. -/
def State.setPoly (s : State) (p : Nat) (f : Fld) (v : Word) : State := if 4 < f.of v then s else s.set p f (f.of v)

/-- A write of PRBS_CTRL. -/
def State.writePrbs (s : State) (n : Nat) (v : Word) : State :=
  let p := Pg.lane n
  if s.testBarred n || (LANE.PRBS_CTRL_GEN_EN.of v = 1 && s.get p LANE.LB_MODE = 3) then s.event p 7
  else
    let s := if LANE.PRBS_CTRL_CLR.of v = 1 then s.clearPrbs n else s
    let put (s : State) (f : Fld) : State := s.set p f (f.of v)
    let s := put (put (put (put s LANE.PRBS_CTRL_CHK_INV) LANE.PRBS_CTRL_CHK_EN) LANE.PRBS_CTRL_GEN_INV) LANE.PRBS_CTRL_GEN_EN
    let s := (s.setPoly p LANE.PRBS_CTRL_CHK_POLY v).setPoly p LANE.PRBS_CTRL_GEN_POLY v
    let s := if s.flag p LANE.PRBS_CTRL_CHK_EN || !s.flag p LANE.PRBS_STAT_CHK_LOCK then s else s.unlockChecker n
    s.updateTest n

/-- PRBS_CTRL_WRITE (R278). -/
def execPrbsCtrlWrite (m : Master) (n : Nat) (v : Word) (s : State) : Outcome :=
  guardWf (n < 10) (.next (s.writeTo m (Pg.lane n) fun s => s.writePrbs n v))

/-- PRBS_CLR (R277): CLR alone, as a test write. -/
def State.writePrbsClr (s : State) (n : Nat) : State :=
  if s.testBarred n then s.event (Pg.lane n) 7 else s.clearPrbs n

def execPrbsClr (m : Master) (n : Nat) (s : State) : Outcome :=
  guardWf (n < 10) (.next (s.writeTo m (Pg.lane n) fun s => s.writePrbsClr n))

/-- Received bits lock the checker: it seeds itself from the first and finds the 64 after them correct. Near-end looped
bits are the generator's. -/
def State.locksPrbs (s : State) (n : Nat) (rx : List Bool) : Bool :=
  let p := Pg.lane n
  let code := s.get p LANE.PRBS_CTRL_CHK_POLY
  rx.length == (prbsTaps code).1 + 64 && followsPrbs code (s.flag p LANE.PRBS_CTRL_CHK_INV) rx &&
    (!s.nearLoop n || (s.flag p LANE.PRBS_CTRL_GEN_EN &&
      followsPrbs (s.get p LANE.PRBS_CTRL_GEN_POLY) (s.flag p LANE.PRBS_CTRL_GEN_INV) rx))

/-- PRBS_LOCK (R277), with the bits received: where they come over the line, the recovery loop is locked to it (R271). -/
def execPrbsLock (n : Nat) (s : State) (rx : List Bool := []) : Outcome :=
  laneCmd n s fun s =>
    let p := Pg.lane n
    whenHolds (s.laneState n == Ls.test && s.flag p LANE.PRBS_CTRL_CHK_EN && !s.flag p LANE.PRBS_STAT_CHK_LOCK &&
      s.locksPrbs n rx) s fun s =>
      let s := if s.rxLocked n || s.nearLoop n then s else s.findLock n
      ((s.set p LANE.PRBS_STAT_CHK_LOCK 1).onLane n fun x => { x with lockAt := s.now, errSeen := 0 }).event p 5

/-- The checker drops lock after `bits` compared bits with `errors` errors since the lock or the last CLR. -/
def State.loseChecker (s : State) (n bits errors : Nat) : State :=
  let p := Pg.lane n
  let s := (s.addBits n bits).count p LANE.PRBS_ERR_ERRORS (errors - (s.lane n).errSeen)
  ((s.count p LANE.PRBS_STAT_SYNC_LOSS).set p LANE.PRBS_STAT_CHK_LOCK 0).event p 6

/-- Island cycles in which a number of bits pass at a rate. -/
def cyclesOfBits (n rate bits : Nat) : Nat := (20 * bits + lineBits n rate - 1) / lineBits n rate

/-- PRBS_UNLOCK (R277). -/
def execPrbsUnlock (n bits errors : Nat) (s : State) : Outcome :=
  laneCmd n s fun s =>
    let p := Pg.lane n
    whenHolds (s.flag p LANE.PRBS_STAT_CHK_LOCK && 16 ≤ errors && errors ≤ bits && (s.lane n).errSeen ≤ errors) s fun s =>
      (s.reach ((s.lane n).lockAt + cyclesOfBits n (s.get p LANE.STAT_RATE) bits)).loseChecker n bits errors

/-! ### Sleep (R279) -/

/-- A write of SLEEP. -/
def State.writeSleep (s : State) (n : Nat) (v : Word) : State :=
  let p := Pg.lane n
  if pcieLane n then s
  else
    let was := s.flag p LANE.SLEEP_RX
    let s := ((s.set p LANE.SLEEP_WAKE_ON_SIG (LANE.SLEEP_WAKE_ON_SIG.of v)).set p LANE.SLEEP_RX (LANE.SLEEP_RX.of v)).set
      p LANE.SLEEP_TX (LANE.SLEEP_TX.of v)
    let on := s.flag p LANE.SLEEP_RX
    if !s.enabled p then s
    else if on && !was then s.sleepLane n
    else if was && !on then s.wakeLane n
    else s

/-- SLEEP_WRITE (R279). -/
def execSleepWrite (m : Master) (n : Nat) (v : Word) (s : State) : Outcome :=
  guardWf (n < 10) (.next (s.writeTo m (Pg.lane n) fun s => s.writeSleep n v))

/-- WAKE_ON_SIG (R279): the detector of a sleeping receiver finds a signal, which wakes it where WAKE_ON_SIG is 1; a lane that
is off stays off. -/
def execWakeOnSig (n : Nat) (s : State) : Outcome :=
  laneCmd n s fun s =>
    let p := Pg.lane n
    whenHolds (s.rxSleeps n) s fun s =>
      let s := s.set p LANE.STAT_SIG_DET 1
      if !s.flag p LANE.SLEEP_WAKE_ON_SIG then s
      else
        let s := (s.set p LANE.SLEEP_RX 0).event p 8
        if s.laneState n = Ls.sleep then s.wakeLane n else s

end Sys2Proof.Machine
end

