-- ==== Sys2Proof/Machine/Life.lean ====
section
/-!
DEFINITION. The commands of the life unit (chapter 19): records and dumps, the margin re-plan, the seconds and hours of
power-on time.
-/

namespace Sys2Proof.Machine

/-- RECORD_PERIOD (R454): every 10 minutes. -/
def execRecordPeriod (s : State) : Outcome :=
  .next (whenHolds (s.enabled Pg.life && s.fwRunning && !s.flag Pg.life LIFE.REC_STAT_WRITING) s fun s =>
    let s := s.reach (s.life.recAt + cyclesSec 600)
    (s.onLife fun l => { l with recAt := s.now }).startRecord)

/-- A write of 1 to REC_CTRL.NOW: it waits for a write in progress. -/
def State.recNow (s : State) : State :=
  if !s.enabled Pg.life then s
  else if s.flag Pg.life LIFE.REC_STAT_WRITING then s.set Pg.life LIFE.REC_CTRL_NOW 1
  else s.startRecord

/-- REC_NOW (R454). -/
def execRecNow (m : Master) (s : State) : Outcome := .next (s.writeTo m Pg.life State.recNow)

/-- REC_DONE (R454, R455). -/
def execRecDone (ok : Bool) (s : State) : Outcome :=
  .next (whenHolds (s.flag Pg.life LIFE.REC_STAT_WRITING) s fun s =>
    let p := Pg.life
    let s := s.set p LIFE.REC_STAT_WRITING 0
    let s :=
      if ok then
        let s := (s.set p LIFE.REC_STAT_LAST 1).onArea LifeArea.close
        ((s.set p LIFE.REC_SEQ_SEQ s.life.area.lastSeq).lifeAdd p 3).event p 0
      else (((s.onArea LifeArea.cut).set p LIFE.REC_STAT_LAST 2).count p LIFE.REC_FAILS).event p 1
    if s.flag p LIFE.REC_CTRL_NOW then s.startRecord else s)

/-- LIFE_DUMP (R465). -/
def execLifeDump (tag : BitVec 8) (addr limit : Nat) (s : State) : Outcome :=
  .next (s.mailbox Op.lifeDump tag (addrArgs addr ++ [BitVec.ofNat 32 limit]) fun s =>
    let op := Op.lifeDump
    if 2 ^ 48 ≤ addr || limit < 65536 || s.overVault addr 65536 then s.reply op tag St.badArg []
    else if !s.enabled Pg.life then s.reply op tag St.notEnabled []
    else if s.life.dump.isSome then s.reply op tag St.busy []
    else (s.onLife fun l => { l with dump := some addr }).accept op tag Pg.life)

/-- LIFE_DUMP_DONE (R465): the record stands at its destination. -/
def execLifeDumpDone (s : State) : Outcome :=
  .next (match s.life.dump, s.ctrl.long.find? fun l => l.op == BitVec.ofNat 8 Op.lifeDump with
    | some addr, some l =>
      let bs := s.recordBytes
      let s := { s with freeCtr := s.freeCtr + 16384 }
      let s := (s.pokeBytes addr bs true).onLife fun x => { x with dump := none }
      (s.set Pg.life PG.PROGRESS_POSITION 64).finish Op.lifeDump l.tag Pg.life St.ok
    | _, _ => s)

/-- The margin engine acts, or has a request outstanding (R461). -/
def State.avsInUse (s : State) : Bool := s.marginActs || s.fabric.raise.isSome

/-- The re-plan falls due: at the next try of one that waits, at once where the temperature has moved, else every 10 minutes
(R459, R461). -/
def State.replanDue (s : State) : State :=
  if s.life.waited.isSome then s.reach (s.life.waitAt + cyclesSec 1)
  else if s.tempShifted then s
  else
    let s := s.reach (s.life.replanAt + cyclesSec 600)
    s.onLife fun l => { l with replanAt := s.now }

/-- The re-plan waits for the margin engine; after 60 s it is skipped (R461). -/
def State.replanWaits (s : State) : State :=
  let n := s.life.waited.map (· + 1)
  if n = some 60 then
    let s := s.onLife fun x => { x with waited := none }
    (s.count Pg.life LIFE.REPLAN_SKIPS).set Pg.life LIFE.MARGIN_STAT_RESULT Rp.skipped
  else s.onLife fun x => { x with waited := some (n.getD 0), waitAt := s.now }

/-- REPLAN (R459, R461): on its period or temperature trigger, and each second while one waits. -/
def execReplan (s : State) : Outcome :=
  .next (
    if !s.enabled Pg.life || s.fabric.running.isNone then s.onLife fun x => { x with waited := none }
    else
      let s := s.replanDue
      if s.life.replan.isSome then s.onLife fun x => { x with again := true }
      else if s.avsInUse then s.replanWaits
      else s.startReplan)

/-- A re-plan that a trigger asked for during the last one follows it (R461). -/
def State.replanAgain (s : State) : State :=
  if s.life.replan.isNone && s.life.again then
    if s.enabled Pg.life && s.fabric.running.isSome then s.startReplan else s.onLife fun l => { l with again := false }
  else s

/-- REPLAN_STEP_DONE (R460, R461): the next step is decided, unless the margin engine acts; with EN cleared the re-plan
ends here (R466). -/
def execReplanStepDone (s : State) : Outcome :=
  .next (match s.life.replan with
    | some r =>
      if s.avsInUse then s
      else if s.enabled Pg.life then ((s.reach (s.life.settledAt + cyclesMs 20)).showHeadroom.replanNext r).replanAgain
      else (s.onLife fun l => { l with replan := none, again := false }).set Pg.life LIFE.MARGIN_STAT_RUNNING 0
    | none => s)

/-- The bin of the Tj histogram (R452). -/
def tjBin (tj : Int) : Nat := if tj < -35 then 0 else if 115 ≤ tj then 31 else ((tj + 40) / 5).toNat

/-- The bin of the VCORE histogram. -/
def vcoreBin (mv : Nat) : Nat := min ((mv - 620) / 10) 20

/-- POWER_ON_SECOND (R452). -/
def execPowerOnSecond (s : State) : Outcome :=
  .next (
    let p := Pg.life
    let s := (s.reach (s.life.secAt + cyclesSec 1)).lifeAdd p 0
    let s := match s.life.tjSecond with
      | some tj => s.lifeAdd p (0x10 + tjBin tj)
      | none => s
    let s := s.lifeAdd p (0x30 + vcoreBin (s.get Pg.fabric FABRIC.MARGIN_STAT_VCORE_MV))
    let s := s.each (List.range s.loopCount) State.loopSecond
    s.onLife fun l => { l with tjSecond := none, secAt := s.now })

/-- POWER_ON_HOUR (R458, R462): the power-on seconds have come to a further hour. -/
def execPowerOnHour (s : State) : Outcome :=
  .next (whenHolds (s.life.hoursDone < s.powerOnHours) s fun s =>
    let s := s.computeRatios
    let h := s.powerOnHours
    s.onLife fun l => { l with
      hoursDone := h
      fitCommon := l.fitCommon + Config.fitSquare h
      fits := (List.range s.tileCount).foldl
        (fun m t => nput 0 m t (nget 0 m t + Config.fitTerm h (s.get Pg.life LIFE.TILE_RATIO_R t))) l.fits })

end Sys2Proof.Machine
end

