-- ==== Sys2Proof/Machine/Mac.lean ====
section
/-!
DEFINITION. The commands of the Ethernet ports (chapter 11).
-/

namespace Sys2Proof.Machine

/-- A port's command. -/
def macCmd (n : Nat) (s : State) (f : State → State) : Outcome :=
  guardWf (n < 4) (.next (if s.hasMac n then f s else s))

/-! ### Transmission -/

/-- A new producer index, which must not pass CONS (R284). -/
def State.writeProd (s : State) (n : Nat) (v : Word) : State :=
  let p := Pg.mac n
  let q := s.get p MAC.TXQ_SEL_QUEUE
  let c := s.qCount n q
  let new := v.toNat % 2 ^ 12
  if q = 6 then s
  else if c ≤ new || c ≤ s.qWaiting n q + (new + c - s.qProd n q) % c then s.set p MAC.TXQ_STAT_BAD_PROD 1 q
  else (s.set p MAC.TXQ_PROD_PROD new q).schedule n

/-- TXQ_PROD_WRITE (R284). -/
def execTxqProdWrite (m : Master) (n : Nat) (v : Word) (s : State) : Outcome :=
  guardWf (n < 4) (.next (s.writeTo m (Pg.mac n) fun s => s.writeProd n v))

/-- The bytes that went out: of a ONE_STEP frame with its stamp in them (R301). -/
def TxFrame.out (f : TxFrame) (ns : Nat) : List Byte :=
  match f.oneStep with
  | some (ts, csum) => stampFrame f.bytes ts csum ns
  | none => f.bytes

/-- A frame's data reads found uncorrectable words (R201, R287). -/
def TxFrame.struck (f : TxFrame) (ecc : List (Nat × Ecc)) : Bool :=
  (wordsMet f.buf f.len).any fun w => ecc.find? (fun e => e.1 / 4 == w) matches some (_, .double)

/-- The frame on the wire has ended: its completion, and the gap after it (R286 to R288, R302). -/
def State.frameEnd (s : State) (n : Nat) (f : TxFrame) (ecc : List (Nat × Ecc)) (shadowed : Bool) : State :=
  let p := Pg.mac n
  let end_ := f.startAt + (f.bytes.length + 4 - f.sent) * f.byteTime
  let s := s.reach ((end_ + 9) / 10)
  let bad := f.poison || f.struck ecc
  -- Words that were poisoned when the frame was read have counted then.
  let late := ecc.filter fun e => (wordsMet f.buf f.len).contains (e.1 / 4) && !s.girth.poison.contains (e.1 / 4)
  let s := (s.upsets late).each (late.map (·.1 / 4)).eraseDups fun t w => t.checkRange (4 * w) 4
  let (ns, s) := if (f.tsReq || f.oneStep.isSome) && !f.drop then s.txStamp n f.refAt else (0, s)
  let s := s.onMac n fun x => { x with cur := none, wireAt := end_ + 12 * f.byteTime,
                                       lastSent := if f.drop then x.lastSent else f.out ns }
  let s := if f.queue = 8 then s.count p MAC.PAUSE_SENT
    else if f.drop then (s.count p MAC.TX_LINK_DROP).completeTx n f.queue f.idx Tx.linkDown none false 0 shadowed
    else if bad then
      ((s.count p MAC.TX_POISON).event p 12).completeTx n f.queue f.idx Tx.poison none false f.frags shadowed
    else
      let s := s.count p MAC.TX_FRAMES
      let (s, tag) := if f.tsReq then s.offerStamp n f (ns % 2 ^ 32) else (s, none)
      s.completeTx n f.queue f.idx 0 tag (f.tsReq && tag.isNone) f.frags shadowed
  s.schedule n

/-- TX_FRAME_END (R288): `ecc` lists Girth offsets of words of the frame's data that did not read clean, `shadowed` says
that the write of the completion was shadowed. -/
def execTxFrameEnd (n : Nat) (ecc : List (Nat × Ecc)) (shadowed : Bool) (s : State) : Outcome :=
  macCmd n s fun s =>
    match (s.mac n).cur with
    | some f => s.frameEnd n f ecc shadowed
    | none => s

/-- A halted queue runs again; queue 6 takes the write from the control cores only (R284, R287). -/
def State.clearHalt (s : State) (m : Master) (n : Nat) : State :=
  let q := s.get (Pg.mac n) MAC.TXQ_SEL_QUEUE
  if q = 6 && !Master.isCore m then s
  else if s.qHalted n q then (s.set (Pg.mac n) MAC.TXQ_STAT_HALTED 0 q).schedule n else s

/-- HALTED_CLEAR (R287). -/
def execHaltedClear (m : Master) (n : Nat) (s : State) : Outcome :=
  guardWf (n < 4) (.next (s.writeTo m (Pg.mac n) fun s => s.clearHalt m n))

/-- VERIFY_TIMER (R289). -/
def execVerifyTimer (n : Nat) (s : State) : Outcome :=
  macCmd n s fun s =>
    let p := Pg.mac n
    whenHolds (s.get p MAC.PREEMPT_CTRL_VERIFY == 2) s fun s =>
      let x := s.mac n
      let s := s.reach (x.verifyAt + cyclesMs (s.get p MAC.PREEMPT_CTRL_VERIFY_MS))
      if x.verifySent < 3 then s.onMac n fun x => { x with verifySent := x.verifySent + 1, verifyAt := s.now }
      else (s.set p MAC.PREEMPT_CTRL_VERIFY 4).event p 6

/-! ### Reception (R294 to R299) -/

/-- The fragments of a frame arrive in order and none is lost or bad: one frame number throughout, continuation counts 0
to 3 in turn, a good mCRC on every one but the last (R291, Clause 99). -/
def fragsMerge (f : Frame) : Bool :=
  match f.frags with
  | [] => true
  | a :: rest =>
    (rest.zipIdx.all fun e => e.1.frame == a.frame && e.1.count == e.2 % 4) &&
      f.frags.dropLast.all (fun x => x.crcOk && !x.last) && (f.frags.getLast?.map (·.last)).getD true

/-- The IPv4 header checksum and, where it is not zero, the UDP checksum are correct (R296). -/
def csumGood (l : List Byte) (h : Headers) : Bool :=
  let hl := if h.ipv4 then byteAt l h.l3 % 16 * 4 else 40
  let head := !h.ipv4 || inetSum ((l.drop h.l3).take hl) == 0
  match h.udp with
  | none => head
  | some u =>
    let n := be16 l (u + 4)
    let addrs := if h.ipv4 then (l.drop (h.l3 + 12)).take 8 else (l.drop (h.l3 + 8)).take 32
    head && (be16 l (u + 6) == 0 || inetSum (addrs ++ [0, 17] ++ beBytes n 2 ++ (l.drop u).take n) == 0)

/-- Tenths of an island cycle at which the reference bit of a frame that ends now crossed the pins. -/
def State.refAt (s : State) (n : Nat) (f : Frame) : Nat :=
  let one := (f.bytes.length + 4) * s.byteTime n
  10 * s.now - (if f.frags.length ≤ 1 then one else max one f.lag)

/-- A frame goes to a ring (R295 to R297). -/
def State.deliverFrame (s : State) (n r : Nat) (f : Frame) (h : Headers) : State :=
  let p := Pg.mac n
  let count := s.get p MAC.RXR_CFG_COUNT r
  let prod := s.get p MAC.RXR_PROD_PROD r
  let slotBytes := 2048 * s.get p MAC.RXR_CFG_SLOT_KIB r
  let data := s.get p MAC.RXR_DATA_DATA r / 1024 * 1024 + prod * slotBytes
  let desc := s.get p MAC.RXR_BASE_BASE r / 16 * 16 + 16 * prod
  let strip := s.flag p MAC.CFG_VLAN_STRIP && h.tci.isSome
  let bytes := if strip then f.bytes.take 12 ++ f.bytes.drop 16 else f.bytes
  if count = 0 || (prod + 1) % count = s.get p MAC.RXR_CONS_CONS r then
    let s := if r = 0 then s.count p MAC.RX_DROP_FLOW else if r = 1 then s.count p MAC.RX_DROP_FW
      else s.count p MAC.RX_DROP_HOST
    (s.lifeAdd p 1).event p 7
  else if slotBytes < bytes.length then s.count p MAC.RX_LEN_ERR
  else if f.shadowed then ((s.shadowed 1).count p MAC.RX_SHADOWED).event p 8
  else
    let (ns, s) := s.rxStamp n (s.refAt n f)
    let ip := h.ipv4 || h.ipv6
    let w0 := bytes.length + bit strip * 2 ^ 16 + bit (2 ≤ f.frags.length) * 2 ^ 17 + bit h.ipv4 * 2 ^ 18 +
      bit h.ipv6 * 2 ^ 19 + bit h.udp.isSome * 2 ^ 20 + bit (ip && csumGood f.bytes h) * 2 ^ 21
    let w1 := if strip then h.tci.getD 0 else 0
    let words : List Word := [BitVec.ofNat 32 w0, BitVec.ofNat 32 w1, BitVec.ofNat 32 ns,
      BitVec.ofNat 32 (s.get p MAC.CFG_TS_SRC)]
    let frame := s.netWrite (n + 1) data bytes
    let desc := if frame.2 then frame else frame.1.netWrite (n + 1) desc (words.flatMap bytesOf)
    if desc.2 then (desc.1.count p MAC.RX_SHADOWED).event p 8
    else ((desc.1.set p MAC.RXR_PROD_PROD ((prod + 1) % count) r).count p MAC.RX_FRAMES).pauseUpdate n

/-- A MAC control frame: PAUSE to its reserved address or to the port acts; others are discarded (R294). -/
def State.macControl (s : State) (n : Nat) (l : List Byte) : State :=
  let own := s.get (Pg.mac n) MAC.ADDR_HI_ADDR * 2 ^ 32 + s.get (Pg.mac n) MAC.ADDR_LO_ADDR
  if be16 l 14 = 1 && (be48 l 0 = 0x0180C2000001 || be48 l 0 = own) then s.pauseReceived n (be16 l 16) else s

/-- A verify or respond mPacket (R289). -/
def State.mergePacket (s : State) (n : Nat) (k : MPacket) : State :=
  let p := Pg.mac n
  match k with
  | .verify => if s.flag p MAC.PREEMPT_CTRL_EN then s.onMac n fun x => { x with responds := x.responds + 1 } else s
  | .respond =>
    if s.get p MAC.PREEMPT_CTRL_VERIFY = 2 then ((s.set p MAC.PREEMPT_CTRL_VERIFY 3).event p 5).schedule n else s

/-- The address filter passes a frame. -/
def State.addressOk (s : State) (n : Nat) (l : List Byte) : Bool :=
  let p := Pg.mac n
  (byteAt l 0).testBit 0 || s.flag p MAC.CFG_PROMISC ||
    be48 l 0 == s.get p MAC.ADDR_HI_ADDR * 2 ^ 32 + s.get p MAC.ADDR_LO_ADDR

/-- R294, in the order of its table. -/
def State.classify (s : State) (n : Nat) (f : Frame) : State :=
  let p := Pg.mac n
  let l := f.bytes
  let h := headers l
  if !fragsMerge f then (s.count p MAC.MERGE_ERR).event p 13
  else if !f.fcsOk || !f.pcsOk then (s.count p MAC.RX_FCS_ERR).lifeAdd p 0
  else if l.length < 60 || s.get p MAC.CFG_MAX_FRAME < l.length + 4 then s.count p MAC.RX_LEN_ERR
  else
    match f.mpacket with
    | some k => s.mergePacket n k
    | none =>
        let s := if 2 ≤ f.frags.length then s.count p MAC.FRAG_RX else s
        if be16 l 12 = 0x8808 then s.macControl n l
        else if !s.addressOk n l then s.count p MAC.RX_FILTERED
        else if forFirmware h l then s.deliverFrame n 1 f h
        else if (s.flowMatch n h l).isSome then s.deliverFrame n 0 f h
        else s.deliverFrame n 2 f h

/-- The frame was being received at an instant, if one is given: its preamble had begun (R303). -/
def State.wasReceiving (s : State) (n : Nat) (f : Frame) (at_ : Option Nat) : Bool :=
  match at_ with
  | some t => s.refAt n f < 10 * t + 8 * s.byteTime n
  | none => false

/-- RX_FRAME (R294): without a link there is none. A frame that was being received at a KILL is discarded; with the port
disabled a frame is dropped and counted, but for one that was being received when EN was cleared (R303). -/
def execRxFrame (n : Nat) (f : Frame) (s : State) : Outcome :=
  macCmd n s fun s =>
    whenHolds (s.linkUp n) s fun s =>
      if s.wasReceiving n f (s.mac n).killAt then s
      else if s.enabled (Pg.mac n) || s.wasReceiving n f (s.mac n).drainAt then s.classify n f
      else s.count (Pg.mac n) MAC.RX_DISABLED

/-- RXR_CONS_WRITE (R295): ring 0's index is the flow engine's own; an index beyond the ring is ignored. -/
def State.writeCons (s : State) (n : Nat) (v : Word) : State :=
  let p := Pg.mac n
  let r := s.get p MAC.RXR_SEL_RING
  let new := v.toNat % 2 ^ 12
  if r = 0 || r = 3 || s.get p MAC.RXR_CFG_COUNT r ≤ new then s
  else (s.set p MAC.RXR_CONS_CONS new r).pauseUpdate n

def execRxrConsWrite (m : Master) (n : Nat) (v : Word) (s : State) : Outcome :=
  guardWf (n < 4) (.next (s.writeTo m (Pg.mac n) fun s => s.writeCons n v))

/-- PAUSE_REFRESH (R298). -/
def execPauseRefresh (n : Nat) (s : State) : Outcome :=
  macCmd n s fun s =>
    let p := Pg.mac n
    let quanta := s.get p MAC.PAUSE_CFG_QUANTA
    whenHolds (s.flag p MAC.STAT_PAUSING && s.linkUp n && s.someRingAbove n (s.get p MAC.PAUSE_CFG_LOW_PCT)) s fun s =>
      let s := s.reach ((s.mac n).pauseAt + quantaCycles quanta (s.byteTime n) / 2)
      (s.onMac n fun x => { x with pauseDue := some (BitVec.ofNat 16 quanta), pauseAt := s.now }).schedule n

/-- PAUSE_EXPIRY (R299). -/
def execPauseExpiry (n : Nat) (s : State) : Outcome :=
  macCmd n s fun s =>
    whenHolds (s.flag (Pg.mac n) MAC.STAT_PAUSED_RX) s fun s =>
      let s := s.reach (s.mac n).pauseUntil
      (s.set (Pg.mac n) MAC.STAT_PAUSED_RX 0).schedule n

/-- TSQ_POP (R302): the oldest entry, its stamp captured in TSQ_STAMP. -/
def State.popStamp (s : State) (n : Nat) : State × Word :=
  let p := Pg.mac n
  match (s.mac n).tsq with
  | [] =>
    (((s.set p MAC.TSQ_POP_VALID 0).set p MAC.TSQ_POP_TAG 0).set p MAC.TSQ_POP_QUEUE 0, 0)
  | e :: es =>
    let s := (s.onMac n fun x => { x with tsq := es }).set p MAC.TSQ_STAT_COUNT es.length
    let s := s.set p MAC.TSQ_STAMP_STAMP e.stamp.toNat
    let s := ((s.set p MAC.TSQ_POP_VALID 1).set p MAC.TSQ_POP_TAG e.tag.toNat).set p MAC.TSQ_POP_QUEUE e.queue
    (s, BitVec.ofNat 32 (2 ^ 31 + e.tag.toNat * 2 ^ 16 + e.queue))

def execTsqPop (_ : Master) (n : Nat) (s : State) : Outcome :=
  guardWf (n < 4) (.next (s.readFrom (Pg.mac n) fun s => s.popStamp n))

end Sys2Proof.Machine
end

