-- ==== Sys2Proof/Machine/Sap.lean ====
section
/-!
DEFINITION. The commands of the serial audio ports (chapter 15): a frame on the pins, the loss and the return of a clock.
-/

namespace Sys2Proof.Machine

/-- The D2 source hands its clock to DPLL2 (R389). -/
def State.acquireD2 (s : State) (n : Nat) : State :=
  if s.sapD2 n && s.dpllState 2 ≠ Ds.acquire && s.dpllState 2 ≠ Ds.locked then s.setDpll 2 Ds.acquire else s

/-- The edge that aligns slot 0: the buffer holds its centre of zeros, and the fades follow (R386). The measured rate of a
follower is its board's own (free value, log 3). -/
def State.alignFrame (s : State) (n : Nat) : State :=
  let e := if s.sapElastic n then sapCentre else 0
  let ins := List.replicate (s.inSlots n).length (0 : Word)
  let outs := List.replicate (s.outSlots n).length (0 : Word)
  let s := s.onSap n fun x => { x with
    aligning := false, inBuf := List.replicate e ins, outBuf := List.replicate e outs, zeros := e, fadeIn := some 0
    fadeOut := some 0, lossFade := none }
  let s := if s.sapLead n || s.sapState n ≠ Ss.wait then s else s.free.2.set (Pg.sap n) SAP.MEAS_PPM s.free.1
  ((s.acquireD2 n).setSapState n Ss.slip).showFill n

/-- A frame of a follower with the elastic buffer (R384, R386). -/
def State.elasticFrame (s : State) (n : Nat) (slots : List Word) : State :=
  let x := s.sap n
  if x.stopping then
    (s.onSap n fun x => { x with sdo := s.frameOut n (x.outBuf.headD []), outBuf := x.outBuf.drop 1 }).showFill n
  else match x.outBuf with
    | [] => s.slip n SAP.UNDERRUNS
    | out :: rest =>
      if 8 ≤ x.inBuf.length then s.slip n SAP.UNDERRUNS
      else
        let v := s.frameIn n slots
        (s.onSap n fun x => { x with sdo := s.frameOut n out, outBuf := rest, inBuf := x.inBuf ++ [v], last := v }).showFill n


/-- A frame of the D2 source, which D2 follows (R16): beyond the B frames of the period it waits for the tick, up to the 8
frames of the buffer; while DPLL2 has yet to lock, D2's ticks do not follow, and it is not taken. -/
def State.d2Frame (s : State) (n : Nat) (slots : List Word) : State :=
  let s := s.onSap n fun x => { x with edgeAt := s.now }
  if (s.sap n).taken < s.domB (s.sapDom n) then s.lockInstant n (s.frameIn n slots)
  else if s.dpllState 2 = Ds.locked then
    s.onSap n fun x => if x.early.length < 8 then { x with early := x.early ++ [slots] } else x
  else s.onSap n fun x => { x with last := s.frameIn n slots }

/-- SAP_FRAME (R384, R386): a frame-start edge ends a frame of so many BCLK periods, with WS as the format has it, and
these slots. A leader drives its own, one a sample instant: the frame that ends at a sample instant is presented there
(R384), so the one that ends at the tick t(n) is sample 0 of period n (DEDUCED, log 305). -/
def execSapFrame (n bclks : Nat) (wsOk : Bool) (slots : List Word) (s : State) : Outcome :=
  guardWf (n < 16) (.next (
    let st := s.sapState n
    whenHolds (s.present (Pg.sap n) && s.domActive (s.sapDom n) && s.framed n && (st = Ss.wait || st = Ss.run || st = Ss.slip))
      s fun s =>
      let d := s.sapDom n
      let s := s.onSap n fun x => { x with undo := none }
      if s.sapLead n then
        if s.domB d ≤ (s.sap n).taken then s
        else
          let s := (s.slipQuiet n).reach ((s.dom d).tickAt + ((s.sap n).taken * 625000000) / s.domHz d)
          if (s.sap n).aligning then
            ((s.silentIn n).onSap n fun x => { x with taken := x.taken + 1 }).alignFrame n
          else s.lockInstant n (s.frameIn n slots)
      else
        let s := s.catchUp n
        if (s.sap n).aligning then s.alignFrame n
        else if bclks ≠ s.frameBits n || !wsOk then s.slip n SAP.WS_ERRS
        else if s.sapElastic n then s.elasticFrame n slots
        else s.d2Frame n slots))

/-- CLK_LOSS (R388). -/
def execClkLoss (n : Nat) (s : State) : Outcome :=
  guardWf (n < 16) (.next (
    let st := s.sapState n
    whenHolds (s.present (Pg.sap n) && !s.sapLead n && (st = Ss.wait || st = Ss.run || st = Ss.slip)) s fun s =>
      let p := Pg.sap n
      let s := ((s.catchUp n).undoSlip n).fadeLast n
      let s := ((s.realign n).sdoLow n).setSapState n Ss.clkLoss
      let s := ((s.set p SAP.STAT_CLK_LOSS 1).set p SAP.MEAS_PPM 0).showFill n
      let s := ((s.count p SAP.CLK_LOSSES).lifeAdd p 1).event p 1
      let s := s.raise Src.sapLoss n
      if s.sapD2 n && (s.dpllState 2 = Ds.locked || s.dpllState 2 = Ds.acquire) then
        let s := (s.count Pg.rein REIN.HOLD_ENTRIES).lifeAdd Pg.rein 1
        let s := s.noteFreq 2 (meanFreq (s.now - cyclesSec 1) s.now (s.dpll 2).freqs)
        let s := s.onDpll 2 fun x => { x with holdAt := s.now }
        let s := (s.event Pg.rein 6).setDpll 2 Ds.holdover
        s.each ((List.range s.bridgeCount).filter fun b => s.get Pg.mix MIX.BRG_CFG_SRC_DOM b = 2) State.unlockBridge
      else s))

/-- CLK_BACK (R389): 16 frames of the configured length have come, at a rate given in ppm of the nominal. -/
def execClkBack (n : Nat) (ppm : Int) (s : State) : Outcome :=
  guardWf (n < 16) (.next (
    let p := Pg.sap n
    whenHolds (s.present p && s.sapState n = Ss.clkLoss && !s.flag p SAP.STAT_RATE_ERR) s fun s =>
      let s := (s.catchUp n).set p SAP.MEAS_PPM (unsigned 32 (clampSym 32 (ppm * 100)))
      if ppm.natAbs ≤ 1000 then
        let s := (s.set p SAP.STAT_CLK_LOSS 0).lower Src.sapLoss n
        ((s.realign n).setSapState n Ss.slip).acquireD2 n |>.event p 2
      else
        let rate := (s.domHz (s.sapDom n) * (1000000 + ppm)).toNat
        ((s.onSap n fun x => { x with clock := some rate }).set p SAP.STAT_RATE_ERR 1).event p 3))

end Sys2Proof.Machine
end

