-- ==== Sys2Proof/Machine/TickOps.lean ====
section
/-!
DEFINITION. The parts of a block tick: outputs that commit with their fades and replacements (R64 to R70), the blocks
that patch points issue, endpoints and bridges, delivery (R63, R108, R176), monitors (R185 to R188), bus targets (R158 to
R160), and the loops' references (R408, R409).
-/

namespace Sys2Proof.Machine

/-! ### Blocks of samples -/

def sampleOf (l : List Word) (i : Nat) : Word := (l[i]?).getD 0
def zeroBlock (b : Nat) : List Word := List.replicate b 0

/-- A block of exactly b samples. -/
def padBlock (b : Nat) (l : List Word) : List Word := (List.range b).map (sampleOf l)

/-- old × (1 - n / d) + new × n / d, and the new one once n has reached d. -/
def blend (old new : Word) (n d : Nat) : Word :=
  if d ≤ n then new else BitVec.ofInt 32 (exactDiv (old.toInt * ((d - n : Nat) : Int) + new.toInt * (n : Int)) d)

/-- A block of a linear crossfade of `len` samples of which `pos` have been issued. -/
def crossBlock (b : Nat) (old new : List Word) (pos len : Nat) : List Word :=
  (List.range b).map fun i => blend (sampleOf old i) (sampleOf new i) (pos + i + 1) len

/-- A sample k samples into a fade-out of `len` samples that ends in silence. -/
def fadingSample (v : Word) (k len : Nat) : Word := if len ≤ k + 1 then 0 else fraction v (len - 1 - k) len

/-- A fade over another, once each has gone on. -/
def overFade : Option Fade → Option Fade → Option Fade
  | some i, some o => some (.over i o)
  | none, o => o
  | i, none => i

/-- A block through a fade, and the fade that is left. -/
def fadeThrough (f : Fade) (l : List Word) : List Word × Option Fade :=
  match f with
  | .level num den => (l.map fun v => fraction v num den, some (.level num den))
  | .over i o =>
    let a := fadeThrough i l
    let b := fadeThrough o a.1
    (b.1, overFade a.2 b.2)
  | .silent n len => (zeroBlock l.length, some (if n ≤ 1 then .fadeIn 0 len else .silent (n - 1) len))
  | .fadeIn pos len =>
    (crossBlock l.length [] l pos len, if len ≤ pos + l.length then none else some (.fadeIn (pos + l.length) len))
  | .fadeOut lead pos len =>
    (l.zipIdx.map fun e => if e.2 < lead then e.1 else fadingSample e.1 (pos + e.2 - lead) len,
      some (.fadeOut (lead - l.length) (min len (pos + (l.length - lead))) len))


/-- The delivery engine's block for a patch point. -/
def State.deliverBlock (s : State) (q : Nat) (l : List Word) : State := (s.putBlock 0 0 q l).1

/-- The samples of a patch point for the next period, through its fade. -/
def State.putPatch (s : State) (q : Nat) (l : List Word) : State :=
  match SMap.find? s.mix.fades q with
  | none => s.deliverBlock q l
  | some f =>
    let r := fadeThrough f l
    (s.deliverBlock q r.1).onMix fun m => { m with
      fades := match r.2 with
        | some g => nset m.fades q g
        | none => SMap.erase m.fades q }

/-- The samples that a patch point holds. -/
def State.patchBlock (s : State) (q b : Nat) : List Word := padBlock b (s.patchWords q)

/-! ### The passes that end (R66 to R70) -/

/-- A block in place of one that did not commit, `run` blocks into the miss run; p is the last block before it (R67). -/
def replacement (hold : Bool) (run b : Nat) (p : List Word) : List Word :=
  let g (f : Nat → Word) : List Word := (List.range b).map fun i => fraction (f i) (b - 1 - i) b
  if hold then (if run = 0 then padBlock b p else if run = 1 then g (sampleOf p) else zeroBlock b)
  else if run = 0 then g fun _ => sampleOf p (b - 1)
  else zeroBlock b

/-- The re-entry fade (R68). -/
def reentry (l : List Word) : List Word := l.zipIdx.map fun e => fraction e.1 (e.2 + 1) l.length

/-- What the tile's output channels commit at this tick. -/
def State.commitTile (s : State) (t : Nat) : State :=
  let x := s.tile t
  let w := s.win t
  let y := { x with
    prevFailed := if x.pass == PassState.idle then x.prevFailed else x.pass != PassState.done
    pass := .idle, valid := false, rpt := none, drained := [] }
  if x.pass = .done then
    let out := x.drained.map fun e => (e.1, if 0 < x.missRun then reentry e.2 else e.2)
    s.setTile t { y with out := out, lastOut := out, missRun := 0 }
  else if (SMap.find? s.fabric.reloadWait t).isSome then s.setTile t { y with out := [] }
  else
    let hold := s.fabricEnabled && (if x.missRun = 0 then (s.dom (s.tileDomain t)).policy else x.runPolicy)
    -- A disabled fabric mutes an output that a first HOLD block still carries (R92).
    let run := if !s.fabricEnabled && x.runPolicy && x.missRun = 1 then 0 else x.missRun
    let out := (List.range w.nout).map fun j => (j, replacement hold run w.block (nget [] x.lastOut j))
    s.setTile t { y with out := out, missRun := x.missRun + 1, runPolicy := hold }

/-- The pass of a tile ends at the tick; one that still runs is aborted (R66). -/
def State.endPass (s : State) (t : Nat) : State :=
  let s := if (s.tile t).pass = .missedRunning then s.abortPass t .missed else s
  s.commitTile t

/-! ### What the tiles issue -/

/-- Output channels of a tile that stand by for units of other tiles (R84). -/
def State.reservedOuts (s : State) (t : Nat) : List Nat :=
  s.planUnits.flatMap fun e => if e.1 = t then [] else (e.2.dests.filter fun d => d.tile == t).flatMap (·.outs)

/-- The committed block of a tile's channel. -/
def State.outOf (s : State) (t j b : Nat) : List Word := padBlock b (nget [] (s.tile t).out j)

/-- The k-th output of a unit as a tile commits it. -/
def State.unitOut (s : State) (home : Nat) (u : PlanUnit) (k t b : Nat) : List Word :=
  match (unitChannels u home t)[k]? with
  | some j => s.outOf t j b
  | none => zeroBlock b

/-- The k-th output of a unit: from where it runs, with the fade or crossfade of a relocation (R85, R86). In an emergency
relocation the source's passes from the relocation tick on give silence. -/
def State.unitIssue (s : State) (home : Nat) (u : PlanUnit) (k b : Nat) : List Word :=
  match s.unitReloc home u.uid with
  | some r =>
    let src := s.unitOut home u k r.src b
    match r.phase with
    | .fade (i + 1) => crossBlock b src (s.unitOut home u k r.dst b) (i * b) (s.relocLen r)
    | _ => src
  | none => s.unitOut home u k (s.unitHome home u.uid) b

/-- The blocks that a tile's output patch points issue. -/
def State.tileIssues (s : State) (t : Nat) (x : PlanTile) (b : Nat) : List (Nat × List Word) :=
  let reserved := s.reservedOuts t
  x.outputs.zipIdx.filterMap fun e =>
    if e.1 = noSource || reserved.contains e.2 then none
    else some (e.1, match x.units.find? fun u => u.relocatable && u.outs.contains e.2 with
      | some u => s.unitIssue t u (u.outs.findIdx (· == e.2)) b
      | none => s.outOf t e.2 b)

/-- The blocks of the points that a WARM crossfade reaches: each from what it carries already, of an earlier crossfade or of
the old side, to what the tiles that come in issue (R179, R180). -/
def warmBlend (b : Nat) (w : WarmFade) (old new acc : List (Nat × List Word)) : List (Nat × List Word) :=
  (((new ++ old).map (·.1)).eraseDups).foldl (fun a q =>
    let from' := ((SMap.find? a q).orElse fun _ => SMap.find? old q).getD []
    (a.filter fun e => e.1 ≠ q) ++ [(q, crossBlock b from' ((SMap.find? new q).getD []) w.pos w.len)]) acc

/-- A domain's tiles issue; WARM crossfades blend their old sides with the tiles that come in (R179). -/
def State.issueTiles (s : State) (d b : Nat) : State :=
  let mine := s.working.filter fun e => e.2.domain == d
  let fades := s.fabric.warmFades.filter fun w => w.dom == d
  let issues (p : Nat → Bool) : List (Nat × List Word) :=
    (mine.filter fun e => p e.1).flatMap fun e => s.tileIssues e.1 e.2 b
  let plain := issues fun t => !fades.any fun w => w.new.contains t || w.old.contains t
  let mixed := fades.foldl (fun acc w => warmBlend b w (issues w.old.contains) (issues w.new.contains) acc) []
  let s := s.each plain fun s e => s.putPatch e.1 e.2
  let s := s.each (mixed.filter fun e => !plain.any fun x => x.1 == e.1) fun s e => s.putPatch e.1 e.2
  s.onFabric fun f => { f with
    warmFades := f.warmFades.map fun w => if w.dom = d then { w with pos := min w.len (w.pos + b) } else w }

/-- Output patch points that the new plan no longer has fall silent. -/
def State.silenceGone (s : State) (d b : Nat) : State :=
  let qs := (s.fabric.gone.filter fun e => e.1 == d).map (·.2)
  let s := s.each qs fun s q => (s.deliverBlock q (zeroBlock b)).onMix fun m => { m with fades := SMap.erase m.fades q }
  s.onFabric fun f => { f with gone := f.gone.filter fun e => e.1 ≠ d }

/-- Patch points without a tile issue their last blocks, and fall silent after them (R67, R93). -/
def State.issueLast (s : State) (d : Nat) : State :=
  let mine := s.fabric.last.filter fun e => e.1 == d
  let s := s.each mine fun s e => s.deliverBlock e.2.1 (e.2.2.headD [])
  s.onFabric fun f => { f with
    gone := f.gone ++ (mine.filter fun e => e.2.2.length ≤ 1).map fun e => (d, e.2.1)
    last := (f.last.filter fun e => e.1 ≠ d) ++ (mine.filter fun e => 1 < e.2.2.length).map fun e => (d, e.2.1, e.2.2.drop 1) }

/-- A relocation advances by a tick of its domain. -/
def State.advanceReloc (s : State) (r : Reloc) : State :=
  match r.phase with
  | .due => s.beginReloc r
  | .copy => s
  | .shadow n => s.setPhase r.uid (.shadow (n + 1))
  | .fade n => s.setPhase r.uid (.fade (n + 1))

def State.advanceRelocs (s : State) (d : Nat) : State :=
  let live := s.fabric.relocs.map (·.uid)
  let older (r : Reloc) : Reloc := match r.phase with
    | .fade n => if s.tileDomain r.dst = d && !live.contains r.uid then { r with phase := .fade (n + 1) } else r
    | _ => r
  let s := s.each (s.fabric.relocs.filter fun r => s.tileDomain r.dst == d) fun s r => s.advanceReloc r
  s.onFabric fun f => { f with oldRelocs := f.oldRelocs.map older }

/-! ### Endpoints -/

/-- b free samples (log 3). -/
def State.freeBlock (s : State) : Nat → State × List Word
  | 0 => (s, [])
  | b + 1 =>
    let r := s.free.2.freeBlock b
    (r.1, BitVec.ofNat 32 s.free.1 :: r.2)

/-- One sample period in fs. -/
def sampleFs (hz : Nat) : Nat := 10 ^ 15 / hz

/-- Source samples that a bridge keeps (log 301). -/
def bridgeDepth : Nat := 64

/-- Samples of a patch point, stamped with their times in fs from one on. -/
def stamped (from' hz : Nat) (l : List Word) : List (Nat × Word) :=
  l.zipIdx.map fun e => (from' + e.2 * 10 ^ 15 / hz, e.1)

/-- Input channels of the plan's serial ports. -/
def State.sapInputs (s : State) (x : PlanSap) : List Nat :=
  (List.range (s.inSlots x.port).length).map (s.get (Pg.sap x.port) SAP.PATCH_IN_BASE + ·)

/-- Patch points whose samples arrive at their presentation times: of serial ports and bridges (R27). -/
def State.arrivals (s : State) (p : Plan) : List Nat := p.saps.flatMap s.sapInputs ++ p.bridges.map (·.dst)

/-- The bridges of a source domain take their input samples at their output times; those of a serial port or a bridge as
they arrived, in the period that has ended (R27). -/
def State.bridgesTake (s : State) (p : Plan) (d b hz : Nat) : State :=
  s.each (p.bridges.filter fun x => x.srcDom == d) fun s x =>
    let start := s.now * 1600000 - (if (s.arrivals p).contains x.src then b * 10 ^ 15 / hz else 0)
    let l := nget [] s.mix.bridgeIn x.bridge ++ stamped start hz (s.patchBlock x.src b)
    s.onMix fun m => { m with bridgeIn := nset m.bridgeIn x.bridge (l.drop (l.length - bridgeDepth)) }

/-- The source samples that a bridge has by now: those taken, and what a port has received in its present period. -/
def State.bridgeSource (s : State) (x : PlanBridge) : List (Nat × Word) :=
  nget [] s.mix.bridgeIn x.bridge ++
    stamped ((s.dom x.srcDom).tickAt * 1600000) (s.domHz x.srcDom) (nget [] s.mix.filling x.src)

/-- The converted sample i of the block of b whose period ends now: the source is seen two sample periods of the
destination rate late (R27), through samples output by then. -/
def State.bridgeSample (s : State) (x : PlanBridge) (hz b i : Nat) : Word :=
  let at_ : Nat := s.now * 1600000 - (b - i) * 10 ^ 15 / hz
  let seen := (s.bridgeSource x).filter fun e => e.1 ≤ at_
  Config.bridgeSample s.freeCtr (seen.map fun e => ((e.1 : Int) + ((2 * sampleFs hz : Nat) : Int) - (at_ : Int), e.2))

/-- The converted block of the period that has ended (R20). -/
def State.bridgeBlock (s : State) (x : PlanBridge) (hz b : Nat) : State × List Word :=
  (List.range b).foldl (fun r i => (r.1.free.2, r.2 ++ [r.1.bridgeSample x hz b i])) (s, [])

/-- A bridge writes a block of converted samples, silence in HOLD once its fade has ended (R182 to R184). -/
def State.bridgeTick (s : State) (x : PlanBridge) (b : Nat) : State :=
  let st := s.bridgeState x.bridge
  let fade := (SMap.find? s.mix.fades x.dst).isSome
  if st = 0 || (st = Brg.hold && !fade) then s.putPatch x.dst (zeroBlock b)
  else
    let r := s.bridgeBlock x (s.domHz x.dstDom) b
    let s := r.1.putPatch x.dst r.2
    if st = Brg.fadingIn && (SMap.find? s.mix.fades x.dst).isNone then
      (s.set Pg.mix MIX.BRG_STAT_STATE Brg.locked x.bridge).event Pg.mix 8
    else s

/-- Output channels of the plan's serial ports. -/
def State.sapOutputs (s : State) (x : PlanSap) : List Nat :=
  (List.range (s.outSlots x.port).length).map (s.get (Pg.sap x.port) SAP.PATCH_OUT_BASE + ·)

/-! ### Real-time streams of the DRAM mover (R245 to R247) -/

/-- The channel offset of a stream's n-th sample: its blocks follow each other in its range and begin again (log 323). -/
def streamAt (x : PlanStream) (n : Nat) : Nat := x.base + (x.start + 4 * n) % x.bytes

/-- The channel offsets of the block that a stream moves next. -/
def State.streamOffsets (s : State) (i : Nat) (x : PlanStream) (b : Nat) : List Nat :=
  (List.range b).map fun k => streamAt x (nget 0 s.fabric.streams i * b + k)

def State.streamMoved (s : State) (i : Nat) : State :=
  s.onFabric fun f => { f with streams := nput 0 f.streams i (nget 0 f.streams i + 1) }

/-- The 64 B words of a stream's block. -/
def streamWords (x : PlanStream) (offs : List Nat) : List DramWord :=
  ((offs.map (· / 64 * 64)).eraseDups).map fun o =>
    ⟨x.chan, o, (List.range 16).all fun k => offs.contains (o + 4 * k)⟩

/-- The mover's real-time class reaches the words of a stream's block: they are charged as its own, and their rows stay open
(R245, R253, R255). -/
def State.reachStream (s : State) (x : PlanStream) (offs : List Nat) : State × List Bool :=
  s.accessWords (!x.read) false (some 13) [] (streamWords x offs)

/-- A read stream's block: a poisoned word counts, and each of its samples is zero (R240, R247). A disabled channel brings
none, and the samples are free (log 323). -/
def State.readStream (s : State) (i : Nat) (x : PlanStream) (b : Nat) : State × List Word :=
  let offs := s.streamOffsets i x b
  let s := s.streamMoved i
  if s.enabled (Pg.dram x.chan) then
    ((s.reachStream x offs).1, offs.map fun o => if s.poisonedWord x.chan o then 0 else s.dramSample x.chan o)
  else (s.count (Pg.dram x.chan) DRAM.DISABLED_HITS).freeBlock b

/-- A write stream's block goes to DRAM; a partial word is merged, and words written whole lose their poison (R240). -/
def State.writeStream (s : State) (i : Nat) (x : PlanStream) (b : Nat) : State :=
  let offs := s.streamOffsets i x b
  let s := s.streamMoved i
  if s.enabled (Pg.dram x.chan) then
    let l := s.patchBlock x.patch b
    let ws := streamWords x offs
    let s := (s.reachStream x offs).1
    let s := s.ownWrite x.chan (ws.map fun w =>
      (w.off, s.ranksHit x.chan w.off true, (List.range 64).map fun k => s.byte (Mem.dram x.chan (w.off + k))))
    let s := s.each (offs.zip l) fun t e =>
      (bytesOf e.2).zipIdx.foldl (fun u y => u.setByte (Mem.dram x.chan (e.1 + y.2)) y.1) t
    s.wordsWritten ws
  else s.count (Pg.dram x.chan) DRAM.DISABLED_HITS

/-- The write streams of a domain take the blocks that their patch points have just issued. -/
def State.writeStreams (s : State) (p : Plan) (d b : Nat) : State :=
  s.each (p.streams.zipIdx.filter fun e => !e.1.read && e.1.domain == d) fun t e => t.writeStream e.2 e.1 b

/-- What serial ports, replay streams and bridges of a domain collected in the period that has ended. -/
def State.takeInputs (s : State) (p : Plan) (d b : Nat) : State :=
  let sap := (p.saps.filter fun x => s.sapDom x.port == d).flatMap s.sapInputs
  let s := s.each sap fun s q => s.putPatch q (padBlock b (nget [] s.mix.filling q))
  let reads := (p.streams.filter fun x => x.read && x.domain == d).map (·.patch)
  let s := s.each (p.streams.zipIdx.filter fun e => e.1.read && e.1.domain == d) fun s e =>
    match SMap.find? s.mix.filling e.1.patch with
    | some l => (s.streamMoved e.2).putPatch e.1.patch (padBlock b l)
    | none =>
      let r := s.readStream e.2 e.1 b
      r.1.putPatch e.1.patch r.2
  let s := s.onMix fun m => { m with filling := m.filling.filter fun e => !(sap ++ reads).contains e.1 }
  s.each (p.bridges.filter fun x => x.dstDom == d) fun s x => s.bridgeTick x b

/-- Endpoint patch points of a domain that take their samples from the route table: those that no flow, port, bridge,
stream or tile writes. -/
def State.sinks (s : State) (p : Plan) (d : Nat) : List Nat :=
  let ins := p.flowIn ++ p.saps.flatMap s.sapInputs ++ p.bridges.map (·.dst) ++
    (p.streams.filter (·.read)).map (·.patch) ++ s.working.flatMap (·.2.outputs)
  ((p.endpoints.filter fun e => e.2 == d).map (·.1)).filter fun q => !ins.contains q

/-- The block that the route table delivers to a destination, and its crossfade advances (R176). -/
def State.routed (s : State) (dest b : Nat) : State × List Word :=
  let src (s : State) (q : Nat) : State × List Word :=
    if q = noSource then (s, []) else s.readBlock q
  match SMap.find? s.mix.xfades dest with
  | some x =>
    let (s, old) := src s x.old
    let (s, new) := src s x.new
    (s.onMix fun m => { m with xfades := nset m.xfades dest { x with pos := min x.len (x.pos + b) } },
      crossBlock b old new x.pos x.len)
  | none =>
    let (s, l) := src s (s.routeSource dest)
    (s, padBlock b l)

/-- The endpoints that leave the node in this domain. -/
def State.deliverSinks (s : State) (p : Plan) (d b : Nat) : State :=
  s.each (s.sinks p d) fun s q =>
    let r := s.routed q b
    r.1.putPatch q r.2

/-! ### Delivery to the tiles (R108) -/

/-- A block into window channel `ch` of the tile's half. -/
def Tile.fillWindow (x : Tile) (w : Win) (ch : Nat) (l : List Word) : Tile :=
  (padBlock w.block l).zipIdx.foldl (fun y e => y.writeX w (BitVec.ofNat 15 (w.base + ch * w.block + e.2)) e.1) x

/-- The halves exchange roles; the inputs are filled and the output windows zeroed at that moment (DESIGN CHOICE,
log 306). -/
def State.deliverTile (s : State) (t : Nat) (e : PlanTile) : State :=
  let w := s.win t
  let s := s.setTile t { s.tile t with half := !(s.tile t).half }
  let s := s.each e.inputs.zipIdx fun s q =>
    let r := s.routed q.1 w.block
    let s := if q.1 = noSource then r.1 else r.1.deliverBlock q.1 r.2
    s.setTile t ((s.tile t).fillWindow w q.2 r.2)
  s.setTile t ((List.range w.nout).foldl (fun y j => y.fillWindow w (w.nin + j) []) (s.tile t))

/-- STICKY_CLR takes effect before a pass starts, and clears itself (R99). -/
def State.clearSticky (s : State) (t : Nat) : State :=
  let p := Pg.awl t
  let x := s.tile t
  let s := s.setTile t { x with
    aov := x.aov && !s.flag p AWL.STICKY_CLR_AOV, sat := x.sat && !s.flag p AWL.STICKY_CLR_SAT }
  (s.set p AWL.STICKY_CLR_AOV 0).set p AWL.STICKY_CLR_SAT 0

/-- A pass starts (R62), unless the tile waits for its image (R179) or takes no work (R92, R123). A pass that is aborted before
any instruction has retired leaves PC_SNAP at the entry address (DESIGN CHOICE, log 347). -/
def State.startPass (s : State) (t : Nat) (e : PlanTile) (tick : Nat) (first : Bool) : State :=
  match SMap.find? s.fabric.reloadWait t with
  | some (n + 1) => s.onFabric fun f => { f with reloadWait := nset f.reloadWait t n }
  | wait =>
    let first := first || wait.isSome
    let s := s.onFabric fun f => { f with reloadWait := SMap.erase f.reloadWait t }
    if s.fabricEnabled && s.enabled (Pg.awl t) then
      let x := s.tile t
      let s := s.setTile t { x with
        pass := .waiting, valid := false, hu := 0, rpt := none, ldepth := 0, pc := e.entry, lastPc := e.entry,
        tickNo := BitVec.ofNat 32 tick, since := if first then 0 else min (x.since + 1) 0xFFFFFFFF,
        rampLeft := x.rampLeft - 1, idle := s.idleChannels t }
      let s := s.clearSticky t
      let s := if x.shadow then s.onFabric fun f => { f with
          swap := f.swap.map fun w => { w with warm := w.warm.map fun k => if k.1 = t then (t, k.2 + 1) else k } } else s
      match s.esc t with
      | some c => s.setEsc t { c with skip := false }
      | none => s
    else s

/-! ### Slack over ten seconds -/

/-- Lowest of a list of slacks. -/
def leastSlack (l : List Nat) : Nat := l.foldl min 100

/-- A second has ended: WORST_10S of the domain and of its tiles. -/
def State.rollSlack (s : State) (d : Nat) : State :=
  let y := s.dom d
  let secs := (y.secNow :: y.secs).take 10
  let s := s.setDom d { y with secs := secs, secNow := 100 }
  let s := s.set Pg.fabric (FABRIC.DOM_SLACK_WORST_10S d) (leastSlack secs)
  s.each (s.tilesOf d) fun s t =>
    let x := s.tile t
    let secs := (x.slackNow :: x.slackSecs).take 10
    (s.setTile t { x with slackSecs := secs, slackNow := 100 }).set Pg.fabric FABRIC.TILE_SLACK_WORST_10S (leastSlack secs) t

/-! ### Monitors (R185 to R188) -/

/-- floor(√n) for n below 2^64, bit by bit from bit `k - 1` of the root. -/
def isqrtFrom (n : Nat) : Nat → Nat → Nat
  | 0, r => r
  | k + 1, r => isqrtFrom n k (if (r + 2 ^ k) * (r + 2 ^ k) ≤ n then r + 2 ^ k else r)

def isqrt (n : Nat) : Nat := isqrtFrom n 32 0

/-- √n as a whole number: of a root that is none, the one below or above it (log 4). -/
def rootOf (n : Nat) : Nat :=
  let r := isqrt n
  if r * r = n then r else if Config.roundUp n 0 then r + 1 else r

/-- RMS_TC in samples of a rate. -/
def rmsTime (tc hz : Nat) : Nat := (if tc = 0 then 50 else if tc = 1 then 300 else if tc = 2 then 1000 else 3000) * hz / 1000

/-- The weight of a sample, in units of 2^-32: from 1/n - 1/(2n²), which 1 - exp(-1/n) is not below, to 1/n (log 340). -/
def sampleWeight (n : Nat) : Nat :=
  let lo := 2 ^ 32 * (2 * n - 1) / (2 * n * n)
  lo + Config.averageWeight n % (2 ^ 32 / n + 1 - lo + 1)

/-- The exponential average takes in the square of a sample (R186). -/
def averageStep (avg square n : Nat) : Nat :=
  (exactDiv ((avg * (2 ^ 32 - sampleWeight n) + square * sampleWeight n : Nat) : Int) (2 ^ 32)).toNat


/-- Monitor slots that watch a patch point, or did. -/
def State.monitorSlots (s : State) : List Nat :=
  (s.mix.mons.map (·.1) ++ s.regs.filterMap fun e =>
    if e.1.p = Pg.mix && e.1.off = MIX.MON_CFG_SOURCE.off then some e.1.i else none).eraseDups


/-- A slot captures PEAK, HOLD, RMS and TPEAK for the snapshot; PEAK and TPEAK restart. -/
def State.captureSlot (s : State) (k : Nat) : State :=
  let x := s.monitor k
  let a := snapBase (!s.mix.snapBuf) + 16 * k
  let s := s.setBytes a (bytesOf (BitVec.ofNat 32 x.peak) ++ bytesOf (BitVec.ofNat 32 x.hold) ++ bytesOf x.rms ++ bytesOf x.tpeak)
  s.setMonitor k { x with peak := 0, tpeak := 0, captured := true }

/-- A block through a slot's meter (R186). The largest magnitude of the block after oversampling is a free value (log 3),
and TPEAK keeps the largest since the last snapshot. -/
def State.meterBlock (s : State) (k : Nat) (x : Monitor) (l : List Word) (hz : Nat) : State × Monitor :=
  let top := l.foldl (fun m v => max m (magnitude v)) 0
  let peak := max x.peak top
  let hold := min (s.get Pg.mix MIX.MON_CFG_PK_HOLD k) 10 * hz
  let age := x.holdAge + l.length
  let x := if x.hold < peak then { x with hold := peak, holdAge := 0 }
    else if hold ≤ age then { x with hold := peak, holdAge := 0 }
    else { x with holdAge := age }
  let n := rmsTime (s.get Pg.mix MIX.MON_CFG_RMS_TC k) hz
  let avg := l.foldl (fun a v => averageStep a (magnitude v * magnitude v) n) x.avg
  let r := s.freeBlock 1
  let top4 := BitVec.ofNat 32 (max x.tpeak.toNat (sampleOf r.2 0).toNat)
  (r.1, { x with peak := peak, avg := avg, rms := BitVec.ofNat 32 (rootOf avg), tpeak := top4 })

/-- A block through a slot's silence detector: samples at or below the threshold since the last above it. -/
def silenceBlock (x : Monitor) (thresh : Nat) (l : List Word) : Monitor :=
  l.foldl (fun y v => if magnitude v ≤ thresh then { y with below := y.below + 1 } else { y with below := 0, loud := true }) x

/-- A slot's state after a tick; one that leaves SILENT since its detector stops or watches another patch point changes
state too (R188). -/
def State.putMonitor (s : State) (k : Nat) (x : Monitor) : State :=
  let was := (s.monitor k).silent
  let s := s.setMonitor k x
  if was && !x.silent then s.event Pg.mix 6 else s

/-- A slot at a tick of its domain, with the block that its patch point now holds; the state of the detector follows by
SILENCE_ENTER and SILENCE_EXIT. -/
def State.monitorTick (s : State) (k b hz : Nat) : State :=
  let g := Pg.mix
  let src := s.get g MIX.MON_CFG_SOURCE k
  let s := if s.mix.snapBusy && !(s.monitor k).captured then s.captureSlot k else s
  let x := s.monitor k
  let x := if x.source = src then x else { Monitor.reset with source := src, captured := x.captured }
  let l := s.patchBlock src b
  let r := if s.flag g MIX.MON_CFG_MTR_EN k then s.meterBlock k x l hz else (s, x)
  let x := if s.flag g MIX.MON_CFG_SIL_EN k then silenceBlock r.2 (s.get g MIX.MON_THRESH_LEVEL k) l
    else { r.2 with silent := false, below := 0, loud := false }
  r.1.putMonitor k x

/-- Every slot of a domain; one that watches nothing any more is dropped. -/
def State.monitorTicks (s : State) (d b hz : Nat) : State :=
  s.each s.monitorSlots fun s k =>
    let src := s.get Pg.mix MIX.MON_CFG_SOURCE k
    if src = noSource then s.putMonitor k Monitor.reset
    else if s.patchDomain src = some d then s.monitorTick k b hz
    else s

/-! ### Bus targets (R158 to R160) -/

/-- A member entry is active. -/
def State.memberActive (s : State) (floor entry : Nat) : Bool :=
  let g := Pg.mix
  s.flag g MIX.MEMB_GAIN_VALID entry && !(s.monitor (s.get g MIX.MEMB_SIL_SLOT entry)).silent &&
    floor < magnitude (s.activeParam (s.get g MIX.MEMB_GAIN_TILE entry) (s.get g MIX.MEMB_GAIN_PSLOT entry))

/-- s_t for k active members under a LAW (R159). -/
def scaleTarget (law k : Nat) : Nat :=
  let n := max k 1
  if law = 1 then 2 ^ 31 / n else if law = 2 then isqrt (2 ^ 62 / n) else 2 ^ 31

/-- A bus at a tick of its tile's domain. -/
def State.busTick (s : State) (bus hz : Nat) : State :=
  let g := Pg.mix
  let base := s.get g MIX.BUS_MEMB_BASE bus
  let floor := s.get g MIX.BUS_FLOOR_GAIN_FLOOR bus
  let k := (List.range (s.get g MIX.BUS_MEMB_COUNT bus)).countP fun i => s.memberActive floor (base + i)
  let target := scaleTarget (s.get g MIX.BUS_CFG_LAW bus) k
  let s := (s.set g MIX.BUS_STAT_ACTIVE k bus).onMix fun m => { m with
    busLaw := nset m.busLaw bus (s.get g MIX.BUS_CFG_LAW bus) }
  if target = s.busTarget bus then s
  else
    let n := samplesOf 20 hz
    let d := ((target : Int) - s.busScale bus).natAbs
    s.onMix fun m => { m with
      busTarget := nput 0x80000000 m.busTarget bus target, busStep := nput 0 m.busStep bus ((d + n - 1) / n) }

def State.busTicks (s : State) (p : Plan) (d hz : Nat) : State :=
  s.each (p.buses.filter fun b => s.tileDomain b.tile == d) fun s b => s.busTick b.bus hz

/-! ### The loops (R402, R406, R408, R409, R411) -/

/-- The reference gain n / d of a loop at an island cycle: the ramps of a soft start, of a wake without lookahead and of a
stop. -/
def State.loopGain (s : State) (n t : Nat) : Nat × Nat :=
  let l := s.loop n
  let st := s.loopState n
  let run := t - l.startAt
  let look := s.flag (Pg.stirrup n) STIRRUP.CFG_LOOKAHEAD
  if !s.switching n then (0, 1)
  else if l.stopping then (cyclesMs 5 - (t - l.stopAt), cyclesMs 5)
  else if st = Loop.softStart then (min (run - cyclesUs 500) (cyclesUs 19500), cyclesUs 19500)
  else if look then (1, 1)
  else if st = Loop.wake then (0, 1)
  else (min (run - cyclesUs 500) (cyclesMs 1), cyclesMs 1)

/-- The samples of a lookahead of 2.5 ms: 5 ms in the nearest number of samples, halved and rounded down where the rate's
2.5 ms is no whole number (DESIGN CHOICE, log 300). -/
def lookaheadSamples (hz : Nat) : Nat := samplesOf 5 hz / 2

/-- A reference sample through the gain at its output time t + i / fs (R19). -/
def State.loopSample (s : State) (n hz i : Nat) (v : Word) : Word :=
  let gain := s.loopGain n (s.now + i * 625000000 / hz)
  if gain.2 ≤ gain.1 then v else fraction v gain.1 gain.2

/-- A loop at a tick of its domain: its references for the period that starts, sample i for the time t + i / fs (R19), and
the silence that it watches. While the limiter works the references are free values (R399, log 3). -/
def State.loopTick (s : State) (n b hz : Nat) : State :=
  let g := Pg.stirrup n
  let s := s.senseLoop n
  let l := s.loop n
  let odd := s.bridged n && n % 2 = 1
  let q := s.loopInput n
  let look := s.flag (Pg.stirrup (s.governor n)) STIRRUP.CFG_LOOKAHEAD
  let len := if look then lookaheadSamples hz else 0
  let all := List.replicate (len - l.ahead.length) 0 ++ l.ahead.drop (l.ahead.length - len) ++ s.patchBlock q b
  let quiet := s.watchesSilence n && (s.monitor (s.get g STIRRUP.CTRL_SIL_SLOT)).silent
  let refs := (List.range b).map fun i =>
    let v := sampleOf all i
    s.loopSample n hz i (if odd then -v else v)
  let r := if s.flag g STIRRUP.STAT_LIMITING then s.freeBlock b else (s, refs)
  r.1.setLoop n { l with
    ahead := all.drop b
    refs := r.2
    silentAt := if quiet then some (l.silentAt.getD s.now) else none }

def State.loopTicks (s : State) (p : Plan) (d b hz : Nat) : State :=
  s.each (p.loops.filter fun x => x.domain == d) fun s x => s.loopTick x.loop b hz

/-! ### The media count (R356, R357) -/

/-- The count moves on by a block, and by a re-base that was due. -/
def State.advanceMedia (s : State) (d b : Nat) : State :=
  let y := s.dom d
  let n := (((y.media + b : Nat) : Int) + y.shift) % (wrap64 : Int)
  let s := s.setDom d { y with media := n.toNat, shift := 0 }
  if y.shift = 0 then s else s.restartFlows d

/-- g at this tick, and the ticks for which it has differed from 0; MEDIA of FLOW0. -/
def State.compareMedia (s : State) (d b hz : Nat) : State :=
  let y := s.dom d
  let raw := (mediaAt s.nanos0 hz b : Int) - y.media
  let g := if raw.natAbs < wrap64 / 2 then raw else raw + (if raw < 0 then (wrap64 : Int) else -(wrap64 : Int))
  let s := s.setDom d { y with differ := if g = 0 then 0 else y.differ + 1 }
  let s := s.onFlow fun f => { f with lastG := nput 0 f.lastG d g }
  (s.set (Pg.flow 0) FLOW.MEDIA_LO_N y.media d).set (Pg.flow 0) FLOW.MEDIA_HI_N (y.media / 2 ^ 32) d

end Sys2Proof.Machine
end

