-- ==== Sys2Proof/Machine/Tick.lean ====
section
/-!
DEFINITION. BLOCK_TICK: what a block tick of a domain brings about (R58, R62, R64, R169 to R173, R177, R446, R509 to
R512), in its order.
-/

namespace Sys2Proof.Machine

/-! ### Armed commits -/

/-- The tiles of a domain that the staged set names, by its slots and by its routes to tile inputs. -/
def State.sceneTiles (s : State) (d : Nat) : List Nat :=
  let routed := s.mix.stageRoutes.filterMap fun r => (s.inputTile r.1).map (·.tile)
  ((s.mix.stageSlots.map (·.1) ++ routed).eraseDups).filter fun t => s.hasWork t && s.tileDomain t == d

/-- A tile's commit lead λ (R170). -/
def State.tileLead (s : State) (t : Nat) : Nat :=
  match s.workOf t with
  | some x => x.lead
  | none => 0

/-- Ticks before its effect tick at which a commit begins in a domain (R509). -/
def State.commitLead (s : State) (c : Commit) (d : Nat) : Nat :=
  if c.kind = Ck.scene then
    match s.sceneTiles d with
    | [] => 0
    | ts => 1 + ts.foldl (fun m t => max m (s.tileLead t)) 0
  else if c.kind = Ck.swap then 1
  else 0

/-- The domains in which a commit takes effect. -/
def State.commitDomains (s : State) (c : Commit) : List Nat :=
  if c.kind = Ck.scene then
    match (List.range 3).filter s.domActive with
    | [] => [0]
    | l => l
  else if c.kind = Ck.swap then
    match s.swapPlan with
    | some p => s.swapDomains p
    | none => [0]
  else [0]

/-- The end of a scene's ramps in ns of TIME0 (R169), counted from its last effect tick. -/
def State.rampsEndAt (s : State) (ticks : List (Nat × Nat)) : Nat :=
  let effect := ticks.foldl (fun m x => max m (s.tickCycle x.1 ((s.dom x.1).count + x.2))) s.now
  let gain := if s.mix.stageSlots.isEmpty then 0 else s.stageRamp
  let route := if s.mix.stageRoutes.isEmpty then 0 else s.stageRouteMs
  s.nanos0 + (effect - s.now) * 8 / 5 + 1000000 * max gain route

/-- A commit begins in domain d, `left` ticks before the effect tick: its effect ticks are fixed in every domain. -/
def State.beginCommit (s : State) (i : Nat) (c : Commit) (d left : Nat) : State :=
  let lead := s.commitLead c d
  let stale := s.domB d * nsPerSec ≤ (s.nanos0 - c.at_) * s.domHz d
  let ticks := (s.commitDomains c).map fun k =>
    if k = d then (d, max left lead)
    else (k, max (s.effectTick k c.at_ - (s.dom k).count) (1 + s.commitLead c k))
  let c := { c with begun := true, left := ticks, late := c.late || left < lead || stale }
  let rampsEnd := if c.kind = Ck.scene then s.rampsEndAt ticks else s.mix.rampsEnd
  s.onMix fun m => { m with commits := nset m.commits i c, rampsEnd := rampsEnd }

/-- Ticks from this one, tick k of domain d, to the effect tick of a commit. -/
def State.ticksLeft (s : State) (c : Commit) (d k : Nat) : Nat :=
  match SMap.find? c.left d with
  | some n => n
  | none => max k (s.tickAtOrAfter d (s.cycleAt c.at_)) - k

/-- Commits that have begun come a tick nearer; the others begin where this is their tick. -/
def State.countCommits (s : State) (d k : Nat) : State :=
  let nearer (l : SMap Nat Nat) : SMap Nat Nat := l.map fun x => if x.1 = d then (d, x.2 - 1) else x
  let s := s.onMix fun m => { m with commits := m.commits.map fun e => (e.1, { e.2 with left := nearer e.2.left }) }
  s.each s.mix.commits fun s e =>
    let left := s.ticksLeft e.2 d k
    if e.2.begun || !(s.commitDomains e.2).contains d || s.commitLead e.2 d < left then s
    else s.beginCommit e.1 e.2 d left

/-! ### Fades before an effect tick (R179, R409, R446) -/

/-- A fade-out that starts after `lead` samples, of the output as it stands: a fade that runs goes on beneath it (R180). -/
def startFadeOut (old : Option Fade) (lead len : Nat) : Fade :=
  match old with
  | none => .fadeOut lead 0 len
  | some (.fadeOut l p n) => .fadeOut l p n
  | some f => .over f (.fadeOut lead 0 len)

/-- Patch points fade out so that they are silent `ahead` samples from here. -/
def State.fadeBefore (s : State) (qs : List Nat) (ahead len : Nat) : State :=
  s.onMix fun m =>
    let start (f : SMap Nat Fade) (q : Nat) := nset f q (startFadeOut (SMap.find? f q) (ahead - len) (min len ahead))
    { m with fades := qs.foldl start m.fades }

/-- The fade-outs of an armed swap and of an armed handover begin in their domain. -/
def State.fadesBefore (s : State) (d k : Nat) : State :=
  let b := s.domB d
  let n := s.swapSamples (s.domHz d)
  let s := match s.armed Ck.swap, s.fabric.swap, s.swapPlan with
    | some (_, c), some w, some p =>
      let ahead := s.ticksLeft c d k * b
      if w.fading.contains d || w.started.contains d || n + b ≤ ahead || !(s.commitDomains c).contains d then s
      else
        let w' : Swap := { w with fading := w.fading ++ [d] }
        (s.fadeBefore (s.fadingOutputs p d ++ s.lookaheadPatches p d) ahead n).onFabric fun f => { f with swap := some w' }
    | _, _, _ => s
  match s.armed Ck.handover, s.keeper.armed with
  | some (_, c), some h =>
    let ahead := (max k (s.tickAtOrAfter d (s.cycleAt c.at_)) - k) * b
    if h.incoming || h.passed || n + b ≤ ahead then s else s.fadeBefore (s.localOutputs d) ahead n
  | _, _ => s

/-! ### What a commit does at this tick -/

/-- A staged route starts its crossfade (R177). -/
def State.startStaged (s : State) (r : Nat × Nat) : State :=
  let s := s.startRoute r.1 r.2 (s.routeLen r.1 s.stageRouteMs) true
  s.onMix fun m => { m with stageRoutes := m.stageRoutes.filter (· ≠ r) }

/-- The staged routes that start here: those to tile inputs with the tile's lead, those to endpoints on the effect
sample. -/
def State.startsHere (s : State) (d left : Nat) (dest : Nat) : Bool :=
  match s.inputTile dest with
  | some x => x.domain == d && left == 1 + s.tileLead x.tile
  | none =>
    match s.endpointDomain dest with
    | some k => k == d && left == 0
    | none => left == 0

/-- Before delivery. -/
def State.commitBefore (s : State) (c : Commit) (d left : Nat) : State :=
  if c.kind = Ck.scene then s.each (s.mix.stageRoutes.filter fun r => s.startsHere d left r.1) State.startStaged
  else if c.kind = Ck.swap then
    match s.swapPlan with
    | some p =>
      if left = 1 && (s.fabric.swap.any fun w => !w.started.contains d) then s.swapTiles p d
      else if left = 0 then s.swapEffect d
      else s
    | none => s
  else if left ≠ 0 then s
  else if c.kind = Ck.refSwitch then s.applyRefSwitch c
  else if c.kind = Ck.handover then s.handoverEffect
  else s

/-- After the passes have started: a tile's banks exchange with its lead (R170, R173). -/
def State.commitAfter (s : State) (i : Nat) (c : Commit) (d left : Nat) : State :=
  if c.kind ≠ Ck.scene then s
  else
    let ts := (s.sceneTiles d).filter fun t => left == 1 + s.tileLead t && !c.exchanged.contains t &&
      s.mix.stageSlots.any fun e => e.1 == t
    let s := s.each ts fun s t => s.exchangeBank t s.stageRamp
    let done (e : Nat × Commit) : Nat × Commit := if e.1 = i then (i, { e.2 with exchanged := e.2.exchanged ++ ts }) else e
    s.onMix fun m => { m with commits := m.commits.map done }

/-- Every begun commit that concerns the domain, with the ticks left. -/
def State.begunHere (s : State) (d : Nat) : List (Nat × Commit × Nat) :=
  s.mix.commits.filterMap fun e =>
    if e.2.begun && !e.2.applied.contains d then (SMap.find? e.2.left d).map fun n => (e.1, e.2, n) else none

/-- Commits that have taken effect in every domain leave the table. -/
def State.closeCommits (s : State) (d : Nat) : State :=
  let mark (e : Nat × Commit) : Nat × Commit :=
    if e.2.begun && (SMap.find? e.2.left d) == some 0 && !e.2.applied.contains d then
      (e.1, { e.2 with applied := e.2.applied ++ [d] }) else e
  let s := s.onMix fun m => { m with commits := m.commits.map mark }
  s.each (s.mix.commits.filter fun e => e.2.begun && e.2.left.all fun x => e.2.applied.contains x.1) fun s e =>
    let s := s.commitApplied e.1 e.2
    if e.2.kind = Ck.swap then s.endSwap
    else if e.2.kind = Ck.scene && s.get Pg.mix MIX.STAGE_SET_SET = e.2.set && s.mix.held.isEmpty then s.clearStage
    else s

/-! ### The tick -/

/-- The tick falls now: the grid of the domain's ticks moves with it (R16). -/
def State.tickNow (s : State) (d : Nat) : State :=
  let y := s.dom d
  let hz : Int := s.domHz d
  let off : Int := ((s.now - y.epoch : Nat) : Int) * 1600000 * hz - ((y.count + 1) * s.domB d * 10 ^ 15 : Nat)
  s.setDom d { y with phase := -(-off / hz) }

/-- The tick's instant, with the fence before it: by the domain's own grid, and for D2 the frame-start edge that follows
the B frames of the port it is locked to (R16). -/
def State.openTick (s : State) (d : Nat) : State :=
  let s := if (s.dom d).tF = 0 then s else s.runFence d
  match (if d = 2 then s.d2Port else none) with
  | none => s.reach (s.tickCycle d ((s.dom d).count + 1))
  | some n =>
    let x := s.sap n
    (if x.early.isEmpty then s.reach (x.edgeAt + 625000000 / s.domHz d) else s).tickNow d

/-- A tick of D2 is due once the port that it follows has given the period's B frames (R16). -/
def State.tickDue (s : State) (d : Nat) : Bool :=
  match (if d = 2 then s.d2Port else none) with
  | none => true
  | some n => s.domB d ≤ (s.sap n).taken

/-- Samples that the serial ports and flows of a domain take for the period that has ended. -/
def State.takePeriod (s : State) (d : Nat) : State :=
  let s := s.each ((List.range s.sapCount).filter fun n => s.sapUsed n && s.sapDom n == d) State.sapFinish
  if s.domActive d then s.takeFlows d else s

/-- The passes end; the tick is counted, and what applies from a tick applies. -/
def State.countTick (s : State) (d : Nat) : State :=
  let s := s.each (s.tilesOf d) State.endPass
  let f := Pg.fabric
  let y := s.dom d
  let s := s.setDom d { y with
    count := y.count + 1, tickAt := s.now, policy := s.flag f (FABRIC.DOM_CFG_MISS_POLICY d), nextPct := none }
  let s := match y.nextPct with
    | some pct => s.set f (FABRIC.DOM_CFG_FENCE_PCT d) pct
    | none => s
  let s := if s.now / cyclesSec 1 = y.tickAt / cyclesSec 1 then s else s.rollSlack d
  if s.domActive d then
    (s.set f (FABRIC.DOM_TICKS_TICKS d) (s.get f (FABRIC.DOM_TICKS_TICKS d) + 1)).advanceMedia d (s.domB d)
  else s

/-- The shadow passes of a WARM tile are the WARM_BLOCKS that come before tick c - 1 (R179). -/
def State.shadowDue (s : State) (d : Nat) : Bool :=
  match s.armed Ck.swap, s.fabric.swap with
  | some (_, c), some w =>
    let left := s.ticksLeft c d (s.dom d).count
    2 ≤ left && left ≤ w.warmBlocks + 1
  | _, _ => false

/-- Windows are delivered and passes start; the first pass of a plan's tile reads SINCE_COMMIT 0. -/
def State.startPasses (s : State) (d : Nat) (first : List Nat) : State :=
  let tick := s.get Pg.fabric (FABRIC.DOM_TICKS_TICKS d)
  s.each (s.fabric.place.filter fun e => e.2.domain == d && (!(s.tile e.1).shadow || s.shadowDue d)) fun s e => s.startPass e.1 e.2 tick (first.contains e.1)

/-- The fence timer of the new period. -/
def State.armFence (s : State) (d : Nat) : State :=
  let tF := if s.domActive d then s.fenceOf d (s.domHz d) (s.domB d) else 0
  s.setDom d { s.dom d with fenced := false, tF := tF, worst := 100, missed := 0 }

/-- DIRECT route changes of the domain leave the queue (R177). -/
def State.directRoutes (s : State) (d : Nat) : State :=
  s.each s.mix.direct fun s c =>
    match c with
    | .route dest src =>
      if s.patchDomain dest = some d || (s.patchDomain dest).isNone then
        (s.onMix fun m => { m with direct := m.direct.erase c }).startRoute dest src
          (s.routeLen dest (s.get Pg.mix MIX.RAMP_CFG_ROUTE_MS)) false
      else s
    | _ => s

/-- What the tables of the running plan do at a tick. -/
def State.withPlan (s : State) (f : State → Plan → State) : State :=
  match s.fabric.running with
  | some p => f s p
  | none => s

/-- The outgoing partner of a handover goes cold once every flow has changed sender. -/
def State.closeHandover (s : State) : State :=
  match s.keeper.armed with
  | some h => if !h.incoming && h.passed && s.flowsHandedOver h then s.goCold else s
  | none => s

/-- A block tick of domain d. -/
def State.tick (s : State) (d : Nat) : State :=
  let s := s.openTick d
  let s := (s.takePeriod d).countTick d
  let k := (s.dom d).count
  let s := (s.countCommits d k).fadesBefore d k
  let begun := s.begunHere d
  let swapsHere := begun.any fun e => e.2.1.kind == Ck.swap && e.2.2 == 1
  let fresh := if swapsHere then (s.swapPlan.map fun p => p.tiles.map (·.tile)).getD [] else []
  let b := s.domB d
  let s := (((s.issueTiles d b).silenceGone d b).issueLast d).advanceRelocs d
  let s := s.withPlan fun s p => s.takeInputs p d b
  let s := s.each begun fun s e => s.commitBefore e.2.1 d e.2.2
  let b := s.domB d
  let hz := s.domHz d
  let s := s.each (s.fabric.place.filter fun e => e.2.domain == d) fun s e => s.deliverTile e.1 e.2
  let s := s.withPlan fun s p => ((s.deliverSinks p d b).writeStreams p d b).bridgesTake p d b hz
  let s := s.earlyFrames d
  let s := s.landFlows
  let s := if s.domActive d then (s.buildFlows d).ageReleases d else s
  let s := s.startPasses d fresh
  let s := s.each begun fun s e => s.commitAfter e.1 e.2.1 d e.2.2
  let s := ((s.armFence d).directRoutes d).monitorTicks d b hz
  let s := s.withPlan fun s p => (s.busTicks p d hz).loopTicks p d b hz
  let s := if s.domActive d then s.compareMedia d b hz else s
  ((s.pullTick d).closeCommits d).closeHandover

/-- BLOCK_TICK (R58, R62). -/
def execBlockTick (d : Nat) (s : State) : Outcome := guardWf (d < 3) (.next (whenHolds (s.tickDue d) s fun s => s.tick d))

end Sys2Proof.Machine
end

