-- ==== Sys2Proof/Machine/Control.lean ====
section
/-!
DEFINITION. The header registers of every page (R41 to R47): enabling, draining, KILL and SRST of each unit, events and
their vectors (R38, R39), the lock, life counters, and the mailbox's done queue, overrun and reserved opcodes (R50 to
R52).
-/

namespace Sys2Proof.Machine

/-! ### Units behind pages -/

/-- The unit of a page; `fixed` are the pages on which EN = 0, KILL and SRST are ignored (R46, R270). -/
inductive UnitKind where
  | fixed | life | rein | time | girth | fabric | mix
  | mac (n : Nat)
  | lane (n : Nat)
  | dram (n : Nat)
  | awl (n : Nat)
  | flow (n : Nat)
  | sap (n : Nat)
  | stirrup (n : Nat)
  deriving DecidableEq, Repr

def unitOf (p : Nat) : UnitKind :=
  if p = 0x006 then .life else if p = 0x008 then .rein else if p = 0x010 then .time
  else if inRange 0x020 p 0x023 then .mac (p - 0x020) else if inRange 0x028 p 0x02D then .lane (p - 0x028)
  else if inRange 0x040 p 0x041 then .dram (p - 0x040) else if p = 0x048 then .girth
  else if inRange 0x100 p 0x1FF then .awl (p - 0x100) else if p = 0x200 then .fabric else if p = 0x210 then .mix
  else if inRange 0x220 p 0x22F then .flow (p - 0x220) else if inRange 0x230 p 0x23F then .sap (p - 0x230)
  else if inRange 0x240 p 0x24F then .stirrup (p - 0x240) else .fixed

/-- The block fields of a page. -/
def blockFields (p : Nat) : List Fld :=
  if p = 0x000 then HOST.fields else if p = 0x001 then CTRL.fields else if p = 0x002 then HARNESS.fields
  else if p = 0x004 then CINCH.fields else if p = 0x005 then KEEPER.fields
  else match unitOf p with
  | .fixed => if inRange 0x02E p 0x031 then LANE.fields else []
  | .life => LIFE.fields
  | .rein => REIN.fields
  | .time => TIME.fields
  | .girth => GIRTH.fields
  | .fabric => FABRIC.fields
  | .mix => MIX.fields
  | .mac _ => MAC.fields
  | .lane _ => LANE.fields
  | .dram _ => DRAM.fields
  | .awl _ => AWL.fields
  | .flow _ => FLOW.fields
  | .sap _ => SAP.fields
  | .stirrup _ => STIRRUP.fields

/-- A key's field is kept by a soft reset: PG_LOCK and the RWS fields (R45). -/
def keepsRws (k : FKey) : Bool :=
  k.off == PG.LOCK_LOCKED.off ||
  (blockFields k.p).any fun f => f.rws && f.off == k.off && f.lo == k.lo

/-- A key's field is RWL. -/
def lockable (k : FKey) : Bool :=
  (blockFields k.p).any fun f => f.acc == .rwl && f.off == k.off && f.lo == k.lo

/-- What SRST keeps on a page: R45, and what the units' chapters add (R189, R209, R212, R411, R466). -/
def srstKeeps (k : FKey) : Bool :=
  keepsRws k ||
  match unitOf k.p with
  | .life => k.off == LIFE.AREA_BASE.off
  | .girth =>
    k.off == GIRTH.VAULT_STAT_WIPING.off || k.off == GIRTH.VAULT_FAIL_LO_FAILED_MAP.off ||
    k.off == GIRTH.VAULT_FAIL_HI_FAILED_MAP.off || k.off == GIRTH.RET_STAT_RETAINED.off ||
    (k.off == GIRTH.BANK_STAT_FAILED.off && k.lo ≠ GIRTH.BANK_STAT_CE.lo)
  | .stirrup _ => lockable k
  | .mix => k.off == MIX.ROUTE_DATA_SOURCE.off || k.off == MIX.BRG_CFG_SRC.off || k.off == MIX.BRG_STAT_STATE.off
  | _ => false

/-! ### The fabric (R92, R93) -/

/-- Armed commits of a kind that have not begun. -/
def State.unbegun (s : State) (kind : Nat) : List (Nat × Commit) :=
  s.mix.commits.filter fun e => e.2.kind == kind && !e.2.begun

/-- A swap that has not begun is cancelled with result DISABLED. -/
def State.disableSwap (s : State) : State :=
  s.each (s.unbegun Ck.swap) fun t e => (t.dropSwap.commitDropped e.1 e.2 Cr.disabled).swapCancelled

def State.fabricDrained (s : State) : State := s.stopRelocs.disableSwap

/-- A pass stands in the current block: it waits, runs, or has completed and will commit. -/
def PassState.pendingPass (p : PassState) : Bool :=
  match p with
  | .waiting => true
  | .running => true
  | .missedRunning => true
  | .done => true
  | _ => false

def State.fabricIdle (s : State) : Bool :=
  (s.tiles.all fun e => !e.2.pass.pendingPass) && s.fabric.relocs.isEmpty && s.fabric.swap.isNone

/-- KILL of a tile's pass: it never commits (R43, R66). -/
def State.killPass (s : State) (t : Nat) : State :=
  if (s.tile t).pass.pendingPass then
    let s := if (s.tile t).pass = .done then s.setTile t { s.tile t with pass := .missed, drained := [] }
      else s.abortPass t .missed
    s.set Pg.fabric FABRIC.TILE_STAT_MISSED 1 t
  else s

/-- A PLAN_LOAD in progress is aborted; its slot is not loaded. -/
def State.abortLoad (s : State) : State :=
  match s.fabric.loading with
  | some l => (s.onFabric fun f => { f with loading := none }).finish Op.planLoad l.tag Pg.fabric St.aborted
  | none => s

def State.fabricKilled (s : State) : State :=
  ((s.each (s.tiles.map (·.1)) State.killPass).fabricDrained.abortLoad).resetMaster 0

/-- The blocks by which the outputs fall silent once the passes have been aborted: two replacement blocks of R67, with
their domain and patch point. -/
def State.lastBlocks (s : State) : List (Nat × Nat × List (List Word)) :=
  let one := s.each (s.working.map (·.1)) State.commitTile
  let two := one.each (s.working.map (·.1)) State.commitTile
  s.working.flatMap fun e =>
    let d := e.2.domain
    let b := s.domB d
    (one.tileIssues e.1 e.2 b).map fun x => (d, x.1, [x.2, (SMap.find? (two.tileIssues e.1 e.2 b) x.1).getD (zeroBlock b)])

/-- SRST: both slots are empty and no plan runs; the outputs fade under R67, and the supply stays where it is. -/
def State.fabricReset (s old : State) : State :=
  let last := old.lastBlocks
  let s := s.each (s.fabric.place.map (·.1)) State.stopTile
  let s := s.onFabric fun f => { Fabric.reset with coreMv := f.coreMv, last := last }
  let s := s.each (List.range 3) fun t d => t.setDom d { Domain.reset with epoch := t.now }
  s.onMix fun m => { m with commits := m.commits.filter fun e => e.2.kind ≠ Ck.swap, fades := [] }

/-! ### The mix unit (R189) -/

def State.mixDrained (s : State) : State :=
  s.each (s.unbegun Ck.scene) fun t e => t.commitDropped e.1 e.2 Cr.disabled

def State.mixIdle (s : State) : Bool :=
  s.mix.direct.isEmpty && s.mix.staging.isNone && (s.armed Ck.scene).isNone && s.mix.xfades.isEmpty && !s.mix.snapBusy &&
  s.tiles.all fun e => !e.2.mirror && !s.flag (Pg.awl e.1) AWL.PSTAT_RAMP_BUSY

/-- A SCENE_STAGE in progress is aborted; its staging is incomplete. -/
def State.abortStaging (s : State) : State :=
  match s.mix.staging with
  | some st =>
    let s := s.onMix fun m => { m with staging := none }
    (s.set Pg.mix MIX.STAGE_SET_INCOMPLETE 1).finish Op.sceneStage st.tag Pg.mix St.aborted
  | none => s

def State.mixKilled (s : State) : State := ((s.onMix fun m => { m with direct := [] }).mixDrained).abortStaging

/-- SRST: the route stage list is empty, and the tables are the running plan's. A bus scale that it resets to 1.0 returns to an
unchanged target with the step of its last change (R160; DESIGN CHOICE, log 349). -/
def State.mixReset (s : State) : State :=
  match s.fabric.running with
  | some p => s.clearStage.loadMixTables p
  | none => s.clearStage

/-! ### A tile (R99, R123) -/

/-- SRST: the registers read zero, memories stay; the windows and entry are the plan's. -/
def State.awlReset (s : State) (t : Nat) : State :=
  let x := s.tile t
  let s := s.setTile t { x with
    g := [], p := [], m := [], l := [], acc := [], clamp := 0, lc := [], ls := [], le := [], lrsd := [], ret := [], rsd := 0,
    ldepth := 0, fn := false, fz := false, fv := false, fc := false, sat := false, aov := false, pc := 0, rpt := none,
    rampLeft := 0, mirror := false }
  match s.planTile t with
  | some p => s.setWindows p
  | none => s

/-! ### The Girth (R212) -/

/-- KILL stops TEST at once; RESTORE still runs. -/
def State.girthKilled (s : State) : State :=
  let s := match s.girth.bgt with
    | some (page, .test) => s.testPhase page .restore 3
    | some (_, .save) => s.endTest
    | _ => s
  s.abortPorts (· < 32)

/-- SRST: segments in retention wake, since RET_CTRL is cleared. -/
def State.girthReset (s : State) : State :=
  s.each ((List.range 8).filter s.retained) State.wakeSegment

/-- After SRST: a pinned region stays pinned and shows (R205, R212), and GIRTH_ECC follows what is left. -/
def State.girthAfterReset (s : State) : State :=
  (match s.girth.pinned with
  | some page => (s.set Pg.girth GIRTH.BGT_STAT_STATE 2).set Pg.girth GIRTH.BGT_STAT_REGION page
  | none => s).girthEccSource

/-! ### A DRAM channel (R267) -/

def State.dramDrained (s : State) (c : Nat) : State :=
  let s := if (s.dram c).testing.isSome then s.endRankTest c 3 else s
  s.onDram c fun d => { d with migPaused := s.migActive c }

def State.dramIdle (s : State) (c : Nat) : Bool :=
  (s.harness.txns.all fun t => !(t.granted && t.port == Port.dram c) || t.aborted) && !(s.dram c).helper &&
  !(s.dram c).mrBusy && (s.dram c).freqBusy.isNone

/-- A helper operation stops, and its error masks are undefined. -/
def State.stopHelper (s : State) (c : Nat) : State :=
  if (s.dram c).helper then
    let p := Pg.dram c
    let v (i : Nat) : Nat := Config.freeValue (s.freeCtr + i)
    let t := (s.set p DRAM.TRN_ERR0_SC0_DQ (v 0)).set p DRAM.TRN_ERR1_SC0_CB (v 1)
    let t := (t.set p DRAM.TRN_ERR1_SC1_CB (v 2)).set p DRAM.TRN_ERR2_SC1_DQ (v 3)
    let t := { t with freeCtr := t.freeCtr + 4 }
    (t.set p DRAM.TRN_CTRL_GO 0).onDram c fun d => { d with helper := false }
  else s

def State.dramKilled (s : State) (c : Nat) : State :=
  let s := (s.dramDrained c).abortPorts (· == Port.dram c)
  let s := ((s.stopHelper c).set (Pg.dram c) DRAM.MR_CTRL_GO 0).onDram c fun d => { d with mrBusy := false }
  match (s.dram c).training with
  | some (_, tag) =>
    ((s.onDram c fun d => { d with training := none }).finish Op.trainDram tag (Pg.dram c) St.aborted).endWaiting c
  | none => s

/-- Every rank is placed in self-refresh: rows close, and the devices refresh themselves. -/
def State.enterSelfRefresh (s : State) (c : Nat) : State :=
  let s := s.onDram c fun d => { d with selfRefresh := true }
  s.each (List.range 4) fun t r =>
    if t.populated c r then (t.setRank c r { t.rank c r with openRows := [], debtNs := 0 }).showRefresh c r else t

/-- SRST: the shares of the throttle are forgotten; data, ranks and a migration stay. -/
def State.dramReset (s : State) (c : Nat) : State :=
  let s := s.onDram c fun d => { d with charges := [], throttle := [], wcrc := [], storm := [], stormEnd := [] }
  ((s.showThrottles c).lower Src.dramStorm c).enterSelfRefresh c

/-- EN is set: the ranks leave self-refresh, and a paused migration goes on and reports again (R262). -/
def State.dramEnabled (s : State) (c : Nat) : State :=
  let p := Pg.dram c
  let s := s.onDram c fun d => { d with selfRefresh := false, migPaused := false }
  if s.migActive c && !s.flag p DRAM.MIG_STAT_WAITING && !s.flag p PG.PROGRESS_VALID then
    let n := (s.dram c).migPos
    (s.longStart p).longStep p (100 * n / s.rankUnits c) (n / 256)
  else s

/-! ### Every unit -/

/-- EN is 1: the unit takes work. -/
def State.unitEnabled (s : State) (p : Nat) : State :=
  match unitOf p with
  | .time => s.timeEnabled
  | .mac n => s.macEnabled n
  | .lane n => s.laneEnabled n
  | .dram c => s.dramEnabled c
  | .flow n => s.flowEnabled n
  | .stirrup n => s.stirrupEnabled n
  | .rein => s.reselect
  | .fabric => s.serveRelocation.showStage
  | _ => s

/-- EN has been cleared: what becomes of accepted work. -/
def State.unitDrained (s : State) (p : Nat) : State :=
  match unitOf p with
  | .fabric => s.fabricDrained
  | .mix => s.mixDrained
  | .time => s.timeDrained
  | .rein => s.reinDrained
  | .mac n => s.macDrained n
  | .lane n => s.laneDrained n
  | .dram c => s.dramDrained c
  | .flow n => s.flowDrained n
  | .sap n => s.sapDrained n
  | .stirrup n => s.stirrupDrained n
  | _ => s

/-- No accepted work is in flight. -/
def State.unitIdle (s : State) (p : Nat) : Bool :=
  match unitOf p with
  | .fixed => false
  | .life => s.get Pg.life LIFE.REC_STAT_WRITING == 0 && s.life.dump.isNone && s.life.replan.isNone
  | .rein => s.reinIdle
  | .time => true
  | .girth => s.girth.bgt.isNone
  | .fabric => s.fabricIdle
  | .mix => s.mixIdle
  | .mac n => s.macIdle n
  | .lane n => s.laneIdle n
  | .dram c => s.dramIdle c
  | .awl t => !(s.tile t).pass.pendingPass
  | .flow n => s.flowIdle n
  | .sap n => s.sapIdle n
  | .stirrup _ => true

/-- The last accepted work has ended: the state in which the unit rests. -/
def State.unitQuiet (s : State) (p : Nat) : State :=
  match unitOf p with
  | .rein => s.reinHold
  | .mac n => s.onMac n fun x => { x with drainAt := none }
  | .lane n => s.laneOff n
  | .dram c => s.enterSelfRefresh c
  | .sap n => s.sapStopped n
  | .stirrup n => (s.loopFaded n).loopStopped n
  | _ => s

/-- KILL; `live` says that the unit took work until now. -/
def State.unitKilled (s : State) (p : Nat) (live : Bool) : State :=
  match unitOf p with
  | .fabric => s.fabricKilled
  | .mix => s.mixKilled
  | .awl t => s.killPass t
  | .girth => s.girthKilled
  | .dram c => s.dramKilled c
  | .life => s.lifeKilled
  | .time => s.timeDrained
  | .rein => s.reinKilled
  | .mac n => (s.macKilled n live).resetMaster (1 + n)
  | .lane n => s.laneOff n
  | .flow n => s.flowKilled n
  | .sap n => s.sapKilled n
  | .stirrup n => s.loopStopped n
  | .fixed => s

/-- What SRST does beside the page's registers, before they are reset. -/
def State.unitBeforeReset (s : State) (p : Nat) : State :=
  match unitOf p with
  | .flow n => s.flowReset n
  | .girth => s.girthReset
  | .fabric => s.resetMaster 0
  | .mac n => s.resetMaster (1 + n)
  | _ => s

/-- What SRST does beside the page's registers, after they are reset; `old` is the state before. -/
def State.unitReset (s : State) (p : Nat) (old : State) : State :=
  match unitOf p with
  | .fabric => s.fabricReset old
  | .mix => s.mixReset
  | .awl t => s.awlReset t
  | .girth => s.girthAfterReset
  | .dram c => s.dramReset c
  | .life => s.lifeReset
  | .time => s.timeReset.ptpSource
  | .rein => s.reinReset old
  | .mac n => s.macReset n old
  | .lane n => s.laneReset n
  | .sap n => s.sapReset n
  | .stirrup n => s.loopReset n
  | _ => s

/-- The registers return to their reset values, and the unit with them (R45). -/
def State.resetUnit (s : State) (p : Nat) : State :=
  ((s.unitBeforeReset p).resetPage p srstKeeps).unitReset p s

/-! ### EN, KILL and SRST (R42 to R46) -/

/-- QUIESCED sets (R42 to R44): a pending enable applies, and a SRST that has waited resets the unit. -/
def State.quiesce (s : State) (p : Nat) : State :=
  let srst := s.ctrl.resetting.contains p
  let s := s.onCtrl fun c => { c with killing := c.killing.filter (· ≠ p), resetting := c.resetting.filter (· ≠ p) }
  let s := (((s.unitQuiet p).set p PG.STAT_QUIESCED 1).set p PG.CTRL_DRAIN 0).opDone p
  let s :=
    if s.flag p PG.STAT_EN_PENDING then ((s.set p PG.STAT_EN_PENDING 0).set p PG.STAT_QUIESCED 0).unitEnabled p else s
  if srst then s.resetUnit p else s

/-- A write of EN = 1. -/
def State.enableUnit (s : State) (p : Nat) : State :=
  if s.flag p PG.CTRL_DRAIN then (s.set p PG.CTRL_EN 1).set p PG.STAT_EN_PENDING 1
  else if s.flag p PG.CTRL_EN then s
  else ((s.set p PG.CTRL_EN 1).set p PG.STAT_QUIESCED 0).unitEnabled p

/-- A write of EN = 0: a drain starts; during a drain it withdraws a pending enable. -/
def State.drainUnit (s : State) (p : Nat) : State :=
  if s.flag p PG.CTRL_DRAIN then (s.set p PG.CTRL_EN 0).set p PG.STAT_EN_PENDING 0
  else if s.flag p PG.CTRL_EN then ((s.set p PG.CTRL_EN 0).set p PG.CTRL_DRAIN 1).unitDrained p
  else s

/-- KILL: in-flight work is aborted, and the unit quiesces at once unless some of it still has to end. -/
def State.killUnit (s : State) (p : Nat) : State :=
  let live := s.enabled p
  let s := ((s.set p PG.CTRL_EN 0).set p PG.STAT_EN_PENDING 0).unitKilled p live
  if s.unitIdle p then s.quiesce p
  else (s.set p PG.CTRL_DRAIN 1).onCtrl fun c => { c with killing := p :: c.killing.filter (· ≠ p) }

/-- SRST: on a unit that is not quiesced, KILL and then the reset. -/
def State.srstUnit (s : State) (p : Nat) : State :=
  if s.flag p PG.STAT_QUIESCED then s.resetUnit p
  else
    let s := s.killUnit p
    if s.flag p PG.CTRL_DRAIN then s.onCtrl fun c => { c with resetting := p :: c.resetting.filter (· ≠ p) }
    else s.resetUnit p

/-- A page number of BAR0 (R33). -/
def bar0Page (p : Nat) : Bool := p < 0x4000

/-- A write of PG_CTRL; pages whose EN is fixed ignore all but EN = 1, which they read anyway. -/
def State.ctrlWrite (s : State) (m : Master) (p : Nat) (f : State → Nat → State) : State :=
  s.writeTo m p fun s => if unitOf p = .fixed then s else f s p

/-- EN_SET (R44). -/
def execEnSet (m : Master) (p : Nat) (s : State) : Outcome := guardWf (bar0Page p) (.next (s.ctrlWrite m p State.enableUnit))

/-- DRAIN (R42): a write of EN = 0. -/
def execDrain (m : Master) (p : Nat) (s : State) : Outcome := guardWf (bar0Page p) (.next (s.ctrlWrite m p State.drainUnit))

/-- KILL (R43). -/
def execKill (m : Master) (p : Nat) (s : State) : Outcome := guardWf (bar0Page p) (.next (s.ctrlWrite m p State.killUnit))

/-- SRST (R45). -/
def execSrst (m : Master) (p : Nat) (s : State) : Outcome := guardWf (bar0Page p) (.next (s.ctrlWrite m p State.srstUnit))

/-- QUIESCED (R42, R43): the last accepted work of a drain or a KILL ends. -/
def execQuiesced (p : Nat) (s : State) : Outcome :=
  guardWf (bar0Page p)
    (.next (whenHolds (s.present p && s.flag p PG.CTRL_DRAIN && s.unitIdle p) s fun s => s.quiesce p))

/-! ### Events (R39, R41) -/

/-- How many block events a page has: bits above them are reserved (R12). -/
def eventCount (p : Nat) : Nat :=
  if p = 0x000 then 6 else if p = 0x001 then 3 else if p = 0x002 then 5 else if p = 0x004 then 7
  else if p = 0x005 then 10
  else match unitOf p with
  | .fixed => 9
  | .life => 7
  | .rein => 14
  | .time => 7
  | .girth => 12
  | .fabric => 12
  | .mix => 9
  | .mac _ => 14
  | .lane _ => 9
  | .dram _ => 16
  | .awl _ => 5
  | .flow _ => 13
  | .sap _ => 4
  | .stirrup _ => 10

/-- The bits of PG_EVT that exist on a page: OP_DONE and its block events. -/
def eventMask (p : Nat) : Nat := 2 ^ 31 + 2 ^ eventCount p - 1

/-- A write to PG_EVT, or PG_EVT_EN. -/
def State.writeEvents (s : State) (p : Nat) (en : Bool) (v : Word) : State :=
  let s := if en then s.set p PG.EVT_EN (v.toNat &&& eventMask p) else s.set p PG.EVT (clearBits (s.get p PG.EVT) v.toNat)
  s.evtWritten p

/-- PG_EVT_WRITE (R39). -/
def execPgEvtWrite (m : Master) (p : Nat) (en : Bool) (v : Word) (s : State) : Outcome :=
  guardWf (bar0Page p) (.next (s.writeTo m p fun s => s.writeEvents p en v))

/-- PG_EVT_FORCE (R41). -/
def execPgEvtForce (m : Master) (p : Nat) (v : Word) (s : State) : Outcome :=
  guardWf (bar0Page p) (.next (s.writeTo m p fun s => s.events p (v.toNat &&& eventMask p)))

def State.msixOf (s : State) (k : Nat) : Msix := nget Msix.reset s.msix k
def State.setMsix (s : State) (k : Nat) (x : Msix) : State := { s with msix := nput Msix.reset s.msix k x }

/-- The mask bit of a vector is written: unmasked, a pending message follows (R39). -/
def Msix.setMask (x : Msix) (on : Bool) : Msix :=
  if on then { x with masked := true }
  else { x with masked := false, pending := false, sent := if x.pending then x.sent + 1 else x.sent }

/-- A word of a vector's table entry is written: address, data, or the word with the mask bit. -/
def Msix.write (x : Msix) (word : Nat) (v : Word) : Msix :=
  match word with
  | 0 => { x with addrLo := v &&& 0xFFFFFFFC }
  | 1 => { x with addrHi := v }
  | 2 => { x with data := v }
  | _ => x.setMask (v.getLsbD 0)

def Msix.word (x : Msix) (word : Nat) : Word :=
  match word with
  | 0 => x.addrLo
  | 1 => x.addrHi
  | 2 => x.data
  | _ => if x.masked then 1 else 0

/-- 32 pending bits of the vectors from one on. -/
def State.pendingWord (s : State) (first : Nat) : Word :=
  BitVec.ofNat 32 ((List.range 32).foldl (fun n i => n + bit (s.msixOf (first + i)).pending * 2 ^ i) 0)

/-- A word of BAR4: the table of 64 entries of four words, the pending bits from 0x8000, zeros elsewhere (R32). -/
def State.bar4Word (s : State) (off : Nat) : Word :=
  if off < 0x400 then (s.msixOf (off / 16)).word (off / 4 % 4)
  else if off = 0x8000 then s.pendingWord 0
  else if off = 0x8004 then s.pendingWord 32
  else 0

/-- MSIX_UNMASK (R32, R39): the host reads or writes a word of BAR4. A write that clears a vector's mask bit unmasks it;
the pending bits take no write. -/
def execMsixUnmask (off : Nat) (s : State) (write : Bool := true) (v : Word := 0) : Outcome :=
  guardWf (off < 0x10000 && off % 4 = 0) (.next (
    if !write then s.answer (.ok [s.bar4Word off])
    else
      (if off < 0x400 then s.setMsix (off / 16) ((s.msixOf (off / 16)).write (off / 4 % 4) v) else s).answer (.ok [])))

/-! ### The lock (R47) -/

/-- The page's unlock sequence ends. -/
def State.setLock (s : State) (p : Nat) (on : Bool) : State := (s.abandonUnlock p).setFlag p PG.LOCK_LOCKED on

/-- A write to PG_LOCK: 1 locks, the two key words in turn unlock. -/
def State.writeLock (s : State) (p : Nat) (v : Word) : State :=
  let first := s.ctrl.unlockKey.contains p
  if v = 1 then s.setLock p true
  else if v = 0xA5F0 then (s.abandonUnlock p).onCtrl fun c => { c with unlockKey := p :: c.unlockKey }
  else if v = 0x0F5A && first then s.setLock p false
  else s.abandonUnlock p

/-- A write to PG_LOCK reaches it with the sequence as it stands. -/
def State.lockWrite (s : State) (m : Master) (p : Nat) (v : Word) : State :=
  if s.present p then (if s.writeOpen m p then s.writeLock p v else s).answer (.ok [])
  else s.absentHit.answer (.ok [])

/-- PG_LOCK_LOCK (R47). -/
def execPgLockLock (m : Master) (p : Nat) (s : State) : Outcome :=
  guardWf (bar0Page p) (.next (s.lockWrite m p 1))

/-- PG_LOCK_UNLOCK_KEY (R47): any word but the lock word. -/
def execPgLockUnlockKey (m : Master) (p : Nat) (v : Word) (s : State) : Outcome :=
  guardWf (bar0Page p) (.next (s.lockWrite m p v))

/-! ### Life counters (R41, R450) -/

/-- The value of PG_LIFE_DATA, and the state after the read: the low word of a wide counter captures the high word
(R11), AUTOINC advances INDEX. -/
def State.readLife (s : State) (p : Nat) : State × Word :=
  let i := s.get p PG.LIFE_IDX_INDEX
  let wide := lifeWide p i
  let low := s.lifeGet p (i / 2 * 2)
  let v : Word :=
    if !wide then s.lifeWord p i
    else if i % 2 = 0 then BitVec.ofNat 32 low
    else if (s.lifeIndices p).contains i then nget 0 s.ctrl.hiHold (p * 4096 + PG.LIFE_IDX_INDEX.off + 4)
    else 0
  let hold := if wide && i % 2 = 0 then nput 0 s.ctrl.hiHold (p * 4096 + PG.LIFE_IDX_INDEX.off + 4)
      (BitVec.ofNat 32 (low / 2 ^ 32)) else s.ctrl.hiHold
  let s := s.onCtrl fun c => { c with hiHold := hold }
  (if s.flag p PG.LIFE_IDX_AUTOINC then s.set p PG.LIFE_IDX_INDEX (i + 1) else s, v)

/-- PG_LIFE_DATA_READ (R41). -/
def execPgLifeDataRead (_ : Master) (p : Nat) (s : State) : Outcome :=
  guardWf (bar0Page p) (.next (s.readFrom p fun s => s.readLife p))

/-! ### The mailbox's queue and its refusals (R50 to R52) -/

/-- A record of MBX_DONE as its register shows it: OPCODE, TAG, STATUS and VALID. -/
def doneWord (r : DoneRec) : Word :=
  BitVec.ofNat 32 (r.op.toNat * 2 ^ 24 + r.tag.toNat * 2 ^ 16 + r.status.toNat * 2 ^ 8 + 1)

/-- A read of MBX_DONE pops the oldest record; 0 when there is none. -/
def State.popDone (s : State) : State × Word :=
  match s.ctrl.done with
  | [] => (s, 0)
  | r :: l => (s.onCtrl fun c => { c with done := l }, doneWord r)

/-- MBX_DONE_POP (R51). -/
def execMbxDonePop (_ : Master) (s : State) : Outcome := .next (s.readFrom Pg.host State.popDone)

/-- MBX_DONE_RELEASE (R51): a record that firmware has held back enters the queue. -/
def execMbxDoneRelease (s : State) : Outcome :=
  .next (match s.ctrl.held with
    | [] => s
    | r :: l => if s.ctrl.done.length < 8 then (s.onCtrl fun c => { c with held := l }).putDone r else s)

/-- The offsets of MBX_DOORBELL and MBX_REQ. -/
def mailboxOffset (off : Nat) : Bool := off == HOST.MBX_DOORBELL_SUBMIT.off || (inRange 0x400 off 0x4FF && off % 4 == 0)

/-- OVERRUN (R50): a write to MBX_REQ or MBX_DOORBELL while BUSY. -/
def execOverrun (m : Master) (off : Nat) (_ : Word) (s : State) : Outcome :=
  guardWf (mailboxOffset off) (.next (whenHolds (s.flag Pg.host HOST.MBX_STAT_BUSY) s fun s =>
    s.writeTo m Pg.host fun s => s.set Pg.host HOST.MBX_STAT_OVERRUN 1))

/-- The opcodes of R52. -/
def opcodeDefined (op : BitVec 8) : Bool := inRange 0x01 op.toNat 0x0C

/-- BAD_OPCODE (R52): a reserved opcode, in every state. -/
def execBadOpcode (op tag : BitVec 8) (s : State) : Outcome :=
  .next (whenHolds (!opcodeDefined op) s fun s =>
    if s.flag Pg.host HOST.MBX_STAT_BUSY then s.set Pg.host HOST.MBX_STAT_OVERRUN 1
    else (s.submit op.toNat tag []).reply op.toNat tag St.badOpcode [])

end Sys2Proof.Machine
end

