-- ==== Sys2Proof/Machine/Read.lean ====
section
/-!
DEFINITION. Register reads (R7, R10 to R13, R41): identity and capability words, the instance that a select register
shows, fields that follow from other state, and the reads that change something.
-/

namespace Sys2Proof.Machine

/-! ### PG_ID and PG_CAP (R40, R41) -/

/-- The block type code and the instance number of a page. -/
def pageType (p : Nat) : Nat × Nat :=
  match unitOf p with
  | .life => (0x0006, 0)
  | .rein => (0x0008, 0)
  | .time => (0x0010, 0)
  | .mac n => (0x0020, n)
  | .lane n => (0x0028, n)
  | .dram n => (0x0040, n)
  | .girth => (0x0048, 0)
  | .awl n => (0x0100, n)
  | .fabric => (0x0200, 0)
  | .mix => (0x0210, 0)
  | .flow n => (0x0220, n)
  | .sap n => (0x0230, n)
  | .stirrup n => (0x0240, n)
  | .fixed =>
    if p = Pg.host then (0x0001, 0) else if p = Pg.ctrl then (0x0002, 0) else if p = Pg.harness then (0x0003, 0)
    else if p = Pg.cinch then (0x0004, 0) else if p = Pg.keeper then (0x0005, 0) else (0x0028, p - 0x028)

/-- The page reports long operations, has life counters, has RWL fields. -/
def capBits (p : Nat) : Bool × Bool × Bool :=
  match unitOf p with
  | .life => (true, true, true)
  | .rein => (false, true, true)
  | .time => (false, true, false)
  | .mac _ => (false, true, true)
  | .lane _ => (false, true, false)
  | .dram _ => (true, true, true)
  | .girth => (true, true, true)
  | .awl _ => (false, false, false)
  | .fabric => (true, false, true)
  | .mix => (true, false, true)
  | .flow _ => (false, true, false)
  | .sap _ => (false, true, false)
  | .stirrup _ => (false, true, true)
  | .fixed =>
    if p = Pg.host then (false, false, false) else if p = Pg.ctrl then (true, false, false)
    else if p = Pg.harness then (false, false, true) else if p = Pg.cinch then (false, true, true)
    else if p = Pg.keeper then (true, true, true) else (false, true, false)

/-- BLOCK_CAP of a page, field by field as the chapters list it. -/
def State.blockCap (s : State) (p : Nat) : Nat :=
  let ca := s.part = .ca
  match unitOf p with
  | .life => 0x15 * 2 ^ 16 + 0x20 * 2 ^ 8 + 0x10
  | .rein => 3 * 2 ^ 12 + 4 * 2 ^ 8 + 4 * 2 ^ 4 + 8
  | .time => 2
  | .mac _ => 8 * 2 ^ 8 + 3 * 2 ^ 6 + 2 ^ 5 + 2 ^ 4
  | .lane n => (if n < 4 then 0 else 1) * 2 ^ 8 + 7
  | .dram _ => 4 * 2 ^ 8 + 2 * 2 ^ 4 + 4
  | .girth => 2 ^ 16 + s.bankCount * 2 ^ 8 + 8
  | .awl _ => 4 * 2 ^ 8 + 0x40
  | .fabric => 2 ^ 11 + 3 * 2 ^ 9 + s.tileCount
  | .mix => bit (!ca) * 2 ^ 27 + s.bridgeCount * 2 ^ 16 + (if ca then 16 else 32) * 2 ^ 10 + (if ca then 16 else 32) * 2 ^ 4 +
      (if ca then 4 else 8)
  | .flow n => bit (n == 0) * 2 ^ 16 + 0x20 * 2 ^ 8 + 0x20
  | .sap n => bit (n == 0) * 2 ^ 8 + 0x20
  | .stirrup _ => 2 ^ 9 + 2 ^ 8 + 0x20
  | .fixed =>
    if p = Pg.host then 0 else if p = Pg.ctrl then 4 else if p = Pg.harness then 8 * 2 ^ 12 + 0xD * 2 ^ 4 + 0xD
    else if p = Pg.cinch then 0x1F * 2 ^ 8 + 0x2A else if p = Pg.keeper then bit s.pairing else 2 * 2 ^ 8

def pageId (p : Nat) : Nat := (pageType p).1 * 2 ^ 16 + (pageType p).2 * 2 ^ 8 + Config.layout.toNat

def State.pageCap (s : State) (p : Nat) : Nat :=
  let c := capBits p
  2 ^ 31 + bit c.1 * 2 ^ 30 + bit c.2.1 * 2 ^ 29 + bit c.2.2 * 2 ^ 28 + s.blockCap p

/-! ### Stored fields and the instances that a select register shows -/

/-- The fields of a register. -/
def fieldsAt (p off : Nat) : List Fld := (PG.fields ++ blockFields p).filter fun f => f.off == off

/-- A register's word from its stored fields, each at an instance. -/
def State.fieldWord (s : State) (p off : Nat) (inst : Fld → Nat) : Nat :=
  (fieldsAt p off).foldl (fun n f => if f.acc = .wo then n else n ||| (s.get p f (inst f)) <<< f.lo) 0

/-- The instance of a field that its select register names. -/
def State.instOf (s : State) (p : Nat) (f : Fld) : Nat :=
  if f.sel = 0 then 0 else s.fieldWord p f.sel (fun _ => 0) &&& f.mask

/-- Entries of the member table (R158). -/
def State.memberCount (s : State) : Nat := if s.part = .ca then 32768 else 65536

/-- The running plan declares a bus. -/
def State.busDeclared (s : State) (b : Nat) : Bool :=
  match s.fabric.running with
  | some p => p.buses.any fun x => x.bus == b
  | none => false

/-- The registers at an offset show an instance that exists: others read zero and ignore writes. -/
def State.shown (s : State) (p off : Nat) : Bool :=
  match unitOf p with
  | .fabric => !inRange 0x084 off 0x09C || s.get p FABRIC.TILE_SEL_TILE < s.tileCount
  | .life => !inRange 0x06C off 0x070 || s.get p LIFE.TILE_SEL_TILE < s.tileCount
  | .mix =>
    if inRange 0x084 off 0x094 then s.busDeclared (s.get p MIX.BUS_SEL_BUS)
    else if inRange 0x09C off 0x0A0 then s.get p MIX.MEMB_SEL_ENTRY < s.memberCount
    else if inRange 0x0A8 off 0x0B0 then s.get p MIX.MON_SEL_SLOT < s.monitorCount
    else if off = 0x0C4 then s.get p MIX.ROUTE_SEL_DEST < s.patchCount
    else if inRange 0x0D4 off 0x0D8 then s.get p MIX.BRG_SEL_BRIDGE < s.bridgeCount
    else true
  | .girth => off ≠ 0x078 || s.get p GIRTH.BANK_SEL_BANK < s.bankCount
  | .dram _ =>
    if off = 0x070 then s.get p DRAM.TSET_SEL_PARAM ≤ 13
    else if off = 0x098 then s.get p DRAM.DLY_SEL_KIND ≤ 4
    else true
  | .mac _ => !inRange 0x064 off 0x074 || s.get p MAC.RXR_SEL_RING ≠ 3
  | .flow n =>
    if inRange 0x0C0 off 0x0DC && n ≠ 0 then false
    else !inRange 0x0D4 off 0x0D8 || s.get p FLOW.DOM_SEL_DOMAIN < 2
  | .sap n => off ≠ 0x058 || n = 0
  | .stirrup _ => !inRange 0x070 off 0x074 || s.get p STIRRUP.LOAD_SEL_BAND < 10
  | .fixed =>
    if p = Pg.cinch then !inRange 0x044 off 0x064 || Src.all.contains (s.get p CINCH.SRC_SEL_SOURCE)
    else if p = Pg.harness then
      off ≠ 0x054 || (s.get p HARNESS.MQOS_SEL_MASTER ≤ 12 && !(s.part = .ca && inRange 3 (s.get p HARNESS.MQOS_SEL_MASTER) 4))
    else true
  | _ => true

/-! ### Fields that follow from other state -/

/-- A long operation that reports on the page runs (R49). -/
def State.longOn (s : State) (p : Nat) : Bool :=
  match unitOf p with
  | .fabric => s.longRuns Op.planLoad
  | .mix => s.longRuns Op.sceneStage
  | .dram c => (s.dram c).training.isSome || (s.dram c).testing.isSome || s.migActive c
  | .life => s.longRuns Op.lifeDump
  | .fixed => p == Pg.keeper && s.longRuns Op.ckptNow
  | _ => false

/-- PG_STAT.BUSY. -/
def State.pageBusy (s : State) (p : Nat) : Bool :=
  if s.longOn p then true
  else if p = Pg.host then s.flag p HOST.MBX_STAT_BUSY
  else if p = Pg.ctrl then !s.ctrl.long.isEmpty
  else if p = Pg.harness then !s.harness.txns.isEmpty
  else if unitOf p = .fixed then false
  else !s.unitIdle p

def State.fabricLive (s : State) (off : Nat) : Nat :=
  let t := s.get Pg.fabric FABRIC.TILE_SEL_TILE
  if off = 0x084 then
    bit ((s.unitsOn t).any fun u => u.2.relocatable) * 2 ^ 16 + (s.unitsOn t).length % 256 * 2 ^ 8 + s.cfgDomain t
  else if off = 0x08C then s.tileAdmit t
  else if off = 0x0CC then
    (List.range s.tileCount).foldl (fun n k => n ||| s.get Pg.fabric FABRIC.TILE_STAT_SHED_MASK k) 0
  else 0

def State.commitShown (s : State) : Option Commit := SMap.find? s.mix.commits (s.get Pg.mix MIX.COMMIT_SEL_ENTRY)

/-- A slot's detector reads SILENT; one that is off does not. -/
def State.silent (s : State) (k : Nat) : Bool := s.flag Pg.mix MIX.MON_CFG_SIL_EN k && (s.monitor k).silent

/-- The live registers of the MIX page. STAGE_STAT gives the whole count of staged routes, also above the 1,023 that its field
[9:0] holds (DESIGN CHOICE, log 348). -/
def State.mixLive (s : State) (off : Nat) : Nat :=
  if off = 0x04C then s.mix.direct.length
  else if off = 0x070 then bit (!s.mix.held.isEmpty) * (2 ^ 9 + 2 ^ 8)
  else if off = 0x06C then s.mix.stageRoutes.length
  else if off = 0x0B0 then
    let base := s.get Pg.mix MIX.MON_SEL_SLOT / 32 * 32
    (List.range 32).foldl (fun n i => n + bit (s.silent (base + i)) * 2 ^ i) 0
  else if off = 0x0B8 then snapBase s.mix.snapBuf % 2 ^ 32
  else if off = 0x0BC then snapBase s.mix.snapBuf / 2 ^ 32 % 2 ^ 16
  else if off = 0x0C4 then
    let d := s.get Pg.mix MIX.ROUTE_SEL_DEST
    bit (SMap.find? s.mix.xfades d).isSome * 2 ^ 31 + bit (SMap.find? s.mix.waits d).isSome * 2 ^ 30
  else
    match s.commitShown with
    | none => 0
    | some c =>
      if off = 0x054 then 2 ^ 31 + c.set % 256 * 2 ^ 8 + c.kind % 256
      else if off = 0x058 then c.sec % 2 ^ 32
      else if off = 0x05C then c.sec / 2 ^ 32 % 2 ^ 16
      else if off = 0x060 then c.ns
      else 0

/-- The seconds captured for a requester (R308). -/
def State.heldSec (s : State) (m : Master) (n : Nat) : Nat :=
  match s.time.holds.find? fun h => h.1 = m && h.2.1 = n with
  | some h => h.2.2
  | none => 0

def State.timeLive (s : State) (m : Master) (off : Nat) : Nat :=
  let n := if off < 0x080 then 0 else 1
  let o := off - 64 * n
  if o = 0x044 then s.heldSec m n % 2 ^ 32
  else if o = 0x048 then s.heldSec m n / 2 ^ 32
  else if o = 0x04C then (s.counter n).linear
  else if o = 0x068 then unsigned 32 ((s.counter n).slew.tdiv (2 ^ 32))
  else 0

/-- A source's bit in the summaries LIVE, LATCH, REACT and PEND. -/
def State.cinchBit (s : State) (group src : Nat) : Bool :=
  Src.all.contains src && (match group with
    | 0 => s.live src
    | 1 => s.flag Pg.cinch CINCH.SRC_STAT_LATCHED src
    | 2 => s.rstate src != Rstate.idle && 2 ≤ s.reactLevel src
    | _ => (s.cinchSrc src).pend)

def State.cinchLive (s : State) (off : Nat) : Nat :=
  let src := s.get Pg.cinch CINCH.SRC_SEL_SOURCE
  if off = 0x048 then bit (s.live src)
  else if off = 0x064 then s.quietLeft src
  else if off = 0x0C4 then bit s.safe
  else if off = 0x0C8 then (List.range 32).foldl (fun n g => n + bit (0 < g && s.groupMuted g) * 2 ^ g) 0
  else if inRange 0x080 off 0x0BF then
    (List.range 32).foldl (fun n k => n + bit (s.cinchBit ((off - 0x080) / 16) (off % 16 / 4 * 32 + k)) * 2 ^ k) 0
  else 0

/-- CKPT_AGE. -/
def State.ckptAge (s : State) : Nat :=
  if s.get Pg.keeper KEEPER.CKPT_EPOCH_EPOCH = 0 then 0xFFFF else min 0xFFFF ((s.now - s.keeper.ckptAt) / cyclesMs 1)

/-- The word captured for a _HI register (R11). -/
def State.hiWord (s : State) (p off : Nat) : Nat := (nget 0 s.ctrl.hiHold (p * 4096 + off)).toNat

/-- LANE.STAT of a lane in SWITCH that has moved: the rate being tried, and no lock until the loop has one at that rate (R271,
R273). -/
def State.laneLive (s : State) (n stored : Nat) : Nat :=
  let x := s.lane n
  if s.laneState n = Ls.switch && x.since ≤ s.now then
    let now := stored - stored / 2 ^ 4 % 4 * 2 ^ 4 + x.try_ % 4 * 2 ^ 4
    if s.rxLocked n then now else now % 2 ^ 16 - now / 2 ^ 8 % 2 * 2 ^ 8
  else stored

/-- What other state adds to the stored fields of a register, and the two registers that it replaces. -/
def State.liveWord (s : State) (m : Master) (p off : Nat) (stored : Nat) : Nat :=
  match unitOf p with
  | .fabric => stored ||| s.fabricLive off
  | .mix => stored ||| s.mixLive off
  | .awl t =>
    if off = 0x04C then stored ||| bit (s.mix.direct.any fun d => match d with
      | .param k _ _ => k == t
      | .gain k _ _ _ => k == t
      | .route _ _ => false) * 4
    else stored
  | .time => if inRange 0x040 off 0x0BF then stored ||| s.timeLive m off else stored
  | .life =>
    if off = 0x040 then s.life.cycle.toNat else if off = 0x054 then s.powerOnHours % 2 ^ 32 else stored
  | .rein =>
    if off = 0x050 then s.holdTimer % 2 ^ 32
    else if off = 0x054 then unsigned 32 (s.outFreq 0)
    else if off = 0x068 && s.refKind (s.get p REIN.REF_SEL_SLOT) = 5 then
      stored / 2 ^ 16 * 2 ^ 16 + s.ptpClass * 2 ^ 8 + s.refQl (s.get p REIN.REF_SEL_SLOT)
    else if off = 0x06C then stored ||| s.qualLeft (s.get p REIN.REF_SEL_SLOT)
    else if inRange 0x0A0 off 0x0DF && off % 16 = 8 then stored ||| bit (s.fpSource ((off - 0x0A0) / 16)) * 2 ^ 30
    else stored
  | .lane n =>
    if off = 0x064 then s.hiWord p off
    else if off = 0x044 then s.laneLive n stored
    else stored
  | .flow n =>
    if off = 0x050 then
      let k := s.get p FLOW.CTX_SEL_CTX
      stored ||| bit (s.flag p FLOW.CTX_CFG_VALID k && !s.linkUp (s.get p FLOW.CTX_CFG_PORT k))
    else if off = 0x0D8 && n = 0 then s.hiWord p off
    else stored
  | .fixed =>
    if p = Pg.cinch then stored ||| s.cinchLive off
    else if p = Pg.keeper then (if off = 0x05C then s.ckptAge else stored)
    else if p = Pg.ctrl then
      if off = 0x044 then
        stored ||| (if s.flag p CTRL.WDOG_STAT_ARMED then (cyclesMs 100 - (s.now - s.ctrl.wdogAt)) / 6250 else 0)
      else if off = 0x04C then stored ||| Config.fusedMin.toNat * 2 ^ 16
      else stored
    else if p = Pg.host then
      if off = 0x040 then s.variant.toNat
      else if off = 0x064 then stored ||| s.ctrl.done.length * 2 ^ 8
      else if inRange 0x400 off 0x4FF then (nget 0 s.ctrl.req ((off - 0x400) / 4)).toNat
      else if inRange 0x500 off 0x5FF then (nget 0 s.ctrl.resp ((off - 0x500) / 4)).toNat
      else stored
    else if inRange 0x02E p 0x031 && off = 0x064 then s.hiWord p off
    else stored
  | _ => stored

/-- The word of a register of a present page, for a read without a side effect. -/
def State.peekReg (s : State) (m : Master) (p off : Nat) : Word :=
  BitVec.ofNat 32 (
    if off = 0x000 then pageId p
    else if off = 0x004 then s.pageCap p
    else if off = 0x008 then
      s.fieldWord p off (s.instOf p) + bit (s.ctrl.killing.contains p) * 4 + bit (s.ctrl.resetting.contains p) * 8
    else if off = 0x00C then s.fieldWord p off (s.instOf p) + bit (s.pageBusy p) * 2
    else if s.shown p off then s.liveWord m p off (s.fieldWord p off (s.instOf p))
    else 0)

/-! ### Reads that change something -/

/-- The upper half of a counter is captured for the next read of its _HI register (R11). -/
def State.holdHi (s : State) (p off : Nat) (v : Nat) : State :=
  s.onCtrl fun c => { c with hiHold := nput 0 c.hiHold (p * 4096 + off) (BitVec.ofNat 32 v) }

/-- AVOID_DATA: the shadow copy, with AUTOINC (R400). -/
def State.advanceAvoid (s : State) (p : Nat) : State :=
  if s.flag p STIRRUP.AVOID_IDX_AUTOINC then s.set p STIRRUP.AVOID_IDX_IDX (s.get p STIRRUP.AVOID_IDX_IDX + 1) else s


/-- A read of a register of a present page. -/
def State.readPage (s : State) (m : Master) (p off : Nat) : State × Word :=
  let plain := (s, s.peekReg m p off)
  if off = 0x024 then s.readLife p
  else match unitOf p with
  | .mac n => if off = 0x0A4 then s.popStamp n else plain
  | .time => if off = 0x040 then s.readNs m 0 else if off = 0x080 then s.readNs m 1 else plain
  | .awl t => if off = 0x084 then (s.dbgAdvance t, s.dbgRead t (s.dbgAddr t)) else plain
  | .stirrup n =>
    if off = 0x060 then (s.advanceAvoid p, s.peekReg m p off)
    else if off = 0x054 then (s.senseLoop n, (s.senseLoop n).peekReg m p off)
    else if off = 0x058 then ((s.senseLoop n).set p STIRRUP.MEAS_I_PEAK 0, (s.senseLoop n).peekReg m p off)
    else plain
  | .lane n =>
    if off = 0x060 then
      let b := s.prbsLive n
      (s.holdHi p 0x064 (b / 2 ^ 32), BitVec.ofNat 32 b)
    else if off = 0x05C then (let t := s.prbsErrors n; (t, t.peekReg m p off))
    else plain
  | .flow n =>
    if off = 0x050 || off = 0x060 || off = 0x064 then
      let k := s.get p FLOW.CTX_SEL_CTX
      let s := s.ageCtx (n * 32 + k % 32 + k / 32 * 512)
      (s, s.peekReg m p off)
    else if off = 0x0D4 && n = 0 && s.get p FLOW.DOM_SEL_DOMAIN < 2 then
      (s.holdHi p 0x0D8 (s.get p FLOW.MEDIA_HI_N (s.get p FLOW.DOM_SEL_DOMAIN)), s.peekReg m p off)
    else plain
  | .mix =>
    let b := s.get p MIX.BRG_SEL_BRIDGE
    if off = 0x0D8 && s.bridgeState b ≠ 0 && b < s.bridgeCount then
      let (v, s) := s.free
      let s := s.set p MIX.BRG_STAT_RATIO_ERR v b
      (s, s.peekReg m p off)
    else plain

  | .fixed =>
    if p = Pg.host && off = 0x068 then s.popDone
    else if inRange 0x02E p 0x031 && off = 0x060 then
      let b := s.prbsLive (p - 0x028)
      (s.holdHi p 0x064 (b / 2 ^ 32), BitVec.ofNat 32 b)
    else if inRange 0x02E p 0x031 && off = 0x05C then
      (let t := s.prbsErrors (p - 0x028); (t, t.peekReg m p off))
    else plain
  | _ => plain

/-- What POSITION of a page reaches at the end of the long command that runs there (R49): KiB, or parameter slots; the KiB
of a checkpoint are not known beforehand. -/
def State.longTotal (s : State) (p : Nat) : Option Nat :=
  match unitOf p with
  | .fabric => s.fabric.loading.map fun l => l.len / 1024
  | .mix => s.mix.staging.map fun st => st.recs.length
  | .life => s.life.dump.map fun _ => 64
  | .fixed =>
    if p = Pg.keeper && s.longRuns Op.ckptNow then some (2 ^ 24 - 1)
    else if p = Pg.ctrl && s.longRuns Op.fwUpdate then some (s.ctrl.fwLen / 1024)
    else none
  | _ => none

/-- A running long command has come some way: how far, the spec leaves open, and the value is free (R49, log 317). -/
def State.longProgress (s : State) (p : Nat) : State :=
  match s.longTotal p with
  | some total =>
    let pos := s.get p PG.PROGRESS_POSITION
    let (v, s) := s.free
    let new := pos + v % (total - pos + 1)
    s.longStep p (100 * new / max total 1) new
  | none => s

/-- PG_PROGRESS shows how far the page's operation has come. -/
def State.showProgress (s : State) (p : Nat) : State := if p = Pg.girth then s.wipeProgress else s.longProgress p

/-- A register that follows what runs is brought up to date before it is read. -/
def State.showFor (s : State) (p off : Nat) : State :=
  if off = PG.PROGRESS_POSITION.off then s.showProgress p
  else match unitOf p with
    | .dram c => if off = DRAM.RANK_OP_STAT_PERCENT.off then s.testProgress c else s
    | .lane n => if off = LANE.STAT_STATE.off then s.seekLock n else s
    | .fixed => if inRange 0x02E p 0x031 && off = LANE.STAT_STATE.off then s.seekLock (p - 0x028) else s
    | _ => s

/-- A read at a BAR0 offset; zeros on an absent or reserved page (R6). -/
def State.readReg (s : State) (m : Master) (off : Nat) : State × Word :=
  if s.present (off / 4096) then
    (s.showFor (off / 4096) (off % 4096)).readPage m (off / 4096) (off % 4096)
  else (s.absentHit, 0)

/-- A read of AWL.DBG_DATA that has to wait for the end of the pass (R124). -/
def State.readWaits (s : State) (off : Nat) : Bool :=
  match unitOf (off / 4096) with
  | .awl t => s.present (off / 4096) && off % 4096 = 0x084 && !s.betweenPasses t
  | _ => false

end Sys2Proof.Machine
end

