-- ==== Sys2Proof/Machine/Startup.lean ====
section
/-!
DEFINITION. Resets and boot (R28 to R31, R53 to R55, R468 to R482): power-on reset and RESET_N, image verification, the
bring-up stages, the watchdog and the restart of the control cores, the firmware-initiated soft reset, firmware updates,
and the PCIe link.
-/

namespace Sys2Proof.Machine

/-! ### Image verification (R29, R53, R54) -/

def otherSlot : Slot → Slot
  | .a => .b
  | .b => .a

/-- A slot as BOOT_STAT shows it: 0 for A, 1 for B. -/
def slotCode : Slot → Nat
  | .a => 0
  | .b => 1

def slotOf (n : Nat) : Slot := if n = 0 then .a else .b

/-- What verification makes of an image: it must fit into control SRAM, and its security version must not lie below the
fused minimum (R29, R54). -/
def judged (v : SlotVerdict) : SlotVerdict :=
  match v with
  | .ok i =>
    if Mem.sramSize < i.bytes.length then .length
    else if i.secver.toNat < Config.fusedMin.toNat then .secver
    else .ok i
  | v => v

/-- What verification finds in a slot. -/
def verdictOf (b : BootView) (x : Slot) : SlotVerdict :=
  judged (match x with
    | .a => b.slotA
    | .b => b.slotB)

/-- The failure codes of R54. -/
def failCode : SlotVerdict → Nat
  | .ok _ => 0
  | .header => 2
  | .length => 3
  | .signature => 4
  | .secver => 5

def State.slotFailed (s : State) : Slot → Bool
  | .a => s.ctrl.failedA
  | .b => s.ctrl.failedB

def Ctrl.setFailed (c : Ctrl) (x : Slot) (on : Bool) : Ctrl :=
  match x with
  | .a => { c with failedA := on }
  | .b => { c with failedB := on }

def State.setFw (s : State) (st : Nat) : State := s.set Pg.host HOST.BOOT_STAT_FW_STATE st

/-- A boot failure and its slot. -/
def State.bootFail (s : State) (code : Nat) (x : Slot) : State :=
  (s.set Pg.host HOST.BOOT_STAT_FAIL_CODE code).set Pg.host HOST.BOOT_STAT_FAIL_SLOT (slotCode x)

/-- RECOVERY: no core runs an image, the watchdog is not armed (R55), and the mailbox command that waits is answered. Audio
units that a restart has left running run on, for R31 lets them; nothing enables any (DESIGN CHOICE, log 302). -/
def State.recovery (s : State) : State :=
  let s := (s.setFw Fw.recovery).onCtrl fun c => { c with restarting := false }
  let s := (s.set Pg.ctrl CTRL.WDOG_STAT_ARMED 0).set Pg.ctrl CTRL.CORE_STAT_RUNNING 0
  let s := { s with cinch := { s.cinch with resetPending := false } }
  match s.ctrl.short with
  | some l => s.reply l.op.toNat l.tag (if opcodeDefined l.op then St.fwRecovery else St.badOpcode) []
  | none => s

/-- The slice counts of the image header, which stand until the next reset (R30, R233). -/
def State.applySlices (s : State) (i : ImgInfo) : State :=
  if s.ctrl.sliced then s
  else
    let s := s.onCtrl fun c => { c with sliced := true }
    (s.set Pg.harness HARNESS.SLICE_M_SLICES i.sliceM.toNat).set Pg.harness HARNESS.SLICE_T_SLICES i.sliceT.toNat

/-- The boot ROM copies the image into control SRAM, from its first byte on: REMAP has it at address 0 (R30). -/
def State.copyImage (s : State) (i : ImgInfo) : State := s.setBytes Mem.sram i.bytes

/-- The boot ROM starts a verified image (R30, R55, R453). -/
def State.startImage (s : State) (x : Slot) (i : ImgInfo) : State :=
  let s := (s.copyImage i).onCtrl fun c => { c with img := i, wdogAt := s.now }
  let s := (s.setFw Fw.verify).set Pg.host HOST.BOOT_STAT_SLOT (slotCode x)
  let s := s.applySlices i
  let s := s.set Pg.harness HARNESS.REMAP_REMAP 1
  let s := (s.set Pg.life LIFE.AREA_BASE i.lifeBase.toNat).set Pg.life LIFE.AREA_SIZE i.lifeSize.toNat
  (s.set Pg.ctrl CTRL.WDOG_STAT_ARMED 1).set Pg.ctrl CTRL.CORE_STAT_RUNNING 0xF

/-- One slot is tried; `next` follows when it does not verify. A slot marked failed is not tried. An updated image that
does not verify is reported by what it fails (R54), and is not marked failed with 0x06 (DESIGN CHOICE, log 303). -/
def State.trySlot (s : State) (b : BootView) (x : Slot) (next : State → State) : State :=
  if s.slotFailed x then next s
  else match verdictOf b x with
    | .ok i => s.startImage x i
    | v => next (s.bootFail (failCode v) x)

/-- The boot ROM verifies a slot, then the other (R29); an image that has passed goes on to run its own start-up code
until BRINGUP_STAGE_END or RESTARTED reports FW_STATE RUN. -/
def State.bootFrom (s : State) (b : BootView) (x : Slot) : State :=
  if b.flashOk then s.trySlot b x fun s => s.trySlot b (otherSlot x) State.recovery
  else (s.set Pg.host HOST.BOOT_STAT_FAIL_CODE 1).recovery

/-- A boot after a reset: an updated slot is tried first (R52, R53). -/
def State.boot (s : State) (b : BootView) : State :=
  match s.ctrl.updated with
  | some u => (s.onCtrl fun c => { c with trial := some u, bootAt := s.now }).bootFrom b u
  | none => s.bootFrom b s.ctrl.active

/-- The PTP instances start again from PTP_CFGn in LISTENING, which shows what a master announced last (R321). -/
def State.restartPtp (s : State) : State :=
  (s.each [0, 1] fun s n =>
    if (s.profile n).toNat % 16 = 0 then s
    else
      let p := s.ptp n
      ((s.setPtp n { p with master := none, good := 0, bad := 0 }).showMaster n p.cls p.utc).setServo n
        Servo.listening).ptpSource.ptpSeen

/-- FW_STATE reaches RUN: the image's versions show, and an updated image is the active one from now on. -/
def State.reachRun (s : State) : State :=
  let i := s.ctrl.img
  let s := s.setFw Fw.run
  let s := (s.set Pg.ctrl CTRL.FW_ID_MAJOR i.major.toNat).set Pg.ctrl CTRL.FW_ID_MINOR i.minor.toNat
  let s := (s.set Pg.ctrl CTRL.FW_ID_BUILD i.build.toNat).set Pg.ctrl CTRL.FW_SECVER_IMAGE i.secver.toNat
  let x := slotOf (s.get Pg.host HOST.BOOT_STAT_SLOT)
  let s := s.onCtrl fun c => { c with
    active := if c.trial = some x then x else c.active
    updated := if c.trial.isSome then none else c.updated
    trial := none, restarting := false }
  s.restartPtp

/-! ### Power-on reset and RESET_N (R469 to R472) -/

/-- The boot ROM's wipe of the vault (R208): granules that do not read back zero stay denied (R209). It sets neither
WIPE_START nor OP_DONE and counts in no life counter (DESIGN CHOICE, log 304). -/
def State.bootWipe (s : State) (kept failed : BitVec 64) : State :=
  let s := s.setVaultFailed (kept ||| failed)
  let s := if failed = 0 then s else s.event Pg.girth 7
  if kept ||| failed = 0 then s else s.raise Src.wipeFail 0

/-- The boot that BOOT_MODE selects (R471). -/
def State.modeBoot (s : State) (b : BootView) : State :=
  let mode := s.ctrl.bootMode
  if mode = 1 || mode = 3 then (s.set Pg.host HOST.BOOT_STAT_FAIL_CODE 7).recovery
  else if mode = 2 && s.life.cycle = 0 then s.setFw Fw.mfgTest
  else s.boot b

/-- The level of DDRc_RESET_N of every channel: low while RESET_N is low (R495). -/
def State.ddrResetN (s : State) : Bool := s.ctrl.resetN

/-- RESET_N is high: the Cinch, TIME0 and the Rein run, the boot ROM wipes the vault and boots. -/
def State.release (s : State) (kept : BitVec 64) (b : BootView) : State :=
  let s := (s.cold true).bootWipe kept b.wipeFail
  -- TAMPER stays active while its pin is low (R430).
  let s := if s.girth.tamperN then s else s.raise Src.tamper 0
  -- So do the sources of the feeds and of the power warning (R413, R434).
  let s := s.each ([false, true].filter fun x => s.flag Pg.keeper (feedLost x)) fun s x => s.raise (feedSrc x) 0
  let s := if s.keeper.warnHigh then s else s.raise Src.powerWarn 0
  (s.raise Src.linkDown 0).modeBoot b

/-- POWER_ON_RESET (R307): with the mode sampled at the release that ends it. -/
def execPowerOnReset (b : BootView) (s : State) : Outcome := .next (s.release 0 b)

/-- RESET_N_FALL (R470): every unit is in reset; granules that failed a wipe stay denied until power-on reset (R209). -/
def execResetNFall (s : State) : Outcome :=
  .next (whenHolds s.ctrl.resetN s fun s => (s.cold false).setVaultFailed s.vaultFailed)

/-- RESET_N_RELEASE (R471, R472). -/
def execResetNRelease (mode : BitVec 2) (b : BootView) (s : State) : Outcome :=
  .next (whenHolds (!s.ctrl.resetN) s fun s =>
    (s.onCtrl fun c => { c with bootMode := mode }).release s.vaultFailed b)

/-! ### Bring-up (R473 to R477) -/

def State.stage (s : State) : Nat := s.get Pg.host HOST.BRINGUP_STAGE
def State.nextStage (s : State) : State := s.set Pg.host HOST.BRINGUP_STAGE (s.stage + 1)
def State.soft (s : State) : Bool := s.flag Pg.host HOST.BRINGUP_SOFT

/-- Firmware of a starting node runs: a doorbell that waited is answered BUSY (R478), and a paired node seeks (R438). -/
def State.romEnds (s : State) : State :=
  let s := s.reachRun
  let s := match s.ctrl.short with
    | some l => s.reply l.op.toNat l.tag St.busy []
    | none => s
  if s.pairs && s.pairState = Pair.alone then s.setPair Pair.seeking else s

/-- The life record is restored (R456): the newest valid full record and every later warning record. The fit sums of the
full record come back with its counters (log 279). -/
def State.restoreLife (s : State) : State :=
  let a := s.life.area
  let slots := a.slots.filter fun e => e.1 < s.get Pg.life LIFE.AREA_SIZE - 1
  let best := LifeArea.newest { a with slots := slots }
  let base : LifeRec := match best with
    | some e => e.2
    | none => ⟨0, 0, [], [], 0⟩
  let later := a.warns.filter fun r => base.seq < r.seq
  let s := s.each base.counters fun t e => if t.present e.1.p then t.lifePut e.1.p e.1.off e.2 else t
  let s := s.each later fun t r => t.each r.counters fun u e => u.lifeAdd e.1.p e.1.off e.2
  let s := s.onLife fun l => { l with fits := base.fits, fitCommon := base.fitCommon, hoursDone := s.powerOnHours }
  let s := s.set Pg.life LIFE.REC_SEQ_SEQ (later.foldl (fun n r => max n r.seq) base.seq)
  let s := s.setFlag Pg.life LIFE.REC_STAT_FRESH (best.isNone && later.isEmpty)
  let s := s.count Pg.life LIFE.REC_FAILS (slots.filter fun e => e.2.isNone).length
  (s.lifeAdd Pg.life 2).event Pg.life 3

/-- Stage RESTORE. -/
def State.restoreStage (s : State) (v : StageView) : State :=
  let s := s.setFlag Pg.host HOST.BRINGUP_BOARD_CFG (!v.boardOk)
  let s := if s.soft then s else s.restoreLife
  let s := s.enableUnit Pg.life
  match v.vcoreMv with
  | some mv =>
    ((s.set Pg.life LIFE.VCORE_READ_VALID 1).set Pg.life LIFE.VCORE_READ_MV mv).onFabric fun f => { f with coreMv := mv }
  | none => (s.set Pg.host HOST.BRINGUP_AVS 1).set Pg.fabric FABRIC.MARGIN_CTRL_AVS_EN 0

/-- The boot sweep (R476): repairs by bank, banks with no free spare, and every line zero. -/
def State.bootSweep (s : State) (v : StageView) : State :=
  let s := s.zeroRange 0 s.girthSize
  let s := s.each (v.repairs.filter fun e => e.1 < s.bankCount) fun t e =>
    let used := t.get Pg.girth GIRTH.BANK_STAT_SPARES_USED e.1
    let n := min e.2 (8 - used)
    let t := ((t.set Pg.girth GIRTH.BANK_STAT_SPARES_USED (used + n) e.1).count Pg.girth GIRTH.REPAIRS n).lifeAdd Pg.girth 2 n
    if n = 0 then t else t.event Pg.girth 3
  let bad := v.failedBanks.filter (· < s.bankCount)
  let s := s.each bad fun t b => (t.set Pg.girth GIRTH.BANK_STAT_FAILED 1 b).event Pg.girth 4
  let s := if bad.isEmpty then s else s.set Pg.host HOST.BRINGUP_GIRTH 1
  s.girthEccSource

/-- Stage GIRTH. -/
def State.girthStage (s : State) (v : StageView) : State :=
  (if s.soft then s else s.bootSweep v).enableUnit Pg.girth

/-- Ranks for service (R477): those named that trained, then the spare and the standby for those that did not; and the
ones left to be spare and standby. -/
def dramRoles (d : DramSetup) : List Nat × List Nat :=
  let good := d.trained &&& d.ranks
  let ok := d.service.filter good.getLsbD
  let subs := (d.spare.toList ++ d.standby.toList).filter good.getLsbD
  let missing := d.service.length - ok.length
  let final := ok ++ subs.take missing
  ((List.range 4).filter final.contains, subs.drop missing)

/-- GiB of a rank (R256): 8 with ×16 devices, 16 with ×8. -/
def rankGiB (device : BitVec 2) : Nat := if device = 1 then 16 else 8

/-- One channel is configured, enabled and trained, and its roles assigned; the answer is its size in GiB. -/
def State.setUpDram (s : State) (d : DramSetup) : State × Nat :=
  let c := d.chan
  let p := Pg.dram c
  let s := ((s.set p DRAM.CFG_DEVICE d.device.toNat).set p DRAM.CFG_RANKS d.ranks.toNat).set p DRAM.CFG_ORDER d.order.toNat
  let s := s.set p DRAM.TSET_DATA_VALUE d.rate.toNat (256 * s.get p DRAM.FREQ_CTRL_ACTIVE)
  let s := (s.populate c).enableUnit p
  let good := d.trained &&& d.ranks
  let s := ((s.set p DRAM.TRN_RESULT_VALID 1).set p DRAM.TRN_RESULT_TRAINED d.ranks.toNat).set p
    DRAM.TRN_RESULT_PASSED good.toNat
  let s := s.each (ranksOf good.toNat) fun t r => t.setRankState c r (trainedState (t.rankState c r))
  let (service, spares) := dramRoles d
  let s := s.each service.zipIdx fun t e => (t.mapRank c e.2 e.1).setRankState c e.1 Rs.service
  let s := s.each spares fun t r => t.addSpare c r
  let s := if service.length < d.service.length then
      s.set Pg.host (if c = 0 then HOST.BRINGUP_DRAM0 else HOST.BRINGUP_DRAM1) 1
    else s
  (s, service.length * rankGiB d.device)

/-- The size in GiB that a channel's kept rank map gives (R475). -/
def State.keptGiB (s : State) (c : Nat) : Nat :=
  let p := Pg.dram c
  (s.get p DRAM.RANK_MAP_LR0_VALID + s.get p DRAM.RANK_MAP_LR1_VALID) *
    rankGiB (BitVec.ofNat 2 (s.get p DRAM.CFG_DEVICE))

/-- DRAM_MAP as firmware writes it; INTLV falls back to 0 when the sizes differ. -/
def State.writeMap (s : State) (size0 size1 : Nat) (intlv : BitVec 2) : State :=
  let i := if mapAllowed size0 size1 intlv.toNat then intlv.toNat else 0
  ((s.set Pg.harness HARNESS.DRAM_MAP_SIZE0 size0).set Pg.harness HARNESS.DRAM_MAP_SIZE1 size1).set Pg.harness
    HARNESS.DRAM_MAP_INTLV i

/-- Stage DRAM: skipped without a board configuration. -/
def State.dramStage (s : State) (v : StageView) : State :=
  if s.flag Pg.host HOST.BRINGUP_BOARD_CFG then s
  else if s.soft then
    let s := s.each (List.range s.dramCount) fun t c => t.enableUnit (Pg.dram c)
    s.writeMap (s.keptGiB 0) (if s.dramCount = 2 then s.keptGiB 1 else 0) v.intlv
  else
    let run (s : State) (c : Nat) : State × Nat :=
      match v.drams.find? fun d => d.chan == c with
      | some d => if s.hasDram c then s.setUpDram d else (s, 0)
      | none => (s, 0)
    let (s, size0) := run s 0
    let (s, size1) := run s 1
    s.writeMap size0 size1 v.intlv

/-- The rings and queues that firmware configures on a port; ring 2's size from the board configuration. A ring that would
overlap a vault granule is not set up (R295). -/
def State.setUpMac (s : State) (v : StageView) (n : Nat) : State :=
  let p := Pg.mac n
  let s := s.each [0, 1, 2] fun t r =>
    let board := r = 2 && !t.flag Pg.host HOST.BRINGUP_BOARD_CFG
    let (count, slot) := match (if board then v.ring2.find? fun e => e.1 == n else none) with
      | some e => e.2
      | none => (Config.ring n r 2, Config.ring n r 3)
    t.setRing n r (Config.ring n r 0) (Config.ring n r 1) count slot
  let s := s.each [6, 7] fun t q =>
    (t.set p MAC.TXQ_BASE_BASE (Config.ring n (8 + q) 0) q).set p MAC.TXQ_CFG_COUNT (Config.ring n (8 + q) 2) q
  s.enableUnit p

/-- NEG_OUI, the rate limits and mode, SLEEP and EN of a lane; a RATE_MAX of 3 is ignored (R269). -/
def State.setUpLane (s : State) (v : StageView) (n : Nat) : State :=
  let p := Pg.lane n
  let s := s.set p LANE.NEG_OUI_OUI Config.oui
  let s := match v.lanes.find? fun e => e.1 == n with
    | some e =>
      if s.flag Pg.host HOST.BRINGUP_BOARD_CFG then s
      else
        let s := s.set p LANE.CFG_MODE e.2.2.toNat
        if e.2.1.toNat = 3 then s else s.set p LANE.CFG_RATE_MAX e.2.1.toNat
    | none => s
  ((s.set p LANE.SLEEP_RX 0).set p LANE.SLEEP_TX 0).enableUnit p

/-- Stage UNITS. -/
def State.unitsStage (s : State) (v : StageView) : State :=
  let flows := (List.range 16).map Pg.flow
  let s := s.each ((Pg.fabric :: Pg.mix :: Pg.time :: flows).filter s.present) State.enableUnit
  let s := s.each ((List.range 4).filter s.hasMac) fun t n => t.setUpMac v n
  s.each ((List.range 6).filter fun n => s.present (Pg.lane n)) fun t n => t.setUpLane v n

/-- Stage READY (R478, R483). -/
def State.readyStage (s : State) : State :=
  let s := { s with cinch := { s.cinch with resetPending := false } }
  (s.set Pg.host HOST.BRINGUP_READY 1).event Pg.host 5

/-- BRINGUP_STAGE_END (R473). -/
def execBringupStageEnd (v : StageView) (s : State) : Outcome :=
  .next (
    if s.ready then s
    else if s.stage = 0 then
      whenHolds (s.fwState = Fw.verify && !s.ctrl.restarting) s fun s => s.romEnds.nextStage
    else whenHolds s.fwRunning s fun s =>
      if s.stage = 1 then (s.restoreStage v).nextStage
      else if s.stage = 2 then (s.girthStage v).nextStage
      else if s.stage = 3 then (s.dramStage v).nextStage
      else if s.stage = 4 then (s.unitsStage v).nextStage
      else s.readyStage)

/-! ### The watchdog and a restart (R31, R55) -/

/-- WDOG_KICK (R55). -/
def execWdogKick (m : Master) (v : Word) (s : State) : Outcome :=
  .next (s.writeTo m Pg.ctrl fun s =>
    if Master.isCore m && v = 0x5A17 then s.onCtrl fun c => { c with wdogAt := s.now }
    else (s.count Pg.ctrl CTRL.WDOG_BAD).event Pg.ctrl 1)

/-- Bytes at an address that the spec leaves undefined (log 3). -/
def State.pokeFree (s : State) (a n : Nat) : State :=
  let bs := (List.range n).map fun i => BitVec.ofNat 8 (Config.freeValue (s.freeCtr + i))
  { s with freeCtr := s.freeCtr + n }.pokeBytes a bs

/-- The page of R49 that a lost long command reports on, and what the loss leaves behind (R31). -/
def State.loseLong (s : State) (l : LongCmd) : State :=
  let op := l.op.toNat
  if op = Op.planLoad then (s.onFabric fun f => { f with loading := none }).longEnd Pg.fabric false
  else if op = Op.sceneStage then
    ((s.onMix fun m => { m with staging := none }).set Pg.mix MIX.STAGE_SET_INCOMPLETE 1).longEnd Pg.mix false
  else if op = Op.trainDram then
    s.each ((List.range s.dramCount).filter fun c => (s.dram c).training.any fun t => t.2 == l.tag) fun t c =>
      (((t.onDram c fun d => { d with training := none }).set (Pg.dram c) DRAM.TRN_RESULT_VALID 0).longEnd (Pg.dram c)
        false).endWaiting c
  else if op = Op.ckptNow then s.longEnd Pg.keeper false
  else if op = Op.lifeDump then
    let s := match s.life.dump with
      | some addr => s.pokeFree addr 65536
      | none => s
    (s.onLife fun x => { x with dump := none }).longEnd Pg.life false
  else if op = Op.fwUpdate then
    (s.onCtrl fun c => { (c.setFailed (otherSlot c.active) true) with updated := none }).longEnd Pg.ctrl false
  else s

/-- The control cores stop, and what they were carrying out is lost. -/
def State.coresStop (s : State) : State :=
  let s := s.each s.ctrl.long State.loseLong
  let s := s.onCtrl fun c => { c with
    restarting := true, lost := c.lost ++ c.held.map (fun r => ⟨r.op, r.tag⟩) ++ c.long, long := [], held := [] }
  let s := (s.set Pg.ctrl CTRL.FW_ID_MAJOR 0).set Pg.ctrl CTRL.FW_ID_MINOR 0
  let s := (s.set Pg.ctrl CTRL.FW_ID_BUILD 0).set Pg.ctrl CTRL.FW_SECVER_IMAGE 0
  let s := (s.set Pg.ctrl CTRL.CORE_STAT_RUNNING 0).set Pg.ctrl CTRL.WDOG_STAT_ARMED 0
  (s.set Pg.harness HARNESS.REMAP_REMAP 0).each [7, 8, 9, 10] State.resetMaster

/-- WATCHDOG_EXPIRY (R31, R55): 100 ms after the last kick. -/
def execWatchdogExpiry (s : State) : Outcome :=
  .next (whenHolds (s.flag Pg.ctrl CTRL.WDOG_STAT_ARMED) s fun s =>
    let s := s.reach (s.ctrl.wdogAt + cyclesMs 100)
    let s := (s.count Pg.ctrl CTRL.WDOG_EXPIRIES).event Pg.ctrl 0
    (s.coresStop.setFw Fw.restarting).raise Src.watchdog 0)

/-- The restarted firmware answers what was lost, before any new command. A command whose doorbell rang during the restart
is answered so too (DESIGN CHOICE, log 336). -/
def State.answerLost (s : State) : State :=
  let s := match s.ctrl.short with
    | some l => s.reply l.op.toNat l.tag St.fwRestart []
    | none => s
  let lost := s.ctrl.lost
  (s.onCtrl fun c => { c with lost := [] }).each lost fun t l => t.queueDone ⟨l.op, l.tag, BitVec.ofNat 8 St.fwRestart⟩

/-- The Harness has let go of the control cores' transactions: until then their reset does not complete (R234). -/
def State.coresReleased (s : State) : Bool := [7, 8, 9, 10].all fun m => !s.masterInReset m

/-- RESTARTED (R31): the boot ROM has verified the image again; RUN, or RECOVERY. -/
def execRestarted (b : BootView) (s : State) : Outcome :=
  .next (whenHolds (s.ctrl.restarting && s.fwState = Fw.restarting && s.coresReleased) s fun s =>
    let s := s.bootFrom b (slotOf (s.get Pg.host HOST.BOOT_STAT_SLOT))
    if s.fwState = Fw.verify then
      let s := (s.reachRun.event Pg.ctrl 2).lower Src.watchdog 0
      (s.onKeeper fun k => { k with fullNext := true }).answerLost
    else s)

/-! ### The firmware-initiated soft reset (R422, R475, R482) -/

/-- What KILL leaves to end is ended. -/
def State.cutShort (s : State) (p : Nat) : State :=
  match unitOf p with
  | .girth =>
    match s.girth.bgt with
    | some (page, .restore) => (s.restoreRegion page).endTest
    | _ => s
  | .dram c => s.onDram c fun d => { d with freqBusy := none }
  | _ => s

/-- SRST of a page within a soft reset. -/
def State.softPage (s : State) (p : Nat) : State :=
  if s.present p then
    let s := if s.flag p PG.STAT_QUIESCED then s else (s.killUnit p).cutShort p
    let s := s.onCtrl fun c => { c with killing := c.killing.filter (· ≠ p), resetting := c.resetting.filter (· ≠ p) }
    s.resetUnit p
  else s

/-- Pages that R482 resets by SRST, in its order. -/
def softPages : List Nat :=
  Pg.fabric :: (List.range 256).map Pg.awl ++ Pg.mix :: (List.range 16).map Pg.flow ++ (List.range 16).map Pg.sap ++
    (List.range 4).map Pg.mac ++ (List.range 6).map Pg.lane ++ (List.range 16).map Pg.stirrup ++
    (List.range 2).map Pg.dram ++ [Pg.girth, Pg.life, Pg.time, Pg.rein]

/-- The mix unit without a plan: no route, bridge or crossfade is left. -/
def State.softMix (s : State) : State :=
  { (s.resetPage Pg.mix keepsRws) with mix := Mix.reset }

/-- Every transaction ends, with no completion on anyone's behalf; beats already written stay (R236). -/
def State.endTransactions (s : State) : State :=
  let s := (s.abortPorts fun p => inRange 32 p 33).onHarness fun h => { h with txns := [], held := [], cut := [] }
  s.onGirth fun g => { g with locks := [], banks := (g.banks.map fun e =>
    (e.1, { e.2 with waiting := [] })).filter fun e => e.2 ≠ Bank.reset }

/-- The Harness's registers (R236): SLICE and DRAM_MAP return to their reset values, and no master's reset is pending. -/
def State.softHarness (s : State) : State :=
  let p := Pg.harness
  let s := s.onCtrl fun c => { c with sliced := false }
  let s := ((s.set p HARNESS.SLICE_M_SLICES 44739242).set p HARNESS.SLICE_T_SLICES 44739242).set p
    HARNESS.MRST_STAT_PENDING 0
  s.writeMap 0 0 0

/-- The Keeper: PAIR_ACT_OUT drops, CFG stays, and a paired node seeks again. -/
def State.softKeeper (s : State) : State :=
  let s := s.dropActOut.resetPage Pg.keeper fun k => keepsRws k || isPin k
  let k := s.keeper
  let s := s.onKeeper fun _ => { Keeper.reset with
    warnHigh := k.warnHigh, feedA := k.feedA, txSeq := k.txSeq, actLowAt := k.actLowAt, lost := k.lost }
  if s.pairs then s.setPair Pair.seeking else s

/-- A soft reset, and the boot that follows. -/
def State.softReset (s : State) (b : BootView) : State :=
  let s := (s.endTransactions.each softPages State.softPage).softMix
  let s := s.coresStop.softHarness.softKeeper
  let s := (s.setFw Fw.rom).resetPage Pg.host fun k => !(k.off == HOST.BRINGUP_READY.off)
  let s := { s.set Pg.host HOST.BRINGUP_SOFT 1 with cinch := { s.cinch with resetPending := true } }
  let s := s.answerLost
  (s.onCtrl fun c => { c with restarting := false }).boot b

/-- SOFT_RESET (R482): firmware restarts the node. -/
def execSoftReset (m : Master) (b : BootView) (s : State) : Outcome :=
  .next (whenHolds (Master.isCore m && s.fwRunning) s fun s => s.softReset b)

/-- LEVEL4_RESET (R422): 10 ms after the occurrence. -/
def execLevel4Reset (b : BootView) (s : State) : Outcome :=
  .next (whenHolds (s.cinch.resetPending && (s.ready || !s.soft)) s fun s =>
    (s.reach ((s.cinch.resetTimes.head?.getD s.now) + cyclesMs 10)).softReset b)

/-! ### Firmware updates (R52, R53) -/

/-- FW_UPDATE (R52); in RECOVERY too. -/
def execFwUpdate (tag : BitVec 8) (addr len : Nat) (s : State) : Outcome :=
  .next (s.mailbox Op.fwUpdate tag (addrArgs addr ++ [BitVec.ofNat 32 len]) fun s =>
    let op := Op.fwUpdate
    if 2 ^ 48 ≤ addr || len = 0 then s.reply op tag St.badArg []
    else if s.longRuns op then s.reply op tag St.busy []
    else (s.onCtrl fun c => { c with fwLen := len }).accept op tag Pg.ctrl)

/-- FW_UPDATE_DONE (R52, R53): what verification found; an image that fails leaves both slots as they were. -/
def execFwUpdateDone (v : SlotVerdict) (s : State) : Outcome :=
  .next (match s.ctrl.long.find? fun l => l.op == BitVec.ofNat 8 Op.fwUpdate with
    | none => s
    | some l =>
      match judged v with
      | .ok _ =>
        let x := otherSlot s.ctrl.active
        let s := s.onCtrl fun c => { (c.setFailed x false) with updated := some x }
        (s.set Pg.ctrl PG.PROGRESS_POSITION (s.ctrl.fwLen / 1024)).finish Op.fwUpdate l.tag Pg.ctrl St.ok
      | .signature => s.finish Op.fwUpdate l.tag Pg.ctrl St.authFail
      | .secver => s.finish Op.fwUpdate l.tag Pg.ctrl St.authFail
      | _ => s.finish Op.fwUpdate l.tag Pg.ctrl St.badArg)

/-- FW_UPDATE_BOOT_TIMEOUT (R53): the updated image has not reached RUN within 2 s; it is marked failed, and the previous
one starts. -/
def execFwUpdateBootTimeout (b : BootView) (s : State) : Outcome :=
  .next (match s.ctrl.trial with
    | some x =>
      if s.fwRunning then s
      else
        let s := (s.reach (s.ctrl.bootAt + cyclesSec 2)).onCtrl fun c => { (c.setFailed x true) with
          trial := none, updated := none }
        (s.bootFail 6 x).bootFrom b (otherSlot x)
    | none => s)

/-! ### The PCIe link (R234, R413) -/

/-- PCIE_LINK_RESET: a link-down, hot reset or function-level reset; the endpoint's requests are reset. -/
def execPcieLinkReset (s : State) : Outcome :=
  .next ((((s.onCtrl fun c => { c with linkUp := false }).each [6, 7, 8, 9] State.unlockRx).resetMaster 11).raise
    Src.linkDown 0)

/-- A lane of the endpoint as the link comes up: one within the width wakes and runs at the rate; one beyond it sleeps
(R270, R279). -/
def State.pcieLaneUp (s : State) (rate width : Nat) (ppm : BitVec 16) (n : Nat) : State :=
  let p := Pg.lane n
  let on := decide (n < 6 + width)
  let s := (s.setFlag p LANE.SLEEP_TX (!on)).setFlag p LANE.SLEEP_RX (!on)
  if on then
    let s := if s.laneState n = Ls.sleep then (s.setLaneState n Ls.off).updateTest n else s
    let s := s.set p LANE.STAT_RATE rate
    if tracks ppm then s.lockRx n ppm else s.unlockRx n
  else (s.set p LANE.STAT_RATE rate).sleepLane n

/-- PCIE_LINK_UP (R32, R270): link training has ended at a rate (0 to 3 for 2.5 to 16 GT/s) and a width of 4, 2 or 1 lanes
from L6 on (log 326), with the offset that the receivers measure. -/
def execPcieLinkUp (s : State) (rate : BitVec 2 := 0) (width : Nat := 4) (ppm : BitVec 16 := 0) : Outcome :=
  guardWf (width = 1 || width = 2 || width = 4) (.next (
    ((s.onCtrl fun c => { c with linkUp := true }).each [6, 7, 8, 9] (State.pcieLaneUp · rate.toNat width ppm)).lower
      Src.linkDown 0))

end Sys2Proof.Machine
end

