-- ==== Sys2Proof/Machine/Write.lean ====
section
/-!
DEFINITION. Register writes (R12, R13): the plain access types, and page by page the registers whose fields have a range,
a writer or an effect of their own. Where a command of the table is that write, its meaning is called.
-/

namespace Sys2Proof.Machine

/-- The state that a command leaves, for a write that is that command. -/
def State.after (s : State) (o : Outcome) : State :=
  match o with
  | .next t => t
  | _ => s

/-! ### Plain registers (R13) -/

/-- One field takes its bits of a written word. -/
def State.writeField (s : State) (p i : Nat) (v : Word) (f : Fld) : State :=
  match f.acc with
  | .rw => s.set p f (f.of v) i
  | .rwl => if s.locked p then s else s.set p f (f.of v) i
  | .w1c => s.set p f (clearBits (s.get p f i) (f.of v)) i
  | .w1s => s.set p f (s.get p f i ||| f.of v) i
  | .cnt => s.set p f 0 i
  | .ro => s
  | .wo => s

/-- A register without behaviour of its own. -/
def State.writePlain (s : State) (p off : Nat) (v : Word) : State :=
  s.each (fieldsAt p off) fun t f => t.writeField p (s.instOf p f) v f

/-- A field is written where its new value is allowed. -/
def State.writeIf (s : State) (ok : Bool) (p : Nat) (f : Fld) (v : Word) (i : Nat := 0) : State :=
  if ok then s.writeField p i v f else s

/-- Any write clears a register. -/
def State.clearOffs (s : State) (p : Nat) (offs : List Nat) : State :=
  s.each offs fun t off => t.each (fieldsAt p off) fun u f => u.set p f 0 (u.instOf p f)

/-! ### Page by page -/

/-- A write to the doorbell submits MBX_REQ: word 0 names the command (R50). Firmware carries it out with the command's
own row, whose operands are the argument words; a reserved opcode returns BAD_OPCODE (R52), and a count of arguments that
is not the command's BAD_ARG (DESIGN CHOICE, log 70). -/
def State.doorbell (s : State) : State :=
  let w := nget 0 s.ctrl.req 0
  let op : BitVec 8 := w.extractLsb' 24 8
  let tag : BitVec 8 := w.extractLsb' 16 8
  if opcodeDefined op then
    s.mailbox op.toNat tag s.reqArgs fun s =>
      if s.reqCount = argCount op.toNat then s.mbxHeld op.toNat tag else s.reply op.toNat tag St.badArg []
  else s.reply op.toNat tag St.badOpcode []

def State.writeHost (s : State) (m : Master) (off : Nat) (v : Word) : State :=
  let p := Pg.host
  if off = HOST.WIN_BASE_HI_ADDR.off then s.after (execWinBaseHiWrite m v s)
  else if mailboxOffset off then
    if s.flag p HOST.MBX_STAT_BUSY then s.set p HOST.MBX_STAT_OVERRUN 1
    else if off = HOST.MBX_DOORBELL_SUBMIT.off then
      (if v.getLsbD 0 then s.doorbell else s)
    else s.onCtrl fun c => { c with req := nput 0 c.req ((off - 0x400) / 4) v }
  else s.writePlain p off v

/-- Any write clears DECODE_INFO and its address, and with VALID the source (R220). -/
def State.writeHarness (s : State) (m : Master) (off : Nat) (v : Word) : State :=
  let p := Pg.harness
  if off = HARNESS.REMAP_REMAP.off then s.after (execRemapWrite m v s)
  else if off = HARNESS.DRAM_MAP_SIZE0.off then s.after (execDramMapWrite m v s)
  else if off = HARNESS.MQOS_CAP.off then (if s.get p HARNESS.MQOS_SEL_MASTER = 0 then s else s.writePlain p off v)
  else if off = HARNESS.DECODE_INFO_VALID.off then
    let s := s.clearOffs p [0x060, 0x064, 0x068]
    s.each (s.cinchSrc Src.harnessDecode).active fun t k => t.lower Src.harnessDecode k
  else s.writePlain p off v

/-- THERM_CFG: both fields in range and WARN below TRIP. -/
def thermOk (trip warn : Nat) : Bool := inRange 100 trip 125 && inRange 90 warn 115 && warn < trip

/-- PEND of the sources of one summary register: a 1 acknowledges the source. -/
def State.acknowledge (s : State) (k : Nat) (v : Word) : State :=
  s.each ((List.range 32).filter fun i => v.getLsbD i) fun t i =>
    t.setCinchSrc (32 * k + i) { t.cinchSrc (32 * k + i) with pend := false }

def State.writeCinch (s : State) (m : Master) (off : Nat) (v : Word) : State :=
  let p := Pg.cinch
  if off = CINCH.SRC_CFG_FORCE.off then s.after (execSrcCfgWrite m v s)
  else if off = CINCH.SRC_STAT_LATCHED.off then
    let s := if v.getLsbD 31 then s.after (execReactClr m s) else s
    if v.getLsbD 1 then s.after (execLatchedClear m s) else s
  else if inRange 0x0B0 off 0x0BF then s.acknowledge ((off - 0x0B0) / 4) v
  else if off = CINCH.SRC_COUNT_OCCURRENCES.off || off = CINCH.SRC_RECOV_RECOVERIES.off || off = CINCH.FIRST_VALID.off then
    s.clearOffs p [off]
  else if off = CINCH.THERM_CFG_TRIP.off then
    (if thermOk (CINCH.THERM_CFG_TRIP.of v) (CINCH.THERM_CFG_WARN.of v) then s.writePlain p off v else s)
  else s.writePlain p off v

def State.writeKeeper (s : State) (m : Master) (off : Nat) (v : Word) : State :=
  let p := Pg.keeper
  if off = KEEPER.CFG_PAIR_EN.off then s.after (execKeeperCfgWrite m v s)
  else if off = KEEPER.CTRL_HANDOVER_REQ.off then (if v.getLsbD 0 then s.after (execHandoverReq m s) else s)
  else if off = KEEPER.CKPT_SIZE_MIB.off then
    s.writeIf (inRange 1 (KEEPER.CKPT_SIZE_MIB.of v) 128) p KEEPER.CKPT_SIZE_MIB v
  else s.writePlain p off v

/-- MARGIN_CFG: every field in range, and VMIN_MV no higher than VMAX_MV. -/
def State.marginOk (s : State) (v : Word) : Bool :=
  let vmin := LIFE.MARGIN_CFG_VMIN_MV.of v
  inRange 620 vmin 820 && vmin ≤ s.get Pg.fabric FABRIC.MARGIN_CTRL_VMAX_MV &&
    inRange 2 (LIFE.MARGIN_CFG_TSHIFT_C.of v) 50 && 1 ≤ LIFE.MARGIN_CFG_WARN_D.of v

def State.writeLife (s : State) (m : Master) (off : Nat) (v : Word) : State :=
  let p := Pg.life
  if off = LIFE.REC_CTRL_NOW.off then (if v.getLsbD 0 then s.after (execRecNow m s) else s)
  else if off = LIFE.MARGIN_CFG_VMIN_MV.off then (if s.marginOk v then (s.writePlain p off v).lifeMargin else s)
  else s.writePlain p off v

def State.writeRein (s : State) (m : Master) (off : Nat) (v : Word) : State :=
  let p := Pg.rein
  if off = 0x044 then s.after (execSelCtrlWrite m v s)
  else if off = 0x048 then s.writeDpll0 v
  else if off = 0x058 then s.writeCheckCfg v
  else if off = 0x05C then s.writeCheckTime v
  else if inRange 0x080 off 0x08C then s.after (execMclkCfgWrite m ((off - 0x080) / 4) v s)
  else if off = 0x090 then s.writeFpCtrl v
  else if off = 0x0E0 then s.writeDpll1 v
  else if inRange 0x0A0 off 0x0DF then
    let n := (off - 0x0A0) / 16
    if off % 16 = 0 then s.writeFpCfg n v
    else if off % 16 = 4 then s.writeIf (v.toInt.natAbs ≤ 500000000) p (REIN.FP_OFS_NS n) v
    else s
  else s.writePlain p off v

def State.writeTime (s : State) (m : Master) (off : Nat) (v : Word) : State :=
  let p := Pg.time
  let n := if off < 0x080 then 0 else 1
  let o := off - 64 * n
  if off = 0x0C0 then (if v.getLsbD 0 then s.after (execCapture m s) else s)
  else if o = 0x050 then s.after (s.timeWrite m n fun s => s.writeField p 0 v (TIME.C_INC_NS_NS n))
  else if o = 0x054 then s.after (execIncFracWrite m n v s)
  else if o = 0x060 then s.after (execSetGo m n v s)
  else if o = 0x064 then s.after (execStepWrite m n v s)
  else if o = 0x068 then s.after (execSlewNsWrite m n v s)
  else if o = 0x06C then
    s.writeIf (inRange 1 ((TIME.C_SLEW_CFG_RATE n).of v) 500) p (TIME.C_SLEW_CFG_RATE n) v
  else s.writePlain p off v

/-- The fields of MAC.CFG, PAUSE_TX acting at once. -/
def State.writeMacCfg (s : State) (n : Nat) (v : Word) : State :=
  let p := Pg.mac n
  let s := s.each [MAC.CFG_TS_SRC, MAC.CFG_TS_CORR, MAC.CFG_PAUSE_TX, MAC.CFG_PROMISC, MAC.CFG_VLAN_STRIP, MAC.CFG_FEC_EN]
    fun t f => t.writeField p 0 v f
  let s := s.writeIf (inRange 64 (MAC.CFG_MAX_FRAME.of v) 9216) p MAC.CFG_MAX_FRAME v
  (s.writeIf (MAC.CFG_PAUSE_RX.of v ≠ 3) p MAC.CFG_PAUSE_RX v).pauseUpdate n

/-- PREEMPT_CTRL: VERIFY restarts where EN or VERIFY_DIS changes. -/
def State.writePreempt (s : State) (n : Nat) (v : Word) : State :=
  let p := Pg.mac n
  let same := s.get p MAC.PREEMPT_CTRL_EN = MAC.PREEMPT_CTRL_EN.of v &&
    s.get p MAC.PREEMPT_CTRL_VERIFY_DIS = MAC.PREEMPT_CTRL_VERIFY_DIS.of v
  let s := (s.writeField p 0 v MAC.PREEMPT_CTRL_EN).writeField p 0 v MAC.PREEMPT_CTRL_VERIFY_DIS
  let s := s.writeIf (1 ≤ MAC.PREEMPT_CTRL_VERIFY_MS.of v) p MAC.PREEMPT_CTRL_VERIFY_MS v
  if same then s else (s.set p MAC.PREEMPT_CTRL_VERIFY (s.verifyIdle n)).schedule n

/-- The watermarks of a PAUSE_CFG write. -/
def pauseOk (high low : Nat) : Bool := inRange 2 high 100 && low ≤ 98 && low < high


/-- The registers of the ring shown: BASE, DATA, SLOT_KIB and COUNT only while the port is quiesced, and to no ring that
overlaps a vault granule. -/
def State.writeRing (s : State) (m : Master) (n off : Nat) (v : Word) : State :=
  let p := Pg.mac n
  let r := s.get p MAC.RXR_SEL_RING
  let rest := s.flag p PG.STAT_QUIESCED
  if off = MAC.RXR_CONS_CONS.off then s.after (execRxrConsWrite m n v s)
  else if off = MAC.RXR_CFG_COUNT.off then
    let s := s.writeField p r v MAC.RXR_CFG_PAUSE_EN
    let t := s.writeIf (rest && inRange 1 (MAC.RXR_CFG_SLOT_KIB.of v) 5) p MAC.RXR_CFG_SLOT_KIB v r
    let t := t.writeIf (rest && ringCount (MAC.RXR_CFG_COUNT.of v)) p MAC.RXR_CFG_COUNT v r
    (if t.ringInVault n r then s else t).pauseUpdate n
  else if rest then (let t := s.writePlain p off v; if t.ringInVault n r then s else t)
  else s

/-- The registers of the queue shown; those of queue 6 take no write of the host, and BASE, CFG and STAT of it only a
control core's (R284). -/
def State.writeQueue (s : State) (m : Master) (n off : Nat) (v : Word) : State :=
  let p := Pg.mac n
  let q := s.get p MAC.TXQ_SEL_QUEUE
  let empty := s.qProd n q = s.qCons n q
  if q = 6 && (m = .host || (off < MAC.POL_RATE_RATE.off && !Master.isCore m)) then s
  else if off = MAC.TXQ_PROD_PROD.off then s.after (execTxqProdWrite m n v s)
  else if off = MAC.TXQ_STAT_HALTED.off then
    let s := s.writeField p q v MAC.TXQ_STAT_BAD_PROD
    if v.getLsbD 0 then s.after (execHaltedClear m n s) else s
  else if off = MAC.TXQ_BASE_BASE.off then (if empty then s.writePlain p off v else s)
  else if off = MAC.TXQ_CFG_COUNT.off then
    s.writeIf (empty && ringCount (MAC.TXQ_CFG_COUNT.of v)) p MAC.TXQ_CFG_COUNT v q
  else if off = MAC.POL_RATE_RATE.off then
    s.setPolice n q fun s => s.writeIf (MAC.POL_RATE_RATE.of v ≤ 25000) p MAC.POL_RATE_RATE v q
  else if off = MAC.POL_BURST_BURST.off then
    s.setPolice n q fun s => s.writeIf (inRange 10 (MAC.POL_BURST_BURST.of v) 1024) p MAC.POL_BURST_BURST v q
  else s

def State.writeMac (s : State) (m : Master) (n off : Nat) (v : Word) : State :=
  let p := Pg.mac n
  if off = MAC.CFG_MAX_FRAME.off then s.writeMacCfg n v
  else if off = MAC.PREEMPT_CTRL_EN.off then s.writePreempt n v
  else if off = MAC.PAUSE_CFG_QUANTA.off then
    (if pauseOk (MAC.PAUSE_CFG_HIGH_PCT.of v) (MAC.PAUSE_CFG_LOW_PCT.of v) then (s.writePlain p off v).pauseUpdate n else s)
  else if inRange 0x064 off 0x074 then s.writeRing m n off v
  else if inRange 0x084 off 0x09C then s.writeQueue m n off v
  else s.writePlain p off v

def State.writeLane (s : State) (m : Master) (n off : Nat) (v : Word) : State :=
  let p := Pg.lane n
  if off = LANE.CFG_RESTART.off then
    let s := s.writeLaneCfg n v
    if v.getLsbD 31 then s.after (execLaneRestart m n s) else s
  else if off = LANE.NEG_OUI_OUI.off then (if pcieLane n then s else s.writePlain p off v)
  else if off = LANE.LB_MODE.off then s.after (execLbModeWrite m n v s)
  else if off = LANE.SLEEP_RX.off then s.after (execSleepWrite m n v s)
  else if off = LANE.PRBS_CTRL_GEN_EN.off then s.after (execPrbsCtrlWrite m n v s)
  else if off = LANE.TX_EQ_MAIN.off then
    if pcieLane n || 63 < LANE.TX_EQ_POST.of v + LANE.TX_EQ_MAIN.of v + LANE.TX_EQ_PRE.of v then s else s.writePlain p off v
  else s.writePlain p off v

/-- RANK_CMD with GO performs OP; a reserved OP is refused (R260). -/
def State.writeRankCmd (s : State) (m : Master) (c : Nat) (v : Word) : State :=
  let r : BitVec 2 := v.extractLsb' 0 2
  if DRAM.RANK_CMD_GO.of v = 0 then s
  else match DRAM.RANK_CMD_OP.of v with
    | 0 => s.after (execRankCmdService m c r s)
    | 1 => s.after (execRankCmdSpare m c r s)
    | 2 => s.after (execRankCmdRetire m c r s)
    | 3 => s.after (execRankCmdTest m c r s)
    | 4 => s.after (execRankCmdReturn m c r s)
    | _ => s.event (Pg.dram c) 12

/-- REF_CFG; FORCE_2X moves every rank across the threshold at once (R249). -/
def State.writeRefCfg (s : State) (c : Nat) (v : Word) : State :=
  let p := Pg.dram c
  let ranks := (List.range 4).filter (s.populated c)
  let was := ranks.map (s.doubled c)
  let s := ((s.writeField p 0 v DRAM.REF_CFG_RT_QOS).writeField p 0 v DRAM.REF_CFG_MODE).writeField p 0 v
    DRAM.REF_CFG_FORCE_2X
  let s := s.writeIf (1 ≤ DRAM.REF_CFG_POLL.of v) p DRAM.REF_CFG_POLL v
  s.each (ranks.zip was) fun t e => t.crossThreshold c e.1 e.2 0

/-- The instances that a DLY_VAL write reaches: one, or with BCAST every bit or lane of its kind. -/
def dlyInstances (sel : Nat) : List Nat :=
  let kind := sel / 2 ^ 24 % 8
  let n := if kind ≤ 1 then 40 else if kind ≤ 3 then 5 else 14
  if sel.testBit 31 then (List.range n).map fun b => sel % 2 ^ 31 / 64 * 64 + b
  else if sel % 64 < n then [sel % 2 ^ 31] else []

/-- DLY_VAL: 0 to 127, or to 1,023 for RX_GATE; the active set's delays take no write (R266). -/
def State.writeDelayVal (s : State) (c : Nat) (v : Word) : State :=
  let p := Pg.dram c
  let top := if s.get p DRAM.DLY_SEL_KIND = 3 then 1023 else 127
  let sel := s.fieldWord p DRAM.DLY_SEL_KIND.off (fun _ => 0)
  if s.get p DRAM.DLY_SEL_SET = s.get p DRAM.FREQ_CTRL_ACTIVE && !(s.dram c).training.isSome then s.event p 13
  else if DRAM.DLY_VAL_VALUE.of v ≤ top then
    s.each (dlyInstances sel) fun t i => t.set p DRAM.DLY_VAL_VALUE (DRAM.DLY_VAL_VALUE.of v) (i &&& DRAM.DLY_VAL_VALUE.mask)
  else s

/-- TRN_RESULT is written by firmware (R256). -/
def State.writeTrnResult (s : State) (p : Nat) (v : Word) : State :=
  s.each [DRAM.TRN_RESULT_VALID, DRAM.TRN_RESULT_TRAINED, DRAM.TRN_RESULT_PASSED] fun t f => t.set p f (f.of v)

def State.writeDram (s : State) (m : Master) (c off : Nat) (v : Word) : State :=
  let p := Pg.dram c
  if off = DRAM.CFG_RANKS.off then s.after (execDramCfgWrite m c v s)
  else if off = DRAM.RANK_CMD_GO.off then s.writeRankCmd m c v
  else if off = DRAM.REF_CFG_MODE.off then s.writeRefCfg c v
  else if off = DRAM.RH_CFG_THRESH.off then
    (s.writeIf (256 ≤ DRAM.RH_CFG_THRESH.of v) p DRAM.RH_CFG_THRESH v).writeField p 0 v DRAM.RH_CFG_QOS
  else if off = DRAM.FREQ_CTRL_CHANGE.off then s.after (execFreqChange m c v s)
  else if off = DRAM.TSET_DATA_VALUE.off then
    if s.get p DRAM.TSET_SEL_SET = s.get p DRAM.FREQ_CTRL_ACTIVE then s.event p 13 else s.writePlain p off v
  else if off = DRAM.TRN_CTRL_GO.off then s.after (execTrnGo m c v s)
  else if off = DRAM.TRN_STEP_TOTAL.off then
    if DRAM.TRN_STEP_ADVANCE.of v = 1 then s.after (execTrnStepAdvance m c s)
    else (s.writeField p 0 v DRAM.TRN_STEP_TOTAL).set p DRAM.TRN_STEP_DONE 0
  else if off = DRAM.DLY_VAL_VALUE.off then s.writeDelayVal c v
  else if off = DRAM.MR_CTRL_GO.off then s.after (execMrGo m c v s)
  else if off = DRAM.ECC_INFO_VALID.off then s.clearOffs p [0x0A4, 0x0A8, 0x0AC]
  else if off = DRAM.TRN_RESULT_VALID.off then (if Master.isCore m then s.writeTrnResult p v else s)
  else s.writePlain p off v

def State.writeGirth (s : State) (m : Master) (off : Nat) (v : Word) : State :=
  let p := Pg.girth
  if off = GIRTH.BASE_LO_ADDR.off || off = GIRTH.BASE_HI_ADDR.off then s
  else if off = GIRTH.VAULT_MAP_LO_MAP.off then s.after (execVaultMapWrite m false v s)
  else if off = GIRTH.VAULT_MAP_HI_MAP.off then s.after (execVaultMapWrite m true v s)
  else if off = GIRTH.RET_CTRL_SEG.off then s.after (execRetCtrlWrite m v s)
  else if off = GIRTH.ECC_INFO_VALID.off then (s.clearOffs p [off]).girthEccSource
  else s.writePlain p off v

def State.writeAwl (s : State) (m : Master) (t off : Nat) (v : Word) : State :=
  let p := Pg.awl t
  if off = AWL.STICKY_CLR_AOV.off then
    let s := if v.getLsbD 1 then s.after (execStickyClrAov m t s) else s
    if v.getLsbD 0 then s.after (execStickyClrSat m t s) else s
  else if off = AWL.FAULT_INFO_VALID.off then s.clearOffs p [off]
  else if off = AWL.DBG_DATA_DATA.off then s.after (execDbgDataWrite m t v s)
  else s.writePlain p off v

/-- DOM_CFG: MISS_POLICY, and FENCE_PCT under R78. -/
def State.writeDomCfg (s : State) (d : Nat) (v : Word) : State :=
  (s.writeField Pg.fabric 0 v (FABRIC.DOM_CFG_MISS_POLICY d)).writeFence d ((FABRIC.DOM_CFG_FENCE_PCT d).of v)

/-- MARGIN_CTRL; VMAX_MV is held within 620 to 820. -/
def State.writeMarginCtrl (s : State) (v : Word) : State :=
  let p := Pg.fabric
  if s.locked p then s
  else
    let s := s.writePlain p FABRIC.MARGIN_CTRL_VMAX_MV.off v
    s.set p FABRIC.MARGIN_CTRL_VMAX_MV (max 620 (min 820 (FABRIC.MARGIN_CTRL_VMAX_MV.of v)))

def State.writeFabric (s : State) (m : Master) (off : Nat) (v : Word) : State :=
  let p := Pg.fabric
  if inRange 0x040 off 0x048 then s.writeDomCfg ((off - 0x040) / 4) v
  else if off = FABRIC.MARGIN_CTRL_VMAX_MV.off then s.writeMarginCtrl v
  else if off = FABRIC.RELOC_CFG_XFADE_MS.off then
    let s := s.writeIf (inRange 1 (FABRIC.RELOC_CFG_XFADE_MS.of v) 100) p FABRIC.RELOC_CFG_XFADE_MS v
    s.writeIf (8 ≤ FABRIC.RELOC_CFG_WARM_BLOCKS.of v) p FABRIC.RELOC_CFG_WARM_BLOCKS v
  else if off = FABRIC.SHED_CTRL_BACKOFF_CLR.off then (if v.getLsbD 16 then s.after (execBackoffClr m s) else s)
  else s.writePlain p off v

/-- A ramp of 1 to 100 ms. -/
def State.writeRamp (s : State) (v : Word) (f : Fld) : State := s.writeIf (inRange 1 (f.of v) 100) Pg.mix f v

def State.writeMix (s : State) (m : Master) (off : Nat) (v : Word) : State :=
  let p := Pg.mix
  if off = MIX.RAMP_CFG_GAIN_MS.off then
    s.each [MIX.RAMP_CFG_SWAP_MS, MIX.RAMP_CFG_ROUTE_MS, MIX.RAMP_CFG_GAIN_MS] fun t f => t.writeRamp v f
  else if off = MIX.DIRECT_VAL_VALUE.off then s.submitDirect v
  else if off = MIX.COMMIT_CANCEL_GO.off then s.after (execCommitCancel m v s)
  else if off = MIX.BUS_CFG_LAW.off then
    s.writeIf (MIX.BUS_CFG_LAW.of v ≠ 3) p MIX.BUS_CFG_LAW v (s.get p MIX.BUS_SEL_BUS)
  else if off = MIX.MON_CFG_MTR_EN.off && s.part = .ca then s.writePlain p off (v &&& 0x7FFFFFFF)
  else if off = MIX.SNAP_CTRL_REQ.off then (if v.getLsbD 0 then s.after (execSnapReq m s) else s)
  else s.writePlain p off v

/-- CTX_DELAY and the group's DELAY follow R364. -/
def State.writeFlow (s : State) (m : Master) (n off : Nat) (v : Word) : State :=
  let p := Pg.flow n
  if off = FLOW.CTX_DELAY_DELAY.off then s.after (execCtxDelayWrite m n v s)
  else if off = FLOW.GRP_CFG_DELAY.off then s.after (execGrpDelayWrite m v s)
  else if off = FLOW.PATH_CFG_LOSS_MS.off then
    s.writeIf (1 ≤ FLOW.PATH_CFG_LOSS_MS.of v) p FLOW.PATH_CFG_LOSS_MS v
  else s.writePlain p off v

/-- COMP's ranges. -/
def compOk (v : Word) : Bool :=
  1 ≤ STIRRUP.COMP_INT_FU.of v && 1 ≤ STIRRUP.COMP_K_IN.of v && 10 ≤ STIRRUP.COMP_OZ_KHZ.of v && 1 ≤ STIRRUP.COMP_K_OUT.of v

/-- CTRL: its fields, then the bits that act. -/
def State.writeLoopCtrl (s : State) (m : Master) (n : Nat) (v : Word) : State :=
  let p := Pg.stirrup n
  let s := s.each [STIRRUP.CTRL_AVOID_NOW, STIRRUP.CTRL_SUPPLY_GRP, STIRRUP.CTRL_PD_EN, STIRRUP.CTRL_SIL_SLOT]
    fun t f => t.writeField p 0 v f
  let s := if v.getLsbD 31 then s.after (execLatchClr m n s) else s
  let s := if v.getLsbD 30 then s.after (execBaselineCap m n s) else s
  if v.getLsbD 29 then s.after (execAvoidApply m n s) else s

/-- COMP, CARRIER and the avoid table of loop 2k govern a bridged pair: writes on loop 2k + 1 are ignored (R406). -/
def State.writeStirrup (s : State) (m : Master) (n off : Nat) (v : Word) : State :=
  let p := Pg.stirrup n
  let governed := s.bridged n && n % 2 = 1
  if off = STIRRUP.CTRL_LATCH_CLR.off then s.writeLoopCtrl m n v
  else if off = STIRRUP.COMP_WINDOW.off then (if governed || !compOk v then s else s.writePlain p off v)
  else if off = STIRRUP.CARRIER_FC_REQ.off then (if governed then s else s.writePlain p off v)
  else if off = STIRRUP.PROT_PD_HOLD.off then
    let s := (s.writeField p 0 v STIRRUP.PROT_OC_LIMIT).writeField p 0 v STIRRUP.PROT_DC_LIMIT
    s.writeIf (1 ≤ STIRRUP.PROT_PD_HOLD.of v) p STIRRUP.PROT_PD_HOLD v
  else if off = STIRRUP.AVOID_DATA_FREQ.off then
    (if governed then s else s.writePlain p off v).advanceAvoid p
  else s.writePlain p off v

/-! ### The page header, and every page -/

/-- PG_CTRL: SRST before KILL before EN (R42 to R46). -/
def State.writeCtrlWord (s : State) (p : Nat) (v : Word) : State :=
  if unitOf p = .fixed then s
  else if v.getLsbD 3 then s.srstUnit p
  else if v.getLsbD 2 then s.killUnit p
  else if v.getLsbD 0 then s.enableUnit p
  else s.drainUnit p

/-- The block registers of a page. -/
def State.writeBlock (s : State) (m : Master) (p off : Nat) (v : Word) : State :=
  match unitOf p with
  | .life => s.writeLife m off v
  | .rein => s.writeRein m off v
  | .time => s.writeTime m off v
  | .girth => s.writeGirth m off v
  | .fabric => s.writeFabric m off v
  | .mix => s.writeMix m off v
  | .mac n => s.writeMac m n off v
  | .lane n => s.writeLane m n off v
  | .dram c => s.writeDram m c off v
  | .awl t => s.writeAwl m t off v
  | .flow n => s.writeFlow m n off v
  | .sap _ => s.writePlain p off v
  | .stirrup n => s.writeStirrup m n off v
  | .fixed =>
    if p = Pg.host then s.writeHost m off v
    else if p = Pg.ctrl then (if off = CTRL.WDOG_KICK_KICK.off then s.after (execWdogKick m v s) else s.writePlain p off v)
    else if p = Pg.harness then s.writeHarness m off v
    else if p = Pg.cinch then s.writeCinch m off v
    else if p = Pg.keeper then s.writeKeeper m off v
    else s.writeLane m (p - 0x028) off v

/-- A write to a register of a present page. -/
def State.writePage (s : State) (m : Master) (p off : Nat) (v : Word) : State :=
  if off = 0x008 then s.writeCtrlWord p v
  else if off = 0x010 then s.writeEvents p false v
  else if off = 0x014 then s.writeEvents p true v
  else if off = 0x018 then s.events p (v.toNat &&& eventMask p)
  else if off < 0x040 then s.writePlain p off v
  else if s.shown p off then s.writeBlock m p off v
  else s

/-- A write at a BAR0 offset by a master. -/
def State.writeReg (s : State) (m : Master) (off : Nat) (v : Word) : State :=
  let p := off / 4096
  if off % 4096 = 0x028 then s.lockWrite m p v else s.writeTo m p fun s => s.writePage m p (off % 4096) v

end Sys2Proof.Machine
end

