-- ==== Sys2Proof/Machine/Access.lean ====
section
/-!
DEFINITION. The commands of register access: reads and writes at BAR0 offsets (R11, R13), absent pages (R6), refused
accesses (R33), and the Harness grant (R226), whose transaction may be a register access of a control core.
-/

namespace Sys2Proof.Machine

/-- The bytes of BAR0. -/
def bar0Size : Nat := 2 ^ 26

/-- An aligned 32-bit word of BAR0. -/
def bar0Word (off : Nat) : Bool := off < bar0Size && off % 4 = 0

/-- BAR0 accepts aligned words and aligned pairs of words (R33). -/
def bar0Accepts (off size : Nat) : Bool := (size = 4 && off % 4 = 0) || (size = 8 && off % 8 = 0)

/-- ABSENT_PAGE_ACCESS (R6): zeros, and the count. -/
def execAbsentPageAccess (_ : Master) (write : Bool) (off : Nat) (s : State) : Outcome :=
  guardWf (bar0Word off) (.next (whenHolds (!s.present (off / 4096)) s fun s =>
    s.absentHit.answer (.ok (if write then [] else [0]))))

/-- A read of the words of an access in turn, the lower address first (R33). -/
def State.readWords (s : State) (m : Master) (off : Nat) : Nat → State × List Word
  | 0 => (s, [])
  | n + 1 =>
    let r := s.readReg m off
    let t := r.1.readWords m (off + 4) n
    (t.1, r.2 :: t.2)

/-- LO_READ (R11): a register read; that of a wide counter's _LO register captures the _HI half. A 64-bit read (`wide`)
reads two words, the lower address first (R33). A read of AWL.DBG_DATA, which is the upper word of its pair, may have to
wait (R124). -/
def execLoRead (m : Master) (off : Nat) (s : State) (wide : Bool := false) : Outcome :=
  guardWf (bar0Word off && (!wide || off % 8 = 0)) (
    let t := off / 4096 - 0x100
    if wide then
      if s.readWaits (off + 4) then (let r := s.readReg m off; execDbgDataRead m t r.1 (some r.2))
      else .next (let r := s.readWords m off 2; r.1.answer (.ok r.2))
    else if s.readWaits off then execDbgDataRead m t s
    else .next (let r := s.readReg m off; r.1.answer (.ok [r.2])))

/-- BAD_ACCESS (R33): the register is not changed. -/
def execBadAccess (_ : Bool) (off size : Nat) (s : State) : Outcome :=
  guardWf (off < bar0Size && !bar0Accepts off size) (.next (
    ((s.count Pg.host HOST.BAD_ACCESS).event Pg.host 3).answer .unsupported))

/-- NON_BAR_REQUEST (R33): counted nowhere. -/
def execNonBarRequest (_ : Bool) (_ : Nat) (s : State) : Outcome := .next (s.answer .unsupported)

/-- REGISTER_WRITE (R13): a write by its register's access type, or with the effect the register has. A 64-bit write is two
writes, the lower address first (R33). -/
def execRegisterWrite (m : Master) (off : Nat) (v : Word) (s : State) (upper : Option Word := none) : Outcome :=
  guardWf (bar0Word off && (upper.isNone || off % 8 = 0)) (.next (
    let s := s.writeReg m off v
    match upper with
    | some w => s.writeReg m (off + 4) w
    | none => s))

/-! ### The Harness grant -/

/-- The control core behind a Harness master. -/
def coreOf (master : Nat) : Master := .core (master - 7)

/-- The words of a register access by a control core: one, or two with the lower address first (R224). -/
def pageWords (r : HReq) : List Nat := (List.range (r.len / 4)).map fun k => r.addr % bar0Size + 4 * k

/-- A word of a request's data. -/
def HReqWord (r : HReq) (k : Nat) : Word :=
  let b (i : Nat) : Byte := (r.data[4 * k + i]?).getD 0
  wordOf (b 0) (b 1) (b 2) (b 3)

/-- The register pages serve a control core's access, which performs as R33 has it. -/
def State.servePages (s : State) (r : HReq) : State :=
  let m := coreOf r.master
  let resp := s.lastResp
  let s := s.each (List.range (pageWords r).length) fun t k =>
    let off := r.addr % bar0Size + 4 * k
    if r.write then t.writeReg m off (HReqWord r k)
    else
      let v := t.readReg m off
      v.1.portTxn Port.pages fun x => { x with rdata := x.rdata ++ bytesOf v.2 }
  { s with lastResp := resp }

/-- A winning register access that has to wait for the end of a pass (R124) holds its port meanwhile. -/
def State.grantWaits (s : State) (port : Nat) (r : HReq) : Bool :=
  port = Port.pages && !r.write && (pageWords r).any fun off => s.readWaits off

/-- The target begins the winner's transaction. -/
def State.serve (s : State) (port : Nat) (r : HReq) (ecc : List (Nat × Ecc)) : State :=
  if port < 32 then s.serveGirth port r
  else if port < Port.pages then s.serveDram (port - 32) port r ecc
  else if port = Port.pages then s.servePages r
  else s.serveLocal port r

/-- HARNESS_GRANT (R226): a free port grants the winner of its arbitration. `ecc` is what the check bits of a DRAM
transaction's words show. -/
def execHarnessGrant (port : Nat) (ecc : List (Nat × Ecc)) (s : State) : Outcome :=
  guardWf (port ≤ Port.sram) (.next (whenHolds (s.portFree port) s fun s =>
    match s.winner port with
    | none => s
    | some (i, w) => if s.grantWaits port w.req then s else (s.grant port i w).serve port w.req ecc))

end Sys2Proof.Machine
end

