-- ==== Sys2Proof/Machine/AwlOps.lean ====
section
/-!
DEFINITION. How a tile issues an instruction (chapters 04 and 05): loop ends and branches (R103 to R106, R135, R136), the
causes of AWL_ILLEGAL that decide before any effect (R121, R131, R132), retirement, clamps and saturating stores.
-/

namespace Sys2Proof.Machine

/-! ### Loop levels -/

/-- Level n closes: the levels inside it, if any are open, move out by one (log 22). -/
def Tile.closeLevel (t : Tile) (n : Nat) : Tile :=
  (List.range (t.ldepth - 1 - n)).foldl
    (fun x i =>
      { x with
        lc := nput 0 x.lc (n + i) (nget 0 x.lc (n + i + 1))
        ls := nput 0 x.ls (n + i) (nget 0 x.ls (n + i + 1))
        le := nput 0 x.le (n + i) (nget 0 x.le (n + i + 1))
        lrsd := nput 0 x.lrsd (n + i) (nget 0 x.lrsd (n + i + 1)) })
    { t with ldepth := t.ldepth - 1 }

/-- Loop-end evaluation of the n outermost levels at the retirement of the instruction at `a`: the tile and the address
at which execution continues (R103, R104). -/
def Tile.loopEnd (a : Nat) : Nat → Tile → Tile × Nat
  | 0, t => (t, a + 1)
  | n + 1, t =>
    if (nget 0 t.le n).toNat = a ∧ nget 0 t.lrsd n = t.rsd then
      if 1 < (nget 0 t.lc n).toNat then
        ({ t with lc := nput 0 t.lc n (nget 0 t.lc n - 1) }, (nget 0 t.ls n).toNat)
      else Tile.loopEnd a n (t.closeLevel n)
    else Tile.loopEnd a n t

/-- Retirement of the instruction at `a`, in sequence. -/
def Tile.retireAt (t : Tile) (a : Nat) : Tile × Nat := Tile.loopEnd a t.ldepth t

/-- A level's range contains an address. -/
def Tile.levelHolds (t : Tile) (n a : Nat) : Bool := (nget 0 t.ls n).toNat ≤ a && a ≤ (nget 0 t.le n).toNat

/-- The levels below n close from the innermost outwards, up to the first that contains the target or whose RPTB executed
at a lower RSD (R105). -/
def Tile.closeLevels (target : Nat) : Nat → Tile → Tile
  | 0, t => { t with ldepth := 0 }
  | n + 1, t =>
    if t.levelHolds n target || nget 0 t.lrsd n < t.rsd then { t with ldepth := n + 1 } else Tile.closeLevels target n t

/-- A taken branch closes levels where its target lies outside the innermost one, opened at the present RSD (R105). -/
def Tile.branchTo (target depth : Nat) (t : Tile) : Tile :=
  match depth with
  | 0 => t
  | n + 1 => if nget 0 t.lrsd n = t.rsd ∧ t.levelHolds n target = false then Tile.closeLevels target n t else t

/-- The address is the LE of an open level (R136). -/
def Tile.atLe (t : Tile) : Bool := (List.range t.ldepth).any fun n => nget 0 t.le n == t.pc

/-! ### Issue -/

/-- What an instruction does if nothing stands against it: the causes that do, its cost, the tile after it, where
execution continues (0x4000: beyond the memory), whether an accumulator clamped and whether a store saturated. -/
structure Issue where
  causes : List Nat
  cost : Nat
  tile : Tile
  next : Nat
  clamp : Bool
  sat : Bool
  deriving DecidableEq, Repr

/-- Execution would continue at 0x4000 (R132). -/
def beyond (next : Nat) : List Nat := if 0x4000 ≤ next then [7] else []

/-- A reserved value or use (R127). -/
def reservedIf (c : Bool) : List Nat := if c then [1] else []

/-- An instruction that continues in sequence; under RPT it stays for the repetitions that remain (R106, R136). -/
def Tile.inSequence (t : Tile) (cost : Nat) (causes : List Nat) (d : Done) : Issue :=
  if 1 < (t.rpt.getD ⟨0⟩).left then
    ⟨causes, cost, { d.tile with rpt := some ⟨(t.rpt.getD ⟨0⟩).left - 1⟩ }, t.pc.toNat, d.clamp, d.sat⟩
  else
    let r := ({ d.tile with rpt := none }).retireAt t.pc.toNat
    ⟨causes ++ beyond r.2, cost, r.1, r.2, d.clamp, d.sat⟩

/-- An instruction that RPT must not repeat (R106). -/
def Tile.notRepeated (t : Tile) : List Nat := if t.rpt.isSome then [8] else []

/-- A control instruction: where execution continues is its own. -/
def Tile.transfer (t : Tile) (cost : Nat) (causes : List Nat) (to' : Tile) (next : Nat) : Issue :=
  ⟨causes ++ t.notRepeated ++ beyond next, cost, to', next, false, false⟩

/-- The tile executes: it is present and its pass runs. -/
def State.executing (s : State) (t : Nat) : Bool :=
  s.present (Pg.awl t) && ((s.tile t).pass == .running || (s.tile t).pass == .missedRunning)

/-- AWL_AOV of a clamp (R115, R117). -/
def State.accumulatorClamped (s : State) (t : Nat) : State :=
  (((s.count (Pg.awl t) AWL.AOV_COUNT).event (Pg.awl t) 0).tileLife t 0).raise Src.awlAov t

/-- A saturating store (R118). -/
def State.storeSaturated (s : State) (t : Nat) : State := (s.count (Pg.awl t) AWL.SAT_COUNT).event (Pg.awl t) 1

/-- HU_OVER sets when the HU of the pass come to exceed TILE_COST (R120). -/
def State.huOver (s : State) (t before after : Nat) : State :=
  let c := s.get Pg.fabric FABRIC.TILE_COST_HU t
  if before ≤ c && c < after then s.event (Pg.awl t) 3 else s

/-- An instruction retires. -/
def State.retire (s : State) (t : Nat) (i : Issue) : State :=
  let x := s.tile t
  let s := s.setTile t { i.tile with pc := BitVec.ofNat 14 i.next, lastPc := x.pc, hu := x.hu + i.cost }
  let s := s.huOver t x.hu (x.hu + i.cost)
  let s := if i.clamp then s.accumulatorClamped t else s
  if i.sat then s.storeSaturated t else s

/-- The lowest-numbered cause ends the pass, and the instruction has no effect (R121, R131); else it retires. -/
def State.issueResult (s : State) (t : Nat) (i : Issue) : State :=
  match i.causes.min? with
  | some c => s.tileFault t c
  | none => s.retire t i

/-- Tile t issues an instruction; nothing issues while no pass of it runs. -/
def State.issue (s : State) (t : Nat) (f : Win → Tile → Issue) : Outcome :=
  guardWf (t < 256) (.next (whenHolds (s.executing t) s fun s => s.issueResult t (f (s.win t) (s.tile t))))

/-- An instruction of 1 HU without memory that touches only the tile. -/
def State.issueReg (s : State) (t : Nat) (f : Tile → Tile) : Outcome :=
  s.issue t fun _ x => x.inSequence 1 [] (plain (f x))

/-- The same with a reserved use. -/
def State.issueForm (s : State) (t : Nat) (reserved : Bool) (f : Tile → Tile) : Outcome :=
  s.issue t fun _ x => x.inSequence 1 (reservedIf reserved) (plain (f x))

end Sys2Proof.Machine
end

