-- ==== Sys2Proof/Machine/AwlAlu.lean ====
section
/-!
DEFINITION. Integer arithmetic of the tiles (major opcodes 0x2 and 0x3, R141 to R143).
-/

namespace Sys2Proof.Machine

/-- A two-operand instruction: its result and flags from G[a] and G[b], written to Gd. -/
def State.alu (s : State) (t : Nat) (gd ga gb : BitVec 5) (f : Word → Word → Word) (fl : Tile → Word → Word → Tile) :
    Outcome :=
  s.issueReg t fun x => (fl x (x.gReg ga) (x.gReg gb)).setG gd (f (x.gReg ga) (x.gReg gb))

/-- Flags of a logical result. -/
def logicFlags (f : Word → Word → Word) (x : Tile) (a b : Word) : Tile := x.flags (f a b) false false

def execAdd (t : Nat) (gd ga gb : BitVec 5) (s : State) : Outcome := s.alu t gd ga gb (· + ·) Tile.addFlags
def execSub (t : Nat) (gd ga gb : BitVec 5) (s : State) : Outcome := s.alu t gd ga gb (· - ·) Tile.subFlags
def execAnd (t : Nat) (gd ga gb : BitVec 5) (s : State) : Outcome :=
  s.alu t gd ga gb (· &&& ·) (logicFlags (· &&& ·))
def execOr (t : Nat) (gd ga gb : BitVec 5) (s : State) : Outcome :=
  s.alu t gd ga gb (· ||| ·) (logicFlags (· ||| ·))
def execXor (t : Nat) (gd ga gb : BitVec 5) (s : State) : Outcome :=
  s.alu t gd ga gb (· ^^^ ·) (logicFlags (· ^^^ ·))

/-- The shift count (R142). -/
def Tile.shiftCount (x : Tile) (gb : BitVec 5) (imm : Bool) : Nat :=
  if imm then gb.toNat else (x.gReg gb).toNat % 32

/-- SHL (R141). -/
def execShl (t : Nat) (gd ga gb : BitVec 5) (imm : Bool) (s : State) : Outcome :=
  s.issueReg t fun x =>
    let a := x.gReg ga
    let k := x.shiftCount gb imm
    (x.flags (a <<< k) (shlOverflow a k) (shlOut a k)).setG gd (a <<< k)

/-- SHR: zero fill. -/
def execShr (t : Nat) (gd ga gb : BitVec 5) (imm : Bool) (s : State) : Outcome :=
  s.issueReg t fun x =>
    let a := x.gReg ga
    let k := x.shiftCount gb imm
    (x.flags (a >>> k) false (shrOut a k)).setG gd (a >>> k)

/-- ASR: sign fill. -/
def execAsr (t : Nat) (gd ga gb : BitVec 5) (imm : Bool) (s : State) : Outcome :=
  s.issueReg t fun x =>
    let a := x.gReg ga
    let k := x.shiftCount gb imm
    (x.flags (a.sshiftRight k) false (shrOut a k)).setG gd (a.sshiftRight k)

/-- One of two words; C says that the first is chosen, as it is on equality. -/
def State.choose (s : State) (t : Nat) (gd ga gb : BitVec 5) (first : Word → Word → Bool) : Outcome :=
  s.issueReg t fun x =>
    let a := x.gReg ga
    let b := x.gReg gb
    let r := if first a b then a else b
    (x.flags r false (first a b)).setG gd r

def execMin (t : Nat) (gd ga gb : BitVec 5) (s : State) : Outcome := s.choose t gd ga gb fun a b => a.toInt ≤ b.toInt
def execMax (t : Nat) (gd ga gb : BitVec 5) (s : State) : Outcome := s.choose t gd ga gb fun a b => b.toInt ≤ a.toInt

/-- ABS: 0x8000_0000 gives itself and sets V. -/
def execAbs (t : Nat) (gd ga : BitVec 5) (s : State) : Outcome :=
  s.issueReg t fun x =>
    let a := x.gReg ga
    let r := if a.msb then -a else a
    (x.flags r (a == 0x80000000) a.msb).setG gd r

def execNeg (t : Nat) (gd ga : BitVec 5) (s : State) : Outcome :=
  s.issueReg t fun x =>
    let a := x.gReg ga
    (x.flags (-a) (a == 0x80000000) (a == 0)).setG gd (-a)

/-- CMP: flags only. -/
def execCmp (t : Nat) (ga gb : BitVec 5) (s : State) : Outcome :=
  s.issueReg t fun x => x.subFlags (x.gReg ga) (x.gReg gb)

/-! ### Immediates (R143) -/

def execAddi (t : Nat) (gd ga : BitVec 5) (imm : BitVec 16) (s : State) : Outcome :=
  s.issueReg t fun x =>
    (x.addFlags (x.gReg ga) (imm.signExtend 32)).setG gd (x.gReg ga + imm.signExtend 32)

/-- The constant of LI; MODE 0b11 is reserved. -/
def liValue (mode : BitVec 2) (imm : BitVec 16) : Word :=
  if mode = 0 then imm.signExtend 32 else if mode = 1 then imm.setWidth 32 else imm.setWidth 32 <<< 16

def execLi (t : Nat) (gd : BitVec 5) (mode : BitVec 2) (imm : BitVec 16) (s : State) : Outcome :=
  s.issueForm t (mode == 3) fun x => x.setG gd (liValue mode imm)

/-- LUI: the low half stays. -/
def execLui (t : Nat) (gd : BitVec 5) (imm : BitVec 16) (s : State) : Outcome :=
  s.issueReg t fun x => x.setG gd (imm ++ (x.gReg gd).setWidth 16)

def execCmpi (t : Nat) (ga : BitVec 5) (imm : BitVec 16) (s : State) : Outcome :=
  s.issueReg t fun x => x.subFlags (x.gReg ga) (imm.signExtend 32)

end Sys2Proof.Machine
end

