-- ==== Sys2Proof/Machine/AwlCode.lean ====
section
/-!
DEFINITION. The 32-bit words of the Awl instructions (R126 to R154): an encoder and a decoder. The commands of the block
carry an instruction's fields; these functions say which word of instruction memory that is.
-/

namespace Sys2Proof.Machine

/-- Group, function code and the 24 bits that follow. -/
def Awl.word (group func : BitVec 4) (body : BitVec 24) : Word := group ++ func ++ body

/-- The layouts that several instructions share. -/
def Awl.bodyMem (am : BitVec 2) (pn : BitVec 3) (g : BitVec 5) (d : BitVec 8) : BitVec 24 := am ++ pn ++ g ++ 0#6 ++ d
def Awl.bodyAlu (gd ga gb : BitVec 5) (imm : Bool) : BitVec 24 := gd ++ ga ++ gb ++ BitVec.ofBool imm ++ 0#8
def Awl.bodyMul (k : BitVec 2) (ga gb : BitVec 5) : BitVec 24 := k ++ ga ++ gb ++ 0#12
def Awl.bodyBranch (ind : Bool) (target : BitVec 14) (gs : BitVec 5) : BitVec 24 :=
  BitVec.ofBool ind ++ 0#9 ++ (if ind then (0#9 ++ gs : BitVec 14) else target)
def Awl.bodySet (n : BitVec 3) (mode : BitVec 2) (imm : BitVec 16) : BitVec 24 := n ++ mode ++ 0#3 ++ imm
def Awl.bodyChan (pn : BitVec 3) (r : Bool) (gc : BitVec 5) (ch : BitVec 11) : BitVec 24 :=
  pn ++ BitVec.ofBool r ++ gc ++ 0#4 ++ ch
def Awl.bodyImm (func : BitVec 2) (gd : BitVec 5) (ga : BitVec 5) (imm : BitVec 16) : Word := 3#4 ++ func ++ gd ++ ga ++ imm

/-- The word of an Awl instruction; none for the other commands. -/
def Awl.encode : Instr → Option Word
  | .nop _ w => some w
  | .waitb _ _ => some (Awl.word 0 1 0)
  | .rpt _ r count gc =>
    some (Awl.word 0 2 (BitVec.ofBool r ++ 0#7 ++ (if r then (0#11 ++ gc : BitVec 16) else count)))
  | .rptb _ r endOfs count gc =>
    some (Awl.word 0 3 (BitVec.ofBool r ++ endOfs ++ (if r then (0#7 ++ gc : BitVec 12) else count)))
  | .br _ ind target gs => some (Awl.word 0 4 (Awl.bodyBranch ind target gs))
  | .brc _ cond target => some (Awl.word 0 5 (cond ++ 0#6 ++ target))
  | .call _ ind target gs => some (Awl.word 0 6 (Awl.bodyBranch ind target gs))
  | .ret _ => some (Awl.word 0 7 0)
  | .fence _ gd sel _ => some (Awl.word 0 8 (gd ++ 0#17 ++ sel))
  | .ld _ am pn g d => some (Awl.word 1 0 (Awl.bodyMem am pn g d))
  | .st _ am pn g d => some (Awl.word 1 1 (Awl.bodyMem am pn g d))
  | .ldx _ am pn g d => some (Awl.word 1 2 (Awl.bodyMem am pn g d))
  | .ldy _ am pn g d => some (Awl.word 1 3 (Awl.bodyMem am pn g d))
  | .ldxy _ mx px ga my py gb =>
    some (Awl.word 1 4 (BitVec.ofBool mx ++ px ++ ga ++ BitVec.ofBool my ++ py ++ gb ++ 0#6))
  | .add _ gd ga gb => some (Awl.word 2 0 (Awl.bodyAlu gd ga gb false))
  | .sub _ gd ga gb => some (Awl.word 2 1 (Awl.bodyAlu gd ga gb false))
  | .and _ gd ga gb => some (Awl.word 2 2 (Awl.bodyAlu gd ga gb false))
  | .or _ gd ga gb => some (Awl.word 2 3 (Awl.bodyAlu gd ga gb false))
  | .xor _ gd ga gb => some (Awl.word 2 4 (Awl.bodyAlu gd ga gb false))
  | .shl _ gd ga gb imm => some (Awl.word 2 5 (Awl.bodyAlu gd ga gb imm))
  | .shr _ gd ga gb imm => some (Awl.word 2 6 (Awl.bodyAlu gd ga gb imm))
  | .asr _ gd ga gb imm => some (Awl.word 2 7 (Awl.bodyAlu gd ga gb imm))
  | .min _ gd ga gb => some (Awl.word 2 8 (Awl.bodyAlu gd ga gb false))
  | .max _ gd ga gb => some (Awl.word 2 9 (Awl.bodyAlu gd ga gb false))
  | .abs _ gd ga => some (Awl.word 2 10 (Awl.bodyAlu gd ga 0 false))
  | .neg _ gd ga => some (Awl.word 2 11 (Awl.bodyAlu gd ga 0 false))
  | .cmp _ ga gb => some (Awl.word 2 12 (Awl.bodyAlu 0 ga gb false))
  | .addi _ gd ga imm => some (Awl.bodyImm 0 gd ga imm)
  | .li _ gd mode imm => some (Awl.bodyImm 1 gd (0#3 ++ mode) imm)
  | .lui _ gd imm => some (Awl.bodyImm 2 gd 0 imm)
  | .cmpi _ ga imm => some (Awl.bodyImm 3 0 ga imm)
  | .mpy _ k ga gb => some (Awl.word 4 0 (Awl.bodyMul k ga gb))
  | .mac _ k ga gb => some (Awl.word 4 1 (Awl.bodyMul k ga gb))
  | .msu _ k ga gb => some (Awl.word 4 2 (Awl.bodyMul k ga gb))
  | .macxy _ k mx px my py =>
    some (Awl.word 4 3 (k ++ BitVec.ofBool mx ++ px ++ BitVec.ofBool my ++ py ++ 0#14))
  | .tapm _ k mx px my py =>
    some ((5#4 ++ k ++ BitVec.ofBool mx ++ px ++ BitVec.ofBool my ++ py ++ 0#18 : Word))
  | .sacc _ k dst pm pn gd shift =>
    some (Awl.word 6 0 (k ++ BitVec.ofBool dst ++ BitVec.ofBool pm ++ pn ++ gd ++ 0#7 ++ shift))
  | .clra _ k all => some (Awl.word 6 1 (k ++ BitVec.ofBool all ++ 0#21))
  | .mova _ mode ad as g word => some (Awl.word 6 2 (mode ++ ad ++ as ++ g ++ word ++ 0#11))
  | .sha _ k n => some (Awl.word 6 3 (k ++ 0#16 ++ n))
  | .adda _ ad as => some (Awl.word 6 4 (ad ++ as ++ 0#20))
  | .skv _ k pm pn gf => some (Awl.word 7 0 (k ++ BitVec.ofBool pm ++ pn ++ gf ++ 0#13))
  | .biq _ k ps pc gx => some (Awl.word 7 1 (k ++ ps ++ pc ++ gx ++ 0#11))
  | .gramp _ k gx mg pg mt pt acc =>
    some (Awl.word 7 2 (k ++ gx ++ BitVec.ofBool mg ++ pg ++ BitVec.ofBool mt ++ pt ++ BitVec.ofBool acc ++ 0#8))
  | .peak _ k sq pm pn gx =>
    some (Awl.word 7 3 (k ++ BitVec.ofBool sq ++ BitVec.ofBool pm ++ pn ++ gx ++ 0#12))
  | .silchk _ gd pm ps gx => some (Awl.word 7 4 (gd ++ BitVec.ofBool pm ++ ps ++ gx ++ 0#10))
  | .inp _ pn r gc ch => some (Awl.word 8 0 (Awl.bodyChan pn r gc ch))
  | .outp _ pn r gc ch => some (Awl.word 8 1 (Awl.bodyChan pn r gc ch))
  | .parm _ gd bank r gs slot =>
    some (Awl.word 8 2 (gd ++ BitVec.ofBool bank ++ BitVec.ofBool r ++ gs ++ slot))
  | .setp _ n mode imm => some (Awl.word 9 0 (Awl.bodySet n mode imm))
  | .getp _ n gd => some (Awl.word 9 0 (Awl.bodySet n 2 (0#11 ++ gd)))
  | .addp _ pd ps imm => some (Awl.word 9 1 (pd ++ ps ++ 0#2 ++ imm))
  | .setm _ n mode imm => some (Awl.word 9 2 (Awl.bodySet n mode imm))
  | .getm _ n gd => some (Awl.word 9 2 (Awl.bodySet n 2 (0#11 ++ gd)))
  | .setl _ n mode imm => some (Awl.word 9 3 (Awl.bodySet n mode imm))
  | .getl _ n gd => some (Awl.word 9 3 (Awl.bodySet n 2 (0#11 ++ gd)))
  | _ => none

/-- `n` bits of a word from bit `lo` upwards. -/
def Awl.bits (w : Word) (lo n : Nat) : BitVec n := w.extractLsb' lo n

/-- One bit of a word. -/
def Awl.flag (w : Word) (lo : Nat) : Bool := w.getLsbD lo

/-- The bits of a zero field are zero (R127). -/
def Awl.zero (w : Word) (lo n : Nat) : Bool := Awl.bits w lo n == 0

/-- An instruction, if its zero fields are zero. -/
def Awl.given (ok : Bool) (i : Instr) : Option Instr := if ok then some i else none

/-- Control (R133). -/
def Awl.decodeControl (t : Nat) (w : Word) : Option Instr :=
  let r := Awl.flag w 23
  match (Awl.bits w 24 4).toNat with
  | 1 => Awl.given (Awl.zero w 0 24) (.waitb t 0)
  | 2 =>
    if r then Awl.given (Awl.zero w 5 18) (.rpt t true 0 (Awl.bits w 0 5))
    else Awl.given (Awl.zero w 16 7) (.rpt t false (Awl.bits w 0 16) 0)
  | 3 =>
    if r then Awl.given (Awl.zero w 5 7) (.rptb t true (Awl.bits w 12 11) 0 (Awl.bits w 0 5))
    else some (.rptb t false (Awl.bits w 12 11) (Awl.bits w 0 12) 0)
  | 4 =>
    if r then Awl.given (Awl.zero w 5 18) (.br t true 0 (Awl.bits w 0 5))
    else Awl.given (Awl.zero w 14 9) (.br t false (Awl.bits w 0 14) 0)
  | 5 => Awl.given (Awl.zero w 14 6) (.brc t (Awl.bits w 20 4) (Awl.bits w 0 14))
  | 6 =>
    if r then Awl.given (Awl.zero w 5 18) (.call t true 0 (Awl.bits w 0 5))
    else Awl.given (Awl.zero w 14 9) (.call t false (Awl.bits w 0 14) 0)
  | 7 => Awl.given (Awl.zero w 0 24) (.ret t)
  | 8 => Awl.given (Awl.zero w 2 17) (.fence t (Awl.bits w 19 5) (Awl.bits w 0 2) 0)
  | _ => none

/-- Load and store (R139). -/
def Awl.decodeMem (t : Nat) (w : Word) : Option Instr :=
  let am := Awl.bits w 22 2
  let pn := Awl.bits w 19 3
  let g := Awl.bits w 14 5
  let d := Awl.bits w 0 8
  match (Awl.bits w 24 4).toNat with
  | 0 => Awl.given (Awl.zero w 8 6) (.ld t am pn g d)
  | 1 => Awl.given (Awl.zero w 8 6) (.st t am pn g d)
  | 2 => Awl.given (Awl.zero w 8 6) (.ldx t am pn g d)
  | 3 => Awl.given (Awl.zero w 8 6) (.ldy t am pn g d)
  | 4 => Awl.given (Awl.zero w 0 6)
      (.ldxy t (Awl.flag w 23) (Awl.bits w 20 3) (Awl.bits w 15 5) (Awl.flag w 14) (Awl.bits w 11 3) (Awl.bits w 6 5))
  | _ => none

/-- Register ALU (R141). -/
def Awl.decodeAlu (t : Nat) (w : Word) : Option Instr :=
  let gd := Awl.bits w 19 5
  let ga := Awl.bits w 14 5
  let gb := Awl.bits w 9 5
  let imm := Awl.flag w 8
  let z := Awl.zero w 0 9
  match (Awl.bits w 24 4).toNat with
  | 0 => Awl.given z (.add t gd ga gb)
  | 1 => Awl.given z (.sub t gd ga gb)
  | 2 => Awl.given z (.and t gd ga gb)
  | 3 => Awl.given z (.or t gd ga gb)
  | 4 => Awl.given z (.xor t gd ga gb)
  | 5 => Awl.given (Awl.zero w 0 8) (.shl t gd ga gb imm)
  | 6 => Awl.given (Awl.zero w 0 8) (.shr t gd ga gb imm)
  | 7 => Awl.given (Awl.zero w 0 8) (.asr t gd ga gb imm)
  | 8 => Awl.given z (.min t gd ga gb)
  | 9 => Awl.given z (.max t gd ga gb)
  | 10 => Awl.given (Awl.zero w 0 14) (.abs t gd ga)
  | 11 => Awl.given (Awl.zero w 0 14) (.neg t gd ga)
  | 12 => Awl.given (z && Awl.zero w 19 5) (.cmp t ga gb)
  | _ => none

/-- Immediate ALU (R143). -/
def Awl.decodeImm (t : Nat) (w : Word) : Option Instr :=
  let gd := Awl.bits w 21 5
  let imm := Awl.bits w 0 16
  match (Awl.bits w 26 2).toNat with
  | 0 => some (.addi t gd (Awl.bits w 16 5) imm)
  | 1 => Awl.given (Awl.zero w 18 3) (.li t gd (Awl.bits w 16 2) imm)
  | 2 => Awl.given (Awl.zero w 16 5) (.lui t gd imm)
  | _ => Awl.given (Awl.zero w 21 5) (.cmpi t (Awl.bits w 16 5) imm)

/-- Multiply (R144). -/
def Awl.decodeMul (t : Nat) (w : Word) : Option Instr :=
  let k := Awl.bits w 22 2
  let ga := Awl.bits w 17 5
  let gb := Awl.bits w 12 5
  match (Awl.bits w 24 4).toNat with
  | 0 => Awl.given (Awl.zero w 0 12) (.mpy t k ga gb)
  | 1 => Awl.given (Awl.zero w 0 12) (.mac t k ga gb)
  | 2 => Awl.given (Awl.zero w 0 12) (.msu t k ga gb)
  | 3 => Awl.given (Awl.zero w 0 14)
      (.macxy t k (Awl.flag w 21) (Awl.bits w 18 3) (Awl.flag w 17) (Awl.bits w 14 3))
  | _ => none

/-- TAPM (R145). -/
def Awl.decodeTap (t : Nat) (w : Word) : Option Instr :=
  Awl.given (Awl.zero w 0 18)
    (.tapm t (Awl.bits w 26 2) (Awl.flag w 25) (Awl.bits w 22 3) (Awl.flag w 21) (Awl.bits w 18 3))

/-- Accumulators (R146). -/
def Awl.decodeAcc (t : Nat) (w : Word) : Option Instr :=
  let k := Awl.bits w 22 2
  match (Awl.bits w 24 4).toNat with
  | 0 => Awl.given (Awl.zero w 5 7)
      (.sacc t k (Awl.flag w 21) (Awl.flag w 20) (Awl.bits w 17 3) (Awl.bits w 12 5) (Awl.bits w 0 5))
  | 1 => Awl.given (Awl.zero w 0 21) (.clra t k (Awl.flag w 21))
  | 2 => Awl.given (Awl.zero w 0 11)
      (.mova t k (Awl.bits w 20 2) (Awl.bits w 18 2) (Awl.bits w 13 5) (Awl.bits w 11 2))
  | 3 => Awl.given (Awl.zero w 6 16) (.sha t k (Awl.bits w 0 6))
  | 4 => Awl.given (Awl.zero w 0 20) (.adda t k (Awl.bits w 20 2))
  | _ => none

/-- Audio specials (R147). -/
def Awl.decodeSpecial (t : Nat) (w : Word) : Option Instr :=
  let k := Awl.bits w 22 2
  match (Awl.bits w 24 4).toNat with
  | 0 => Awl.given (Awl.zero w 0 13) (.skv t k (Awl.flag w 21) (Awl.bits w 18 3) (Awl.bits w 13 5))
  | 1 => Awl.given (Awl.zero w 0 11) (.biq t k (Awl.bits w 19 3) (Awl.bits w 16 3) (Awl.bits w 11 5))
  | 2 => Awl.given (Awl.zero w 0 8)
      (.gramp t k (Awl.bits w 17 5) (Awl.flag w 16) (Awl.bits w 13 3) (Awl.flag w 12) (Awl.bits w 9 3) (Awl.flag w 8))
  | 3 => Awl.given (Awl.zero w 0 12)
      (.peak t k (Awl.flag w 21) (Awl.flag w 20) (Awl.bits w 17 3) (Awl.bits w 12 5))
  | 4 => Awl.given (Awl.zero w 0 10)
      (.silchk t (Awl.bits w 19 5) (Awl.flag w 18) (Awl.bits w 15 3) (Awl.bits w 10 5))
  | _ => none

/-- Block I/O and parameters (R152). -/
def Awl.decodeBlock (t : Nat) (w : Word) : Option Instr :=
  match (Awl.bits w 24 4).toNat with
  | 0 => Awl.given (Awl.zero w 11 4) (.inp t (Awl.bits w 21 3) (Awl.flag w 20) (Awl.bits w 15 5) (Awl.bits w 0 11))
  | 1 => Awl.given (Awl.zero w 11 4) (.outp t (Awl.bits w 21 3) (Awl.flag w 20) (Awl.bits w 15 5) (Awl.bits w 0 11))
  | 2 => some (.parm t (Awl.bits w 19 5) (Awl.flag w 18) (Awl.flag w 17) (Awl.bits w 12 5) (Awl.bits w 0 12))
  | _ => none

/-- A set, or with MODE 0b10 a read (R153). -/
def Awl.setOrGet (w : Word) (set_ get_ : Instr) : Option Instr :=
  Awl.given (Awl.zero w 16 3 && (Awl.bits w 19 2 != 2 || Awl.zero w 5 11)) (if Awl.bits w 19 2 = 2 then get_ else set_)

/-- Pointer setup (R153, R154). -/
def Awl.decodePointer (t : Nat) (w : Word) : Option Instr :=
  let n := Awl.bits w 21 3
  let mode := Awl.bits w 19 2
  let imm := Awl.bits w 0 16
  let gd := Awl.bits w 0 5
  match (Awl.bits w 24 4).toNat with
  | 0 => Awl.setOrGet w (.setp t n mode imm) (.getp t n gd)
  | 1 => Awl.given (Awl.zero w 16 2) (.addp t n (Awl.bits w 18 3) imm)
  | 2 => Awl.setOrGet w (.setm t n mode imm) (.getm t n gd)
  | 3 => Awl.setOrGet w (.setl t n mode imm) (.getl t n gd)
  | _ => none

/-- The instruction other than NOP that a word holds, for tile t; none for NOP and for a reserved word (R126, R127). -/
def Awl.decodeOp (t : Nat) (w : Word) : Option Instr :=
  match (Awl.bits w 28 4).toNat with
  | 0 => Awl.decodeControl t w
  | 1 => Awl.decodeMem t w
  | 2 => Awl.decodeAlu t w
  | 3 => Awl.decodeImm t w
  | 4 => Awl.decodeMul t w
  | 5 => Awl.decodeTap t w
  | 6 => Awl.decodeAcc t w
  | 7 => Awl.decodeSpecial t w
  | 8 => Awl.decodeBlock t w
  | 9 => Awl.decodePointer t w
  | _ => none

/-- The instruction of a word. A reserved word is issued as NOP's row with that word, and raises cause 0x1. -/
def Awl.decode (t : Nat) (w : Word) : Instr := (Awl.decodeOp t w).getD (.nop t w)

/-- Fields that the chosen form of an instruction does not use are zero, and the operands that no word holds (WAITB's
completion time, FENCE's age) are zero: the instructions that a word names. -/
def Awl.canonical : Instr → Bool
  | .nop t w => (Awl.decodeOp t w).isNone
  | .waitb _ done => done == 0
  | .rpt _ r count gc => if r then count == 0 else gc == 0
  | .rptb _ r _ count gc => if r then count == 0 else gc == 0
  | .br _ ind target gs => if ind then target == 0 else gs == 0
  | .call _ ind target gs => if ind then target == 0 else gs == 0
  | .fence _ _ _ age => age == 0
  | .setp _ _ mode _ => mode != 2
  | .setm _ _ mode _ => mode != 2
  | .setl _ _ mode _ => mode != 2
  | i => (Awl.encode i).isSome

end Sys2Proof.Machine
end

