-- ==== Sys2Proof/Machine/AwlControl.lean ====
section
/-!
DEFINITION. The control instructions of the tiles (major opcode 0x0, R133 to R138).
-/

namespace Sys2Proof.Machine

/-- NOP (R133): word 0 does nothing; a reserved word raises cause 0x1 (R127). -/
def execNop (t : Nat) (w : Word) (s : State) : Outcome :=
  guardWf (w == 0 || (Awl.decodeOp t w).isNone) (s.issueForm t (w != 0) fun x => x)

/-- WAITB (R133): the pass ends `done` cycles after its tick; the PC stays (R59, R62). -/
def execWaitb (t : Nat) (done : Nat) (s : State) : Outcome :=
  guardWf (t < 256) (.next (whenHolds (s.executing t) s fun s =>
    if (s.tile t).rpt.isSome then s.tileFault t 8
    else (s.setTile t { s.tile t with lastPc := (s.tile t).pc }).completePass t done))

/-- The count of RPT and RPTB: the immediate, or G[c][15:0]. -/
def Tile.repeatCount (x : Tile) (r : Bool) (count : BitVec 16) (gc : BitVec 5) : Nat :=
  if r then (x.gReg gc).toNat % 2 ^ 16 else count.toNat

/-- RPT: n repetitions of the next instruction; 0 skips it, and the skip counts as its retirement (R106, R136). -/
def Tile.rptIssue (x : Tile) (reserved : Bool) (n : Nat) : Issue :=
  let causes := reservedIf (reserved || x.atLe)
  let a := x.pc.toNat + 1
  if n = 0 && a < 0x4000 then
    let r := x.retireAt a
    x.transfer 1 causes r.1 r.2
  else x.transfer 1 causes { x with rpt := some ⟨n⟩ } a

/-- RPT (R106). -/
def execRpt (t : Nat) (r : Bool) (count : BitVec 16) (gc : BitVec 5) (s : State) : Outcome :=
  s.issue t fun _ x => x.rptIssue (if r then count != 0 else gc != 0) (x.repeatCount r count gc)

/-- A level opens over [LS, LE] with count n (R103). -/
def Tile.openLevel (x : Tile) (n : Nat) (ls le : Nat) : Tile :=
  let k := x.ldepth
  { x with
    ldepth := k + 1
    lc := nput 0 x.lc k (BitVec.ofNat 16 n)
    ls := nput 0 x.ls k (BitVec.ofNat 14 ls)
    le := nput 0 x.le k (BitVec.ofNat 14 le)
    lrsd := nput 0 x.lrsd k x.rsd }

/-- RPTB: a count of 0 skips to LE + 1 and counts as the retirement of the instruction at LE (R103, R133, R136). -/
def Tile.rptbIssue (x : Tile) (reserved : Bool) (endOfs n : Nat) : Issue :=
  let start := x.pc.toNat + 1
  let le := start + endOfs
  let causes := reservedIf (reserved || x.atLe) ++ (if x.ldepth = 4 then [4] else []) ++ beyond le
  if n = 0 then
    let r := x.retireAt le
    x.transfer 1 causes r.1 r.2
  else x.transfer 1 causes (x.openLevel n start le) start

/-- RPTB (R103). -/
def execRptb (t : Nat) (r : Bool) (endOfs : BitVec 11) (count : BitVec 12) (gc : BitVec 5) (s : State) : Outcome :=
  s.issue t fun _ x =>
    x.rptbIssue (if r then count != 0 else gc != 0) endOfs.toNat (x.repeatCount r (count.setWidth 16) gc)

/-- The target of BR and CALL. -/
def Tile.target (x : Tile) (ind : Bool) (target : BitVec 14) (gs : BitVec 5) : Nat :=
  if ind then (x.gReg gs).toNat % 2 ^ 14 else target.toNat

/-- The field that the form does not use. -/
def unusedTarget (ind : Bool) (target : BitVec 14) (gs : BitVec 5) : Bool := if ind then target != 0 else gs != 0

/-- BR (R133): a taken branch, which closes levels by R105. -/
def execBr (t : Nat) (ind : Bool) (target : BitVec 14) (gs : BitVec 5) (s : State) : Outcome :=
  s.issue t fun _ x =>
    let a := x.target ind target gs
    x.transfer 2 (reservedIf (unusedTarget ind target gs)) (Tile.branchTo a x.ldepth x) a

/-- BRC (R134): taken as BR; else in sequence. -/
def execBrc (t : Nat) (cond : BitVec 4) (target : BitVec 14) (s : State) : Outcome :=
  s.issue t fun _ x =>
    let causes := reservedIf (cond == 15)
    if x.holds cond then x.transfer 2 causes (Tile.branchTo target.toNat x.ldepth x) target.toNat
    else
      let r := x.retireAt x.pc.toNat
      x.transfer 1 causes r.1 r.2

/-- CALL (R133): the return address is pushed; at RSD = 8 cause 0x5, at 0x3FFF cause 0x7 (R132). -/
def execCall (t : Nat) (ind : Bool) (target : BitVec 14) (gs : BitVec 5) (s : State) : Outcome :=
  s.issue t fun _ x =>
    let causes := reservedIf (unusedTarget ind target gs) ++ (if x.rsd = 8 then [5] else []) ++ beyond (x.pc.toNat + 1)
    x.transfer 2 causes { x with ret := nput 0 x.ret x.rsd (x.pc + 1), rsd := x.rsd + 1 } (x.target ind target gs)

/-- RET (R133): a return to LE + 1 at the level's call depth evaluates the loop end (R135). -/
def Tile.retIssue (x : Tile) : Issue :=
  let a := (nget 0 x.ret (x.rsd - 1)).toNat
  let y := { x with rsd := x.rsd - 1 }
  let r := if a = 0 then (y, 0) else y.retireAt (a - 1)
  x.transfer 2 (if x.rsd = 0 then [6] else []) r.1 r.2

def execRet (t : Nat) (s : State) : Outcome := s.issue t fun _ x => x.retIssue

/-- REMAIN: cycles left before the fence, as `age` cycles ago (R138). -/
def State.remain (s : State) (t age : Nat) : Nat :=
  let d := s.dom (s.tileDomain t)
  if d.fenced then 0 else d.tickAt + d.tF - (s.now - age)

/-- The context words of FENCE (R138). -/
def State.contextWord (s : State) (t age : Nat) (sel : BitVec 2) : Word :=
  let x := s.tile t
  match sel.toNat with
  | 0 => BitVec.ofNat 32 (s.remain t age)
  | 1 => BitVec.ofNat 32 x.since
  | 2 => x.tickNo
  | _ => BitVec.ofNat 32 (s.get (Pg.awl t) AWL.PSTAT_ACTIVE_BANK + 2 * s.get (Pg.awl t) AWL.PSTAT_RAMP_BUSY +
      4 * bit x.prevFailed)

/-- FENCE (R138); REMAIN is at most 3.2 ns old, which is an age of 0 to 2 cycles. -/
def execFence (t : Nat) (gd : BitVec 5) (sel : BitVec 2) (age : Nat) (s : State) : Outcome :=
  guardWf (age ≤ 2) (s.issue t fun _ x =>
    let r := x.retireAt x.pc.toNat
    x.transfer 1 [] (r.1.setG gd (s.contextWord t age sel)) r.2)

end Sys2Proof.Machine
end

