-- ==== Sys2Proof/Machine/AwlMac.lean ====
section
/-!
DEFINITION. Multiply, tap, accumulator and audio special instructions of the tiles (major opcodes 0x4 to 0x7; R114 to
R118, R122, R144 to R151).
-/

namespace Sys2Proof.Machine

/-- A change of the tile after an accumulation. -/
def Done.on (d : Done) (f : Tile → Tile) : Done := { d with tile := f d.tile }

/-- An instruction on registers and accumulators. -/
def State.issueAcc (s : State) (t : Nat) (reserved : Bool) (f : Tile → Done) : Outcome :=
  s.issue t fun _ x => x.inSequence 1 (reservedIf reserved) (f x)

/-! ### Multiply and tap (R144, R145) -/

def execMpy (t : Nat) (k : BitVec 2) (ga gb : BitVec 5) (s : State) : Outcome :=
  s.issueAcc t false fun x => plain (x.accLoad k (product (x.gReg ga) (x.gReg gb)))

def execMac (t : Nat) (k : BitVec 2) (ga gb : BitVec 5) (s : State) : Outcome :=
  s.issueAcc t false fun x => x.accAdd k (product (x.gReg ga) (x.gReg gb))

def execMsu (t : Nat) (k : BitVec 2) (ga gb : BitVec 5) (s : State) : Outcome :=
  s.issueAcc t false fun x => x.accAdd k (-product (x.gReg ga) (x.gReg gb))

def execMacxy (t : Nat) (k : BitVec 2) (mx : Bool) (px : BitVec 3) (my : Bool) (py : BitVec 3) (s : State) : Outcome :=
  s.issue t fun w x =>
    let p := product (x.readX w (x.pReg px)) (x.readY w (x.pReg py))
    x.inSequence 1 (w.xCause (x.pReg px)) ((x.accAdd k p).on fun y => y.post2 mx px my py)

/-- TAPM (R145): the tap word is added and moved to the next place, the move even while A[k] is clamped. -/
def execTapm (t : Nat) (k : BitVec 2) (mx : Bool) (px : BitVec 3) (my : Bool) (py : BitVec 3) (s : State) : Outcome :=
  s.issue t fun w x =>
    let v := x.readX w (x.pReg px)
    let c := x.readY w (x.pReg py)
    let dst := x.at_ px 1
    x.inSequence 1 (w.xCause (x.pReg px) ++ w.xCause dst)
      ((x.accAdd k (product v c)).on fun y => (y.writeX w dst v).post2 mx px my py)

/-! ### Accumulators (R118, R146) -/

/-- SHIFT outside -8 to 8, and fields that the form does not use. -/
def reservedSacc (dst pm : Bool) (pn : BitVec 3) (gd shift : BitVec 5) : Bool :=
  !(-8 ≤ shift.toInt && shift.toInt ≤ 8) || (if dst then pm || pn != 0 else gd != 0)

/-- SACC (R118): to memory with a post-modify, or to a register. -/
def execSacc (t : Nat) (k : BitVec 2) (dst pm : Bool) (pn : BitVec 3) (gd : BitVec 5) (shift : BitVec 5) (s : State) :
    Outcome :=
  s.issue t fun w x =>
    let r := x.stored k shift.toInt
    let y := if dst then x.setG gd r.1 else (x.writeMem w (x.pReg pn) r.1).post pm pn
    x.inSequence 1 (reservedIf (reservedSacc dst pm pn gd shift) ++ (if dst then [] else w.writeCause (x.pReg pn)))
      ⟨y.markSat r.2, false, r.2⟩

/-- CLRA: one accumulator, or all four. -/
def execClra (t : Nat) (k : BitVec 2) (all : Bool) (s : State) : Outcome :=
  s.issueAcc t (all && k != 0) fun x =>
    plain (if all then { x with acc := [], clamp := 0 } else x.accLoad k 0)

/-- The word of an accumulator that MOVA reads; WORD 0b11 is reserved. -/
def accWord (a : Acc80) (word : BitVec 2) : Word :=
  if word = 0 then a.extractLsb' 0 32 else if word = 1 then a.extractLsb' 32 32
  else (a.extractLsb' 64 16).signExtend 32

/-- Fields of MOVA that a mode does not use, MODE 0b11, WORD 0b11. -/
def reservedMova (mode ad as : BitVec 2) (g : BitVec 5) (word : BitVec 2) : Bool :=
  if mode = 0 then g != 0 || word != 0
  else if mode = 1 then as != 0 || word != 0
  else if mode = 2 then ad != 0 || word == 3
  else true

/-- MOVA: between accumulators with the clamp state, from a register at +1.0 gain, to a register (R116, R146). -/
def execMova (t : Nat) (mode ad as : BitVec 2) (g : BitVec 5) (word : BitVec 2) (s : State) : Outcome :=
  s.issueAcc t (reservedMova mode ad as g word) fun x =>
    plain (if mode = 0 then (x.setA ad (x.aReg as)).setClamp ad (x.clamped as)
      else if mode = 1 then x.accLoad ad ((x.gReg g).toInt * 2 ^ 31)
      else x.setG g (accWord (x.aReg as) word))

/-- SHA (R116): left may clamp, right drops bits; a clamped accumulator stays. -/
def execSha (t : Nat) (k : BitVec 2) (n : BitVec 6) (s : State) : Outcome :=
  s.issueAcc t false fun x =>
    let a := (x.aReg k).toInt
    if x.clamped k || n == 0 then plain x
    else if 0 ≤ n.toInt then x.accSet k (a * 2 ^ n.toInt.toNat)
    else x.accSet k (a / 2 ^ (-n.toInt).toNat)

/-- ADDA (R116): a clamped destination stays; a clamped source is copied, which is no new clamp. -/
def execAdda (t : Nat) (ad as : BitVec 2) (s : State) : Outcome :=
  s.issueAcc t false fun x =>
    if x.clamped ad then plain x
    else if x.clamped as then plain ((x.setA ad (x.aReg as)).setClamp ad true)
    else x.accAdd ad (x.aReg as).toInt

/-! ### Audio specials (R122, R147 to R151) -/

/-- 2 × 2^96 × v of R122's polynomial, in units of 2^-31, for y from -1 to 2 and g = G / 2^32. -/
def hermite (ym y0 y1 y2 : Int) (g : Int) : Int :=
  let c0 := 2 * y0
  let c1 := y1 - ym
  let c2 := 2 * ym - 5 * y0 + 4 * y1 - y2
  let c3 := y2 - ym + 3 * (y0 - y1)
  c3 * g ^ 3 + c2 * g ^ 2 * 2 ^ 32 + c1 * g * 2 ^ 64 + c0 * 2 ^ 96

/-- The interpolated value truncated towards minus infinity to units of 2^-62. -/
def skvTerm (ym y0 y1 y2 gf : Word) : Int := hermite ym.toInt y0.toInt y1.toInt y2.toInt gf.toNat / 2 ^ 66

/-- SKV (R122). -/
def execSkv (t : Nat) (k : BitVec 2) (pm : Bool) (pn : BitVec 3) (gf : BitVec 5) (s : State) : Outcome :=
  s.issue t fun w x =>
    let rd := fun j => x.readX w (x.at_ pn j)
    x.inSequence 4 (w.xCause (x.at_ pn 0) ++ w.xCause (x.at_ pn 1) ++ w.xCause (x.at_ pn 2) ++ w.xCause (x.at_ pn 3))
      ((x.accAdd k (skvTerm (rd 0) (rd 1) (rd 2) (rd 3) (x.gReg gf))).on fun y => y.post pm pn)

/-- BIQ (R148): one biquad section in direct form I; Ps must select X and Pc must select Y. -/
def execBiq (t : Nat) (k : BitVec 2) (ps pc : BitVec 3) (gx : BitVec 5) (s : State) : Outcome :=
  s.issue t fun w x =>
    let v := x.gReg gx
    let st := fun j => x.readX w (x.at_ ps j)
    let co := fun j => x.readY w (x.at_ pc j)
    let sum := product v (co 0) + product (st 0) (co 1) + product (st 1) (co 2) - product (st 2) (co 3) -
      product (st 3) (co 4)
    let y := saturate32 (storedValue sum 1)
    let causes := reservedIf (selectsY (x.pReg ps) || !selectsY (x.pReg pc)) ++
      (w.xCause (x.at_ ps 0) ++ w.xCause (x.at_ ps 1) ++ w.xCause (x.at_ ps 2) ++ w.xCause (x.at_ ps 3))
    let z := ((((x.accLoad k sum).writeX w (x.at_ ps 1) (st 0)).writeX w (x.at_ ps 0) v).writeX w (x.at_ ps 3)
      (st 2)).writeX w (x.at_ ps 2) y.1
    x.inSequence 5 causes ⟨(((z.setG gx y.1).stepP ps 4).stepP pc 5).markSat y.2, false, y.2⟩

/-- The gain after a step towards its target: exact on arrival, no wrap (R149). -/
def gainStep (g t : Word) (d : Nat) : Word :=
  if (t.toInt - g.toInt).natAbs ≤ d then t
  else if g.toInt < t.toInt then BitVec.ofInt 32 (g.toInt + d)
  else BitVec.ofInt 32 (g.toInt - d)

/-- GRAMP (R149): the product takes the gain before the step; Pt must select the other memory from Pg. -/
def execGramp (t : Nat) (k : BitVec 2) (gx : BitVec 5) (mg : Bool) (pg : BitVec 3) (mt : Bool) (pt : BitVec 3)
    (acc : Bool) (s : State) : Outcome :=
  s.issue t fun w x =>
    let a0 := x.at_ pg 0
    let a1 := x.at_ pg 1
    let g := x.readMem w a0
    let target := x.readMem w (x.pReg pt)
    let p := product (x.gReg gx) g
    let d := if acc then x.accAdd k p else plain (x.accLoad k p)
    let causes := reservedIf (selectsY (x.pReg pg) == selectsY (x.pReg pt)) ++
      (w.writeCause a0 ++ w.readCause a1 ++ w.readCause (x.pReg pt))
    x.inSequence 2 causes (d.on fun y =>
      (y.writeMem w a0 (gainStep g target (x.readMem w a1).toNat)).post2 mg pg mt pt)

/-- PEAK (R150): the peak word is written only by a larger magnitude. -/
def execPeak (t : Nat) (k : BitVec 2) (sq pm : Bool) (pn : BitVec 3) (gx : BitVec 5) (s : State) : Outcome :=
  s.issue t fun w x =>
    let a := x.pReg pn
    let v := sabs (x.gReg gx)
    let higher := (x.readMem w a).toInt < v.toInt
    let causes := reservedIf (!sq && k != 0) ++ w.readCause a ++ (if higher then w.writeCause a else [])
    let d := if sq then x.accAdd k (product (x.gReg gx) (x.gReg gx)) else plain x
    x.inSequence 2 causes (d.on fun y => (if higher then y.writeMem w a v else y).post pm pn)

/-- SILCHK (R151): the count of consecutive silent samples. -/
def execSilchk (t : Nat) (gd : BitVec 5) (pm : Bool) (ps : BitVec 3) (gx : BitVec 5) (s : State) : Outcome :=
  s.issue t fun w x =>
    let a0 := x.at_ ps 0
    let a1 := x.at_ ps 1
    let c := x.readMem w a0
    let c2 : Word :=
      if (sabs (x.gReg gx)).toInt ≤ (x.readMem w a1).toInt then (if c = 0xFFFFFFFF then c else c + 1) else 0
    x.inSequence 2 (w.writeCause a0 ++ w.readCause a1) (plain (((x.writeMem w a0 c2).setG gd c2).post pm ps))

end Sys2Proof.Machine
end

