-- ==== Sys2Proof/Machine/AwlMemory.lean ====
section
/-!
DEFINITION. Loads and stores, block I/O, parameter reads and pointer setup of the tiles (major opcodes 0x1, 0x8 and 0x9;
R139, R140, R152 to R154).
-/

namespace Sys2Proof.Machine

/-- The address of LD, ST, LDX and LDY: Pn, or the word that a modify of +D reaches (R139). -/
def Tile.memAddr (x : Tile) (am : BitVec 2) (pn : BitVec 3) (d : BitVec 8) : BitVec 15 :=
  if am = 2 then x.at_ pn d.toInt else x.pReg pn

/-- AM = 0b11, and a displacement that the form does not use, are reserved. -/
def reservedMem (am : BitVec 2) (d : BitVec 8) : List Nat := reservedIf (am == 3 || (am != 2 && d != 0))

/-- LD (R139). -/
def execLd (t : Nat) (am : BitVec 2) (pn : BitVec 3) (g : BitVec 5) (d : BitVec 8) (s : State) : Outcome :=
  s.issue t fun w x =>
    let a := x.memAddr am pn d
    x.inSequence 1 (reservedMem am d ++ w.readCause a) (plain ((x.setG g (x.readMem w a)).post (am == 1) pn))

/-- ST (R139). -/
def execSt (t : Nat) (am : BitVec 2) (pn : BitVec 3) (g : BitVec 5) (d : BitVec 8) (s : State) : Outcome :=
  s.issue t fun w x =>
    let a := x.memAddr am pn d
    x.inSequence 1 (reservedMem am d ++ w.writeCause a) (plain ((x.writeMem w a (x.gReg g)).post (am == 1) pn))

/-- LDX (R139): X whatever bit [14] says. -/
def execLdx (t : Nat) (am : BitVec 2) (pn : BitVec 3) (g : BitVec 5) (d : BitVec 8) (s : State) : Outcome :=
  s.issue t fun w x =>
    let a := x.memAddr am pn d
    x.inSequence 1 (reservedMem am d ++ w.xCause a) (plain ((x.setG g (x.readX w a)).post (am == 1) pn))

/-- LDY (R139). -/
def execLdy (t : Nat) (am : BitVec 2) (pn : BitVec 3) (g : BitVec 5) (d : BitVec 8) (s : State) : Outcome :=
  s.issue t fun w x =>
    let a := x.memAddr am pn d
    x.inSequence 1 (reservedMem am d) (plain ((x.setG g (x.readY w a)).post (am == 1) pn))

/-- LDXY (R139, R140): one register named twice receives the Y word. -/
def execLdxy (t : Nat) (mx : Bool) (px : BitVec 3) (ga : BitVec 5) (my : Bool) (py : BitVec 3) (gb : BitVec 5)
    (s : State) : Outcome :=
  s.issue t fun w x =>
    let vx := x.readX w (x.pReg px)
    let vy := x.readY w (x.pReg py)
    x.inSequence 1 (w.xCause (x.pReg px)) (plain (((x.setG ga vx).setG gb vy).post2 mx px my py))

/-! ### Block I/O and parameters (R152) -/

/-- ch: CH, plus G[c][10:0] if R = 1, with no wrap. -/
def Tile.channel (x : Tile) (r : Bool) (gc : BitVec 5) (ch : BitVec 11) : Nat :=
  ch.toNat + (if r then (x.gReg gc).toNat % 2 ^ 11 else 0)

/-- IN. -/
def execInp (t : Nat) (pn : BitVec 3) (r : Bool) (gc : BitVec 5) (ch : BitVec 11) (s : State) : Outcome :=
  s.issue t fun w x =>
    let c := x.channel r gc ch
    x.inSequence 1 (reservedIf ((!r && gc != 0) || w.nin ≤ c))
      (plain (x.setP pn (BitVec.ofNat 15 (w.base + c * w.block))))

/-- OUT. -/
def execOutp (t : Nat) (pn : BitVec 3) (r : Bool) (gc : BitVec 5) (ch : BitVec 11) (s : State) : Outcome :=
  s.issue t fun w x =>
    let c := x.channel r gc ch
    x.inSequence 1 (reservedIf ((!r && gc != 0) || w.nout ≤ c))
      (plain (x.setP pn (BitVec.ofNat 15 (w.base + (w.nin + c) * w.block))))

/-- PARM: BANK 0 is the active bank, 1 the inactive one. -/
def execParm (t : Nat) (gd : BitVec 5) (bank r : Bool) (gs : BitVec 5) (slot : BitVec 12) (s : State) : Outcome :=
  s.issue t fun w x =>
    let n := (slot.toNat + (if r then (x.gReg gs).toNat % 2 ^ 12 else 0)) % 4096
    x.inSequence 1 (reservedIf (!r && gs != 0)) (plain (x.setG gd (x.param (w.bankB != bank) n)))

/-! ### Pointer setup (R153, R154) -/

/-- Reserved: MODE 0b11, an immediate's bit [15] where it is unused, bits above the register field. -/
def reservedSet (wide : Bool) (mode : BitVec 2) (imm : BitVec 16) : Bool :=
  mode == 3 || (mode == 0 && !wide && imm.msb) || (mode == 1 && imm.toNat / 32 != 0)

/-- The value that MODE sets: the immediate, or G[s]. -/
def Tile.setValue (x : Tile) (mode : BitVec 2) (imm : BitVec 16) : BitVec 16 :=
  if mode = 0 then imm else (x.gReg (imm.setWidth 5)).setWidth 16

/-- SETP. -/
def execSetp (t : Nat) (n : BitVec 3) (mode : BitVec 2) (imm : BitVec 16) (s : State) : Outcome :=
  guardWf (mode ≠ 2) (s.issueForm t (reservedSet false mode imm) fun x => x.setP n ((x.setValue mode imm).setWidth 15))

/-- GETP. -/
def execGetp (t : Nat) (n : BitVec 3) (gd : BitVec 5) (s : State) : Outcome :=
  s.issueReg t fun x => x.setG gd ((x.pReg n).setWidth 32)

/-- SETM. -/
def execSetm (t : Nat) (n : BitVec 3) (mode : BitVec 2) (imm : BitVec 16) (s : State) : Outcome :=
  guardWf (mode ≠ 2) (s.issueForm t (reservedSet true mode imm) fun x => x.setM n (x.setValue mode imm))

/-- GETM. -/
def execGetm (t : Nat) (n : BitVec 3) (gd : BitVec 5) (s : State) : Outcome :=
  s.issueReg t fun x => x.setG gd ((x.mReg n).signExtend 32)

/-- SETL: a length above 16,384 is held as written. -/
def execSetl (t : Nat) (n : BitVec 3) (mode : BitVec 2) (imm : BitVec 16) (s : State) : Outcome :=
  guardWf (mode ≠ 2) (s.issueForm t (reservedSet false mode imm) fun x => x.setL n ((x.setValue mode imm).setWidth 15))

/-- GETL. -/
def execGetl (t : Nat) (n : BitVec 3) (gd : BitVec 5) (s : State) : Outcome :=
  s.issueReg t fun x => x.setG gd ((x.lReg n).setWidth 32)

/-- ADDP (R154): the modify of Ps by the immediate, under the length of Pd. -/
def execAddp (t : Nat) (pd ps : BitVec 3) (imm : BitVec 16) (s : State) : Outcome :=
  s.issueReg t fun x => x.setP pd (modify (x.pReg ps) imm.toInt (x.lReg pd))

end Sys2Proof.Machine
end

