-- ==== Sys2Proof/Machine/Dispatch.lean ====
section
/-!
DEFINITION. One arm per command: the direct call of its meaning, or its rejection by name.
-/

namespace Sys2Proof.Machine

/-- The effect of a command on everything but the queue. -/
def exec (i : Instr) (s : State) : Host.Outcome State Fault Refusal :=
  match i with
  | .powerOnReset b => Sys2Proof.Machine.execPowerOnReset b s
  | .resetNFall => Sys2Proof.Machine.execResetNFall s
  | .resetNRelease mode b => Sys2Proof.Machine.execResetNRelease mode b s
  | .bringupStageEnd v => Sys2Proof.Machine.execBringupStageEnd v s
  | .fwUpdateBootTimeout b => Sys2Proof.Machine.execFwUpdateBootTimeout b s
  | .wdogKick m v => Sys2Proof.Machine.execWdogKick m v s
  | .watchdogExpiry => Sys2Proof.Machine.execWatchdogExpiry s
  | .restarted b => Sys2Proof.Machine.execRestarted b s
  | .softReset m b => Sys2Proof.Machine.execSoftReset m b s
  | .absentPageAccess m write off => Sys2Proof.Machine.execAbsentPageAccess m write off s
  | .loRead m off wide => Sys2Proof.Machine.execLoRead m off s wide
  | .badAccess write off size => Sys2Proof.Machine.execBadAccess write off size s
  | .nonBarRequest write addr => Sys2Proof.Machine.execNonBarRequest write addr s
  | .bar2Access write off len data strobes => Sys2Proof.Machine.execBar2Access write off len data strobes s
  | .winBaseHiWrite m v => Sys2Proof.Machine.execWinBaseHiWrite m v s
  | .pgEvtWrite m p en v => Sys2Proof.Machine.execPgEvtWrite m p en v s
  | .pgEvtForce m p v => Sys2Proof.Machine.execPgEvtForce m p v s
  | .msixUnmask off write v => Sys2Proof.Machine.execMsixUnmask off s write v
  | .enSet m p => Sys2Proof.Machine.execEnSet m p s
  | .drain m p => Sys2Proof.Machine.execDrain m p s
  | .kill m p => Sys2Proof.Machine.execKill m p s
  | .srst m p => Sys2Proof.Machine.execSrst m p s
  | .quiesced p => Sys2Proof.Machine.execQuiesced p s
  | .pgLockLock m p => Sys2Proof.Machine.execPgLockLock m p s
  | .pgLockUnlockKey m p v => Sys2Proof.Machine.execPgLockUnlockKey m p v s
  | .pgLifeDataRead m p => Sys2Proof.Machine.execPgLifeDataRead m p s
  | .registerWrite m off v upper => Sys2Proof.Machine.execRegisterWrite m off v s upper
  | .overrun m off v => Sys2Proof.Machine.execOverrun m off v s
  | .badOpcode op tag => Sys2Proof.Machine.execBadOpcode op tag s
  | .planLoad tag addr len slot => Sys2Proof.Machine.execPlanLoad tag addr len slot s
  | .planLoadDone img => Sys2Proof.Machine.execPlanLoadDone img s
  | .planAdmit tag slot => Sys2Proof.Machine.execPlanAdmit tag slot s
  | .commitAtScene tag arg sec ns => Sys2Proof.Machine.execCommitAtScene tag arg sec ns s
  | .commitAtPlanSwap tag arg sec ns => Sys2Proof.Machine.execCommitAtPlanSwap tag arg sec ns s
  | .commitAtRefSwitch tag arg sec ns => Sys2Proof.Machine.execCommitAtRefSwitch tag arg sec ns s
  | .commitAtHandover tag arg sec ns => Sys2Proof.Machine.execCommitAtHandover tag arg sec ns s
  | .sceneStage tag addr len => Sys2Proof.Machine.execSceneStage tag addr len s
  | .sceneStageDone => Sys2Proof.Machine.execSceneStageDone s
  | .flowAdd tag addr => Sys2Proof.Machine.execFlowAdd tag addr s
  | .flowDel tag arg => Sys2Proof.Machine.execFlowDel tag arg s
  | .ptpProfile tag code domain mask => Sys2Proof.Machine.execPtpProfile tag code domain mask s
  | .refDeclare tag index type quality rank => Sys2Proof.Machine.execRefDeclare tag index type quality rank s
  | .trainDram tag chan mask => Sys2Proof.Machine.execTrainDram tag chan mask s
  | .trainDramDone chan passed => Sys2Proof.Machine.execTrainDramDone chan passed s
  | .ckptNow tag => Sys2Proof.Machine.execCkptNow tag s
  | .ckptNowDone => Sys2Proof.Machine.execCkptNowDone s
  | .lifeDump tag addr limit => Sys2Proof.Machine.execLifeDump tag addr limit s
  | .lifeDumpDone => Sys2Proof.Machine.execLifeDumpDone s
  | .fwUpdate tag addr len => Sys2Proof.Machine.execFwUpdate tag addr len s
  | .fwUpdateDone v => Sys2Proof.Machine.execFwUpdateDone v s
  | .mbxDonePop m => Sys2Proof.Machine.execMbxDonePop m s
  | .mbxDoneRelease => Sys2Proof.Machine.execMbxDoneRelease s
  | .blockTick d => Sys2Proof.Machine.execBlockTick d s
  | .passStart t => Sys2Proof.Machine.execPassStart t s
  | .fenceExpiry d => Sys2Proof.Machine.execFenceExpiry d s
  | .deadlineClear t => Sys2Proof.Machine.execDeadlineClear t s
  | .speedMeasure speeds => Sys2Proof.Machine.execSpeedMeasure speeds s
  | .speedSourceRevert t => Sys2Proof.Machine.execSpeedSourceRevert t s
  | .swapAdmitCheck => Sys2Proof.Machine.execSwapAdmitCheck s
  | .fencePctWrite m d pct => Sys2Proof.Machine.execFencePctWrite m d pct s
  | .escalationTrigger t => Sys2Proof.Machine.execEscalationTrigger t s
  | .avsAck mv => Sys2Proof.Machine.execAvsAck mv s
  | .avsSettleDone => Sys2Proof.Machine.execAvsSettleDone s
  | .avsNoack => Sys2Proof.Machine.execAvsNoack s
  | .stageJudged t => Sys2Proof.Machine.execStageJudged t s
  | .relocCopyDone uid => Sys2Proof.Machine.execRelocCopyDone uid s
  | .relocWarmDone uid => Sys2Proof.Machine.execRelocWarmDone uid s
  | .relocDone uid => Sys2Proof.Machine.execRelocDone uid s
  | .escalationEnd t => Sys2Proof.Machine.execEscalationEnd t s
  | .slackWarn t => Sys2Proof.Machine.execSlackWarn t s
  | .restore t cls => Sys2Proof.Machine.execRestore t cls s
  | .shedBackoffReset t cls => Sys2Proof.Machine.execShedBackoffReset t cls s
  | .backoffClr m => Sys2Proof.Machine.execBackoffClr m s
  | .warmTileLoaded t => Sys2Proof.Machine.execWarmTileLoaded t s
  | .swapXfadeEnd d => Sys2Proof.Machine.execSwapXfadeEnd d s
  | .nop t w => Sys2Proof.Machine.execNop t w s
  | .waitb t done => Sys2Proof.Machine.execWaitb t done s
  | .rpt t r count gc => Sys2Proof.Machine.execRpt t r count gc s
  | .rptb t r endOfs count gc => Sys2Proof.Machine.execRptb t r endOfs count gc s
  | .br t ind target gs => Sys2Proof.Machine.execBr t ind target gs s
  | .brc t cond target => Sys2Proof.Machine.execBrc t cond target s
  | .call t ind target gs => Sys2Proof.Machine.execCall t ind target gs s
  | .ret t => Sys2Proof.Machine.execRet t s
  | .fence t gd sel age => Sys2Proof.Machine.execFence t gd sel age s
  | .ld t am pn g d => Sys2Proof.Machine.execLd t am pn g d s
  | .st t am pn g d => Sys2Proof.Machine.execSt t am pn g d s
  | .ldx t am pn g d => Sys2Proof.Machine.execLdx t am pn g d s
  | .ldy t am pn g d => Sys2Proof.Machine.execLdy t am pn g d s
  | .ldxy t mx px ga my py gb => Sys2Proof.Machine.execLdxy t mx px ga my py gb s
  | .add t gd ga gb => Sys2Proof.Machine.execAdd t gd ga gb s
  | .sub t gd ga gb => Sys2Proof.Machine.execSub t gd ga gb s
  | .and t gd ga gb => Sys2Proof.Machine.execAnd t gd ga gb s
  | .or t gd ga gb => Sys2Proof.Machine.execOr t gd ga gb s
  | .xor t gd ga gb => Sys2Proof.Machine.execXor t gd ga gb s
  | .shl t gd ga gb imm => Sys2Proof.Machine.execShl t gd ga gb imm s
  | .shr t gd ga gb imm => Sys2Proof.Machine.execShr t gd ga gb imm s
  | .asr t gd ga gb imm => Sys2Proof.Machine.execAsr t gd ga gb imm s
  | .min t gd ga gb => Sys2Proof.Machine.execMin t gd ga gb s
  | .max t gd ga gb => Sys2Proof.Machine.execMax t gd ga gb s
  | .abs t gd ga => Sys2Proof.Machine.execAbs t gd ga s
  | .neg t gd ga => Sys2Proof.Machine.execNeg t gd ga s
  | .cmp t ga gb => Sys2Proof.Machine.execCmp t ga gb s
  | .addi t gd ga imm => Sys2Proof.Machine.execAddi t gd ga imm s
  | .li t gd mode imm => Sys2Proof.Machine.execLi t gd mode imm s
  | .lui t gd imm => Sys2Proof.Machine.execLui t gd imm s
  | .cmpi t ga imm => Sys2Proof.Machine.execCmpi t ga imm s
  | .mpy t k ga gb => Sys2Proof.Machine.execMpy t k ga gb s
  | .mac t k ga gb => Sys2Proof.Machine.execMac t k ga gb s
  | .msu t k ga gb => Sys2Proof.Machine.execMsu t k ga gb s
  | .macxy t k mx px my py => Sys2Proof.Machine.execMacxy t k mx px my py s
  | .tapm t k mx px my py => Sys2Proof.Machine.execTapm t k mx px my py s
  | .sacc t k dst pm pn gd shift => Sys2Proof.Machine.execSacc t k dst pm pn gd shift s
  | .clra t k all => Sys2Proof.Machine.execClra t k all s
  | .mova t mode ad as g word => Sys2Proof.Machine.execMova t mode ad as g word s
  | .sha t k n => Sys2Proof.Machine.execSha t k n s
  | .adda t ad as => Sys2Proof.Machine.execAdda t ad as s
  | .skv t k pm pn gf => Sys2Proof.Machine.execSkv t k pm pn gf s
  | .biq t k ps pc gx => Sys2Proof.Machine.execBiq t k ps pc gx s
  | .gramp t k gx mg pg mt pt acc => Sys2Proof.Machine.execGramp t k gx mg pg mt pt acc s
  | .peak t k sq pm pn gx => Sys2Proof.Machine.execPeak t k sq pm pn gx s
  | .silchk t gd pm ps gx => Sys2Proof.Machine.execSilchk t gd pm ps gx s
  | .inp t pn r gc ch => Sys2Proof.Machine.execInp t pn r gc ch s
  | .outp t pn r gc ch => Sys2Proof.Machine.execOutp t pn r gc ch s
  | .parm t gd bank r gs slot => Sys2Proof.Machine.execParm t gd bank r gs slot s
  | .setp t n mode imm => Sys2Proof.Machine.execSetp t n mode imm s
  | .getp t n gd => Sys2Proof.Machine.execGetp t n gd s
  | .setm t n mode imm => Sys2Proof.Machine.execSetm t n mode imm s
  | .getm t n gd => Sys2Proof.Machine.execGetm t n gd s
  | .setl t n mode imm => Sys2Proof.Machine.execSetl t n mode imm s
  | .getl t n gd => Sys2Proof.Machine.execGetl t n gd s
  | .addp t pd ps imm => Sys2Proof.Machine.execAddp t pd ps imm s
  | .stickyClrAov m t => Sys2Proof.Machine.execStickyClrAov m t s
  | .stickyClrSat m t => Sys2Proof.Machine.execStickyClrSat m t s
  | .dbgDataRead m t => Sys2Proof.Machine.execDbgDataRead m t s
  | .dbgReadDone t => Sys2Proof.Machine.execDbgReadDone t s
  | .dbgDataWrite m t v => Sys2Proof.Machine.execDbgDataWrite m t v s
  | .directParam m v => Sys2Proof.Machine.execDirectParam m v s
  | .directGain m v => Sys2Proof.Machine.execDirectGain m v s
  | .directRoute m v => Sys2Proof.Machine.execDirectRoute m v s
  | .directApply t => Sys2Proof.Machine.execDirectApply t s
  | .stagingRelease t => Sys2Proof.Machine.execStagingRelease t s
  | .sceneCheck => Sys2Proof.Machine.execSceneCheck s
  | .commitCancel m v => Sys2Proof.Machine.execCommitCancel m v s
  | .rampEnd t => Sys2Proof.Machine.execRampEnd t s
  | .bankMirrorDone t => Sys2Proof.Machine.execBankMirrorDone t s
  | .routeXfadeEnd dest => Sys2Proof.Machine.execRouteXfadeEnd dest s
  | .bridgeUnlock b => Sys2Proof.Machine.execBridgeUnlock b s
  | .bridgeLock b => Sys2Proof.Machine.execBridgeLock b s
  | .snapReq m => Sys2Proof.Machine.execSnapReq m s
  | .snapReady => Sys2Proof.Machine.execSnapReady s
  | .silenceEnter slot => Sys2Proof.Machine.execSilenceEnter slot s
  | .silenceExit slot => Sys2Proof.Machine.execSilenceExit slot s
  | .girthAccess bank ecc => Sys2Proof.Machine.execGirthAccess bank ecc s
  | .retWakeDone seg => Sys2Proof.Machine.execRetWakeDone seg s
  | .eccWriteback bank => Sys2Proof.Machine.execEccWriteback bank s
  | .girthShadowEnd port => Sys2Proof.Machine.execGirthShadowEnd port s
  | .bgtRegionStart => Sys2Proof.Machine.execBgtRegionStart s
  | .bgtPhaseDone failed => Sys2Proof.Machine.execBgtPhaseDone failed s
  | .vaultMapWrite m hi v => Sys2Proof.Machine.execVaultMapWrite m hi v s
  | .tamperNFall => Sys2Proof.Machine.execTamperNFall s
  | .lifeCycleChange cyc => Sys2Proof.Machine.execLifeCycleChange cyc s
  | .wipeDone failed => Sys2Proof.Machine.execWipeDone failed s
  | .retCtrlWrite m v => Sys2Proof.Machine.execRetCtrlWrite m v s
  | .harnessRequest r => Sys2Proof.Machine.execHarnessRequest r s
  | .harnessGrant port ecc => Sys2Proof.Machine.execHarnessGrant port ecc s
  | .transactionEnd master id => Sys2Proof.Machine.execTransactionEnd master id s
  | .masterReset master => Sys2Proof.Machine.execMasterReset master s
  | .mrstDone master => Sys2Proof.Machine.execMrstDone master s
  | .remapWrite m v => Sys2Proof.Machine.execRemapWrite m v s
  | .dramMapWrite m v => Sys2Proof.Machine.execDramMapWrite m v s
  | .alertN chan word spare => Sys2Proof.Machine.execAlertN chan s word spare
  | .movLate chan patch => Sys2Proof.Machine.execMovLate chan patch s
  | .refreshDue chan rank => Sys2Proof.Machine.execRefreshDue chan rank s
  | .mr4Poll chan doubled sinceNs => Sys2Proof.Machine.execMr4Poll chan doubled sinceNs s
  | .refreshWindow chan rank => Sys2Proof.Machine.execRefreshWindow chan rank s
  | .dqsOscRead chan rank => Sys2Proof.Machine.execDqsOscRead chan rank s
  | .trnGo m chan v => Sys2Proof.Machine.execTrnGo m chan v s
  | .trnDone chan err0 err1 err2 => Sys2Proof.Machine.execTrnDone chan err0 err1 err2 s
  | .trnStepAdvance m chan => Sys2Proof.Machine.execTrnStepAdvance m chan s
  | .mrGo m chan v => Sys2Proof.Machine.execMrGo m chan v s
  | .mrDone chan value => Sys2Proof.Machine.execMrDone chan value s
  | .rankCmdService m chan rank => Sys2Proof.Machine.execRankCmdService m chan rank s
  | .rankCmdSpare m chan rank => Sys2Proof.Machine.execRankCmdSpare m chan rank s
  | .rankCmdRetire m chan rank => Sys2Proof.Machine.execRankCmdRetire m chan rank s
  | .rankCmdTest m chan rank => Sys2Proof.Machine.execRankCmdTest m chan rank s
  | .rankCmdReturn m chan rank => Sys2Proof.Machine.execRankCmdReturn m chan rank s
  | .migrationCopyUnit chan ecc => Sys2Proof.Machine.execMigrationCopyUnit chan ecc s
  | .migDone chan => Sys2Proof.Machine.execMigDone chan s
  | .testDone chan pass => Sys2Proof.Machine.execTestDone chan pass s
  | .freqChange m chan v => Sys2Proof.Machine.execFreqChange m chan v s
  | .freqDone chan locked => Sys2Proof.Machine.execFreqDone chan locked s
  | .ceStormEnd chan rank => Sys2Proof.Machine.execCeStormEnd chan rank s
  | .dramCfgWrite m chan v => Sys2Proof.Machine.execDramCfgWrite m chan v s
  | .laneStateTimeout n => Sys2Proof.Machine.execLaneStateTimeout n s
  | .rateEstablished n ppm => Sys2Proof.Machine.execRateEstablished n ppm s
  | .negotiate n ouiMatch rates => Sys2Proof.Machine.execNegotiate n ouiMatch rates s
  | .los n cause => Sys2Proof.Machine.execLos n cause s
  | .losClear n => Sys2Proof.Machine.execLosClear n s
  | .autoRestart n => Sys2Proof.Machine.execAutoRestart n s
  | .laneRestart m n => Sys2Proof.Machine.execLaneRestart m n s
  | .lbModeWrite m n v => Sys2Proof.Machine.execLbModeWrite m n v s
  | .prbsCtrlWrite m n v => Sys2Proof.Machine.execPrbsCtrlWrite m n v s
  | .prbsClr m n => Sys2Proof.Machine.execPrbsClr m n s
  | .prbsLock n rx => Sys2Proof.Machine.execPrbsLock n s rx
  | .prbsUnlock n bits errors => Sys2Proof.Machine.execPrbsUnlock n bits errors s
  | .sleepWrite m n v => Sys2Proof.Machine.execSleepWrite m n v s
  | .wakeOnSig n => Sys2Proof.Machine.execWakeOnSig n s
  | .txqProdWrite m n v => Sys2Proof.Machine.execTxqProdWrite m n v s
  | .txFrameEnd n ecc shadowed => Sys2Proof.Machine.execTxFrameEnd n ecc shadowed s
  | .haltedClear m n => Sys2Proof.Machine.execHaltedClear m n s
  | .verifyTimer n => Sys2Proof.Machine.execVerifyTimer n s
  | .rxFrame n f => Sys2Proof.Machine.execRxFrame n f s
  | .rxrConsWrite m n v => Sys2Proof.Machine.execRxrConsWrite m n v s
  | .pauseRefresh n => Sys2Proof.Machine.execPauseRefresh n s
  | .pauseExpiry n => Sys2Proof.Machine.execPauseExpiry n s
  | .tsqPop m n => Sys2Proof.Machine.execTsqPop m n s
  | .cnNsRead m n => Sys2Proof.Machine.execCnNsRead m n s
  | .capture m => Sys2Proof.Machine.execCapture m s
  | .incFracWrite m n v => Sys2Proof.Machine.execIncFracWrite m n v s
  | .slewNsWrite m n v => Sys2Proof.Machine.execSlewNsWrite m n v s
  | .slewDone n => Sys2Proof.Machine.execSlewDone n s
  | .setGo m n v => Sys2Proof.Machine.execSetGo m n v s
  | .stepWrite m n v => Sys2Proof.Machine.execStepWrite m n v s
  | .monUpdate => Sys2Proof.Machine.execMonUpdate s
  | .syncReceived n offset incFrac slew => Sys2Proof.Machine.execSyncReceived n offset incFrac slew s
  | .announceReceived n a => Sys2Proof.Machine.execAnnounceReceived n a s
  | .announceTimeout n wins => Sys2Proof.Machine.execAnnounceTimeout n wins s
  | .refEdge slot offPs ratePpm => Sys2Proof.Machine.execRefEdge slot offPs ratePpm s
  | .refStop slot => Sys2Proof.Machine.execRefStop slot s
  | .qualified slot => Sys2Proof.Machine.execQualified slot s
  | .refMeanUpdate means => Sys2Proof.Machine.execRefMeanUpdate means s
  | .softDriftSwitch => Sys2Proof.Machine.execSoftDriftSwitch s
  | .selection => Sys2Proof.Machine.execSelection s
  | .switchDone => Sys2Proof.Machine.execSwitchDone s
  | .dpllLocked k => Sys2Proof.Machine.execDpllLocked k s
  | .holdExpired k => Sys2Proof.Machine.execHoldExpired k s
  | .esmcPdu lane ssm => Sys2Proof.Machine.execEsmcPdu lane ssm s
  | .esmcTimeout lane => Sys2Proof.Machine.execEsmcTimeout lane s
  | .selCtrlWrite m v => Sys2Proof.Machine.execSelCtrlWrite m v s
  | .framePulse n err => Sys2Proof.Machine.execFramePulse n err s
  | .alignNow m v => Sys2Proof.Machine.execAlignNow m v s
  | .mclkCfgWrite m n v => Sys2Proof.Machine.execMclkCfgWrite m n v s
  | .flowPacket port shadowed => Sys2Proof.Machine.execFlowPacket port shadowed s
  | .rebase d => Sys2Proof.Machine.execRebase d s
  | .underrunClear c => Sys2Proof.Machine.execUnderrunClear c s
  | .ssrcRelearn c => Sys2Proof.Machine.execSsrcRelearn c s
  | .pathLost c => Sys2Proof.Machine.execPathLost c s
  | .pathUp c => Sys2Proof.Machine.execPathUp c s
  | .ctxDelayWrite m n v => Sys2Proof.Machine.execCtxDelayWrite m n v s
  | .grpDelayWrite m v => Sys2Proof.Machine.execGrpDelayWrite m v s
  | .sapFrame n bclks wsOk slots => Sys2Proof.Machine.execSapFrame n bclks wsOk slots s
  | .clkLoss n => Sys2Proof.Machine.execClkLoss n s
  | .clkBack n ppm => Sys2Proof.Machine.execClkBack n ppm s
  | .trip n drv ipeak => Sys2Proof.Machine.execTrip n drv ipeak s
  | .hiccupEnd n => Sys2Proof.Machine.execHiccupEnd n s
  | .softStartEnd n => Sys2Proof.Machine.execSoftStartEnd n s
  | .stirrupOcClear => Sys2Proof.Machine.execStirrupOcClear s
  | .dcLatch n => Sys2Proof.Machine.execDcLatch n s
  | .oscLatch n => Sys2Proof.Machine.execOscLatch n s
  | .latchClr m n => Sys2Proof.Machine.execLatchClr m n s
  | .avoidApply m n => Sys2Proof.Machine.execAvoidApply m n s
  | .avoidMoved n => Sys2Proof.Machine.execAvoidMoved n s
  | .loadUpdate n bands => Sys2Proof.Machine.execLoadUpdate n bands s
  | .baselineCap m n => Sys2Proof.Machine.execBaselineCap m n s
  | .stirrupSleep n => Sys2Proof.Machine.execStirrupSleep n s
  | .stirrupWake n => Sys2Proof.Machine.execStirrupWake n s
  | .wakeSettled n => Sys2Proof.Machine.execWakeSettled n s
  | .stirrupStartTimer => Sys2Proof.Machine.execStirrupStartTimer s
  | .supplyMonitorTrip => Sys2Proof.Machine.execSupplyMonitorTrip s
  | .sourceHoldEnd src inst => Sys2Proof.Machine.execSourceHoldEnd src inst s
  | .quietExpiry src => Sys2Proof.Machine.execQuietExpiry src s
  | .reactClr m => Sys2Proof.Machine.execReactClr m s
  | .latchedClear m => Sys2Proof.Machine.execLatchedClear m s
  | .srcCfgWrite m v => Sys2Proof.Machine.execSrcCfgWrite m v s
  | .force m on => Sys2Proof.Machine.execForce m on s
  | .tjRead tj => Sys2Proof.Machine.execTjRead tj s
  | .tamperClear => Sys2Proof.Machine.execTamperClear s
  | .level4Reset b => Sys2Proof.Machine.execLevel4Reset b s
  | .feedLoss b pin => Sys2Proof.Machine.execFeedLoss b pin s
  | .feedRecover b => Sys2Proof.Machine.execFeedRecover b s
  | .powerWarn => Sys2Proof.Machine.execPowerWarn s
  | .heartbeatSend => Sys2Proof.Machine.execHeartbeatSend s
  | .heartbeat h => Sys2Proof.Machine.execHeartbeat h s
  | .ckptData f => Sys2Proof.Machine.execCkptData f s
  | .ckptEnd f => Sys2Proof.Machine.execCkptEnd f s
  | .handoverPropose sec ns => Sys2Proof.Machine.execHandoverPropose sec ns s
  | .handoverAck sec ns result seqs => Sys2Proof.Machine.execHandoverAck sec ns result seqs s
  | .checkpointEpoch => Sys2Proof.Machine.execCheckpointEpoch s
  | .pairLost => Sys2Proof.Machine.execPairLost s
  | .pairActInRise => Sys2Proof.Machine.execPairActInRise s
  | .pairActInFall => Sys2Proof.Machine.execPairActInFall s
  | .seekingTimeout => Sys2Proof.Machine.execSeekingTimeout s
  | .takeoverDone admitted => Sys2Proof.Machine.execTakeoverDone admitted s
  | .warmingEnd => Sys2Proof.Machine.execWarmingEnd s
  | .holdoffEnd => Sys2Proof.Machine.execHoldoffEnd s
  | .handoverReq m => Sys2Proof.Machine.execHandoverReq m s
  | .handoverAckTimeout => Sys2Proof.Machine.execHandoverAckTimeout s
  | .handoverFail => Sys2Proof.Machine.execHandoverFail s
  | .keeperCfgWrite m v => Sys2Proof.Machine.execKeeperCfgWrite m v s
  | .recordPeriod => Sys2Proof.Machine.execRecordPeriod s
  | .recNow m => Sys2Proof.Machine.execRecNow m s
  | .recDone ok => Sys2Proof.Machine.execRecDone ok s
  | .replan => Sys2Proof.Machine.execReplan s
  | .replanStepDone => Sys2Proof.Machine.execReplanStepDone s
  | .powerOnHour => Sys2Proof.Machine.execPowerOnHour s
  | .pcieLinkReset => Sys2Proof.Machine.execPcieLinkReset s
  | .powerWarnNRise => Sys2Proof.Machine.execPowerWarnNRise s
  | .pcieLinkUp rate width ppm => Sys2Proof.Machine.execPcieLinkUp s rate width ppm
  | .drvFltNRelease n => Sys2Proof.Machine.execDrvFltNRelease n s
  | .pairActOutRaise => Sys2Proof.Machine.execPairActOutRaise s
  | .handoverRetry => Sys2Proof.Machine.execHandoverRetry s
  | .rowIdleClose chan rank bank => Sys2Proof.Machine.execRowIdleClose chan rank bank s
  | .powerOnSecond => Sys2Proof.Machine.execPowerOnSecond s
  | .depthLimit n gr => Sys2Proof.Machine.execDepthLimit n gr s

end Sys2Proof.Machine
end

