-- ==== Sys2Proof/Machine/Step.lean ====
section
/-!
DEFINITION. One step: the command at the front of the queue, or one island cycle when nothing waits.
-/

namespace Sys2Proof.Machine

/-- The command at the front runs on the state with the queue's rest; on an empty queue one island cycle of 1.6 ns
passes (log 8). -/
def step (s : State) : Host.Outcome State Fault Refusal :=
  match s.pending with
  | [] => .next (s.advance 1)
  | c :: cs => exec c { s with pending := cs }

/-- The command that a word spells, put at the front of the queue; the table gives its rows no bits, so none does. -/
def State.withFetchWord (s : State) (nbits w : Nat) : State :=
  match Sys2Proof.decodeTableWord nbits w with
  | some c => { s with pending := c :: s.pending }
  | none => s

end Sys2Proof.Machine
end

