-- ==== Sys2Proof/WellFormed.lean ====
section
/-!
DEFINITION. Which commands are well formed: their operands name something that the block has on some part. A meaning
faults on every other command, and on no well-formed one.
-/

namespace Sys2Proof

open Machine

/-- The operands of a command lie within the block. -/
def Instr.wellFormed : Instr → Bool
  | .powerOnReset _ | .resetNFall | .resetNRelease _ _ | .bringupStageEnd _ | .fwUpdateBootTimeout _
  | .wdogKick _ _ | .watchdogExpiry | .restarted _ | .softReset _ _ => true
  | .absentPageAccess _ _ off => bar0Word off
  | .loRead _ off wide => bar0Word off && (!wide || off % 8 = 0)
  | .badAccess _ off size => off < bar0Size && !bar0Accepts off size
  | .nonBarRequest _ _ => true
  | .bar2Access write off len data _ => 1 ≤ len && off + len ≤ 2 ^ 30 && (!write || data.length = len)
  | .winBaseHiWrite _ _ => true
  | .pgEvtWrite _ p _ _ | .pgEvtForce _ p _ => bar0Page p
  | .msixUnmask off _ _ => decide (off < 0x10000 ∧ off % 4 = 0)
  | .enSet _ p | .drain _ p | .kill _ p | .srst _ p | .quiesced p | .pgLockLock _ p | .pgLockUnlockKey _ p _
  | .pgLifeDataRead _ p => bar0Page p
  | .registerWrite _ off _ upper => bar0Word off && (upper.isNone || off % 8 = 0)
  | .overrun _ off _ => mailboxOffset off
  | .badOpcode _ _ | .planLoad _ _ _ _ | .planLoadDone _ | .planAdmit _ _ | .commitAtScene _ _ _ _
  | .commitAtPlanSwap _ _ _ _ | .commitAtRefSwitch _ _ _ _ | .commitAtHandover _ _ _ _ | .sceneStage _ _ _
  | .sceneStageDone | .flowAdd _ _ | .flowDel _ _ | .ptpProfile _ _ _ _ | .refDeclare _ _ _ _ _
  | .trainDram _ _ _ => true
  | .trainDramDone chan _ => decide (chan < 2)
  | .ckptNow _ | .ckptNowDone | .lifeDump _ _ _ | .lifeDumpDone | .fwUpdate _ _ _ | .fwUpdateDone _
  | .mbxDonePop _ | .mbxDoneRelease => true
  | .blockTick d => decide (d < 3)
  | .passStart t => decide (t < 256)
  | .fenceExpiry d => decide (d < 3)
  | .deadlineClear t => decide (t < 256)
  | .speedMeasure _ => true
  | .speedSourceRevert t => decide (t < 256)
  | .swapAdmitCheck => true
  | .fencePctWrite _ d _ => decide (d < 3)
  | .escalationTrigger t => decide (t < 256)
  | .avsAck _ | .avsSettleDone | .avsNoack => true
  | .stageJudged t => decide (t < 256)
  | .relocCopyDone _ | .relocWarmDone _ | .relocDone _ => true
  | .escalationEnd t | .slackWarn t => decide (t < 256)
  | .restore t cls | .shedBackoffReset t cls => t < 256 && inRange 1 cls 7
  | .backoffClr _ => true
  | .warmTileLoaded t => decide (t < 256)
  | .swapXfadeEnd d => decide (d < 3)
  | .nop t w => t < 256 && (w == 0 || (Awl.decodeOp t w).isNone)
  | .waitb t _ | .rpt t _ _ _ | .rptb t _ _ _ _ | .br t _ _ _ | .brc t _ _ | .call t _ _ _ | .ret t => decide (t < 256)
  | .fence t _ _ age => t < 256 && age ≤ 2
  | .ld t _ _ _ _ | .st t _ _ _ _ | .ldx t _ _ _ _ | .ldy t _ _ _ _ | .ldxy t _ _ _ _ _ _ | .add t _ _ _
  | .sub t _ _ _ | .and t _ _ _ | .or t _ _ _ | .xor t _ _ _ | .shl t _ _ _ _ | .shr t _ _ _ _ | .asr t _ _ _ _
  | .min t _ _ _ | .max t _ _ _ | .abs t _ _ | .neg t _ _ | .cmp t _ _ | .addi t _ _ _ | .li t _ _ _
  | .lui t _ _ | .cmpi t _ _ | .mpy t _ _ _ | .mac t _ _ _ | .msu t _ _ _ | .macxy t _ _ _ _ _
  | .tapm t _ _ _ _ _ | .sacc t _ _ _ _ _ _ | .clra t _ _ | .mova t _ _ _ _ _ | .sha t _ _ | .adda t _ _
  | .skv t _ _ _ _ | .biq t _ _ _ _ | .gramp t _ _ _ _ _ _ _ | .peak t _ _ _ _ _ | .silchk t _ _ _ _
  | .inp t _ _ _ _ | .outp t _ _ _ _ | .parm t _ _ _ _ _ => decide (t < 256)
  | .setp t _ mode _ => t < 256 && mode ≠ 2
  | .getp t _ _ => decide (t < 256)
  | .setm t _ mode _ => t < 256 && mode ≠ 2
  | .getm t _ _ => decide (t < 256)
  | .setl t _ mode _ => t < 256 && mode ≠ 2
  | .getl t _ _ | .addp t _ _ _ | .stickyClrAov _ t | .stickyClrSat _ t | .dbgDataRead _ t | .dbgReadDone t
  | .dbgDataWrite _ t _ => decide (t < 256)
  | .directParam _ _ | .directGain _ _ | .directRoute _ _ => true
  | .directApply t | .stagingRelease t => decide (t < 256)
  | .sceneCheck | .commitCancel _ _ => true
  | .rampEnd t | .bankMirrorDone t => decide (t < 256)
  | .routeXfadeEnd _ => true
  | .bridgeUnlock b | .bridgeLock b => decide (b < 512)
  | .snapReq _ | .snapReady => true
  | .silenceEnter slot | .silenceExit slot => decide (slot < 8192)
  | .sourceHoldEnd _ _ | .quietExpiry _ | .reactClr _ | .latchedClear _ | .srcCfgWrite _ _ | .force _ _
  | .tjRead _ | .tamperClear | .level4Reset _ | .recordPeriod | .recNow _ | .recDone _ | .replan
  | .replanStepDone | .powerOnHour | .powerOnSecond => true
  | .girthAccess bank _ => decide (bank < 64)
  | .retWakeDone seg => decide (seg < 8)
  | .eccWriteback bank => decide (bank < 64)
  | .girthShadowEnd port => inRange 1 port 3
  | .bgtRegionStart => true
  | .bgtPhaseDone failed => failed.all (· < 4)
  | .vaultMapWrite _ _ _ | .tamperNFall => true
  | .lifeCycleChange cyc => decide (cyc ≠ 3)
  | .wipeDone _ | .retCtrlWrite _ _ => true
  | .harnessRequest r => goodRequest r
  | .harnessGrant port _ => decide (port ≤ Port.sram)
  | .transactionEnd _ _ => true
  | .masterReset master | .mrstDone master => decide (master < 13)
  | .remapWrite _ _ | .dramMapWrite _ _ => true
  | .alertN chan _ _ | .movLate chan _ => decide (chan < 2)
  | .refreshDue chan rank => chan < 2 && rank < 4
  | .mr4Poll chan _ _ => decide (chan < 2)
  | .refreshWindow chan rank | .dqsOscRead chan rank => chan < 2 && rank < 4
  | .trnGo _ chan _ | .trnDone chan _ _ _ | .trnStepAdvance _ chan | .mrGo _ chan _ | .mrDone chan _
  | .rankCmdService _ chan _ | .rankCmdSpare _ chan _ | .rankCmdRetire _ chan _ | .rankCmdTest _ chan _
  | .rankCmdReturn _ chan _ | .migrationCopyUnit chan _ | .migDone chan | .testDone chan _
  | .freqChange _ chan _ | .freqDone chan _ => decide (chan < 2)
  | .ceStormEnd chan rank => chan < 2 && rank < 4
  | .dramCfgWrite _ chan _ => decide (chan < 2)
  | .rowIdleClose chan rank bank => chan < 2 && rank < 4 && bank < 64
  | .laneStateTimeout n | .rateEstablished n _ | .negotiate n _ _ | .los n _ | .losClear n | .autoRestart n
  | .laneRestart _ n | .lbModeWrite _ n _ | .prbsCtrlWrite _ n _ | .prbsClr _ n | .prbsLock n _
  | .prbsUnlock n _ _ | .sleepWrite _ n _ | .wakeOnSig n => decide (n < 10)
  | .txqProdWrite _ n _ | .txFrameEnd n _ _ | .haltedClear _ n | .verifyTimer n | .rxFrame n _
  | .rxrConsWrite _ n _ | .pauseRefresh n | .pauseExpiry n | .tsqPop _ n => decide (n < 4)
  | .cnNsRead _ n => decide (n < 2)
  | .capture _ => true
  | .incFracWrite _ n _ | .slewNsWrite _ n _ | .slewDone n | .setGo _ n _ | .stepWrite _ n _ => decide (n < 2)
  | .monUpdate => true
  | .syncReceived n _ _ _ | .announceReceived n _ | .announceTimeout n _ => decide (n < 2)
  | .refEdge slot _ _ | .refStop slot | .qualified slot => decide (slot < 8)
  | .refMeanUpdate means => means.all fun m => m.1 < 8
  | .softDriftSwitch | .selection | .switchDone => true
  | .dpllLocked k | .holdExpired k => decide (k < 3)
  | .esmcPdu lane _ | .esmcTimeout lane => decide (lane < 4)
  | .selCtrlWrite _ _ => true
  | .framePulse n _ => decide (n < 4)
  | .alignNow _ _ => true
  | .mclkCfgWrite _ n _ => decide (n < 4)
  | .flowPacket port _ => decide (port < 4)
  | .rebase d => decide (d < 2)
  | .underrunClear c | .ssrcRelearn c | .pathLost c | .pathUp c => decide (c < 512)
  | .ctxDelayWrite _ n _ => decide (n < 16)
  | .grpDelayWrite _ _ => true
  | .sapFrame n _ _ _ | .clkLoss n | .clkBack n _ | .trip n _ _ | .hiccupEnd n | .softStartEnd n => decide (n < 16)
  | .stirrupOcClear => true
  | .dcLatch n | .oscLatch n | .latchClr _ n | .avoidApply _ n | .avoidMoved n | .loadUpdate n _
  | .baselineCap _ n | .stirrupSleep n | .stirrupWake n | .wakeSettled n => decide (n < 16)
  | .stirrupStartTimer | .supplyMonitorTrip | .feedLoss _ _ | .feedRecover _ | .powerWarn | .heartbeatSend
  | .heartbeat _ | .ckptData _ | .ckptEnd _ | .handoverPropose _ _ | .handoverAck _ _ _ _ | .checkpointEpoch
  | .pairLost | .pairActInRise | .pairActInFall | .seekingTimeout | .takeoverDone _ | .warmingEnd | .holdoffEnd
  | .handoverReq _ | .handoverAckTimeout | .handoverFail | .keeperCfgWrite _ _ | .pcieLinkReset
  | .powerWarnNRise => true
  | .pcieLinkUp _ width _ => width = 1 || width = 2 || width = 4
  | .drvFltNRelease n => decide (n < 16)
  | .pairActOutRaise | .handoverRetry => true
  | .depthLimit n _ => decide (n < 16)

end Sys2Proof
end

