-- ==== Sys2Proof/Safety.lean ====
section
/-!
DEFINITION. What counts as a safe run, and the words in which statements speak of it: a queue of well-formed commands, a
step that answers, states that a run reaches, and what a command leaves unchanged.
-/

namespace Sys2Proof.Machine

/-- Every waiting command is well formed. -/
def State.wellQueued (s : State) : Bool := s.pending.all Instr.wellFormed

/-- The command runs to a next state. -/
def Runs (c : Instr) (s u : State) : Prop := exec c s = .next u

/-- The states that runs reach from `s`. -/
inductive Reaches (s : State) : State → Prop where
  | here : Reaches s s
  | step {t u : State} : Reaches s t → step t = .next u → Reaches s u

/-- A run of the block is safe where no step stops. -/
def Safe (s : State) : Prop := ∀ t, Reaches s t → ∃ u, step t = .next u

/-! ### Frames -/

/-- The parts of the state beside registers and memory. -/
inductive Area where
  | clock | free | resp | msix | ctrl | cinch | life | tiles | fabric | mix | girth | harness | drams | lanes | macs
  | time | rein | flow | saps | loops | keeper
  deriving DecidableEq, Repr

/-- A part of the state is as it was. -/
def Area.same (s u : State) : Area → Prop
  | .clock => u.now = s.now
  | .free => u.freeCtr = s.freeCtr
  | .resp => u.lastResp = s.lastResp
  | .msix => u.msix = s.msix
  | .ctrl => u.ctrl = s.ctrl
  | .cinch => u.cinch = s.cinch
  | .life => u.life = s.life
  | .tiles => u.tiles = s.tiles
  | .fabric => u.fabric = s.fabric
  | .mix => u.mix = s.mix
  | .girth => u.girth = s.girth
  | .harness => u.harness = s.harness
  | .drams => u.drams = s.drams
  | .lanes => u.lanes = s.lanes
  | .macs => u.macs = s.macs
  | .time => u.time = s.time
  | .rein => u.rein = s.rein
  | .flow => u.flow = s.flow
  | .saps => u.saps = s.saps
  | .loops => u.loops = s.loops
  | .keeper => u.keeper = s.keeper

/-- u is s but for the parts A, the register fields that w names and the memory bytes that m names; the die's part and
the queue stay too. -/
structure Kept (A : List Area) (w : FKey → Prop) (m : Nat → Prop) (s u : State) : Prop where
  part : u.part = s.part
  pending : u.pending = s.pending
  mem : ∀ a, ¬ m a → u.byte a = s.byte a
  regs : ∀ k, ¬ w k → SMap.find? u.regs k = SMap.find? s.regs k
  areas : ∀ a, a ∉ A → a.same s u

/-- The fields of a list. -/
def fields (l : List FKey) (k : FKey) : Prop := k ∈ l

/-- No memory byte. -/
def noByte (_ : Nat) : Prop := False

/-- The bytes of a range. -/
def bytesIn (lo n a : Nat) : Prop := lo ≤ a ∧ a < lo + n

/-- The fields that an occurrence of a Cinch source may change: event bits, the Cinch's page and the loops' pages. -/
def reaction (k : FKey) : Prop := k.off = PG.EVT.off ∨ k.p = Pg.cinch ∨ (0x240 ≤ k.p ∧ k.p ≤ 0x24F)

/-- The fields of a list, or of a reaction. -/
def fieldsOr (l : List FKey) (k : FKey) : Prop := k ∈ l ∨ reaction k

/-- The parts of the state that an occurrence of a Cinch source may change. -/
def reacting : List Area := [.free, .msix, .cinch, .life, .loops]

/-- An event bit of a page is set. -/
def State.evt (s : State) (p b : Nat) : Bool := (s.get p PG.EVT).testBit b

/-- The condition of an instance of a Cinch source is present (R414). -/
def State.condition (s : State) (src inst : Nat) : Bool := (s.cinchSrc src).active.contains inst

/-! ### Register accesses and mailbox commands -/

/-- The registers whose read changes something: reads that pop, clear or capture, and those that bring what they show up to
date with the operation or the receiver behind it. -/
def readActs (p off : Nat) : Bool :=
  off == 0x024 || off == PG.PROGRESS_POSITION.off || (match unitOf p with
    | .mac _ => off == 0x0A4
    | .time => off == 0x040 || off == 0x080
    | .awl _ => off == 0x084
    | .stirrup _ => [0x054, 0x058, 0x060].contains off
    | .lane _ => [LANE.STAT_STATE.off, 0x05C, 0x060].contains off
    | .dram _ => off == DRAM.RANK_OP_STAT_PERCENT.off
    | .flow _ => [0x050, 0x060, 0x064, 0x0D4].contains off
    | .mix => off == 0x0D8
    | .fixed => (p == Pg.host && off == 0x068) ||
        (inRange 0x02E p 0x031 && [LANE.STAT_STATE.off, 0x05C, 0x060].contains off)
    | _ => false)

/-- A write by m to page p has its effect: the page is present, and open to m (R6, R478). -/
abbrev State.takes (s : State) (m : Master) (p : Nat) : Prop := s.present p = true ∧ s.writeOpen m p = true

/-- A write to page p was answered, and of the control complex only the page's unlock sequence may have ended (R47). -/
def Wrote (p : Nat) (s u : State) : Prop :=
  u.lastResp = some (.ok []) ∧ u.ctrl = { s.ctrl with unlockKey := s.ctrl.unlockKey.filter (· ≠ p) }

/-- A read was answered with a word. -/
def Answered (w : Word) (u : State) : Prop := u.lastResp = some (.ok [w])

/-- Firmware carries mailbox commands out, and none waits (R29, R50, R478). -/
abbrev State.serves (s : State) : Prop :=
  s.fwState = Fw.run ∧ s.ready = true ∧ s.flag Pg.host HOST.MBX_STAT_BUSY = false

/-- A mailbox command is answered: MBX_RESP holds the header and the words, BUSY is 0, RESP_READY is 1 and the event is
set (R48 to R50). -/
structure Replied (op : Nat) (tag : BitVec 8) (status : Nat) (words : List Word) (u : State) : Prop where
  answer : u.lastResp = some (.ok (respHeader op tag status words.length :: words))
  header : nget 0 u.ctrl.resp 0 = respHeader op tag status words.length
  busy : u.flag Pg.host HOST.MBX_STAT_BUSY = false
  ready : u.flag Pg.host HOST.MBX_STAT_RESP_READY = true
  event : u.evt Pg.host 0 = true

/-- The fields that an answer to a mailbox command writes. -/
def replyFields : List FKey :=
  [fkey Pg.host HOST.MBX_STAT_BUSY 0, fkey Pg.host HOST.MBX_STAT_RESP_READY 0, fkey Pg.host PG.EVT 0]

/-- A long command is accepted and reports on a page (R49). -/
structure Accepted (op : Nat) (tag : BitVec 8) (page : Nat) (s u : State) : Prop where
  reply : Replied op tag St.accepted [] u
  long : u.ctrl.long = s.ctrl.long ++ [⟨BitVec.ofNat 8 op, tag⟩]
  valid : u.flag page PG.PROGRESS_VALID = true
  percent : u.get page PG.PROGRESS_PERCENT = 0
  position : u.get page PG.PROGRESS_POSITION = 0

/-- The fields that the acceptance writes beside the answer's. -/
def progressFields (page : Nat) : List FKey :=
  [fkey page PG.PROGRESS_VALID 0, fkey page PG.PROGRESS_PERCENT 0, fkey page PG.PROGRESS_POSITION 0, fkey page PG.EVT 0]

/-- A long command has ended: its record enters MBX_DONE where the queue has room and nothing is held back, OP_DONE of
its page is set, and on success the percentage is 100 (R49, R51). -/
structure Finished (op : Nat) (tag : BitVec 8) (page status : Nat) (s u : State) : Prop where
  record : s.ctrl.held = [] → s.ctrl.done.length < 8 →
    u.ctrl.done = s.ctrl.done ++ [⟨BitVec.ofNat 8 op, tag, BitVec.ofNat 8 status⟩] ∧ u.evt Pg.host 1 = true
  held : ¬ (s.ctrl.held = [] ∧ s.ctrl.done.length < 8) →
    u.ctrl.done = s.ctrl.done ∧ u.ctrl.held = s.ctrl.held ++ [⟨BitVec.ofNat 8 op, tag, BitVec.ofNat 8 status⟩]
  ended : ⟨BitVec.ofNat 8 op, tag⟩ ∉ u.ctrl.long
  event : u.evt page 31 = true
  percent : status = St.ok → u.get page PG.PROGRESS_PERCENT = 100

/-! ### Boots -/

/-- The boot finds a flash that answers and an image in slot x that passes verification and is not marked failed (R29). -/
abbrev State.boots (s : State) (b : BootView) (x : Slot) (i : ImgInfo) : Prop :=
  b.flashOk = true ∧ s.slotFailed x = false ∧ verdictOf b x = .ok i

/-- The boot ROM has started the image of slot x, whose bytes lie in control SRAM from its first byte on (R30, R55). -/
structure Booted (x : Slot) (i : ImgInfo) (u : State) : Prop where
  verify : u.fwState = Fw.verify
  slot : u.get Pg.host HOST.BOOT_STAT_SLOT = slotCode x
  remap : u.flag Pg.harness HARNESS.REMAP_REMAP = true
  image : ∀ k, k < Mem.sramSize → k < i.bytes.length → u.byte (Mem.sram + k) = i.bytes.getD k 0
  watchdog : u.flag Pg.ctrl CTRL.WDOG_STAT_ARMED = true ∧ u.ctrl.wdogAt = u.now
  area : u.get Pg.life LIFE.AREA_BASE = i.lifeBase.toNat ∧ u.get Pg.life LIFE.AREA_SIZE = i.lifeSize.toNat

/-- The slice counts are the image header's (R30, R233). -/
def Sliced (i : ImgInfo) (u : State) : Prop :=
  u.get Pg.harness HARNESS.SLICE_M_SLICES = i.sliceM.toNat ∧ u.get Pg.harness HARNESS.SLICE_T_SLICES = i.sliceT.toNat

/-- Every byte outside control SRAM is as it was. -/
def SramOnly (s u : State) : Prop := ∀ a, ¬ bytesIn Mem.sram Mem.sramSize a → u.byte a = s.byte a

/-- Every unit rests at its reset values. -/
structure UnitsReset (u : State) : Prop where
  tiles : u.tiles = []
  fabric : u.fabric = Fabric.reset
  mix : u.mix = Mix.reset
  harness : u.harness = Harness.reset
  drams : u.drams = []
  lanes : u.lanes = []
  macs : u.macs = []
  time : u.time = TimeUnit.reset
  rein : u.rein = Rein.reset
  flow : u.flow = Flow.reset
  saps : u.saps = []

/-! ### Instructions of a tile -/

/-- y with what retirement moves taken from z: the repeat, the loop registers, the program counters and the HU. -/
def Tile.flowFrom (y z : Tile) : Tile :=
  { y with rpt := z.rpt, lc := z.lc, ls := z.ls, le := z.le, lrsd := z.lrsd, ldepth := z.ldepth, pc := z.pc,
           lastPc := z.lastPc, hu := z.hu }

/-- The instruction at the program counter retires in sequence with the tile as y has it: the repeat counts down, or the
loop ends are evaluated and the program counter goes on (R103, R106, R120). -/
def Tile.advanced (cost : Nat) (y : Tile) : Tile :=
  if 1 < (y.rpt.getD ⟨0⟩).left then
    { y with rpt := some ⟨(y.rpt.getD ⟨0⟩).left - 1⟩, lastPc := y.pc, hu := y.hu + cost }
  else
    let r := { y with rpt := none }.retireAt y.pc.toNat
    { r.1 with pc := BitVec.ofNat 14 r.2, lastPc := y.pc, hu := y.hu + cost }

/-- The instruction is a control transfer to an address. -/
def Tile.jumped (cost next : Nat) (y : Tile) : Tile := { y with pc := BitVec.ofNat 14 next, lastPc := y.pc, hu := y.hu + cost }

/-- Execution goes on within the instruction memory. -/
abbrev Tile.goesOn (x : Tile) : Prop := 1 < (x.rpt.getD ⟨0⟩).left ∨ (x.retireAt x.pc.toNat).2 < 0x4000

/-- The tile is one of the block's, its pass runs, and what follows in sequence lies within its memory. -/
abbrev State.canIssue (s : State) (t : Nat) : Prop := t < 256 ∧ s.executing t = true ∧ (s.tile t).goesOn

/-- The other tiles stay, and of the rest only the HU_OVER event of tile t may rise. -/
structure OnlyTile (t : Nat) (s u : State) : Prop where
  others : ∀ j, j ≠ t → u.tile j = s.tile j
  rest : Kept [.tiles, .msix] (fields [fkey (Pg.awl t) PG.EVT 0]) noByte s u

/-- The command runs, tile t ends as z, and nothing else changes but an event bit of its page. -/
def Gives (o : Outcome) (s : State) (t : Nat) (z : Tile) : Prop :=
  ∃ u, o = .next u ∧ u.tile t = z ∧ OnlyTile t s u

/-- The same with a newly clamped accumulator: AOV_COUNT advances, the AOV event of the page is set and AWL_AOV becomes
active for the tile (R115, R117). -/
def GivesClamp (o : Outcome) (s : State) (t : Nat) (z : Tile) : Prop :=
  ∃ u, o = .next u ∧ u.tile t = z ∧ (∀ j, j ≠ t → u.tile j = s.tile j) ∧
    u.get (Pg.awl t) AWL.AOV_COUNT = min (s.get (Pg.awl t) AWL.AOV_COUNT + 1) 0xFFFFFFFF ∧
    u.evt (Pg.awl t) 0 = true ∧ u.condition Src.awlAov t = true ∧
    Kept (.tiles :: reacting) (fieldsOr [fkey (Pg.awl t) AWL.AOV_COUNT 0]) noByte s u

/-- The same with a store that saturates: SAT_COUNT advances and the SAT event of the page is set (R118). -/
def GivesSat (o : Outcome) (s : State) (t : Nat) (z : Tile) : Prop :=
  ∃ u, o = .next u ∧ u.tile t = z ∧ (∀ j, j ≠ t → u.tile j = s.tile j) ∧
    u.get (Pg.awl t) AWL.SAT_COUNT = min (s.get (Pg.awl t) AWL.SAT_COUNT + 1) 0xFFFFFFFF ∧
    u.evt (Pg.awl t) 1 = true ∧
    Kept [.tiles, .msix] (fields [fkey (Pg.awl t) PG.EVT 0, fkey (Pg.awl t) AWL.SAT_COUNT 0]) noByte s u

/-- Accumulator k takes the exact value v where it is not clamped and v fits its 80 bits; it clamps where v does not
fit; clamped already, it stays. `g` is what else the instruction does to its tile (R115). -/
def Accumulates (o : Outcome) (s : State) (t cost : Nat) (k : BitVec 2) (v : Int) (g : Tile → Tile) : Prop :=
  let x := s.tile t
  (x.clamp.getLsbD k.toNat = true → Gives o s t (Tile.advanced cost (g x))) ∧
  (x.clamp.getLsbD k.toNat = false → -2 ^ 79 ≤ v → v < 2 ^ 79 →
    Gives o s t (Tile.advanced cost (g (x.setA k (BitVec.ofInt 80 v))))) ∧
  (x.clamp.getLsbD k.toNat = false → 2 ^ 79 ≤ v →
    GivesClamp o s t (Tile.advanced cost
      (g { (x.setA k (BitVec.ofInt 80 (2 ^ 79 - 1))).setClamp k true with aov := true }))) ∧
  (x.clamp.getLsbD k.toNat = false → v < -2 ^ 79 →
    GivesClamp o s t (Tile.advanced cost
      (g { (x.setA k (BitVec.ofInt 80 (-2 ^ 79))).setClamp k true with aov := true })))

/-! ### Canonical forms -/

/-- Memory in its one form: addresses strictly rising, no entry equal to what an unlisted byte reads as. -/
abbrev Memory.wf (m : List Host.Cell) : Bool := SMap.wf id (fun _ => memDefault) m

/-- The register store in its one form: keys strictly rising, so no field is listed twice. -/
def Regs.wf (m : SMap FKey Nat) : Bool :=
  match m with
  | [] => true
  | (k, _) :: r => r.all (fun e => FKey.ord k < FKey.ord e.1) && Regs.wf r

end Sys2Proof.Machine
end

