-- ==== Sys2Proof/Certificates/Slice0/Obligations.lean ====
section
/-!
DEFINITION. What is claimed of the model: one proposition each, from the rules of spec/ that its docstring names. `Gives`,
`Kept`, `OnlyTile` and the other words of the statements stand in Sys2Proof/Safety.lean.
-/

open Sys2Proof Sys2Proof.Machine

/-! ### The block as a whole -/

/-- A step runs the command at the front (log 8). -/
def Obligations.FrontRuns : Prop :=
  ∀ (c : Instr) (s : State), step { s with pending := c :: s.pending } = exec c s

/-- The step of an empty queue: one island cycle (log 8). -/
def Obligations.IdleCycle : Prop :=
  ∀ s : State, s.pending = [] →
    ∃ u, step s = .next u ∧ u.now = s.now + 1 ∧ u.time.c0 = s.time.c0.advance 1 ∧
      u.time.c1 = (if s.flag Pg.time PG.CTRL_EN then s.time.c1.advance 1 else s.time.c1) ∧
      Kept [.clock, .time] (fields []) noByte s u

/-- No well-formed command stops, and no other runs (log 6). -/
def Obligations.EveryCommandRuns : Prop :=
  ∀ (c : Instr) (s : State), (∃ u, exec c s = .next u) ↔ c.wellFormed = true

/-- The state right after reset. -/
def Obligations.ResetValues : Prop :=
  (∀ (p : Nat) (f : Fld) (i : Nat), State.reset.get p f i = resetAt p f i) ∧
  (∀ p ∈ [Pg.host, Pg.ctrl, Pg.harness, Pg.cinch, Pg.keeper, Pg.rein], State.reset.flag p PG.CTRL_EN = true) ∧
  (∀ t, t < 256 → State.reset.flag (Pg.awl t) PG.CTRL_EN = true) ∧
  (∀ a, State.reset.byte a = 0) ∧ Memory.wf State.reset.mem = true ∧ Regs.wf State.reset.regs = true ∧
  State.reset.pending = [] ∧ State.reset.now = 0 ∧ State.reset.nanos0 = 0 ∧ State.reset.ctrl.resetN = false

/-- The invariant of memory, over every step from every state that meets it. -/
def Obligations.MemoryKept : Prop :=
  ∀ s u : State, Memory.wf s.mem = true → step s = .next u → Memory.wf u.mem = true

/-- The die's part is fixed (R1). -/
def Obligations.PartKept : Prop :=
  ∀ s u : State, step s = .next u → u.part = s.part ∧ ∀ p, u.present p = s.present p

/-! ### Registers and pages (chapter 02) -/

/-- R6, for a read, a write, and the commands that write a page's header. -/
def Obligations.AbsentPages : Prop :=
  ∀ (s : State) (m : Master) (off : Nat) (v : Word), off < 2 ^ 26 → off % 4 = 0 → s.present (off / 4096) = false →
    let hit := fun (o : Outcome) (r : List Word) => ∃ u, o = .next u ∧ u.lastResp = some (.ok r) ∧
      u.get Pg.host HOST.ABSENT_HITS = min (s.get Pg.host HOST.ABSENT_HITS + 1) 0xFFFFFFFF ∧ u.evt Pg.host 2 = true ∧
      Kept [.resp, .msix] (fields [fkey Pg.host HOST.ABSENT_HITS 0, fkey Pg.host PG.EVT 0]) noByte s u
    hit (exec (.absentPageAccess m false off) s) [0] ∧ hit (exec (.absentPageAccess m true off) s) [] ∧
    hit (exec (.loRead m off) s) [0] ∧ hit (exec (.registerWrite m off v) s) [] ∧
    hit (exec (.enSet m (off / 4096)) s) [] ∧ hit (exec (.drain m (off / 4096)) s) [] ∧
    hit (exec (.kill m (off / 4096)) s) [] ∧ hit (exec (.srst m (off / 4096)) s) [] ∧
    hit (exec (.pgEvtWrite m (off / 4096) false v) s) [] ∧ hit (exec (.pgEvtForce m (off / 4096) v) s) [] ∧
    hit (exec (.pgLockLock m (off / 4096)) s) [] ∧ hit (exec (.pgLockUnlockKey m (off / 4096) v) s) [] ∧
    hit (exec (.pgLifeDataRead m (off / 4096)) s) [0]

/-- R33, and the mailbox's refusals. -/
def Obligations.RefusedAccesses : Prop :=
  ∀ s : State,
    (∀ (write : Bool) (off size : Nat), off < 2 ^ 26 → ¬ (size = 4 ∧ off % 4 = 0) → ¬ (size = 8 ∧ off % 8 = 0) →
      ∃ u, exec (.badAccess write off size) s = .next u ∧ u.lastResp = some .unsupported ∧
        u.get Pg.host HOST.BAD_ACCESS = min (s.get Pg.host HOST.BAD_ACCESS + 1) 0xFFFFFFFF ∧ u.evt Pg.host 3 = true ∧
        Kept [.resp, .msix] (fields [fkey Pg.host HOST.BAD_ACCESS 0, fkey Pg.host PG.EVT 0]) noByte s u) ∧
    (∀ (write : Bool) (addr : Nat), ∃ u, exec (.nonBarRequest write addr) s = .next u ∧ u.lastResp = some .unsupported ∧
      Kept [.resp] (fields []) noByte s u) ∧
    (∀ (m : Master) (off : Nat) (v : Word), mailboxOffset off = true → s.flag Pg.host HOST.MBX_STAT_BUSY = true →
      s.takes m Pg.host →
      ∃ u, exec (.overrun m off v) s = .next u ∧ Wrote Pg.host s u ∧ u.flag Pg.host HOST.MBX_STAT_OVERRUN = true ∧
        Kept [.resp, .ctrl] (fields [fkey Pg.host HOST.MBX_STAT_OVERRUN 0]) noByte s u) ∧
    (∀ op tag : BitVec 8, (op.toNat = 0 ∨ 0x0C < op.toNat) → s.flag Pg.host HOST.MBX_STAT_BUSY = false →
      ∃ u, exec (.badOpcode op tag) s = .next u ∧ Replied op.toNat tag St.badOpcode [] u ∧
        Kept [.resp, .ctrl, .msix] (fields replyFields) noByte s u) ∧
    (∀ op tag : BitVec 8, (op.toNat = 0 ∨ 0x0C < op.toNat) → s.flag Pg.host HOST.MBX_STAT_BUSY = true →
      ∃ u, exec (.badOpcode op tag) s = .next u ∧ u.flag Pg.host HOST.MBX_STAT_OVERRUN = true ∧
        Kept [] (fields [fkey Pg.host HOST.MBX_STAT_OVERRUN 0]) noByte s u)

/-- Reads and writes of registers (R11, R13, R33), and three registers with rules of their own (R35, R217, R218). Only a read
of a tile's debug data may have to wait (R124, TilePages). -/
def Obligations.RegisterAccess : Prop :=
  ∀ (s : State) (m : Master) (v : Word),
    (∀ off, off < 2 ^ 26 → off % 4 = 0 → s.present (off / 4096) = true → s.readWaits off = false →
      ∃ u, exec (.loRead m off) s = .next u ∧ (∃ w, Answered w u) ∧ (∀ a, u.byte a = s.byte a) ∧
        (readActs (off / 4096) (off % 4096) = false →
          Answered (s.peekReg m (off / 4096) (off % 4096)) u ∧ Kept [.resp] (fields []) noByte s u)) ∧
    (∀ off, off < 2 ^ 26 → off % 8 = 0 → s.present (off / 4096) = true → readActs (off / 4096) (off % 4096) = false →
      readActs (off / 4096) (off % 4096 + 4) = false →
      ∃ u, exec (.loRead m off true) s = .next u ∧ Kept [.resp] (fields []) noByte s u ∧
        u.lastResp = some (.ok [s.peekReg m (off / 4096) (off % 4096), s.peekReg m (off / 4096) (off % 4096 + 4)])) ∧
    (∀ d, d = s.get (Pg.flow 0) FLOW.DOM_SEL_DOMAIN → s.present (Pg.flow 0) = true → d < 2 →
      ∃ u, exec (.loRead m 0x2200D4) s = .next u ∧ Answered (BitVec.ofNat 32 (s.get (Pg.flow 0) FLOW.MEDIA_LO_N d)) u ∧
        u.hiWord (Pg.flow 0) 0x0D8 = s.get (Pg.flow 0) FLOW.MEDIA_HI_N d % 2 ^ 32 ∧ Kept [.resp, .ctrl] (fields []) noByte s u) ∧
    (∀ off, off < 2 ^ 26 → off % 4 = 0 → s.present (off / 4096) = true →
      ∃ u, exec (.registerWrite m off v) s = .next u ∧ u.lastResp = some (.ok [])) ∧
    (∃ u, exec (.loRead m 0x040) s = .next u ∧ Answered s.variant u ∧ Kept [.resp] (fields []) noByte s u) ∧
    (∀ p, p < 0x4000 → s.takes m p →
      ∃ u, exec (.registerWrite m (p * 4096 + 0x020) v) s = .next u ∧ Wrote p s u ∧
        u.get p PG.LIFE_IDX_INDEX = v.toNat % 2 ^ 16 ∧ u.flag p PG.LIFE_IDX_AUTOINC = v.getLsbD 31 ∧
        Kept [.resp, .ctrl] (fields [fkey p PG.LIFE_IDX_INDEX 0, fkey p PG.LIFE_IDX_AUTOINC 0]) noByte s u) ∧
    (s.takes m Pg.host →
      ∃ u, exec (.registerWrite m 0x044 v) s = .next u ∧ Wrote Pg.host s u ∧ u.get Pg.host HOST.ABSENT_HITS = 0 ∧
        Kept [.resp, .ctrl] (fields [fkey Pg.host HOST.ABSENT_HITS 0]) noByte s u) ∧
    (s.takes m Pg.host →
      ∃ u, exec (.registerWrite m 0x040 v) s = .next u ∧ Wrote Pg.host s u ∧ Kept [.resp, .ctrl] (fields []) noByte s u) ∧
    (s.takes m Pg.host →
      ∃ u, exec (.winBaseHiWrite m v) s = .next u ∧ u.lastResp = some (.ok []) ∧
        u.get Pg.host HOST.WIN_BASE_HI_ADDR = HOST.WIN_BASE_HI_ADDR.of v ∧
        u.ctrl.winBase = HOST.WIN_BASE_HI_ADDR.of v * 2 ^ 32 + s.get Pg.host HOST.WIN_BASE_LO_ADDR * 2 ^ 26 ∧
        Kept [.resp, .ctrl] (fields [fkey Pg.host HOST.WIN_BASE_HI_ADDR 0]) noByte s u) ∧
    (s.takes m Pg.harness →
      ∃ u, exec (.remapWrite m v) s = .next u ∧ Wrote Pg.harness s u ∧
        (Master.isCore m = true → u.get Pg.harness HARNESS.REMAP_REMAP = HARNESS.REMAP_REMAP.of v) ∧
        (Master.isCore m = false → u.get Pg.harness HARNESS.REMAP_REMAP = s.get Pg.harness HARNESS.REMAP_REMAP) ∧
        Kept [.resp, .ctrl] (fields [fkey Pg.harness HARNESS.REMAP_REMAP 0]) noByte s u) ∧
    (s.takes m Pg.harness → s.locked Pg.harness = false →
      let s0 := HARNESS.DRAM_MAP_SIZE0.of v
      let s1 := if s.part = .ca then 0 else HARNESS.DRAM_MAP_SIZE1.of v
      let i := HARNESS.DRAM_MAP_INTLV.of v
      ∃ u, exec (.dramMapWrite m v) s = .next u ∧ Wrote Pg.harness s u ∧
        (mapAllowed s0 s1 i = true → u.get Pg.harness HARNESS.DRAM_MAP_SIZE0 = s0 ∧
          u.get Pg.harness HARNESS.DRAM_MAP_SIZE1 = s1 ∧ u.get Pg.harness HARNESS.DRAM_MAP_INTLV = i) ∧
        (mapAllowed s0 s1 i = false → u.evt Pg.harness 4 = true ∧
          u.get Pg.harness HARNESS.DRAM_MAP_SIZE0 = s.get Pg.harness HARNESS.DRAM_MAP_SIZE0 ∧
          u.get Pg.harness HARNESS.DRAM_MAP_INTLV = s.get Pg.harness HARNESS.DRAM_MAP_INTLV) ∧
        Kept [.resp, .ctrl, .msix] (fields [fkey Pg.harness HARNESS.DRAM_MAP_SIZE0 0, fkey Pg.harness HARNESS.DRAM_MAP_SIZE1 0,
          fkey Pg.harness HARNESS.DRAM_MAP_INTLV 0, fkey Pg.harness PG.EVT 0]) noByte s u)

/-- The enable state of every unit (R42 to R46), and what these commands do to a tile. -/
def Obligations.Enabling : Prop :=
  ∀ (s : State) (m : Master) (p : Nat), p < 0x4000 → s.takes m p →
    (unitOf p = .fixed → ∀ c ∈ [Instr.enSet m p, .drain m p, .kill m p, .srst m p],
      ∃ u, exec c s = .next u ∧ Wrote p s u ∧ Kept [.resp, .ctrl] (fields []) noByte s u) ∧
    (unitOf p ≠ .fixed → s.flag p PG.CTRL_DRAIN = true →
      (∃ u, exec (.enSet m p) s = .next u ∧ Wrote p s u ∧ u.flag p PG.CTRL_EN = true ∧ u.flag p PG.STAT_EN_PENDING = true ∧
        Kept [.resp, .ctrl] (fields [fkey p PG.CTRL_EN 0, fkey p PG.STAT_EN_PENDING 0]) noByte s u) ∧
      (∃ u, exec (.drain m p) s = .next u ∧ Wrote p s u ∧ u.flag p PG.CTRL_EN = false ∧ u.flag p PG.STAT_EN_PENDING = false ∧
        Kept [.resp, .ctrl] (fields [fkey p PG.CTRL_EN 0, fkey p PG.STAT_EN_PENDING 0]) noByte s u)) ∧
    (unitOf p ≠ .fixed → s.flag p PG.CTRL_DRAIN = false →
      (s.flag p PG.CTRL_EN = true →
        (∃ u, exec (.enSet m p) s = .next u ∧ Wrote p s u ∧ Kept [.resp, .ctrl] (fields []) noByte s u) ∧
        (∃ u, exec (.drain m p) s = .next u ∧ u.lastResp = some (.ok []) ∧ u.flag p PG.CTRL_EN = false ∧
          u.flag p PG.CTRL_DRAIN = true ∧ (∀ a, u.byte a = s.byte a))) ∧
      (s.flag p PG.CTRL_EN = false →
        (∃ u, exec (.drain m p) s = .next u ∧ Wrote p s u ∧ Kept [.resp, .ctrl] (fields []) noByte s u) ∧
        (∃ u, exec (.enSet m p) s = .next u ∧ u.lastResp = some (.ok []) ∧ u.flag p PG.CTRL_EN = true ∧
          u.flag p PG.STAT_QUIESCED = false))) ∧
    (unitOf p ≠ .fixed → p ∉ s.ctrl.resetting →
      (∃ u, exec (.kill m p) s = .next u ∧ u.lastResp = some (.ok []) ∧ u.flag p PG.CTRL_EN = false ∧
        u.flag p PG.STAT_EN_PENDING = false ∧
        ((u.flag p PG.STAT_QUIESCED = true ∧ u.flag p PG.CTRL_DRAIN = false ∧ u.evt p 31 = true) ∨
          (u.flag p PG.CTRL_DRAIN = true ∧ p ∈ u.ctrl.killing))) ∧
      (∃ u, exec (.srst m p) s = .next u ∧ u.lastResp = some (.ok []) ∧
        ((p ∈ u.ctrl.resetting ∧ u.flag p PG.CTRL_DRAIN = true) ∨
          (u.get p PG.CTRL_EN = resetAt p PG.CTRL_EN 0 ∧ u.flag p PG.CTRL_DRAIN = false ∧ u.get p PG.EVT_EN = 0)))) ∧
    (unitOf p ≠ .fixed → s.flag p PG.CTRL_DRAIN = true → p ∉ s.ctrl.resetting →
      (s.unitIdle p = false → exec (.quiesced p) s = .next s) ∧
      (s.unitIdle p = true → ∃ u, exec (.quiesced p) s = .next u ∧ u.flag p PG.CTRL_DRAIN = false ∧ u.evt p 31 = true ∧
        p ∉ u.ctrl.killing ∧ u.flag p PG.STAT_EN_PENDING = false ∧
        u.flag p PG.STAT_QUIESCED = !s.flag p PG.STAT_EN_PENDING)) ∧
    (∀ t, t < 256 → p = Pg.awl t → s.flag p PG.CTRL_DRAIN = false →
      (s.flag p PG.CTRL_EN = false → ∃ u, exec (.enSet m p) s = .next u ∧ Wrote p s u ∧ u.flag p PG.CTRL_EN = true ∧
        u.flag p PG.STAT_QUIESCED = false ∧
        Kept [.resp, .ctrl] (fields [fkey p PG.CTRL_EN 0, fkey p PG.STAT_QUIESCED 0]) noByte s u) ∧
      (s.flag p PG.CTRL_EN = true → ∃ u, exec (.drain m p) s = .next u ∧ Wrote p s u ∧ u.flag p PG.CTRL_EN = false ∧
        u.flag p PG.CTRL_DRAIN = true ∧
        Kept [.resp, .ctrl] (fields [fkey p PG.CTRL_EN 0, fkey p PG.CTRL_DRAIN 0]) noByte s u) ∧
      (p ∉ s.ctrl.resetting → ∃ u, exec (.kill m p) s = .next u ∧ u.lastResp = some (.ok []) ∧ u.flag p PG.CTRL_EN = false ∧
        u.flag p PG.STAT_EN_PENDING = false ∧ u.flag p PG.CTRL_DRAIN = false ∧ (u.tile t).pass.pendingPass = false ∧
        (∀ a, u.byte a = s.byte a)) ∧
      (s.flag p PG.STAT_QUIESCED = true → s.planTile t = none →
        ∃ u, exec (.srst m p) s = .next u ∧ Wrote p s u ∧ (u.tile t).g = [] ∧ (u.tile t).p = [] ∧ (u.tile t).acc = [] ∧
          (u.tile t).pc = 0 ∧ (u.tile t).rsd = 0 ∧ (u.tile t).imem = (s.tile t).imem ∧ (u.tile t).x = (s.tile t).x ∧
          (u.tile t).y = (s.tile t).y ∧ u.get p AWL.MAX_HU_HU = 0 ∧ (∀ j, j ≠ t → u.tile j = s.tile j) ∧
          Kept [.resp, .ctrl, .tiles] (fun k => k.p = p) noByte s u)) ∧
    (∀ t, t < 256 → p = Pg.awl t → s.flag p PG.CTRL_DRAIN = true → (s.tile t).pass.pendingPass = false →
      p ∉ s.ctrl.resetting → s.flag p PG.STAT_EN_PENDING = false →
      ∃ u, exec (.quiesced p) s = .next u ∧ u.flag p PG.CTRL_DRAIN = false ∧ u.flag p PG.STAT_QUIESCED = true ∧
        u.evt p 31 = true ∧ Kept [.ctrl, .msix] (fields [fkey p PG.CTRL_DRAIN 0, fkey p PG.STAT_QUIESCED 0, fkey p PG.EVT 0]) noByte s u)

/-- Event registers and vectors (R39, R41). -/
def Obligations.EventRegisters : Prop :=
  ∀ (s : State) (m : Master) (p : Nat) (v : Word), p < 0x4000 → s.takes m p →
    (∃ u, exec (.pgEvtWrite m p false v) s = .next u ∧ Wrote p s u ∧
      (∀ b, b < 32 → u.evt p b = (s.evt p b && !v.getLsbD b)) ∧
      Kept [.resp, .ctrl, .msix] (fields [fkey p PG.EVT 0]) noByte s u) ∧
    (∃ u, exec (.pgEvtWrite m p true v) s = .next u ∧ Wrote p s u ∧ u.get p PG.EVT_EN = v.toNat &&& eventMask p ∧
      Kept [.resp, .ctrl, .msix] (fields [fkey p PG.EVT_EN 0]) noByte s u) ∧
    (∃ u, exec (.pgEvtForce m p v) s = .next u ∧ Wrote p s u ∧
      (∀ b, b < 32 → u.evt p b = (s.evt p b || (v.getLsbD b && (eventMask p).testBit b))) ∧
      Kept [.resp, .ctrl, .msix] (fields [fkey p PG.EVT 0]) noByte s u) ∧
    (∀ off, off < 0x10000 → off % 4 = 0 → ∃ u, exec (.msixUnmask off false v) s = .next u ∧
      Answered (s.bar4Word off) u ∧ Kept [.resp] (fields []) noByte s u) ∧
    (∀ k w, k < 64 → w < 4 → ∃ u, exec (.msixUnmask (16 * k + 4 * w) true v) s = .next u ∧
      u.lastResp = some (.ok []) ∧ u.msixOf k = (s.msixOf k).write w v ∧
      (w = 3 → v.getLsbD 0 = false → (u.msixOf k).masked = false ∧ (u.msixOf k).pending = false ∧
        (u.msixOf k).sent = (s.msixOf k).sent + (if (s.msixOf k).pending then 1 else 0)) ∧
      (∀ j, j ≠ k → u.msixOf j = s.msixOf j) ∧ Kept [.resp, .msix] (fields []) noByte s u)

/-- The lock of a page (R47) and the window on its life counters (R41). -/
def Obligations.PageLock : Prop :=
  ∀ (s : State) (m : Master) (p : Nat), p < 0x4000 → s.takes m p →
    (∃ u, exec (.pgLockLock m p) s = .next u ∧ Wrote p s u ∧ u.locked p = true ∧
      Kept [.resp, .ctrl] (fields [fkey p PG.LOCK_LOCKED 0]) noByte s u) ∧
    (∃ u, exec (.pgLockUnlockKey m p 0xA5F0) s = .next u ∧ u.lastResp = some (.ok []) ∧ p ∈ u.ctrl.unlockKey ∧
      u.locked p = s.locked p ∧ Kept [.resp, .ctrl] (fields []) noByte s u) ∧
    (∃ u, exec (.pgLockUnlockKey m p 0x0F5A) s = .next u ∧ Wrote p s u ∧
      (p ∈ s.ctrl.unlockKey → u.locked p = false) ∧ (p ∉ s.ctrl.unlockKey → u.locked p = s.locked p) ∧
      Kept [.resp, .ctrl] (fields [fkey p PG.LOCK_LOCKED 0]) noByte s u) ∧
    (∀ v : Word, v ≠ 1 → v ≠ 0xA5F0 → v ≠ 0x0F5A →
      ∃ u, exec (.pgLockUnlockKey m p v) s = .next u ∧ Wrote p s u ∧ Kept [.resp, .ctrl] (fields []) noByte s u) ∧
    (lifeWide p (s.get p PG.LIFE_IDX_INDEX) = false →
      ∃ u, exec (.pgLifeDataRead m p) s = .next u ∧ Answered (s.lifeWord p (s.get p PG.LIFE_IDX_INDEX)) u ∧
        u.get p PG.LIFE_IDX_INDEX = (if s.flag p PG.LIFE_IDX_AUTOINC then (s.get p PG.LIFE_IDX_INDEX + 1) % 2 ^ PG.LIFE_IDX_INDEX.w
          else s.get p PG.LIFE_IDX_INDEX) ∧
        Kept [.resp, .ctrl] (fields [fkey p PG.LIFE_IDX_INDEX 0]) noByte s u)

/-- The queue of ended long commands (R51). -/
def Obligations.DoneQueue : Prop :=
  ∀ (s : State) (m : Master),
    (s.ctrl.done = [] → ∃ u, exec (.mbxDonePop m) s = .next u ∧ Answered 0 u ∧ Kept [.resp] (fields []) noByte s u) ∧
    (∀ r l, s.ctrl.done = r :: l → ∃ u, exec (.mbxDonePop m) s = .next u ∧
      Answered (BitVec.ofNat 32 (r.op.toNat * 2 ^ 24 + r.tag.toNat * 2 ^ 16 + r.status.toNat * 2 ^ 8 + 1)) u ∧
      u.ctrl = { s.ctrl with done := l } ∧ Kept [.resp, .ctrl] (fields []) noByte s u) ∧
    (∀ r l, s.ctrl.held = r :: l → s.ctrl.done.length < 8 → ∃ u, exec .mbxDoneRelease s = .next u ∧
      u.ctrl = { s.ctrl with held := l, done := s.ctrl.done ++ [r] } ∧ u.evt Pg.host 1 = true ∧
      Kept [.ctrl, .msix] (fields [fkey Pg.host PG.EVT 0]) noByte s u)

/-! ### The Harness (chapter 08) -/

/-- Requests and grants (R216, R226). -/
def Obligations.HarnessRequests : Prop :=
  (∀ (s : State) (r : HReq) (port : Nat), goodRequest r = true → s.mayIssue r.master = true → s.decodePort r = some port →
    refusedKind port r = false →
    ∃ u, exec (.harnessRequest r) s = .next u ∧
      u.harness = { s.harness with txns := s.harness.txns ++ [Txn.new { r with addr := s.remapped r } port (s.qos r)] } ∧
      Kept [.harness] (fields []) noByte s u) ∧
  (∀ (s : State) (r : HReq) (port : Nat), goodRequest r = true → s.mayIssue r.master = true → s.decodePort r = some port →
    refusedKind port r = true →
    ∃ u, exec (.harnessRequest r) s = .next u ∧
      u.get Pg.harness HARNESS.UNSUPPORTED = min (s.get Pg.harness HARNESS.UNSUPPORTED + 1) 0xFFFFFFFF ∧
      (∀ a, u.byte a = s.byte a)) ∧
  (∀ (s : State) (port : Nat) (ecc : List (Nat × Ecc)), port ≤ Port.sram → s.portFree port = true → s.winner port = none →
    ∃ u, exec (.harnessGrant port ecc) s = .next u ∧ u = s) ∧
  (∀ (s : State) (port i : Nat) (w : Txn) (ecc : List (Nat × Ecc)), port ≤ Port.sram → s.portFree port = true →
    s.winner port = some (i, w) → s.grantWaits port w.req = false →
    ∃ u, exec (.harnessGrant port ecc) s = .next u ∧ u = (s.grant port i w).serve port w.req ecc ∧
      SMap.find? (s.grant port i w).harness.lastWon port = some w.req.master ∧
      (i < s.harness.txns.length → (s.grant port i w).harness.txns[i]? = some { w with granted := true }))

/-- The host's window and the resets of masters (R34, R222, R234). -/
def Obligations.HarnessWindow : Prop :=
  (∀ (s : State) (write : Bool) (off len : Nat) (data : List Byte) (strobes : List Bool), 1 ≤ len → off + len ≤ 2 ^ 30 →
    (write = true → data.length = len) → s.mayIssue 11 = true → s.harness.held = [] → (s.ctrl.winBase + off) % 4096 + len ≤ 4096 →
    let r : HReq := ⟨11, s.freeId 11, (s.ctrl.winBase + off) % 2 ^ 48, len, write, data.take len, strobes.take len, false, 0, false⟩
    ∃ u, exec (.bar2Access write off len data strobes) s = .next u ∧
      u = (if write then (s.request r).answer (.ok []) else s.request r)) ∧
  (∀ (s : State) (master id : Nat) (t : Txn),
    (s.harness.txns.find? fun t => t.req.master == master && t.req.id == id && t.granted && t.port ≠ Port.none && t.beats = 0) =
      some t → inRange 32 t.port 33 = false →
    ∃ u, exec (.transactionEnd master id) s = .next u ∧ u = ((s.releasePath t).flush t.req.master t.req.id).issueHeld s.harness.held.length) ∧
  (∀ (s : State) (master : Nat), master < 13 →
    ∃ u, exec (.masterReset master) s = .next u ∧ (u.get Pg.harness HARNESS.MRST_STAT_PENDING).testBit master = true ∧
      (∀ l ∈ u.girth.locks, l.1 ≠ master) ∧ (∀ t ∈ u.harness.txns, t.req.master = master → t.granted = true) ∧
      (∀ a, u.byte a = s.byte a) ∧
      Kept [.free, .harness, .girth, .msix] (fields [fkey Pg.harness HARNESS.LOCK_FAILS 0, fkey Pg.harness HARNESS.MRST_STAT_PENDING 0,
        fkey Pg.harness PG.EVT 0]) noByte s u) ∧
  (∀ (s : State) (master : Nat), master < 13 → s.masterInReset master = true → s.harness.held = [] →
    (∀ t ∈ s.harness.txns, t.req.master = master → t.dramWrite = false) →
    ∃ u, exec (.mrstDone master) s = .next u ∧ (∀ t ∈ u.harness.txns, t.req.master ≠ master) ∧
      (∀ a, u.byte a = s.byte a))

/-! ### Instructions of the tiles (chapters 04 and 05) -/

/-- Retirement in sequence: what every instruction's statement below names `Tile.advanced` (R103, R104, R106, R120). -/
def Obligations.AwlAdvance : Prop :=
  ∀ (x : Tile) (cost : Nat), let y := Tile.advanced cost x
    (y = x.flowFrom y ∧ y.hu = x.hu + cost ∧ y.lastPc = x.pc) ∧
    (x.rpt = none → x.ldepth = 0 → y.pc = x.pc + 1 ∧ y.rpt = none ∧ y.ldepth = 0) ∧
    (∀ n, 1 < n → x.rpt = some ⟨n⟩ → y.pc = x.pc ∧ y.rpt = some ⟨n - 1⟩ ∧ y.lc = x.lc ∧ y.ldepth = x.ldepth) ∧
    (∀ n, x.rpt = none → x.ldepth = n + 1 → nget 0 x.le n = x.pc → nget 0 x.lrsd n = x.rsd → 1 < (nget 0 x.lc n).toNat →
      y.pc = nget 0 x.ls n ∧ y.lc = nput 0 x.lc n (nget 0 x.lc n - 1) ∧ y.ldepth = x.ldepth)

/-- The register ALU instructions (R141, R142): result, flags, 1 HU, and the frame. -/
def Obligations.AwlRegisterAlu : Prop :=
  ∀ (s : State) (t : Nat) (gd ga gb : BitVec 5), s.canIssue t →
    let x := s.tile t
    let a := x.gReg ga
    let b := x.gReg gb
    let flagged := fun (y : Tile) (r : Word) (v c : Bool) => { y with fn := r.msb, fz := r == 0, fv := v, fc := c }
    let gives := fun (c : Instr) (r : Word) (v cy : Bool) =>
      Gives (exec c s) s t (Tile.advanced 1 ((flagged x r v cy).setG gd r))
    gives (.add t gd ga gb) (a + b) (decide ((a + b).toInt ≠ a.toInt + b.toInt)) (decide (2 ^ 32 ≤ a.toNat + b.toNat)) ∧
    gives (.sub t gd ga gb) (a - b) (decide ((a - b).toInt ≠ a.toInt - b.toInt)) (decide (b.toNat ≤ a.toNat)) ∧
    gives (.and t gd ga gb) (a &&& b) false false ∧
    gives (.or t gd ga gb) (a ||| b) false false ∧
    gives (.xor t gd ga gb) (a ^^^ b) false false ∧
    (∀ imm : Bool, let k := if imm then gb.toNat else b.toNat % 32
      gives (.shl t gd ga gb imm) (a <<< k) (decide ((a <<< k).sshiftRight k ≠ a)) (decide (k ≠ 0) && a.getLsbD (32 - k)) ∧
      gives (.shr t gd ga gb imm) (a >>> k) false (decide (k ≠ 0) && a.getLsbD (k - 1)) ∧
      gives (.asr t gd ga gb imm) (a.sshiftRight k) false (decide (k ≠ 0) && a.getLsbD (k - 1))) ∧
    gives (.min t gd ga gb) (if a.toInt ≤ b.toInt then a else b) false (decide (a.toInt ≤ b.toInt)) ∧
    gives (.max t gd ga gb) (if b.toInt ≤ a.toInt then a else b) false (decide (b.toInt ≤ a.toInt)) ∧
    gives (.abs t gd ga) (if a.toInt < 0 then 0 - a else a) (decide (a = 0x80000000)) (decide (a.toInt < 0)) ∧
    gives (.neg t gd ga) (0 - a) (decide (a = 0x80000000)) (decide (a = 0)) ∧
    Gives (exec (.cmp t ga gb) s) s t
      (Tile.advanced 1 (flagged x (a - b) (decide ((a - b).toInt ≠ a.toInt - b.toInt)) (decide (b.toNat ≤ a.toNat))))

/-- The immediate ALU instructions (R143). -/
def Obligations.AwlImmediates : Prop :=
  ∀ (s : State) (t : Nat) (gd ga : BitVec 5) (imm : BitVec 16), s.canIssue t →
    let x := s.tile t
    let a := x.gReg ga
    let i : Word := imm.signExtend 32
    let gives := fun (c : Instr) (y : Tile) => Gives (exec c s) s t (Tile.advanced 1 y)
    gives (.addi t gd ga imm)
      ({ x with fn := (a + i).msb, fz := a + i == 0, fv := decide ((a + i).toInt ≠ a.toInt + i.toInt),
                fc := decide (2 ^ 32 ≤ a.toNat + i.toNat) }.setG gd (a + i)) ∧
    gives (.li t gd 0 imm) (x.setG gd i) ∧
    gives (.li t gd 1 imm) (x.setG gd (imm.zeroExtend 32)) ∧
    gives (.li t gd 2 imm) (x.setG gd (imm ++ (0 : BitVec 16))) ∧
    gives (.lui t gd imm) (x.setG gd (imm ++ (x.gReg gd).extractLsb' 0 16)) ∧
    gives (.cmpi t ga imm)
      { x with fn := (a - i).msb, fz := a - i == 0, fv := decide ((a - i).toInt ≠ a.toInt - i.toInt),
               fc := decide (i.toNat ≤ a.toNat) }

/-- The loads (R139, R140); every byte of memory outside the tile and every word inside it stays. -/
def Obligations.AwlLoads : Prop :=
  ∀ (s : State) (t : Nat), s.canIssue t → let x := s.tile t; let w := s.win t
    let gives := fun (c : Instr) (y : Tile) => Gives (exec c s) s t (Tile.advanced 1 y)
    (∀ (am : BitVec 2) (pn : BitVec 3) (g : BitVec 5) (d : BitVec 8), am ≠ 3 → (am ≠ 2 → d = 0) →
      let a := if am = 2 then x.at_ pn d.toInt else x.pReg pn
      let post := fun (y : Tile) => if am = 1 then y.setP pn (modify (x.pReg pn) (x.mReg pn).toInt (x.lReg pn)) else y
      ((selectsY a = false → w.foreign a = false) →
        gives (.ld t am pn g d) (post (x.setG g (if selectsY a then x.readY w a else x.readX w a)))) ∧
      (w.foreign a = false → gives (.ldx t am pn g d) (post (x.setG g (x.readX w a)))) ∧
      gives (.ldy t am pn g d) (post (x.setG g (x.readY w a)))) ∧
    (∀ (mx : Bool) (px : BitVec 3) (ga : BitVec 5) (my : Bool) (py : BitVec 3) (gb : BitVec 5),
      w.foreign (x.pReg px) = false →
      gives (.ldxy t mx px ga my py gb)
        (((x.setG ga (x.readX w (x.pReg px))).setG gb (x.readY w (x.pReg py))).post2 mx px my py) ∧
      (ga = gb → ((x.setG ga (x.readX w (x.pReg px))).setG gb (x.readY w (x.pReg py))).gReg gb = x.readY w (x.pReg py)))

/-- R140. -/
def Obligations.LdxyYWins : Prop :=
  ∀ (s : State) (t : Nat) (mx my : Bool) (px py : BitVec 3) (g : BitVec 5), s.canIssue t →
    (s.win t).foreign ((s.tile t).pReg px) = false →
    ∃ u, exec (.ldxy t mx px g my py g) s = .next u ∧
      (u.tile t).gReg g = (s.tile t).readY (s.win t) ((s.tile t).pReg py)

/-- The store (R139), with the address computed as the meaning computes it and every other word unchanged. -/
def Obligations.AwlStore : Prop :=
  ∀ (s : State) (t : Nat) (am : BitVec 2) (pn : BitVec 3) (g : BitVec 5) (d : BitVec 8), s.canIssue t →
    am ≠ 3 → (am ≠ 2 → d = 0) →
    let x := s.tile t
    let w := s.win t
    let a := x.memAddr am pn d
    (selectsY a = false → w.foreign a = false) → (selectsY a = true → a.toNat % 0x4000 < 0x2000) →
    Gives (exec (.st t am pn g d) s) s t
      (Tile.advanced 1 ((x.writeMem w a (x.gReg g)).post (am == 1) pn)) ∧
    (2 * w.half ≤ 0x4000 → ∀ b : BitVec 15,
      (x.writeMem w a (x.gReg g)).readMem w b = if b = a then x.gReg g else x.readMem w b)

/-- Pointer setup, block I/O and parameter reads (R152 to R154). -/
def Obligations.AwlPointers : Prop :=
  ∀ (s : State) (t : Nat), s.canIssue t → let x := s.tile t; let w := s.win t
    let gives := fun (c : Instr) (y : Tile) => Gives (exec c s) s t (Tile.advanced 1 y)
    (∀ (n : BitVec 3) (imm : BitVec 16),
      (imm.msb = false → gives (.setp t n 0 imm) (x.setP n (imm.setWidth 15)) ∧
        gives (.setl t n 0 imm) (x.setL n (imm.setWidth 15))) ∧
      gives (.setm t n 0 imm) (x.setM n imm)) ∧
    (∀ (n : BitVec 3) (gs : BitVec 5),
      gives (.setp t n 1 (gs.zeroExtend 16)) (x.setP n ((x.gReg gs).setWidth 15)) ∧
      gives (.setl t n 1 (gs.zeroExtend 16)) (x.setL n ((x.gReg gs).setWidth 15)) ∧
      gives (.setm t n 1 (gs.zeroExtend 16)) (x.setM n ((x.gReg gs).setWidth 16))) ∧
    (∀ (n : BitVec 3) (gd : BitVec 5),
      gives (.getp t n gd) (x.setG gd ((x.pReg n).zeroExtend 32)) ∧
      gives (.getm t n gd) (x.setG gd ((x.mReg n).signExtend 32)) ∧
      gives (.getl t n gd) (x.setG gd ((x.lReg n).zeroExtend 32))) ∧
    (∀ (pd ps : BitVec 3) (imm : BitVec 16),
      gives (.addp t pd ps imm) (x.setP pd (modify (x.pReg ps) imm.toInt (x.lReg pd)))) ∧
    (∀ (pn : BitVec 3) (r : Bool) (gc : BitVec 5) (ch : BitVec 11), (r = false → gc = 0) →
      let c := ch.toNat + (if r then (x.gReg gc).toNat % 2048 else 0)
      (c < w.nin → gives (.inp t pn r gc ch) (x.setP pn (BitVec.ofNat 15 (w.base + c * w.block)))) ∧
      (c < w.nout → gives (.outp t pn r gc ch) (x.setP pn (BitVec.ofNat 15 (w.base + (w.nin + c) * w.block))))) ∧
    (∀ (gd : BitVec 5) (bank r : Bool) (gs : BitVec 5) (slot : BitVec 12), (r = false → gs = 0) →
      let n := (slot.toNat + (if r then (x.gReg gs).toNat % 4096 else 0)) % 4096
      gives (.parm t gd bank r gs slot) (x.setG gd (x.param (w.bankB != bank) n)))

/-- The multiply and tap instructions (R144, R145), with every accumulation of R115. -/
def Obligations.AwlMultiply : Prop :=
  ∀ (s : State) (t : Nat) (k : BitVec 2), s.canIssue t → let x := s.tile t; let w := s.win t
    let a := (x.aReg k).toInt
    (∀ ga gb : BitVec 5, let p := (x.gReg ga).toInt * (x.gReg gb).toInt
      Gives (exec (.mpy t k ga gb) s) s t (Tile.advanced 1 ((x.setA k (BitVec.ofInt 80 p)).setClamp k false)) ∧
      Accumulates (exec (.mac t k ga gb) s) s t 1 k (a + p) id ∧
      Accumulates (exec (.msu t k ga gb) s) s t 1 k (a - p) id) ∧
    (∀ (mx : Bool) (px : BitVec 3) (my : Bool) (py : BitVec 3), w.foreign (x.pReg px) = false →
      let v := x.readX w (x.pReg px)
      let p := v.toInt * (x.readY w (x.pReg py)).toInt
      Accumulates (exec (.macxy t k mx px my py) s) s t 1 k (a + p) (fun y => y.post2 mx px my py) ∧
      (w.foreign (x.at_ px 1) = false →
        Accumulates (exec (.tapm t k mx px my py) s) s t 1 k (a + p)
          (fun y => (y.writeX w (x.at_ px 1) v).post2 mx px my py)))

/-- The accumulator instructions (R116, R118, R146). -/
def Obligations.AwlAccumulators : Prop :=
  ∀ (s : State) (t : Nat) (k : BitVec 2), s.canIssue t → let x := s.tile t; let w := s.win t
    let gives := fun (c : Instr) (y : Tile) => Gives (exec c s) s t (Tile.advanced 1 y)
    let a := (x.aReg k).toInt
    (gives (.clra t k false) ((x.setA k 0).setClamp k false) ∧ gives (.clra t 0 true) { x with acc := [], clamp := 0 }) ∧
    (∀ as : BitVec 2, gives (.mova t 0 k as 0 0) ((x.setA k (x.aReg as)).setClamp k (x.clamped as))) ∧
    (∀ g : BitVec 5,
      gives (.mova t 1 k 0 g 0) ((x.setA k (BitVec.ofInt 80 ((x.gReg g).toInt * 2 ^ 31))).setClamp k false) ∧
      gives (.mova t 2 0 k g 0) (x.setG g ((x.aReg k).extractLsb' 0 32)) ∧
      gives (.mova t 2 0 k g 1) (x.setG g ((x.aReg k).extractLsb' 32 32)) ∧
      gives (.mova t 2 0 k g 2) (x.setG g (((x.aReg k).extractLsb' 64 16).signExtend 32))) ∧
    (∀ n : BitVec 6, n ≠ 0 →
      Accumulates (exec (.sha t k n) s) s t 1 k
        (if 0 ≤ n.toInt then a * 2 ^ n.toInt.toNat else a / 2 ^ (-n.toInt).toNat) id) ∧
    (∀ as : BitVec 2, x.clamped as = false →
      Accumulates (exec (.adda t k as) s) s t 1 k (a + (x.aReg as).toInt) id) ∧
    (∀ as : BitVec 2, x.clamped k = false → x.clamped as = true →
      gives (.adda t k as) ((x.setA k (x.aReg as)).setClamp k true)) ∧
    (∀ as : BitVec 2, x.clamped k = true → gives (.adda t k as) x) ∧ gives (.sha t k 0) x ∧
    (∀ (shift : BitVec 5), -8 ≤ shift.toInt → shift.toInt ≤ 8 →
      let r := if 0 ≤ shift.toInt then a * 2 ^ shift.toInt.toNat / 2 ^ 31 else a / (2 ^ 31 * 2 ^ (-shift.toInt).toNat)
      let full : Word := if 0 ≤ a then 0x7FFFFFFF else 0x80000000
      let inRange := x.clamped k = false ∧ -2 ^ 31 ≤ r ∧ r < 2 ^ 31
      (∀ gd : BitVec 5,
        (inRange → gives (.sacc t k true false 0 gd shift) (x.setG gd (BitVec.ofInt 32 r))) ∧
        (¬ inRange → GivesSat (exec (.sacc t k true false 0 gd shift) s) s t
          (Tile.advanced 1 { x.setG gd full with sat := true }))) ∧
      (∀ (pm : Bool) (pn : BitVec 3), let q := x.pReg pn
        (selectsY q = false → w.foreign q = false) → (selectsY q = true → q.toNat % 0x4000 < 0x2000) →
        (inRange → gives (.sacc t k false pm pn 0 shift) ((x.writeMem w q (BitVec.ofInt 32 r)).post pm pn)) ∧
        (¬ inRange → GivesSat (exec (.sacc t k false pm pn 0 shift) s) s t
          (Tile.advanced 1 { (x.writeMem w q full).post pm pn with sat := true }))))

/-- The audio specials (R122, R148 to R151). -/
def Obligations.AwlSpecials : Prop :=
  ∀ (s : State) (t : Nat) (k : BitVec 2) (gx : BitVec 5), s.canIssue t → let x := s.tile t; let w := s.win t
    let v := x.gReg gx
    let own := fun (a : BitVec 15) => selectsY a = false → w.foreign a = false
    let mine := fun (a : BitVec 15) => own a ∧ (selectsY a = true → a.toNat % 0x4000 < 0x2000)
    (∀ (pm : Bool) (pn : BitVec 3), (∀ j : Int, 0 ≤ j → j < 4 → w.foreign (x.at_ pn j) = false) →
      let y := fun j => (x.readX w (x.at_ pn j)).toInt
      let g : Int := v.toNat
      -- 2^97 times the cubic of R122 at g / 2^32, cut to units of 2^-62
      let h := (y 3 - y 0 + 3 * (y 1 - y 2)) * g ^ 3 + (2 * y 0 - 5 * y 1 + 4 * y 2 - y 3) * g ^ 2 * 2 ^ 32 +
        (y 2 - y 0) * g * 2 ^ 64 + 2 * y 1 * 2 ^ 96
      Accumulates (exec (.skv t k pm pn gx) s) s t 4 k ((x.aReg k).toInt + h / 2 ^ 66) (fun z => z.post pm pn)) ∧
    (∀ ps pc : BitVec 3, selectsY (x.pReg ps) = false → selectsY (x.pReg pc) = true →
      (∀ j : Int, 0 ≤ j → j < 4 → w.foreign (x.at_ ps j) = false) →
      let st := fun j => x.readX w (x.at_ ps j)
      let co := fun j => (x.readY w (x.at_ pc j)).toInt
      let sum := v.toInt * co 0 + (st 0).toInt * co 1 + (st 1).toInt * co 2 - (st 2).toInt * co 3 - (st 3).toInt * co 4
      let r := sum * 2 / 2 ^ 31
      let kept := ((((x.setA k (BitVec.ofInt 80 sum)).setClamp k false).writeX w (x.at_ ps 1) (st 0)).writeX w
        (x.at_ ps 0) v).writeX w (x.at_ ps 3) (st 2)
      let after := fun (o : Word) => (((kept.writeX w (x.at_ ps 2) o).setG gx o).stepP ps 4).stepP pc 5
      (-2 ^ 31 ≤ r → r < 2 ^ 31 → Gives (exec (.biq t k ps pc gx) s) s t (Tile.advanced 5 (after (BitVec.ofInt 32 r)))) ∧
      (2 ^ 31 ≤ r → GivesSat (exec (.biq t k ps pc gx) s) s t (Tile.advanced 5 { after 0x7FFFFFFF with sat := true })) ∧
      (r < -2 ^ 31 → GivesSat (exec (.biq t k ps pc gx) s) s t (Tile.advanced 5 { after 0x80000000 with sat := true }))) ∧
    (∀ (mg : Bool) (pg : BitVec 3) (mt : Bool) (pt : BitVec 3), selectsY (x.pReg pg) ≠ selectsY (x.pReg pt) →
      mine (x.at_ pg 0) → own (x.at_ pg 1) → own (x.pReg pt) →
      let g := x.readMem w (x.at_ pg 0)
      let d := (x.readMem w (x.at_ pg 1)).toNat
      let goal := x.readMem w (x.pReg pt)
      let g2 := if (goal.toInt - g.toInt).natAbs ≤ d then goal
        else if g.toInt < goal.toInt then BitVec.ofInt 32 (g.toInt + d) else BitVec.ofInt 32 (g.toInt - d)
      let then' := fun (y : Tile) => (y.writeMem w (x.at_ pg 0) g2).post2 mg pg mt pt
      Accumulates (exec (.gramp t k gx mg pg mt pt true) s) s t 2 k ((x.aReg k).toInt + v.toInt * g.toInt) then' ∧
      Gives (exec (.gramp t k gx mg pg mt pt false) s) s t
        (Tile.advanced 2 (then' ((x.setA k (BitVec.ofInt 80 (v.toInt * g.toInt))).setClamp k false)))) ∧
    (∀ (pm : Bool) (pn : BitVec 3), own (x.pReg pn) →
      let higher := (x.readMem w (x.pReg pn)).toInt < (sabs v).toInt
      (higher → mine (x.pReg pn)) →
      let then' := fun (y : Tile) => (if higher then y.writeMem w (x.pReg pn) (sabs v) else y).post pm pn
      Gives (exec (.peak t 0 false pm pn gx) s) s t (Tile.advanced 2 (then' x)) ∧
      Accumulates (exec (.peak t k true pm pn gx) s) s t 2 k ((x.aReg k).toInt + v.toInt * v.toInt) then') ∧
    (∀ (gd : BitVec 5) (pm : Bool) (ps : BitVec 3), mine (x.at_ ps 0) → own (x.at_ ps 1) →
      let c := x.readMem w (x.at_ ps 0)
      let c2 : Word := if (sabs v).toInt ≤ (x.readMem w (x.at_ ps 1)).toInt then
          BitVec.ofNat 32 (min (c.toNat + 1) 0xFFFFFFFF) else 0
      Gives (exec (.silchk t gd pm ps gx) s) s t
        (Tile.advanced 2 (((x.writeMem w (x.at_ ps 0) c2).setG gd c2).post pm ps)))

/-- The control instructions but WAITB (R133 to R138). -/
def Obligations.AwlControl : Prop :=
  ∀ (s : State) (t : Nat), t < 256 → s.executing t = true → let x := s.tile t
    (x.goesOn → Gives (exec (.nop t 0) s) s t (Tile.advanced 1 x)) ∧
    (x.rpt = none →
      (∀ (r : Bool) (count : BitVec 16) (gc : BitVec 5), (if r then count = 0 else gc = 0) →
        (∀ n, n < x.ldepth → nget 0 x.le n ≠ x.pc) → x.pc.toNat + 1 < 0x4000 →
        let n := if r then (x.gReg gc).toNat % 65536 else count.toNat
        (n ≠ 0 → Gives (exec (.rpt t r count gc) s) s t (Tile.jumped 1 (x.pc.toNat + 1) { x with rpt := some ⟨n⟩ })) ∧
        (n = 0 → (x.retireAt (x.pc.toNat + 1)).2 < 0x4000 →
          Gives (exec (.rpt t r count gc) s) s t
            (Tile.jumped 1 (x.retireAt (x.pc.toNat + 1)).2 (x.retireAt (x.pc.toNat + 1)).1))) ∧
      (∀ (r : Bool) (ofs : BitVec 11) (count : BitVec 12) (gc : BitVec 5), (if r then count = 0 else gc = 0) →
        (∀ n, n < x.ldepth → nget 0 x.le n ≠ x.pc) → x.ldepth ≠ 4 →
        let start := x.pc.toNat + 1
        let le := start + ofs.toNat
        le < 0x4000 →
        let n := if r then (x.gReg gc).toNat % 65536 else count.toNat
        (n ≠ 0 → Gives (exec (.rptb t r ofs count gc) s) s t (Tile.jumped 1 start
          { x with ldepth := x.ldepth + 1, lc := nput 0 x.lc x.ldepth (BitVec.ofNat 16 n),
                   ls := nput 0 x.ls x.ldepth (BitVec.ofNat 14 start), le := nput 0 x.le x.ldepth (BitVec.ofNat 14 le),
                   lrsd := nput 0 x.lrsd x.ldepth x.rsd })) ∧
        (n = 0 → (x.retireAt le).2 < 0x4000 →
          Gives (exec (.rptb t r ofs count gc) s) s t (Tile.jumped 1 (x.retireAt le).2 (x.retireAt le).1))) ∧
      (∀ (ind : Bool) (target : BitVec 14) (gs : BitVec 5), (if ind then target = 0 else gs = 0) →
        let a : BitVec 14 := if ind then (x.gReg gs).setWidth 14 else target
        Gives (exec (.br t ind target gs) s) s t
          { Tile.branchTo a.toNat x.ldepth x with pc := a, lastPc := x.pc, hu := x.hu + 2 } ∧
        (x.rsd ≠ 8 → x.pc.toNat + 1 < 0x4000 →
          Gives (exec (.call t ind target gs) s) s t
            { x with ret := nput 0 x.ret x.rsd (x.pc + 1), rsd := x.rsd + 1, pc := a, lastPc := x.pc, hu := x.hu + 2 })) ∧
      (∀ (cond : BitVec 4) (target : BitVec 14), cond ≠ 15 →
        (x.holds cond = true → Gives (exec (.brc t cond target) s) s t
          { Tile.branchTo target.toNat x.ldepth x with pc := target, lastPc := x.pc, hu := x.hu + 2 }) ∧
        (x.holds cond = false → x.goesOn → Gives (exec (.brc t cond target) s) s t (Tile.advanced 1 x))) ∧
      (x.rsd ≠ 0 →
        let a := (nget 0 x.ret (x.rsd - 1)).toNat
        let y := { x with rsd := x.rsd - 1 }
        let r := if a = 0 then (y, 0) else y.retireAt (a - 1)
        r.2 < 0x4000 → Gives (exec (.ret t) s) s t (Tile.jumped 2 r.2 r.1)) ∧
      (∀ (gd : BitVec 5) (age : Nat), age ≤ 2 → x.goesOn →
        let d := s.dom (s.tileDomain t)
        let p := Pg.awl t
        let gives := fun (sel : BitVec 2) (v : Word) =>
          Gives (exec (.fence t gd sel age) s) s t ((Tile.advanced 1 x).setG gd v)
        gives 0 (if d.fenced then 0 else BitVec.ofNat 32 (d.tickAt + d.tF - (s.now - age))) ∧
        gives 1 (BitVec.ofNat 32 x.since) ∧
        gives 2 x.tickNo ∧
        gives 3 (BitVec.ofNat 32 (s.get p AWL.PSTAT_ACTIVE_BANK + 2 * s.get p AWL.PSTAT_RAMP_BUSY + 4 * bit x.prevFailed))))

/-- WAITB (R59, R60, R62): the end of a pass. -/
def Obligations.AwlWaitb : Prop :=
  ∀ (s : State) (t done : Nat), t < 256 → s.executing t = true → (s.tile t).rpt = none →
    let x := s.tile t
    let d := s.dom (s.tileDomain t)
    ∃ u, exec (.waitb t done) s = .next u ∧
      (u.tile t).pc = x.pc ∧ (u.tile t).lastPc = x.pc ∧ (u.tile t).g = x.g ∧ (u.tile t).p = x.p ∧ (u.tile t).m = x.m ∧
      (u.tile t).l = x.l ∧ (u.tile t).acc = x.acc ∧ (u.tile t).ret = x.ret ∧ (u.tile t).rsd = x.rsd ∧
      (u.tile t).imem = x.imem ∧ (u.tile t).x = x.x ∧ (u.tile t).y = x.y ∧
      (x.pass = .running → (u.tile t).pass = .done ∧ u.now = max s.now (d.tickAt + min done d.tF)) ∧
      (x.pass = .missedRunning → (u.tile t).pass = .missed ∧ u.now = max s.now (d.tickAt + done)) ∧
      (∀ a, u.byte a = s.byte a)

/-- AWL_ILLEGAL (R121, R131), over every instruction that a tile issues. -/
def Obligations.AwlIllegal : Prop :=
  ∀ (s : State) (t c : Nat) (f : Win → Tile → Issue), t < 256 → s.executing t = true →
    (f (s.win t) (s.tile t)).causes.min? = some c → c < 16 →
    ∃ u, s.issue t f = .next u ∧
      u.get (Pg.awl t) AWL.ILLEGAL_COUNT = min (s.get (Pg.awl t) AWL.ILLEGAL_COUNT + 1) 0xFFFFFFFF ∧
      (s.flag (Pg.awl t) AWL.FAULT_INFO_VALID = false →
        u.get (Pg.awl t) AWL.FAULT_INFO_CAUSE = c ∧ u.get (Pg.awl t) AWL.FAULT_INFO_PC = (s.tile t).pc.toNat) ∧
      ((u.tile t).pass = .faulted ∨ (u.tile t).pass = .missed) ∧
      (u.tile t).g = (s.tile t).g ∧ (u.tile t).p = (s.tile t).p ∧ (u.tile t).acc = (s.tile t).acc ∧
      (u.tile t).x = (s.tile t).x ∧ (u.tile t).y = (s.tile t).y ∧ (∀ a, u.byte a = s.byte a)

/-- Circular addressing (R101). -/
def Obligations.AwlRing : Prop :=
  ∀ (p : BitVec 15) (step : Int) (len : BitVec 15), len.toNat ≤ 16384 →
    (len = 0 → (modify p step len).toNat = ((p.toNat : Int) + step) % 32768) ∧
    (len ≠ 0 → ∃ m b : Nat, 2 ^ m < 2 * len.toNat ∧ len.toNat ≤ 2 ^ m ∧ b % 2 ^ m = 0 ∧ b ≤ p.toNat ∧ p.toNat < b + 2 ^ m ∧
      b ≤ (modify p step len).toNat ∧ (modify p step len).toNat < b + len.toNat ∧
      (((modify p step len).toNat : Int) - ((p.toNat : Int) + step)) % (len.toNat : Int) = 0)

/-- Decode of encode, and encode of decode, over the ten groups of a tile's instruction words (chapter 05). -/
def Obligations.AwlWords : Prop :=
  (∀ (c : Instr) (w : Word), Awl.canonical c = true → Awl.encode c = some w → ∃ t, Awl.decode t w = c) ∧
  (∀ (t : Nat) (w : Word), Awl.encode (Awl.decode t w) = some w)

/-! ### Resets, boot and the control complex (chapters 02 and 20) -/

/-- Power-on reset, RESET_N and soft resets. -/
def Obligations.Resets : Prop :=
  (∀ (s : State) (b : BootView) (i : ImgInfo), (s.ctrl.bootMode = 0 ∨ (s.ctrl.bootMode = 2 ∧ s.life.cycle ≠ 0)) →
    s.ctrl.updated = none → b.wipeFail = 0 → s.boots b s.ctrl.active i →
    ∃ u, exec (.powerOnReset b) s = .next u ∧ Booted s.ctrl.active i u ∧ Sliced i u ∧ UnitsReset u ∧ u.ctrl.resetN = true ∧
      u.ctrl.img = i ∧ u.now = 0 ∧ u.nanos0 = 0 ∧ u.part = s.part) ∧
  (∀ (s : State) (b : BootView) (i : ImgInfo) (mode : BitVec 2), (mode = 0 ∨ (mode = 2 ∧ s.life.cycle ≠ 0)) →
    s.ctrl.resetN = false → s.ctrl.updated = none → s.vaultFailed = 0 → b.wipeFail = 0 → s.boots b s.ctrl.active i →
    ∃ u, exec (.resetNRelease mode b) s = .next u ∧ Booted s.ctrl.active i u ∧ Sliced i u ∧ UnitsReset u ∧ u.ctrl.resetN = true ∧
      u.ctrl.bootMode = mode ∧ u.now = 0 ∧ u.part = s.part) ∧
  (∀ (s : State) (b : BootView) (mode : BitVec 2), mode = 1 ∨ mode = 3 → s.ctrl.resetN = false →
    ∃ u, exec (.resetNRelease mode b) s = .next u ∧ u.fwState = Fw.recovery ∧
      u.get Pg.host HOST.BOOT_STAT_FAIL_CODE = 7 ∧ UnitsReset u) ∧
  (∀ s : State, s.ctrl.resetN = true →
    ∃ u, exec .resetNFall s = .next u ∧ UnitsReset u ∧ u.ctrl.resetN = false ∧ u.ctrl.active = s.ctrl.active ∧
      u.life.cycle = s.life.cycle ∧ u.part = s.part ∧
      (∀ p f i, p ≠ Pg.girth → p ≠ Pg.keeper → u.get p f i = resetAt p f i)) ∧
  (∀ (s : State) (b : BootView) (i : ImgInfo) (m : Master), Master.isCore m = true → s.fwRunning = true →
    s.ctrl.updated = none → s.boots b s.ctrl.active i →
    ∃ u, exec (.softReset m b) s = .next u ∧ Booted s.ctrl.active i u ∧ Sliced i u ∧ u.ready = false ∧ u.soft = true ∧
      u.harness.txns = [] ∧ u.get Pg.harness HARNESS.DRAM_MAP_SIZE0 = 0 ∧ u.cinch.resetPending = true) ∧
  (∀ (s : State) (b : BootView) (i : ImgInfo), s.cinch.resetPending = true → s.ready = true →
    s.ctrl.updated = none → s.boots b s.ctrl.active i →
    ∃ u, exec (.level4Reset b) s = .next u ∧ Booted s.ctrl.active i u ∧ Sliced i u ∧ u.ready = false ∧ u.soft = true ∧
      u.harness.txns = [] ∧ u.now = max s.now (s.cinch.resetTimes.head?.getD s.now + 6250000))

/-- Bring-up and the boot timeout. -/
def Obligations.BringUp : Prop :=
  (∀ (s : State) (v : StageView), s.ready = false → s.stage = 0 → s.fwState = Fw.verify → s.ctrl.restarting = false →
    ∃ u, exec (.bringupStageEnd v) s = .next u ∧ u.fwState = Fw.run ∧ u.stage = 1 ∧
      u.get Pg.ctrl CTRL.FW_ID_MAJOR = s.ctrl.img.major.toNat ∧ u.get Pg.ctrl CTRL.FW_ID_MINOR = s.ctrl.img.minor.toNat ∧
      u.get Pg.ctrl CTRL.FW_ID_BUILD = s.ctrl.img.build.toNat ∧ u.ready = false ∧ (∀ a, u.byte a = s.byte a)) ∧
  (∀ (s : State) (v : StageView), s.ready = false → s.stage = 1 → s.fwRunning = true → s.soft = false →
    ∃ u, exec (.bringupStageEnd v) s = .next u ∧ u.stage = 2 ∧ u.flag Pg.host HOST.BRINGUP_BOARD_CFG = !v.boardOk ∧
      u.flag Pg.host HOST.BRINGUP_AVS = (s.flag Pg.host HOST.BRINGUP_AVS || v.vcoreMv.isNone) ∧ u.evt Pg.life 3 = true ∧
      (s.life.area.slots = [] → s.life.area.warns = [] → u.flag Pg.life LIFE.REC_STAT_FRESH = true ∧ u.life.fits = [] ∧
        u.life.fitCommon = 0 ∧ u.get Pg.life LIFE.REC_SEQ_SEQ = 0) ∧
      (∀ k r, s.life.area.slots = [(k, some r)] → k < s.get Pg.life LIFE.AREA_SIZE - 1 → s.life.area.warns = [] →
        u.flag Pg.life LIFE.REC_STAT_FRESH = false ∧ u.life.fits = r.fits ∧ u.life.fitCommon = r.fitCommon ∧
        u.get Pg.life LIFE.REC_SEQ_SEQ = r.seq % 2 ^ 32)) ∧
  (∀ (s : State) (v : StageView), s.ready = false → s.stage = 2 → s.fwRunning = true → s.soft = true →
    s.flag Pg.girth PG.CTRL_DRAIN = false → s.flag Pg.girth PG.CTRL_EN = false →
    ∃ u, exec (.bringupStageEnd v) s = .next u ∧ u.stage = 3 ∧ u.flag Pg.girth PG.CTRL_EN = true ∧
      u.flag Pg.girth PG.STAT_QUIESCED = false ∧
      Kept [] (fields [fkey Pg.girth PG.CTRL_EN 0, fkey Pg.girth PG.STAT_QUIESCED 0, fkey Pg.host HOST.BRINGUP_STAGE 0])
        noByte s u) ∧
  (∀ (s : State) (v : StageView), s.ready = false → s.stage = 3 → s.fwRunning = true →
    s.flag Pg.host HOST.BRINGUP_BOARD_CFG = true →
    ∃ u, exec (.bringupStageEnd v) s = .next u ∧ u.stage = 4 ∧
      Kept [] (fields [fkey Pg.host HOST.BRINGUP_STAGE 0]) noByte s u) ∧
  (∀ (s : State) (v : StageView), s.ready = false → s.stage = 5 → s.fwRunning = true →
    ∃ u, exec (.bringupStageEnd v) s = .next u ∧ u.ready = true ∧ u.evt Pg.host 5 = true ∧
      u.cinch = { s.cinch with resetPending := false } ∧
      Kept [.cinch, .msix] (fields [fkey Pg.host HOST.BRINGUP_READY 0, fkey Pg.host PG.EVT 0]) noByte s u) ∧
  (∀ (s : State) (b : BootView) (i : ImgInfo) (x : Slot), s.ctrl.trial = some x → s.fwRunning = false →
    s.boots b (otherSlot x) i →
    ∃ u, exec (.fwUpdateBootTimeout b) s = .next u ∧ Booted (otherSlot x) i u ∧ u.slotFailed x = true ∧ u.now = max s.now (s.ctrl.bootAt + 1250000000) ∧
      u.ctrl.trial = none ∧ u.ctrl.updated = none ∧ u.get Pg.host HOST.BOOT_STAT_FAIL_CODE = 6 ∧
      u.get Pg.host HOST.BOOT_STAT_FAIL_SLOT = slotCode x ∧ (s.ctrl.sliced = false → Sliced i u) ∧
      (s.ctrl.sliced = true → u.get Pg.harness HARNESS.SLICE_M_SLICES = s.get Pg.harness HARNESS.SLICE_M_SLICES ∧
        u.get Pg.harness HARNESS.SLICE_T_SLICES = s.get Pg.harness HARNESS.SLICE_T_SLICES) ∧ SramOnly s u)

/-- The watchdog (R55) and a restart (R31, R234). -/
def Obligations.Watchdog : Prop :=
  (∀ (s : State) (m : Master), s.takes m Pg.ctrl → Master.isCore m = true →
    ∃ u, exec (.wdogKick m 0x5A17) s = .next u ∧ u.lastResp = some (.ok []) ∧ u.ctrl.wdogAt = s.now ∧
      Kept [.resp, .ctrl] (fields []) noByte s u) ∧
  (∀ (s : State) (m : Master) (v : Word), s.takes m Pg.ctrl → ¬ (Master.isCore m = true ∧ v = 0x5A17) →
    ∃ u, exec (.wdogKick m v) s = .next u ∧ Wrote Pg.ctrl s u ∧
      u.get Pg.ctrl CTRL.WDOG_BAD = min (s.get Pg.ctrl CTRL.WDOG_BAD + 1) 0xFFFFFFFF ∧ u.evt Pg.ctrl 1 = true ∧
      Kept [.resp, .ctrl, .msix] (fields [fkey Pg.ctrl CTRL.WDOG_BAD 0, fkey Pg.ctrl PG.EVT 0]) noByte s u) ∧
  (∀ s : State, s.flag Pg.ctrl CTRL.WDOG_STAT_ARMED = true →
    ∃ u, exec .watchdogExpiry s = .next u ∧ u.fwState = Fw.restarting ∧ u.flag Pg.ctrl CTRL.WDOG_STAT_ARMED = false ∧
      u.get Pg.ctrl CTRL.WDOG_EXPIRIES = min (s.get Pg.ctrl CTRL.WDOG_EXPIRIES + 1) 0xFFFFFFFF ∧
      u.flag Pg.harness HARNESS.REMAP_REMAP = false ∧ u.ctrl.restarting = true ∧ u.ctrl.long = [] ∧
      u.ctrl.held = [] ∧
      u.ctrl.lost = s.ctrl.lost ++ s.ctrl.held.map (fun r => ⟨r.op, r.tag⟩) ++ s.ctrl.long ∧ u.condition Src.watchdog 0 = true ∧
      u.now = max s.now (s.ctrl.wdogAt + 62500000)) ∧
  (∀ (s : State) (b : BootView) (i : ImgInfo), s.ctrl.restarting = true → s.fwState = Fw.restarting →
    s.boots b (slotOf (s.get Pg.host HOST.BOOT_STAT_SLOT)) i → (∀ c ∈ [7, 8, 9, 10], s.masterInReset c = false) →
    ∃ u, exec (.restarted b) s = .next u ∧ u.fwState = Fw.run ∧ u.ctrl.restarting = false ∧ u.ctrl.lost = [] ∧
      u.evt Pg.ctrl 2 = true ∧ u.condition Src.watchdog 0 = false ∧ u.keeper.fullNext = true ∧
      u.get Pg.ctrl CTRL.FW_ID_MAJOR = i.major.toNat ∧
      (∀ k, k < Mem.sramSize → k < i.bytes.length → u.byte (Mem.sram + k) = i.bytes.getD k 0) ∧ SramOnly s u) ∧
  (∀ (s : State) (b : BootView) (c : Nat), c ∈ [7, 8, 9, 10] → s.masterInReset c = true → exec (.restarted b) s = .next s)

/-- FW_UPDATE (R52, R53) and the PCIe link. -/
def Obligations.FirmwareUpdate : Prop :=
  ∀ s : State,
    (∀ (tag : BitVec 8) (addr len : Nat), s.serves → addr < 2 ^ 48 → 0 < len → s.longRuns Op.fwUpdate = false →
      ∃ u, exec (.fwUpdate tag addr len) s = .next u ∧ Accepted Op.fwUpdate tag Pg.ctrl s u ∧ u.ctrl.fwLen = len ∧
        Kept [.resp, .ctrl, .msix] (fields (replyFields ++ progressFields Pg.ctrl)) noByte s u) ∧
    (∀ (l : LongCmd) (v : SlotVerdict), (s.ctrl.long.find? fun l => l.op == BitVec.ofNat 8 Op.fwUpdate) = some l →
      ∃ u, exec (.fwUpdateDone v) s = .next u ∧
        (∀ i, v = .ok i → Finished Op.fwUpdate l.tag Pg.ctrl St.ok s u ∧ u.ctrl.updated = some (otherSlot s.ctrl.active) ∧
          u.slotFailed (otherSlot s.ctrl.active) = false ∧ u.get Pg.ctrl PG.PROGRESS_POSITION = s.ctrl.fwLen / 1024 % 2 ^ 24) ∧
        (v = .signature ∨ v = .secver → Finished Op.fwUpdate l.tag Pg.ctrl St.authFail s u ∧
          u.ctrl.updated = s.ctrl.updated ∧ u.ctrl.failedA = s.ctrl.failedA ∧ u.ctrl.failedB = s.ctrl.failedB) ∧
        Kept [.ctrl, .msix] (fields (fkey Pg.host PG.EVT 0 :: progressFields Pg.ctrl)) noByte s u) ∧
    (∃ u, exec .pcieLinkReset s = .next u ∧ u.ctrl.linkUp = false ∧ u.masterInReset 11 = true ∧
      u.condition Src.linkDown 0 = true ∧ (∀ t ∈ u.harness.txns, t.req.master = 11 → t.granted = true) ∧
      (∀ a, u.byte a = s.byte a)) ∧
    (∀ (rate : BitVec 2) (width : Nat) (ppm : BitVec 16), width = 1 ∨ width = 2 ∨ width = 4 →
      ∃ u, exec (.pcieLinkUp rate width ppm) s = .next u ∧ u.ctrl = { s.ctrl with linkUp := true } ∧
        u.condition Src.linkDown 0 = false ∧
        (∀ n ∈ [6, 7, 8, 9], u.get (Pg.lane n) LANE.STAT_RATE = rate.toNat ∧
          u.flag (Pg.lane n) LANE.SLEEP_TX = decide (6 + width ≤ n) ∧
          u.flag (Pg.lane n) LANE.SLEEP_RX = decide (6 + width ≤ n) ∧
          u.flag (Pg.lane n) LANE.STAT_RX_LOCKED = (decide (n < 6 + width) && tracks ppm)) ∧
        Kept [.ctrl, .cinch, .lanes] (fun k => k.p = Pg.cinch ∨ ∃ n ∈ [6, 7, 8, 9], k.p = Pg.lane n) noByte s u)

/-! ### Plans, commits and swaps (chapters 02, 03 and 06) -/

/-- Plan slots (R52, R75, R76). -/
def Obligations.PlanSlots : Prop :=
  (∀ (s : State) (tag : BitVec 8) (addr len slot : Nat), s.serves → slot ≤ 1 → 0 < len → addr < 2 ^ 48 →
    s.fabricEnabled = true → s.slotRuns slot = false → s.slotArmed slot = false → s.fabric.loading = none →
    ∃ u, exec (.planLoad tag addr len slot) s = .next u ∧ Accepted Op.planLoad tag Pg.fabric s u ∧
      u.slotPlan slot = none ∧ u.slotPlan (1 - slot) = s.slotPlan (1 - slot) ∧ u.fabric.loading = some ⟨slot, len, tag⟩ ∧
      u.flag Pg.fabric (loadedFld slot) = false ∧ u.admitted slot = false ∧
      Kept [.resp, .ctrl, .msix, .fabric] (fields (replyFields ++ progressFields Pg.fabric ++
        [fkey Pg.fabric (loadedFld slot) 0, fkey Pg.fabric (admittedFld slot) 0])) noByte s u) ∧
  (∀ (s : State) (l : PlanLoading) (img : PlanImage), s.fabric.loading = some l → imageOk l img = true →
    s.streamsFit img.plan = true →
    ∃ u, exec (.planLoadDone img) s = .next u ∧ Finished Op.planLoad l.tag Pg.fabric St.ok s u ∧
      u.slotPlan l.slot = some img.plan ∧ u.fabric.loading = none ∧ u.flag Pg.fabric (loadedFld l.slot) = true ∧
      u.get Pg.fabric PG.PROGRESS_POSITION = l.len / 1024 % 2 ^ 24 ∧
      Kept [.ctrl, .msix, .fabric] (fields (fkey Pg.host PG.EVT 0 :: fkey Pg.fabric (loadedFld l.slot) 0 ::
        progressFields Pg.fabric)) noByte s u) ∧
  (∀ (s : State) (l : PlanLoading) (img : PlanImage), s.fabric.loading = some l → imageOk l img = false →
    ∃ u, exec (.planLoadDone img) s = .next u ∧ Finished Op.planLoad l.tag Pg.fabric St.badArg s u ∧
      u.fabric = { s.fabric with loading := none } ∧
      Kept [.ctrl, .msix, .fabric] (fields (fkey Pg.host PG.EVT 0 :: progressFields Pg.fabric)) noByte s u) ∧
  (∀ (s : State) (tag : BitVec 8) (slot : Nat), s.serves → slot ≤ 1 → s.fabricEnabled = true → s.slotLoading slot = false →
    ∃ u, exec (.planAdmit tag slot) s = .next u ∧
      (s.slotPlan slot = none → Replied Op.planAdmit tag St.refused [6, 0xFFFFFFFF, 0, 0] u ∧ u.admitted slot = false ∧
        u.get Pg.fabric FABRIC.PLAN_STAT_FAIL_CHECK = 6 ∧ u.fabric = s.fabric) ∧
      (∀ p, s.slotPlan slot = some p → s.admitFailure p = none →
        Replied Op.planAdmit tag St.ok [] u ∧ u.admitted slot = true ∧ u.slotPlan slot = some (s.strike p)) ∧
      (∀ p f, s.slotPlan slot = some p → s.admitFailure p = some f →
        Replied Op.planAdmit tag St.refused f.words u ∧ u.admitted slot = false ∧ u.fabric = s.fabric ∧
          u.get Pg.fabric FABRIC.PLAN_STAT_FAIL_CHECK = f.reason % 2 ^ FABRIC.PLAN_STAT_FAIL_CHECK.w) ∧
      Kept [.resp, .ctrl, .msix, .fabric] (fun k => k ∈ replyFields ∨ k.p = Pg.fabric) noByte s u)

/-- The arming of commits (R168, R169, R179). -/
def Obligations.Commits : Prop :=
  ∀ (s : State) (tag : BitVec 8) (arg : Word) (sec ns i : Nat), s.serves →
    (sec * 1000000000 + ns < s.nanos0 + 5000000 →
      (commitArgOk 1 arg sec ns = true → commitSet arg ≠ 0 → s.mixEnabled = true →
        ∃ u, exec (.commitAtScene tag arg sec ns) s = .next u ∧ Replied Op.commitAt tag St.tooLate [] u ∧
          Kept [.resp, .ctrl, .msix] (fields replyFields) noByte s u) ∧
      (commitArgOk 2 arg sec ns = true → commitSet arg < 2 → s.fabricEnabled = true →
        ∃ u, exec (.commitAtPlanSwap tag arg sec ns) s = .next u ∧ Replied Op.commitAt tag St.tooLate [] u ∧
          Kept [.resp, .ctrl, .msix] (fields replyFields) noByte s u)) ∧
    (s.nanos0 + 5000000 ≤ sec * 1000000000 + ns → s.freeEntry = some i →
      (commitArgOk 1 arg sec ns = true → commitSet arg ≠ 0 → s.mixEnabled = true → s.changeArmed = false →
        s.mix.rampsEnd ≤ sec * 1000000000 + ns →
        ∃ u, exec (.commitAtScene tag arg sec ns) s = .next u ∧ Replied Op.commitAt tag St.ok [] u ∧
          u.mix = { s.mix with commits := nset s.mix.commits i ⟨1, commitSet arg, sec, ns, false, [], [], [], false⟩ } ∧
          Kept [.resp, .ctrl, .msix, .mix] (fields replyFields) noByte s u) ∧
      (commitArgOk 3 arg sec ns = true → commitSet arg / 8 % 16 = 0 → s.reinEnabled = true →
        ∃ u, exec (.commitAtRefSwitch tag arg sec ns) s = .next u ∧ Replied Op.commitAt tag St.ok [] u ∧
          u.mix = { s.mix with commits := nset s.mix.commits i ⟨3, commitSet arg, sec, ns, false, [], [], [], false⟩ } ∧
          Kept [.resp, .ctrl, .msix, .mix] (fields replyFields) noByte s u) ∧
      (commitArgOk 4 arg sec ns = true → commitSet arg < 2 →
        ∃ u, exec (.commitAtHandover tag arg sec ns) s = .next u ∧
          Replied Op.commitAt tag St.refused [BitVec.ofNat 32 (Config.freeValue s.freeCtr)] u ∧
          Kept [.free, .resp, .ctrl, .msix] (fields replyFields) noByte s u) ∧
      (∀ p, commitArgOk 2 arg sec ns = true → commitSet arg < 2 → s.fabricEnabled = true → s.changeArmed = false →
        s.pairHoldsBack = false → s.admitted (commitSet arg) = true → s.slotRuns (commitSet arg) = false →
        s.slotPlan (commitSet arg) = some p → s.warmTooLate p (sec * 1000000000 + ns) = false →
        ∃ u, exec (.commitAtPlanSwap tag arg sec ns) s = .next u ∧ Replied Op.commitAt tag St.ok [] u ∧
          u.mix = { s.mix with commits := nset s.mix.commits i ⟨2, commitSet arg, sec, ns, false, [], [], [], false⟩ } ∧
          u.fabric = { s.fabric with
            swap := some ⟨commitSet arg, [], s.get Pg.fabric FABRIC.RELOC_CFG_WARM_BLOCKS, [], [], false⟩ } ∧
          u.flag Pg.fabric FABRIC.PLAN_STAT_SWAP_ARMED = true ∧
          Kept [.resp, .ctrl, .msix, .mix, .fabric] (fields ([fkey Pg.fabric FABRIC.PLAN_STAT_SWAP_ARMED 0,
            fkey Pg.mix MIX.SWAP_STAT_L 0, fkey Pg.mix MIX.SWAP_STAT_RELOAD_TILES 0] ++ replyFields)) noByte s u))

/-- Armed plan swaps (R77, R179). -/
def Obligations.PlanSwaps : Prop :=
  (∀ (s : State) (t : Nat) (w : Swap) (p : Plan) (x : PlanTile), t < 256 → s.fabric.swap = some w → s.swapPlan = some p →
    ((s.tilesIn p .warm).find? fun x => x.tile == t) = some x → (w.warm.any fun e => e.1 == t) = false →
    ∃ u, exec (.warmTileLoaded t) s = .next u ∧
      u.tile t = { ((s.tile t).load x).preset x with shadow := true, pass := .idle, rpt := none } ∧
      (∀ j, j ≠ t → u.tile j = s.tile j) ∧
      u.fabric = { s.fabric with place := nset s.fabric.place t x, swap := some { w with warm := w.warm ++ [(t, 0)] } } ∧
      u.get (Pg.awl t) AWL.WIN_CH_NIN = x.inputs.length % 2 ^ AWL.WIN_CH_NIN.w ∧
      Kept [.tiles, .fabric] (fields [fkey (Pg.awl t) AWL.PSTAT_RAMP_BUSY 0, fkey (Pg.awl t) AWL.WIN_CFG_WIN_HALF 0,
        fkey (Pg.awl t) AWL.WIN_CH_NIN 0, fkey (Pg.awl t) AWL.WIN_CH_NOUT 0, fkey (Pg.awl t) AWL.ENTRY_ADDR 0])
        noByte s u) ∧
  (∀ (s : State) (i : Nat) (c : Commit) (w : Swap) (p : Plan), s.armed Ck.swap = some (i, c) → s.fabric.swap = some w →
    s.swapPlan = some p → c.begun = false →
    let v := s.untilTime0 (c.at_ - 20000000)
    ∃ u, exec .swapAdmitCheck s = .next u ∧
      (v.admitFailure p = none → u = v.setSlot w.slot (some (v.strike p))) ∧
      (∀ f, v.admitFailure p = some f →
        u.admitted w.slot = false ∧ u.fabric.swap = none ∧ SMap.find? u.mix.commits i = none ∧
          u.flag Pg.fabric FABRIC.PLAN_STAT_SWAP_ARMED = false ∧ u.get Pg.mix MIX.COMMIT_RESULT_RESULT = Cr.admitFail ∧
          u.evt Pg.fabric 8 = true ∧ u.evt Pg.mix 2 = true ∧ u.now = v.now)) ∧
  (∀ (s : State) (d : Nat), d < 3 →
    let ended := fun (w : WarmFade) => w.dom == d && decide (w.len ≤ w.pos)
    let old := (s.fabric.warmFades.filter ended).flatMap (·.old)
    (∀ t ∈ old, t < 256) →
    ∃ u, exec (.swapXfadeEnd d) s = .next u ∧ u.fabric.warmFades = s.fabric.warmFades.filter (fun w => !ended w) ∧
      (∀ t ∈ old, (u.tile t).pass = .idle ∧ u.cost t = 0 ∧ SMap.find? u.fabric.place t = none ∧
        u.get (Pg.awl t) AWL.WIN_CH_NIN = 0 ∧ u.get (Pg.awl t) AWL.WIN_CH_NOUT = 0) ∧
      (∀ t, t ∉ old → u.tile t = s.tile t ∧ u.cost t = s.cost t) ∧
      Kept [.tiles, .fabric, .mix] (fun k => k.p = Pg.fabric ∧ k.off = FABRIC.TILE_COST_HU.off ∨
        (∃ t ∈ old, k.p = Pg.awl t) ∨ k.p = Pg.mix ∧ k.off = MIX.ROUTE_DATA_SOURCE.off) noByte s u)

/-! ### Passes, fences and the margin engine (chapter 03) -/

/-- Block ticks, passes, fences and speeds. -/
def Obligations.Passes : Prop :=
  (∀ (s : State) (d t : Nat) (x : PlanTile), d < 3 → t < 256 → s.tickDue d = true → s.mix.commits = [] → s.keeper.armed = none →
    s.fabric.running = none → s.fabric.place = [(t, x)] → x.domain = d → s.fabric.reloadWait = [] →
    s.fabricEnabled = true → s.enabled (Pg.awl t) = true →
    ∃ u, exec (.blockTick d) s = .next u ∧ (u.dom d).count = (s.dom d).count + 1 ∧ (u.dom d).tickAt = u.now ∧
      (u.dom d).fenced = false ∧ (u.tile t).pass = .waiting ∧ (u.tile t).pc = x.entry ∧ (u.tile t).hu = 0) ∧
  (∀ (s : State) (d : Nat), d < 3 → s.tickDue d = true → s.mix.commits = [] → s.keeper.armed = none →
    s.fabric.reloadWait = [] → s.fabricEnabled = true → (s.fabric.place.map (·.1)).Nodup →
    ∃ u, exec (.blockTick d) s = .next u ∧ (u.dom d).count = (s.dom d).count + 1 ∧ (u.dom d).tickAt = u.now ∧
      (u.dom d).fenced = false ∧
      ∀ e ∈ s.fabric.place, e.2.domain = d → e.1 < 256 → s.enabled (Pg.awl e.1) = true → (s.tile e.1).shadow = false →
        (u.tile e.1).pass = .waiting ∧ (u.tile e.1).pc = e.2.entry ∧ (u.tile e.1).hu = 0) ∧
  (∀ (s : State) (d : Nat), d < 3 → (s.dom d).tF ≠ 0 → (s.dom d).fenced = false →
    ∃ u, exec (.fenceExpiry d) s = .next u ∧ (u.dom d).fenced = true ∧
      u.now = max s.now ((s.dom d).tickAt + (s.dom d).tF) ∧
      ∀ t ∈ s.tilesOf d,
        ((s.tile t).pass = .running → (u.tile t).pass = .missedRunning ∧ (u.tile t).missAt = u.now ∧ (u.tile t).onTime = 0 ∧
          u.get Pg.fabric FABRIC.TILE_STAT_CONSEC_MISS t = min (s.get Pg.fabric FABRIC.TILE_STAT_CONSEC_MISS t + 1) 15) ∧
        ((s.tile t).pass = .waiting → (u.tile t).pass = .late) ∧
        ((s.tile t).pass ≠ .running → (s.tile t).pass ≠ .waiting → u.tile t = s.tile t)) ∧
  (∀ (s : State) (t : Nat), t < 256 → (s.tile t).pass = .waiting → (s.dom (s.tileDomain t)).fenced = false →
    ∃ u, exec (.passStart t) s = .next u ∧ u.now = max s.now ((s.dom (s.tileDomain t)).tickAt + 25) ∧
      u.tile t = { s.tile t with pass := .running, valid := true, startAt := u.now } ∧
      (∀ j, j ≠ t → u.tile j = s.tile j) ∧ Kept [.clock, .time, .tiles] (fields []) noByte s u) ∧
  (∀ (s : State) (d t : Nat), d < 3 → (s.dom d).tF ≠ 0 → (s.dom d).fenced = false → s.tilesOf d = [t] →
    ∃ u, exec (.fenceExpiry d) s = .next u ∧ (u.dom d).fenced = true ∧
      u.now = max s.now ((s.dom d).tickAt + (s.dom d).tF) ∧
      ((s.tile t).pass = .running → (u.tile t).pass = .missedRunning ∧
        u.get Pg.fabric FABRIC.MISS_TOTAL = min (s.get Pg.fabric FABRIC.MISS_TOTAL + 1) 0xFFFFFFFF ∧
        u.get Pg.fabric FABRIC.TILE_STAT_CONSEC_MISS t = min (s.get Pg.fabric FABRIC.TILE_STAT_CONSEC_MISS t + 1) 15 ∧
        u.evt Pg.fabric 0 = true) ∧
      ((s.tile t).pass = .waiting → (u.tile t).pass = .late ∧ u.evt Pg.fabric 9 = true ∧
        u.get Pg.fabric FABRIC.DELIVERY_LATE = min (s.get Pg.fabric FABRIC.DELIVERY_LATE + 1) 0xFFFFFFFF)) ∧
  (∀ (s : State) (t : Nat), t < 256 → 64 ≤ (s.tile t).onTime →
    ∃ u, exec (.deadlineClear t) s = .next u ∧ u.condition Src.awlDeadline t = false ∧
      Kept [.cinch] (fun k => k.p = Pg.cinch) noByte s u) ∧
  (∀ (s : State) (t v : Nat), t < s.tileCount → s.flag Pg.fabric FABRIC.TILE_SPEED_EST_SOURCE t = false →
    ∃ u, exec (.speedMeasure [(t, v)]) s = .next u ∧ (u.tile t).canary = (v :: (s.tile t).canary).take 16 ∧
      u.get Pg.fabric FABRIC.TILE_SPEED_SPEED t = min (canarySpeed ((v :: (s.tile t).canary).take 16)) 65535 ∧
      Kept [.tiles] (fields [fkey Pg.fabric FABRIC.TILE_SPEED_SPEED t]) noByte s u) ∧
  (∀ (s : State) (t a : Nat), t < 256 → s.flag Pg.fabric FABRIC.TILE_SPEED_EST_SOURCE t = true →
    (s.tile t).agreeAt = some a →
    ∃ u, exec (.speedSourceRevert t) s = .next u ∧ u.now = max s.now (a + 625000000) ∧
      u.flag Pg.fabric FABRIC.TILE_SPEED_EST_SOURCE t = false ∧
      u.get Pg.fabric FABRIC.TILE_SPEED_SPEED t = min (canarySpeed (s.tile t).canary) 65535 ∧
      u.tile t = { s.tile t with slowObs := 0, agreeAt := none } ∧
      Kept [.clock, .time, .tiles] (fields [fkey Pg.fabric FABRIC.TILE_SPEED_SPEED t, fkey Pg.fabric FABRIC.TILE_SPEED_EST_SOURCE t])
        noByte s u) ∧
  (∀ (s : State) (m : Master) (d pct : Nat), d < 3 → s.takes m Pg.fabric →
    ∃ u, exec (.fencePctWrite m d pct) s = .next u ∧ Wrote Pg.fabric s u ∧
      (50 ≤ pct → pct ≤ 95 → s.domActive d = false → u.fencePct d = pct) ∧
      (50 ≤ pct → pct ≤ 95 → s.domActive d = true → s.fenceAllowed d pct = true → u.fencePct d = s.fencePct d ∧
        (u.dom d).nextPct = some pct) ∧
      (pct < 50 ∨ 95 < pct → u.evt Pg.fabric 7 = true ∧ u.fencePct d = s.fencePct d) ∧
      Kept [.resp, .ctrl, .msix, .fabric] (fields [fkey Pg.fabric (FABRIC.DOM_CFG_FENCE_PCT d) 0, fkey Pg.fabric PG.EVT 0])
        noByte s u)

/-- Escalations and the voltage stage (R79 to R83, R464). -/
def Obligations.Escalations : Prop :=
  ∀ (s : State) (t : Nat), t < 256 →
    (s.esc t = none → 8 ≤ s.get Pg.fabric FABRIC.TILE_STAT_CONSEC_MISS t → s.avsEnabled = true → s.fabric.raise = none →
      s.raiseObserved = false → s.atCeiling = false →
      ∃ u, exec (.escalationTrigger t) s = .next u ∧ u.fabric.raise = some ⟨s.raiseTarget, 0, false, u.now, false, []⟩ ∧
        u.esc t = some ⟨.voltage, false, false, [], none, (s.tile t).missAt⟩ ∧
        u.now = max s.now (s.tickCycle (s.tileDomain t) ((s.dom (s.tileDomain t)).count + 1)) ∧
        u.flag Pg.fabric FABRIC.TILE_STAT_ESCALATED t = true ∧ u.get Pg.fabric FABRIC.MARGIN_STAT_STAGE = 1 ∧
        u.get Pg.fabric FABRIC.MARGIN_STAT_TILE = t ∧ u.evt Pg.fabric 2 = true ∧
        u.get Pg.fabric FABRIC.AVS_STEPS = min (s.get Pg.fabric FABRIC.AVS_STEPS + 1) 0xFFFFFFFF ∧
        Kept [.clock, .time, .fabric, .msix] (fun k => k.p = Pg.fabric) noByte s u) ∧
    (∀ (r : Raise) (mv : Nat), s.fabric.raise = some r → r.settling = false →
      ∃ u, exec (.avsAck mv) s = .next u ∧
        u.fabric = { s.fabric with raise := some { r with settling := true, ackAt := s.now }, coreMv := r.mv } ∧
        u.get Pg.life LIFE.VCORE_READ_MV = mv % 2 ^ LIFE.VCORE_READ_MV.w ∧ u.flag Pg.life LIFE.VCORE_READ_VALID = true ∧
        Kept [.fabric] (fields [fkey Pg.life LIFE.VCORE_READ_MV 0, fkey Pg.life LIFE.VCORE_READ_VALID 0,
          fkey Pg.life LIFE.REPLAN_STEPS 0]) noByte s u) ∧
    (∀ r : Raise, s.fabric.raise = some r → r.settling = true → r.warned = [] → s.awaiting .voltage = [] →
      ∃ u, exec .avsSettleDone s = .next u ∧ u.fabric = { s.fabric with raise := none } ∧
        u.now = max s.now (r.ackAt + 156250) ∧
        u.life = (if r.forReplan then { s.life with settledAt := u.now } else s.life) ∧
        Kept [.clock, .time, .fabric, .life] (fields [fkey Pg.fabric FABRIC.MARGIN_STAT_TILE 0, fkey Pg.fabric FABRIC.MARGIN_STAT_STAGE 0])
          noByte s u) ∧
    (∀ r : Raise, s.fabric.raise = some r → r.settling = false → r.tries < 2 →
      ∃ u, exec .avsNoack s = .next u ∧ u.now = max s.now (r.ackAt + 625000) ∧
        u.fabric = { s.fabric with raise := some { r with tries := r.tries + 1, ackAt := u.now } } ∧
        u.get Pg.life LIFE.AVS_NOACK = min (s.get Pg.life LIFE.AVS_NOACK + 1) 0xFFFFFFFF ∧ u.evt Pg.life 6 = true ∧
        Kept [.clock, .time, .fabric, .msix] (fields [fkey Pg.life LIFE.AVS_NOACK 0, fkey Pg.life PG.EVT 0]) noByte s u) ∧
    (∀ e : Esc, s.esc t = some e → e.observing = true → 8 ≤ e.seen.length → e.seen.all (· == true) = true →
      ∃ u, exec (.stageJudged t) s = .next u ∧ u.esc t = some { e with
          stage := .settled, observing := false, prefer := if e.stage == .voltage then none else some e.stage } ∧
        Kept [.fabric] (fields [fkey Pg.fabric FABRIC.MARGIN_STAT_TILE 0, fkey Pg.fabric FABRIC.MARGIN_STAT_STAGE 0])
          noByte s u) ∧
    (∀ e : Esc, s.esc t = some e → e.missAt + 6250000000 ≤ s.now →
      ∃ u, exec (.escalationEnd t) s = .next u ∧ u.esc t = none ∧
        u.flag Pg.fabric FABRIC.TILE_STAT_ESCALATED t = false ∧
        Kept [.fabric] (fields [fkey Pg.fabric FABRIC.TILE_STAT_ESCALATED t, fkey Pg.fabric FABRIC.MARGIN_STAT_TILE 0,
          fkey Pg.fabric FABRIC.MARGIN_STAT_STAGE 0]) noByte s u) ∧
    (s.get Pg.fabric FABRIC.MARGIN_CTRL_SLACK_WARN ≠ 0 → 1024 ≤ (s.tile t).lowSlack → s.fabric.raise = none →
      s.avsEnabled = false →
      ∃ u, exec (.slackWarn t) s = .next u ∧ u.evt Pg.fabric 1 = true ∧ u.tile t = { s.tile t with lowSlack := 0 } ∧
        Kept [.tiles, .msix] (fields [fkey Pg.fabric PG.EVT 0]) noByte s u)

/-- Relocations and shed classes (R84 to R90). -/
def Obligations.Relocations : Prop :=
  ∀ s : State,
    (∀ (uid : Nat) (r : Reloc), s.relocOf uid = some r → r.phase = .copy →
      ∃ u, exec (.relocCopyDone uid) s = .next u ∧ u.relocOf uid = some { r with phase := .shadow 0 } ∧
        (∀ j, j ≠ r.dst → u.tile j = s.tile j) ∧ Kept [.tiles, .fabric] (fields []) noByte s u) ∧
    (∀ (uid n : Nat) (r : Reloc), s.relocOf uid = some r → r.phase = .shadow n →
      s.get Pg.fabric FABRIC.RELOC_CFG_WARM_BLOCKS ≤ n →
      ∃ u, exec (.relocWarmDone uid) s = .next u ∧ u.relocOf uid = some { r with phase := .fade 0 } ∧
        Kept [.fabric] (fields []) noByte s u) ∧
    (∀ (uid n : Nat) (r : Reloc), s.relocOf uid = some r → r.phase = .fade n → s.relocBlocks r < n →
      s.awaiting .relocation = [] →
      ∃ u, exec (.relocDone uid) s = .next u ∧ u.relocOf uid = none ∧ (uid, r.dst) ∈ u.fabric.moved ∧
        u.get Pg.fabric FABRIC.RELOC_COUNT = min (s.get Pg.fabric FABRIC.RELOC_COUNT + 1) 0xFFFFFFFF ∧
        u.evt Pg.fabric 4 = true ∧ Kept [.fabric, .msix] (fun k => k.p = Pg.fabric) noByte s u) ∧
    (∀ t cls, t < 256 → 1 ≤ cls → cls ≤ 7 → s.mayRestore t cls = true →
      ∃ u, exec (.restore t cls) s = .next u ∧ u.shedOn t cls = false ∧
        (∀ c, c ≠ cls → u.shedOn t c = s.shedOn t c) ∧
        u.cost t = (s.cost t + s.classHu t cls) % 2 ^ FABRIC.TILE_COST_HU.w ∧
        (u.shedRec t cls).shed = false ∧ (u.shedRec t cls).restoredAt = some s.now ∧ u.evt Pg.fabric 6 = true ∧
        Kept [.fabric, .mix, .msix] (fields [fkey Pg.fabric FABRIC.TILE_COST_HU t, fkey Pg.fabric FABRIC.TILE_STAT_SHED_MASK t,
          fkey Pg.fabric PG.EVT 0]) noByte s u) ∧
    (∀ t cls, t < 256 → 1 ≤ cls → cls ≤ 7 → (s.shedRec t cls).at_ + 375000000000 ≤ s.now →
      ∃ u, exec (.shedBackoffReset t cls) s = .next u ∧ u.shedRec t cls = { s.shedRec t cls with hold := 10 } ∧
        Kept [.fabric] (fields []) noByte s u) ∧
    (∀ m : Master, s.takes m Pg.fabric →
      ∃ u, exec (.backoffClr m) s = .next u ∧ Wrote Pg.fabric s u ∧ (∀ t cls, (u.shedRec t cls).hold = 10) ∧
        (∀ t cls, (u.shedRec t cls).shed = (s.shedRec t cls).shed) ∧ Kept [.resp, .ctrl, .fabric] (fields []) noByte s u)

/-! ### The mix unit and the tiles' pages (chapters 04 and 06) -/

/-- DIRECT changes (R162 to R165) and held staging writes (R112). -/
def Obligations.DirectChanges : Prop :=
  ∀ (s : State) (m : Master) (v : Word),
    (s.takes m Pg.mix → s.mixEnabled = true → s.mix.direct.length < 64 → s.directBad (s.directOf v) = false →
      let queued := fun (o : Outcome) => ∃ u, o = .next u ∧ Wrote Pg.mix s u ∧
        u.mix = { s.mix with direct := s.mix.direct ++ [s.directOf v] } ∧ Kept [.resp, .ctrl, .mix] (fields []) noByte s u
      (s.get Pg.mix MIX.DIRECT_TGT_KIND = 0 → s.hasWork (s.get Pg.mix MIX.DIRECT_TGT_TILE) = true →
        queued (exec (.directParam m v) s)) ∧
      (s.get Pg.mix MIX.DIRECT_TGT_KIND = 1 → s.hasWork (s.get Pg.mix MIX.DIRECT_TGT_TILE) = true →
        queued (exec (.directGain m v) s)) ∧
      (s.get Pg.mix MIX.DIRECT_TGT_KIND = 2 → queued (exec (.directRoute m v) s)) ∧
      (s.get Pg.mix MIX.DIRECT_TGT_KIND = 0 → s.hasWork (s.get Pg.mix MIX.DIRECT_TGT_TILE) = false →
        ∃ u, exec (.directParam m v) s = .next u ∧ Wrote Pg.mix s u ∧
          u.activeParam (s.get Pg.mix MIX.DIRECT_TGT_TILE) (s.get Pg.mix MIX.DIRECT_TGT_SLOT_DEST % 4096) = v ∧
          (∀ j, j ≠ s.get Pg.mix MIX.DIRECT_TGT_TILE → u.tile j = s.tile j) ∧
          Kept [.resp, .ctrl, .tiles] (fields []) noByte s u)) ∧
    (s.takes m Pg.mix → 64 ≤ s.mix.direct.length →
      let refused := fun (o : Outcome) => ∃ u, o = .next u ∧ Wrote Pg.mix s u ∧ u.evt Pg.mix 0 = true ∧
        u.get Pg.mix MIX.DIRECT_REFUSED = min (s.get Pg.mix MIX.DIRECT_REFUSED + 1) 0xFFFFFFFF ∧
        Kept [.resp, .ctrl, .msix] (fields [fkey Pg.mix MIX.DIRECT_REFUSED 0, fkey Pg.mix PG.EVT 0]) noByte s u
      (s.get Pg.mix MIX.DIRECT_TGT_KIND = 0 → refused (exec (.directParam m v) s)) ∧
      (s.get Pg.mix MIX.DIRECT_TGT_KIND = 1 → refused (exec (.directGain m v) s)) ∧
      (s.get Pg.mix MIX.DIRECT_TGT_KIND = 2 → refused (exec (.directRoute m v) s))) ∧
    (∀ t slot, t < 256 → slot < 4094 → s.betweenPasses t = true →
      (s.mix.direct.filter fun c => Direct.tile? c == some t) = [.param t slot v] →
      ∃ u, exec (.directApply t) s = .next u ∧
        u.mix = { s.mix with direct := s.mix.direct.filter fun c => Direct.tile? c != some t } ∧ u.activeParam t slot = v ∧
        (∀ j, j ≠ t → u.tile j = s.tile j) ∧ Kept [.mix, .tiles] (fields []) noByte s u) ∧
    (∀ t slot gain, t < 256 → slot < 4096 → s.flag (Pg.awl t) AWL.PSTAT_RAMP_BUSY = false →
      (s.mix.held.filter fun r => r.tile == t) = [⟨t, slot, v, gain⟩] →
      ∃ u, exec (.stagingRelease t) s = .next u ∧ u.mix.held = (s.mix.held.filter fun r => r.tile ≠ t) ∧
        (u.tile t).param (!s.flag (Pg.awl t) AWL.PSTAT_ACTIVE_BANK) slot = v ∧ (t, slot) ∈ u.mix.stageSlots ∧
        (∀ j, j ≠ t → u.tile j = s.tile j) ∧ Kept [.mix, .tiles] (fields []) noByte s u)

/-- Scenes (R166 to R174). -/
def Obligations.Scenes : Prop :=
  (∀ (s : State) (tag : BitVec 8) (addr n : Nat), s.serves → addr < 2 ^ 48 → n ≤ s.xfadeLimit →
    let r := s.peeked addr (12 + 8 * n) true
    ((r.peekWord (addr + 4)).toNat = n → setHeaderOk (r.peekWord addr) (r.peekWord (addr + 8)) = true →
    s.mixEnabled = true → s.mix.staging = none → s.pairHoldsBack = false → recsStatus (r.setRecs addr n) = St.ok →
    ∃ u, exec (.sceneStage tag addr (12 + 8 * n)) s = .next u ∧ Accepted Op.sceneStage tag Pg.mix s u ∧
      (∃ st, u.mix.staging = some st ∧ st.tag = tag ∧ st.set = (r.peekWord addr).toNat / 256 % 256 ∧
        st.rampMs = (r.peekWord (addr + 8)).toNat % 256 ∧ st.routeMs = (r.peekWord (addr + 8)).toNat / 256 ∧
        st.recs.length + st.routes.length = n) ∧
      Kept [.resp, .ctrl, .msix, .mix] (fields (replyFields ++ progressFields Pg.mix)) noByte r u)) ∧
  (∀ (s : State) (st : Staging), s.mix.staging = some st →
    ∃ u, exec .sceneStageDone s = .next u ∧ Finished Op.sceneStage st.tag Pg.mix St.ok s u ∧ u.mix.staging = none ∧
      u.mix.rampMs = st.rampMs ∧ u.mix.routeMs = st.routeMs ∧
      u.mix.stageRoutes = mergeRoutes s.mix.stageRoutes st.routes ∧
      u.get Pg.mix MIX.STAGE_SET_SET = st.set % 2 ^ MIX.STAGE_SET_SET.w ∧
      u.flag Pg.mix MIX.STAGE_SET_INCOMPLETE = false ∧
      Kept [.ctrl, .msix, .mix, .tiles] (fields ([fkey Pg.mix MIX.STAGE_SET_SET 0, fkey Pg.mix MIX.STAGE_SET_INCOMPLETE 0,
        fkey Pg.host PG.EVT 0] ++ progressFields Pg.mix)) noByte s u) ∧
  (∀ (s : State) (i : Nat) (c : Commit), s.armed Ck.scene = some (i, c) → c.begun = false →
    let v := s.untilTime0 (c.at_ - 4000000)
    ∃ u, exec .sceneCheck s = .next u ∧ (v.stageIncomplete c.set = false → u = v) ∧
      (v.stageIncomplete c.set = true → SMap.find? u.mix.commits i = none ∧ u.now = v.now ∧
        u.get Pg.mix MIX.COMMIT_RESULT_RESULT = Cr.incomplete ∧ u.evt Pg.mix 2 = true ∧
        u.condition Src.commitFail 0 = true)) ∧
  (∀ (s : State) (m : Master) (v : Word) (c : Commit), s.takes m Pg.mix → MIX.COMMIT_CANCEL_GO.of v = 1 →
    SMap.find? s.mix.commits (MIX.COMMIT_CANCEL_ENTRY.of v) = some c → c.kind = Ck.scene →
    ∃ u, exec (.commitCancel m v) s = .next u ∧ Wrote Pg.mix s u ∧ u.evt Pg.mix 2 = true ∧
      (c.begun = false → s.nanos0 + 4000000 ≤ c.at_ →
        u.mix = { s.mix with commits := SMap.erase s.mix.commits (MIX.COMMIT_CANCEL_ENTRY.of v) } ∧
        u.get Pg.mix MIX.COMMIT_RESULT_RESULT = Cr.cancelled) ∧
      (c.begun = true ∨ c.at_ < s.nanos0 + 4000000 → u.mix = s.mix ∧ u.get Pg.mix MIX.COMMIT_RESULT_RESULT = Cr.tooLate)) ∧
  (∀ (s : State) (t : Nat), t < 256 → s.flag (Pg.awl t) AWL.PSTAT_RAMP_BUSY = true → (s.tile t).rampLeft = 0 →
    ∃ u, exec (.rampEnd t) s = .next u ∧ u.flag (Pg.awl t) AWL.PSTAT_RAMP_BUSY = false ∧
      u.tile t = { s.tile t with mirror := true } ∧ (∀ j, j ≠ t → u.tile j = s.tile j) ∧
      Kept [.tiles] (fields [fkey (Pg.awl t) AWL.PSTAT_RAMP_BUSY 0]) noByte s u) ∧
  (∀ (s : State) (t : Nat), t < 256 → (s.tile t).mirror = true →
    let b := s.flag (Pg.awl t) AWL.PSTAT_ACTIVE_BANK
    ∃ u, exec (.bankMirrorDone t) s = .next u ∧ (u.tile t).mirror = false ∧
      (∀ slot, slot < 4096 → (u.tile t).param b slot = (s.tile t).param b slot ∧
        (u.tile t).param (!b) slot =
          if (t, slot) ∈ s.mix.stageSlots then (s.tile t).param (!b) slot else (s.tile t).param b slot) ∧
      (∀ j, j ≠ t → u.tile j = s.tile j) ∧ Kept [.tiles] (fields []) noByte s u)

/-- The mix unit's own events. -/
def Obligations.MixEvents : Prop :=
  ∀ s : State,
    (∀ (dest : Nat) (x : Xfade), SMap.find? s.mix.xfades dest = some x → x.len ≤ x.pos → s.mix.waits = [] →
      ∃ u, exec (.routeXfadeEnd dest) s = .next u ∧ u.mix = { s.mix with xfades := SMap.erase s.mix.xfades dest } ∧
        Kept [.mix] (fields []) noByte s u) ∧
    (∀ (dest : Nat) (x : Xfade), SMap.find? s.mix.xfades dest = some x → x.len ≤ x.pos →
      exec (.routeXfadeEnd dest) s =
        .next { s with mix := { s.mix with xfades := SMap.erase s.mix.xfades dest } }.startWaiting) ∧
    (∀ b, b < s.bridgeCount → s.bridgeState b = Brg.locked →
      ∃ u, exec (.bridgeUnlock b) s = .next u ∧ u.bridgeState b = Brg.hold ∧ u.evt Pg.mix 7 = true ∧
        u.get Pg.mix MIX.BRG_UNLOCKS = min (s.get Pg.mix MIX.BRG_UNLOCKS + 1) 0xFFFFFFFF ∧
        SMap.find? u.mix.fades (s.bridgeDst b) = some (.fadeOut 0 0 (samplesOf 1 (s.bridgeHz b))) ∧
        u.condition Src.bridgeHold b = true ∧
        Kept (.mix :: reacting) (fieldsOr [fkey Pg.mix MIX.BRG_STAT_STATE b, fkey Pg.mix MIX.BRG_UNLOCKS 0]) noByte s u) ∧
    (∀ b, b < s.bridgeCount → s.bridgeState b = Brg.hold →
      ∃ u, exec (.bridgeLock b) s = .next u ∧ u.bridgeState b = Brg.fadingIn ∧
        SMap.find? u.mix.fades (s.bridgeDst b) = some (.fadeIn 0 (samplesOf 10 (s.bridgeHz b))) ∧
        u.condition Src.bridgeHold b = false ∧
        Kept [.mix, .cinch] (fun k => k = fkey Pg.mix MIX.BRG_STAT_STATE b ∨ k.p = Pg.cinch) noByte s u) ∧
    (∀ m, s.takes m Pg.mix → s.part ≠ .ca → s.mix.snapBusy = false → s.mixEnabled = true →
      ∃ u, exec (.snapReq m) s = .next u ∧ Wrote Pg.mix s u ∧ u.mix.snapBusy = true ∧
        (∀ e ∈ u.mix.mons, e.2.captured = false) ∧ u.flag Pg.mix MIX.SNAP_CTRL_REQ = true ∧
        u.flag Pg.mix MIX.SNAP_CTRL_READY = false ∧
        Kept [.resp, .ctrl, .mix] (fields [fkey Pg.mix MIX.SNAP_CTRL_REQ 0, fkey Pg.mix MIX.SNAP_CTRL_READY 0]) noByte s u) ∧
    (s.mix.snapBusy = true → s.uncaptured = false →
      ∃ u, exec .snapReady s = .next u ∧ u.mix = { s.mix with snapBusy := false, snapBuf := !s.mix.snapBuf } ∧
        u.flag Pg.mix MIX.SNAP_CTRL_REQ = false ∧ u.flag Pg.mix MIX.SNAP_CTRL_READY = true ∧ u.evt Pg.mix 5 = true ∧
        Kept [.mix, .msix] (fields [fkey Pg.mix MIX.SNAP_CTRL_REQ 0, fkey Pg.mix MIX.SNAP_CTRL_READY 0, fkey Pg.mix PG.EVT 0])
          noByte s u) ∧
    (∀ k d, k < s.monitorCount → s.patchDomain (s.monitor k).source = some d → s.flag Pg.mix MIX.MON_CFG_SIL_EN k = true →
      (s.monitor k).silent = false → s.silenceSamples k d ≤ (s.monitor k).below →
      ∃ u, exec (.silenceEnter k) s = .next u ∧ u.monitor k = { s.monitor k with silent := true, loud := false } ∧
        u.evt Pg.mix 6 = true ∧ (∀ j, j ≠ k → u.monitor j = s.monitor j) ∧
        Kept [.mix, .msix] (fields [fkey Pg.mix PG.EVT 0]) noByte s u) ∧
    (∀ k, k < s.monitorCount → (s.monitor k).silent = true → (s.monitor k).loud = true →
      ∃ u, exec (.silenceExit k) s = .next u ∧ u.monitor k = { s.monitor k with silent := false, loud := false } ∧
        u.evt Pg.mix 6 = true ∧ (∀ j, j ≠ k → u.monitor j = s.monitor j) ∧
        Kept [.mix, .msix] (fields [fkey Pg.mix PG.EVT 0]) noByte s u)

/-- The AWL page of a tile (R99, R124). -/
def Obligations.TilePages : Prop :=
  ∀ (s : State) (m : Master) (t : Nat) (v : Word), t < 256 →
    (s.takes m (Pg.awl t) →
      (∃ u, exec (.stickyClrAov m t) s = .next u ∧ Wrote (Pg.awl t) s u ∧ u.flag (Pg.awl t) AWL.STICKY_CLR_AOV = true ∧
        Kept [.resp, .ctrl] (fields [fkey (Pg.awl t) AWL.STICKY_CLR_AOV 0]) noByte s u) ∧
      (∃ u, exec (.stickyClrSat m t) s = .next u ∧ Wrote (Pg.awl t) s u ∧ u.flag (Pg.awl t) AWL.STICKY_CLR_SAT = true ∧
        Kept [.resp, .ctrl] (fields [fkey (Pg.awl t) AWL.STICKY_CLR_SAT 0]) noByte s u) ∧
      (s.hasWork t = false → s.get (Pg.awl t) AWL.DBG_ADDR_SPACE = 0 →
        ∃ u, exec (.dbgDataWrite m t v) s = .next u ∧ Wrote (Pg.awl t) s u ∧
          u.tile t = { s.tile t with imem := nput 0 (s.tile t).imem (s.get (Pg.awl t) AWL.DBG_ADDR_INDEX) v } ∧
          (∀ j, j ≠ t → u.tile j = s.tile j) ∧
          Kept [.resp, .ctrl, .tiles] (fields [fkey (Pg.awl t) AWL.DBG_ADDR_INDEX 0]) noByte s u) ∧
      (s.hasWork t = true → s.flag Pg.fabric PG.CTRL_EN = true →
        ∃ u, exec (.dbgDataWrite m t v) s = .next u ∧ Wrote (Pg.awl t) s u ∧ u.evt (Pg.awl t) 4 = true ∧
          u.get (Pg.awl t) AWL.DBG_REFUSED = min (s.get (Pg.awl t) AWL.DBG_REFUSED + 1) (2 ^ AWL.DBG_REFUSED.w - 1) ∧
          Kept [.resp, .ctrl, .msix] (fields [fkey (Pg.awl t) AWL.DBG_ADDR_INDEX 0, fkey (Pg.awl t) AWL.DBG_REFUSED 0,
            fkey (Pg.awl t) PG.EVT 0]) noByte s u)) ∧
    (s.present (Pg.awl t) = true → s.betweenPasses t = true →
      ∃ u, exec (.dbgDataRead m t) s = .next u ∧ Answered (s.dbgRead t (s.dbgAddr t)) u ∧
        (s.flag (Pg.awl t) AWL.DBG_ADDR_AUTOINC = true →
          u.get (Pg.awl t) AWL.DBG_ADDR_INDEX = (s.get (Pg.awl t) AWL.DBG_ADDR_INDEX + 1) % 2 ^ AWL.DBG_ADDR_INDEX.w) ∧
        (s.flag (Pg.awl t) AWL.DBG_ADDR_AUTOINC = false →
          u.get (Pg.awl t) AWL.DBG_ADDR_INDEX = s.get (Pg.awl t) AWL.DBG_ADDR_INDEX) ∧
        Kept [.resp] (fields [fkey (Pg.awl t) AWL.DBG_ADDR_INDEX 0]) noByte s u) ∧
    (s.present (Pg.awl t) = true → s.betweenPasses t = false →
      ∃ u, exec (.dbgDataRead m t) s = .next u ∧ u.lastResp = none ∧
        u.tile t = { s.tile t with dbg := (s.tile t).dbg ++ [⟨s.dbgAddr t, none⟩] } ∧ (∀ j, j ≠ t → u.tile j = s.tile j) ∧
        Kept [.resp, .tiles] (fields [fkey (Pg.awl t) AWL.DBG_ADDR_INDEX 0]) noByte s u) ∧
    (∀ r l, (s.tile t).dbg = r :: l → s.betweenPasses t = true →
      ∃ u, exec (.dbgReadDone t) s = .next u ∧ Answered (s.dbgRead t r.addr) u ∧ u.tile t = { s.tile t with dbg := l } ∧
        (∀ j, j ≠ t → u.tile j = s.tile j) ∧ Kept [.resp, .tiles] (fields []) noByte s u)

/-! ### The Cinch and the life unit (chapters 17 and 19) -/

/-- The registers of one Cinch source (R423 to R429). -/
def Obligations.CinchRegisters : Prop :=
  ∀ (s : State) (m : Master) (v : Word), s.takes m Pg.cinch → Src.all.contains s.shownSource = true →
    let n := s.shownSource
    (s.locked Pg.cinch = false →
      ∃ u, exec (.srcCfgWrite m v) s = .next u ∧ Wrote Pg.cinch s u ∧
        u.get Pg.cinch CINCH.SRC_CFG_GROUP n = CINCH.SRC_CFG_GROUP.of v ∧
        (CINCH.SRC_CFG_SEVERITY.of v ≤ 4 → u.get Pg.cinch CINCH.SRC_CFG_SEVERITY n = CINCH.SRC_CFG_SEVERITY.of v) ∧
        (4 < CINCH.SRC_CFG_SEVERITY.of v → u.get Pg.cinch CINCH.SRC_CFG_SEVERITY n = s.get Pg.cinch CINCH.SRC_CFG_SEVERITY n) ∧
        u.get Pg.cinch CINCH.SRC_CFG_AUTO n = CINCH.SRC_CFG_AUTO.of v ∧
        u.get Pg.cinch CINCH.SRC_CFG_FORCE n = CINCH.SRC_CFG_FORCE.of v ∧
        Kept (.resp :: .ctrl :: reacting) (fieldsOr []) noByte s u) ∧
    (s.live n = false → s.srcForceable n = true → s.flag Pg.cinch CINCH.SRC_STAT_LATCHED n = false →
      ∃ u, exec (.force m true) s = .next u ∧ Wrote Pg.cinch s u ∧ u.flag Pg.cinch CINCH.SRC_CFG_FORCE n = true ∧
        u.live n = true ∧ u.flag Pg.cinch CINCH.SRC_STAT_LATCHED n = true ∧
        u.flag Pg.cinch CINCH.SRC_STAT_LATCH_FORCED n = true ∧ u.rstate n = Rstate.active ∧
        u.get Pg.cinch CINCH.SRC_COUNT_OCCURRENCES n =
          min (s.get Pg.cinch CINCH.SRC_COUNT_OCCURRENCES n + 1) (2 ^ CINCH.SRC_COUNT_OCCURRENCES.w - 1) ∧
        u.get Pg.cinch CINCH.SRC_T_NS_NS n = s.time.c0.ns % 2 ^ CINCH.SRC_T_NS_NS.w ∧
        Kept (.resp :: .ctrl :: reacting) (fieldsOr []) noByte s u) ∧
    (∃ u, exec (.force m false) s = .next u ∧ Wrote Pg.cinch s u ∧ u.flag Pg.cinch CINCH.SRC_CFG_FORCE n = false ∧
      Kept [.resp, .ctrl, .cinch] (fun k => k.p = Pg.cinch) noByte s u) ∧
    (s.live n = false →
      ∃ u, exec (.latchedClear m) s = .next u ∧ Wrote Pg.cinch s u ∧ u.flag Pg.cinch CINCH.SRC_STAT_LATCHED n = false ∧
        u.get Pg.cinch CINCH.SRC_INST_FIRST_INST n = 0 ∧ u.get Pg.cinch CINCH.SRC_T_NS_NS n = 0 ∧
        u.get Pg.cinch CINCH.SRC_COUNT_OCCURRENCES n = s.get Pg.cinch CINCH.SRC_COUNT_OCCURRENCES n ∧
        Kept [.resp, .ctrl] (fun k => k.p = Pg.cinch ∧ k.i = n) noByte s u) ∧
    (s.live n = true →
      (∃ u, exec (.latchedClear m) s = .next u ∧ Wrote Pg.cinch s u ∧ Kept [.resp, .ctrl] (fields []) noByte s u) ∧
      (∃ u, exec (.reactClr m) s = .next u ∧ Wrote Pg.cinch s u ∧ u.evt Pg.cinch 6 = true ∧
        Kept [.resp, .ctrl, .msix] (fields [fkey Pg.cinch PG.EVT 0]) noByte s u)) ∧
    (s.live n = false → s.rstate n = Rstate.quiet ∨ s.rstate n = Rstate.held →
      ∃ u, exec (.reactClr m) s = .next u ∧ Wrote Pg.cinch s u ∧ u.rstate n = Rstate.idle ∧ u.reactLevel n = 0 ∧
        Kept (.resp :: .ctrl :: reacting) (fieldsOr []) noByte s u) ∧
    (∀ g k, g < 4 → k < 4 →
      let w := s.cinchLive (0x080 + 16 * g + 4 * k)
      (∀ i, i < 32 → w.testBit i = s.cinchBit g (32 * k + i)) ∧
      ∃ u, exec (.loRead m (0x4080 + 16 * g + 4 * k)) s = .next u ∧ Answered (BitVec.ofNat 32 w) u ∧
        Kept [.resp] (fields []) noByte s u) ∧
    (∀ k, k < 4 →
      ∃ u, exec (.registerWrite m (0x40B0 + 4 * k) v) s = .next u ∧ Wrote Pg.cinch s u ∧
        (∀ i, i < 32 → (u.cinchSrc (32 * k + i)).pend = ((s.cinchSrc (32 * k + i)).pend && !v.getLsbD i)) ∧
        (∀ j, j < 32 * k ∨ 32 * k + 32 ≤ j → u.cinchSrc j = s.cinchSrc j) ∧
        Kept [.resp, .ctrl, .cinch] (fields []) noByte s u)

/-- The Cinch's time and pins. -/
def Obligations.CinchEvents : Prop :=
  ∀ s : State,
    (∀ src inst, Src.held src = true → s.condition src inst = true →
      ∃ u, exec (.sourceHoldEnd src inst) s = .next u ∧ u.condition src inst = false ∧
        (∀ j, j ≠ inst → u.condition src j = s.condition src j) ∧
        u.now = max s.now (nget s.now (s.cinchSrc src).heldAt inst + 625000000) ∧
        Kept [.clock, .time, .cinch] (fun k => k.p = Pg.cinch) noByte s u) ∧
    (∀ src, s.rstate src = Rstate.quiet →
      ∃ u, exec (.quietExpiry src) s = .next u ∧ u.rstate src = Rstate.idle ∧ u.reactLevel src = 0 ∧ u.evt Pg.cinch 2 = true ∧
        u.now = max s.now ((s.cinchSrc src).quietAt + 6250000 * s.get Pg.cinch CINCH.SRC_CFG_QUIET src) ∧
        Kept (.clock :: .time :: reacting) (fieldsOr []) noByte s u) ∧
    (∀ tj : Int, -128 ≤ tj → tj ≤ 127 →
      ∃ u, exec (.tjRead tj) s = .next u ∧ signed 8 (u.get Pg.cinch CINCH.THERM_STAT_TJ) = tj ∧
        ((s.get Pg.cinch CINCH.THERM_CFG_WARN : Int) ≤ tj → u.condition Src.thermWarn 0 = true) ∧
        (tj < (s.get Pg.cinch CINCH.THERM_CFG_WARN : Int) - 5 → u.condition Src.thermWarn 0 = false) ∧
        ((s.get Pg.cinch CINCH.THERM_CFG_TRIP : Int) ≤ tj → u.condition Src.thermTrip 0 = true) ∧
        (tj < (s.get Pg.cinch CINCH.THERM_CFG_TRIP : Int) - 5 → u.condition Src.thermTrip 0 = false) ∧
        u.now = max s.now (s.cinch.tjAt + 625000) ∧ u.cinch.tjAt = u.now ∧
        Kept (.clock :: .time :: reacting) (fieldsOr []) noByte s u) ∧
    (s.condition Src.tamper 0 = true →
      ∃ u, exec .tamperClear s = .next u ∧ u.condition Src.tamper 0 = false ∧ u.girth = { s.girth with tamperN := true } ∧
        u.now = max s.now (nget s.now (s.cinchSrc Src.tamper).heldAt 0 + 625000000) ∧
        Kept [.clock, .time, .girth, .cinch] (fun k => k.p = Pg.cinch) noByte s u)

/-- The life unit. -/
def Obligations.LifeUnit : Prop :=
  ∀ s : State,
    (s.enabled Pg.life = true → s.flag Pg.life LIFE.REC_STAT_WRITING = false → 8 ≤ s.get Pg.life LIFE.AREA_SIZE →
      (s.fwRunning = true → ∃ u, exec .recordPeriod s = .next u ∧ u.flag Pg.life LIFE.REC_STAT_WRITING = true ∧
        u.now = max s.now (s.life.recAt + 375000000000) ∧
        (∀ w : State, w = s.reach (s.life.recAt + 375000000000) →
          u.life = { s.life with area := { s.life.area with writing := some w.fullRecord }, recAt := u.now }) ∧
        Kept [.clock, .time, .life] (fields [fkey Pg.life LIFE.REC_STAT_WRITING 0, fkey Pg.life LIFE.REC_CTRL_NOW 0]) noByte s u) ∧
      (∀ m, s.takes m Pg.life → ∃ u, exec (.recNow m) s = .next u ∧ Wrote Pg.life s u ∧
        u.flag Pg.life LIFE.REC_STAT_WRITING = true ∧ u.life.area = { s.life.area with writing := some s.fullRecord } ∧
        Kept [.resp, .ctrl, .life] (fields [fkey Pg.life LIFE.REC_STAT_WRITING 0, fkey Pg.life LIFE.REC_CTRL_NOW 0]) noByte s u)) ∧
    (s.flag Pg.life LIFE.REC_STAT_WRITING = true →
      (∀ m, s.takes m Pg.life → s.enabled Pg.life = true → ∃ u, exec (.recNow m) s = .next u ∧ Wrote Pg.life s u ∧
        u.flag Pg.life LIFE.REC_CTRL_NOW = true ∧ Kept [.resp, .ctrl] (fields [fkey Pg.life LIFE.REC_CTRL_NOW 0]) noByte s u) ∧
      (s.flag Pg.life LIFE.REC_CTRL_NOW = false →
        (∃ u, exec (.recDone true) s = .next u ∧ u.flag Pg.life LIFE.REC_STAT_WRITING = false ∧
          u.get Pg.life LIFE.REC_STAT_LAST = 1 ∧ u.get Pg.life LIFE.REC_SEQ_SEQ = u.life.area.lastSeq % 2 ^ 32 ∧
          u.evt Pg.life 0 = true ∧ u.life.area = s.life.area.close (s.get Pg.life LIFE.AREA_SIZE) ∧ Kept [.life, .msix] (fields [fkey Pg.life LIFE.REC_STAT_WRITING 0,
            fkey Pg.life LIFE.REC_STAT_LAST 0, fkey Pg.life LIFE.REC_SEQ_SEQ 0, fkey Pg.life PG.EVT 0]) noByte s u) ∧
        (∃ u, exec (.recDone false) s = .next u ∧ u.flag Pg.life LIFE.REC_STAT_WRITING = false ∧
          u.get Pg.life LIFE.REC_STAT_LAST = 2 ∧ u.evt Pg.life 1 = true ∧
          u.life = { s.life with area := s.life.area.cut (s.get Pg.life LIFE.AREA_SIZE) } ∧
          Kept [.life, .msix] (fields [fkey Pg.life LIFE.REC_STAT_WRITING 0, fkey Pg.life LIFE.REC_STAT_LAST 0,
            fkey Pg.life LIFE.REC_FAILS 0, fkey Pg.life PG.EVT 0]) noByte s u))) ∧
    (∀ (tag : BitVec 8) (addr limit : Nat), s.serves → addr < 2 ^ 48 → 65536 ≤ limit → s.overVault addr 65536 = false →
      s.enabled Pg.life = true → s.life.dump = none →
      ∃ u, exec (.lifeDump tag addr limit) s = .next u ∧ Accepted Op.lifeDump tag Pg.life s u ∧
        u.life = { s.life with dump := some addr } ∧
        Kept [.resp, .ctrl, .msix, .life] (fields (replyFields ++ progressFields Pg.life)) noByte s u) ∧
    (∀ (addr : Nat) (l : LongCmd), s.life.dump = some addr →
      (s.ctrl.long.find? fun l => l.op == BitVec.ofNat 8 Op.lifeDump) = some l →
      ∃ u, exec .lifeDumpDone s = .next u ∧ Finished Op.lifeDump l.tag Pg.life St.ok s u ∧
        u.life = { s.life with dump := none } ∧ u.get Pg.life PG.PROGRESS_POSITION = 64) ∧
    (∀ r, s.life.replan = some r →
      (s.avsInUse = false → s.enabled Pg.life = true → s.life.again = false → s.workTiles = [] → r.moving = false →
        r.lowering = true ∨ r.raising = true →
        ∃ u, exec .replanStepDone s = .next u ∧ u.now = max s.now (s.life.settledAt + 12500000) ∧ u.life.replan = none ∧ u.get Pg.life LIFE.MARGIN_STAT_RESULT = r.result ∧
          u.flag Pg.life LIFE.MARGIN_STAT_RUNNING = false ∧ u.evt Pg.life 4 = true ∧
          u.get Pg.life LIFE.REPLANS = min (s.get Pg.life LIFE.REPLANS + 1) 0xFFFFFFFF) ∧
      (s.avsInUse = false → s.enabled Pg.life = false →
        ∃ u, exec .replanStepDone s = .next u ∧ u.life = { s.life with replan := none, again := false } ∧
          u.flag Pg.life LIFE.MARGIN_STAT_RUNNING = false ∧
          Kept [.life] (fields [fkey Pg.life LIFE.MARGIN_STAT_RUNNING 0]) noByte s u)) ∧
    (s.enabled Pg.life = false ∨ s.fabric.running = none →
      exec .replan s = .next { s with life := { s.life with waited := none } }) ∧
    (∀ due, s.enabled Pg.life = true → s.fabric.running.isSome = true →
      due = (if s.life.waited.isSome then s.life.waitAt + 625000000
        else if s.tempShifted then s.now else s.life.replanAt + 375000000000) →
      (s.life.replan.isSome = true → ∃ u, exec .replan s = .next u ∧ u.now = max s.now due ∧ u.life.again = true ∧
        u.life.replan = s.life.replan ∧ u.life.waited = s.life.waited ∧ Kept [.clock, .time, .life] (fields []) noByte s u) ∧
      (s.life.replan = none → s.avsInUse = true → s.life.waited ≠ some 59 →
        ∃ u, exec .replan s = .next u ∧ u.now = max s.now due ∧ u.life.waitAt = u.now ∧ u.life.replan = none ∧
          u.life.waited = some ((s.life.waited.map (· + 1)).getD 0) ∧ Kept [.clock, .time, .life] (fields []) noByte s u) ∧
      (s.life.replan = none → s.avsInUse = true → s.life.waited = some 59 →
        ∃ u, exec .replan s = .next u ∧ u.now = max s.now due ∧ u.life = { s.life with waited := none } ∧
          u.get Pg.life LIFE.MARGIN_STAT_RESULT = Rp.skipped ∧
          u.get Pg.life LIFE.REPLAN_SKIPS = min (s.get Pg.life LIFE.REPLAN_SKIPS + 1) 0xFFFFFFFF ∧
          Kept [.clock, .time, .life] (fields [fkey Pg.life LIFE.MARGIN_STAT_RESULT 0, fkey Pg.life LIFE.REPLAN_SKIPS 0])
            noByte s u) ∧
      (s.life.replan = none → s.avsInUse = false →
        ∃ u, exec .replan s = .next u ∧ u.now = max s.now due ∧ u.flag Pg.life LIFE.VCORE_READ_VALID = true ∧
          u.flag Pg.life LIFE.MARGIN_STAT_RUNNING = u.life.replan.isSome ∧ u.life.waited = none)) ∧
    (∃ u, exec .powerOnSecond s = .next u ∧ u.lifeGet Pg.life 0 = min (s.lifeGet Pg.life 0 + 1) (2 ^ 64 - 1) ∧
      u.life.tjSecond = none ∧ u.now = max s.now (s.life.secAt + 625000000) ∧ u.life.secAt = u.now ∧
      (∀ a, u.byte a = s.byte a)) ∧
    (s.powerOnHours ≤ s.life.hoursDone → exec .powerOnHour s = .next s) ∧
    (s.life.hoursDone < s.powerOnHours → ∃ u, exec .powerOnHour s = .next u ∧ u.life.hoursDone = s.powerOnHours ∧
      u.life.fitCommon = s.life.fitCommon + Config.fitSquare s.powerOnHours ∧
      (∀ t, t < s.tileCount → u.fit t = s.fit t + Config.fitTerm s.powerOnHours (u.get Pg.life LIFE.TILE_RATIO_R t)) ∧
      (∀ a, u.byte a = s.byte a))

/-! ### The Girth (chapter 07) -/

/-- One slot at a bank, and what comes of it. -/
def Obligations.GirthSlots : Prop :=
  ∀ (s : State) (bank : Nat) (x : Beat), bank < s.bankCount →
    let seg := bank / s.banksPerSegment
    let served := fun (y : Beat) => y.locked = false ∧ s.misaligned y = false ∧ s.vaultDenies y.master y.off = false ∧
      y.len ≤ 16 ∧ (s.girth.pinned = none ∨ s.girth.bgt = none)
    let stored := fun (u : State) (y : Beat) =>
      ∀ i, i < y.len → u.girthByte (y.off + i) =
        if (y.strobes[i]?).getD true then (y.data[i]?).getD 0 else s.girthByte (y.off + i)
    (s.retained seg = false → s.waking seg = false → (s.bank bank).waiting = [x] → x.port < 4 → served x →
      (x.write = true → ∃ u, exec (.girthAccess bank []) s = .next u ∧ (u.bank bank).waiting = [] ∧ stored u x ∧
        Kept [.girth, .harness] (fields [fkey Pg.girth GIRTH.RET_STAT_RETAINED 0]) (bytesIn (Mem.girth + x.off) x.len) s u) ∧
      (x.write = false → s.beatPoisoned x = false →
        ∃ u, exec (.girthAccess bank []) s = .next u ∧ (u.bank bank).waiting = [] ∧
          u.harness = { s.harness with txns := s.harness.txns.map fun t =>
            if t.granted && t.port == 4 * seg + x.port then
              { t with beats := t.beats - 1, rdata := t.rdata ++ (List.range x.len).map fun i => s.girthByte (x.off + i) }
            else t } ∧
          Kept [.girth, .harness] (fields [fkey Pg.girth GIRTH.RET_STAT_RETAINED 0]) noByte s u) ∧
      (x.write = false → x.off % 4 = 0 → x.len = 4 → x.off / 4 ∈ s.girth.poison →
        ∃ u, exec (.girthAccess bank []) s = .next u ∧ u.evt Pg.girth 1 = true ∧
          u.get Pg.girth GIRTH.UE_COUNT = min (s.get Pg.girth GIRTH.UE_COUNT + 1) (2 ^ GIRTH.UE_COUNT.w - 1) ∧
          u.flag Pg.girth GIRTH.ECC_INFO_VALID = true ∧ u.condition Src.girthEcc 0 = true ∧
          (s.flag Pg.girth GIRTH.ECC_INFO_VALID = false →
            u.get Pg.girth GIRTH.ECC_INFO_OFFSET = x.off % 2 ^ GIRTH.ECC_INFO_OFFSET.w) ∧
          u.harness.txns = s.harness.txns.map fun t =>
            if t.granted && t.port == 4 * seg + x.port then
              { t with beats := t.beats - 1, poison := t.poison ++ [(0x40000000 + x.off / 16 * 16, 16)],
                       rdata := t.rdata ++ (List.range x.len).map fun i => s.girthByte (x.off + i) }
            else t)) ∧
    (∀ y : Beat, s.retained seg = false → s.waking seg = false → (s.bank bank).waiting = [x, y] → x.port < y.port →
      y.port < 4 → served x → served y → x.contends y = true → (s.bank bank).lastPort ≠ x.port → s.bankOf x.off = bank →
      ∃ u, exec (.girthAccess bank []) s = .next u ∧ (u.bank bank).waiting = [] ∧ stored u x ∧ u.evt Pg.girth 2 = true ∧
        u.condition Src.girthShadow (y.port + 1) = true ∧
        (y.port = 2 →
          u.get Pg.girth GIRTH.SHADOW_MOV = min (s.get Pg.girth GIRTH.SHADOW_MOV + 1) (2 ^ GIRTH.SHADOW_MOV.w - 1)) ∧
        Kept (.girth :: .harness :: reacting)
          (fieldsOr [fkey Pg.girth GIRTH.SHADOW_NET 0, fkey Pg.girth GIRTH.SHADOW_MOV 0, fkey Pg.girth GIRTH.SHADOW_HOST 0,
            fkey Pg.host HOST.WIN_SHADOWED 0, fkey (Pg.dram s.moverChannel) DRAM.MOV_SHADOWED 0,
            fkey Pg.girth GIRTH.RET_STAT_RETAINED 0]) (bytesIn (Mem.girth + x.off) x.len) s u) ∧
    ((s.bank bank).waiting ≠ [] → s.retained seg = true → s.waking seg = false →
      ∃ u, exec (.girthAccess bank []) s = .next u ∧ u.waking seg = true ∧ u.retained seg = false ∧
        (u.get Pg.girth GIRTH.RET_CTRL_SEG).testBit seg = false ∧ u.evt Pg.girth 8 = true ∧
        u.get Pg.girth GIRTH.RET_WAKES = min (s.get Pg.girth GIRTH.RET_WAKES + 1) (2 ^ GIRTH.RET_WAKES.w - 1) ∧
        Kept [.msix] (fields [fkey Pg.girth GIRTH.RET_CTRL_SEG 0, fkey Pg.girth GIRTH.RET_STAT_RETAINED 0,
          fkey Pg.girth GIRTH.RET_STAT_WAKING 0, fkey Pg.girth GIRTH.RET_WAKES 0, fkey Pg.girth PG.EVT 0]) noByte s u) ∧
    (s.waking seg = true → ∃ u, exec (.retWakeDone seg) s = .next u ∧ u.waking seg = false ∧
      (∀ j, j ≠ seg → u.waking j = s.waking j) ∧
      Kept [] (fields [fkey Pg.girth GIRTH.RET_STAT_WAKING 0, fkey Pg.girth GIRTH.RET_STAT_RETAINED 0]) noByte s u) ∧
    (∀ w rest, (s.bank bank).waiting = [] → s.girth.writebacks = w :: rest → s.bankOf (4 * w) = bank →
      ∃ u, exec (.eccWriteback bank) s = .next u ∧ u.girth = { s.girth with writebacks := rest } ∧
        Kept [.girth] (fields []) noByte s u) ∧
    (∀ port, 1 ≤ port → port ≤ 3 →
      (s.condition Src.girthShadow (port + 1) = true →
        ∃ u, exec (.girthShadowEnd port) s = .next u ∧ u.condition Src.girthShadow (port + 1) = false ∧
          u.now = max s.now (nget s.now (s.cinchSrc Src.girthShadow).heldAt (port + 1) + 625000) ∧
          Kept [.clock, .time, .cinch] (fun k => k.p = Pg.cinch) noByte s u) ∧
      (s.condition Src.girthShadow (port + 1) = false → exec (.girthShadowEnd port) s = .next s))

/-- The background test (R202 to R205). -/
def Obligations.BackgroundTest : Prop :=
  ∀ s : State,
    (s.sweeps = true → s.girth.bgt = none → s.girth.ahead = [] → s.girth.next < s.girthPages →
      s.testable s.girth.next = true →
      ∃ u, exec .bgtRegionStart s = .next u ∧
        u.girth = { s.girth with bgt := some (s.girth.next, .save), next := s.girth.next + 1, overdue := false } ∧
        u.get Pg.girth GIRTH.BGT_STAT_STATE = 1 ∧ u.get Pg.girth GIRTH.BGT_STAT_PHASE = 1 ∧
        u.get Pg.girth GIRTH.BGT_STAT_REGION = s.girth.next ∧
        Kept [.girth] (fields [fkey Pg.girth GIRTH.BGT_STAT_STATE 0, fkey Pg.girth GIRTH.BGT_STAT_PHASE 0,
          fkey Pg.girth GIRTH.BGT_STAT_REGION 0]) noByte s u) ∧
    (s.sweeps = true → s.girth.bgt ≠ none → s.girth.overdue = false →
      ∃ u, exec .bgtRegionStart s = .next u ∧ u.girth = { s.girth with overdue := true } ∧
        u.get Pg.girth GIRTH.BGT_STAT_LATE = min (s.get Pg.girth GIRTH.BGT_STAT_LATE + 1) (2 ^ GIRTH.BGT_STAT_LATE.w - 1) ∧
        Kept [.girth] (fields [fkey Pg.girth GIRTH.BGT_STAT_LATE 0]) noByte s u) ∧
    ∀ page,
      (s.girth.bgt = some (page, .save) →
        ∃ u, exec (.bgtPhaseDone []) s = .next u ∧ u.girth.bgt = some (page, .test) ∧
          (∀ i, i < 4096 → nget 0 u.girth.reserve i = s.byte (Mem.girth + (page * 4096 + i))) ∧
          Kept [.girth] (fields [fkey Pg.girth GIRTH.BGT_STAT_PHASE 0]) noByte s u) ∧
      (s.girth.bgt = some (page, .test) → s.girth.pinned = none →
        let b := s.bankOf (4096 * page)
        let used := s.get Pg.girth GIRTH.BANK_STAT_SPARES_USED b
        (∃ u, exec (.bgtPhaseDone []) s = .next u ∧ u.girth = { s.girth with bgt := some (page, .restore) } ∧
          u.get Pg.girth GIRTH.BGT_STAT_PHASE = 3 ∧ Kept [.girth] (fields [fkey Pg.girth GIRTH.BGT_STAT_PHASE 0]) noByte s u) ∧
        (used < 8 → ∀ row, row < 4 →
          ∃ u, exec (.bgtPhaseDone [row]) s = .next u ∧ u.girth = { s.girth with bgt := some (page, .restore) } ∧
            u.get Pg.girth GIRTH.BANK_STAT_SPARES_USED b = used + 1 ∧ u.evt Pg.girth 3 = true ∧
            u.get Pg.girth GIRTH.REPAIRS = min (s.get Pg.girth GIRTH.REPAIRS + 1) (2 ^ GIRTH.REPAIRS.w - 1) ∧
            u.lifeGet Pg.girth 2 = min (s.lifeGet Pg.girth 2 + 1) (2 ^ 32 - 1)) ∧
        (used = 8 → ∀ row, row < 4 →
          ∃ u, exec (.bgtPhaseDone [row]) s = .next u ∧ u.girth = { s.girth with bgt := none, pinned := some page } ∧
            u.flag Pg.girth GIRTH.BANK_STAT_FAILED b = true ∧ u.get Pg.girth GIRTH.BGT_STAT_STATE = 2 ∧
            u.evt Pg.girth 4 = true ∧ u.condition Src.girthEcc 0 = true)) ∧
      (s.girth.bgt = some (page, .restore) → s.girth.overdue = false → s.girth.pinned = none →
        ∃ u, exec (.bgtPhaseDone []) s = .next u ∧ u.girth.bgt = none ∧ u.get Pg.girth GIRTH.BGT_STAT_STATE = 0 ∧
          (∀ i, i < 4096 → u.byte (Mem.girth + (page * 4096 + i)) = nget 0 s.girth.reserve i) ∧
          Kept [.girth, .msix] (fields [fkey Pg.girth GIRTH.BGT_STAT_STATE 0, fkey Pg.girth GIRTH.BGT_STAT_PHASE 0,
            fkey Pg.girth GIRTH.SWEEPS 0, fkey Pg.girth PG.EVT 0]) (bytesIn (Mem.girth + page * 4096) 4096) s u)

/-- The vault and retention (R206 to R211). -/
def Obligations.Vault : Prop :=
  ∀ (s : State) (m : Master) (v : Word),
    let started := fun (g : BitVec 64) (cause : Nat) (u : State) =>
      u.wiping = true ∧ g &&& ~~~u.girth.wiping = 0 ∧ (u.get Pg.girth GIRTH.VAULT_STAT_CAUSE).testBit cause = true ∧
      (∀ j, j ≠ cause → (u.get Pg.girth GIRTH.VAULT_STAT_CAUSE).testBit j =
        (s.wiping && (s.get Pg.girth GIRTH.VAULT_STAT_CAUSE).testBit j)) ∧
      (s.wiping = false → u.girth.wiping = g ∧ u.evt Pg.girth 6 = true)
    (s.takes m Pg.girth → s.locked Pg.girth = false → Master.isCore m = true →
      let lo := v.setWidth 64
      let kept := s.vaultMap &&& 0xFFFFFFFF00000000
      (s.vaultMap &&& 0xFFFFFFFF &&& ~~~lo = 0 →
        ∃ u, exec (.vaultMapWrite m false v) s = .next u ∧ Wrote Pg.girth s u ∧ u.vaultMap = kept ||| lo ∧
          u.girth = { s.girth with clearing := s.girth.clearing &&& ~~~lo } ∧
          Kept [.resp, .ctrl, .girth] (fields [fkey Pg.girth GIRTH.VAULT_MAP_LO_MAP 0, fkey Pg.girth GIRTH.VAULT_MAP_HI_MAP 0])
            noByte s u) ∧
      (s.vaultMap &&& 0xFFFFFFFF &&& ~~~lo ≠ 0 →
        ∃ u, exec (.vaultMapWrite m false v) s = .next u ∧ u.vaultMap = s.vaultMap ||| lo ∧
          started (s.vaultMap &&& 0xFFFFFFFF &&& ~~~lo) 2 u ∧
          s.vaultMap &&& 0xFFFFFFFF &&& ~~~lo &&& ~~~u.girth.clearing = 0) ∧
      (s.vaultMap &&& 0xFFFFFFFF00000000 &&& ~~~(lo <<< 32) = 0 →
        ∃ u, exec (.vaultMapWrite m true v) s = .next u ∧ u.vaultMap = (lo <<< 32) ||| (s.vaultMap &&& 0xFFFFFFFF))) ∧
    (∀ hi, s.takes m Pg.girth → Master.isCore m = false →
      ∃ u, exec (.vaultMapWrite m hi v) s = .next u ∧ Wrote Pg.girth s u ∧ Kept [.resp, .ctrl] (fields []) noByte s u) ∧
    (∃ u, exec .tamperNFall s = .next u ∧ u.girth.tamperN = false ∧ started s.vaultMap 0 u ∧ u.condition Src.tamper 0 = true) ∧
    (∀ cyc : BitVec 2, cyc ≠ 3 → cyc ≠ s.life.cycle →
      ∃ u, exec (.lifeCycleChange cyc) s = .next u ∧ u.life = { s.life with cycleNext := some cyc } ∧ started s.vaultMap 1 u ∧
        Kept [.life, .girth, .msix] (fun k => k.p = Pg.girth) (bytesIn Mem.girth s.girthSize) s u) ∧
    (∀ failed : BitVec 64, s.wiping = true →
      ∃ u, exec (.wipeDone failed) s = .next u ∧ u.wiping = false ∧ u.vaultMap = s.vaultMap &&& ~~~s.girth.clearing ∧
        u.vaultFailed = s.vaultFailed ||| (failed &&& s.girth.wiping) ∧
        (∀ a, u.byte a = if Mem.girth + s.vaultBase ≤ a ∧ a < Mem.girth + s.girthSize ∧
            s.girth.wiping.getLsbD ((a - Mem.girth - s.vaultBase) / 65536) = true then 0 else s.byte a) ∧
        u.life.cycle = (s.life.cycleNext).getD s.life.cycle ∧ u.life.cycleNext = none ∧ u.evt Pg.girth 31 = true ∧
        (failed &&& s.girth.wiping ≠ 0 → u.evt Pg.girth 7 = true ∧ u.condition Src.wipeFail 0 = true)) ∧
    (∀ seg, seg < 8 → s.takes m Pg.girth → s.locked Pg.girth = false → v = BitVec.ofNat 32 (2 ^ seg) →
      s.get Pg.girth GIRTH.RET_STAT_RETAINED = 0 → s.get Pg.girth GIRTH.RET_CTRL_SEG = 0 → s.planUses seg = false →
      s.waking seg = false → s.wiping = false → s.segmentIdle seg = true →
      ∃ u, exec (.retCtrlWrite m v) s = .next u ∧ Wrote Pg.girth s u ∧ u.get Pg.girth GIRTH.RET_STAT_RETAINED = 2 ^ seg ∧
        u.get Pg.girth GIRTH.RET_CTRL_SEG = 2 ^ seg ∧
        Kept [.resp, .ctrl] (fields [fkey Pg.girth GIRTH.RET_CTRL_SEG 0, fkey Pg.girth GIRTH.RET_STAT_RETAINED 0]) noByte s u)

/-! ### The DRAM channels (chapter 09) -/

/-- Refresh, write CRC, helpers and mode registers of a channel. -/
def Obligations.DramHelpers : Prop :=
  ∀ (s : State) (m : Master) (c : Nat) (v : Word), c < 2 → s.hasDram c = true →
    let p := Pg.dram c
    (∀ (t : Txn) (word a off cs : Nat) (spare : Bool), s.dramWrite c = some t → s.flag p DRAM.CFG_WCRC_EN = true →
      (s.lineAddrs t.req)[word]? = some a → s.dramAt a = some (c, off) → (s.ranksHit c off true)[bit spare]? = some cs →
      cs < 4 → a ∉ t.dropped →
      let failures := nget 0 (s.dram c).wcrc (2 * word + bit spare)
      (failures < 2 → ∃ u, exec (.alertN c word spare) s = .next u ∧
        u.dram c = { s.dram c with wcrc := nput 0 (s.dram c).wcrc (2 * word + bit spare) (failures + 1) } ∧
        u.get p DRAM.WCRC_RETRY = min (s.get p DRAM.WCRC_RETRY + 1) (2 ^ DRAM.WCRC_RETRY.w - 1) ∧
        Kept [.drams] (fields [fkey p DRAM.WCRC_RETRY 0]) noByte s u) ∧
      (2 ≤ failures → ∃ u, exec (.alertN c word spare) s = .next u ∧ u.evt p 1 = true ∧
        nget 0 (u.dram c).wcrc (2 * word + bit spare) = 0 ∧ u.flag p DRAM.ECC_INFO_VALID = true ∧
        u.lifeGet p (4 + cs) = min (s.lifeGet p (4 + cs) + 1) (2 ^ 32 - 1) ∧
        (s.readRank c off = cs → s.harness.txns = [t] → u.harness.txns = [{ t with dropped := a :: t.dropped }]) ∧
        (∀ b, u.byte b = s.byte b))) ∧
    (∀ (patch : Nat) (r : Plan) (x : PlanStream), s.fabric.running = some r →
      (r.streams.find? fun x => x.chan == c && x.read && x.patch == patch) = some x →
      ∃ u, exec (.movLate c patch) s = .next u ∧
        u.mix = { s.mix with filling := nput [] s.mix.filling patch (List.replicate (s.domB x.domain) 0) } ∧
        u.get p DRAM.MOV_LATE = min (s.get p DRAM.MOV_LATE + 1) (2 ^ DRAM.MOV_LATE.w - 1) ∧ u.evt p 15 = true ∧
        u.condition Src.movLate c = true ∧ Kept (.mix :: reacting) (fieldsOr [fkey p DRAM.MOV_LATE 0]) noByte s u) ∧
    (∀ r, r < 4 → s.populated c r = true → (s.dram c).selfRefresh = false →
      let due := s.owed c r + 1
      let left := fun (u : State) (n : Nat) => u.owed c r = n ∧ u.get p (DRAM.REF_STAT_OWED r) = n ∧
        Kept [.drams] (fields [fkey p (DRAM.REF_STAT_OWED r) 0, fkey p (DRAM.REF_STAT_DOUBLED r) 0,
          fkey p DRAM.REF_PREEMPT 0]) noByte s u
      (s.rtBusy c r = false → ∃ u, exec (.refreshDue c r) s = .next u ∧ left u 0 ∧ (u.rank c r).openRows = [] ∧
        u.get p DRAM.REF_PREEMPT = s.get p DRAM.REF_PREEMPT) ∧
      (s.rtBusy c r = true → due < 4 → ∃ u, exec (.refreshDue c r) s = .next u ∧ left u due ∧
        (u.rank c r).openRows = (s.rank c r).openRows ∧ u.get p DRAM.REF_PREEMPT = s.get p DRAM.REF_PREEMPT) ∧
      (s.rtBusy c r = true → due = 4 → ∃ u, exec (.refreshDue c r) s = .next u ∧ left u 0 ∧ (u.rank c r).openRows = [] ∧
        u.get p DRAM.REF_PREEMPT = min (s.get p DRAM.REF_PREEMPT + 1) (2 ^ DRAM.REF_PREEMPT.w - 1)) ∧
      ∃ u, exec (.dqsOscRead c r) s = .next u ∧ u.rank c r = { s.rank c r with oscReads := (s.rank c r).oscReads + 1 } ∧
        Kept [.drams] (fields []) noByte s u) ∧
    (∀ (doubled : BitVec 4) (since : Nat), s.flag p DRAM.REF_CFG_FORCE_2X = false →
      ∃ u, exec (.mr4Poll c doubled since) s = .next u ∧
        (∀ r, r < 4 → s.populated c r = true → (u.rank c r).mr4 = doubled.getLsbD r ∧
          ((s.rank c r).mr4 ≠ doubled.getLsbD r → u.evt p 6 = true ∧
            u.flag p (DRAM.REF_STAT_DOUBLED r) = doubled.getLsbD r))) ∧
    (∀ r, r < 4 →
      (∃ u, exec (.refreshWindow c r) s = .next u ∧ u.rank c r = { s.rank c r with tables := [] } ∧
        (∀ j, j ≠ r → u.rank c j = s.rank c j) ∧
        ((s.dram c).throttle = [] → u.get p DRAM.RH_STAT_THROTTLED = 0 ∧ u.condition Src.dramThrottle c = false)) ∧
      (∀ bank, bank < 64 → ∃ u, exec (.rowIdleClose c r bank) s = .next u ∧
        u.rank c r = { s.rank c r with openRows := SMap.erase (s.rank c r).openRows bank } ∧
        Kept [.drams] (fields []) noByte s u) ∧
      ((s.dram c).storm = [r] →
        ∃ u, exec (.ceStormEnd c r) s = .next u ∧ (u.dram c).storm = [] ∧ u.condition Src.dramStorm c = false ∧
          u.now = max s.now (nget 0 (s.dram c).stormEnd r))) ∧
    (s.takes m p → s.enabled p = true →
      (DRAM.TRN_CTRL_GO.of v = 1 → DRAM.TRN_CTRL_SUBCH.of v ≠ 0 → DRAM.TRN_CTRL_OP.of v ≠ 3 → (s.dram c).helper = false →
        ∃ u, exec (.trnGo m c v) s = .next u ∧ Wrote p s u ∧ u.dram c = { s.dram c with helper := true } ∧
          u.flag p DRAM.TRN_CTRL_GO = true ∧ u.flag p DRAM.TRN_CTRL_DONE = false ∧ u.get p DRAM.TRN_ERR0_SC0_DQ = 0 ∧
          u.get p DRAM.TRN_ERR1_SC0_CB = 0 ∧ u.get p DRAM.TRN_ERR1_SC1_CB = 0 ∧ u.get p DRAM.TRN_ERR2_SC1_DQ = 0 ∧
          u.get p DRAM.TRN_CTRL_OP = DRAM.TRN_CTRL_OP.of v) ∧
      (DRAM.MR_CTRL_GO.of v = 1 → (s.dram c).mrBusy = false →
        ∃ u, exec (.mrGo m c v) s = .next u ∧ Wrote p s u ∧ u.dram c = { s.dram c with mrBusy := true } ∧
          u.flag p DRAM.MR_CTRL_GO = true ∧ u.flag p DRAM.MR_CTRL_DONE = false ∧
          u.get p DRAM.MR_CTRL_MR = DRAM.MR_CTRL_MR.of v ∧ u.get p DRAM.MR_CTRL_RANK = DRAM.MR_CTRL_RANK.of v) ∧
      ∃ u, exec (.trnStepAdvance m c) s = .next u ∧ Wrote p s u ∧
        u.get p DRAM.TRN_STEP_DONE = min (s.get p DRAM.TRN_STEP_DONE + 1) (2 ^ DRAM.TRN_STEP_DONE.w - 1)) ∧
    ((s.dram c).helper = true → ∀ e1 e2 : Word,
      ∃ u, exec (.trnDone c v e1 e2) s = .next u ∧ (u.dram c).helper = false ∧
        u.flag p DRAM.TRN_CTRL_GO = false ∧ u.flag p DRAM.TRN_CTRL_DONE = true ∧ u.evt p 8 = true ∧
        (s.get p DRAM.TRN_CTRL_OP = 0 → u.get p DRAM.TRN_ERR0_SC0_DQ = 0 ∧ u.get p DRAM.TRN_ERR1_SC0_CB = 0 ∧
          u.get p DRAM.TRN_ERR1_SC1_CB = 0 ∧ u.get p DRAM.TRN_ERR2_SC1_DQ = 0) ∧
        (s.get p DRAM.TRN_CTRL_OP = 2 → s.get p DRAM.TRN_CTRL_SUBCH = 3 →
          u.get p DRAM.TRN_ERR0_SC0_DQ = v.toNat ∧ u.get p DRAM.TRN_ERR2_SC1_DQ = e2.toNat ∧
          u.get p DRAM.TRN_ERR1_SC0_CB = DRAM.TRN_ERR1_SC0_CB.of e1 ∧
          u.get p DRAM.TRN_ERR1_SC1_CB = DRAM.TRN_ERR1_SC1_CB.of e1) ∧
        (s.get p DRAM.TRN_CTRL_OP = 1 → ∀ b, u.byte b = s.byte b)) ∧
    ((s.dram c).mrBusy = true → ∀ b : Byte,
      ∃ u, exec (.mrDone c b) s = .next u ∧ u.dram c = { s.dram c with mrBusy := false } ∧
        u.get p DRAM.MR_DATA_VALUE = (if s.flag p DRAM.MR_CTRL_WRITE then s.get p DRAM.MR_DATA_VALUE else b.toNat) ∧
        u.flag p DRAM.MR_CTRL_GO = false ∧ u.flag p DRAM.MR_CTRL_DONE = true ∧ u.evt p 9 = true)

/-- Training, roles, migrations, tests and frequency changes (R243, R256 to R266). -/
def Obligations.DramRanks : Prop :=
  ∀ (s : State) (m : Master) (c : Nat) (v : Word), c < 2 → s.hasDram c = true →
    let p := Pg.dram c
    (∀ (tag : BitVec 8), s.serves → s.enabled p = true → s.migActive c = false → s.dramBusy c = false → v.toNat < 16 →
      (s.mappedGiB c = 0 ∨ ∀ r ∈ ranksOf v.toNat, mappedRank (s.rankState c r) = false) →
      ∃ u, exec (.trainDram tag (BitVec.ofNat 32 c) v) s = .next u ∧ Accepted Op.trainDram tag p s u ∧
        u.dram c = { s.dram c with training := some (BitVec.ofNat 4 v.toNat, tag) } ∧
        u.flag p DRAM.TRN_RESULT_VALID = false ∧ u.get p DRAM.TRN_STEP_DONE = 0) ∧
    (∀ (mask passed : BitVec 4) (tag : BitVec 8), (s.dram c).training = some (mask, tag) → s.flag p DRAM.MIG_STAT_WAITING = false →
      ∃ u, exec (.trainDramDone c passed) s = .next u ∧ Finished Op.trainDram tag p St.ok s u ∧
        u.dram c = { s.dram c with training := none } ∧ u.get p DRAM.TRN_RESULT_TRAINED = mask.toNat ∧
        u.get p DRAM.TRN_RESULT_PASSED = (passed &&& mask).toNat ∧ u.flag p DRAM.TRN_RESULT_VALID = true ∧
        ∀ r, r < 4 → u.rankState c r =
          if (passed &&& mask).getLsbD r = false then s.rankState c r
          else if s.rankState c r = Rs.untrained then Rs.ready
          else if s.rankState c r = Rs.retired ∨ s.rankState c r = Rs.failed then Rs.retrained else s.rankState c r) ∧
    (∀ (r : BitVec 2), s.takes m p →
      let n := r.toNat
      let refused := fun (o : Outcome) => ∃ u, o = .next u ∧ Wrote p s u ∧ u.evt p 12 = true ∧
        Kept [.resp, .ctrl, .msix] (fields [fkey p PG.EVT 0]) noByte s u
      (s.mappedGiB c = 0 → s.rankState c n = Rs.ready → s.flag p DRAM.RANK_MAP_LR0_VALID = false →
        ∃ u, exec (.rankCmdService m c r) s = .next u ∧ Wrote p s u ∧ u.rankState c n = Rs.service ∧
          u.get p DRAM.RANK_MAP_LR0 = n ∧ u.flag p DRAM.RANK_MAP_LR0_VALID = true ∧
          Kept [.resp, .ctrl] (fields [fkey p DRAM.RANK_MAP_LR0 0, fkey p DRAM.RANK_MAP_LR0_VALID 0,
            fkey p (DRAM.RANK_STAT_STATE n) 0]) noByte s u) ∧
      (s.rankState c n ≠ Rs.ready ∨ s.mappedGiB c ≠ 0 →
        refused (exec (.rankCmdService m c r) s) ∧ refused (exec (.rankCmdSpare m c r) s)) ∧
      (s.mappedGiB c = 0 → s.rankState c n = Rs.ready → (s.rankIn c Rs.spare).isSome = false → (s.dram c).failedWait = [] →
        ∃ u, exec (.rankCmdSpare m c r) s = .next u ∧ Wrote p s u ∧ u.rankState c n = Rs.spare ∧
          Kept [.resp, .ctrl] (fields [fkey p (DRAM.RANK_STAT_STATE n) 0]) noByte s u) ∧
      (s.mappedGiB c = 0 → s.rankState c n = Rs.ready → (s.rankIn c Rs.spare).isSome = true → s.sparesFull c = false →
        (s.dram c).failedWait = [] →
        ∃ u, exec (.rankCmdSpare m c r) s = .next u ∧ Wrote p s u ∧ u.rankState c n = Rs.standby ∧
          Kept [.resp, .ctrl] (fields [fkey p (DRAM.RANK_STAT_STATE n) 0]) noByte s u) ∧
      (∀ spare, s.rankState c n = Rs.service → s.migActive c = false → s.rankIn c Rs.spare = some spare →
        s.enabled p = true → s.dramBusy c = false →
        ∃ u, exec (.rankCmdRetire m c r) s = .next u ∧ Wrote p s u ∧ u.rankState c n = Rs.migrating ∧ u.migActive c = true ∧
          u.migFrom c = n ∧ u.migTo c = spare ∧ (u.dram c).migPos = 0 ∧ u.evt p 3 = true ∧
          u.flag p DRAM.MIG_STAT_WAITING = false ∧ u.condition Src.dramUe c = true) ∧
      (s.rankIn c Rs.spare = none → refused (exec (.rankCmdRetire m c r) s)) ∧
      (s.rankState c n = Rs.retrained → s.migActive c = false → s.dramBusy c = false → s.enabled p = true →
        ∃ u, exec (.rankCmdTest m c r) s = .next u ∧ Wrote p s u ∧ (u.dram c).testing = some n ∧
          u.flag p DRAM.RANK_OP_STAT_BUSY = true ∧ u.get p DRAM.RANK_OP_STAT_RANK = n ∧
          u.get p DRAM.RANK_OP_STAT_PERCENT = 0 ∧ u.get p DRAM.RANK_OP_STAT_RESULT = 0) ∧
      (s.migActive c = true → refused (exec (.rankCmdTest m c r) s)) ∧
      (s.rankState c n = Rs.tested → (s.rankIn c Rs.spare).isSome = false → (s.dram c).failedWait = [] →
        ∃ u, exec (.rankCmdReturn m c r) s = .next u ∧ Wrote p s u ∧ u.rankState c n = Rs.spare) ∧
      (s.rankState c n ≠ Rs.tested → refused (exec (.rankCmdReturn m c r) s))) ∧
    (∀ r pass, (s.dram c).testing = some r → r < 4 → s.flag p DRAM.MIG_STAT_WAITING = false →
      ∃ u, exec (.testDone c pass) s = .next u ∧ (u.dram c).testing = none ∧
        (pass = true → u.get p DRAM.RANK_OP_STAT_PERCENT = 100) ∧
        u.rankState c r = (if pass then Rs.tested else Rs.failed) ∧ u.flag p DRAM.RANK_OP_STAT_BUSY = false ∧
        u.get p DRAM.RANK_OP_STAT_RESULT = (if pass then 1 else 2) ∧ u.evt p 14 = true) ∧
    (s.migActive c = true → s.flag p DRAM.MIG_STAT_WAITING = false → (s.dram c).migPaused = false →
      s.portFree (32 + c) = true →
      ((s.dram c).migPos < s.rankUnits c →
        ∃ u, exec (.migrationCopyUnit c []) s = .next u ∧ (u.dram c).migPos = (s.dram c).migPos + 1 ∧
          u.get p PG.PROGRESS_POSITION = ((s.dram c).migPos + 1) / 256 ∧ (∀ j, j ≠ c → u.dram j = s.dram j) ∧
          ((s.dram c).poison = [] → (u.dram c).sparePoison = (s.dram c).sparePoison ∧ u.get p DRAM.UE_COUNT = s.get p DRAM.UE_COUNT ∧
            Kept [.drams, .life] (fun k => k.p = p) noByte s u)) ∧
      ((s.dram c).migPos = s.rankUnits c → s.migFrom c ≠ s.migTo c → s.migFrom c < 4 → s.migTo c < 4 →
        s.get p DRAM.RANK_MAP_LR0 = s.migFrom c → s.flag p DRAM.RANK_MAP_LR0_VALID = true →
        s.rankState c (s.migFrom c) = Rs.migrating → s.rankState c (s.migTo c) = Rs.spare → (s.dram c).failedWait = [] →
        ∃ u, exec (.migDone c) s = .next u ∧ u.migActive c = false ∧ u.rankState c (s.migTo c) = Rs.service ∧
          u.rankState c (s.migFrom c) = Rs.retired ∧ u.get p DRAM.RANK_MAP_LR0 = s.migTo c ∧ u.evt p 4 = true ∧
          (∀ a, u.byte a = s.byte a))) ∧
    (s.takes m p → s.enabled p = true → (s.dram c).freqBusy = none → DRAM.FREQ_CTRL_CHANGE.of v = 1 →
      (s.streamsOn c = false → s.migActive c = false → s.dramBusy c = false →
        ∃ u, exec (.freqChange m c v) s = .next u ∧ Wrote p s u ∧
          u.dram c = { s.dram c with freqBusy := some (DRAM.FREQ_CTRL_TARGET.of v) } ∧ u.flag p DRAM.FREQ_CTRL_CHANGE = true) ∧
      (s.streamsOn c = true ∨ s.migActive c = true →
        ∃ u, exec (.freqChange m c v) s = .next u ∧ Wrote p s u ∧ u.get p DRAM.FREQ_CTRL_RESULT = 2 ∧ u.evt p 11 = true ∧
          u.dram c = s.dram c)) ∧
    (∀ target locked, (s.dram c).freqBusy = some target → target < 2 →
      (s.harness.txns.any fun t => t.granted && t.port == 32 + c) = false →
      ∃ u, exec (.freqDone c locked) s = .next u ∧ (u.dram c).freqBusy = none ∧ u.flag p DRAM.FREQ_CTRL_CHANGE = false ∧
        u.evt p 10 = true ∧
        (locked = true → u.get p DRAM.FREQ_CTRL_ACTIVE = target ∧ u.get p DRAM.FREQ_CTRL_RESULT = 1) ∧
        (locked = false → u.get p DRAM.FREQ_CTRL_ACTIVE = s.get p DRAM.FREQ_CTRL_ACTIVE ∧
          u.get p DRAM.FREQ_CTRL_RESULT = 3 ∧ u.evt p 11 = true)) ∧
    (s.takes m p → s.locked p = false → DRAM.CFG_PAGE_IDLE.of v ≠ 0 →
      (s.mappedGiB c ≠ 0 → ∃ u, exec (.dramCfgWrite m c v) s = .next u ∧ Wrote p s u ∧ u.evt p 13 = true ∧
        u.get p DRAM.CFG_RANKS = s.get p DRAM.CFG_RANKS ∧ u.get p DRAM.CFG_DEVICE = s.get p DRAM.CFG_DEVICE ∧
        u.get p DRAM.CFG_ORDER = s.get p DRAM.CFG_ORDER ∧ u.get p DRAM.CFG_PAGE_IDLE = DRAM.CFG_PAGE_IDLE.of v) ∧
      (s.mappedGiB c = 0 → DRAM.CFG_DEVICE.of v < 2 →
        ∃ u, exec (.dramCfgWrite m c v) s = .next u ∧ Wrote p s u ∧ u.get p DRAM.CFG_RANKS = DRAM.CFG_RANKS.of v ∧
          u.get p DRAM.CFG_DEVICE = DRAM.CFG_DEVICE.of v ∧ u.get p DRAM.CFG_ORDER = DRAM.CFG_ORDER.of v ∧
          ∀ r, r < 4 → u.rankState c r =
            if (DRAM.CFG_RANKS.of v).testBit r = false then Rs.absent
            else if s.rankState c r = Rs.absent then Rs.untrained else s.rankState c r))

/-! ### The serial lanes (chapter 10) -/

/-- The serial lanes (R270 to R281). -/
def Obligations.Lanes : Prop :=
  ∀ (s : State) (m : Master) (n : Nat) (v : Word), n < 10 → s.present (Pg.lane n) = true →
    let p := Pg.lane n
    let x := s.lane n
    let only := fun (u : State) => (∀ j, j ≠ n → u.lane j = s.lane j ∧ u.laneState j = s.laneState j) ∧
      (4 ≤ n → Kept (.clock :: .time :: .resp :: .ctrl :: .lanes :: reacting) (fun k => k.p = Pg.lane n ∨ reaction k) noByte s u)
    let runs := fun (o : Outcome) (P : State → Prop) => ∃ u, o = .next u ∧ only u ∧ P u
    let writes := fun (o : Outcome) (P : State → Prop) => ∃ u, o = .next u ∧ Wrote p s u ∧ only u ∧ P u
    let restarted := fun (u : State) =>
      u.get p LANE.RESTARTS = min (s.get p LANE.RESTARTS + 1) (2 ^ LANE.RESTARTS.w - 1) ∧ u.evt p 4 = true ∧
      u.flag p LANE.STAT_RX_LOCKED = false ∧ (u.lane n).waking = false ∧ (u.lane n).rateMax = s.get p LANE.CFG_RATE_MAX ∧
      u.laneState n = (if s.flag p LANE.CFG_MODE then Ls.listen else Ls.detect)
    let due := fun (ms : Nat) => max s.now (x.since + cyclesMs ms)
    (s.laneState n = Ls.listen → runs (exec (.laneStateTimeout n) s) fun u => u.now = due 20 ∧ (u.lane n).since = u.now ∧
      (x.rateMax = 0 → u.laneState n = Ls.listen) ∧
      (x.rateMax ≠ 0 → u.laneState n = Ls.detect ∧ (u.lane n).try_ = x.rateMax ∧
        u.get p LANE.STAT_RATE = x.rateMax % 2 ^ LANE.STAT_RATE.w)) ∧
    (s.laneState n = Ls.detect → runs (exec (.laneStateTimeout n) s) fun u => u.now = due 20 ∧
      (x.waking = true → restarted u) ∧
      (x.waking = false → x.mode = false → u.laneState n = Ls.detect ∧ (u.lane n).try_ = x.try_) ∧
      (x.waking = false → x.mode = true → 1 < x.try_ → u.laneState n = Ls.detect ∧ (u.lane n).try_ = x.try_ - 1) ∧
      (x.waking = false → x.mode = true → x.try_ ≤ 1 → u.laneState n = Ls.listen)) ∧
    (s.laneState n = Ls.switch → s.enabled p = true → runs (exec (.laneStateTimeout n) s) fun u => u.now = due 10 ∧
      u.get p LANE.STEP_DOWNS = min (s.get p LANE.STEP_DOWNS + 1) (2 ^ LANE.STEP_DOWNS.w - 1) ∧ u.evt p 3 = true ∧
      (x.try_ ≤ 1 → u.laneState n = Ls.listen) ∧
      (1 < x.try_ → u.laneState n = Ls.switch ∧ (u.lane n).try_ = x.try_ - 1)) ∧
    (∀ ppm : BitVec 16, -20000 ≤ ppm.toInt → ppm.toInt ≤ 20000 → s.enabled p = true → pcieLane n = false →
      s.laneState n = Ls.listen ∨ s.laneState n = Ls.detect ∨ s.laneState n = Ls.switch →
      runs (exec (.rateEstablished n ppm) s) fun u => u.flag p LANE.STAT_RX_LOCKED = true ∧
        u.get p LANE.STAT_PPM = ppm.toNat % 2 ^ LANE.STAT_PPM.w ∧ u.now = due 2 ∧ (u.lane n).estAt = some u.now ∧
        (s.laneState n = Ls.listen → u.laneState n = Ls.negotiate) ∧
        (s.laneState n ≠ Ls.listen → u.laneState n = Ls.up ∧ u.get p LANE.STAT_RATE = x.try_ % 2 ^ LANE.STAT_RATE.w ∧
          (u.lane n).last = x.try_ ∧ u.evt p 0 = true)) ∧
    (∀ ouiMatch (rates : BitVec 3), s.laneState n = Ls.negotiate →
      let best := bestRate x.rateMax rates
      runs (exec (.negotiate n ouiMatch rates) s) fun u =>
        if s.get p LANE.NEG_OUI_OUI ≠ 0 ∧ ouiMatch = true ∧ 0 < best then
          u.laneState n = Ls.switch ∧ (u.lane n).try_ = best ∧ (u.lane n).since = s.now + cyclesMs 10
        else u.laneState n = Ls.up ∧ u.get p LANE.STAT_RATE = 0) ∧
    (∀ cause, s.enabled p = true → s.rxSleeps n = false → s.laneState n ≠ Ls.test → s.laneLos n = false →
      runs (exec (.los n cause) s) fun u => u.laneLos n = true ∧ u.evt p 1 = true ∧ u.condition Src.laneLos n = true ∧
        (u.lane n).losAt = s.now ∧ u.get p LANE.LOS_COUNT = min (s.get p LANE.LOS_COUNT + 1) (2 ^ LANE.LOS_COUNT.w - 1) ∧
        (cause = .signal → u.flag p LANE.STAT_SIG_DET = false) ∧ (cause ≠ .sync → u.flag p LANE.STAT_RX_LOCKED = false)) ∧
    (∀ cause, s.enabled p = true → s.rxSleeps n = false → s.laneState n ≠ Ls.test → s.laneLos n = true →
      runs (exec (.los n cause) s) fun u => u.laneLos n = true ∧ (u.lane n).estAt = none ∧ (u.lane n).losAt = x.losAt) ∧
    (s.rxSleeps n = true ∨ s.enabled p = false → runs (exec (.los n .signal) s) fun u => u.flag p LANE.STAT_SIG_DET = false ∧
      u.lanes = s.lanes) ∧
    (∀ t, x.estAt = some t → s.laneLos n = true → ¬ (s.laneState n = Ls.switch ∧ x.since < t + cyclesMs x.losClear) →
      runs (exec (.losClear n) s) fun u => u.laneLos n = false ∧
      u.evt p 2 = true ∧ u.condition Src.laneLos n = false ∧
      u.now = max s.now (t + cyclesMs x.losClear)) ∧
    (n < 6 → s.laneLos n = true → x.autoRestart = true → runs (exec (.autoRestart n) s) fun u =>
      restarted u ∧ u.now = max s.now (x.losAt + cyclesMs 50) ∧ (u.lane n).losAt = u.now) ∧
    (s.takes m p →
      (n < 6 → s.enabled p = true → s.laneState n ≠ Ls.off → s.laneState n ≠ Ls.sleep → s.laneState n ≠ Ls.test →
        writes (exec (.laneRestart m n) s) restarted) ∧
      (s.testBarred n = true → writes (exec (.lbModeWrite m n v) s) fun u => u.evt p 7 = true ∧ u.lanes = s.lanes ∧
        u.get p LANE.LB_MODE = s.get p LANE.LB_MODE) ∧
      (s.testBarred n = true → writes (exec (.prbsCtrlWrite m n v) s) fun u => u.evt p 7 = true ∧ u.lanes = s.lanes ∧
        u.flag p LANE.PRBS_CTRL_GEN_EN = s.flag p LANE.PRBS_CTRL_GEN_EN) ∧
      (s.testBarred n = false → s.flag p LANE.PRBS_CTRL_GEN_EN = false → s.flag p PG.CTRL_EN = true → s.laneState n = Ls.up →
        LANE.LB_MODE.of v ≠ 0 → writes (exec (.lbModeWrite m n v) s) fun u => u.laneState n = Ls.test ∧
          u.get p LANE.LB_MODE = LANE.LB_MODE.of v ∧ u.laneLos n = false ∧
          u.get p LANE.STAT_RATE = s.get p LANE.STAT_RATE) ∧
      (s.testBarred n = false → s.get p LANE.LB_MODE = 0 → s.flag p PG.CTRL_EN = true → s.laneState n = Ls.up →
        LANE.PRBS_CTRL_GEN_EN.of v = 1 → writes (exec (.prbsCtrlWrite m n v) s) fun u => u.laneState n = Ls.test ∧
          u.flag p LANE.PRBS_CTRL_GEN_EN = true) ∧
      (s.testBarred n = false → writes (exec (.prbsClr m n) s) fun u => u.get p LANE.PRBS_ERR_ERRORS = 0 ∧
        u.prbsBits n = 0 ∧ u.lane n = { x with lockAt := s.now, errSeen := 0 }) ∧
      (n < 6 → s.enabled p = true → s.flag p LANE.SLEEP_RX = false → LANE.SLEEP_RX.of v = 1 →
        writes (exec (.sleepWrite m n v) s) fun u => u.laneState n = Ls.sleep ∧ u.laneLos n = false ∧
          u.flag p LANE.STAT_RX_LOCKED = false ∧ u.get p LANE.SLEEP_TX = LANE.SLEEP_TX.of v) ∧
      (n < 6 → s.enabled p = true → s.flag p LANE.SLEEP_RX = true → LANE.SLEEP_RX.of v = 0 → s.testing n = false →
        x.everUp = true → writes (exec (.sleepWrite m n v) s) fun u => u.laneState n = Ls.detect ∧
          (u.lane n).waking = true ∧ (u.lane n).try_ = min x.last x.rateMax)) ∧
    (s.laneState n = Ls.test → s.flag p LANE.PRBS_CTRL_CHK_EN = true → s.flag p LANE.PRBS_STAT_CHK_LOCK = false →
      ∀ rx, s.locksPrbs n rx = true → runs (exec (.prbsLock n rx) s) fun u => u.flag p LANE.PRBS_STAT_CHK_LOCK = true ∧
        (u.lane n).lockAt = s.now ∧ (u.lane n).errSeen = 0 ∧ u.evt p 5 = true) ∧
    (∀ bits errors, s.flag p LANE.PRBS_STAT_CHK_LOCK = true → 16 ≤ errors → errors ≤ bits → x.errSeen ≤ errors →
      runs (exec (.prbsUnlock n bits errors) s) fun u =>
      u.flag p LANE.PRBS_STAT_CHK_LOCK = false ∧ u.prbsBits n = min (s.prbsBits n + bits) (2 ^ 48 - 1) ∧
      u.get p LANE.PRBS_ERR_ERRORS = min (s.get p LANE.PRBS_ERR_ERRORS + (errors - x.errSeen)) (2 ^ LANE.PRBS_ERR_ERRORS.w - 1) ∧
      u.evt p 6 = true) ∧
    (s.laneState n = Ls.sleep → s.flag p LANE.SLEEP_WAKE_ON_SIG = true → s.testing n = false → x.everUp = true →
      runs (exec (.wakeOnSig n) s) fun u => u.flag p LANE.SLEEP_RX = false ∧ u.flag p LANE.STAT_SIG_DET = true ∧
        u.evt p 8 = true ∧ u.laneState n = Ls.detect ∧ (u.lane n).try_ = min x.last x.rateMax) ∧
    (s.laneState n = Ls.sleep → s.flag p LANE.SLEEP_WAKE_ON_SIG = false →
      runs (exec (.wakeOnSig n) s) fun u => u.flag p LANE.STAT_SIG_DET = true ∧ u.lanes = s.lanes)

/-! ### The Ethernet ports (chapter 11) -/

/-- The Ethernet ports (R284 to R302). -/
def Obligations.EthernetPorts : Prop :=
  ∀ (s : State) (m : Master) (n : Nat) (v : Word), n < 4 → s.hasMac n = true →
    let p := Pg.mac n
    let x := s.mac n
    let busy := s.enabled p = true ∧ x.cur.any (fun f => decide (5 < f.queue)) = true
    let clear := s.get Pg.girth GIRTH.RET_STAT_RETAINED = 0 ∧ (∀ o, s.vaultDenies (n + 1) o = false) ∧
      (s.girth.pinned = none ∨ s.girth.bgt = none) ∧ (∀ b, (s.bank b).waiting = []) ∧ s.girth.upset = []
    let counted := fun (u : State) (f : Fld) => u.get p f = min (s.get p f + 1) (2 ^ f.w - 1)
    (∀ q, s.takes m p → s.get p MAC.TXQ_SEL_QUEUE = q →
      let new := v.toNat % 2 ^ 12
      (q = 6 → ∃ u, exec (.txqProdWrite m n v) s = .next u ∧ Wrote p s u ∧ Kept [.resp, .ctrl] (fields []) noByte s u) ∧
      (q ≠ 6 → s.qCount n q ≤ new ∨
          s.qCount n q ≤ s.qWaiting n q + (new + s.qCount n q - s.qProd n q) % s.qCount n q →
        ∃ u, exec (.txqProdWrite m n v) s = .next u ∧ Wrote p s u ∧ u.flag p MAC.TXQ_STAT_BAD_PROD q = true ∧
          Kept [.resp, .ctrl] (fields [fkey p MAC.TXQ_STAT_BAD_PROD q]) noByte s u) ∧
      (q ≠ 6 → busy → s.qProd n q = s.qCons n q → new < s.qCount n q → s.qProd n q < s.qCount n q →
        ∃ u, exec (.txqProdWrite m n v) s = .next u ∧ Wrote p s u ∧ u.qProd n q = new ∧
          Kept [.resp, .ctrl] (fields [fkey p MAC.TXQ_PROD_PROD q]) noByte s u) ∧
      (q = 7 → s.enabled p = true → s.linkUp n = true → x.cur = none → x.pauseDue = none → s.qPaused n q = false →
        s.qHalted n q = false → s.qProd n q = s.qCons n q → new < s.qCount n q → new ≠ s.qProd n q →
        s.qProd n q < s.qCount n q → clear → s.girth.poison = [] → s.get p MAC.POL_RATE_RATE q = 0 →
        let d := (s.readDesc n q (s.qCons n q)).2
        let raw := padded (s.netRead (n + 1) d.buf d.len []).2
        d.ok (s.get p MAC.CFG_MAX_FRAME) = true → d.tsReq = false → d.oneStep = false →
        ∃ u, exec (.txqProdWrite m n v) s = .next u ∧ Wrote p s u ∧ u.qProd n q = new ∧
          (u.mac n).cur = some
            { queue := 7, idx := s.qCons n q, bytes := if d.vlan then insertTag raw d.tci else raw, frags := 1, sent := 0,
              startAt := max (10 * s.now) x.wireAt + 8 * s.byteTime n, byteTime := s.byteTime n, tsReq := false,
              oneStep := none, refAt := max (10 * s.now) x.wireAt + 8 * s.byteTime n, buf := d.buf, len := d.len,
              poison := false, drop := false } ∧
          Kept [.resp, .ctrl, .macs] (fields [fkey p MAC.TXQ_PROD_PROD q]) noByte s u) ∧
      (q ≠ 6 → new < s.qCount n q → s.qWaiting n q + (new + s.qCount n q - s.qProd n q) % s.qCount n q < s.qCount n q →
        exec (.txqProdWrite m n v) s =
          .next ((((s.abandonUnlock p).set p MAC.TXQ_PROD_PROD new q).schedule n).answer (.ok []))) ∧
      (q ≠ 6 → s.qHalted n q = true → exec (.haltedClear m n) s =
        .next ((((s.abandonUnlock p).set p MAC.TXQ_STAT_HALTED 0 q).schedule n).answer (.ok []))) ∧
      (busy → q ≠ 6 → s.qHalted n q = true → ∃ u, exec (.haltedClear m n) s = .next u ∧ Wrote p s u ∧
        u.qHalted n q = false ∧ Kept [.resp, .ctrl] (fields [fkey p MAC.TXQ_STAT_HALTED q]) noByte s u)) ∧
    (∀ f ecc shadowed, x.cur = some f → f.oneStep = none → (x.resume = none ∧ x.pauseDue = none ∧ s.enabled p = true ∧
        ∀ q, q < 8 → q ≠ f.queue → s.qWaiting n q = 0) →
      let end_ := f.startAt + (f.bytes.length + 4 - f.sent) * f.byteTime
      let ended := fun (u : State) => u.now = max s.now ((end_ + 9) / 10) ∧ (u.mac n).cur = none ∧
        (u.mac n).wireAt = end_ + 12 * f.byteTime ∧ (u.mac n).lastSent = f.bytes
      (f.queue = 8 → f.len = 0 → ∃ u, exec (.txFrameEnd n ecc shadowed) s = .next u ∧ counted u MAC.PAUSE_SENT ∧ ended u ∧
        Kept [.clock, .time, .macs] (fields [fkey p MAC.PAUSE_SENT 0]) noByte s u) ∧
      ((f.queue < 8 ∧ f.queue ≠ 6 ∧ f.drop = false ∧ s.qWaiting n f.queue = 1 ∧ s.qCons n f.queue = f.idx ∧
        f.idx < s.qCount n f.queue) → clear →
        let next := (f.idx + 1) % s.qCount n f.queue
        let sent := s.descAt n f.queue f.idx + 8
        let ns := ((s.reach ((end_ + 9) / 10)).txStamp n f.refAt).1
        (f.poison = false → ecc = [] → f.tsReq = false → shadowed = false →
          ∃ u, exec (.txFrameEnd n ecc shadowed) s = .next u ∧ ended u ∧ counted u MAC.TX_FRAMES ∧
            u.qCons n f.queue = next ∧
            (∀ i, i < 8 → u.girthByte (sent + i) =
              ((bytesOf (BitVec.ofNat 32 (2 ^ 31 + min f.frags 255)) ++ [0, 0, 0, 0])[i]?).getD 0) ∧
            Kept [.clock, .time, .macs, .girth] (fields [fkey p MAC.TX_FRAMES 0, fkey p MAC.TXQ_CONS_CONS f.queue])
              (bytesIn (Mem.girth + sent) 8) s u) ∧
        (f.poison = false → ecc = [] → f.tsReq = true → x.tsq.length < 64 → shadowed = false →
          ∃ u, exec (.txFrameEnd n ecc shadowed) s = .next u ∧ ended u ∧ counted u MAC.TX_FRAMES ∧
            u.qCons n f.queue = next ∧ (u.mac n).tsSeq = x.tsSeq + 1 ∧
            (u.mac n).tsq = x.tsq ++ [⟨BitVec.ofNat 6 x.tsSeq, f.queue, BitVec.ofNat 32 (ns % 2 ^ 32)⟩] ∧
            (∀ i, i < 4 → u.girthByte (sent + i) = ((bytesOf (BitVec.ofNat 32 (2 ^ 31 + 2 ^ 29 +
              x.tsSeq % 64 * 2 ^ 16 + min f.frags 255)))[i]?).getD 0)) ∧
        (f.poison = false → ecc = [] → f.tsReq = true → 64 ≤ x.tsq.length → shadowed = false →
          ∃ u, exec (.txFrameEnd n ecc shadowed) s = .next u ∧ ended u ∧ counted u MAC.TX_FRAMES ∧
            counted u MAC.TS_LOST ∧ u.evt p 9 = true ∧ u.condition Src.tsLost n = true ∧ (u.mac n).tsq = x.tsq) ∧
        (f.poison = true ∨ f.struck ecc = true → shadowed = false →
          ∃ u, exec (.txFrameEnd n ecc shadowed) s = .next u ∧ ended u ∧ counted u MAC.TX_POISON ∧ u.evt p 12 = true ∧
            u.qCons n f.queue = next ∧ (u.mac n).tsq = x.tsq) ∧
        (shadowed = true → f.tsReq = false →
          ∃ u, exec (.txFrameEnd n ecc shadowed) s = .next u ∧ ended u ∧ counted u MAC.RX_SHADOWED ∧ u.evt p 8 = true ∧
            u.qCons n f.queue = next ∧ (∀ a, u.byte a = s.byte a)))) ∧
    (s.get p MAC.PREEMPT_CTRL_VERIFY = 2 →
      ∃ u, exec (.verifyTimer n) s = .next u ∧
        u.now = max s.now (x.verifyAt + cyclesMs (s.get p MAC.PREEMPT_CTRL_VERIFY_MS)) ∧
        (x.verifySent < 3 → u.mac n = { x with verifySent := x.verifySent + 1, verifyAt := u.now } ∧
          Kept [.clock, .time, .macs] (fields []) noByte s u) ∧
        (3 ≤ x.verifySent → u.get p MAC.PREEMPT_CTRL_VERIFY = 4 ∧ u.evt p 6 = true ∧
          Kept [.clock, .time, .msix] (fields [fkey p MAC.PREEMPT_CTRL_VERIFY 0, fkey p PG.EVT 0]) noByte s u)) ∧
    (∀ f : Frame,
      let h := headers f.bytes
      let len := f.bytes.length
      let only := fun (o : Outcome) (c : Fld) => ∃ u, o = .next u ∧ counted u c ∧
        Kept [.msix, .life] (fields [fkey p c 0, fkey p PG.EVT 0]) noByte s u
      (s.linkUp n = false → exec (.rxFrame n f) s = .next s) ∧
      (s.linkUp n = true → s.enabled p = false → s.wasReceiving n f x.drainAt = false →
        s.wasReceiving n f x.killAt = false → only (exec (.rxFrame n f) s) MAC.RX_DISABLED) ∧
      (s.linkUp n = true → s.wasReceiving n f x.killAt = true → exec (.rxFrame n f) s = .next s) ∧
      (s.linkUp n = true → s.enabled p = true → s.wasReceiving n f x.killAt = false →
        (fragsMerge f = false → only (exec (.rxFrame n f) s) MAC.MERGE_ERR) ∧
        (fragsMerge f = true → f.fcsOk = false → only (exec (.rxFrame n f) s) MAC.RX_FCS_ERR) ∧
        (fragsMerge f = true → f.mpacket = none → f.fcsOk = true → f.pcsOk = true → f.frags.length ≤ 1 →
          (len < 60 ∨ s.get p MAC.CFG_MAX_FRAME < len + 4 → only (exec (.rxFrame n f) s) MAC.RX_LEN_ERR) ∧
          (60 ≤ len → len + 4 ≤ s.get p MAC.CFG_MAX_FRAME → be16 f.bytes 12 ≠ 0x8808 →
            (s.addressOk n f.bytes = false → only (exec (.rxFrame n f) s) MAC.RX_FILTERED) ∧
            (s.addressOk n f.bytes = true → forFirmware h f.bytes = false → s.flowMatch n h f.bytes = none →
              let count := s.get p MAC.RXR_CFG_COUNT 2
              let prod := s.get p MAC.RXR_PROD_PROD 2
              let slot := s.get p MAC.RXR_DATA_DATA 2 / 1024 * 1024 + prod * (2048 * s.get p MAC.RXR_CFG_SLOT_KIB 2)
              let desc := s.get p MAC.RXR_BASE_BASE 2 / 16 * 16 + 16 * prod
              let full := count = 0 ∨ (prod + 1) % count = s.get p MAC.RXR_CONS_CONS 2
              (full → only (exec (.rxFrame n f) s) MAC.RX_DROP_HOST) ∧
              (¬ full → f.shadowed = true → len ≤ 2048 * s.get p MAC.RXR_CFG_SLOT_KIB 2 →
                s.flag p MAC.CFG_VLAN_STRIP = false → ∃ u, exec (.rxFrame n f) s = .next u ∧ counted u MAC.RX_SHADOWED ∧
                  u.evt p 8 = true ∧ u.evt Pg.girth 2 = true ∧ u.condition Src.girthShadow 2 = true ∧
                  u.get Pg.girth GIRTH.SHADOW_NET = min (s.get Pg.girth GIRTH.SHADOW_NET + 1) (2 ^ GIRTH.SHADOW_NET.w - 1) ∧
                  (∀ a, u.byte a = s.byte a)) ∧
              (¬ full → f.shadowed = false → len ≤ 2048 * s.get p MAC.RXR_CFG_SLOT_KIB 2 →
                s.flag p MAC.CFG_VLAN_STRIP = false → clear → s.flag p MAC.CFG_PAUSE_TX = false →
                s.flag p MAC.STAT_PAUSING = false → slot + len ≤ desc ∨ desc + 16 ≤ slot →
                ∃ u, exec (.rxFrame n f) s = .next u ∧ counted u MAC.RX_FRAMES ∧
                  u.get p MAC.RXR_PROD_PROD 2 = (prod + 1) % count ∧
                  (∀ i, i < len → u.girthByte (slot + i) = (f.bytes[i]?).getD 0) ∧
                  Kept [.free, .girth] (fields [fkey p MAC.RX_FRAMES 0, fkey p MAC.RXR_PROD_PROD 2])
                    (fun a => bytesIn (Mem.girth + slot) len a ∨ bytesIn (Mem.girth + desc) 16 a) s u)))))) ∧
    (∀ r, s.takes m p → s.get p MAC.RXR_SEL_RING = r →
      let new := v.toNat % 2 ^ 12
      (r = 0 ∨ r = 3 ∨ s.get p MAC.RXR_CFG_COUNT r ≤ new →
        ∃ u, exec (.rxrConsWrite m n v) s = .next u ∧ Wrote p s u ∧ Kept [.resp, .ctrl] (fields []) noByte s u) ∧
      (1 ≤ r → r ≤ 2 → new < s.get p MAC.RXR_CFG_COUNT r → s.flag p MAC.CFG_PAUSE_TX = false →
        s.flag p MAC.STAT_PAUSING = false →
        ∃ u, exec (.rxrConsWrite m n v) s = .next u ∧ Wrote p s u ∧ u.get p MAC.RXR_CONS_CONS r = new ∧
          Kept [.resp, .ctrl] (fields [fkey p MAC.RXR_CONS_CONS r]) noByte s u)) ∧
    (s.flag p MAC.STAT_PAUSED_RX = true →
      exec (.pauseExpiry n) s = .next (((s.reach x.pauseUntil).set p MAC.STAT_PAUSED_RX 0).schedule n)) ∧
    (s.flag p MAC.STAT_PAUSING = true → s.linkUp n = true → s.someRingAbove n (s.get p MAC.PAUSE_CFG_LOW_PCT) = true →
      let w := s.reach (x.pauseAt + quantaCycles (s.get p MAC.PAUSE_CFG_QUANTA) (s.byteTime n) / 2)
      exec (.pauseRefresh n) s = .next ((w.setMac n { x with
        pauseDue := some (BitVec.ofNat 16 (s.get p MAC.PAUSE_CFG_QUANTA)), pauseAt := w.now }).schedule n)) ∧
    (busy → s.flag p MAC.STAT_PAUSING = true → s.linkUp n = true → s.someRingAbove n (s.get p MAC.PAUSE_CFG_LOW_PCT) = true →
      ∃ u, exec (.pauseRefresh n) s = .next u ∧
        u.now = max s.now (x.pauseAt + quantaCycles (s.get p MAC.PAUSE_CFG_QUANTA) (s.byteTime n) / 2) ∧
        u.mac n = { x with pauseDue := some (BitVec.ofNat 16 (s.get p MAC.PAUSE_CFG_QUANTA)), pauseAt := u.now } ∧
        Kept [.clock, .time, .macs] (fields []) noByte s u) ∧
    (busy → s.flag p MAC.STAT_PAUSED_RX = true →
      ∃ u, exec (.pauseExpiry n) s = .next u ∧ u.now = max s.now x.pauseUntil ∧ u.flag p MAC.STAT_PAUSED_RX = false ∧
        Kept [.clock, .time] (fields [fkey p MAC.STAT_PAUSED_RX 0]) noByte s u) ∧
    (s.present p = true →
      (x.tsq = [] → ∃ u, exec (.tsqPop m n) s = .next u ∧ Answered 0 u ∧ u.mac n = x) ∧
      (∀ e rest, x.tsq = e :: rest → e.queue < 8 →
        ∃ u, exec (.tsqPop m n) s = .next u ∧ Answered (BitVec.ofNat 32 (2 ^ 31 + e.tag.toNat * 2 ^ 16 + e.queue)) u ∧
          u.mac n = { x with tsq := rest } ∧ u.get p MAC.TSQ_STAMP_STAMP = e.stamp.toNat ∧
          Kept [.resp, .macs] (fields [fkey p MAC.TSQ_STAT_COUNT 0, fkey p MAC.TSQ_STAMP_STAMP 0, fkey p MAC.TSQ_POP_VALID 0,
            fkey p MAC.TSQ_POP_TAG 0, fkey p MAC.TSQ_POP_QUEUE 0]) noByte s u))

/-! ### Network time (chapter 12) -/

/-- TIME0 and TIME1 and their PTP instances (R307 to R323). -/
def Obligations.NetworkTime : Prop :=
  ∀ (s : State) (m : Master) (n : Nat) (v : Word), n < 2 →
    let p := Pg.time
    let c := s.counter n
    let on := s.takes m p ∧ s.flag p PG.CTRL_EN = true
    let off := fun (o : Outcome) => ∃ u, o = .next u ∧ Wrote p s u ∧ u.evt p 1 = true ∧
      Kept [.resp, .ctrl, .msix] (fields [fkey p PG.EVT 0]) noByte s u
    let stepped := fun (u : State) (c' : Counter) => u.counter n = { c' with slew := 0 } ∧ u.counter (1 - n) = s.counter (1 - n) ∧
      u.flag p (TIME.C_STAT_SLEWING n) = false ∧
      u.get p (TIME.C_STAT_EPOCH n) = (s.get p (TIME.C_STAT_EPOCH n) + 1) % 2 ^ (TIME.C_STAT_EPOCH n).w ∧
      u.evt p 0 = true ∧ u.condition Src.stepped n = true ∧
      (n = 0 → u.flag Pg.rein REIN.SEL_STAT_EPOCH_ALIGNED = false) ∧ (∀ a, u.byte a = s.byte a)
    (s.present p = true →
      ∃ u, exec (.cnNsRead m n) s = .next u ∧ Answered (BitVec.ofNat 32 c.ns) u ∧ (m, n, c.sec) ∈ u.time.holds ∧
        u.counter 0 = s.counter 0 ∧ u.counter 1 = s.counter 1 ∧ Kept [.resp, .time] (fields []) noByte s u) ∧
    (s.takes m p →
      ∃ u, exec (.capture m) s = .next u ∧ Wrote p s u ∧
        (∀ k, k < 2 → u.get p (TIME.CAP_NS_NS k) = (s.counter k).ns % 2 ^ 32 ∧
          u.get p (TIME.CAP_SEC_LO_SEC k) = (s.counter k).sec % 2 ^ 32 ∧
          u.get p (TIME.CAP_SEC_HI_SEC k) = (s.counter k).sec / 2 ^ 32 % 2 ^ 16) ∧
        u.flag p TIME.CAPTURE_DONE = true ∧
        Kept [.resp, .ctrl] (fields [fkey p (TIME.CAP_NS_NS 0) 0, fkey p (TIME.CAP_NS_NS 1) 0, fkey p (TIME.CAP_SEC_LO_SEC 0) 0,
          fkey p (TIME.CAP_SEC_LO_SEC 1) 0, fkey p (TIME.CAP_SEC_HI_SEC 0) 0, fkey p (TIME.CAP_SEC_HI_SEC 1) 0,
          fkey p TIME.CAPTURE_DONE 0]) noByte s u) ∧
    (on → let ns := s.get p (TIME.C_INC_NS_NS n)
      (incAllowed (ns * 2 ^ 32 + v.toNat) = true →
        ∃ u, exec (.incFracWrite m n v) s = .next u ∧ Wrote p s u ∧
          u.counter n = { c with incNs := ns, incFrac := v.toNat } ∧ u.get p (TIME.C_INC_FRAC_FRAC n) = v.toNat ∧
          Kept [.resp, .ctrl, .time] (fields [fkey p (TIME.C_INC_FRAC_FRAC n) 0]) noByte s u) ∧
      (incAllowed (ns * 2 ^ 32 + v.toNat) = false → c.incNs < 16 → c.incFrac < 2 ^ 32 →
        ∃ u, exec (.incFracWrite m n v) s = .next u ∧ Wrote p s u ∧ u.evt p 2 = true ∧
          u.get p (TIME.C_INC_NS_NS n) = c.incNs ∧ u.get p (TIME.C_INC_FRAC_FRAC n) = c.incFrac ∧
          Kept [.resp, .ctrl, .msix] (fields [fkey p (TIME.C_INC_NS_NS n) 0, fkey p (TIME.C_INC_FRAC_FRAC n) 0,
            fkey p PG.EVT 0]) noByte s u)) ∧
    (on → ∃ u, exec (.slewNsWrite m n v) s = .next u ∧ Wrote p s u ∧
      u.counter n = { c with slew := v.toInt * 2 ^ 32, slewStep := slewStepOf (s.get p (TIME.C_SLEW_CFG_RATE n)) } ∧
      u.flag p (TIME.C_STAT_SLEWING n) = decide (v ≠ 0) ∧
      Kept [.resp, .ctrl, .time] (fields [fkey p (TIME.C_STAT_SLEWING n) 0]) noByte s u) ∧
    (s.flag p (TIME.C_STAT_SLEWING n) = true →
      ∃ u, exec (.slewDone n) s = .next u ∧ (u.counter n).slew = 0 ∧ u.flag p (TIME.C_STAT_SLEWING n) = false ∧
        u.evt p 3 = true ∧ u.now = s.now + c.slewCycles ∧
        Kept [.clock, .time, .msix] (fields [fkey p (TIME.C_STAT_SLEWING n) 0, fkey p PG.EVT 0]) noByte s u) ∧
    (on → (TIME.C_SET_NS_GO n).of v = 1 → (TIME.C_SET_NS_NS n).of v < 1000000000 →
      ∃ u, exec (.setGo m n v) s = .next u ∧ Wrote p s u ∧
        stepped u { c with sec := s.get p (TIME.C_SET_SEC_HI_SEC n) * 2 ^ 32 + s.get p (TIME.C_SET_SEC_LO_SEC n),
                           ns := (TIME.C_SET_NS_NS n).of v, frac := 0 }) ∧
    (on → (TIME.C_SET_NS_GO n).of v = 1 → 1000000000 ≤ (TIME.C_SET_NS_NS n).of v →
      ∃ u, exec (.setGo m n v) s = .next u ∧ Wrote p s u ∧ u.evt p 1 = true ∧ u.time = s.time) ∧
    (on → 0 ≤ (c.units : Int) + v.toInt * 2 ^ 32 →
      ∃ u, exec (.stepWrite m n v) s = .next u ∧ Wrote p s u ∧
        stepped u (c.ofUnits ((c.units : Int) + v.toInt * 2 ^ 32).toNat)) ∧
    (on → (c.units : Int) + v.toInt * 2 ^ 32 < 0 → off (exec (.stepWrite m n v) s)) ∧
    (s.takes m p → s.flag p PG.CTRL_EN = false → off (exec (.incFracWrite m n v) s) ∧ off (exec (.slewNsWrite m n v) s) ∧
      off (exec (.setGo m n v) s) ∧ off (exec (.stepWrite m n v) s)) ∧
    (s.fwRunning = true → ∃ u, exec .monUpdate s = .next u ∧ u.flag p TIME.CAPTURE_DONE = true ∧ u.evt p 6 = true ∧
      u.get p TIME.MON_DIFF_NS =
        unsigned 32 (clampSym 32 (((s.counter 1).nanos : Int) - (s.counter 0).nanos)) ∧ u.time = s.time) ∧
    (∀ (off' slew : Int), s.fwRunning = true →
      let good := if off'.natAbs ≤ 1000 then (s.ptp n).good + 1 else 0
      let bad := if 10000 < off'.natAbs then (s.ptp n).bad + 1 else 0
      (s.flag p PG.CTRL_EN = true → s.servo n = Servo.acquiring → s.servoSteps n off' = false → incAllowed (s.get p (TIME.C_INC_NS_NS n) * 2 ^ 32 + v.toNat) = true →
        ∃ u, exec (.syncReceived n off' v slew) s = .next u ∧ (u.counter n).incFrac = v.toNat ∧
          u.get p (TIME.PTP_OFFSET_NS n) = unsigned 32 (clampSym 32 off') ∧
          (slew ≠ 0 → (u.counter n).slew = slew * 2 ^ 32) ∧
          u.servo n = (if 16 ≤ good then Servo.locked else Servo.acquiring)) ∧
      let moved := c.ofUnits ((c.units : Int) - off' * 2 ^ 32).toNat
      (s.flag p PG.CTRL_EN = true → s.servo n = Servo.acquiring → s.servoSteps n off' = true → 0 ≤ (c.units : Int) - off' * 2 ^ 32 →
        ∃ u, exec (.syncReceived n off' v slew) s = .next u ∧
          u.counter n = { moved with slew := 0 } ∧ u.evt p 0 = true) ∧
      (s.flag p PG.CTRL_EN = true → s.servo n = Servo.locked → incAllowed (s.get p (TIME.C_INC_NS_NS n) * 2 ^ 32 + v.toNat) = true →
        ∃ u, exec (.syncReceived n off' v slew) s = .next u ∧ (u.counter n).incFrac = v.toNat ∧
          u.servo n = (if 16 ≤ bad then Servo.acquiring else Servo.locked))) ∧
    (∀ a : Announce, s.fwRunning = true → s.servo n ≠ Servo.disabled →
      (a.wins = true → gmCapable (s.profile n) = true →
        ∃ u, exec (.announceReceived n a) s = .next u ∧ u.servo n = Servo.grandmaster) ∧
      (a.wins = false → a.selects = true →
        ∃ u, exec (.announceReceived n a) s = .next u ∧ u.get p (TIME.PTP_STAT_CLASS n) = a.clockClass.toNat ∧
          u.get p (TIME.PTP_STAT_UTC_OFFSET n) = a.utcOffset.toNat ∧ (u.ptp n).master = some a.source ∧
          u.servo n = if s.servo n = Servo.locked ∧ (s.ptp n).master = some a.source then Servo.locked else Servo.acquiring)) ∧
    (s.fwRunning = true → s.servo n = Servo.acquiring ∨ s.servo n = Servo.locked →
      ∃ u, exec (.announceTimeout n false) s = .next u ∧ u.servo n = Servo.holdover ∧ u.evt p (4 + n) = true) ∧
    (∀ (tag : BitVec 8) (dom mask : Word), s.serves → s.enabled p = true →
      let k := bit (v.toNat.testBit 12)
      (v.toNat % 16 = 0 → profileBits v.toNat = true →
        ∃ u, exec (.ptpProfile tag v dom mask) s = .next u ∧ Replied Op.ptpProfile tag St.ok [] u ∧
          u.servo k = Servo.disabled) ∧
      (v.toNat % 16 ≠ 0 → profileOk v.toNat dom.toNat mask.toNat = true →
        ((List.range 4).any fun q => mask.getLsbD q && s.macCount ≤ q) = false →
        ∃ u, exec (.ptpProfile tag v dom mask) s = .next u ∧ Replied Op.ptpProfile tag St.ok [] u ∧
          u.servo k = Servo.listening ∧ u.profile k = v ∧ u.get p (TIME.PTP_PORT_DOMAIN k) = dom.toNat ∧
          u.get p (TIME.PTP_PORT_PORTS k) = mask.toNat ∧ (u.ptp k) = Ptp.reset) ∧
      (v.toNat % 16 ≠ 0 → profileOk v.toNat dom.toNat mask.toNat = false →
        ∃ u, exec (.ptpProfile tag v dom mask) s = .next u ∧ Replied Op.ptpProfile tag St.badArg [] u ∧ u.time = s.time))

/-! ### The Rein (chapter 13) -/

/-- The Rein (R325 to R345). -/
def Obligations.References : Prop :=
  ∀ (s : State) (m : Master) (v : Word),
    let p := Pg.rein
    let counted := fun (u : State) (f : Fld) => u.get p f = min (s.get p f + 1) (2 ^ f.w - 1)
    (∀ i, i < 8 → pinType (s.refKind i) = true →
      (∀ off rate : Int, rate.natAbs ≤ 1000 → edgeAccepted (s.refWord i) off = true →
        ∃ u, exec (.refEdge i (some off) rate) s = .next u ∧ (u.ref i).edgeAt = s.now ∧ (u.ref i).present = true ∧
          (u.ref i).rejected = false ∧ (∀ j, j ≠ i → u.ref j = s.ref j) ∧
          Kept [.rein] (fields [fkey p REIN.REF_STAT_STATE i]) noByte s u) ∧
      (∀ off rate : Int, rate.natAbs ≤ 1000 → edgeAccepted (s.refWord i) off = false → (s.ref i).rejected = false →
        (recentGlitches s.now (s.ref i).glitches).length < 2 →
        ∃ u, exec (.refEdge i (some off) rate) s = .next u ∧ counted u REIN.GLITCHES ∧
          u.ref i = { s.ref i with rejected := true, glitches := s.now :: recentGlitches s.now (s.ref i).glitches } ∧
          Kept [.rein] (fields [fkey p REIN.GLITCHES 0]) noByte s u) ∧
      (∀ off rate : Int, 1000 < rate.natAbs → edgeAccepted (s.refWord i) off = true → s.refLive i = true →
        ∃ u, exec (.refEdge i (some off) rate) s = .next u ∧ u.refState i = Rs.latched ∧
          u.get p REIN.REF_STAT_CAUSE i = Rc.rateChange ∧ u.evt p 3 = true ∧ counted u REIN.DISQUALS) ∧
      ((s.ref i).present = true → s.refLive i = true →
        ∃ u, exec (.refStop i) s = .next u ∧ u.refState i = Rs.disqualified ∧ u.get p REIN.REF_STAT_CAUSE i = Rc.stop ∧
          (u.ref i).present = false ∧ u.evt p 3 = true ∧ u.now = max s.now ((s.ref i).edgeAt + stopCycles (s.refWord i)))) ∧
    (∀ i, i < 8 → s.refState i = Rs.qualifying → s.refConditions i = true →
      s.refKind i = 5 ∨ pulseType (s.refKind i) = false ∨ 8 ≤ (s.ref i).pulses →
      ∃ u, exec (.qualified i) s = .next u ∧ u.refState i = Rs.qualified ∧ u.get p REIN.REF_STAT_CAUSE i = 0 ∧
        u.evt p 4 = true ∧ (u.ref i).qualAt = u.now ∧
        u.now = max s.now ((s.ref i).sinceAt + cyclesSec (s.get p REIN.CHECK_TIME_QUAL_S))) ∧
    (∀ (i : Nat) (f : Int), i < 8 → s.refState i ≠ Rs.undeclared →
      ∃ u, exec (.refMeanUpdate [(i, f)]) s = .next u ∧ u.get p REIN.REF_FREQ_PPB i = unsigned 32 (clampSym 32 f) ∧
        (s.isQualified i = true → (100 * s.get p REIN.CHECK_CFG_XO_WIDE : Int) < f → f < 2 ^ 31 - 1 →
          u.evt p 3 = true ∧ u.get p REIN.REF_STAT_CAUSE i = Rc.xoWide)) ∧
    (∀ (i t j : Nat), s.selected = some i → (s.ref i).softAt = some t → s.autoActive = true → s.reinEnabled = true →
      s.dpllState 0 = Ds.locked →
      ((s.reach (t + cyclesSec (s.get p REIN.CHECK_TIME_DRIFT_S))).onRef i fun x =>
        { x with softOut := true, softAt := none }).candidate = some j →
      ∃ u, exec .softDriftSwitch s = .next u ∧ u.selected = some j ∧ (u.dpll 0).follows = some j ∧
        u.flag p REIN.SEL_STAT_SWITCHING = true ∧ u.evt p 1 = true ∧ counted u REIN.SWITCHES) ∧
    (s.reinEnabled = false →
      ∃ u, exec .selection s = .next u ∧ u.selected = s.selected ∧ u.rein.dplls = s.rein.dplls ∧
        ∀ k, k < 3 → u.dpllState k = s.dpllState k) ∧
    (s.reinEnabled = true → s.ownD1 = false →
      let r := (s.each refSlots fun s i => (s.refreshQl i).requalify i).updateDisputes
      (∀ c, r.autoActive = true → r.selected = none → r.candidate = some c → r.dpllState 0 = Ds.free →
        ∃ u, exec .selection s = .next u ∧ u.selected = some c ∧ (u.dpll 0).follows = some c ∧ u.dpllState 0 = Ds.acquire ∧
          u.evt p 0 = true ∧ u.flag p REIN.SEL_STAT_SWITCHING = r.flag p REIN.SEL_STAT_SWITCHING) ∧
      (r.autoActive = true → r.candidate = none → (r.selected.any fun cur => r.usable cur) = false → r.selected.isSome = true →
        r.dpllState 0 = Ds.locked →
        ∃ u, exec .selection s = .next u ∧ u.selected = none ∧ u.dpllState 0 = Ds.holdover ∧ u.evt p 6 = true ∧
          u.condition Src.reinHold 0 = true ∧ counted u REIN.HOLD_ENTRIES)) ∧
    (s.flag p REIN.SEL_STAT_SWITCHING = true → s.reinEnabled = true →
      ∃ u, exec .switchDone s = .next u ∧ u.flag p REIN.SEL_STAT_SWITCHING = false ∧ u.evt p 2 = true ∧
        u.selected = s.selected) ∧
    (∀ k, k < 3 → s.dpllState k = Ds.acquire → k ≠ 1 ∨ s.ownD1 = true →
      ∃ u, exec (.dpllLocked k) s = .next u ∧ u.dpllState k = Ds.locked ∧ (u.dpll k).lockedAt = u.now ∧
        u.now = max s.now ((s.dpll k).nearAt + cyclesSec 5)) ∧
    (∀ k, k < 3 → s.dpllState k = Ds.holdover → k ≠ 1 ∨ s.ownD1 = true →
      ∃ u, exec (.holdExpired k) s = .next u ∧ u.dpllState k = Ds.expired ∧ u.evt p 7 = true ∧
        u.now = max s.now ((s.dpll k).holdAt + cyclesSec s.holdSpec) ∧ (k = 0 → u.condition Src.holdExpired 0 = true)) ∧
    (∀ (lane : Nat) (ssm : BitVec 4), lane < 4 →
      (s.fwRunning = true →
        ∃ u, exec (.esmcPdu lane ssm) s = .next u ∧ SMap.find? u.rein.ssm lane = some (ssm, s.now)) ∧
      (∀ c, SMap.find? s.rein.ssm lane = some c →
        ∃ u, exec (.esmcTimeout lane) s = .next u ∧ SMap.find? u.rein.ssm lane = none ∧
          u.now = max s.now (c.2 + cyclesSec 5))) ∧
    (s.takes m p →
      (s.locked p = true → ∃ u, exec (.selCtrlWrite m v) s = .next u ∧ Wrote p s u ∧ Kept [.resp, .ctrl] (fields []) noByte s u) ∧
      (s.locked p = false →
        ∃ u, exec (.selCtrlWrite m v) s = .next u ∧ Wrote p s u ∧ u.get p REIN.SEL_CTRL_WTR_S = REIN.SEL_CTRL_WTR_S.of v ∧
          u.get p REIN.SEL_CTRL_REVERT = REIN.SEL_CTRL_REVERT.of v ∧ u.get p REIN.SEL_CTRL_MAN_REF = REIN.SEL_CTRL_MAN_REF.of v ∧
          u.get p REIN.SEL_CTRL_FALLBACK = REIN.SEL_CTRL_FALLBACK.of v ∧
          u.get p REIN.SEL_CTRL_MODE =
            if REIN.SEL_CTRL_MODE.of v = 3 then s.get p REIN.SEL_CTRL_MODE else REIN.SEL_CTRL_MODE.of v) ∧
      (s.reinEnabled = true → REIN.FP_CTRL_MODE.of v = s.get p REIN.FP_CTRL_MODE → REIN.FP_CTRL_ALIGN_NOW.of v ≠ 0 →
        ∃ u, exec (.alignNow m v) s = .next u ∧ Wrote p s u ∧ u.rein.pulling = (s.domActive 0 || s.domActive 1) ∧
          u.get p REIN.FP_CTRL_ALIGN_NOW = s.get p REIN.FP_CTRL_ALIGN_NOW ||| REIN.FP_CTRL_ALIGN_NOW.of v ∧
          u.get p REIN.FP_CTRL_STEP_LIM = REIN.FP_CTRL_STEP_LIM.of v ∧
          ∀ d, s.domActive d = true → u.dom d = s.dom d) ∧
      (∀ n, n < 4 → (REIN.MCLK_CFG_DOMAIN n).of v ≠ 3 → (REIN.MCLK_CFG_MULT n).of v ≠ 3 →
        let hz := s.mclkHz ((REIN.MCLK_CFG_MULT n).of v) ((REIN.MCLK_CFG_DOMAIN n).of v)
        (hz ≤ 49152000 → ∃ u, exec (.mclkCfgWrite m n v) s = .next u ∧ Wrote p s u ∧
          u.get p (REIN.MCLK_CFG_DOMAIN n) = (REIN.MCLK_CFG_DOMAIN n).of v ∧
          u.get p (REIN.MCLK_CFG_MULT n) = (REIN.MCLK_CFG_MULT n).of v ∧ u.get p (REIN.MCLK_CFG_EN n) = (REIN.MCLK_CFG_EN n).of v ∧
          (∀ k, SMap.find? u.rein.mclks n = some k → k.till.isNone = u.flag p (REIN.MCLK_CFG_EN n)) ∧
          ((REIN.MCLK_CFG_EN n).of v = 1 → ∃ k, SMap.find? u.rein.mclks n = some k ∧ k.mult = (REIN.MCLK_CFG_MULT n).of v ∧
            k.dom = (REIN.MCLK_CFG_DOMAIN n).of v) ∧
          Kept [.resp, .ctrl, .rein] (fields [fkey p (REIN.MCLK_CFG_EN n) 0, fkey p (REIN.MCLK_CFG_DOMAIN n) 0,
            fkey p (REIN.MCLK_CFG_MULT n) 0]) noByte s u) ∧
        (49152000 < hz → ∃ u, exec (.mclkCfgWrite m n v) s = .next u ∧ Wrote p s u ∧ u.evt p 13 = true ∧
          Kept [.resp, .ctrl, .msix] (fields [fkey p PG.EVT 0]) noByte s u))) ∧
    (∀ (n : Nat) (err : Int), n < 4 → s.flag p (REIN.FP_CFG_EN n) = true →
      let bits := s.get p REIN.FP_CTRL_ALIGN_NOW
      let e := (s.reach (s.fpDue n)).fpError n err
      let pulsed := fun (u : State) =>
        u.now = max s.now (s.fpDue n) ∧ SMap.find? u.rein.fpGrid n = some (s.fpNext n) ∧
          nget 0 u.rein.pulses n = nget 0 s.rein.pulses n + 1 ∧
          u.liveWord m p (0x0A8 + 16 * n) 0 = bit (s.fpSource n) * 2 ^ 30
      (s.fpSource n = false → ∃ u, exec (.framePulse n err) s = .next u ∧ pulsed u ∧
        SMap.find? u.rein.fpCorrect n = none ∧ Kept [.clock, .time, .rein] (fields []) noByte s u) ∧
      (s.refKind (s.get p (REIN.FP_CFG_SRC n)) ≠ 5 →
        let per := s.fpPeriod n
        let off := (err - signed 32 (s.get p (REIN.FP_OFS_NS n))) * (per.2 : Int) % (per.1 : Int)
        e = (if 2 * off ≤ (per.1 : Int) then off else off - (per.1 : Int)) / (per.2 : Int)) ∧
      (s.fpSource n = true → e.natAbs < 2 ^ 31 →
        ∃ u, exec (.framePulse n err) s = .next u ∧ pulsed u ∧
          u.get p (REIN.FP_ERR_NS n) = unsigned 32 e ∧ u.flag p (REIN.FP_STAT_ALIGNED n) = decide (e.natAbs ≤ 10) ∧
          (bits.testBit n = true → nget 0 u.rein.fpCorrect n = -e ∧ u.evt p 9 = true ∧
            u.get p REIN.FP_CTRL_ALIGN_NOW = bits - 2 ^ n) ∧
          (bits.testBit n = false → s.get p REIN.FP_CTRL_MODE = 0 → s.reinEnabled = true →
            (e.natAbs ≤ s.get p REIN.FP_CTRL_STEP_LIM → nget 0 u.rein.fpCorrect n = -(max (-10) (min 10 e))) ∧
            (s.get p REIN.FP_CTRL_STEP_LIM < e.natAbs → nget 0 u.rein.fpCorrect n = -e ∧ u.evt p 9 = true ∧
              counted u REIN.FP_STEPS)))) ∧
    (∀ (tag : BitVec 8) (index quality rank : Word), s.serves →
      let i := index.toNat
      let ok := declarationOk i v.toNat quality.toNat rank.toNat
      (ok = true → s.sourceBound i v.toNat = false → refType v.toNat ≠ 6 → s.reinEnabled = true → s.refFollowed i = false →
        ∃ u, exec (.refDeclare tag index v quality rank) s = .next u ∧ Replied Op.refDeclare tag St.ok [] u ∧
          u.refWord i = v.toNat ∧ u.refState i = (if refType v.toNat = 0 then Rs.undeclared else Rs.qualifying) ∧
          (refType v.toNat ≠ 0 → u.refRank i = rank.toNat)) ∧
      (ok = false ∨ s.sourceBound i v.toNat = true →
        ∃ u, exec (.refDeclare tag index v quality rank) s = .next u ∧ Replied Op.refDeclare tag St.badArg [] u ∧
          u.rein = s.rein))

/-! ### Networked audio flows and serial ports (chapters 14 and 15) -/

/-- The flow engine (R349 to R375). -/
def Obligations.AudioFlows : Prop :=
  ∀ (s : State) (m : Master) (tag : BitVec 8) (v : Word),
    (∀ addr : Nat, s.serves →
      let l := (s.peeked addr 128).peekWords addr 32
      let x := flowDesc l
      let want := field ((l[0]?).getD 0) 0 16
      (s.descOk x want = false → ∃ u, exec (.flowAdd tag addr) s = .next u ∧ Replied Op.flowAdd tag St.badArg [] u ∧
        u.flow = s.flow) ∧
      (∀ cs, s.descOk x want = true → x.ports.all s.hasMac = true → want = 0xFFFF ∨ want < s.flowCount →
        s.ctxsFor x want = some cs →
        (∀ e ∈ s.flow.ctxs, e.2.desc.patch + e.2.desc.channels ≤ x.patch ∨ x.patch + x.channels ≤ e.2.desc.patch) →
        (∀ e ∈ s.flow.ctxs, e.2.key ≠ (s.newCtx x false false).key ∧ e.2.key ≠ (s.newCtx x true false).key) →
        s.enabled (ctxPage (cs.headD 0)) = true →
        ∃ u, exec (.flowAdd tag addr) s = .next u ∧ Replied Op.flowAdd tag St.ok [BitVec.ofNat 32 (cs.headD 0 % 512)] u ∧
          (∀ c ∈ cs, (u.ctx c).isSome = true ∧ u.ctxState c = (if x.tx then Cs.sending else Cs.wait) ∧
            u.ctxGet c FLOW.CTX_CFG_CHANNELS = x.channels ∧ u.ctxGet c FLOW.CTX_CFG_VALID = 1) ∧
          (∀ c, c ∉ cs → u.ctx c = s.ctx c))) ∧
    (s.serves → v.toNat / 2 ^ 17 = 0 → v.toNat % 65536 < s.flowCount →
      let c := v.toNat % 65536 + (if v.getLsbD 16 then 512 else 0)
      s.enabled (ctxPage c) = true →
      (s.ctx c = none → ∃ u, exec (.flowDel tag v) s = .next u ∧ Replied Op.flowDel tag St.badArg [] u ∧ u.flow = s.flow) ∧
      (∀ x, s.ctx c = some x → 512 ≤ c → x.freeing = false →
        ∃ u, exec (.flowDel tag v) s = .next u ∧ Replied Op.flowDel tag St.ok [] u ∧ u.ctx c = none) ∧
      (∀ x, s.ctx c = some x → c < 512 → x.pathB = false →
        (s.domActive x.desc.domain = true → x.freeing = false →
          ∃ u, exec (.flowDel tag v) s = .next u ∧ u.flag Pg.host HOST.MBX_STAT_BUSY = true ∧
            u.ctrl.short = some ⟨BitVec.ofNat 8 Op.flowDel, tag⟩ ∧ ∃ y, u.ctx c = some y ∧ y.freeing = true ∧
            (s.ctxState c = Cs.run ∨ s.ctxState c = Cs.conceal → y.fading = true)) ∧
        (s.domActive x.desc.domain = false → x.freeing = false →
          ∃ u, exec (.flowDel tag v) s = .next u ∧ Replied Op.flowDel tag St.ok [] u ∧ u.ctx c = none) ∧
        (x.freeing = true → ∃ u, exec (.flowDel tag v) s = .next u ∧ u.flag Pg.host HOST.MBX_STAT_BUSY = true ∧
          u.ctrl.short = some ⟨BitVec.ofNat 8 Op.flowDel, tag⟩ ∧ u.flow = s.flow))) ∧
    (∀ (port : Nat) (shadowed : List Nat), port < 4 → s.hasMac port = true → s.get Pg.girth GIRTH.RET_STAT_RETAINED = 0 →
      (∀ o, s.vaultDenies 5 o = false) → (∀ b, (s.bank b).waiting = []) → s.girth.upset = [] → s.girth.poison = [] →
      s.flag (Pg.mac port) MAC.CFG_PAUSE_TX = false →
      s.flag (Pg.mac port) MAC.STAT_PAUSING = false →
      let pg := Pg.mac port
      let count := s.get pg MAC.RXR_CFG_COUNT 0
      let cons := s.get pg MAC.RXR_CONS_CONS 0
      let d := (s.netRead 5 (s.get pg MAC.RXR_BASE_BASE 0 / 16 * 16 + 16 * cons) 8 []).2
      let w0 := wordOf ((d[0]?).getD 0) ((d[1]?).getD 0) ((d[2]?).getD 0) ((d[3]?).getD 0)
      let l := (s.netRead 5 (s.get pg MAC.RXR_DATA_DATA 0 / 1024 * 1024 + cons * (2048 * s.get pg MAC.RXR_CFG_SLOT_KIB 0))
        (w0.toNat % 2 ^ 14) []).2
      let h := headers l
      (count = 0 ∨ s.get pg MAC.RXR_PROD_PROD 0 = cons → exec (.flowPacket port shadowed) s = .next s) ∧
      (count ≠ 0 → s.get pg MAC.RXR_PROD_PROD 0 ≠ cons → w0.getLsbD 16 = false →
        (s.flowMatch port h l = none →
          ∃ u, exec (.flowPacket port shadowed) s = .next u ∧ u.get pg MAC.RXR_CONS_CONS 0 = (cons + 1) % count ∧
            Kept [] (fields [fkey pg MAC.RXR_CONS_CONS 0]) noByte s u) ∧
        (∀ c x udp, s.flowMatch port h l = some c → s.ctx c = some x → h.udp = some udp → x.paired = false → x.pathB = false →
          s.ctxState c ≠ Cs.draining → s.ctxState c ≠ Cs.stopped →
          let p := rtpOf l udp
          (p.pt ≠ x.desc.pt ∨ p.ok = false →
            ∃ u, exec (.flowPacket port shadowed) s = .next u ∧ u.get pg MAC.RXR_CONS_CONS 0 = (cons + 1) % count ∧
              u.ctxGet c FLOW.FMT_ERR = min (s.ctxGet c FLOW.FMT_ERR + 1) (2 ^ FLOW.FMT_ERR.w - 1) ∧
              u.evt (ctxPage c) 7 = true ∧ u.flow = s.flow) ∧
          (w0.getLsbD 21 = true → p.ok = true → p.pt = x.desc.pt → (s.ssrcWanted x).any (· ≠ p.ssrc) = false →
            p.payload.length = x.desc.channels * s.ctxS x * sampleBytes x.desc.enc → x.hist = [] →
            s.packetTokens x ≤ (s.policer x).tokens →
            let now := s.countNow x.desc.domain
            let rel := near32 (p.ts - x.desc.ofs).toNat now
            let first := rel + s.delayOf c x
            ∃ u, exec (.flowPacket port shadowed) s = .next u ∧ u.get pg MAC.RXR_CONS_CONS 0 = (cons + 1) % count ∧
              u.ctxGet c FLOW.PKTS = min (s.ctxGet c FLOW.PKTS + 1) (2 ^ FLOW.PKTS.w - 1) ∧
              u.ctxGet c FLOW.CTX_LAST_SEQ_SEQ = p.seq ∧ u.ctxGet c FLOW.CTX_LAST_TS_TS = p.ts.toNat ∧
              (∀ i, i < s.ctxS x → 0 ≤ first + i → first + i < playWindow (s.ctxHz x) → i ∉ shadowed →
                let m := unsigned 64 ((now : Int) + rel + i)
                (u.ctx c).any (fun y => y.placed.contains m) = true ∧
                  ∀ ch, ch < x.desc.channels → u.girthSamples (s.playAddr c (s.ctxHz x) m ch) 1 =
                    [sampleAt p.payload x.desc.channels (sampleBytes x.desc.enc) i ch]) ∧
              (first < 0 → u.evt (ctxPage c) 4 = true))))) ∧
    (∀ d, d < 2 → 16 ≤ (s.dom d).differ → s.domActive d = true →
      ∃ u, exec (.rebase d) s = .next u ∧ u.dom d = { s.dom d with shift := nget 0 s.flow.lastG d, differ := 0 } ∧
        u.evt (Pg.flow 0) 10 = true ∧ u.condition Src.rebase d = true ∧
        u.get (Pg.flow 0) FLOW.REBASES = min (s.get (Pg.flow 0) FLOW.REBASES + 1) (2 ^ FLOW.REBASES.w - 1)) ∧
    (∀ c x, c < 512 → s.ctx c = some x →
      (s.ctxGet c FLOW.CTX_STAT_UNDERRUN = 1 →
        ∃ u, exec (.underrunClear c) s = .next u ∧ u.ctxGet c FLOW.CTX_STAT_UNDERRUN = 0 ∧
          u.condition Src.underrun c = false ∧ u.now = max s.now (x.missAt + cyclesSec 1)) ∧
      (x.desc.ssrc = 0 → x.learned ≠ none →
        ∃ u, exec (.ssrcRelearn c) s = .next u ∧ u.ctx c = some { x with learned := none } ∧
          u.ctxGet c FLOW.CTX_SSRC_SSRC = 0 ∧ u.now = max s.now (x.acceptAt + cyclesSec 1)) ∧
      (s.ctxGet c FLOW.CTX_STAT_PATH_LOST = 0 →
        ∃ u, exec (.pathLost c) s = .next u ∧ u.ctxGet c FLOW.CTX_STAT_PATH_LOST = 1 ∧ u.evt (ctxPage c) 2 = true ∧
          u.now = max s.now (x.deliverAt + cyclesMs (s.get (Pg.flow 0) FLOW.PATH_CFG_LOSS_MS)) ∧
          (x.paired = true → u.condition Src.pathLoss (x.home c) = true)) ∧
      (∀ t, x.upSince = some t → s.ctxGet c FLOW.CTX_STAT_PATH_LOST = 1 → s.linkUp x.port = true →
        ∃ u, exec (.pathUp c) s = .next u ∧ u.ctxGet c FLOW.CTX_STAT_PATH_LOST = 0 ∧ u.evt (ctxPage c) 3 = true ∧
          u.now = max s.now (t + cyclesMs 100))) ∧
    (∀ n x, n < 16 → s.takes m (Pg.flow n) → s.get (Pg.flow n) FLOW.CTX_SEL_CTX < 32 →
      s.ctx (32 * n + s.get (Pg.flow n) FLOW.CTX_SEL_CTX) = some x → x.pathB = false → x.desc.group = none →
      let c := 32 * n + s.get (Pg.flow n) FLOW.CTX_SEL_CTX
      let delay := v.toNat % 65536
      (delayOk (s.ctxS x) (s.ctxHz x) delay = true →
        ∃ u, exec (.ctxDelayWrite m n v) s = .next u ∧ Wrote (Pg.flow n) s u ∧
          u.ctx c = some { x with delayNext := some (delay, 2) } ∧ Kept [.resp, .ctrl, .flow] (fields []) noByte s u) ∧
      (delayOk (s.ctxS x) (s.ctxHz x) delay = false →
        ∃ u, exec (.ctxDelayWrite m n v) s = .next u ∧ Wrote (Pg.flow n) s u ∧ u.evt (Pg.flow n) 12 = true ∧
          Kept [.resp, .ctrl, .msix] (fields [fkey (Pg.flow n) PG.EVT 0]) noByte s u)) ∧
    (s.takes m (Pg.flow 0) → s.flag (Pg.flow 0) FLOW.GRP_CFG_IN_USE (s.get (Pg.flow 0) FLOW.GRP_SEL_GROUP) = true →
      let g := s.get (Pg.flow 0) FLOW.GRP_SEL_GROUP
      let delay := v.toNat % 65536
      let bad := s.flow.ctxs.any fun e => e.1 < 512 && e.2.desc.group == some g &&
        !delayOk (s.ctxS e.2) (s.ctxHz e.2) delay
      (bad = false → ∃ u, exec (.grpDelayWrite m v) s = .next u ∧ Wrote (Pg.flow 0) s u ∧
        u.flow = { s.flow with grpNext := nset s.flow.grpNext g (delay, 2) } ∧
        Kept [.resp, .ctrl, .flow] (fields []) noByte s u) ∧
      (bad = true → ∃ u, exec (.grpDelayWrite m v) s = .next u ∧ Wrote (Pg.flow 0) s u ∧ u.evt (Pg.flow 0) 12 = true ∧
        u.flow = s.flow))

/-- The serial audio ports (R384 to R389). -/
def Obligations.SerialPorts : Prop :=
  ∀ (s : State) (n : Nat), n < 16 → s.present (Pg.sap n) = true → s.domActive (s.sapDom n) = true →
    let p := Pg.sap n
    let st := s.sapState n
    let live := st = Ss.wait ∨ st = Ss.run ∨ st = Ss.slip
    (∀ (bclks : Nat) (wsOk : Bool) (slots : List Word), live → s.sapLead n = false →
      let r := s.catchUp n
      (r.sap n).aligning = false →
      (bclks ≠ s.frameBits n ∨ wsOk = false →
        ∃ u, exec (.sapFrame n bclks wsOk slots) s = .next u ∧ u.sapState n = Ss.slip ∧ (u.sap n).aligning = true ∧
          u.get p SAP.WS_ERRS = min (r.get p SAP.WS_ERRS + 1) (2 ^ SAP.WS_ERRS.w - 1)) ∧
      (bclks = s.frameBits n → wsOk = true → s.sapElastic n = false → (r.sap n).taken < s.domB (s.sapDom n) →
        ∃ u, exec (.sapFrame n bclks wsOk slots) s = .next u ∧ (u.sap n).taken = (r.sap n).taken + 1 ∧
          (u.sap n).last = r.frameIn n slots)) ∧
    (live → s.sapLead n = false →
      ∃ u, exec (.clkLoss n) s = .next u ∧ u.sapState n = Ss.clkLoss ∧ u.flag p SAP.STAT_CLK_LOSS = true ∧
        u.evt p 1 = true ∧ u.condition Src.sapLoss n = true ∧ (u.sap n).aligning = true ∧
        u.get p SAP.CLK_LOSSES = min (s.get p SAP.CLK_LOSSES + 1) (2 ^ SAP.CLK_LOSSES.w - 1)) ∧
    (∀ ppm : Int, st = Ss.clkLoss → s.flag p SAP.STAT_RATE_ERR = false →
      (ppm.natAbs ≤ 1000 →
        ∃ u, exec (.clkBack n ppm) s = .next u ∧ u.sapState n = Ss.slip ∧ u.flag p SAP.STAT_CLK_LOSS = false ∧
          u.condition Src.sapLoss n = false ∧ u.evt p 2 = true) ∧
      (1000 < ppm.natAbs →
        ∃ u, exec (.clkBack n ppm) s = .next u ∧ u.flag p SAP.STAT_RATE_ERR = true ∧ u.evt p 3 = true ∧
          u.sapState n = Ss.clkLoss))

/-! ### The Stirrup loops (chapters 16 and 22) -/

/-- The Stirrup loops (R395 to R409, R480, R489). -/
def Obligations.Loops : Prop :=
  ∀ (s : State) (m : Master) (n : Nat), n < 16 → s.hasLoop n = true → s.loopGroup n = [n] → s.loopPair n = [n] →
    s.governor n = n →
    let p := Pg.stirrup n
    let l := s.loop n
    let counted := fun (u : State) (f : Fld) => u.get p f = min (s.get p f + 1) (2 ^ f.w - 1)
    let within := fun (u : State) =>
      Kept (.clock :: .time :: .resp :: .ctrl :: .fabric :: reacting) (fun k => k.p = p ∨ reaction k) noByte s u
    let only := fun (u : State) => (∀ j, j ≠ n → u.loop j = s.loop j) ∧
      Kept [.clock, .time, .free, .resp, .ctrl, .msix, .fabric, .loops] (fun k => k.p = p) noByte s u
    let started := fun (u : State) (st : Nat) =>
      (∀ fT, s.carrierFor n = some fT → u.loopState n = st ∧ u.get p STIRRUP.CARRIER_FC_TARGET = fT % 2 ^ STIRRUP.CARRIER_FC_TARGET.w ∧
        (u.loop n).startAt = u.now ∧ (u.loop n).comp = s.compWord n ∧ (u.loop n).avoid = l.tableInForce) ∧
      (s.carrierFor n = none → u.loopState n = Loop.off ∧ u.evt p 4 = true)
    (∀ (drv : Bool) (ipeak : BitVec 16), s.switching n = true → drv = true ∨ 256 * s.get p STIRRUP.PROT_OC_LIMIT ≤ ipeak.toNat →
      ((recentTrips s.now l.trips).length < 3 →
        ∃ u, exec (.trip n drv ipeak) s = .next u ∧ u.switching n = false ∧ (u.loop n).hiccup = true ∧
          (u.loop n).tripAt = s.now ∧ counted u STIRRUP.TRIPS ∧ u.evt p 0 = true ∧ u.condition Src.stirOc n = true ∧
          u.get p STIRRUP.MEAS_I_PEAK = max (s.get p STIRRUP.MEAS_I_PEAK) ipeak.toNat ∧ within u) ∧
      (3 ≤ (recentTrips s.now l.trips).length →
        ∃ u, exec (.trip n drv ipeak) s = .next u ∧ u.loopState n = Loop.latched ∧ u.get p STIRRUP.STAT_LATCH_CAUSE = 1 ∧
          (u.loop n).hiccup = false ∧ counted u STIRRUP.TRIPS ∧ u.evt p 1 = true ∧ u.condition Src.stirOc n = true ∧ within u)) ∧
    (∀ ipeak : BitVec 16, ipeak.toNat < 256 * s.get p STIRRUP.PROT_OC_LIMIT → exec (.trip n false ipeak) s = .next s) ∧
    (∀ ipeak : BitVec 16, s.switching n = false →
      ∃ u, exec (.trip n true ipeak) s = .next u ∧ (u.loop n).drvLow = true ∧ u.flag p STIRRUP.STAT_DRV_FLT = true ∧
        u.loopState n = s.loopState n ∧ only u) ∧
    (l.hiccup = true → s.loopState n = Loop.hiccup →
      ∃ u, exec (.hiccupEnd n) s = .next u ∧ u.now = max s.now (l.tripAt + 50000000) ∧ (u.loop n).hiccup = false ∧ only u ∧
        (s.flag p PG.CTRL_EN = false → u.loopState n = Loop.off) ∧
        (s.flag p PG.CTRL_EN = true → l.drvLow = false → started u Loop.softStart)) ∧
    (s.loopState n = Loop.softStart →
      ∃ u, exec (.softStartEnd n) s = .next u ∧ u.loopState n = Loop.run ∧ u.now = max s.now (l.startAt + 12500000) ∧
        Kept [.clock, .time] (fields [fkey p STIRRUP.STAT_STATE 0]) noByte s u) ∧
    (s.condition Src.stirOc n = true → s.anyLatched 1 = false →
      ∃ u, exec .stirrupOcClear s = .next u ∧ (∀ k, u.condition Src.stirOc k = false) ∧ s.now ≤ u.now ∧
        l.tripAt + 625000000 ≤ u.now ∧ Kept [.clock, .time, .cinch] (fun k => k.p = Pg.cinch) noByte s u) ∧
    (s.loopState n ≠ Loop.latched →
      ∃ u, exec (.dcLatch n) s = .next u ∧ u.loopState n = Loop.latched ∧ u.get p STIRRUP.STAT_LATCH_CAUSE = 2 ∧
        counted u STIRRUP.LATCHES ∧ u.evt p 1 = true ∧ u.condition Src.stirDc n = true ∧ within u) ∧
    (s.switching n = true →
      ∃ u, exec (.oscLatch n) s = .next u ∧ u.loopState n = Loop.latched ∧ u.get p STIRRUP.STAT_LATCH_CAUSE = 3 ∧
        counted u STIRRUP.LATCHES ∧ u.evt p 1 = true ∧ u.condition Src.stirOsc n = true ∧ within u) ∧
    (s.takes m p →
      (s.loopState n = Loop.latched → s.safe = false → s.flag p PG.CTRL_EN = false →
        ∃ u, exec (.latchClr m n) s = .next u ∧ Wrote p s u ∧ u.loopState n = Loop.off ∧ u.get p STIRRUP.STAT_LATCH_CAUSE = 0 ∧
          u.loop n = { l with trips := [] } ∧ u.condition Src.stirDc n = false ∧ u.condition Src.stirOsc n = false ∧ within u) ∧
      (s.loopState n = Loop.latched → s.safe = false → s.flag p PG.CTRL_EN = true → l.drvLow = false →
        ∃ u, exec (.latchClr m n) s = .next u ∧ Wrote p s u ∧ started u Loop.softStart ∧ (u.loop n).trips = [] ∧ within u) ∧
      (let req := s.get p STIRRUP.CARRIER_FC_REQ
        let table := s.shadowTable n
        let move := fun f => (s.carrierNow n, s.now + 6250 * carrierMiss f (s.carrierNow n))
        let choice := chooseCarrier ((if s.switching n then l.comp else s.compWord n).getLsbD 31) table req
        (choice = none →
          ∃ u, exec (.avoidApply m n) s = .next u ∧ Wrote p s u ∧ u.evt p 4 = true ∧
            Kept [.resp, .ctrl, .msix] (fields [fkey p PG.EVT 0]) noByte s u) ∧
        (∀ f, choice = some f → f = s.get p STIRRUP.CARRIER_FC_TARGET →
          ∃ u, exec (.avoidApply m n) s = .next u ∧ Wrote p s u ∧ u.loop n = { l with avoid := table, fcReq := req, pend := none } ∧
            Kept [.resp, .ctrl, .loops] (fields [fkey p STIRRUP.STAT_AVOID_PEND 0]) noByte s u) ∧
        (∀ f, choice = some f → f ≠ s.get p STIRRUP.CARRIER_FC_TARGET →
          (s.flag p STIRRUP.CTRL_AVOID_NOW && s.switching n) = true →
          ∃ u, exec (.avoidApply m n) s = .next u ∧ Wrote p s u ∧
            u.loop n = { l with avoid := table, fcReq := req, pend := none, moving := some (move f) } ∧ counted u STIRRUP.AVOID_MOVES ∧
            u.get p STIRRUP.CARRIER_FC_TARGET = f % 2 ^ STIRRUP.CARRIER_FC_TARGET.w ∧ only u) ∧
        (∀ f, choice = some f → f ≠ s.get p STIRRUP.CARRIER_FC_TARGET →
          (s.flag p STIRRUP.CTRL_AVOID_NOW && s.switching n) = false →
          ∃ u, exec (.avoidApply m n) s = .next u ∧ Wrote p s u ∧ u.loop n = { l with pend := some ⟨table, req, f⟩ } ∧
            u.flag p STIRRUP.STAT_AVOID_PEND = true ∧ only u)) ∧
      (∃ u, exec (.baselineCap m n) s = .next u ∧ Wrote p s u ∧
        (∀ b, b < 10 → u.flag p STIRRUP.LOAD_BASE_VALID b = s.flag p STIRRUP.LOAD_Z_VALID b ∧
          (s.flag p STIRRUP.LOAD_Z_VALID b = true → u.get p STIRRUP.LOAD_BASE_MAG b = s.get p STIRRUP.LOAD_Z_MAG b) ∧
          (s.flag p STIRRUP.LOAD_Z_VALID b = false → u.get p STIRRUP.LOAD_BASE_MAG b = s.get p STIRRUP.LOAD_BASE_MAG b)) ∧
        Kept [.resp, .ctrl] (fun k => k.p = p) noByte s u)) ∧
    (s.switching n = false → exec (.avoidMoved n) s = .next s) ∧
    (∀ from_ due, l.moving = some (from_, due) → s.switching n = true →
      ∃ u, exec (.avoidMoved n) s = .next u ∧ u.now = max s.now due ∧ u.loop n = { l with moving := none } ∧ u.evt p 3 = true ∧ only u) ∧
    (∃ u, exec (.loadUpdate n []) s = .next u ∧
      (u.loop n).opened = l.opened.tick ((s.zMin n).any fun z => 100 * s.get p STIRRUP.LOAD_CFG_OPEN_OHM < z) 2 ∧
      (u.loop n).shorted = l.shorted.tick ((s.zMin n).any fun z => z < 10 * s.get p STIRRUP.LOAD_CFG_SHORT_DOHM) 2 ∧
      (u.loop n).drift = l.drift.tick (s.drifted n) 10 ∧
      (l.opened.held = false → (u.loop n).opened.held = true → u.evt p 7 = true) ∧
      (l.shorted.held = false → (u.loop n).shorted.held = true → u.evt p 8 = true) ∧
      (l.drift.held = false → (u.loop n).drift.held = true → u.evt p 9 = true) ∧
      u.condition Src.stirLoad n = ((u.loop n).opened.held || (u.loop n).shorted.held || (u.loop n).drift.held) ∧ within u) ∧
    (∀ b : LoadBand, b.band < 10 →
      ∃ u, exec (.loadUpdate n [b]) s = .next u ∧
        u.flag p STIRRUP.LOAD_Z_VALID b.band =
          decide (2 ≤ (((b.loud :: nget [] l.loud b.band).take 10).filter id).length) ∧
        u.get p STIRRUP.LOAD_Z_MAG b.band =
          (if b.loud then b.mag.toNat % 2 ^ STIRRUP.LOAD_Z_MAG.w else s.get p STIRRUP.LOAD_Z_MAG b.band)) ∧
    (∀ t, s.loopState n = Loop.run → s.watchesSilence n = true → l.silentAt = some t →
      ∃ u, exec (.stirrupSleep n) s = .next u ∧ u.loopState n = Loop.sleep ∧ u.evt p 5 = true ∧ u.loop n = l ∧
        u.now = max s.now (t + 625000000 * s.get p STIRRUP.PROT_PD_HOLD) ∧ only u) ∧
    (s.inputLoud n = false → exec (.stirrupWake n) s = .next s) ∧
    (s.loopState n = Loop.sleep → l.hiccup = false → s.inputLoud n = true →
      ∃ u, exec (.stirrupWake n) s = .next u ∧ started u Loop.wake ∧ (s.carrierFor n ≠ none → counted u STIRRUP.WAKES) ∧ only u) ∧
    (s.loopState n = Loop.wake →
      ∃ u, exec (.wakeSettled n) s = .next u ∧ u.loopState n = Loop.run ∧ u.evt p 6 = true ∧
        u.now = max s.now (l.startAt + 312500) ∧
        Kept [.clock, .time, .msix] (fields [fkey p STIRRUP.STAT_STATE 0, fkey p PG.EVT 0]) noByte s u) ∧
    (s.fabric.startLoops = [] ∨ s.loopsMayStart = false → exec .stirrupStartTimer s = .next s) ∧
    (∀ ns, s.fabric.startLoops = n :: ns → s.loopsMayStart = true → s.loopState n = Loop.off → l.drvLow = false →
      ∃ u, exec .stirrupStartTimer s = .next u ∧ u.flag p PG.CTRL_EN = true ∧ started u Loop.softStart ∧
        u.now = max s.now s.fabric.loopsAt ∧
        u.fabric = { s.fabric with startLoops := ns.filter (· ≠ n), loopsAt := u.now + 3125000 } ∧ only u) ∧
    (∀ gr : Byte, s.switching n = true → s.flag p STIRRUP.STAT_LIMITING = false →
      ∃ u, exec (.depthLimit n gr) s = .next u ∧ u.flag p STIRRUP.STAT_LIMITING = true ∧
        u.get p STIRRUP.MEAS_GR = gr.toNat % 2 ^ STIRRUP.MEAS_GR.w ∧ counted u STIRRUP.DEPTH_LIMITS ∧ u.evt p 2 = true ∧
        u.loop n = { l with limitAt := s.now, limitGr := gr.toNat } ∧ only u) ∧
    (l.drvLow = true → s.flag p PG.CTRL_EN = false →
      ∃ u, exec (.drvFltNRelease n) s = .next u ∧ u.loop n = { l with drvLow := false } ∧
        Kept [.loops] (fields [fkey p STIRRUP.STAT_DRV_FLT 0]) noByte s u ∧ u.flag p STIRRUP.STAT_DRV_FLT = false) ∧
    (∃ u, exec .supplyMonitorTrip s = .next u ∧ u.gatesLive n = false ∧ u.ctrl = { s.ctrl with supplyCut := true } ∧
      Kept [.ctrl] (fields []) noByte s u)

/-! ### The Keeper (chapter 18) -/

/-- The Keeper (R433 to R448). -/
def Obligations.KeeperPair : Prop :=
  ∀ (s : State) (m : Master) (v : Word),
    let p := Pg.keeper
    let k := s.keeper
    let counted := fun (u : State) (f : Fld) => u.get p f = min (s.get p f + 1) (2 ^ f.w - 1)
    let epoch := BitVec.ofNat 32 (s.get p KEEPER.CKPT_EPOCH_EPOCH + 1)
    (∀ b pin : Bool,
      (s.flag p (feedLost b) = false → s.flag p (feedLost !b) = true →
        ∃ u, exec (.feedLoss b pin) s = .next u ∧ UnitsReset u ∧ u.ctrl.resetN = false ∧ u.fwState = Fw.rom) ∧
      (s.flag p (feedLost b) = false → s.flag p (feedLost !b) = false →
        ∃ u, exec (.feedLoss b pin) s = .next u ∧ u.flag p (feedLost b) = true ∧ u.evt p 0 = true ∧
          u.condition (feedSrc b) 0 = true ∧ (pin = true → u.flag p (feedOk b) = false) ∧
          (k.feedA ≠ b → u.keeper.feedA = b ∧ counted u KEEPER.FEED_SWITCHES) ∧
          Kept (.keeper :: reacting) (fun x => x.p = p ∨ reaction x) noByte s u) ∧
      (s.flag p (feedLost b) = true →
        ∃ u, exec (.feedRecover b) s = .next u ∧ u.flag p (feedLost b) = false ∧ u.flag p (feedOk b) = true ∧
          u.condition (feedSrc b) 0 = false ∧
          (k.feedA = b → s.flag p (feedLost !b) = true → u.keeper.feedA = !b ∧ counted u KEEPER.FEED_SWITCHES) ∧
          Kept [.keeper, .cinch, .life] (fun x => x.p = p ∨ x.p = Pg.cinch) noByte s u)) ∧
    (k.warnHigh = true →
      ∃ u, exec .powerWarn s = .next u ∧ u.keeper.warnHigh = false ∧ u.evt p 1 = true ∧ u.condition Src.powerWarn 0 = true ∧
        (s.pairs = true → u.keeper.sent = [.ckptEnd epoch 0 false true]) ∧ (∀ a, u.byte a = s.byte a)) ∧
    (k.warnHigh = false →
      ∃ u, exec .powerWarnNRise s = .next u ∧ u.keeper = { k with warnHigh := true } ∧ u.condition Src.powerWarn 0 = false ∧
        Kept [.keeper, .cinch] (fun x => x.p = Pg.cinch) noByte s u) ∧
    (s.pairs = true →
      (∃ u, exec .heartbeatSend s = .next u ∧ u.now = max s.now (k.hbSentAt + 625000) ∧
        u.keeper = { k with
          sent := [.heartbeat k.txSeq (BitVec.ofNat 4 s.pairState) (BitVec.ofNat 32 (s.get p KEEPER.CKPT_EPOCH_EPOCH))
            u.time.c0.linear k.hbStamp k.hbRx (!s.fwRunning) k.nack]
          txSeq := k.txSeq + 1, hbSentAt := u.now, nack := false } ∧
        (k.lastSeq = none ∨ k.hbAt < k.hbSentAt → counted u KEEPER.HB_MISSED) ∧
        Kept [.clock, .time, .keeper] (fields [fkey p KEEPER.HB_MISSED 0]) noByte s u) ∧
      (∀ h : Heartbeat,
        (h.good = false → ∃ u, exec (.heartbeat h) s = .next u ∧ counted u KEEPER.FRAME_ERR ∧
          Kept [] (fields [fkey p KEEPER.FRAME_ERR 0]) noByte s u) ∧
        (h.good = true → k.lastSeq = some h.seq → exec (.heartbeat h) s = .next s) ∧
        (h.good = true → k.lastSeq ≠ some h.seq → s.pairState = Pair.active ∨ s.pairState = Pair.alone →
          ∃ u, exec (.heartbeat h) s = .next u ∧ u.pairState = Pair.active ∧ u.keeper.lastSeq = some h.seq ∧
            u.keeper.partner = h.pairState ∧ u.keeper.hbAt = s.now ∧ u.keeper.lost = false ∧
            u.flag p KEEPER.STAT_PARTNER_ALIVE = true ∧ u.flag p KEEPER.STAT_FW_RESTART = h.fwRestart ∧
            Kept [.keeper, .msix, .cinch] (fun x => x.p = p ∨ x.p = Pg.cinch) noByte s u) ∧
        (h.good = true → k.lastSeq ≠ some h.seq → s.pairState = Pair.seeking → h.pairState.toNat = Pair.active →
          s.secondary = true →
          ∃ u, exec (.heartbeat h) s = .next u ∧ u.pairState = Pair.standby ∧ u.fabric.running = none))) ∧
    (s.pairing = true → s.actIn = false → s.actOut = false ∨ s.secondary = false →
      ∃ u, exec .pairActInRise s = .next u ∧ u.actIn = true ∧ Kept [] (fields [fkey p KEEPER.STAT_ACT_IN 0]) noByte s u) ∧
    (s.pairing = true → s.actIn = true →
      (s.pairState ≠ Pair.isolated →
        ∃ u, exec .pairActInFall s = .next u ∧ u.actIn = false ∧ u.keeper = { k with actLowAt := s.now } ∧
          Kept [.keeper] (fields [fkey p KEEPER.STAT_ACT_IN 0]) noByte s u) ∧
      (s.pairs = true → s.pairState = Pair.isolated → k.isoSeek = false → k.lost = true →
        ∃ u, exec .pairActInFall s = .next u ∧ u.actIn = false ∧ u.pairState = Pair.takingOver)) ∧
    (s.mayDrive = true → s.actIn = false → s.actOut = false → k.armed = none →
      ∃ u, exec .pairActOutRaise s = .next u ∧ u.actOut = true ∧ u.now = max s.now (k.actLowAt + 62500) ∧
        Kept [.clock, .time] (fields [fkey p KEEPER.STAT_ACT_OUT 0]) noByte s u) ∧
    (s.pairs = true → s.pairState = Pair.seeking → k.heard = false → s.actOut = false →
      ∃ u, exec .seekingTimeout s = .next u ∧ (s.secondary = true → u.now = max s.now (k.stateAt + 3125000000)) ∧
        (s.actIn = true → u.pairState = Pair.isolated ∧ u.keeper.isoSeek = true) ∧
        (s.actIn = false → u.pairState = Pair.active) ∧
        Kept [.clock, .time, .keeper] (fields [fkey p KEEPER.STAT_PAIR_STATE 0, fkey p KEEPER.STAT_PARTNER_ALIVE 0]) noByte s u) ∧
    (s.pairs = true → s.pairState = Pair.active → s.fwRunning = true →
      let w := s.reach (k.epochSentAt + cyclesMs 50)
      let recs := if k.fullNext then w.ckptState else ckptDiff k.base w.ckptState
      ∃ u, exec .checkpointEpoch s = .next u ∧ u.now = max s.now (k.epochSentAt + 31250000) ∧
        u.get p KEEPER.CKPT_EPOCH_EPOCH = epoch.toNat ∧
        u.keeper.sent = [.ckptData epoch recs, .ckptEnd epoch recs.length k.fullNext false] ∧
        u.keeper.base = w.ckptState ∧ u.keeper.fullNext = false ∧
        Kept [.clock, .time, .keeper] (fields [fkey p KEEPER.CKPT_EPOCH_EPOCH 0]) noByte s u) ∧
    (∀ tag : BitVec 8, s.serves → s.pairing = true →
      (s.longRuns Op.ckptNow = true → ∃ u, exec (.ckptNow tag) s = .next u ∧ Replied Op.ckptNow tag St.busy [] u ∧
        Kept [.resp, .ctrl, .msix] (fields replyFields) noByte s u) ∧
      (s.longRuns Op.ckptNow = false → s.pairs = true → s.pairState = Pair.active →
        ∃ u, exec (.ckptNow tag) s = .next u ∧ Accepted Op.ckptNow tag p s u ∧
          Kept [.resp, .ctrl, .msix] (fields (replyFields ++ progressFields p)) noByte s u)) ∧
    (∀ l : LongCmd, (s.ctrl.long.find? fun l => l.op == BitVec.ofNat 8 Op.ckptNow) = some l →
      ∃ u, exec .ckptNowDone s = .next u ∧ Finished Op.ckptNow l.tag p St.ok s u ∧
        u.get p KEEPER.CKPT_EPOCH_EPOCH = epoch.toNat ∧
        u.keeper.sent = [.ckptData epoch s.ckptState, .ckptEnd epoch s.ckptState.length true false]) ∧
    (s.follows = true →
      (∀ f : CkptData, f.good = false → ∃ u, exec (.ckptData f) s = .next u ∧ counted u KEEPER.FRAME_ERR ∧
        Kept [.keeper] (fields [fkey p KEEPER.FRAME_ERR 0]) noByte s u) ∧
      (∀ f : CkptData, f.good = true → k.rx = none →
        ∃ u, exec (.ckptData f) s = .next u ∧ u.keeper.rx = some (f.epoch, f.recs, f.writeOk && f.fits) ∧
          (k.newest (s.get p KEEPER.CKPT_EPOCH_EPOCH) = some false → u.keeper.copyY = ⟨false, f.epoch, f.recs⟩ ∧
            u.keeper.copyX = k.copyX) ∧
          (k.newest (s.get p KEEPER.CKPT_EPOCH_EPOCH) ≠ some false → u.keeper.copyX = ⟨false, f.epoch, f.recs⟩ ∧
            u.keeper.copyY = k.copyY) ∧ Kept [.keeper] (fields []) noByte s u) ∧
      (∀ f : CkptEnd, f.good = true → f.final = false → s.epochRecs f = none →
        ∃ u, exec (.ckptEnd f) s = .next u ∧ counted u KEEPER.CKPT_DISCARDS ∧ u.evt p 8 = true ∧ u.keeper.rx = none ∧
          u.keeper.nack = true ∧
          Kept [.keeper, .msix] (fields [fkey p KEEPER.CKPT_DISCARDS 0, fkey p PG.EVT 0]) noByte s u) ∧
      (∀ (f : CkptEnd) (recs : List CkptRec), f.good = true → f.final = false → s.epochRecs f = some recs →
        s.pairState = Pair.standby → f.full = true →
        ∃ u, exec (.ckptEnd f) s = .next u ∧ u.get p KEEPER.CKPT_EPOCH_EPOCH = f.epoch.toNat ∧
          (u.keeper.copyX = ⟨true, f.epoch, recs⟩ ∨ u.keeper.copyY = ⟨true, f.epoch, recs⟩) ∧ u.keeper.rx = none ∧
          Kept [.keeper] (fields [fkey p KEEPER.CKPT_EPOCH_EPOCH 0]) noByte s u)) ∧
    (k.lastSeq.isSome = true → k.lost = false →
      (s.pairs = true → s.pairState = Pair.active →
        ∃ u, exec .pairLost s = .next u ∧ u.keeper.lost = true ∧ u.pairState = Pair.active ∧ u.evt p 3 = true ∧
          u.condition Src.pairLoss 0 = true ∧ u.now = max s.now (k.hbAt + 1875000)) ∧
      (s.follows = true → s.actOut = false →
        ∃ u, exec .pairLost s = .next u ∧ u.keeper.lost = true ∧ u.evt p 3 = true ∧ u.condition Src.pairLoss 0 = true ∧
          u.pairState = if s.actIn then Pair.isolated else Pair.takingOver)) ∧
    (s.pairState = Pair.takingOver → s.fwRunning = true →
      (s.fabric.running.isSome = true → s.pairs = true →
        ∃ u, exec (.takeoverDone true) s = .next u ∧
          u.pairState = (if (k.lost || !k.heard) = true then Pair.alone else Pair.active) ∧ u.keeper.warmAt = none ∧
          counted u KEEPER.FAILOVERS ∧ u.evt p 4 = true ∧
          Kept [.keeper, .msix, .life] (fun x => x.p = p) noByte s u) ∧
      (s.fabric.running = none → s.takeoverAdmits = false →
        ∃ u, exec (.takeoverDone false) s = .next u ∧ u.evt p 5 = true ∧ Kept [.msix] (fields [fkey p PG.EVT 0]) noByte s u)) ∧
    (∀ t, k.warmAt = some t → s.pairState = Pair.warming → s.actOut = false →
      ∃ u, exec .warmingEnd s = .next u ∧ u.pairState = Pair.holdoff ∧ u.now = max s.now (t + 625000000) ∧
        u.keeper = { k with stateAt := u.now, heard := false } ∧
        Kept [.clock, .time, .keeper] (fields [fkey p KEEPER.STAT_PAIR_STATE 0]) noByte s u) ∧
    (s.proposes = true →
      let proposed := fun (o : Outcome) (due : Nat) =>
        let w := s.reach due
        let t := w.handoverTime
        ∃ u, o = .next u ∧ u.now = max s.now due ∧ u.keeper = { k with
            sent := [.propose (t / 1000000000) (t % 1000000000)], txSeq := k.txSeq + 1
            proposed := some (t / 1000000000, t % 1000000000), proposedAt := u.now } ∧
          Kept [.clock, .time, .keeper] (fields []) noByte s u
      (k.retries = 0 → proposed (exec .holdoffEnd s) (k.stateAt + 625000000 * s.get p KEEPER.CFG_HOLDOFF_S)) ∧
      (0 < k.retries → proposed (exec .handoverRetry s) (k.proposedAt + 625000000))) ∧
    (s.takes m p →
      ∃ u, exec (.handoverReq m) s = .next u ∧ Wrote p s u ∧
        u.keeper = (if s.pairs = true ∧ s.pairState = Pair.active then { k with requested := true } else k) ∧
        Kept [.resp, .ctrl, .keeper] (fields []) noByte s u) ∧
    (∀ sec ns i : Nat, s.pairs = true → s.pairState = Pair.active → k.armed = none → s.freeEntry = some i → ns < 1000000000 →
      s.nanos0 < sec * 1000000000 + ns →
      ∃ u, exec (.handoverPropose sec ns) s = .next u ∧
        u.mix = { s.mix with commits := nset s.mix.commits i ⟨4, 0, sec, ns, false, [], [], [], false⟩ } ∧
        u.keeper.armed = some ⟨sec * 1000000000 + ns, false, false⟩ ∧
        u.keeper.sent = [.ack sec ns 0 (s.handoverSeqs ⟨sec * 1000000000 + ns, false, false⟩)] ∧
        Kept [.keeper, .mix] (fields []) noByte s u) ∧
    (∀ sec ns : Nat, s.pairs = true → s.pairState ≠ Pair.active →
      ∃ u, exec (.handoverPropose sec ns) s = .next u ∧ u.keeper = { k with sent := [.ack sec ns 8 []], txSeq := k.txSeq + 1 } ∧
        Kept [.keeper] (fields []) noByte s u) ∧
    (∀ (sec ns : Nat) (result : Byte) (seqs : List (Nat × BitVec 16)), s.pairState = Pair.holdoff → k.proposed = some (sec, ns) →
      let failed := fun (o : Outcome) =>
        (k.retries < 3 → ∃ u, o = .next u ∧
          u.keeper = { k with proposed := none, proposedAt := u.now, retries := k.retries + 1 } ∧
          Kept [.clock, .time, .keeper] (fields []) noByte s u) ∧
        (3 ≤ k.retries → ∃ u, o = .next u ∧ u.keeper = { k with proposed := none, retries := 0, stateAt := u.now } ∧
          u.evt p 7 = true ∧ Kept [.clock, .time, .keeper, .msix] (fields [fkey p PG.EVT 0]) noByte s u)
      (s.pairs = true → result ≠ 0 → failed (exec (.handoverAck sec ns result seqs) s)) ∧
      failed (exec .handoverAckTimeout s) ∧
      (∀ i, s.pairs = true → s.freeEntry = some i →
        ∃ u, exec (.handoverAck sec ns 0 seqs) s = .next u ∧
          u.mix = { s.mix with commits := nset s.mix.commits i ⟨4, 1, sec, ns, false, [], [], [], false⟩ } ∧
          u.keeper = { k with armed := some ⟨sec * 1000000000 + ns, true, false⟩, proposed := none, retries := 0, seqs := seqs } ∧
          Kept [.keeper, .mix] (fields []) noByte s u)) ∧
    (∀ h : Handover, k.armed = some h → h.incoming = true → h.passed = true → s.actOut = false →
      ∃ u, exec .handoverFail s = .next u ∧ u.keeper = { k with armed := none, seqs := [] } ∧ u.evt p 7 = true ∧
        u.now = (s.untilTime0 (h.at_ + 1000000)).now ∧ (∀ a, u.byte a = s.byte a)) ∧
    (s.takes m p →
      (s.locked p = true → ∃ u, exec (.keeperCfgWrite m v) s = .next u ∧ Wrote p s u ∧ Kept [.resp, .ctrl] (fields []) noByte s u) ∧
      (s.locked p = false → s.pairState ≠ Pair.alone → s.pairState ≠ Pair.seeking → s.pairState ≠ Pair.standby →
        ∃ u, exec (.keeperCfgWrite m v) s = .next u ∧ Wrote p s u ∧ u.evt p 9 = true ∧
          Kept [.resp, .ctrl, .msix] (fields [fkey p PG.EVT 0]) noByte s u) ∧
      (s.locked p = false → s.pairState = Pair.alone ∨ s.pairState = Pair.seeking ∨ s.pairState = Pair.standby →
        s.pairEnabled = decide (KEEPER.CFG_PAIR_EN.of v = 1) →
        ∃ u, exec (.keeperCfgWrite m v) s = .next u ∧ Wrote p s u ∧ u.get p KEEPER.CFG_REVERT = KEEPER.CFG_REVERT.of v ∧
          u.get p KEEPER.CFG_ROLE = KEEPER.CFG_ROLE.of v ∧
          u.get p KEEPER.CFG_HOLDOFF_S =
            (if 5 ≤ KEEPER.CFG_HOLDOFF_S.of v ∧ KEEPER.CFG_HOLDOFF_S.of v ≤ 3600 then KEEPER.CFG_HOLDOFF_S.of v
              else s.get p KEEPER.CFG_HOLDOFF_S) ∧
          Kept [.resp, .ctrl] (fields [fkey p KEEPER.CFG_HOLDOFF_S 0, fkey p KEEPER.CFG_REVERT 0, fkey p KEEPER.CFG_ROLE 0])
            noByte s u) ∧
      (s.locked p = false → s.pairState = Pair.alone → s.pairing = true → s.pairEnabled = false → s.actOut = false →
        KEEPER.CFG_PAIR_EN.of v = 1 → s.fabric.running = none →
        ∃ u, exec (.keeperCfgWrite m v) s = .next u ∧ Wrote p s u ∧ u.pairEnabled = true ∧ u.pairState = Pair.seeking ∧
          u.keeper.fullNext = true))
end

