-- ==== Sys2Proof/Laws/Exec.lean ====
section
/-!
SUPPORT. Each command's arm of exec, as an equation.
-/

namespace Sys2Proof.Machine

theorem exec_powerOnReset (b : BootView) (s : State) : exec (.powerOnReset b) s = execPowerOnReset b s := rfl
theorem exec_resetNFall (s : State) : exec (.resetNFall) s = execResetNFall s := rfl
theorem exec_resetNRelease (mode : BitVec 2) (b : BootView) (s : State) : exec (.resetNRelease mode b) s = execResetNRelease mode b s := rfl
theorem exec_bringupStageEnd (v : StageView) (s : State) : exec (.bringupStageEnd v) s = execBringupStageEnd v s := rfl
theorem exec_fwUpdateBootTimeout (b : BootView) (s : State) : exec (.fwUpdateBootTimeout b) s = execFwUpdateBootTimeout b s := rfl
theorem exec_wdogKick (m : Master) (v : Word) (s : State) : exec (.wdogKick m v) s = execWdogKick m v s := rfl
theorem exec_watchdogExpiry (s : State) : exec (.watchdogExpiry) s = execWatchdogExpiry s := rfl
theorem exec_restarted (b : BootView) (s : State) : exec (.restarted b) s = execRestarted b s := rfl
theorem exec_softReset (m : Master) (b : BootView) (s : State) : exec (.softReset m b) s = execSoftReset m b s := rfl
theorem exec_absentPageAccess (m : Master) (write : Bool) (off : Nat) (s : State) : exec (.absentPageAccess m write off) s = execAbsentPageAccess m write off s := rfl
theorem exec_loRead (m : Master) (off : Nat) (s : State) : exec (.loRead m off wide) s = execLoRead m off s wide := rfl
theorem exec_badAccess (write : Bool) (off size : Nat) (s : State) : exec (.badAccess write off size) s = execBadAccess write off size s := rfl
theorem exec_nonBarRequest (write : Bool) (addr : Nat) (s : State) : exec (.nonBarRequest write addr) s = execNonBarRequest write addr s := rfl
theorem exec_bar2Access (write : Bool) (off len : Nat) (data : List Byte) (strobes : List Bool) (s : State) : exec (.bar2Access write off len data strobes) s = execBar2Access write off len data strobes s := rfl
theorem exec_winBaseHiWrite (m : Master) (v : Word) (s : State) : exec (.winBaseHiWrite m v) s = execWinBaseHiWrite m v s := rfl
theorem exec_pgEvtWrite (m : Master) (p : Nat) (en : Bool) (v : Word) (s : State) : exec (.pgEvtWrite m p en v) s = execPgEvtWrite m p en v s := rfl
theorem exec_pgEvtForce (m : Master) (p : Nat) (v : Word) (s : State) : exec (.pgEvtForce m p v) s = execPgEvtForce m p v s := rfl
theorem exec_msixUnmask (off : Nat) (write : Bool) (v : Word) (s : State) : exec (.msixUnmask off write v) s = execMsixUnmask off s write v := rfl
theorem exec_enSet (m : Master) (p : Nat) (s : State) : exec (.enSet m p) s = execEnSet m p s := rfl
theorem exec_drain (m : Master) (p : Nat) (s : State) : exec (.drain m p) s = execDrain m p s := rfl
theorem exec_kill (m : Master) (p : Nat) (s : State) : exec (.kill m p) s = execKill m p s := rfl
theorem exec_srst (m : Master) (p : Nat) (s : State) : exec (.srst m p) s = execSrst m p s := rfl
theorem exec_quiesced (p : Nat) (s : State) : exec (.quiesced p) s = execQuiesced p s := rfl
theorem exec_pgLockLock (m : Master) (p : Nat) (s : State) : exec (.pgLockLock m p) s = execPgLockLock m p s := rfl
theorem exec_pgLockUnlockKey (m : Master) (p : Nat) (v : Word) (s : State) : exec (.pgLockUnlockKey m p v) s = execPgLockUnlockKey m p v s := rfl
theorem exec_pgLifeDataRead (m : Master) (p : Nat) (s : State) : exec (.pgLifeDataRead m p) s = execPgLifeDataRead m p s := rfl
theorem exec_registerWrite (m : Master) (off : Nat) (v : Word) (s : State) : exec (.registerWrite m off v upper) s = execRegisterWrite m off v s upper := rfl
theorem exec_overrun (m : Master) (off : Nat) (v : Word) (s : State) : exec (.overrun m off v) s = execOverrun m off v s := rfl
theorem exec_badOpcode (op tag : BitVec 8) (s : State) : exec (.badOpcode op tag) s = execBadOpcode op tag s := rfl
theorem exec_planLoad (tag : BitVec 8) (addr len slot : Nat) (s : State) : exec (.planLoad tag addr len slot) s = execPlanLoad tag addr len slot s := rfl
theorem exec_planLoadDone (img : PlanImage) (s : State) : exec (.planLoadDone img) s = execPlanLoadDone img s := rfl
theorem exec_planAdmit (tag : BitVec 8) (slot : Nat) (s : State) : exec (.planAdmit tag slot) s = execPlanAdmit tag slot s := rfl
theorem exec_commitAtScene (tag : BitVec 8) (arg : Word) (sec ns : Nat) (s : State) : exec (.commitAtScene tag arg sec ns) s = execCommitAtScene tag arg sec ns s := rfl
theorem exec_commitAtPlanSwap (tag : BitVec 8) (arg : Word) (sec ns : Nat) (s : State) : exec (.commitAtPlanSwap tag arg sec ns) s = execCommitAtPlanSwap tag arg sec ns s := rfl
theorem exec_commitAtRefSwitch (tag : BitVec 8) (arg : Word) (sec ns : Nat) (s : State) : exec (.commitAtRefSwitch tag arg sec ns) s = execCommitAtRefSwitch tag arg sec ns s := rfl
theorem exec_commitAtHandover (tag : BitVec 8) (arg : Word) (sec ns : Nat) (s : State) : exec (.commitAtHandover tag arg sec ns) s = execCommitAtHandover tag arg sec ns s := rfl
theorem exec_sceneStage (tag : BitVec 8) (addr len : Nat) (s : State) : exec (.sceneStage tag addr len) s = execSceneStage tag addr len s := rfl
theorem exec_sceneStageDone (s : State) : exec (.sceneStageDone) s = execSceneStageDone s := rfl
theorem exec_flowAdd (tag : BitVec 8) (addr : Nat) (s : State) : exec (.flowAdd tag addr) s = execFlowAdd tag addr s := rfl
theorem exec_flowDel (tag : BitVec 8) (arg : Word) (s : State) : exec (.flowDel tag arg) s = execFlowDel tag arg s := rfl
theorem exec_ptpProfile (tag : BitVec 8) (code domain mask : Word) (s : State) : exec (.ptpProfile tag code domain mask) s = execPtpProfile tag code domain mask s := rfl
theorem exec_refDeclare (tag : BitVec 8) (index type quality rank : Word) (s : State) : exec (.refDeclare tag index type quality rank) s = execRefDeclare tag index type quality rank s := rfl
theorem exec_trainDram (tag : BitVec 8) (chan mask : Word) (s : State) : exec (.trainDram tag chan mask) s = execTrainDram tag chan mask s := rfl
theorem exec_trainDramDone (chan : Nat) (passed : BitVec 4) (s : State) : exec (.trainDramDone chan passed) s = execTrainDramDone chan passed s := rfl
theorem exec_ckptNow (tag : BitVec 8) (s : State) : exec (.ckptNow tag) s = execCkptNow tag s := rfl
theorem exec_ckptNowDone (s : State) : exec (.ckptNowDone) s = execCkptNowDone s := rfl
theorem exec_lifeDump (tag : BitVec 8) (addr limit : Nat) (s : State) : exec (.lifeDump tag addr limit) s = execLifeDump tag addr limit s := rfl
theorem exec_lifeDumpDone (s : State) : exec (.lifeDumpDone) s = execLifeDumpDone s := rfl
theorem exec_fwUpdate (tag : BitVec 8) (addr len : Nat) (s : State) : exec (.fwUpdate tag addr len) s = execFwUpdate tag addr len s := rfl
theorem exec_fwUpdateDone (v : SlotVerdict) (s : State) : exec (.fwUpdateDone v) s = execFwUpdateDone v s := rfl
theorem exec_mbxDonePop (m : Master) (s : State) : exec (.mbxDonePop m) s = execMbxDonePop m s := rfl
theorem exec_mbxDoneRelease (s : State) : exec (.mbxDoneRelease) s = execMbxDoneRelease s := rfl
theorem exec_blockTick (d : Nat) (s : State) : exec (.blockTick d) s = execBlockTick d s := rfl
theorem exec_passStart (t : Nat) (s : State) : exec (.passStart t) s = execPassStart t s := rfl
theorem exec_fenceExpiry (d : Nat) (s : State) : exec (.fenceExpiry d) s = execFenceExpiry d s := rfl
theorem exec_deadlineClear (t : Nat) (s : State) : exec (.deadlineClear t) s = execDeadlineClear t s := rfl
theorem exec_speedMeasure (speeds : List (Nat × Nat)) (s : State) : exec (.speedMeasure speeds) s = execSpeedMeasure speeds s := rfl
theorem exec_speedSourceRevert (t : Nat) (s : State) : exec (.speedSourceRevert t) s = execSpeedSourceRevert t s := rfl
theorem exec_swapAdmitCheck (s : State) : exec (.swapAdmitCheck) s = execSwapAdmitCheck s := rfl
theorem exec_fencePctWrite (m : Master) (d : Nat) (pct : Nat) (s : State) : exec (.fencePctWrite m d pct) s = execFencePctWrite m d pct s := rfl
theorem exec_escalationTrigger (t : Nat) (s : State) : exec (.escalationTrigger t) s = execEscalationTrigger t s := rfl
theorem exec_avsAck (mv : Nat) (s : State) : exec (.avsAck mv) s = execAvsAck mv s := rfl
theorem exec_avsSettleDone (s : State) : exec (.avsSettleDone) s = execAvsSettleDone s := rfl
theorem exec_avsNoack (s : State) : exec (.avsNoack) s = execAvsNoack s := rfl
theorem exec_stageJudged (t : Nat) (s : State) : exec (.stageJudged t) s = execStageJudged t s := rfl
theorem exec_relocCopyDone (uid : Nat) (s : State) : exec (.relocCopyDone uid) s = execRelocCopyDone uid s := rfl
theorem exec_relocWarmDone (uid : Nat) (s : State) : exec (.relocWarmDone uid) s = execRelocWarmDone uid s := rfl
theorem exec_relocDone (uid : Nat) (s : State) : exec (.relocDone uid) s = execRelocDone uid s := rfl
theorem exec_escalationEnd (t : Nat) (s : State) : exec (.escalationEnd t) s = execEscalationEnd t s := rfl
theorem exec_slackWarn (t : Nat) (s : State) : exec (.slackWarn t) s = execSlackWarn t s := rfl
theorem exec_restore (t cls : Nat) (s : State) : exec (.restore t cls) s = execRestore t cls s := rfl
theorem exec_shedBackoffReset (t cls : Nat) (s : State) : exec (.shedBackoffReset t cls) s = execShedBackoffReset t cls s := rfl
theorem exec_backoffClr (m : Master) (s : State) : exec (.backoffClr m) s = execBackoffClr m s := rfl
theorem exec_warmTileLoaded (t : Nat) (s : State) : exec (.warmTileLoaded t) s = execWarmTileLoaded t s := rfl
theorem exec_swapXfadeEnd (d : Nat) (s : State) : exec (.swapXfadeEnd d) s = execSwapXfadeEnd d s := rfl
theorem exec_nop (t : Nat) (w : Word) (s : State) : exec (.nop t w) s = execNop t w s := rfl
theorem exec_waitb (t : Nat) (done : Nat) (s : State) : exec (.waitb t done) s = execWaitb t done s := rfl
theorem exec_rpt (t : Nat) (r : Bool) (count : BitVec 16) (gc : BitVec 5) (s : State) : exec (.rpt t r count gc) s = execRpt t r count gc s := rfl
theorem exec_rptb (t : Nat) (r : Bool) (endOfs : BitVec 11) (count : BitVec 12) (gc : BitVec 5) (s : State) : exec (.rptb t r endOfs count gc) s = execRptb t r endOfs count gc s := rfl
theorem exec_br (t : Nat) (ind : Bool) (target : BitVec 14) (gs : BitVec 5) (s : State) : exec (.br t ind target gs) s = execBr t ind target gs s := rfl
theorem exec_brc (t : Nat) (cond : BitVec 4) (target : BitVec 14) (s : State) : exec (.brc t cond target) s = execBrc t cond target s := rfl
theorem exec_call (t : Nat) (ind : Bool) (target : BitVec 14) (gs : BitVec 5) (s : State) : exec (.call t ind target gs) s = execCall t ind target gs s := rfl
theorem exec_ret (t : Nat) (s : State) : exec (.ret t) s = execRet t s := rfl
theorem exec_fence (t : Nat) (gd : BitVec 5) (sel : BitVec 2) (age : Nat) (s : State) : exec (.fence t gd sel age) s = execFence t gd sel age s := rfl
theorem exec_ld (t : Nat) (am : BitVec 2) (pn : BitVec 3) (g : BitVec 5) (d : BitVec 8) (s : State) : exec (.ld t am pn g d) s = execLd t am pn g d s := rfl
theorem exec_st (t : Nat) (am : BitVec 2) (pn : BitVec 3) (g : BitVec 5) (d : BitVec 8) (s : State) : exec (.st t am pn g d) s = execSt t am pn g d s := rfl
theorem exec_ldx (t : Nat) (am : BitVec 2) (pn : BitVec 3) (g : BitVec 5) (d : BitVec 8) (s : State) : exec (.ldx t am pn g d) s = execLdx t am pn g d s := rfl
theorem exec_ldy (t : Nat) (am : BitVec 2) (pn : BitVec 3) (g : BitVec 5) (d : BitVec 8) (s : State) : exec (.ldy t am pn g d) s = execLdy t am pn g d s := rfl
theorem exec_ldxy (t : Nat) (mx : Bool) (px : BitVec 3) (ga : BitVec 5) (my : Bool) (py : BitVec 3) (gb : BitVec 5) (s : State) : exec (.ldxy t mx px ga my py gb) s = execLdxy t mx px ga my py gb s := rfl
theorem exec_add (t : Nat) (gd ga gb : BitVec 5) (s : State) : exec (.add t gd ga gb) s = execAdd t gd ga gb s := rfl
theorem exec_sub (t : Nat) (gd ga gb : BitVec 5) (s : State) : exec (.sub t gd ga gb) s = execSub t gd ga gb s := rfl
theorem exec_and (t : Nat) (gd ga gb : BitVec 5) (s : State) : exec (.and t gd ga gb) s = execAnd t gd ga gb s := rfl
theorem exec_or (t : Nat) (gd ga gb : BitVec 5) (s : State) : exec (.or t gd ga gb) s = execOr t gd ga gb s := rfl
theorem exec_xor (t : Nat) (gd ga gb : BitVec 5) (s : State) : exec (.xor t gd ga gb) s = execXor t gd ga gb s := rfl
theorem exec_shl (t : Nat) (gd ga gb : BitVec 5) (imm : Bool) (s : State) : exec (.shl t gd ga gb imm) s = execShl t gd ga gb imm s := rfl
theorem exec_shr (t : Nat) (gd ga gb : BitVec 5) (imm : Bool) (s : State) : exec (.shr t gd ga gb imm) s = execShr t gd ga gb imm s := rfl
theorem exec_asr (t : Nat) (gd ga gb : BitVec 5) (imm : Bool) (s : State) : exec (.asr t gd ga gb imm) s = execAsr t gd ga gb imm s := rfl
theorem exec_min (t : Nat) (gd ga gb : BitVec 5) (s : State) : exec (.min t gd ga gb) s = execMin t gd ga gb s := rfl
theorem exec_max (t : Nat) (gd ga gb : BitVec 5) (s : State) : exec (.max t gd ga gb) s = execMax t gd ga gb s := rfl
theorem exec_abs (t : Nat) (gd ga : BitVec 5) (s : State) : exec (.abs t gd ga) s = execAbs t gd ga s := rfl
theorem exec_neg (t : Nat) (gd ga : BitVec 5) (s : State) : exec (.neg t gd ga) s = execNeg t gd ga s := rfl
theorem exec_cmp (t : Nat) (ga gb : BitVec 5) (s : State) : exec (.cmp t ga gb) s = execCmp t ga gb s := rfl
theorem exec_addi (t : Nat) (gd ga : BitVec 5) (imm : BitVec 16) (s : State) : exec (.addi t gd ga imm) s = execAddi t gd ga imm s := rfl
theorem exec_li (t : Nat) (gd : BitVec 5) (mode : BitVec 2) (imm : BitVec 16) (s : State) : exec (.li t gd mode imm) s = execLi t gd mode imm s := rfl
theorem exec_lui (t : Nat) (gd : BitVec 5) (imm : BitVec 16) (s : State) : exec (.lui t gd imm) s = execLui t gd imm s := rfl
theorem exec_cmpi (t : Nat) (ga : BitVec 5) (imm : BitVec 16) (s : State) : exec (.cmpi t ga imm) s = execCmpi t ga imm s := rfl
theorem exec_mpy (t : Nat) (k : BitVec 2) (ga gb : BitVec 5) (s : State) : exec (.mpy t k ga gb) s = execMpy t k ga gb s := rfl
theorem exec_mac (t : Nat) (k : BitVec 2) (ga gb : BitVec 5) (s : State) : exec (.mac t k ga gb) s = execMac t k ga gb s := rfl
theorem exec_msu (t : Nat) (k : BitVec 2) (ga gb : BitVec 5) (s : State) : exec (.msu t k ga gb) s = execMsu t k ga gb s := rfl
theorem exec_macxy (t : Nat) (k : BitVec 2) (mx : Bool) (px : BitVec 3) (my : Bool) (py : BitVec 3) (s : State) : exec (.macxy t k mx px my py) s = execMacxy t k mx px my py s := rfl
theorem exec_tapm (t : Nat) (k : BitVec 2) (mx : Bool) (px : BitVec 3) (my : Bool) (py : BitVec 3) (s : State) : exec (.tapm t k mx px my py) s = execTapm t k mx px my py s := rfl
theorem exec_sacc (t : Nat) (k : BitVec 2) (dst pm : Bool) (pn : BitVec 3) (gd : BitVec 5) (shift : BitVec 5) (s : State) : exec (.sacc t k dst pm pn gd shift) s = execSacc t k dst pm pn gd shift s := rfl
theorem exec_clra (t : Nat) (k : BitVec 2) (all : Bool) (s : State) : exec (.clra t k all) s = execClra t k all s := rfl
theorem exec_mova (t : Nat) (mode ad as : BitVec 2) (g : BitVec 5) (word : BitVec 2) (s : State) : exec (.mova t mode ad as g word) s = execMova t mode ad as g word s := rfl
theorem exec_sha (t : Nat) (k : BitVec 2) (n : BitVec 6) (s : State) : exec (.sha t k n) s = execSha t k n s := rfl
theorem exec_adda (t : Nat) (ad as : BitVec 2) (s : State) : exec (.adda t ad as) s = execAdda t ad as s := rfl
theorem exec_skv (t : Nat) (k : BitVec 2) (pm : Bool) (pn : BitVec 3) (gf : BitVec 5) (s : State) : exec (.skv t k pm pn gf) s = execSkv t k pm pn gf s := rfl
theorem exec_biq (t : Nat) (k : BitVec 2) (ps pc : BitVec 3) (gx : BitVec 5) (s : State) : exec (.biq t k ps pc gx) s = execBiq t k ps pc gx s := rfl
theorem exec_gramp (t : Nat) (k : BitVec 2) (gx : BitVec 5) (mg : Bool) (pg : BitVec 3) (mt : Bool) (pt : BitVec 3) (acc : Bool) (s : State) : exec (.gramp t k gx mg pg mt pt acc) s = execGramp t k gx mg pg mt pt acc s := rfl
theorem exec_peak (t : Nat) (k : BitVec 2) (sq pm : Bool) (pn : BitVec 3) (gx : BitVec 5) (s : State) : exec (.peak t k sq pm pn gx) s = execPeak t k sq pm pn gx s := rfl
theorem exec_silchk (t : Nat) (gd : BitVec 5) (pm : Bool) (ps : BitVec 3) (gx : BitVec 5) (s : State) : exec (.silchk t gd pm ps gx) s = execSilchk t gd pm ps gx s := rfl
theorem exec_inp (t : Nat) (pn : BitVec 3) (r : Bool) (gc : BitVec 5) (ch : BitVec 11) (s : State) : exec (.inp t pn r gc ch) s = execInp t pn r gc ch s := rfl
theorem exec_outp (t : Nat) (pn : BitVec 3) (r : Bool) (gc : BitVec 5) (ch : BitVec 11) (s : State) : exec (.outp t pn r gc ch) s = execOutp t pn r gc ch s := rfl
theorem exec_parm (t : Nat) (gd : BitVec 5) (bank r : Bool) (gs : BitVec 5) (slot : BitVec 12) (s : State) : exec (.parm t gd bank r gs slot) s = execParm t gd bank r gs slot s := rfl
theorem exec_setp (t : Nat) (n : BitVec 3) (mode : BitVec 2) (imm : BitVec 16) (s : State) : exec (.setp t n mode imm) s = execSetp t n mode imm s := rfl
theorem exec_getp (t : Nat) (n : BitVec 3) (gd : BitVec 5) (s : State) : exec (.getp t n gd) s = execGetp t n gd s := rfl
theorem exec_setm (t : Nat) (n : BitVec 3) (mode : BitVec 2) (imm : BitVec 16) (s : State) : exec (.setm t n mode imm) s = execSetm t n mode imm s := rfl
theorem exec_getm (t : Nat) (n : BitVec 3) (gd : BitVec 5) (s : State) : exec (.getm t n gd) s = execGetm t n gd s := rfl
theorem exec_setl (t : Nat) (n : BitVec 3) (mode : BitVec 2) (imm : BitVec 16) (s : State) : exec (.setl t n mode imm) s = execSetl t n mode imm s := rfl
theorem exec_getl (t : Nat) (n : BitVec 3) (gd : BitVec 5) (s : State) : exec (.getl t n gd) s = execGetl t n gd s := rfl
theorem exec_addp (t : Nat) (pd ps : BitVec 3) (imm : BitVec 16) (s : State) : exec (.addp t pd ps imm) s = execAddp t pd ps imm s := rfl
theorem exec_stickyClrAov (m : Master) (t : Nat) (s : State) : exec (.stickyClrAov m t) s = execStickyClrAov m t s := rfl
theorem exec_stickyClrSat (m : Master) (t : Nat) (s : State) : exec (.stickyClrSat m t) s = execStickyClrSat m t s := rfl
theorem exec_dbgDataRead (m : Master) (t : Nat) (s : State) : exec (.dbgDataRead m t) s = execDbgDataRead m t s := rfl
theorem exec_dbgReadDone (t : Nat) (s : State) : exec (.dbgReadDone t) s = execDbgReadDone t s := rfl
theorem exec_dbgDataWrite (m : Master) (t : Nat) (v : Word) (s : State) : exec (.dbgDataWrite m t v) s = execDbgDataWrite m t v s := rfl
theorem exec_directParam (m : Master) (v : Word) (s : State) : exec (.directParam m v) s = execDirectParam m v s := rfl
theorem exec_directGain (m : Master) (v : Word) (s : State) : exec (.directGain m v) s = execDirectGain m v s := rfl
theorem exec_directRoute (m : Master) (v : Word) (s : State) : exec (.directRoute m v) s = execDirectRoute m v s := rfl
theorem exec_directApply (t : Nat) (s : State) : exec (.directApply t) s = execDirectApply t s := rfl
theorem exec_stagingRelease (t : Nat) (s : State) : exec (.stagingRelease t) s = execStagingRelease t s := rfl
theorem exec_sceneCheck (s : State) : exec (.sceneCheck) s = execSceneCheck s := rfl
theorem exec_commitCancel (m : Master) (v : Word) (s : State) : exec (.commitCancel m v) s = execCommitCancel m v s := rfl
theorem exec_rampEnd (t : Nat) (s : State) : exec (.rampEnd t) s = execRampEnd t s := rfl
theorem exec_bankMirrorDone (t : Nat) (s : State) : exec (.bankMirrorDone t) s = execBankMirrorDone t s := rfl
theorem exec_routeXfadeEnd (dest : Nat) (s : State) : exec (.routeXfadeEnd dest) s = execRouteXfadeEnd dest s := rfl
theorem exec_bridgeUnlock (b : Nat) (s : State) : exec (.bridgeUnlock b) s = execBridgeUnlock b s := rfl
theorem exec_bridgeLock (b : Nat) (s : State) : exec (.bridgeLock b) s = execBridgeLock b s := rfl
theorem exec_snapReq (m : Master) (s : State) : exec (.snapReq m) s = execSnapReq m s := rfl
theorem exec_snapReady (s : State) : exec (.snapReady) s = execSnapReady s := rfl
theorem exec_silenceEnter (slot : Nat) (s : State) : exec (.silenceEnter slot) s = execSilenceEnter slot s := rfl
theorem exec_silenceExit (slot : Nat) (s : State) : exec (.silenceExit slot) s = execSilenceExit slot s := rfl
theorem exec_girthAccess (bank : Nat) (ecc : List (Nat × Ecc)) (s : State) : exec (.girthAccess bank ecc) s = execGirthAccess bank ecc s := rfl
theorem exec_retWakeDone (seg : Nat) (s : State) : exec (.retWakeDone seg) s = execRetWakeDone seg s := rfl
theorem exec_eccWriteback (bank : Nat) (s : State) : exec (.eccWriteback bank) s = execEccWriteback bank s := rfl
theorem exec_girthShadowEnd (port : Nat) (s : State) : exec (.girthShadowEnd port) s = execGirthShadowEnd port s := rfl
theorem exec_bgtRegionStart (s : State) : exec (.bgtRegionStart) s = execBgtRegionStart s := rfl
theorem exec_bgtPhaseDone (failed : List Nat) (s : State) : exec (.bgtPhaseDone failed) s = execBgtPhaseDone failed s := rfl
theorem exec_vaultMapWrite (m : Master) (hi : Bool) (v : Word) (s : State) : exec (.vaultMapWrite m hi v) s = execVaultMapWrite m hi v s := rfl
theorem exec_tamperNFall (s : State) : exec (.tamperNFall) s = execTamperNFall s := rfl
theorem exec_lifeCycleChange (cyc : BitVec 2) (s : State) : exec (.lifeCycleChange cyc) s = execLifeCycleChange cyc s := rfl
theorem exec_wipeDone (failed : BitVec 64) (s : State) : exec (.wipeDone failed) s = execWipeDone failed s := rfl
theorem exec_retCtrlWrite (m : Master) (v : Word) (s : State) : exec (.retCtrlWrite m v) s = execRetCtrlWrite m v s := rfl
theorem exec_harnessRequest (r : HReq) (s : State) : exec (.harnessRequest r) s = execHarnessRequest r s := rfl
theorem exec_harnessGrant (port : Nat) (ecc : List (Nat × Ecc)) (s : State) : exec (.harnessGrant port ecc) s = execHarnessGrant port ecc s := rfl
theorem exec_transactionEnd (master id : Nat) (s : State) : exec (.transactionEnd master id) s = execTransactionEnd master id s := rfl
theorem exec_masterReset (master : Nat) (s : State) : exec (.masterReset master) s = execMasterReset master s := rfl
theorem exec_mrstDone (master : Nat) (s : State) : exec (.mrstDone master) s = execMrstDone master s := rfl
theorem exec_remapWrite (m : Master) (v : Word) (s : State) : exec (.remapWrite m v) s = execRemapWrite m v s := rfl
theorem exec_dramMapWrite (m : Master) (v : Word) (s : State) : exec (.dramMapWrite m v) s = execDramMapWrite m v s := rfl
theorem exec_alertN (chan word : Nat) (spare : Bool) (s : State) : exec (.alertN chan word spare) s = execAlertN chan s word spare := rfl
theorem exec_movLate (chan patch : Nat) (s : State) : exec (.movLate chan patch) s = execMovLate chan patch s := rfl
theorem exec_refreshDue (chan rank : Nat) (s : State) : exec (.refreshDue chan rank) s = execRefreshDue chan rank s := rfl
theorem exec_mr4Poll (chan : Nat) (doubled : BitVec 4) (sinceNs : Nat) (s : State) : exec (.mr4Poll chan doubled sinceNs) s = execMr4Poll chan doubled sinceNs s := rfl
theorem exec_refreshWindow (chan rank : Nat) (s : State) : exec (.refreshWindow chan rank) s = execRefreshWindow chan rank s := rfl
theorem exec_dqsOscRead (chan rank : Nat) (s : State) : exec (.dqsOscRead chan rank) s = execDqsOscRead chan rank s := rfl
theorem exec_trnGo (m : Master) (chan : Nat) (v : Word) (s : State) : exec (.trnGo m chan v) s = execTrnGo m chan v s := rfl
theorem exec_trnDone (chan : Nat) (err0 err1 err2 : Word) (s : State) : exec (.trnDone chan err0 err1 err2) s = execTrnDone chan err0 err1 err2 s := rfl
theorem exec_trnStepAdvance (m : Master) (chan : Nat) (s : State) : exec (.trnStepAdvance m chan) s = execTrnStepAdvance m chan s := rfl
theorem exec_mrGo (m : Master) (chan : Nat) (v : Word) (s : State) : exec (.mrGo m chan v) s = execMrGo m chan v s := rfl
theorem exec_mrDone (chan : Nat) (value : Byte) (s : State) : exec (.mrDone chan value) s = execMrDone chan value s := rfl
theorem exec_rankCmdService (m : Master) (chan : Nat) (rank : BitVec 2) (s : State) : exec (.rankCmdService m chan rank) s = execRankCmdService m chan rank s := rfl
theorem exec_rankCmdSpare (m : Master) (chan : Nat) (rank : BitVec 2) (s : State) : exec (.rankCmdSpare m chan rank) s = execRankCmdSpare m chan rank s := rfl
theorem exec_rankCmdRetire (m : Master) (chan : Nat) (rank : BitVec 2) (s : State) : exec (.rankCmdRetire m chan rank) s = execRankCmdRetire m chan rank s := rfl
theorem exec_rankCmdTest (m : Master) (chan : Nat) (rank : BitVec 2) (s : State) : exec (.rankCmdTest m chan rank) s = execRankCmdTest m chan rank s := rfl
theorem exec_rankCmdReturn (m : Master) (chan : Nat) (rank : BitVec 2) (s : State) : exec (.rankCmdReturn m chan rank) s = execRankCmdReturn m chan rank s := rfl
theorem exec_migrationCopyUnit (chan : Nat) (ecc : List (Nat × Ecc)) (s : State) : exec (.migrationCopyUnit chan ecc) s = execMigrationCopyUnit chan ecc s := rfl
theorem exec_migDone (chan : Nat) (s : State) : exec (.migDone chan) s = execMigDone chan s := rfl
theorem exec_testDone (chan : Nat) (pass : Bool) (s : State) : exec (.testDone chan pass) s = execTestDone chan pass s := rfl
theorem exec_freqChange (m : Master) (chan : Nat) (v : Word) (s : State) : exec (.freqChange m chan v) s = execFreqChange m chan v s := rfl
theorem exec_freqDone (chan : Nat) (locked : Bool) (s : State) : exec (.freqDone chan locked) s = execFreqDone chan locked s := rfl
theorem exec_ceStormEnd (chan rank : Nat) (s : State) : exec (.ceStormEnd chan rank) s = execCeStormEnd chan rank s := rfl
theorem exec_dramCfgWrite (m : Master) (chan : Nat) (v : Word) (s : State) : exec (.dramCfgWrite m chan v) s = execDramCfgWrite m chan v s := rfl
theorem exec_laneStateTimeout (n : Nat) (s : State) : exec (.laneStateTimeout n) s = execLaneStateTimeout n s := rfl
theorem exec_rateEstablished (n : Nat) (ppm : BitVec 16) (s : State) : exec (.rateEstablished n ppm) s = execRateEstablished n ppm s := rfl
theorem exec_negotiate (n : Nat) (ouiMatch : Bool) (rates : BitVec 3) (s : State) : exec (.negotiate n ouiMatch rates) s = execNegotiate n ouiMatch rates s := rfl
theorem exec_los (n : Nat) (cause : LosCause) (s : State) : exec (.los n cause) s = execLos n cause s := rfl
theorem exec_losClear (n : Nat) (s : State) : exec (.losClear n) s = execLosClear n s := rfl
theorem exec_autoRestart (n : Nat) (s : State) : exec (.autoRestart n) s = execAutoRestart n s := rfl
theorem exec_laneRestart (m : Master) (n : Nat) (s : State) : exec (.laneRestart m n) s = execLaneRestart m n s := rfl
theorem exec_lbModeWrite (m : Master) (n : Nat) (v : Word) (s : State) : exec (.lbModeWrite m n v) s = execLbModeWrite m n v s := rfl
theorem exec_prbsCtrlWrite (m : Master) (n : Nat) (v : Word) (s : State) : exec (.prbsCtrlWrite m n v) s = execPrbsCtrlWrite m n v s := rfl
theorem exec_prbsClr (m : Master) (n : Nat) (s : State) : exec (.prbsClr m n) s = execPrbsClr m n s := rfl
theorem exec_prbsLock (n : Nat) (rx : List Bool) (s : State) : exec (.prbsLock n rx) s = execPrbsLock n s rx := rfl
theorem exec_prbsUnlock (n bits errors : Nat) (s : State) : exec (.prbsUnlock n bits errors) s = execPrbsUnlock n bits errors s := rfl
theorem exec_sleepWrite (m : Master) (n : Nat) (v : Word) (s : State) : exec (.sleepWrite m n v) s = execSleepWrite m n v s := rfl
theorem exec_wakeOnSig (n : Nat) (s : State) : exec (.wakeOnSig n) s = execWakeOnSig n s := rfl
theorem exec_txqProdWrite (m : Master) (n : Nat) (v : Word) (s : State) : exec (.txqProdWrite m n v) s = execTxqProdWrite m n v s := rfl
theorem exec_txFrameEnd (n : Nat) (ecc : List (Nat × Ecc)) (shadowed : Bool) (s : State) : exec (.txFrameEnd n ecc shadowed) s = execTxFrameEnd n ecc shadowed s := rfl
theorem exec_haltedClear (m : Master) (n : Nat) (s : State) : exec (.haltedClear m n) s = execHaltedClear m n s := rfl
theorem exec_verifyTimer (n : Nat) (s : State) : exec (.verifyTimer n) s = execVerifyTimer n s := rfl
theorem exec_rxFrame (n : Nat) (f : Frame) (s : State) : exec (.rxFrame n f) s = execRxFrame n f s := rfl
theorem exec_rxrConsWrite (m : Master) (n : Nat) (v : Word) (s : State) : exec (.rxrConsWrite m n v) s = execRxrConsWrite m n v s := rfl
theorem exec_pauseRefresh (n : Nat) (s : State) : exec (.pauseRefresh n) s = execPauseRefresh n s := rfl
theorem exec_pauseExpiry (n : Nat) (s : State) : exec (.pauseExpiry n) s = execPauseExpiry n s := rfl
theorem exec_tsqPop (m : Master) (n : Nat) (s : State) : exec (.tsqPop m n) s = execTsqPop m n s := rfl
theorem exec_cnNsRead (m : Master) (n : Nat) (s : State) : exec (.cnNsRead m n) s = execCnNsRead m n s := rfl
theorem exec_capture (m : Master) (s : State) : exec (.capture m) s = execCapture m s := rfl
theorem exec_incFracWrite (m : Master) (n : Nat) (v : Word) (s : State) : exec (.incFracWrite m n v) s = execIncFracWrite m n v s := rfl
theorem exec_slewNsWrite (m : Master) (n : Nat) (v : Word) (s : State) : exec (.slewNsWrite m n v) s = execSlewNsWrite m n v s := rfl
theorem exec_slewDone (n : Nat) (s : State) : exec (.slewDone n) s = execSlewDone n s := rfl
theorem exec_setGo (m : Master) (n : Nat) (v : Word) (s : State) : exec (.setGo m n v) s = execSetGo m n v s := rfl
theorem exec_stepWrite (m : Master) (n : Nat) (v : Word) (s : State) : exec (.stepWrite m n v) s = execStepWrite m n v s := rfl
theorem exec_monUpdate (s : State) : exec (.monUpdate) s = execMonUpdate s := rfl
theorem exec_syncReceived (n : Nat) (offset : Int) (incFrac : Word) (slew : Int) (s : State) : exec (.syncReceived n offset incFrac slew) s = execSyncReceived n offset incFrac slew s := rfl
theorem exec_announceReceived (n : Nat) (a : Announce) (s : State) : exec (.announceReceived n a) s = execAnnounceReceived n a s := rfl
theorem exec_announceTimeout (n : Nat) (wins : Bool) (s : State) : exec (.announceTimeout n wins) s = execAnnounceTimeout n wins s := rfl
theorem exec_refEdge (slot : Nat) (offPs : Option Int) (ratePpm : Int) (s : State) : exec (.refEdge slot offPs ratePpm) s = execRefEdge slot offPs ratePpm s := rfl
theorem exec_refStop (slot : Nat) (s : State) : exec (.refStop slot) s = execRefStop slot s := rfl
theorem exec_qualified (slot : Nat) (s : State) : exec (.qualified slot) s = execQualified slot s := rfl
theorem exec_refMeanUpdate (means : List (Nat × Int)) (s : State) : exec (.refMeanUpdate means) s = execRefMeanUpdate means s := rfl
theorem exec_softDriftSwitch (s : State) : exec (.softDriftSwitch) s = execSoftDriftSwitch s := rfl
theorem exec_selection (s : State) : exec (.selection) s = execSelection s := rfl
theorem exec_switchDone (s : State) : exec (.switchDone) s = execSwitchDone s := rfl
theorem exec_dpllLocked (k : Nat) (s : State) : exec (.dpllLocked k) s = execDpllLocked k s := rfl
theorem exec_holdExpired (k : Nat) (s : State) : exec (.holdExpired k) s = execHoldExpired k s := rfl
theorem exec_esmcPdu (lane : Nat) (ssm : BitVec 4) (s : State) : exec (.esmcPdu lane ssm) s = execEsmcPdu lane ssm s := rfl
theorem exec_esmcTimeout (lane : Nat) (s : State) : exec (.esmcTimeout lane) s = execEsmcTimeout lane s := rfl
theorem exec_selCtrlWrite (m : Master) (v : Word) (s : State) : exec (.selCtrlWrite m v) s = execSelCtrlWrite m v s := rfl
theorem exec_framePulse (n : Nat) (err : Int) (s : State) : exec (.framePulse n err) s = execFramePulse n err s := rfl
theorem exec_alignNow (m : Master) (v : Word) (s : State) : exec (.alignNow m v) s = execAlignNow m v s := rfl
theorem exec_mclkCfgWrite (m : Master) (n : Nat) (v : Word) (s : State) : exec (.mclkCfgWrite m n v) s = execMclkCfgWrite m n v s := rfl
theorem exec_flowPacket (port : Nat) (shadowed : List Nat) (s : State) : exec (.flowPacket port shadowed) s = execFlowPacket port shadowed s := rfl
theorem exec_rebase (d : Nat) (s : State) : exec (.rebase d) s = execRebase d s := rfl
theorem exec_underrunClear (c : Nat) (s : State) : exec (.underrunClear c) s = execUnderrunClear c s := rfl
theorem exec_ssrcRelearn (c : Nat) (s : State) : exec (.ssrcRelearn c) s = execSsrcRelearn c s := rfl
theorem exec_pathLost (c : Nat) (s : State) : exec (.pathLost c) s = execPathLost c s := rfl
theorem exec_pathUp (c : Nat) (s : State) : exec (.pathUp c) s = execPathUp c s := rfl
theorem exec_ctxDelayWrite (m : Master) (n : Nat) (v : Word) (s : State) : exec (.ctxDelayWrite m n v) s = execCtxDelayWrite m n v s := rfl
theorem exec_grpDelayWrite (m : Master) (v : Word) (s : State) : exec (.grpDelayWrite m v) s = execGrpDelayWrite m v s := rfl
theorem exec_sapFrame (n : Nat) (bclks : Nat) (wsOk : Bool) (slots : List Word) (s : State) : exec (.sapFrame n bclks wsOk slots) s = execSapFrame n bclks wsOk slots s := rfl
theorem exec_clkLoss (n : Nat) (s : State) : exec (.clkLoss n) s = execClkLoss n s := rfl
theorem exec_clkBack (n : Nat) (ppm : Int) (s : State) : exec (.clkBack n ppm) s = execClkBack n ppm s := rfl
theorem exec_trip (n : Nat) (drv : Bool) (ipeak : BitVec 16) (s : State) : exec (.trip n drv ipeak) s = execTrip n drv ipeak s := rfl
theorem exec_hiccupEnd (n : Nat) (s : State) : exec (.hiccupEnd n) s = execHiccupEnd n s := rfl
theorem exec_softStartEnd (n : Nat) (s : State) : exec (.softStartEnd n) s = execSoftStartEnd n s := rfl
theorem exec_stirrupOcClear (s : State) : exec (.stirrupOcClear) s = execStirrupOcClear s := rfl
theorem exec_dcLatch (n : Nat) (s : State) : exec (.dcLatch n) s = execDcLatch n s := rfl
theorem exec_oscLatch (n : Nat) (s : State) : exec (.oscLatch n) s = execOscLatch n s := rfl
theorem exec_latchClr (m : Master) (n : Nat) (s : State) : exec (.latchClr m n) s = execLatchClr m n s := rfl
theorem exec_avoidApply (m : Master) (n : Nat) (s : State) : exec (.avoidApply m n) s = execAvoidApply m n s := rfl
theorem exec_avoidMoved (n : Nat) (s : State) : exec (.avoidMoved n) s = execAvoidMoved n s := rfl
theorem exec_loadUpdate (n : Nat) (bands : List LoadBand) (s : State) : exec (.loadUpdate n bands) s = execLoadUpdate n bands s := rfl
theorem exec_baselineCap (m : Master) (n : Nat) (s : State) : exec (.baselineCap m n) s = execBaselineCap m n s := rfl
theorem exec_stirrupSleep (n : Nat) (s : State) : exec (.stirrupSleep n) s = execStirrupSleep n s := rfl
theorem exec_stirrupWake (n : Nat) (s : State) : exec (.stirrupWake n) s = execStirrupWake n s := rfl
theorem exec_wakeSettled (n : Nat) (s : State) : exec (.wakeSettled n) s = execWakeSettled n s := rfl
theorem exec_stirrupStartTimer (s : State) : exec (.stirrupStartTimer) s = execStirrupStartTimer s := rfl
theorem exec_supplyMonitorTrip (s : State) : exec (.supplyMonitorTrip) s = execSupplyMonitorTrip s := rfl
theorem exec_sourceHoldEnd (src inst : Nat) (s : State) : exec (.sourceHoldEnd src inst) s = execSourceHoldEnd src inst s := rfl
theorem exec_quietExpiry (src : Nat) (s : State) : exec (.quietExpiry src) s = execQuietExpiry src s := rfl
theorem exec_reactClr (m : Master) (s : State) : exec (.reactClr m) s = execReactClr m s := rfl
theorem exec_latchedClear (m : Master) (s : State) : exec (.latchedClear m) s = execLatchedClear m s := rfl
theorem exec_srcCfgWrite (m : Master) (v : Word) (s : State) : exec (.srcCfgWrite m v) s = execSrcCfgWrite m v s := rfl
theorem exec_force (m : Master) (on : Bool) (s : State) : exec (.force m on) s = execForce m on s := rfl
theorem exec_tjRead (tj : Int) (s : State) : exec (.tjRead tj) s = execTjRead tj s := rfl
theorem exec_tamperClear (s : State) : exec (.tamperClear) s = execTamperClear s := rfl
theorem exec_level4Reset (b : BootView) (s : State) : exec (.level4Reset b) s = execLevel4Reset b s := rfl
theorem exec_feedLoss (b : Bool) (pin : Bool) (s : State) : exec (.feedLoss b pin) s = execFeedLoss b pin s := rfl
theorem exec_feedRecover (b : Bool) (s : State) : exec (.feedRecover b) s = execFeedRecover b s := rfl
theorem exec_powerWarn (s : State) : exec (.powerWarn) s = execPowerWarn s := rfl
theorem exec_heartbeatSend (s : State) : exec (.heartbeatSend) s = execHeartbeatSend s := rfl
theorem exec_heartbeat (h : Heartbeat) (s : State) : exec (.heartbeat h) s = execHeartbeat h s := rfl
theorem exec_ckptData (f : CkptData) (s : State) : exec (.ckptData f) s = execCkptData f s := rfl
theorem exec_ckptEnd (f : CkptEnd) (s : State) : exec (.ckptEnd f) s = execCkptEnd f s := rfl
theorem exec_handoverPropose (sec ns : Nat) (s : State) : exec (.handoverPropose sec ns) s = execHandoverPropose sec ns s := rfl
theorem exec_handoverAck (sec ns : Nat) (result : Byte) (seqs : List (Nat × BitVec 16)) (s : State) : exec (.handoverAck sec ns result seqs) s = execHandoverAck sec ns result seqs s := rfl
theorem exec_checkpointEpoch (s : State) : exec (.checkpointEpoch) s = execCheckpointEpoch s := rfl
theorem exec_pairLost (s : State) : exec (.pairLost) s = execPairLost s := rfl
theorem exec_pairActInRise (s : State) : exec (.pairActInRise) s = execPairActInRise s := rfl
theorem exec_pairActInFall (s : State) : exec (.pairActInFall) s = execPairActInFall s := rfl
theorem exec_seekingTimeout (s : State) : exec (.seekingTimeout) s = execSeekingTimeout s := rfl
theorem exec_takeoverDone (admitted : Bool) (s : State) : exec (.takeoverDone admitted) s = execTakeoverDone admitted s := rfl
theorem exec_warmingEnd (s : State) : exec (.warmingEnd) s = execWarmingEnd s := rfl
theorem exec_holdoffEnd (s : State) : exec (.holdoffEnd) s = execHoldoffEnd s := rfl
theorem exec_handoverReq (m : Master) (s : State) : exec (.handoverReq m) s = execHandoverReq m s := rfl
theorem exec_handoverAckTimeout (s : State) : exec (.handoverAckTimeout) s = execHandoverAckTimeout s := rfl
theorem exec_handoverFail (s : State) : exec (.handoverFail) s = execHandoverFail s := rfl
theorem exec_keeperCfgWrite (m : Master) (v : Word) (s : State) : exec (.keeperCfgWrite m v) s = execKeeperCfgWrite m v s := rfl
theorem exec_recordPeriod (s : State) : exec (.recordPeriod) s = execRecordPeriod s := rfl
theorem exec_recNow (m : Master) (s : State) : exec (.recNow m) s = execRecNow m s := rfl
theorem exec_recDone (ok : Bool) (s : State) : exec (.recDone ok) s = execRecDone ok s := rfl
theorem exec_replan (s : State) : exec (.replan) s = execReplan s := rfl
theorem exec_replanStepDone (s : State) : exec (.replanStepDone) s = execReplanStepDone s := rfl
theorem exec_powerOnHour (s : State) : exec (.powerOnHour) s = execPowerOnHour s := rfl
theorem exec_pcieLinkReset (s : State) : exec (.pcieLinkReset) s = execPcieLinkReset s := rfl
theorem exec_powerWarnNRise (s : State) : exec (.powerWarnNRise) s = execPowerWarnNRise s := rfl
theorem exec_pcieLinkUp (rate : BitVec 2) (width : Nat) (ppm : BitVec 16) (s : State) : exec (.pcieLinkUp rate width ppm) s = execPcieLinkUp s rate width ppm := rfl
theorem exec_drvFltNRelease (n : Nat) (s : State) : exec (.drvFltNRelease n) s = execDrvFltNRelease n s := rfl
theorem exec_pairActOutRaise (s : State) : exec (.pairActOutRaise) s = execPairActOutRaise s := rfl
theorem exec_handoverRetry (s : State) : exec (.handoverRetry) s = execHandoverRetry s := rfl
theorem exec_rowIdleClose (chan rank bank : Nat) (s : State) : exec (.rowIdleClose chan rank bank) s = execRowIdleClose chan rank bank s := rfl
theorem exec_powerOnSecond (s : State) : exec (.powerOnSecond) s = execPowerOnSecond s := rfl
theorem exec_depthLimit (n : Nat) (gr : Byte) (s : State) : exec (.depthLimit n gr) s = execDepthLimit n gr s := rfl

end Sys2Proof.Machine
end

