-- ==== Sys2Proof/Laws/Map.lean ====
section
/-!
SUPPORT. What the sparse maps do: a read after a write, and that writes keep the canonical form.
-/

namespace Sys2Proof.Machine

variable {κ α : Type}

/-! ### Reads after writes -/

@[simp] theorem SMap.find?_nil [DecidableEq κ] (k : κ) : SMap.find? ([] : SMap κ α) k = none := rfl

theorem SMap.find?_cons [DecidableEq κ] (k' : κ) (v : α) (m : SMap κ α) (k : κ) :
    SMap.find? ((k', v) :: m) k = if k' = k then some v else SMap.find? m k := rfl

@[simp] theorem SMap.find?_erase_same [DecidableEq κ] (m : SMap κ α) (k : κ) : SMap.find? (SMap.erase m k) k = none := by
  induction m with
  | nil => rfl
  | cons e m ih =>
    simp only [SMap.erase]
    split
    · exact ih
    · rename_i h; rw [SMap.find?_cons, if_neg h]; exact ih

@[simp] theorem SMap.find?_erase_ne [DecidableEq κ] (m : SMap κ α) {k k' : κ} (h : k ≠ k') :
    SMap.find? (SMap.erase m k) k' = SMap.find? m k' := by
  induction m with
  | nil => rfl
  | cons e m ih =>
    simp only [SMap.erase]
    split
    · rename_i h'; rw [ih, SMap.find?_cons, if_neg (by rw [h']; exact h)]
    · rw [SMap.find?_cons, SMap.find?_cons, ih]

theorem SMap.find?_insert_same [DecidableEq κ] (ord : κ → Nat) (m : SMap κ α) (k : κ) (v : α)
    (h : SMap.find? m k = none) : SMap.find? (SMap.insert ord m k v) k = some v := by
  induction m with
  | nil => simp [SMap.insert, SMap.find?_cons]
  | cons e m ih =>
    simp only [SMap.insert]
    split
    · rw [SMap.find?_cons, if_pos rfl]
    · rw [SMap.find?_cons] at h ⊢
      split
      · rename_i h'; rw [if_pos h'] at h; cases h
      · rename_i h'; rw [if_neg h'] at h; exact ih h

@[simp] theorem SMap.find?_insert_ne [DecidableEq κ] (ord : κ → Nat) (m : SMap κ α) {k k' : κ} (v : α) (h : k ≠ k') :
    SMap.find? (SMap.insert ord m k v) k' = SMap.find? m k' := by
  induction m with
  | nil => simp [SMap.insert, SMap.find?_cons, h]
  | cons e m ih =>
    simp only [SMap.insert]
    split
    · rw [SMap.find?_cons, if_neg h]
    · rw [SMap.find?_cons, SMap.find?_cons, ih]

@[simp] theorem SMap.get_put_same [DecidableEq κ] [DecidableEq α] (ord : κ → Nat) (d : α) (m : SMap κ α) (k : κ) (v : α) :
    SMap.get d (SMap.put ord d m k v) k = v := by
  unfold SMap.get SMap.put
  split
  · rename_i h; simp [h]
  · rw [SMap.find?_insert_same _ _ _ _ (SMap.find?_erase_same m k)]; rfl

theorem SMap.find?_put_ne [DecidableEq κ] [DecidableEq α] (ord : κ → Nat) (d : α) (m : SMap κ α) {k k' : κ} (v : α)
    (h : k ≠ k') : SMap.find? (SMap.put ord d m k v) k' = SMap.find? m k' := by
  unfold SMap.put
  split <;> simp [h]

@[simp] theorem SMap.get_put_ne [DecidableEq κ] [DecidableEq α] (ord : κ → Nat) (d d' : α) (m : SMap κ α) {k k' : κ}
    (v : α) (h : k ≠ k') : SMap.get d' (SMap.put ord d m k v) k' = SMap.get d' m k' := by
  unfold SMap.get; rw [SMap.find?_put_ne ord d m v h]

@[simp] theorem nget_nput_same [DecidableEq α] (d : α) (m : SMap Nat α) (k : Nat) (v : α) : nget d (nput d m k v) k = v :=
  SMap.get_put_same id d m k v

@[simp] theorem nget_nput_ne [DecidableEq α] (d d' : α) (m : SMap Nat α) {k k' : Nat} (v : α) (h : k ≠ k') :
    nget d' (nput d m k v) k' = nget d' m k' :=
  SMap.get_put_ne id d d' m v h

theorem nget_nput [DecidableEq α] (d : α) (m : SMap Nat α) (k k' : Nat) (v : α) :
    nget d (nput d m k v) k' = if k = k' then v else nget d m k' := by
  split
  · rename_i h; subst h; simp
  · rename_i h; simp [h]

@[simp] theorem find?_nset_same (m : SMap Nat α) (k : Nat) (v : α) : SMap.find? (nset m k v) k = some v :=
  SMap.find?_insert_same id _ k v (SMap.find?_erase_same m k)

@[simp] theorem find?_nset_ne (m : SMap Nat α) {k k' : Nat} (v : α) (h : k ≠ k') :
    SMap.find? (nset m k v) k' = SMap.find? m k' := by
  unfold nset; rw [SMap.find?_insert_ne _ _ _ h, SMap.find?_erase_ne _ h]

/-! ### The canonical form -/

/-- Keys strictly rising. -/
def SMap.rising (ord : κ → Nat) (m : SMap κ α) : Prop := m.Pairwise fun a b => ord a.1 < ord b.1

theorem SMap.rising_erase [DecidableEq κ] (ord : κ → Nat) (m : SMap κ α) (k : κ) (h : SMap.rising ord m) :
    SMap.rising ord (SMap.erase m k) := by
  have e : ∀ m : SMap κ α, SMap.erase m k = m.filter fun e => e.1 ≠ k := by
    intro m
    induction m with
    | nil => rfl
    | cons a m ih => by_cases h' : a.1 = k <;> simp [SMap.erase, h', ih]
  rw [e]; exact h.filter _

theorem SMap.mem_erase [DecidableEq κ] {m : SMap κ α} {k : κ} {e : κ × α} (h : e ∈ SMap.erase m k) : e ∈ m ∧ e.1 ≠ k := by
  induction m with
  | nil => simp [SMap.erase] at h
  | cons a m ih =>
    simp only [SMap.erase] at h
    split at h
    · exact ⟨.tail _ (ih h).1, (ih h).2⟩
    · rename_i h'
      cases h with
      | head => exact ⟨.head _, h'⟩
      | tail _ h => exact ⟨.tail _ (ih h).1, (ih h).2⟩

theorem SMap.mem_insert {ord : κ → Nat} {m : SMap κ α} {k : κ} {v : α} {e : κ × α} (h : e ∈ SMap.insert ord m k v) :
    e = (k, v) ∨ e ∈ m := by
  induction m with
  | nil => simpa [SMap.insert] using h
  | cons a m ih =>
    simp only [SMap.insert] at h
    split at h
    · cases h with
      | head => exact .inl rfl
      | tail _ h => exact .inr h
    · cases h with
      | head => exact .inr (.head _)
      | tail _ h => exact (ih h).imp id (.tail _)

theorem SMap.rising_insert (ord : κ → Nat) (m : SMap κ α) (k : κ) (v : α) (h : SMap.rising ord m)
    (hk : ∀ e ∈ m, ord e.1 ≠ ord k) : SMap.rising ord (SMap.insert ord m k v) := by
  induction m with
  | nil => simp [SMap.insert, SMap.rising]
  | cons a m ih =>
    simp only [SMap.insert]
    have ha := List.pairwise_cons.1 h
    split
    · rename_i hlt
      refine List.pairwise_cons.2 ⟨fun e he => ?_, h⟩
      cases he with
      | head => exact hlt
      | tail _ he => exact Nat.lt_trans hlt (ha.1 e he)
    · rename_i hge
      refine List.pairwise_cons.2 ⟨fun e he => ?_, ih ha.2 fun e he => hk e (.tail _ he)⟩
      have hak := hk a (.head _)
      rcases SMap.mem_insert he with rfl | he
      · exact Nat.lt_of_le_of_ne (Nat.le_of_not_lt hge) hak
      · exact ha.1 e he

theorem SMap.rising_put [DecidableEq κ] [DecidableEq α] (ord : κ → Nat) (inj : Function.Injective ord) (d : α)
    (m : SMap κ α) (k : κ) (v : α) (h : SMap.rising ord m) : SMap.rising ord (SMap.put ord d m k v) := by
  unfold SMap.put
  split
  · exact SMap.rising_erase ord m k h
  · exact SMap.rising_insert ord _ k v (SMap.rising_erase ord m k h) fun e he hk => (SMap.mem_erase he).2 (inj hk)

/-- The Bool form says: keys strictly rising, and no entry equal to its default. -/
theorem SMap.wf_iff [DecidableEq α] (ord : κ → Nat) (d : κ → α) (m : SMap κ α) :
    SMap.wf ord d m = true ↔ SMap.rising ord m ∧ ∀ e ∈ m, e.2 ≠ d e.1 := by
  induction m with
  | nil => simp [SMap.wf, SMap.rising]
  | cons a m ih =>
    rw [SMap.wf, Bool.and_eq_true, Bool.and_eq_true, ih, List.all_eq_true]
    simp only [SMap.rising, List.pairwise_cons, List.forall_mem_cons, decide_eq_true_eq]
    constructor
    · rintro ⟨⟨h1, h2⟩, h3, h4⟩; exact ⟨⟨h1, h3⟩, h2, h4⟩
    · rintro ⟨⟨h1, h3⟩, h2, h4⟩; exact ⟨⟨h1, h2⟩, h3, h4⟩

/-- A write keeps the canonical form. -/
theorem SMap.wf_put [DecidableEq κ] [DecidableEq α] (ord : κ → Nat) (inj : Function.Injective ord) (d : α) (m : SMap κ α)
    (k : κ) (v : α) (h : SMap.wf ord (fun _ => d) m = true) : SMap.wf ord (fun _ => d) (SMap.put ord d m k v) = true := by
  rw [SMap.wf_iff] at h ⊢
  refine ⟨SMap.rising_put ord inj d m k v h.1, fun e he => ?_⟩
  unfold SMap.put at he
  split at he
  · exact h.2 e (SMap.mem_erase he).1
  · rename_i hv
    rcases SMap.mem_insert he with rfl | he
    · exact hv
    · exact h.2 e (SMap.mem_erase he).1

theorem nput_wf [DecidableEq α] (d : α) (m : SMap Nat α) (k : Nat) (v : α) (h : SMap.wf id (fun _ => d) m = true) :
    SMap.wf id (fun _ => d) (nput d m k v) = true := SMap.wf_put id Function.injective_id d m k v h

/-- The order of field keys tells keys apart. -/
theorem FKey.ord_injective : Function.Injective FKey.ord := by
  rintro ⟨p, o, l, i⟩ ⟨p', o', l', i'⟩ h
  have h1 := Nat.pair_eq_pair.1 h
  have h2 := Nat.pair_eq_pair.1 h1.1
  have h3 := Nat.pair_eq_pair.1 h1.2
  simp only [FKey.mk.injEq]
  exact ⟨h2.1, h2.2, h3.1, h3.2⟩

end Sys2Proof.Machine
end

