-- ==== Sys2Proof/Laws/State.lean ====
section
/-!
SUPPORT. Every update beside State: which part of the state each leaves as it was, and what a register field reads after a
write.
-/

namespace Sys2Proof.Machine

/-! ### Register fields -/

theorem State.get_eq_of_regs {s u : State} (h : u.regs = s.regs) (p : Nat) (f : Fld) (i : Nat) : u.get p f i = s.get p f i := by
  unfold State.get; rw [h]

@[simp] theorem State.get_set_same (s : State) (p : Nat) (f : Fld) (v i : Nat) : (s.set p f v i).get p f i = v % 2 ^ f.w :=
  SMap.get_put_same ..

theorem State.get_set_ne (s : State) {p p' : Nat} {f f' : Fld} {i i' : Nat} (v : Nat) (h : fkey p f i ≠ fkey p' f' i') :
    (s.set p f v i).get p' f' i' = s.get p' f' i' := SMap.get_put_ne _ _ _ _ _ h

theorem fkey_off {p p' : Nat} {f f' : Fld} {i i' : Nat} (h : f.off ≠ f'.off) : fkey p f i ≠ fkey p' f' i' := fun e =>
  h (congrArg FKey.off e)
theorem fkey_lo {p p' : Nat} {f f' : Fld} {i i' : Nat} (h : f.lo ≠ f'.lo) : fkey p f i ≠ fkey p' f' i' := fun e =>
  h (congrArg FKey.lo e)
theorem fkey_page {p p' : Nat} {f f' : Fld} {i i' : Nat} (h : p ≠ p') : fkey p f i ≠ fkey p' f' i' := fun e =>
  h (congrArg FKey.p e)
theorem fkey_inst {p p' : Nat} {f f' : Fld} {i i' : Nat} (h : i ≠ i') : fkey p f i ≠ fkey p' f' i' := fun e =>
  h (congrArg FKey.i e)

/-- Two fields of a page at different places of it. -/
theorem State.get_set_off (s : State) {p p' : Nat} {f f' : Fld} {i i' : Nat} (v : Nat) (h : f.off ≠ f'.off) :
    (s.set p f v i).get p' f' i' = s.get p' f' i' := s.get_set_ne v (fkey_off h)
theorem State.get_set_lo (s : State) {p p' : Nat} {f f' : Fld} {i i' : Nat} (v : Nat) (h : f.lo ≠ f'.lo) :
    (s.set p f v i).get p' f' i' = s.get p' f' i' := s.get_set_ne v (fkey_lo h)
theorem State.get_set_page (s : State) {p p' : Nat} {f f' : Fld} {i i' : Nat} (v : Nat) (h : p ≠ p') :
    (s.set p f v i).get p' f' i' = s.get p' f' i' := s.get_set_ne v (fkey_page h)
theorem State.get_set_inst (s : State) {p p' : Nat} {f f' : Fld} {i i' : Nat} (v : Nat) (h : i ≠ i') :
    (s.set p f v i).get p' f' i' = s.get p' f' i' := s.get_set_ne v (fkey_inst h)

theorem State.find?_set_ne (s : State) {p : Nat} {f : Fld} {i : Nat} (v : Nat) {k : FKey} (h : fkey p f i ≠ k) :
    SMap.find? (s.set p f v i).regs k = SMap.find? s.regs k := SMap.find?_put_ne _ _ _ _ h

theorem State.setFlag_eq (s : State) (p : Nat) (f : Fld) (b : Bool) (i : Nat) : s.setFlag p f b i = s.set p f (bit b) i := rfl
theorem State.count_eq (s : State) (p : Nat) (f : Fld) (n i : Nat) :
    s.count p f n i = s.set p f (min (s.get p f i + n) (2 ^ f.w - 1)) i := rfl
theorem State.flag_eq (s : State) (p : Nat) (f : Fld) (i : Nat) : s.flag p f i = (s.get p f i == 1) := rfl

/-- A counter after it has counted. -/
@[simp] theorem State.get_count_same (s : State) (p : Nat) (f : Fld) (n i : Nat) :
    (s.count p f n i).get p f i = min (s.get p f i + n) (2 ^ f.w - 1) := by
  rw [State.count_eq, State.get_set_same, Nat.mod_eq_of_lt]
  have : 0 < 2 ^ f.w := Nat.pow_pos (by decide)
  omega

/-! ### Bytes -/

@[simp] theorem State.byte_setByte_same (s : State) (a : Nat) (b : Byte) : (s.setByte a b).byte a = b := nget_nput_same ..
theorem State.byte_setByte_ne (s : State) {a a' : Nat} (b : Byte) (h : a ≠ a') : (s.setByte a b).byte a' = s.byte a' :=
  nget_nput_ne _ _ _ _ h
theorem State.byte_eq_of_mem {s u : State} (h : u.mem = s.mem) (a : Nat) : u.byte a = s.byte a := by unfold State.byte; rw [h]

/-! ### What each update leaves as it was -/

@[simp] theorem State.set_part (s : State) (p : Nat) (f : Fld) (v i : Nat) : (s.set p f v i).part = s.part := rfl
@[simp] theorem State.set_now (s : State) (p : Nat) (f : Fld) (v i : Nat) : (s.set p f v i).now = s.now := rfl
@[simp] theorem State.set_freeCtr (s : State) (p : Nat) (f : Fld) (v i : Nat) : (s.set p f v i).freeCtr = s.freeCtr := rfl
@[simp] theorem State.set_lastResp (s : State) (p : Nat) (f : Fld) (v i : Nat) : (s.set p f v i).lastResp = s.lastResp := rfl
@[simp] theorem State.set_mem (s : State) (p : Nat) (f : Fld) (v i : Nat) : (s.set p f v i).mem = s.mem := rfl
@[simp] theorem State.set_msix (s : State) (p : Nat) (f : Fld) (v i : Nat) : (s.set p f v i).msix = s.msix := rfl
@[simp] theorem State.set_ctrl (s : State) (p : Nat) (f : Fld) (v i : Nat) : (s.set p f v i).ctrl = s.ctrl := rfl
@[simp] theorem State.set_cinch (s : State) (p : Nat) (f : Fld) (v i : Nat) : (s.set p f v i).cinch = s.cinch := rfl
@[simp] theorem State.set_life (s : State) (p : Nat) (f : Fld) (v i : Nat) : (s.set p f v i).life = s.life := rfl
@[simp] theorem State.set_tiles (s : State) (p : Nat) (f : Fld) (v i : Nat) : (s.set p f v i).tiles = s.tiles := rfl
@[simp] theorem State.set_fabric (s : State) (p : Nat) (f : Fld) (v i : Nat) : (s.set p f v i).fabric = s.fabric := rfl
@[simp] theorem State.set_mix (s : State) (p : Nat) (f : Fld) (v i : Nat) : (s.set p f v i).mix = s.mix := rfl
@[simp] theorem State.set_girth (s : State) (p : Nat) (f : Fld) (v i : Nat) : (s.set p f v i).girth = s.girth := rfl
@[simp] theorem State.set_harness (s : State) (p : Nat) (f : Fld) (v i : Nat) : (s.set p f v i).harness = s.harness := rfl
@[simp] theorem State.set_drams (s : State) (p : Nat) (f : Fld) (v i : Nat) : (s.set p f v i).drams = s.drams := rfl
@[simp] theorem State.set_lanes (s : State) (p : Nat) (f : Fld) (v i : Nat) : (s.set p f v i).lanes = s.lanes := rfl
@[simp] theorem State.set_macs (s : State) (p : Nat) (f : Fld) (v i : Nat) : (s.set p f v i).macs = s.macs := rfl
@[simp] theorem State.set_time (s : State) (p : Nat) (f : Fld) (v i : Nat) : (s.set p f v i).time = s.time := rfl
@[simp] theorem State.set_rein (s : State) (p : Nat) (f : Fld) (v i : Nat) : (s.set p f v i).rein = s.rein := rfl
@[simp] theorem State.set_flow (s : State) (p : Nat) (f : Fld) (v i : Nat) : (s.set p f v i).flow = s.flow := rfl
@[simp] theorem State.set_saps (s : State) (p : Nat) (f : Fld) (v i : Nat) : (s.set p f v i).saps = s.saps := rfl
@[simp] theorem State.set_loops (s : State) (p : Nat) (f : Fld) (v i : Nat) : (s.set p f v i).loops = s.loops := rfl
@[simp] theorem State.set_keeper (s : State) (p : Nat) (f : Fld) (v i : Nat) : (s.set p f v i).keeper = s.keeper := rfl
@[simp] theorem State.set_pending (s : State) (p : Nat) (f : Fld) (v i : Nat) : (s.set p f v i).pending = s.pending := rfl
@[simp] theorem State.set_byte (s : State) (p : Nat) (f : Fld) (v i : Nat) (z : Nat) : (s.set p f v i).byte z = s.byte z := rfl
@[simp] theorem State.set_present (s : State) (p : Nat) (f : Fld) (v i : Nat) (q : Nat) : (s.set p f v i).present q = s.present q := rfl

@[simp] theorem State.setFlag_part (s : State) (p : Nat) (f : Fld) (b : Bool) (i : Nat) : (s.setFlag p f b i).part = s.part := rfl
@[simp] theorem State.setFlag_now (s : State) (p : Nat) (f : Fld) (b : Bool) (i : Nat) : (s.setFlag p f b i).now = s.now := rfl
@[simp] theorem State.setFlag_freeCtr (s : State) (p : Nat) (f : Fld) (b : Bool) (i : Nat) : (s.setFlag p f b i).freeCtr = s.freeCtr := rfl
@[simp] theorem State.setFlag_lastResp (s : State) (p : Nat) (f : Fld) (b : Bool) (i : Nat) : (s.setFlag p f b i).lastResp = s.lastResp := rfl
@[simp] theorem State.setFlag_mem (s : State) (p : Nat) (f : Fld) (b : Bool) (i : Nat) : (s.setFlag p f b i).mem = s.mem := rfl
@[simp] theorem State.setFlag_msix (s : State) (p : Nat) (f : Fld) (b : Bool) (i : Nat) : (s.setFlag p f b i).msix = s.msix := rfl
@[simp] theorem State.setFlag_ctrl (s : State) (p : Nat) (f : Fld) (b : Bool) (i : Nat) : (s.setFlag p f b i).ctrl = s.ctrl := rfl
@[simp] theorem State.setFlag_cinch (s : State) (p : Nat) (f : Fld) (b : Bool) (i : Nat) : (s.setFlag p f b i).cinch = s.cinch := rfl
@[simp] theorem State.setFlag_life (s : State) (p : Nat) (f : Fld) (b : Bool) (i : Nat) : (s.setFlag p f b i).life = s.life := rfl
@[simp] theorem State.setFlag_tiles (s : State) (p : Nat) (f : Fld) (b : Bool) (i : Nat) : (s.setFlag p f b i).tiles = s.tiles := rfl
@[simp] theorem State.setFlag_fabric (s : State) (p : Nat) (f : Fld) (b : Bool) (i : Nat) : (s.setFlag p f b i).fabric = s.fabric := rfl
@[simp] theorem State.setFlag_mix (s : State) (p : Nat) (f : Fld) (b : Bool) (i : Nat) : (s.setFlag p f b i).mix = s.mix := rfl
@[simp] theorem State.setFlag_girth (s : State) (p : Nat) (f : Fld) (b : Bool) (i : Nat) : (s.setFlag p f b i).girth = s.girth := rfl
@[simp] theorem State.setFlag_harness (s : State) (p : Nat) (f : Fld) (b : Bool) (i : Nat) : (s.setFlag p f b i).harness = s.harness := rfl
@[simp] theorem State.setFlag_drams (s : State) (p : Nat) (f : Fld) (b : Bool) (i : Nat) : (s.setFlag p f b i).drams = s.drams := rfl
@[simp] theorem State.setFlag_lanes (s : State) (p : Nat) (f : Fld) (b : Bool) (i : Nat) : (s.setFlag p f b i).lanes = s.lanes := rfl
@[simp] theorem State.setFlag_macs (s : State) (p : Nat) (f : Fld) (b : Bool) (i : Nat) : (s.setFlag p f b i).macs = s.macs := rfl
@[simp] theorem State.setFlag_time (s : State) (p : Nat) (f : Fld) (b : Bool) (i : Nat) : (s.setFlag p f b i).time = s.time := rfl
@[simp] theorem State.setFlag_rein (s : State) (p : Nat) (f : Fld) (b : Bool) (i : Nat) : (s.setFlag p f b i).rein = s.rein := rfl
@[simp] theorem State.setFlag_flow (s : State) (p : Nat) (f : Fld) (b : Bool) (i : Nat) : (s.setFlag p f b i).flow = s.flow := rfl
@[simp] theorem State.setFlag_saps (s : State) (p : Nat) (f : Fld) (b : Bool) (i : Nat) : (s.setFlag p f b i).saps = s.saps := rfl
@[simp] theorem State.setFlag_loops (s : State) (p : Nat) (f : Fld) (b : Bool) (i : Nat) : (s.setFlag p f b i).loops = s.loops := rfl
@[simp] theorem State.setFlag_keeper (s : State) (p : Nat) (f : Fld) (b : Bool) (i : Nat) : (s.setFlag p f b i).keeper = s.keeper := rfl
@[simp] theorem State.setFlag_pending (s : State) (p : Nat) (f : Fld) (b : Bool) (i : Nat) : (s.setFlag p f b i).pending = s.pending := rfl
@[simp] theorem State.setFlag_byte (s : State) (p : Nat) (f : Fld) (b : Bool) (i : Nat) (z : Nat) : (s.setFlag p f b i).byte z = s.byte z := rfl
@[simp] theorem State.setFlag_present (s : State) (p : Nat) (f : Fld) (b : Bool) (i : Nat) (q : Nat) : (s.setFlag p f b i).present q = s.present q := rfl

@[simp] theorem State.count_part (s : State) (p : Nat) (f : Fld) (n i : Nat) : (s.count p f n i).part = s.part := rfl
@[simp] theorem State.count_now (s : State) (p : Nat) (f : Fld) (n i : Nat) : (s.count p f n i).now = s.now := rfl
@[simp] theorem State.count_freeCtr (s : State) (p : Nat) (f : Fld) (n i : Nat) : (s.count p f n i).freeCtr = s.freeCtr := rfl
@[simp] theorem State.count_lastResp (s : State) (p : Nat) (f : Fld) (n i : Nat) : (s.count p f n i).lastResp = s.lastResp := rfl
@[simp] theorem State.count_mem (s : State) (p : Nat) (f : Fld) (n i : Nat) : (s.count p f n i).mem = s.mem := rfl
@[simp] theorem State.count_msix (s : State) (p : Nat) (f : Fld) (n i : Nat) : (s.count p f n i).msix = s.msix := rfl
@[simp] theorem State.count_ctrl (s : State) (p : Nat) (f : Fld) (n i : Nat) : (s.count p f n i).ctrl = s.ctrl := rfl
@[simp] theorem State.count_cinch (s : State) (p : Nat) (f : Fld) (n i : Nat) : (s.count p f n i).cinch = s.cinch := rfl
@[simp] theorem State.count_life (s : State) (p : Nat) (f : Fld) (n i : Nat) : (s.count p f n i).life = s.life := rfl
@[simp] theorem State.count_tiles (s : State) (p : Nat) (f : Fld) (n i : Nat) : (s.count p f n i).tiles = s.tiles := rfl
@[simp] theorem State.count_fabric (s : State) (p : Nat) (f : Fld) (n i : Nat) : (s.count p f n i).fabric = s.fabric := rfl
@[simp] theorem State.count_mix (s : State) (p : Nat) (f : Fld) (n i : Nat) : (s.count p f n i).mix = s.mix := rfl
@[simp] theorem State.count_girth (s : State) (p : Nat) (f : Fld) (n i : Nat) : (s.count p f n i).girth = s.girth := rfl
@[simp] theorem State.count_harness (s : State) (p : Nat) (f : Fld) (n i : Nat) : (s.count p f n i).harness = s.harness := rfl
@[simp] theorem State.count_drams (s : State) (p : Nat) (f : Fld) (n i : Nat) : (s.count p f n i).drams = s.drams := rfl
@[simp] theorem State.count_lanes (s : State) (p : Nat) (f : Fld) (n i : Nat) : (s.count p f n i).lanes = s.lanes := rfl
@[simp] theorem State.count_macs (s : State) (p : Nat) (f : Fld) (n i : Nat) : (s.count p f n i).macs = s.macs := rfl
@[simp] theorem State.count_time (s : State) (p : Nat) (f : Fld) (n i : Nat) : (s.count p f n i).time = s.time := rfl
@[simp] theorem State.count_rein (s : State) (p : Nat) (f : Fld) (n i : Nat) : (s.count p f n i).rein = s.rein := rfl
@[simp] theorem State.count_flow (s : State) (p : Nat) (f : Fld) (n i : Nat) : (s.count p f n i).flow = s.flow := rfl
@[simp] theorem State.count_saps (s : State) (p : Nat) (f : Fld) (n i : Nat) : (s.count p f n i).saps = s.saps := rfl
@[simp] theorem State.count_loops (s : State) (p : Nat) (f : Fld) (n i : Nat) : (s.count p f n i).loops = s.loops := rfl
@[simp] theorem State.count_keeper (s : State) (p : Nat) (f : Fld) (n i : Nat) : (s.count p f n i).keeper = s.keeper := rfl
@[simp] theorem State.count_pending (s : State) (p : Nat) (f : Fld) (n i : Nat) : (s.count p f n i).pending = s.pending := rfl
@[simp] theorem State.count_byte (s : State) (p : Nat) (f : Fld) (n i : Nat) (z : Nat) : (s.count p f n i).byte z = s.byte z := rfl
@[simp] theorem State.count_present (s : State) (p : Nat) (f : Fld) (n i : Nat) (q : Nat) : (s.count p f n i).present q = s.present q := rfl

@[simp] theorem State.resetPage_part (s : State) (p : Nat) (k : FKey → Bool) : (s.resetPage p k).part = s.part := rfl
@[simp] theorem State.resetPage_now (s : State) (p : Nat) (k : FKey → Bool) : (s.resetPage p k).now = s.now := rfl
@[simp] theorem State.resetPage_freeCtr (s : State) (p : Nat) (k : FKey → Bool) : (s.resetPage p k).freeCtr = s.freeCtr := rfl
@[simp] theorem State.resetPage_lastResp (s : State) (p : Nat) (k : FKey → Bool) : (s.resetPage p k).lastResp = s.lastResp := rfl
@[simp] theorem State.resetPage_mem (s : State) (p : Nat) (k : FKey → Bool) : (s.resetPage p k).mem = s.mem := rfl
@[simp] theorem State.resetPage_msix (s : State) (p : Nat) (k : FKey → Bool) : (s.resetPage p k).msix = s.msix := rfl
@[simp] theorem State.resetPage_ctrl (s : State) (p : Nat) (k : FKey → Bool) : (s.resetPage p k).ctrl = s.ctrl := rfl
@[simp] theorem State.resetPage_cinch (s : State) (p : Nat) (k : FKey → Bool) : (s.resetPage p k).cinch = s.cinch := rfl
@[simp] theorem State.resetPage_life (s : State) (p : Nat) (k : FKey → Bool) : (s.resetPage p k).life = s.life := rfl
@[simp] theorem State.resetPage_tiles (s : State) (p : Nat) (k : FKey → Bool) : (s.resetPage p k).tiles = s.tiles := rfl
@[simp] theorem State.resetPage_fabric (s : State) (p : Nat) (k : FKey → Bool) : (s.resetPage p k).fabric = s.fabric := rfl
@[simp] theorem State.resetPage_mix (s : State) (p : Nat) (k : FKey → Bool) : (s.resetPage p k).mix = s.mix := rfl
@[simp] theorem State.resetPage_girth (s : State) (p : Nat) (k : FKey → Bool) : (s.resetPage p k).girth = s.girth := rfl
@[simp] theorem State.resetPage_harness (s : State) (p : Nat) (k : FKey → Bool) : (s.resetPage p k).harness = s.harness := rfl
@[simp] theorem State.resetPage_drams (s : State) (p : Nat) (k : FKey → Bool) : (s.resetPage p k).drams = s.drams := rfl
@[simp] theorem State.resetPage_lanes (s : State) (p : Nat) (k : FKey → Bool) : (s.resetPage p k).lanes = s.lanes := rfl
@[simp] theorem State.resetPage_macs (s : State) (p : Nat) (k : FKey → Bool) : (s.resetPage p k).macs = s.macs := rfl
@[simp] theorem State.resetPage_time (s : State) (p : Nat) (k : FKey → Bool) : (s.resetPage p k).time = s.time := rfl
@[simp] theorem State.resetPage_rein (s : State) (p : Nat) (k : FKey → Bool) : (s.resetPage p k).rein = s.rein := rfl
@[simp] theorem State.resetPage_flow (s : State) (p : Nat) (k : FKey → Bool) : (s.resetPage p k).flow = s.flow := rfl
@[simp] theorem State.resetPage_saps (s : State) (p : Nat) (k : FKey → Bool) : (s.resetPage p k).saps = s.saps := rfl
@[simp] theorem State.resetPage_loops (s : State) (p : Nat) (k : FKey → Bool) : (s.resetPage p k).loops = s.loops := rfl
@[simp] theorem State.resetPage_keeper (s : State) (p : Nat) (k : FKey → Bool) : (s.resetPage p k).keeper = s.keeper := rfl
@[simp] theorem State.resetPage_pending (s : State) (p : Nat) (k : FKey → Bool) : (s.resetPage p k).pending = s.pending := rfl
@[simp] theorem State.resetPage_byte (s : State) (p : Nat) (k : FKey → Bool) (z : Nat) : (s.resetPage p k).byte z = s.byte z := rfl
@[simp] theorem State.resetPage_present (s : State) (p : Nat) (k : FKey → Bool) (q : Nat) : (s.resetPage p k).present q = s.present q := rfl

@[simp] theorem State.free_part (s : State) : (s.free.2).part = s.part := rfl
@[simp] theorem State.free_now (s : State) : (s.free.2).now = s.now := rfl
@[simp] theorem State.free_lastResp (s : State) : (s.free.2).lastResp = s.lastResp := rfl
@[simp] theorem State.free_regs (s : State) : (s.free.2).regs = s.regs := rfl
@[simp] theorem State.free_mem (s : State) : (s.free.2).mem = s.mem := rfl
@[simp] theorem State.free_msix (s : State) : (s.free.2).msix = s.msix := rfl
@[simp] theorem State.free_ctrl (s : State) : (s.free.2).ctrl = s.ctrl := rfl
@[simp] theorem State.free_cinch (s : State) : (s.free.2).cinch = s.cinch := rfl
@[simp] theorem State.free_life (s : State) : (s.free.2).life = s.life := rfl
@[simp] theorem State.free_tiles (s : State) : (s.free.2).tiles = s.tiles := rfl
@[simp] theorem State.free_fabric (s : State) : (s.free.2).fabric = s.fabric := rfl
@[simp] theorem State.free_mix (s : State) : (s.free.2).mix = s.mix := rfl
@[simp] theorem State.free_girth (s : State) : (s.free.2).girth = s.girth := rfl
@[simp] theorem State.free_harness (s : State) : (s.free.2).harness = s.harness := rfl
@[simp] theorem State.free_drams (s : State) : (s.free.2).drams = s.drams := rfl
@[simp] theorem State.free_lanes (s : State) : (s.free.2).lanes = s.lanes := rfl
@[simp] theorem State.free_macs (s : State) : (s.free.2).macs = s.macs := rfl
@[simp] theorem State.free_time (s : State) : (s.free.2).time = s.time := rfl
@[simp] theorem State.free_rein (s : State) : (s.free.2).rein = s.rein := rfl
@[simp] theorem State.free_flow (s : State) : (s.free.2).flow = s.flow := rfl
@[simp] theorem State.free_saps (s : State) : (s.free.2).saps = s.saps := rfl
@[simp] theorem State.free_loops (s : State) : (s.free.2).loops = s.loops := rfl
@[simp] theorem State.free_keeper (s : State) : (s.free.2).keeper = s.keeper := rfl
@[simp] theorem State.free_pending (s : State) : (s.free.2).pending = s.pending := rfl
@[simp] theorem State.free_get (s : State)  (q : Nat) (g : Fld) (j : Nat) : (s.free.2).get q g j = s.get q g j := rfl
@[simp] theorem State.free_flag (s : State)  (q : Nat) (g : Fld) (j : Nat) : (s.free.2).flag q g j = s.flag q g j := rfl
@[simp] theorem State.free_byte (s : State)  (z : Nat) : (s.free.2).byte z = s.byte z := rfl
@[simp] theorem State.free_present (s : State)  (q : Nat) : (s.free.2).present q = s.present q := rfl

@[simp] theorem State.setByte_part (s : State) (a : Nat) (b : Byte) : (s.setByte a b).part = s.part := rfl
@[simp] theorem State.setByte_now (s : State) (a : Nat) (b : Byte) : (s.setByte a b).now = s.now := rfl
@[simp] theorem State.setByte_freeCtr (s : State) (a : Nat) (b : Byte) : (s.setByte a b).freeCtr = s.freeCtr := rfl
@[simp] theorem State.setByte_lastResp (s : State) (a : Nat) (b : Byte) : (s.setByte a b).lastResp = s.lastResp := rfl
@[simp] theorem State.setByte_regs (s : State) (a : Nat) (b : Byte) : (s.setByte a b).regs = s.regs := rfl
@[simp] theorem State.setByte_msix (s : State) (a : Nat) (b : Byte) : (s.setByte a b).msix = s.msix := rfl
@[simp] theorem State.setByte_ctrl (s : State) (a : Nat) (b : Byte) : (s.setByte a b).ctrl = s.ctrl := rfl
@[simp] theorem State.setByte_cinch (s : State) (a : Nat) (b : Byte) : (s.setByte a b).cinch = s.cinch := rfl
@[simp] theorem State.setByte_life (s : State) (a : Nat) (b : Byte) : (s.setByte a b).life = s.life := rfl
@[simp] theorem State.setByte_tiles (s : State) (a : Nat) (b : Byte) : (s.setByte a b).tiles = s.tiles := rfl
@[simp] theorem State.setByte_fabric (s : State) (a : Nat) (b : Byte) : (s.setByte a b).fabric = s.fabric := rfl
@[simp] theorem State.setByte_mix (s : State) (a : Nat) (b : Byte) : (s.setByte a b).mix = s.mix := rfl
@[simp] theorem State.setByte_girth (s : State) (a : Nat) (b : Byte) : (s.setByte a b).girth = s.girth := rfl
@[simp] theorem State.setByte_harness (s : State) (a : Nat) (b : Byte) : (s.setByte a b).harness = s.harness := rfl
@[simp] theorem State.setByte_drams (s : State) (a : Nat) (b : Byte) : (s.setByte a b).drams = s.drams := rfl
@[simp] theorem State.setByte_lanes (s : State) (a : Nat) (b : Byte) : (s.setByte a b).lanes = s.lanes := rfl
@[simp] theorem State.setByte_macs (s : State) (a : Nat) (b : Byte) : (s.setByte a b).macs = s.macs := rfl
@[simp] theorem State.setByte_time (s : State) (a : Nat) (b : Byte) : (s.setByte a b).time = s.time := rfl
@[simp] theorem State.setByte_rein (s : State) (a : Nat) (b : Byte) : (s.setByte a b).rein = s.rein := rfl
@[simp] theorem State.setByte_flow (s : State) (a : Nat) (b : Byte) : (s.setByte a b).flow = s.flow := rfl
@[simp] theorem State.setByte_saps (s : State) (a : Nat) (b : Byte) : (s.setByte a b).saps = s.saps := rfl
@[simp] theorem State.setByte_loops (s : State) (a : Nat) (b : Byte) : (s.setByte a b).loops = s.loops := rfl
@[simp] theorem State.setByte_keeper (s : State) (a : Nat) (b : Byte) : (s.setByte a b).keeper = s.keeper := rfl
@[simp] theorem State.setByte_pending (s : State) (a : Nat) (b : Byte) : (s.setByte a b).pending = s.pending := rfl
@[simp] theorem State.setByte_get (s : State) (a : Nat) (b : Byte) (q : Nat) (g : Fld) (j : Nat) : (s.setByte a b).get q g j = s.get q g j := rfl
@[simp] theorem State.setByte_flag (s : State) (a : Nat) (b : Byte) (q : Nat) (g : Fld) (j : Nat) : (s.setByte a b).flag q g j = s.flag q g j := rfl
@[simp] theorem State.setByte_present (s : State) (a : Nat) (b : Byte) (q : Nat) : (s.setByte a b).present q = s.present q := rfl

@[simp] theorem State.sendMsix_part (s : State) (v : Nat) : (s.sendMsix v).part = s.part := rfl
@[simp] theorem State.sendMsix_now (s : State) (v : Nat) : (s.sendMsix v).now = s.now := rfl
@[simp] theorem State.sendMsix_freeCtr (s : State) (v : Nat) : (s.sendMsix v).freeCtr = s.freeCtr := rfl
@[simp] theorem State.sendMsix_lastResp (s : State) (v : Nat) : (s.sendMsix v).lastResp = s.lastResp := rfl
@[simp] theorem State.sendMsix_regs (s : State) (v : Nat) : (s.sendMsix v).regs = s.regs := rfl
@[simp] theorem State.sendMsix_mem (s : State) (v : Nat) : (s.sendMsix v).mem = s.mem := rfl
@[simp] theorem State.sendMsix_ctrl (s : State) (v : Nat) : (s.sendMsix v).ctrl = s.ctrl := rfl
@[simp] theorem State.sendMsix_cinch (s : State) (v : Nat) : (s.sendMsix v).cinch = s.cinch := rfl
@[simp] theorem State.sendMsix_life (s : State) (v : Nat) : (s.sendMsix v).life = s.life := rfl
@[simp] theorem State.sendMsix_tiles (s : State) (v : Nat) : (s.sendMsix v).tiles = s.tiles := rfl
@[simp] theorem State.sendMsix_fabric (s : State) (v : Nat) : (s.sendMsix v).fabric = s.fabric := rfl
@[simp] theorem State.sendMsix_mix (s : State) (v : Nat) : (s.sendMsix v).mix = s.mix := rfl
@[simp] theorem State.sendMsix_girth (s : State) (v : Nat) : (s.sendMsix v).girth = s.girth := rfl
@[simp] theorem State.sendMsix_harness (s : State) (v : Nat) : (s.sendMsix v).harness = s.harness := rfl
@[simp] theorem State.sendMsix_drams (s : State) (v : Nat) : (s.sendMsix v).drams = s.drams := rfl
@[simp] theorem State.sendMsix_lanes (s : State) (v : Nat) : (s.sendMsix v).lanes = s.lanes := rfl
@[simp] theorem State.sendMsix_macs (s : State) (v : Nat) : (s.sendMsix v).macs = s.macs := rfl
@[simp] theorem State.sendMsix_time (s : State) (v : Nat) : (s.sendMsix v).time = s.time := rfl
@[simp] theorem State.sendMsix_rein (s : State) (v : Nat) : (s.sendMsix v).rein = s.rein := rfl
@[simp] theorem State.sendMsix_flow (s : State) (v : Nat) : (s.sendMsix v).flow = s.flow := rfl
@[simp] theorem State.sendMsix_saps (s : State) (v : Nat) : (s.sendMsix v).saps = s.saps := rfl
@[simp] theorem State.sendMsix_loops (s : State) (v : Nat) : (s.sendMsix v).loops = s.loops := rfl
@[simp] theorem State.sendMsix_keeper (s : State) (v : Nat) : (s.sendMsix v).keeper = s.keeper := rfl
@[simp] theorem State.sendMsix_pending (s : State) (v : Nat) : (s.sendMsix v).pending = s.pending := rfl
@[simp] theorem State.sendMsix_get (s : State) (v : Nat) (q : Nat) (g : Fld) (j : Nat) : (s.sendMsix v).get q g j = s.get q g j := rfl
@[simp] theorem State.sendMsix_flag (s : State) (v : Nat) (q : Nat) (g : Fld) (j : Nat) : (s.sendMsix v).flag q g j = s.flag q g j := rfl
@[simp] theorem State.sendMsix_byte (s : State) (v : Nat) (z : Nat) : (s.sendMsix v).byte z = s.byte z := rfl
@[simp] theorem State.sendMsix_present (s : State) (v : Nat) (q : Nat) : (s.sendMsix v).present q = s.present q := rfl

@[simp] theorem State.answer_part (s : State) (r : Resp) : (s.answer r).part = s.part := rfl
@[simp] theorem State.answer_now (s : State) (r : Resp) : (s.answer r).now = s.now := rfl
@[simp] theorem State.answer_freeCtr (s : State) (r : Resp) : (s.answer r).freeCtr = s.freeCtr := rfl
@[simp] theorem State.answer_regs (s : State) (r : Resp) : (s.answer r).regs = s.regs := rfl
@[simp] theorem State.answer_mem (s : State) (r : Resp) : (s.answer r).mem = s.mem := rfl
@[simp] theorem State.answer_msix (s : State) (r : Resp) : (s.answer r).msix = s.msix := rfl
@[simp] theorem State.answer_ctrl (s : State) (r : Resp) : (s.answer r).ctrl = s.ctrl := rfl
@[simp] theorem State.answer_cinch (s : State) (r : Resp) : (s.answer r).cinch = s.cinch := rfl
@[simp] theorem State.answer_life (s : State) (r : Resp) : (s.answer r).life = s.life := rfl
@[simp] theorem State.answer_tiles (s : State) (r : Resp) : (s.answer r).tiles = s.tiles := rfl
@[simp] theorem State.answer_fabric (s : State) (r : Resp) : (s.answer r).fabric = s.fabric := rfl
@[simp] theorem State.answer_mix (s : State) (r : Resp) : (s.answer r).mix = s.mix := rfl
@[simp] theorem State.answer_girth (s : State) (r : Resp) : (s.answer r).girth = s.girth := rfl
@[simp] theorem State.answer_harness (s : State) (r : Resp) : (s.answer r).harness = s.harness := rfl
@[simp] theorem State.answer_drams (s : State) (r : Resp) : (s.answer r).drams = s.drams := rfl
@[simp] theorem State.answer_lanes (s : State) (r : Resp) : (s.answer r).lanes = s.lanes := rfl
@[simp] theorem State.answer_macs (s : State) (r : Resp) : (s.answer r).macs = s.macs := rfl
@[simp] theorem State.answer_time (s : State) (r : Resp) : (s.answer r).time = s.time := rfl
@[simp] theorem State.answer_rein (s : State) (r : Resp) : (s.answer r).rein = s.rein := rfl
@[simp] theorem State.answer_flow (s : State) (r : Resp) : (s.answer r).flow = s.flow := rfl
@[simp] theorem State.answer_saps (s : State) (r : Resp) : (s.answer r).saps = s.saps := rfl
@[simp] theorem State.answer_loops (s : State) (r : Resp) : (s.answer r).loops = s.loops := rfl
@[simp] theorem State.answer_keeper (s : State) (r : Resp) : (s.answer r).keeper = s.keeper := rfl
@[simp] theorem State.answer_pending (s : State) (r : Resp) : (s.answer r).pending = s.pending := rfl
@[simp] theorem State.answer_get (s : State) (r : Resp) (q : Nat) (g : Fld) (j : Nat) : (s.answer r).get q g j = s.get q g j := rfl
@[simp] theorem State.answer_flag (s : State) (r : Resp) (q : Nat) (g : Fld) (j : Nat) : (s.answer r).flag q g j = s.flag q g j := rfl
@[simp] theorem State.answer_byte (s : State) (r : Resp) (z : Nat) : (s.answer r).byte z = s.byte z := rfl
@[simp] theorem State.answer_present (s : State) (r : Resp) (q : Nat) : (s.answer r).present q = s.present q := rfl

@[simp] theorem State.lifePut_part (s : State) (p i v : Nat) : (s.lifePut p i v).part = s.part := rfl
@[simp] theorem State.lifePut_now (s : State) (p i v : Nat) : (s.lifePut p i v).now = s.now := rfl
@[simp] theorem State.lifePut_freeCtr (s : State) (p i v : Nat) : (s.lifePut p i v).freeCtr = s.freeCtr := rfl
@[simp] theorem State.lifePut_lastResp (s : State) (p i v : Nat) : (s.lifePut p i v).lastResp = s.lastResp := rfl
@[simp] theorem State.lifePut_regs (s : State) (p i v : Nat) : (s.lifePut p i v).regs = s.regs := rfl
@[simp] theorem State.lifePut_mem (s : State) (p i v : Nat) : (s.lifePut p i v).mem = s.mem := rfl
@[simp] theorem State.lifePut_msix (s : State) (p i v : Nat) : (s.lifePut p i v).msix = s.msix := rfl
@[simp] theorem State.lifePut_ctrl (s : State) (p i v : Nat) : (s.lifePut p i v).ctrl = s.ctrl := rfl
@[simp] theorem State.lifePut_cinch (s : State) (p i v : Nat) : (s.lifePut p i v).cinch = s.cinch := rfl
@[simp] theorem State.lifePut_tiles (s : State) (p i v : Nat) : (s.lifePut p i v).tiles = s.tiles := rfl
@[simp] theorem State.lifePut_fabric (s : State) (p i v : Nat) : (s.lifePut p i v).fabric = s.fabric := rfl
@[simp] theorem State.lifePut_mix (s : State) (p i v : Nat) : (s.lifePut p i v).mix = s.mix := rfl
@[simp] theorem State.lifePut_girth (s : State) (p i v : Nat) : (s.lifePut p i v).girth = s.girth := rfl
@[simp] theorem State.lifePut_harness (s : State) (p i v : Nat) : (s.lifePut p i v).harness = s.harness := rfl
@[simp] theorem State.lifePut_drams (s : State) (p i v : Nat) : (s.lifePut p i v).drams = s.drams := rfl
@[simp] theorem State.lifePut_lanes (s : State) (p i v : Nat) : (s.lifePut p i v).lanes = s.lanes := rfl
@[simp] theorem State.lifePut_macs (s : State) (p i v : Nat) : (s.lifePut p i v).macs = s.macs := rfl
@[simp] theorem State.lifePut_time (s : State) (p i v : Nat) : (s.lifePut p i v).time = s.time := rfl
@[simp] theorem State.lifePut_rein (s : State) (p i v : Nat) : (s.lifePut p i v).rein = s.rein := rfl
@[simp] theorem State.lifePut_flow (s : State) (p i v : Nat) : (s.lifePut p i v).flow = s.flow := rfl
@[simp] theorem State.lifePut_saps (s : State) (p i v : Nat) : (s.lifePut p i v).saps = s.saps := rfl
@[simp] theorem State.lifePut_loops (s : State) (p i v : Nat) : (s.lifePut p i v).loops = s.loops := rfl
@[simp] theorem State.lifePut_keeper (s : State) (p i v : Nat) : (s.lifePut p i v).keeper = s.keeper := rfl
@[simp] theorem State.lifePut_pending (s : State) (p i v : Nat) : (s.lifePut p i v).pending = s.pending := rfl
@[simp] theorem State.lifePut_get (s : State) (p i v : Nat) (q : Nat) (g : Fld) (j : Nat) : (s.lifePut p i v).get q g j = s.get q g j := rfl
@[simp] theorem State.lifePut_flag (s : State) (p i v : Nat) (q : Nat) (g : Fld) (j : Nat) : (s.lifePut p i v).flag q g j = s.flag q g j := rfl
@[simp] theorem State.lifePut_byte (s : State) (p i v : Nat) (z : Nat) : (s.lifePut p i v).byte z = s.byte z := rfl
@[simp] theorem State.lifePut_present (s : State) (p i v : Nat) (q : Nat) : (s.lifePut p i v).present q = s.present q := rfl

@[simp] theorem State.abandonUnlock_part (s : State) (p : Nat) : (s.abandonUnlock p).part = s.part := rfl
@[simp] theorem State.abandonUnlock_now (s : State) (p : Nat) : (s.abandonUnlock p).now = s.now := rfl
@[simp] theorem State.abandonUnlock_freeCtr (s : State) (p : Nat) : (s.abandonUnlock p).freeCtr = s.freeCtr := rfl
@[simp] theorem State.abandonUnlock_lastResp (s : State) (p : Nat) : (s.abandonUnlock p).lastResp = s.lastResp := rfl
@[simp] theorem State.abandonUnlock_regs (s : State) (p : Nat) : (s.abandonUnlock p).regs = s.regs := rfl
@[simp] theorem State.abandonUnlock_mem (s : State) (p : Nat) : (s.abandonUnlock p).mem = s.mem := rfl
@[simp] theorem State.abandonUnlock_msix (s : State) (p : Nat) : (s.abandonUnlock p).msix = s.msix := rfl
@[simp] theorem State.abandonUnlock_cinch (s : State) (p : Nat) : (s.abandonUnlock p).cinch = s.cinch := rfl
@[simp] theorem State.abandonUnlock_life (s : State) (p : Nat) : (s.abandonUnlock p).life = s.life := rfl
@[simp] theorem State.abandonUnlock_tiles (s : State) (p : Nat) : (s.abandonUnlock p).tiles = s.tiles := rfl
@[simp] theorem State.abandonUnlock_fabric (s : State) (p : Nat) : (s.abandonUnlock p).fabric = s.fabric := rfl
@[simp] theorem State.abandonUnlock_mix (s : State) (p : Nat) : (s.abandonUnlock p).mix = s.mix := rfl
@[simp] theorem State.abandonUnlock_girth (s : State) (p : Nat) : (s.abandonUnlock p).girth = s.girth := rfl
@[simp] theorem State.abandonUnlock_harness (s : State) (p : Nat) : (s.abandonUnlock p).harness = s.harness := rfl
@[simp] theorem State.abandonUnlock_drams (s : State) (p : Nat) : (s.abandonUnlock p).drams = s.drams := rfl
@[simp] theorem State.abandonUnlock_lanes (s : State) (p : Nat) : (s.abandonUnlock p).lanes = s.lanes := rfl
@[simp] theorem State.abandonUnlock_macs (s : State) (p : Nat) : (s.abandonUnlock p).macs = s.macs := rfl
@[simp] theorem State.abandonUnlock_time (s : State) (p : Nat) : (s.abandonUnlock p).time = s.time := rfl
@[simp] theorem State.abandonUnlock_rein (s : State) (p : Nat) : (s.abandonUnlock p).rein = s.rein := rfl
@[simp] theorem State.abandonUnlock_flow (s : State) (p : Nat) : (s.abandonUnlock p).flow = s.flow := rfl
@[simp] theorem State.abandonUnlock_saps (s : State) (p : Nat) : (s.abandonUnlock p).saps = s.saps := rfl
@[simp] theorem State.abandonUnlock_loops (s : State) (p : Nat) : (s.abandonUnlock p).loops = s.loops := rfl
@[simp] theorem State.abandonUnlock_keeper (s : State) (p : Nat) : (s.abandonUnlock p).keeper = s.keeper := rfl
@[simp] theorem State.abandonUnlock_pending (s : State) (p : Nat) : (s.abandonUnlock p).pending = s.pending := rfl
@[simp] theorem State.abandonUnlock_get (s : State) (p : Nat) (q : Nat) (g : Fld) (j : Nat) : (s.abandonUnlock p).get q g j = s.get q g j := rfl
@[simp] theorem State.abandonUnlock_flag (s : State) (p : Nat) (q : Nat) (g : Fld) (j : Nat) : (s.abandonUnlock p).flag q g j = s.flag q g j := rfl
@[simp] theorem State.abandonUnlock_byte (s : State) (p : Nat) (z : Nat) : (s.abandonUnlock p).byte z = s.byte z := rfl
@[simp] theorem State.abandonUnlock_present (s : State) (p : Nat) (q : Nat) : (s.abandonUnlock p).present q = s.present q := rfl

@[simp] theorem State.advance_part (s : State) (n : Nat) : (s.advance n).part = s.part := rfl
@[simp] theorem State.advance_freeCtr (s : State) (n : Nat) : (s.advance n).freeCtr = s.freeCtr := rfl
@[simp] theorem State.advance_lastResp (s : State) (n : Nat) : (s.advance n).lastResp = s.lastResp := rfl
@[simp] theorem State.advance_regs (s : State) (n : Nat) : (s.advance n).regs = s.regs := rfl
@[simp] theorem State.advance_mem (s : State) (n : Nat) : (s.advance n).mem = s.mem := rfl
@[simp] theorem State.advance_msix (s : State) (n : Nat) : (s.advance n).msix = s.msix := rfl
@[simp] theorem State.advance_ctrl (s : State) (n : Nat) : (s.advance n).ctrl = s.ctrl := rfl
@[simp] theorem State.advance_cinch (s : State) (n : Nat) : (s.advance n).cinch = s.cinch := rfl
@[simp] theorem State.advance_life (s : State) (n : Nat) : (s.advance n).life = s.life := rfl
@[simp] theorem State.advance_tiles (s : State) (n : Nat) : (s.advance n).tiles = s.tiles := rfl
@[simp] theorem State.advance_fabric (s : State) (n : Nat) : (s.advance n).fabric = s.fabric := rfl
@[simp] theorem State.advance_mix (s : State) (n : Nat) : (s.advance n).mix = s.mix := rfl
@[simp] theorem State.advance_girth (s : State) (n : Nat) : (s.advance n).girth = s.girth := rfl
@[simp] theorem State.advance_harness (s : State) (n : Nat) : (s.advance n).harness = s.harness := rfl
@[simp] theorem State.advance_drams (s : State) (n : Nat) : (s.advance n).drams = s.drams := rfl
@[simp] theorem State.advance_lanes (s : State) (n : Nat) : (s.advance n).lanes = s.lanes := rfl
@[simp] theorem State.advance_macs (s : State) (n : Nat) : (s.advance n).macs = s.macs := rfl
@[simp] theorem State.advance_rein (s : State) (n : Nat) : (s.advance n).rein = s.rein := rfl
@[simp] theorem State.advance_flow (s : State) (n : Nat) : (s.advance n).flow = s.flow := rfl
@[simp] theorem State.advance_saps (s : State) (n : Nat) : (s.advance n).saps = s.saps := rfl
@[simp] theorem State.advance_loops (s : State) (n : Nat) : (s.advance n).loops = s.loops := rfl
@[simp] theorem State.advance_keeper (s : State) (n : Nat) : (s.advance n).keeper = s.keeper := rfl
@[simp] theorem State.advance_pending (s : State) (n : Nat) : (s.advance n).pending = s.pending := rfl
@[simp] theorem State.advance_get (s : State) (n : Nat) (q : Nat) (g : Fld) (j : Nat) : (s.advance n).get q g j = s.get q g j := rfl
@[simp] theorem State.advance_flag (s : State) (n : Nat) (q : Nat) (g : Fld) (j : Nat) : (s.advance n).flag q g j = s.flag q g j := rfl
@[simp] theorem State.advance_byte (s : State) (n : Nat) (z : Nat) : (s.advance n).byte z = s.byte z := rfl
@[simp] theorem State.advance_present (s : State) (n : Nat) (q : Nat) : (s.advance n).present q = s.present q := rfl

@[simp] theorem State.reach_part (s : State) (n : Nat) : (s.reach n).part = s.part := State.advance_part s _
@[simp] theorem State.reach_freeCtr (s : State) (n : Nat) : (s.reach n).freeCtr = s.freeCtr := State.advance_freeCtr s _
@[simp] theorem State.reach_lastResp (s : State) (n : Nat) : (s.reach n).lastResp = s.lastResp := State.advance_lastResp s _
@[simp] theorem State.reach_regs (s : State) (n : Nat) : (s.reach n).regs = s.regs := State.advance_regs s _
@[simp] theorem State.reach_mem (s : State) (n : Nat) : (s.reach n).mem = s.mem := State.advance_mem s _
@[simp] theorem State.reach_msix (s : State) (n : Nat) : (s.reach n).msix = s.msix := State.advance_msix s _
@[simp] theorem State.reach_ctrl (s : State) (n : Nat) : (s.reach n).ctrl = s.ctrl := State.advance_ctrl s _
@[simp] theorem State.reach_cinch (s : State) (n : Nat) : (s.reach n).cinch = s.cinch := State.advance_cinch s _
@[simp] theorem State.reach_life (s : State) (n : Nat) : (s.reach n).life = s.life := State.advance_life s _
@[simp] theorem State.reach_tiles (s : State) (n : Nat) : (s.reach n).tiles = s.tiles := State.advance_tiles s _
@[simp] theorem State.reach_fabric (s : State) (n : Nat) : (s.reach n).fabric = s.fabric := State.advance_fabric s _
@[simp] theorem State.reach_mix (s : State) (n : Nat) : (s.reach n).mix = s.mix := State.advance_mix s _
@[simp] theorem State.reach_girth (s : State) (n : Nat) : (s.reach n).girth = s.girth := State.advance_girth s _
@[simp] theorem State.reach_harness (s : State) (n : Nat) : (s.reach n).harness = s.harness := State.advance_harness s _
@[simp] theorem State.reach_drams (s : State) (n : Nat) : (s.reach n).drams = s.drams := State.advance_drams s _
@[simp] theorem State.reach_lanes (s : State) (n : Nat) : (s.reach n).lanes = s.lanes := State.advance_lanes s _
@[simp] theorem State.reach_macs (s : State) (n : Nat) : (s.reach n).macs = s.macs := State.advance_macs s _
@[simp] theorem State.reach_rein (s : State) (n : Nat) : (s.reach n).rein = s.rein := State.advance_rein s _
@[simp] theorem State.reach_flow (s : State) (n : Nat) : (s.reach n).flow = s.flow := State.advance_flow s _
@[simp] theorem State.reach_saps (s : State) (n : Nat) : (s.reach n).saps = s.saps := State.advance_saps s _
@[simp] theorem State.reach_loops (s : State) (n : Nat) : (s.reach n).loops = s.loops := State.advance_loops s _
@[simp] theorem State.reach_keeper (s : State) (n : Nat) : (s.reach n).keeper = s.keeper := State.advance_keeper s _
@[simp] theorem State.reach_pending (s : State) (n : Nat) : (s.reach n).pending = s.pending := State.advance_pending s _
@[simp] theorem State.reach_get (s : State) (n : Nat) (q : Nat) (g : Fld) (j : Nat) : (s.reach n).get q g j = s.get q g j := State.advance_get s _ q g j
@[simp] theorem State.reach_flag (s : State) (n : Nat) (q : Nat) (g : Fld) (j : Nat) : (s.reach n).flag q g j = s.flag q g j := State.advance_flag s _ q g j
@[simp] theorem State.reach_byte (s : State) (n : Nat) (z : Nat) : (s.reach n).byte z = s.byte z := State.advance_byte s _ z
@[simp] theorem State.reach_present (s : State) (n : Nat) (q : Nat) : (s.reach n).present q = s.present q := State.advance_present s _ q

@[simp] theorem State.untilTime0_part (s : State) (n : Nat) : (s.untilTime0 n).part = s.part := State.reach_part s _
@[simp] theorem State.untilTime0_freeCtr (s : State) (n : Nat) : (s.untilTime0 n).freeCtr = s.freeCtr := State.reach_freeCtr s _
@[simp] theorem State.untilTime0_lastResp (s : State) (n : Nat) : (s.untilTime0 n).lastResp = s.lastResp := State.reach_lastResp s _
@[simp] theorem State.untilTime0_regs (s : State) (n : Nat) : (s.untilTime0 n).regs = s.regs := State.reach_regs s _
@[simp] theorem State.untilTime0_mem (s : State) (n : Nat) : (s.untilTime0 n).mem = s.mem := State.reach_mem s _
@[simp] theorem State.untilTime0_msix (s : State) (n : Nat) : (s.untilTime0 n).msix = s.msix := State.reach_msix s _
@[simp] theorem State.untilTime0_ctrl (s : State) (n : Nat) : (s.untilTime0 n).ctrl = s.ctrl := State.reach_ctrl s _
@[simp] theorem State.untilTime0_cinch (s : State) (n : Nat) : (s.untilTime0 n).cinch = s.cinch := State.reach_cinch s _
@[simp] theorem State.untilTime0_life (s : State) (n : Nat) : (s.untilTime0 n).life = s.life := State.reach_life s _
@[simp] theorem State.untilTime0_tiles (s : State) (n : Nat) : (s.untilTime0 n).tiles = s.tiles := State.reach_tiles s _
@[simp] theorem State.untilTime0_fabric (s : State) (n : Nat) : (s.untilTime0 n).fabric = s.fabric := State.reach_fabric s _
@[simp] theorem State.untilTime0_mix (s : State) (n : Nat) : (s.untilTime0 n).mix = s.mix := State.reach_mix s _
@[simp] theorem State.untilTime0_girth (s : State) (n : Nat) : (s.untilTime0 n).girth = s.girth := State.reach_girth s _
@[simp] theorem State.untilTime0_harness (s : State) (n : Nat) : (s.untilTime0 n).harness = s.harness := State.reach_harness s _
@[simp] theorem State.untilTime0_drams (s : State) (n : Nat) : (s.untilTime0 n).drams = s.drams := State.reach_drams s _
@[simp] theorem State.untilTime0_lanes (s : State) (n : Nat) : (s.untilTime0 n).lanes = s.lanes := State.reach_lanes s _
@[simp] theorem State.untilTime0_macs (s : State) (n : Nat) : (s.untilTime0 n).macs = s.macs := State.reach_macs s _
@[simp] theorem State.untilTime0_rein (s : State) (n : Nat) : (s.untilTime0 n).rein = s.rein := State.reach_rein s _
@[simp] theorem State.untilTime0_flow (s : State) (n : Nat) : (s.untilTime0 n).flow = s.flow := State.reach_flow s _
@[simp] theorem State.untilTime0_saps (s : State) (n : Nat) : (s.untilTime0 n).saps = s.saps := State.reach_saps s _
@[simp] theorem State.untilTime0_loops (s : State) (n : Nat) : (s.untilTime0 n).loops = s.loops := State.reach_loops s _
@[simp] theorem State.untilTime0_keeper (s : State) (n : Nat) : (s.untilTime0 n).keeper = s.keeper := State.reach_keeper s _
@[simp] theorem State.untilTime0_pending (s : State) (n : Nat) : (s.untilTime0 n).pending = s.pending := State.reach_pending s _
@[simp] theorem State.untilTime0_get (s : State) (n : Nat) (q : Nat) (g : Fld) (j : Nat) : (s.untilTime0 n).get q g j = s.get q g j := State.reach_get s _ q g j
@[simp] theorem State.untilTime0_flag (s : State) (n : Nat) (q : Nat) (g : Fld) (j : Nat) : (s.untilTime0 n).flag q g j = s.flag q g j := State.reach_flag s _ q g j
@[simp] theorem State.untilTime0_byte (s : State) (n : Nat) (z : Nat) : (s.untilTime0 n).byte z = s.byte z := State.reach_byte s _ z
@[simp] theorem State.untilTime0_present (s : State) (n : Nat) (q : Nat) : (s.untilTime0 n).present q = s.present q := State.reach_present s _ q

@[simp] theorem State.onCtrl_part (s : State) (f : Ctrl → Ctrl) : (s.onCtrl f).part = s.part := rfl
@[simp] theorem State.onCtrl_now (s : State) (f : Ctrl → Ctrl) : (s.onCtrl f).now = s.now := rfl
@[simp] theorem State.onCtrl_freeCtr (s : State) (f : Ctrl → Ctrl) : (s.onCtrl f).freeCtr = s.freeCtr := rfl
@[simp] theorem State.onCtrl_lastResp (s : State) (f : Ctrl → Ctrl) : (s.onCtrl f).lastResp = s.lastResp := rfl
@[simp] theorem State.onCtrl_regs (s : State) (f : Ctrl → Ctrl) : (s.onCtrl f).regs = s.regs := rfl
@[simp] theorem State.onCtrl_mem (s : State) (f : Ctrl → Ctrl) : (s.onCtrl f).mem = s.mem := rfl
@[simp] theorem State.onCtrl_msix (s : State) (f : Ctrl → Ctrl) : (s.onCtrl f).msix = s.msix := rfl
@[simp] theorem State.onCtrl_cinch (s : State) (f : Ctrl → Ctrl) : (s.onCtrl f).cinch = s.cinch := rfl
@[simp] theorem State.onCtrl_life (s : State) (f : Ctrl → Ctrl) : (s.onCtrl f).life = s.life := rfl
@[simp] theorem State.onCtrl_tiles (s : State) (f : Ctrl → Ctrl) : (s.onCtrl f).tiles = s.tiles := rfl
@[simp] theorem State.onCtrl_fabric (s : State) (f : Ctrl → Ctrl) : (s.onCtrl f).fabric = s.fabric := rfl
@[simp] theorem State.onCtrl_mix (s : State) (f : Ctrl → Ctrl) : (s.onCtrl f).mix = s.mix := rfl
@[simp] theorem State.onCtrl_girth (s : State) (f : Ctrl → Ctrl) : (s.onCtrl f).girth = s.girth := rfl
@[simp] theorem State.onCtrl_harness (s : State) (f : Ctrl → Ctrl) : (s.onCtrl f).harness = s.harness := rfl
@[simp] theorem State.onCtrl_drams (s : State) (f : Ctrl → Ctrl) : (s.onCtrl f).drams = s.drams := rfl
@[simp] theorem State.onCtrl_lanes (s : State) (f : Ctrl → Ctrl) : (s.onCtrl f).lanes = s.lanes := rfl
@[simp] theorem State.onCtrl_macs (s : State) (f : Ctrl → Ctrl) : (s.onCtrl f).macs = s.macs := rfl
@[simp] theorem State.onCtrl_time (s : State) (f : Ctrl → Ctrl) : (s.onCtrl f).time = s.time := rfl
@[simp] theorem State.onCtrl_rein (s : State) (f : Ctrl → Ctrl) : (s.onCtrl f).rein = s.rein := rfl
@[simp] theorem State.onCtrl_flow (s : State) (f : Ctrl → Ctrl) : (s.onCtrl f).flow = s.flow := rfl
@[simp] theorem State.onCtrl_saps (s : State) (f : Ctrl → Ctrl) : (s.onCtrl f).saps = s.saps := rfl
@[simp] theorem State.onCtrl_loops (s : State) (f : Ctrl → Ctrl) : (s.onCtrl f).loops = s.loops := rfl
@[simp] theorem State.onCtrl_keeper (s : State) (f : Ctrl → Ctrl) : (s.onCtrl f).keeper = s.keeper := rfl
@[simp] theorem State.onCtrl_pending (s : State) (f : Ctrl → Ctrl) : (s.onCtrl f).pending = s.pending := rfl
@[simp] theorem State.onCtrl_get (s : State) (f : Ctrl → Ctrl) (q : Nat) (g : Fld) (j : Nat) : (s.onCtrl f).get q g j = s.get q g j := rfl
@[simp] theorem State.onCtrl_flag (s : State) (f : Ctrl → Ctrl) (q : Nat) (g : Fld) (j : Nat) : (s.onCtrl f).flag q g j = s.flag q g j := rfl
@[simp] theorem State.onCtrl_byte (s : State) (f : Ctrl → Ctrl) (z : Nat) : (s.onCtrl f).byte z = s.byte z := rfl
@[simp] theorem State.onCtrl_present (s : State) (f : Ctrl → Ctrl) (q : Nat) : (s.onCtrl f).present q = s.present q := rfl

@[simp] theorem State.setCinchSrc_part (s : State) (i : Nat) (c : CinchSrc) : (s.setCinchSrc i c).part = s.part := rfl
@[simp] theorem State.setCinchSrc_now (s : State) (i : Nat) (c : CinchSrc) : (s.setCinchSrc i c).now = s.now := rfl
@[simp] theorem State.setCinchSrc_freeCtr (s : State) (i : Nat) (c : CinchSrc) : (s.setCinchSrc i c).freeCtr = s.freeCtr := rfl
@[simp] theorem State.setCinchSrc_lastResp (s : State) (i : Nat) (c : CinchSrc) : (s.setCinchSrc i c).lastResp = s.lastResp := rfl
@[simp] theorem State.setCinchSrc_regs (s : State) (i : Nat) (c : CinchSrc) : (s.setCinchSrc i c).regs = s.regs := rfl
@[simp] theorem State.setCinchSrc_mem (s : State) (i : Nat) (c : CinchSrc) : (s.setCinchSrc i c).mem = s.mem := rfl
@[simp] theorem State.setCinchSrc_msix (s : State) (i : Nat) (c : CinchSrc) : (s.setCinchSrc i c).msix = s.msix := rfl
@[simp] theorem State.setCinchSrc_ctrl (s : State) (i : Nat) (c : CinchSrc) : (s.setCinchSrc i c).ctrl = s.ctrl := rfl
@[simp] theorem State.setCinchSrc_life (s : State) (i : Nat) (c : CinchSrc) : (s.setCinchSrc i c).life = s.life := rfl
@[simp] theorem State.setCinchSrc_tiles (s : State) (i : Nat) (c : CinchSrc) : (s.setCinchSrc i c).tiles = s.tiles := rfl
@[simp] theorem State.setCinchSrc_fabric (s : State) (i : Nat) (c : CinchSrc) : (s.setCinchSrc i c).fabric = s.fabric := rfl
@[simp] theorem State.setCinchSrc_mix (s : State) (i : Nat) (c : CinchSrc) : (s.setCinchSrc i c).mix = s.mix := rfl
@[simp] theorem State.setCinchSrc_girth (s : State) (i : Nat) (c : CinchSrc) : (s.setCinchSrc i c).girth = s.girth := rfl
@[simp] theorem State.setCinchSrc_harness (s : State) (i : Nat) (c : CinchSrc) : (s.setCinchSrc i c).harness = s.harness := rfl
@[simp] theorem State.setCinchSrc_drams (s : State) (i : Nat) (c : CinchSrc) : (s.setCinchSrc i c).drams = s.drams := rfl
@[simp] theorem State.setCinchSrc_lanes (s : State) (i : Nat) (c : CinchSrc) : (s.setCinchSrc i c).lanes = s.lanes := rfl
@[simp] theorem State.setCinchSrc_macs (s : State) (i : Nat) (c : CinchSrc) : (s.setCinchSrc i c).macs = s.macs := rfl
@[simp] theorem State.setCinchSrc_time (s : State) (i : Nat) (c : CinchSrc) : (s.setCinchSrc i c).time = s.time := rfl
@[simp] theorem State.setCinchSrc_rein (s : State) (i : Nat) (c : CinchSrc) : (s.setCinchSrc i c).rein = s.rein := rfl
@[simp] theorem State.setCinchSrc_flow (s : State) (i : Nat) (c : CinchSrc) : (s.setCinchSrc i c).flow = s.flow := rfl
@[simp] theorem State.setCinchSrc_saps (s : State) (i : Nat) (c : CinchSrc) : (s.setCinchSrc i c).saps = s.saps := rfl
@[simp] theorem State.setCinchSrc_loops (s : State) (i : Nat) (c : CinchSrc) : (s.setCinchSrc i c).loops = s.loops := rfl
@[simp] theorem State.setCinchSrc_keeper (s : State) (i : Nat) (c : CinchSrc) : (s.setCinchSrc i c).keeper = s.keeper := rfl
@[simp] theorem State.setCinchSrc_pending (s : State) (i : Nat) (c : CinchSrc) : (s.setCinchSrc i c).pending = s.pending := rfl
@[simp] theorem State.setCinchSrc_get (s : State) (i : Nat) (c : CinchSrc) (q : Nat) (g : Fld) (j : Nat) : (s.setCinchSrc i c).get q g j = s.get q g j := rfl
@[simp] theorem State.setCinchSrc_flag (s : State) (i : Nat) (c : CinchSrc) (q : Nat) (g : Fld) (j : Nat) : (s.setCinchSrc i c).flag q g j = s.flag q g j := rfl
@[simp] theorem State.setCinchSrc_byte (s : State) (i : Nat) (c : CinchSrc) (z : Nat) : (s.setCinchSrc i c).byte z = s.byte z := rfl
@[simp] theorem State.setCinchSrc_present (s : State) (i : Nat) (c : CinchSrc) (q : Nat) : (s.setCinchSrc i c).present q = s.present q := rfl

@[simp] theorem State.onLife_part (s : State) (f : Life → Life) : (s.onLife f).part = s.part := rfl
@[simp] theorem State.onLife_now (s : State) (f : Life → Life) : (s.onLife f).now = s.now := rfl
@[simp] theorem State.onLife_freeCtr (s : State) (f : Life → Life) : (s.onLife f).freeCtr = s.freeCtr := rfl
@[simp] theorem State.onLife_lastResp (s : State) (f : Life → Life) : (s.onLife f).lastResp = s.lastResp := rfl
@[simp] theorem State.onLife_regs (s : State) (f : Life → Life) : (s.onLife f).regs = s.regs := rfl
@[simp] theorem State.onLife_mem (s : State) (f : Life → Life) : (s.onLife f).mem = s.mem := rfl
@[simp] theorem State.onLife_msix (s : State) (f : Life → Life) : (s.onLife f).msix = s.msix := rfl
@[simp] theorem State.onLife_ctrl (s : State) (f : Life → Life) : (s.onLife f).ctrl = s.ctrl := rfl
@[simp] theorem State.onLife_cinch (s : State) (f : Life → Life) : (s.onLife f).cinch = s.cinch := rfl
@[simp] theorem State.onLife_tiles (s : State) (f : Life → Life) : (s.onLife f).tiles = s.tiles := rfl
@[simp] theorem State.onLife_fabric (s : State) (f : Life → Life) : (s.onLife f).fabric = s.fabric := rfl
@[simp] theorem State.onLife_mix (s : State) (f : Life → Life) : (s.onLife f).mix = s.mix := rfl
@[simp] theorem State.onLife_girth (s : State) (f : Life → Life) : (s.onLife f).girth = s.girth := rfl
@[simp] theorem State.onLife_harness (s : State) (f : Life → Life) : (s.onLife f).harness = s.harness := rfl
@[simp] theorem State.onLife_drams (s : State) (f : Life → Life) : (s.onLife f).drams = s.drams := rfl
@[simp] theorem State.onLife_lanes (s : State) (f : Life → Life) : (s.onLife f).lanes = s.lanes := rfl
@[simp] theorem State.onLife_macs (s : State) (f : Life → Life) : (s.onLife f).macs = s.macs := rfl
@[simp] theorem State.onLife_time (s : State) (f : Life → Life) : (s.onLife f).time = s.time := rfl
@[simp] theorem State.onLife_rein (s : State) (f : Life → Life) : (s.onLife f).rein = s.rein := rfl
@[simp] theorem State.onLife_flow (s : State) (f : Life → Life) : (s.onLife f).flow = s.flow := rfl
@[simp] theorem State.onLife_saps (s : State) (f : Life → Life) : (s.onLife f).saps = s.saps := rfl
@[simp] theorem State.onLife_loops (s : State) (f : Life → Life) : (s.onLife f).loops = s.loops := rfl
@[simp] theorem State.onLife_keeper (s : State) (f : Life → Life) : (s.onLife f).keeper = s.keeper := rfl
@[simp] theorem State.onLife_pending (s : State) (f : Life → Life) : (s.onLife f).pending = s.pending := rfl
@[simp] theorem State.onLife_get (s : State) (f : Life → Life) (q : Nat) (g : Fld) (j : Nat) : (s.onLife f).get q g j = s.get q g j := rfl
@[simp] theorem State.onLife_flag (s : State) (f : Life → Life) (q : Nat) (g : Fld) (j : Nat) : (s.onLife f).flag q g j = s.flag q g j := rfl
@[simp] theorem State.onLife_byte (s : State) (f : Life → Life) (z : Nat) : (s.onLife f).byte z = s.byte z := rfl
@[simp] theorem State.onLife_present (s : State) (f : Life → Life) (q : Nat) : (s.onLife f).present q = s.present q := rfl

@[simp] theorem State.setTile_part (s : State) (t : Nat) (x : Tile) : (s.setTile t x).part = s.part := rfl
@[simp] theorem State.setTile_now (s : State) (t : Nat) (x : Tile) : (s.setTile t x).now = s.now := rfl
@[simp] theorem State.setTile_freeCtr (s : State) (t : Nat) (x : Tile) : (s.setTile t x).freeCtr = s.freeCtr := rfl
@[simp] theorem State.setTile_lastResp (s : State) (t : Nat) (x : Tile) : (s.setTile t x).lastResp = s.lastResp := rfl
@[simp] theorem State.setTile_regs (s : State) (t : Nat) (x : Tile) : (s.setTile t x).regs = s.regs := rfl
@[simp] theorem State.setTile_mem (s : State) (t : Nat) (x : Tile) : (s.setTile t x).mem = s.mem := rfl
@[simp] theorem State.setTile_msix (s : State) (t : Nat) (x : Tile) : (s.setTile t x).msix = s.msix := rfl
@[simp] theorem State.setTile_ctrl (s : State) (t : Nat) (x : Tile) : (s.setTile t x).ctrl = s.ctrl := rfl
@[simp] theorem State.setTile_cinch (s : State) (t : Nat) (x : Tile) : (s.setTile t x).cinch = s.cinch := rfl
@[simp] theorem State.setTile_life (s : State) (t : Nat) (x : Tile) : (s.setTile t x).life = s.life := rfl
@[simp] theorem State.setTile_fabric (s : State) (t : Nat) (x : Tile) : (s.setTile t x).fabric = s.fabric := rfl
@[simp] theorem State.setTile_mix (s : State) (t : Nat) (x : Tile) : (s.setTile t x).mix = s.mix := rfl
@[simp] theorem State.setTile_girth (s : State) (t : Nat) (x : Tile) : (s.setTile t x).girth = s.girth := rfl
@[simp] theorem State.setTile_harness (s : State) (t : Nat) (x : Tile) : (s.setTile t x).harness = s.harness := rfl
@[simp] theorem State.setTile_drams (s : State) (t : Nat) (x : Tile) : (s.setTile t x).drams = s.drams := rfl
@[simp] theorem State.setTile_lanes (s : State) (t : Nat) (x : Tile) : (s.setTile t x).lanes = s.lanes := rfl
@[simp] theorem State.setTile_macs (s : State) (t : Nat) (x : Tile) : (s.setTile t x).macs = s.macs := rfl
@[simp] theorem State.setTile_time (s : State) (t : Nat) (x : Tile) : (s.setTile t x).time = s.time := rfl
@[simp] theorem State.setTile_rein (s : State) (t : Nat) (x : Tile) : (s.setTile t x).rein = s.rein := rfl
@[simp] theorem State.setTile_flow (s : State) (t : Nat) (x : Tile) : (s.setTile t x).flow = s.flow := rfl
@[simp] theorem State.setTile_saps (s : State) (t : Nat) (x : Tile) : (s.setTile t x).saps = s.saps := rfl
@[simp] theorem State.setTile_loops (s : State) (t : Nat) (x : Tile) : (s.setTile t x).loops = s.loops := rfl
@[simp] theorem State.setTile_keeper (s : State) (t : Nat) (x : Tile) : (s.setTile t x).keeper = s.keeper := rfl
@[simp] theorem State.setTile_pending (s : State) (t : Nat) (x : Tile) : (s.setTile t x).pending = s.pending := rfl
@[simp] theorem State.setTile_get (s : State) (t : Nat) (x : Tile) (q : Nat) (g : Fld) (j : Nat) : (s.setTile t x).get q g j = s.get q g j := rfl
@[simp] theorem State.setTile_flag (s : State) (t : Nat) (x : Tile) (q : Nat) (g : Fld) (j : Nat) : (s.setTile t x).flag q g j = s.flag q g j := rfl
@[simp] theorem State.setTile_byte (s : State) (t : Nat) (x : Tile) (z : Nat) : (s.setTile t x).byte z = s.byte z := rfl
@[simp] theorem State.setTile_present (s : State) (t : Nat) (x : Tile) (q : Nat) : (s.setTile t x).present q = s.present q := rfl

@[simp] theorem State.setDom_part (s : State) (d : Nat) (x : Domain) : (s.setDom d x).part = s.part := rfl
@[simp] theorem State.setDom_now (s : State) (d : Nat) (x : Domain) : (s.setDom d x).now = s.now := rfl
@[simp] theorem State.setDom_freeCtr (s : State) (d : Nat) (x : Domain) : (s.setDom d x).freeCtr = s.freeCtr := rfl
@[simp] theorem State.setDom_lastResp (s : State) (d : Nat) (x : Domain) : (s.setDom d x).lastResp = s.lastResp := rfl
@[simp] theorem State.setDom_regs (s : State) (d : Nat) (x : Domain) : (s.setDom d x).regs = s.regs := rfl
@[simp] theorem State.setDom_mem (s : State) (d : Nat) (x : Domain) : (s.setDom d x).mem = s.mem := rfl
@[simp] theorem State.setDom_msix (s : State) (d : Nat) (x : Domain) : (s.setDom d x).msix = s.msix := rfl
@[simp] theorem State.setDom_ctrl (s : State) (d : Nat) (x : Domain) : (s.setDom d x).ctrl = s.ctrl := rfl
@[simp] theorem State.setDom_cinch (s : State) (d : Nat) (x : Domain) : (s.setDom d x).cinch = s.cinch := rfl
@[simp] theorem State.setDom_life (s : State) (d : Nat) (x : Domain) : (s.setDom d x).life = s.life := rfl
@[simp] theorem State.setDom_tiles (s : State) (d : Nat) (x : Domain) : (s.setDom d x).tiles = s.tiles := rfl
@[simp] theorem State.setDom_mix (s : State) (d : Nat) (x : Domain) : (s.setDom d x).mix = s.mix := rfl
@[simp] theorem State.setDom_girth (s : State) (d : Nat) (x : Domain) : (s.setDom d x).girth = s.girth := rfl
@[simp] theorem State.setDom_harness (s : State) (d : Nat) (x : Domain) : (s.setDom d x).harness = s.harness := rfl
@[simp] theorem State.setDom_drams (s : State) (d : Nat) (x : Domain) : (s.setDom d x).drams = s.drams := rfl
@[simp] theorem State.setDom_lanes (s : State) (d : Nat) (x : Domain) : (s.setDom d x).lanes = s.lanes := rfl
@[simp] theorem State.setDom_macs (s : State) (d : Nat) (x : Domain) : (s.setDom d x).macs = s.macs := rfl
@[simp] theorem State.setDom_time (s : State) (d : Nat) (x : Domain) : (s.setDom d x).time = s.time := rfl
@[simp] theorem State.setDom_rein (s : State) (d : Nat) (x : Domain) : (s.setDom d x).rein = s.rein := rfl
@[simp] theorem State.setDom_flow (s : State) (d : Nat) (x : Domain) : (s.setDom d x).flow = s.flow := rfl
@[simp] theorem State.setDom_saps (s : State) (d : Nat) (x : Domain) : (s.setDom d x).saps = s.saps := rfl
@[simp] theorem State.setDom_loops (s : State) (d : Nat) (x : Domain) : (s.setDom d x).loops = s.loops := rfl
@[simp] theorem State.setDom_keeper (s : State) (d : Nat) (x : Domain) : (s.setDom d x).keeper = s.keeper := rfl
@[simp] theorem State.setDom_pending (s : State) (d : Nat) (x : Domain) : (s.setDom d x).pending = s.pending := rfl
@[simp] theorem State.setDom_get (s : State) (d : Nat) (x : Domain) (q : Nat) (g : Fld) (j : Nat) : (s.setDom d x).get q g j = s.get q g j := rfl
@[simp] theorem State.setDom_flag (s : State) (d : Nat) (x : Domain) (q : Nat) (g : Fld) (j : Nat) : (s.setDom d x).flag q g j = s.flag q g j := rfl
@[simp] theorem State.setDom_byte (s : State) (d : Nat) (x : Domain) (z : Nat) : (s.setDom d x).byte z = s.byte z := rfl
@[simp] theorem State.setDom_present (s : State) (d : Nat) (x : Domain) (q : Nat) : (s.setDom d x).present q = s.present q := rfl

@[simp] theorem State.onFabric_part (s : State) (f : Fabric → Fabric) : (s.onFabric f).part = s.part := rfl
@[simp] theorem State.onFabric_now (s : State) (f : Fabric → Fabric) : (s.onFabric f).now = s.now := rfl
@[simp] theorem State.onFabric_freeCtr (s : State) (f : Fabric → Fabric) : (s.onFabric f).freeCtr = s.freeCtr := rfl
@[simp] theorem State.onFabric_lastResp (s : State) (f : Fabric → Fabric) : (s.onFabric f).lastResp = s.lastResp := rfl
@[simp] theorem State.onFabric_regs (s : State) (f : Fabric → Fabric) : (s.onFabric f).regs = s.regs := rfl
@[simp] theorem State.onFabric_mem (s : State) (f : Fabric → Fabric) : (s.onFabric f).mem = s.mem := rfl
@[simp] theorem State.onFabric_msix (s : State) (f : Fabric → Fabric) : (s.onFabric f).msix = s.msix := rfl
@[simp] theorem State.onFabric_ctrl (s : State) (f : Fabric → Fabric) : (s.onFabric f).ctrl = s.ctrl := rfl
@[simp] theorem State.onFabric_cinch (s : State) (f : Fabric → Fabric) : (s.onFabric f).cinch = s.cinch := rfl
@[simp] theorem State.onFabric_life (s : State) (f : Fabric → Fabric) : (s.onFabric f).life = s.life := rfl
@[simp] theorem State.onFabric_tiles (s : State) (f : Fabric → Fabric) : (s.onFabric f).tiles = s.tiles := rfl
@[simp] theorem State.onFabric_mix (s : State) (f : Fabric → Fabric) : (s.onFabric f).mix = s.mix := rfl
@[simp] theorem State.onFabric_girth (s : State) (f : Fabric → Fabric) : (s.onFabric f).girth = s.girth := rfl
@[simp] theorem State.onFabric_harness (s : State) (f : Fabric → Fabric) : (s.onFabric f).harness = s.harness := rfl
@[simp] theorem State.onFabric_drams (s : State) (f : Fabric → Fabric) : (s.onFabric f).drams = s.drams := rfl
@[simp] theorem State.onFabric_lanes (s : State) (f : Fabric → Fabric) : (s.onFabric f).lanes = s.lanes := rfl
@[simp] theorem State.onFabric_macs (s : State) (f : Fabric → Fabric) : (s.onFabric f).macs = s.macs := rfl
@[simp] theorem State.onFabric_time (s : State) (f : Fabric → Fabric) : (s.onFabric f).time = s.time := rfl
@[simp] theorem State.onFabric_rein (s : State) (f : Fabric → Fabric) : (s.onFabric f).rein = s.rein := rfl
@[simp] theorem State.onFabric_flow (s : State) (f : Fabric → Fabric) : (s.onFabric f).flow = s.flow := rfl
@[simp] theorem State.onFabric_saps (s : State) (f : Fabric → Fabric) : (s.onFabric f).saps = s.saps := rfl
@[simp] theorem State.onFabric_loops (s : State) (f : Fabric → Fabric) : (s.onFabric f).loops = s.loops := rfl
@[simp] theorem State.onFabric_keeper (s : State) (f : Fabric → Fabric) : (s.onFabric f).keeper = s.keeper := rfl
@[simp] theorem State.onFabric_pending (s : State) (f : Fabric → Fabric) : (s.onFabric f).pending = s.pending := rfl
@[simp] theorem State.onFabric_get (s : State) (f : Fabric → Fabric) (q : Nat) (g : Fld) (j : Nat) : (s.onFabric f).get q g j = s.get q g j := rfl
@[simp] theorem State.onFabric_flag (s : State) (f : Fabric → Fabric) (q : Nat) (g : Fld) (j : Nat) : (s.onFabric f).flag q g j = s.flag q g j := rfl
@[simp] theorem State.onFabric_byte (s : State) (f : Fabric → Fabric) (z : Nat) : (s.onFabric f).byte z = s.byte z := rfl
@[simp] theorem State.onFabric_present (s : State) (f : Fabric → Fabric) (q : Nat) : (s.onFabric f).present q = s.present q := rfl

@[simp] theorem State.onMix_part (s : State) (f : Mix → Mix) : (s.onMix f).part = s.part := rfl
@[simp] theorem State.onMix_now (s : State) (f : Mix → Mix) : (s.onMix f).now = s.now := rfl
@[simp] theorem State.onMix_freeCtr (s : State) (f : Mix → Mix) : (s.onMix f).freeCtr = s.freeCtr := rfl
@[simp] theorem State.onMix_lastResp (s : State) (f : Mix → Mix) : (s.onMix f).lastResp = s.lastResp := rfl
@[simp] theorem State.onMix_regs (s : State) (f : Mix → Mix) : (s.onMix f).regs = s.regs := rfl
@[simp] theorem State.onMix_mem (s : State) (f : Mix → Mix) : (s.onMix f).mem = s.mem := rfl
@[simp] theorem State.onMix_msix (s : State) (f : Mix → Mix) : (s.onMix f).msix = s.msix := rfl
@[simp] theorem State.onMix_ctrl (s : State) (f : Mix → Mix) : (s.onMix f).ctrl = s.ctrl := rfl
@[simp] theorem State.onMix_cinch (s : State) (f : Mix → Mix) : (s.onMix f).cinch = s.cinch := rfl
@[simp] theorem State.onMix_life (s : State) (f : Mix → Mix) : (s.onMix f).life = s.life := rfl
@[simp] theorem State.onMix_tiles (s : State) (f : Mix → Mix) : (s.onMix f).tiles = s.tiles := rfl
@[simp] theorem State.onMix_fabric (s : State) (f : Mix → Mix) : (s.onMix f).fabric = s.fabric := rfl
@[simp] theorem State.onMix_girth (s : State) (f : Mix → Mix) : (s.onMix f).girth = s.girth := rfl
@[simp] theorem State.onMix_harness (s : State) (f : Mix → Mix) : (s.onMix f).harness = s.harness := rfl
@[simp] theorem State.onMix_drams (s : State) (f : Mix → Mix) : (s.onMix f).drams = s.drams := rfl
@[simp] theorem State.onMix_lanes (s : State) (f : Mix → Mix) : (s.onMix f).lanes = s.lanes := rfl
@[simp] theorem State.onMix_macs (s : State) (f : Mix → Mix) : (s.onMix f).macs = s.macs := rfl
@[simp] theorem State.onMix_time (s : State) (f : Mix → Mix) : (s.onMix f).time = s.time := rfl
@[simp] theorem State.onMix_rein (s : State) (f : Mix → Mix) : (s.onMix f).rein = s.rein := rfl
@[simp] theorem State.onMix_flow (s : State) (f : Mix → Mix) : (s.onMix f).flow = s.flow := rfl
@[simp] theorem State.onMix_saps (s : State) (f : Mix → Mix) : (s.onMix f).saps = s.saps := rfl
@[simp] theorem State.onMix_loops (s : State) (f : Mix → Mix) : (s.onMix f).loops = s.loops := rfl
@[simp] theorem State.onMix_keeper (s : State) (f : Mix → Mix) : (s.onMix f).keeper = s.keeper := rfl
@[simp] theorem State.onMix_pending (s : State) (f : Mix → Mix) : (s.onMix f).pending = s.pending := rfl
@[simp] theorem State.onMix_get (s : State) (f : Mix → Mix) (q : Nat) (g : Fld) (j : Nat) : (s.onMix f).get q g j = s.get q g j := rfl
@[simp] theorem State.onMix_flag (s : State) (f : Mix → Mix) (q : Nat) (g : Fld) (j : Nat) : (s.onMix f).flag q g j = s.flag q g j := rfl
@[simp] theorem State.onMix_byte (s : State) (f : Mix → Mix) (z : Nat) : (s.onMix f).byte z = s.byte z := rfl
@[simp] theorem State.onMix_present (s : State) (f : Mix → Mix) (q : Nat) : (s.onMix f).present q = s.present q := rfl

@[simp] theorem State.onGirth_part (s : State) (f : Girth → Girth) : (s.onGirth f).part = s.part := rfl
@[simp] theorem State.onGirth_now (s : State) (f : Girth → Girth) : (s.onGirth f).now = s.now := rfl
@[simp] theorem State.onGirth_freeCtr (s : State) (f : Girth → Girth) : (s.onGirth f).freeCtr = s.freeCtr := rfl
@[simp] theorem State.onGirth_lastResp (s : State) (f : Girth → Girth) : (s.onGirth f).lastResp = s.lastResp := rfl
@[simp] theorem State.onGirth_regs (s : State) (f : Girth → Girth) : (s.onGirth f).regs = s.regs := rfl
@[simp] theorem State.onGirth_mem (s : State) (f : Girth → Girth) : (s.onGirth f).mem = s.mem := rfl
@[simp] theorem State.onGirth_msix (s : State) (f : Girth → Girth) : (s.onGirth f).msix = s.msix := rfl
@[simp] theorem State.onGirth_ctrl (s : State) (f : Girth → Girth) : (s.onGirth f).ctrl = s.ctrl := rfl
@[simp] theorem State.onGirth_cinch (s : State) (f : Girth → Girth) : (s.onGirth f).cinch = s.cinch := rfl
@[simp] theorem State.onGirth_life (s : State) (f : Girth → Girth) : (s.onGirth f).life = s.life := rfl
@[simp] theorem State.onGirth_tiles (s : State) (f : Girth → Girth) : (s.onGirth f).tiles = s.tiles := rfl
@[simp] theorem State.onGirth_fabric (s : State) (f : Girth → Girth) : (s.onGirth f).fabric = s.fabric := rfl
@[simp] theorem State.onGirth_mix (s : State) (f : Girth → Girth) : (s.onGirth f).mix = s.mix := rfl
@[simp] theorem State.onGirth_harness (s : State) (f : Girth → Girth) : (s.onGirth f).harness = s.harness := rfl
@[simp] theorem State.onGirth_drams (s : State) (f : Girth → Girth) : (s.onGirth f).drams = s.drams := rfl
@[simp] theorem State.onGirth_lanes (s : State) (f : Girth → Girth) : (s.onGirth f).lanes = s.lanes := rfl
@[simp] theorem State.onGirth_macs (s : State) (f : Girth → Girth) : (s.onGirth f).macs = s.macs := rfl
@[simp] theorem State.onGirth_time (s : State) (f : Girth → Girth) : (s.onGirth f).time = s.time := rfl
@[simp] theorem State.onGirth_rein (s : State) (f : Girth → Girth) : (s.onGirth f).rein = s.rein := rfl
@[simp] theorem State.onGirth_flow (s : State) (f : Girth → Girth) : (s.onGirth f).flow = s.flow := rfl
@[simp] theorem State.onGirth_saps (s : State) (f : Girth → Girth) : (s.onGirth f).saps = s.saps := rfl
@[simp] theorem State.onGirth_loops (s : State) (f : Girth → Girth) : (s.onGirth f).loops = s.loops := rfl
@[simp] theorem State.onGirth_keeper (s : State) (f : Girth → Girth) : (s.onGirth f).keeper = s.keeper := rfl
@[simp] theorem State.onGirth_pending (s : State) (f : Girth → Girth) : (s.onGirth f).pending = s.pending := rfl
@[simp] theorem State.onGirth_get (s : State) (f : Girth → Girth) (q : Nat) (g : Fld) (j : Nat) : (s.onGirth f).get q g j = s.get q g j := rfl
@[simp] theorem State.onGirth_flag (s : State) (f : Girth → Girth) (q : Nat) (g : Fld) (j : Nat) : (s.onGirth f).flag q g j = s.flag q g j := rfl
@[simp] theorem State.onGirth_byte (s : State) (f : Girth → Girth) (z : Nat) : (s.onGirth f).byte z = s.byte z := rfl
@[simp] theorem State.onGirth_present (s : State) (f : Girth → Girth) (q : Nat) : (s.onGirth f).present q = s.present q := rfl

@[simp] theorem State.onHarness_part (s : State) (f : Harness → Harness) : (s.onHarness f).part = s.part := rfl
@[simp] theorem State.onHarness_now (s : State) (f : Harness → Harness) : (s.onHarness f).now = s.now := rfl
@[simp] theorem State.onHarness_freeCtr (s : State) (f : Harness → Harness) : (s.onHarness f).freeCtr = s.freeCtr := rfl
@[simp] theorem State.onHarness_lastResp (s : State) (f : Harness → Harness) : (s.onHarness f).lastResp = s.lastResp := rfl
@[simp] theorem State.onHarness_regs (s : State) (f : Harness → Harness) : (s.onHarness f).regs = s.regs := rfl
@[simp] theorem State.onHarness_mem (s : State) (f : Harness → Harness) : (s.onHarness f).mem = s.mem := rfl
@[simp] theorem State.onHarness_msix (s : State) (f : Harness → Harness) : (s.onHarness f).msix = s.msix := rfl
@[simp] theorem State.onHarness_ctrl (s : State) (f : Harness → Harness) : (s.onHarness f).ctrl = s.ctrl := rfl
@[simp] theorem State.onHarness_cinch (s : State) (f : Harness → Harness) : (s.onHarness f).cinch = s.cinch := rfl
@[simp] theorem State.onHarness_life (s : State) (f : Harness → Harness) : (s.onHarness f).life = s.life := rfl
@[simp] theorem State.onHarness_tiles (s : State) (f : Harness → Harness) : (s.onHarness f).tiles = s.tiles := rfl
@[simp] theorem State.onHarness_fabric (s : State) (f : Harness → Harness) : (s.onHarness f).fabric = s.fabric := rfl
@[simp] theorem State.onHarness_mix (s : State) (f : Harness → Harness) : (s.onHarness f).mix = s.mix := rfl
@[simp] theorem State.onHarness_girth (s : State) (f : Harness → Harness) : (s.onHarness f).girth = s.girth := rfl
@[simp] theorem State.onHarness_drams (s : State) (f : Harness → Harness) : (s.onHarness f).drams = s.drams := rfl
@[simp] theorem State.onHarness_lanes (s : State) (f : Harness → Harness) : (s.onHarness f).lanes = s.lanes := rfl
@[simp] theorem State.onHarness_macs (s : State) (f : Harness → Harness) : (s.onHarness f).macs = s.macs := rfl
@[simp] theorem State.onHarness_time (s : State) (f : Harness → Harness) : (s.onHarness f).time = s.time := rfl
@[simp] theorem State.onHarness_rein (s : State) (f : Harness → Harness) : (s.onHarness f).rein = s.rein := rfl
@[simp] theorem State.onHarness_flow (s : State) (f : Harness → Harness) : (s.onHarness f).flow = s.flow := rfl
@[simp] theorem State.onHarness_saps (s : State) (f : Harness → Harness) : (s.onHarness f).saps = s.saps := rfl
@[simp] theorem State.onHarness_loops (s : State) (f : Harness → Harness) : (s.onHarness f).loops = s.loops := rfl
@[simp] theorem State.onHarness_keeper (s : State) (f : Harness → Harness) : (s.onHarness f).keeper = s.keeper := rfl
@[simp] theorem State.onHarness_pending (s : State) (f : Harness → Harness) : (s.onHarness f).pending = s.pending := rfl
@[simp] theorem State.onHarness_get (s : State) (f : Harness → Harness) (q : Nat) (g : Fld) (j : Nat) : (s.onHarness f).get q g j = s.get q g j := rfl
@[simp] theorem State.onHarness_flag (s : State) (f : Harness → Harness) (q : Nat) (g : Fld) (j : Nat) : (s.onHarness f).flag q g j = s.flag q g j := rfl
@[simp] theorem State.onHarness_byte (s : State) (f : Harness → Harness) (z : Nat) : (s.onHarness f).byte z = s.byte z := rfl
@[simp] theorem State.onHarness_present (s : State) (f : Harness → Harness) (q : Nat) : (s.onHarness f).present q = s.present q := rfl

@[simp] theorem State.setDram_part (s : State) (c : Nat) (x : Dram) : (s.setDram c x).part = s.part := rfl
@[simp] theorem State.setDram_now (s : State) (c : Nat) (x : Dram) : (s.setDram c x).now = s.now := rfl
@[simp] theorem State.setDram_freeCtr (s : State) (c : Nat) (x : Dram) : (s.setDram c x).freeCtr = s.freeCtr := rfl
@[simp] theorem State.setDram_lastResp (s : State) (c : Nat) (x : Dram) : (s.setDram c x).lastResp = s.lastResp := rfl
@[simp] theorem State.setDram_regs (s : State) (c : Nat) (x : Dram) : (s.setDram c x).regs = s.regs := rfl
@[simp] theorem State.setDram_mem (s : State) (c : Nat) (x : Dram) : (s.setDram c x).mem = s.mem := rfl
@[simp] theorem State.setDram_msix (s : State) (c : Nat) (x : Dram) : (s.setDram c x).msix = s.msix := rfl
@[simp] theorem State.setDram_ctrl (s : State) (c : Nat) (x : Dram) : (s.setDram c x).ctrl = s.ctrl := rfl
@[simp] theorem State.setDram_cinch (s : State) (c : Nat) (x : Dram) : (s.setDram c x).cinch = s.cinch := rfl
@[simp] theorem State.setDram_life (s : State) (c : Nat) (x : Dram) : (s.setDram c x).life = s.life := rfl
@[simp] theorem State.setDram_tiles (s : State) (c : Nat) (x : Dram) : (s.setDram c x).tiles = s.tiles := rfl
@[simp] theorem State.setDram_fabric (s : State) (c : Nat) (x : Dram) : (s.setDram c x).fabric = s.fabric := rfl
@[simp] theorem State.setDram_mix (s : State) (c : Nat) (x : Dram) : (s.setDram c x).mix = s.mix := rfl
@[simp] theorem State.setDram_girth (s : State) (c : Nat) (x : Dram) : (s.setDram c x).girth = s.girth := rfl
@[simp] theorem State.setDram_harness (s : State) (c : Nat) (x : Dram) : (s.setDram c x).harness = s.harness := rfl
@[simp] theorem State.setDram_lanes (s : State) (c : Nat) (x : Dram) : (s.setDram c x).lanes = s.lanes := rfl
@[simp] theorem State.setDram_macs (s : State) (c : Nat) (x : Dram) : (s.setDram c x).macs = s.macs := rfl
@[simp] theorem State.setDram_time (s : State) (c : Nat) (x : Dram) : (s.setDram c x).time = s.time := rfl
@[simp] theorem State.setDram_rein (s : State) (c : Nat) (x : Dram) : (s.setDram c x).rein = s.rein := rfl
@[simp] theorem State.setDram_flow (s : State) (c : Nat) (x : Dram) : (s.setDram c x).flow = s.flow := rfl
@[simp] theorem State.setDram_saps (s : State) (c : Nat) (x : Dram) : (s.setDram c x).saps = s.saps := rfl
@[simp] theorem State.setDram_loops (s : State) (c : Nat) (x : Dram) : (s.setDram c x).loops = s.loops := rfl
@[simp] theorem State.setDram_keeper (s : State) (c : Nat) (x : Dram) : (s.setDram c x).keeper = s.keeper := rfl
@[simp] theorem State.setDram_pending (s : State) (c : Nat) (x : Dram) : (s.setDram c x).pending = s.pending := rfl
@[simp] theorem State.setDram_get (s : State) (c : Nat) (x : Dram) (q : Nat) (g : Fld) (j : Nat) : (s.setDram c x).get q g j = s.get q g j := rfl
@[simp] theorem State.setDram_flag (s : State) (c : Nat) (x : Dram) (q : Nat) (g : Fld) (j : Nat) : (s.setDram c x).flag q g j = s.flag q g j := rfl
@[simp] theorem State.setDram_byte (s : State) (c : Nat) (x : Dram) (z : Nat) : (s.setDram c x).byte z = s.byte z := rfl
@[simp] theorem State.setDram_present (s : State) (c : Nat) (x : Dram) (q : Nat) : (s.setDram c x).present q = s.present q := rfl

@[simp] theorem State.onDram_part (s : State) (c : Nat) (f : Dram → Dram) : (s.onDram c f).part = s.part := rfl
@[simp] theorem State.onDram_now (s : State) (c : Nat) (f : Dram → Dram) : (s.onDram c f).now = s.now := rfl
@[simp] theorem State.onDram_freeCtr (s : State) (c : Nat) (f : Dram → Dram) : (s.onDram c f).freeCtr = s.freeCtr := rfl
@[simp] theorem State.onDram_lastResp (s : State) (c : Nat) (f : Dram → Dram) : (s.onDram c f).lastResp = s.lastResp := rfl
@[simp] theorem State.onDram_regs (s : State) (c : Nat) (f : Dram → Dram) : (s.onDram c f).regs = s.regs := rfl
@[simp] theorem State.onDram_mem (s : State) (c : Nat) (f : Dram → Dram) : (s.onDram c f).mem = s.mem := rfl
@[simp] theorem State.onDram_msix (s : State) (c : Nat) (f : Dram → Dram) : (s.onDram c f).msix = s.msix := rfl
@[simp] theorem State.onDram_ctrl (s : State) (c : Nat) (f : Dram → Dram) : (s.onDram c f).ctrl = s.ctrl := rfl
@[simp] theorem State.onDram_cinch (s : State) (c : Nat) (f : Dram → Dram) : (s.onDram c f).cinch = s.cinch := rfl
@[simp] theorem State.onDram_life (s : State) (c : Nat) (f : Dram → Dram) : (s.onDram c f).life = s.life := rfl
@[simp] theorem State.onDram_tiles (s : State) (c : Nat) (f : Dram → Dram) : (s.onDram c f).tiles = s.tiles := rfl
@[simp] theorem State.onDram_fabric (s : State) (c : Nat) (f : Dram → Dram) : (s.onDram c f).fabric = s.fabric := rfl
@[simp] theorem State.onDram_mix (s : State) (c : Nat) (f : Dram → Dram) : (s.onDram c f).mix = s.mix := rfl
@[simp] theorem State.onDram_girth (s : State) (c : Nat) (f : Dram → Dram) : (s.onDram c f).girth = s.girth := rfl
@[simp] theorem State.onDram_harness (s : State) (c : Nat) (f : Dram → Dram) : (s.onDram c f).harness = s.harness := rfl
@[simp] theorem State.onDram_lanes (s : State) (c : Nat) (f : Dram → Dram) : (s.onDram c f).lanes = s.lanes := rfl
@[simp] theorem State.onDram_macs (s : State) (c : Nat) (f : Dram → Dram) : (s.onDram c f).macs = s.macs := rfl
@[simp] theorem State.onDram_time (s : State) (c : Nat) (f : Dram → Dram) : (s.onDram c f).time = s.time := rfl
@[simp] theorem State.onDram_rein (s : State) (c : Nat) (f : Dram → Dram) : (s.onDram c f).rein = s.rein := rfl
@[simp] theorem State.onDram_flow (s : State) (c : Nat) (f : Dram → Dram) : (s.onDram c f).flow = s.flow := rfl
@[simp] theorem State.onDram_saps (s : State) (c : Nat) (f : Dram → Dram) : (s.onDram c f).saps = s.saps := rfl
@[simp] theorem State.onDram_loops (s : State) (c : Nat) (f : Dram → Dram) : (s.onDram c f).loops = s.loops := rfl
@[simp] theorem State.onDram_keeper (s : State) (c : Nat) (f : Dram → Dram) : (s.onDram c f).keeper = s.keeper := rfl
@[simp] theorem State.onDram_pending (s : State) (c : Nat) (f : Dram → Dram) : (s.onDram c f).pending = s.pending := rfl
@[simp] theorem State.onDram_get (s : State) (c : Nat) (f : Dram → Dram) (q : Nat) (g : Fld) (j : Nat) : (s.onDram c f).get q g j = s.get q g j := rfl
@[simp] theorem State.onDram_flag (s : State) (c : Nat) (f : Dram → Dram) (q : Nat) (g : Fld) (j : Nat) : (s.onDram c f).flag q g j = s.flag q g j := rfl
@[simp] theorem State.onDram_byte (s : State) (c : Nat) (f : Dram → Dram) (z : Nat) : (s.onDram c f).byte z = s.byte z := rfl
@[simp] theorem State.onDram_present (s : State) (c : Nat) (f : Dram → Dram) (q : Nat) : (s.onDram c f).present q = s.present q := rfl

@[simp] theorem State.setLane_part (s : State) (n : Nat) (x : Lane) : (s.setLane n x).part = s.part := rfl
@[simp] theorem State.setLane_now (s : State) (n : Nat) (x : Lane) : (s.setLane n x).now = s.now := rfl
@[simp] theorem State.setLane_freeCtr (s : State) (n : Nat) (x : Lane) : (s.setLane n x).freeCtr = s.freeCtr := rfl
@[simp] theorem State.setLane_lastResp (s : State) (n : Nat) (x : Lane) : (s.setLane n x).lastResp = s.lastResp := rfl
@[simp] theorem State.setLane_regs (s : State) (n : Nat) (x : Lane) : (s.setLane n x).regs = s.regs := rfl
@[simp] theorem State.setLane_mem (s : State) (n : Nat) (x : Lane) : (s.setLane n x).mem = s.mem := rfl
@[simp] theorem State.setLane_msix (s : State) (n : Nat) (x : Lane) : (s.setLane n x).msix = s.msix := rfl
@[simp] theorem State.setLane_ctrl (s : State) (n : Nat) (x : Lane) : (s.setLane n x).ctrl = s.ctrl := rfl
@[simp] theorem State.setLane_cinch (s : State) (n : Nat) (x : Lane) : (s.setLane n x).cinch = s.cinch := rfl
@[simp] theorem State.setLane_life (s : State) (n : Nat) (x : Lane) : (s.setLane n x).life = s.life := rfl
@[simp] theorem State.setLane_tiles (s : State) (n : Nat) (x : Lane) : (s.setLane n x).tiles = s.tiles := rfl
@[simp] theorem State.setLane_fabric (s : State) (n : Nat) (x : Lane) : (s.setLane n x).fabric = s.fabric := rfl
@[simp] theorem State.setLane_mix (s : State) (n : Nat) (x : Lane) : (s.setLane n x).mix = s.mix := rfl
@[simp] theorem State.setLane_girth (s : State) (n : Nat) (x : Lane) : (s.setLane n x).girth = s.girth := rfl
@[simp] theorem State.setLane_harness (s : State) (n : Nat) (x : Lane) : (s.setLane n x).harness = s.harness := rfl
@[simp] theorem State.setLane_drams (s : State) (n : Nat) (x : Lane) : (s.setLane n x).drams = s.drams := rfl
@[simp] theorem State.setLane_macs (s : State) (n : Nat) (x : Lane) : (s.setLane n x).macs = s.macs := rfl
@[simp] theorem State.setLane_time (s : State) (n : Nat) (x : Lane) : (s.setLane n x).time = s.time := rfl
@[simp] theorem State.setLane_rein (s : State) (n : Nat) (x : Lane) : (s.setLane n x).rein = s.rein := rfl
@[simp] theorem State.setLane_flow (s : State) (n : Nat) (x : Lane) : (s.setLane n x).flow = s.flow := rfl
@[simp] theorem State.setLane_saps (s : State) (n : Nat) (x : Lane) : (s.setLane n x).saps = s.saps := rfl
@[simp] theorem State.setLane_loops (s : State) (n : Nat) (x : Lane) : (s.setLane n x).loops = s.loops := rfl
@[simp] theorem State.setLane_keeper (s : State) (n : Nat) (x : Lane) : (s.setLane n x).keeper = s.keeper := rfl
@[simp] theorem State.setLane_pending (s : State) (n : Nat) (x : Lane) : (s.setLane n x).pending = s.pending := rfl
@[simp] theorem State.setLane_get (s : State) (n : Nat) (x : Lane) (q : Nat) (g : Fld) (j : Nat) : (s.setLane n x).get q g j = s.get q g j := rfl
@[simp] theorem State.setLane_flag (s : State) (n : Nat) (x : Lane) (q : Nat) (g : Fld) (j : Nat) : (s.setLane n x).flag q g j = s.flag q g j := rfl
@[simp] theorem State.setLane_byte (s : State) (n : Nat) (x : Lane) (z : Nat) : (s.setLane n x).byte z = s.byte z := rfl
@[simp] theorem State.setLane_present (s : State) (n : Nat) (x : Lane) (q : Nat) : (s.setLane n x).present q = s.present q := rfl

@[simp] theorem State.onLane_part (s : State) (n : Nat) (f : Lane → Lane) : (s.onLane n f).part = s.part := rfl
@[simp] theorem State.onLane_now (s : State) (n : Nat) (f : Lane → Lane) : (s.onLane n f).now = s.now := rfl
@[simp] theorem State.onLane_freeCtr (s : State) (n : Nat) (f : Lane → Lane) : (s.onLane n f).freeCtr = s.freeCtr := rfl
@[simp] theorem State.onLane_lastResp (s : State) (n : Nat) (f : Lane → Lane) : (s.onLane n f).lastResp = s.lastResp := rfl
@[simp] theorem State.onLane_regs (s : State) (n : Nat) (f : Lane → Lane) : (s.onLane n f).regs = s.regs := rfl
@[simp] theorem State.onLane_mem (s : State) (n : Nat) (f : Lane → Lane) : (s.onLane n f).mem = s.mem := rfl
@[simp] theorem State.onLane_msix (s : State) (n : Nat) (f : Lane → Lane) : (s.onLane n f).msix = s.msix := rfl
@[simp] theorem State.onLane_ctrl (s : State) (n : Nat) (f : Lane → Lane) : (s.onLane n f).ctrl = s.ctrl := rfl
@[simp] theorem State.onLane_cinch (s : State) (n : Nat) (f : Lane → Lane) : (s.onLane n f).cinch = s.cinch := rfl
@[simp] theorem State.onLane_life (s : State) (n : Nat) (f : Lane → Lane) : (s.onLane n f).life = s.life := rfl
@[simp] theorem State.onLane_tiles (s : State) (n : Nat) (f : Lane → Lane) : (s.onLane n f).tiles = s.tiles := rfl
@[simp] theorem State.onLane_fabric (s : State) (n : Nat) (f : Lane → Lane) : (s.onLane n f).fabric = s.fabric := rfl
@[simp] theorem State.onLane_mix (s : State) (n : Nat) (f : Lane → Lane) : (s.onLane n f).mix = s.mix := rfl
@[simp] theorem State.onLane_girth (s : State) (n : Nat) (f : Lane → Lane) : (s.onLane n f).girth = s.girth := rfl
@[simp] theorem State.onLane_harness (s : State) (n : Nat) (f : Lane → Lane) : (s.onLane n f).harness = s.harness := rfl
@[simp] theorem State.onLane_drams (s : State) (n : Nat) (f : Lane → Lane) : (s.onLane n f).drams = s.drams := rfl
@[simp] theorem State.onLane_macs (s : State) (n : Nat) (f : Lane → Lane) : (s.onLane n f).macs = s.macs := rfl
@[simp] theorem State.onLane_time (s : State) (n : Nat) (f : Lane → Lane) : (s.onLane n f).time = s.time := rfl
@[simp] theorem State.onLane_rein (s : State) (n : Nat) (f : Lane → Lane) : (s.onLane n f).rein = s.rein := rfl
@[simp] theorem State.onLane_flow (s : State) (n : Nat) (f : Lane → Lane) : (s.onLane n f).flow = s.flow := rfl
@[simp] theorem State.onLane_saps (s : State) (n : Nat) (f : Lane → Lane) : (s.onLane n f).saps = s.saps := rfl
@[simp] theorem State.onLane_loops (s : State) (n : Nat) (f : Lane → Lane) : (s.onLane n f).loops = s.loops := rfl
@[simp] theorem State.onLane_keeper (s : State) (n : Nat) (f : Lane → Lane) : (s.onLane n f).keeper = s.keeper := rfl
@[simp] theorem State.onLane_pending (s : State) (n : Nat) (f : Lane → Lane) : (s.onLane n f).pending = s.pending := rfl
@[simp] theorem State.onLane_get (s : State) (n : Nat) (f : Lane → Lane) (q : Nat) (g : Fld) (j : Nat) : (s.onLane n f).get q g j = s.get q g j := rfl
@[simp] theorem State.onLane_flag (s : State) (n : Nat) (f : Lane → Lane) (q : Nat) (g : Fld) (j : Nat) : (s.onLane n f).flag q g j = s.flag q g j := rfl
@[simp] theorem State.onLane_byte (s : State) (n : Nat) (f : Lane → Lane) (z : Nat) : (s.onLane n f).byte z = s.byte z := rfl
@[simp] theorem State.onLane_present (s : State) (n : Nat) (f : Lane → Lane) (q : Nat) : (s.onLane n f).present q = s.present q := rfl

@[simp] theorem State.setMac_part (s : State) (n : Nat) (x : Mac) : (s.setMac n x).part = s.part := rfl
@[simp] theorem State.setMac_now (s : State) (n : Nat) (x : Mac) : (s.setMac n x).now = s.now := rfl
@[simp] theorem State.setMac_freeCtr (s : State) (n : Nat) (x : Mac) : (s.setMac n x).freeCtr = s.freeCtr := rfl
@[simp] theorem State.setMac_lastResp (s : State) (n : Nat) (x : Mac) : (s.setMac n x).lastResp = s.lastResp := rfl
@[simp] theorem State.setMac_regs (s : State) (n : Nat) (x : Mac) : (s.setMac n x).regs = s.regs := rfl
@[simp] theorem State.setMac_mem (s : State) (n : Nat) (x : Mac) : (s.setMac n x).mem = s.mem := rfl
@[simp] theorem State.setMac_msix (s : State) (n : Nat) (x : Mac) : (s.setMac n x).msix = s.msix := rfl
@[simp] theorem State.setMac_ctrl (s : State) (n : Nat) (x : Mac) : (s.setMac n x).ctrl = s.ctrl := rfl
@[simp] theorem State.setMac_cinch (s : State) (n : Nat) (x : Mac) : (s.setMac n x).cinch = s.cinch := rfl
@[simp] theorem State.setMac_life (s : State) (n : Nat) (x : Mac) : (s.setMac n x).life = s.life := rfl
@[simp] theorem State.setMac_tiles (s : State) (n : Nat) (x : Mac) : (s.setMac n x).tiles = s.tiles := rfl
@[simp] theorem State.setMac_fabric (s : State) (n : Nat) (x : Mac) : (s.setMac n x).fabric = s.fabric := rfl
@[simp] theorem State.setMac_mix (s : State) (n : Nat) (x : Mac) : (s.setMac n x).mix = s.mix := rfl
@[simp] theorem State.setMac_girth (s : State) (n : Nat) (x : Mac) : (s.setMac n x).girth = s.girth := rfl
@[simp] theorem State.setMac_harness (s : State) (n : Nat) (x : Mac) : (s.setMac n x).harness = s.harness := rfl
@[simp] theorem State.setMac_drams (s : State) (n : Nat) (x : Mac) : (s.setMac n x).drams = s.drams := rfl
@[simp] theorem State.setMac_lanes (s : State) (n : Nat) (x : Mac) : (s.setMac n x).lanes = s.lanes := rfl
@[simp] theorem State.setMac_time (s : State) (n : Nat) (x : Mac) : (s.setMac n x).time = s.time := rfl
@[simp] theorem State.setMac_rein (s : State) (n : Nat) (x : Mac) : (s.setMac n x).rein = s.rein := rfl
@[simp] theorem State.setMac_flow (s : State) (n : Nat) (x : Mac) : (s.setMac n x).flow = s.flow := rfl
@[simp] theorem State.setMac_saps (s : State) (n : Nat) (x : Mac) : (s.setMac n x).saps = s.saps := rfl
@[simp] theorem State.setMac_loops (s : State) (n : Nat) (x : Mac) : (s.setMac n x).loops = s.loops := rfl
@[simp] theorem State.setMac_keeper (s : State) (n : Nat) (x : Mac) : (s.setMac n x).keeper = s.keeper := rfl
@[simp] theorem State.setMac_pending (s : State) (n : Nat) (x : Mac) : (s.setMac n x).pending = s.pending := rfl
@[simp] theorem State.setMac_get (s : State) (n : Nat) (x : Mac) (q : Nat) (g : Fld) (j : Nat) : (s.setMac n x).get q g j = s.get q g j := rfl
@[simp] theorem State.setMac_flag (s : State) (n : Nat) (x : Mac) (q : Nat) (g : Fld) (j : Nat) : (s.setMac n x).flag q g j = s.flag q g j := rfl
@[simp] theorem State.setMac_byte (s : State) (n : Nat) (x : Mac) (z : Nat) : (s.setMac n x).byte z = s.byte z := rfl
@[simp] theorem State.setMac_present (s : State) (n : Nat) (x : Mac) (q : Nat) : (s.setMac n x).present q = s.present q := rfl

@[simp] theorem State.onMac_part (s : State) (n : Nat) (f : Mac → Mac) : (s.onMac n f).part = s.part := rfl
@[simp] theorem State.onMac_now (s : State) (n : Nat) (f : Mac → Mac) : (s.onMac n f).now = s.now := rfl
@[simp] theorem State.onMac_freeCtr (s : State) (n : Nat) (f : Mac → Mac) : (s.onMac n f).freeCtr = s.freeCtr := rfl
@[simp] theorem State.onMac_lastResp (s : State) (n : Nat) (f : Mac → Mac) : (s.onMac n f).lastResp = s.lastResp := rfl
@[simp] theorem State.onMac_regs (s : State) (n : Nat) (f : Mac → Mac) : (s.onMac n f).regs = s.regs := rfl
@[simp] theorem State.onMac_mem (s : State) (n : Nat) (f : Mac → Mac) : (s.onMac n f).mem = s.mem := rfl
@[simp] theorem State.onMac_msix (s : State) (n : Nat) (f : Mac → Mac) : (s.onMac n f).msix = s.msix := rfl
@[simp] theorem State.onMac_ctrl (s : State) (n : Nat) (f : Mac → Mac) : (s.onMac n f).ctrl = s.ctrl := rfl
@[simp] theorem State.onMac_cinch (s : State) (n : Nat) (f : Mac → Mac) : (s.onMac n f).cinch = s.cinch := rfl
@[simp] theorem State.onMac_life (s : State) (n : Nat) (f : Mac → Mac) : (s.onMac n f).life = s.life := rfl
@[simp] theorem State.onMac_tiles (s : State) (n : Nat) (f : Mac → Mac) : (s.onMac n f).tiles = s.tiles := rfl
@[simp] theorem State.onMac_fabric (s : State) (n : Nat) (f : Mac → Mac) : (s.onMac n f).fabric = s.fabric := rfl
@[simp] theorem State.onMac_mix (s : State) (n : Nat) (f : Mac → Mac) : (s.onMac n f).mix = s.mix := rfl
@[simp] theorem State.onMac_girth (s : State) (n : Nat) (f : Mac → Mac) : (s.onMac n f).girth = s.girth := rfl
@[simp] theorem State.onMac_harness (s : State) (n : Nat) (f : Mac → Mac) : (s.onMac n f).harness = s.harness := rfl
@[simp] theorem State.onMac_drams (s : State) (n : Nat) (f : Mac → Mac) : (s.onMac n f).drams = s.drams := rfl
@[simp] theorem State.onMac_lanes (s : State) (n : Nat) (f : Mac → Mac) : (s.onMac n f).lanes = s.lanes := rfl
@[simp] theorem State.onMac_time (s : State) (n : Nat) (f : Mac → Mac) : (s.onMac n f).time = s.time := rfl
@[simp] theorem State.onMac_rein (s : State) (n : Nat) (f : Mac → Mac) : (s.onMac n f).rein = s.rein := rfl
@[simp] theorem State.onMac_flow (s : State) (n : Nat) (f : Mac → Mac) : (s.onMac n f).flow = s.flow := rfl
@[simp] theorem State.onMac_saps (s : State) (n : Nat) (f : Mac → Mac) : (s.onMac n f).saps = s.saps := rfl
@[simp] theorem State.onMac_loops (s : State) (n : Nat) (f : Mac → Mac) : (s.onMac n f).loops = s.loops := rfl
@[simp] theorem State.onMac_keeper (s : State) (n : Nat) (f : Mac → Mac) : (s.onMac n f).keeper = s.keeper := rfl
@[simp] theorem State.onMac_pending (s : State) (n : Nat) (f : Mac → Mac) : (s.onMac n f).pending = s.pending := rfl
@[simp] theorem State.onMac_get (s : State) (n : Nat) (f : Mac → Mac) (q : Nat) (g : Fld) (j : Nat) : (s.onMac n f).get q g j = s.get q g j := rfl
@[simp] theorem State.onMac_flag (s : State) (n : Nat) (f : Mac → Mac) (q : Nat) (g : Fld) (j : Nat) : (s.onMac n f).flag q g j = s.flag q g j := rfl
@[simp] theorem State.onMac_byte (s : State) (n : Nat) (f : Mac → Mac) (z : Nat) : (s.onMac n f).byte z = s.byte z := rfl
@[simp] theorem State.onMac_present (s : State) (n : Nat) (f : Mac → Mac) (q : Nat) : (s.onMac n f).present q = s.present q := rfl

@[simp] theorem State.setCounter_part (s : State) (n : Nat) (c : Counter) : (s.setCounter n c).part = s.part := rfl
@[simp] theorem State.setCounter_now (s : State) (n : Nat) (c : Counter) : (s.setCounter n c).now = s.now := rfl
@[simp] theorem State.setCounter_freeCtr (s : State) (n : Nat) (c : Counter) : (s.setCounter n c).freeCtr = s.freeCtr := rfl
@[simp] theorem State.setCounter_lastResp (s : State) (n : Nat) (c : Counter) : (s.setCounter n c).lastResp = s.lastResp := rfl
@[simp] theorem State.setCounter_regs (s : State) (n : Nat) (c : Counter) : (s.setCounter n c).regs = s.regs := rfl
@[simp] theorem State.setCounter_mem (s : State) (n : Nat) (c : Counter) : (s.setCounter n c).mem = s.mem := rfl
@[simp] theorem State.setCounter_msix (s : State) (n : Nat) (c : Counter) : (s.setCounter n c).msix = s.msix := rfl
@[simp] theorem State.setCounter_ctrl (s : State) (n : Nat) (c : Counter) : (s.setCounter n c).ctrl = s.ctrl := rfl
@[simp] theorem State.setCounter_cinch (s : State) (n : Nat) (c : Counter) : (s.setCounter n c).cinch = s.cinch := rfl
@[simp] theorem State.setCounter_life (s : State) (n : Nat) (c : Counter) : (s.setCounter n c).life = s.life := rfl
@[simp] theorem State.setCounter_tiles (s : State) (n : Nat) (c : Counter) : (s.setCounter n c).tiles = s.tiles := rfl
@[simp] theorem State.setCounter_fabric (s : State) (n : Nat) (c : Counter) : (s.setCounter n c).fabric = s.fabric := rfl
@[simp] theorem State.setCounter_mix (s : State) (n : Nat) (c : Counter) : (s.setCounter n c).mix = s.mix := rfl
@[simp] theorem State.setCounter_girth (s : State) (n : Nat) (c : Counter) : (s.setCounter n c).girth = s.girth := rfl
@[simp] theorem State.setCounter_harness (s : State) (n : Nat) (c : Counter) : (s.setCounter n c).harness = s.harness := rfl
@[simp] theorem State.setCounter_drams (s : State) (n : Nat) (c : Counter) : (s.setCounter n c).drams = s.drams := rfl
@[simp] theorem State.setCounter_lanes (s : State) (n : Nat) (c : Counter) : (s.setCounter n c).lanes = s.lanes := rfl
@[simp] theorem State.setCounter_macs (s : State) (n : Nat) (c : Counter) : (s.setCounter n c).macs = s.macs := rfl
@[simp] theorem State.setCounter_rein (s : State) (n : Nat) (c : Counter) : (s.setCounter n c).rein = s.rein := rfl
@[simp] theorem State.setCounter_flow (s : State) (n : Nat) (c : Counter) : (s.setCounter n c).flow = s.flow := rfl
@[simp] theorem State.setCounter_saps (s : State) (n : Nat) (c : Counter) : (s.setCounter n c).saps = s.saps := rfl
@[simp] theorem State.setCounter_loops (s : State) (n : Nat) (c : Counter) : (s.setCounter n c).loops = s.loops := rfl
@[simp] theorem State.setCounter_keeper (s : State) (n : Nat) (c : Counter) : (s.setCounter n c).keeper = s.keeper := rfl
@[simp] theorem State.setCounter_pending (s : State) (n : Nat) (c : Counter) : (s.setCounter n c).pending = s.pending := rfl
@[simp] theorem State.setCounter_get (s : State) (n : Nat) (c : Counter) (q : Nat) (g : Fld) (j : Nat) : (s.setCounter n c).get q g j = s.get q g j := rfl
@[simp] theorem State.setCounter_flag (s : State) (n : Nat) (c : Counter) (q : Nat) (g : Fld) (j : Nat) : (s.setCounter n c).flag q g j = s.flag q g j := rfl
@[simp] theorem State.setCounter_byte (s : State) (n : Nat) (c : Counter) (z : Nat) : (s.setCounter n c).byte z = s.byte z := rfl
@[simp] theorem State.setCounter_present (s : State) (n : Nat) (c : Counter) (q : Nat) : (s.setCounter n c).present q = s.present q := rfl

@[simp] theorem State.setPtp_part (s : State) (n : Nat) (p : Ptp) : (s.setPtp n p).part = s.part := rfl
@[simp] theorem State.setPtp_now (s : State) (n : Nat) (p : Ptp) : (s.setPtp n p).now = s.now := rfl
@[simp] theorem State.setPtp_freeCtr (s : State) (n : Nat) (p : Ptp) : (s.setPtp n p).freeCtr = s.freeCtr := rfl
@[simp] theorem State.setPtp_lastResp (s : State) (n : Nat) (p : Ptp) : (s.setPtp n p).lastResp = s.lastResp := rfl
@[simp] theorem State.setPtp_regs (s : State) (n : Nat) (p : Ptp) : (s.setPtp n p).regs = s.regs := rfl
@[simp] theorem State.setPtp_mem (s : State) (n : Nat) (p : Ptp) : (s.setPtp n p).mem = s.mem := rfl
@[simp] theorem State.setPtp_msix (s : State) (n : Nat) (p : Ptp) : (s.setPtp n p).msix = s.msix := rfl
@[simp] theorem State.setPtp_ctrl (s : State) (n : Nat) (p : Ptp) : (s.setPtp n p).ctrl = s.ctrl := rfl
@[simp] theorem State.setPtp_cinch (s : State) (n : Nat) (p : Ptp) : (s.setPtp n p).cinch = s.cinch := rfl
@[simp] theorem State.setPtp_life (s : State) (n : Nat) (p : Ptp) : (s.setPtp n p).life = s.life := rfl
@[simp] theorem State.setPtp_tiles (s : State) (n : Nat) (p : Ptp) : (s.setPtp n p).tiles = s.tiles := rfl
@[simp] theorem State.setPtp_fabric (s : State) (n : Nat) (p : Ptp) : (s.setPtp n p).fabric = s.fabric := rfl
@[simp] theorem State.setPtp_mix (s : State) (n : Nat) (p : Ptp) : (s.setPtp n p).mix = s.mix := rfl
@[simp] theorem State.setPtp_girth (s : State) (n : Nat) (p : Ptp) : (s.setPtp n p).girth = s.girth := rfl
@[simp] theorem State.setPtp_harness (s : State) (n : Nat) (p : Ptp) : (s.setPtp n p).harness = s.harness := rfl
@[simp] theorem State.setPtp_drams (s : State) (n : Nat) (p : Ptp) : (s.setPtp n p).drams = s.drams := rfl
@[simp] theorem State.setPtp_lanes (s : State) (n : Nat) (p : Ptp) : (s.setPtp n p).lanes = s.lanes := rfl
@[simp] theorem State.setPtp_macs (s : State) (n : Nat) (p : Ptp) : (s.setPtp n p).macs = s.macs := rfl
@[simp] theorem State.setPtp_rein (s : State) (n : Nat) (p : Ptp) : (s.setPtp n p).rein = s.rein := rfl
@[simp] theorem State.setPtp_flow (s : State) (n : Nat) (p : Ptp) : (s.setPtp n p).flow = s.flow := rfl
@[simp] theorem State.setPtp_saps (s : State) (n : Nat) (p : Ptp) : (s.setPtp n p).saps = s.saps := rfl
@[simp] theorem State.setPtp_loops (s : State) (n : Nat) (p : Ptp) : (s.setPtp n p).loops = s.loops := rfl
@[simp] theorem State.setPtp_keeper (s : State) (n : Nat) (p : Ptp) : (s.setPtp n p).keeper = s.keeper := rfl
@[simp] theorem State.setPtp_pending (s : State) (n : Nat) (p : Ptp) : (s.setPtp n p).pending = s.pending := rfl
@[simp] theorem State.setPtp_get (s : State) (n : Nat) (p : Ptp) (q : Nat) (g : Fld) (j : Nat) : (s.setPtp n p).get q g j = s.get q g j := rfl
@[simp] theorem State.setPtp_flag (s : State) (n : Nat) (p : Ptp) (q : Nat) (g : Fld) (j : Nat) : (s.setPtp n p).flag q g j = s.flag q g j := rfl
@[simp] theorem State.setPtp_byte (s : State) (n : Nat) (p : Ptp) (z : Nat) : (s.setPtp n p).byte z = s.byte z := rfl
@[simp] theorem State.setPtp_present (s : State) (n : Nat) (p : Ptp) (q : Nat) : (s.setPtp n p).present q = s.present q := rfl

@[simp] theorem State.onRein_part (s : State) (f : Rein → Rein) : (s.onRein f).part = s.part := rfl
@[simp] theorem State.onRein_now (s : State) (f : Rein → Rein) : (s.onRein f).now = s.now := rfl
@[simp] theorem State.onRein_freeCtr (s : State) (f : Rein → Rein) : (s.onRein f).freeCtr = s.freeCtr := rfl
@[simp] theorem State.onRein_lastResp (s : State) (f : Rein → Rein) : (s.onRein f).lastResp = s.lastResp := rfl
@[simp] theorem State.onRein_regs (s : State) (f : Rein → Rein) : (s.onRein f).regs = s.regs := rfl
@[simp] theorem State.onRein_mem (s : State) (f : Rein → Rein) : (s.onRein f).mem = s.mem := rfl
@[simp] theorem State.onRein_msix (s : State) (f : Rein → Rein) : (s.onRein f).msix = s.msix := rfl
@[simp] theorem State.onRein_ctrl (s : State) (f : Rein → Rein) : (s.onRein f).ctrl = s.ctrl := rfl
@[simp] theorem State.onRein_cinch (s : State) (f : Rein → Rein) : (s.onRein f).cinch = s.cinch := rfl
@[simp] theorem State.onRein_life (s : State) (f : Rein → Rein) : (s.onRein f).life = s.life := rfl
@[simp] theorem State.onRein_tiles (s : State) (f : Rein → Rein) : (s.onRein f).tiles = s.tiles := rfl
@[simp] theorem State.onRein_fabric (s : State) (f : Rein → Rein) : (s.onRein f).fabric = s.fabric := rfl
@[simp] theorem State.onRein_mix (s : State) (f : Rein → Rein) : (s.onRein f).mix = s.mix := rfl
@[simp] theorem State.onRein_girth (s : State) (f : Rein → Rein) : (s.onRein f).girth = s.girth := rfl
@[simp] theorem State.onRein_harness (s : State) (f : Rein → Rein) : (s.onRein f).harness = s.harness := rfl
@[simp] theorem State.onRein_drams (s : State) (f : Rein → Rein) : (s.onRein f).drams = s.drams := rfl
@[simp] theorem State.onRein_lanes (s : State) (f : Rein → Rein) : (s.onRein f).lanes = s.lanes := rfl
@[simp] theorem State.onRein_macs (s : State) (f : Rein → Rein) : (s.onRein f).macs = s.macs := rfl
@[simp] theorem State.onRein_time (s : State) (f : Rein → Rein) : (s.onRein f).time = s.time := rfl
@[simp] theorem State.onRein_flow (s : State) (f : Rein → Rein) : (s.onRein f).flow = s.flow := rfl
@[simp] theorem State.onRein_saps (s : State) (f : Rein → Rein) : (s.onRein f).saps = s.saps := rfl
@[simp] theorem State.onRein_loops (s : State) (f : Rein → Rein) : (s.onRein f).loops = s.loops := rfl
@[simp] theorem State.onRein_keeper (s : State) (f : Rein → Rein) : (s.onRein f).keeper = s.keeper := rfl
@[simp] theorem State.onRein_pending (s : State) (f : Rein → Rein) : (s.onRein f).pending = s.pending := rfl
@[simp] theorem State.onRein_get (s : State) (f : Rein → Rein) (q : Nat) (g : Fld) (j : Nat) : (s.onRein f).get q g j = s.get q g j := rfl
@[simp] theorem State.onRein_flag (s : State) (f : Rein → Rein) (q : Nat) (g : Fld) (j : Nat) : (s.onRein f).flag q g j = s.flag q g j := rfl
@[simp] theorem State.onRein_byte (s : State) (f : Rein → Rein) (z : Nat) : (s.onRein f).byte z = s.byte z := rfl
@[simp] theorem State.onRein_present (s : State) (f : Rein → Rein) (q : Nat) : (s.onRein f).present q = s.present q := rfl

@[simp] theorem State.onRef_part (s : State) (i : Nat) (f : RefSlot → RefSlot) : (s.onRef i f).part = s.part := rfl
@[simp] theorem State.onRef_now (s : State) (i : Nat) (f : RefSlot → RefSlot) : (s.onRef i f).now = s.now := rfl
@[simp] theorem State.onRef_freeCtr (s : State) (i : Nat) (f : RefSlot → RefSlot) : (s.onRef i f).freeCtr = s.freeCtr := rfl
@[simp] theorem State.onRef_lastResp (s : State) (i : Nat) (f : RefSlot → RefSlot) : (s.onRef i f).lastResp = s.lastResp := rfl
@[simp] theorem State.onRef_regs (s : State) (i : Nat) (f : RefSlot → RefSlot) : (s.onRef i f).regs = s.regs := rfl
@[simp] theorem State.onRef_mem (s : State) (i : Nat) (f : RefSlot → RefSlot) : (s.onRef i f).mem = s.mem := rfl
@[simp] theorem State.onRef_msix (s : State) (i : Nat) (f : RefSlot → RefSlot) : (s.onRef i f).msix = s.msix := rfl
@[simp] theorem State.onRef_ctrl (s : State) (i : Nat) (f : RefSlot → RefSlot) : (s.onRef i f).ctrl = s.ctrl := rfl
@[simp] theorem State.onRef_cinch (s : State) (i : Nat) (f : RefSlot → RefSlot) : (s.onRef i f).cinch = s.cinch := rfl
@[simp] theorem State.onRef_life (s : State) (i : Nat) (f : RefSlot → RefSlot) : (s.onRef i f).life = s.life := rfl
@[simp] theorem State.onRef_tiles (s : State) (i : Nat) (f : RefSlot → RefSlot) : (s.onRef i f).tiles = s.tiles := rfl
@[simp] theorem State.onRef_fabric (s : State) (i : Nat) (f : RefSlot → RefSlot) : (s.onRef i f).fabric = s.fabric := rfl
@[simp] theorem State.onRef_mix (s : State) (i : Nat) (f : RefSlot → RefSlot) : (s.onRef i f).mix = s.mix := rfl
@[simp] theorem State.onRef_girth (s : State) (i : Nat) (f : RefSlot → RefSlot) : (s.onRef i f).girth = s.girth := rfl
@[simp] theorem State.onRef_harness (s : State) (i : Nat) (f : RefSlot → RefSlot) : (s.onRef i f).harness = s.harness := rfl
@[simp] theorem State.onRef_drams (s : State) (i : Nat) (f : RefSlot → RefSlot) : (s.onRef i f).drams = s.drams := rfl
@[simp] theorem State.onRef_lanes (s : State) (i : Nat) (f : RefSlot → RefSlot) : (s.onRef i f).lanes = s.lanes := rfl
@[simp] theorem State.onRef_macs (s : State) (i : Nat) (f : RefSlot → RefSlot) : (s.onRef i f).macs = s.macs := rfl
@[simp] theorem State.onRef_time (s : State) (i : Nat) (f : RefSlot → RefSlot) : (s.onRef i f).time = s.time := rfl
@[simp] theorem State.onRef_flow (s : State) (i : Nat) (f : RefSlot → RefSlot) : (s.onRef i f).flow = s.flow := rfl
@[simp] theorem State.onRef_saps (s : State) (i : Nat) (f : RefSlot → RefSlot) : (s.onRef i f).saps = s.saps := rfl
@[simp] theorem State.onRef_loops (s : State) (i : Nat) (f : RefSlot → RefSlot) : (s.onRef i f).loops = s.loops := rfl
@[simp] theorem State.onRef_keeper (s : State) (i : Nat) (f : RefSlot → RefSlot) : (s.onRef i f).keeper = s.keeper := rfl
@[simp] theorem State.onRef_pending (s : State) (i : Nat) (f : RefSlot → RefSlot) : (s.onRef i f).pending = s.pending := rfl
@[simp] theorem State.onRef_get (s : State) (i : Nat) (f : RefSlot → RefSlot) (q : Nat) (g : Fld) (j : Nat) : (s.onRef i f).get q g j = s.get q g j := rfl
@[simp] theorem State.onRef_flag (s : State) (i : Nat) (f : RefSlot → RefSlot) (q : Nat) (g : Fld) (j : Nat) : (s.onRef i f).flag q g j = s.flag q g j := rfl
@[simp] theorem State.onRef_byte (s : State) (i : Nat) (f : RefSlot → RefSlot) (z : Nat) : (s.onRef i f).byte z = s.byte z := rfl
@[simp] theorem State.onRef_present (s : State) (i : Nat) (f : RefSlot → RefSlot) (q : Nat) : (s.onRef i f).present q = s.present q := rfl

@[simp] theorem State.onDpll_part (s : State) (k : Nat) (f : Dpll → Dpll) : (s.onDpll k f).part = s.part := rfl
@[simp] theorem State.onDpll_now (s : State) (k : Nat) (f : Dpll → Dpll) : (s.onDpll k f).now = s.now := rfl
@[simp] theorem State.onDpll_freeCtr (s : State) (k : Nat) (f : Dpll → Dpll) : (s.onDpll k f).freeCtr = s.freeCtr := rfl
@[simp] theorem State.onDpll_lastResp (s : State) (k : Nat) (f : Dpll → Dpll) : (s.onDpll k f).lastResp = s.lastResp := rfl
@[simp] theorem State.onDpll_regs (s : State) (k : Nat) (f : Dpll → Dpll) : (s.onDpll k f).regs = s.regs := rfl
@[simp] theorem State.onDpll_mem (s : State) (k : Nat) (f : Dpll → Dpll) : (s.onDpll k f).mem = s.mem := rfl
@[simp] theorem State.onDpll_msix (s : State) (k : Nat) (f : Dpll → Dpll) : (s.onDpll k f).msix = s.msix := rfl
@[simp] theorem State.onDpll_ctrl (s : State) (k : Nat) (f : Dpll → Dpll) : (s.onDpll k f).ctrl = s.ctrl := rfl
@[simp] theorem State.onDpll_cinch (s : State) (k : Nat) (f : Dpll → Dpll) : (s.onDpll k f).cinch = s.cinch := rfl
@[simp] theorem State.onDpll_life (s : State) (k : Nat) (f : Dpll → Dpll) : (s.onDpll k f).life = s.life := rfl
@[simp] theorem State.onDpll_tiles (s : State) (k : Nat) (f : Dpll → Dpll) : (s.onDpll k f).tiles = s.tiles := rfl
@[simp] theorem State.onDpll_fabric (s : State) (k : Nat) (f : Dpll → Dpll) : (s.onDpll k f).fabric = s.fabric := rfl
@[simp] theorem State.onDpll_mix (s : State) (k : Nat) (f : Dpll → Dpll) : (s.onDpll k f).mix = s.mix := rfl
@[simp] theorem State.onDpll_girth (s : State) (k : Nat) (f : Dpll → Dpll) : (s.onDpll k f).girth = s.girth := rfl
@[simp] theorem State.onDpll_harness (s : State) (k : Nat) (f : Dpll → Dpll) : (s.onDpll k f).harness = s.harness := rfl
@[simp] theorem State.onDpll_drams (s : State) (k : Nat) (f : Dpll → Dpll) : (s.onDpll k f).drams = s.drams := rfl
@[simp] theorem State.onDpll_lanes (s : State) (k : Nat) (f : Dpll → Dpll) : (s.onDpll k f).lanes = s.lanes := rfl
@[simp] theorem State.onDpll_macs (s : State) (k : Nat) (f : Dpll → Dpll) : (s.onDpll k f).macs = s.macs := rfl
@[simp] theorem State.onDpll_time (s : State) (k : Nat) (f : Dpll → Dpll) : (s.onDpll k f).time = s.time := rfl
@[simp] theorem State.onDpll_flow (s : State) (k : Nat) (f : Dpll → Dpll) : (s.onDpll k f).flow = s.flow := rfl
@[simp] theorem State.onDpll_saps (s : State) (k : Nat) (f : Dpll → Dpll) : (s.onDpll k f).saps = s.saps := rfl
@[simp] theorem State.onDpll_loops (s : State) (k : Nat) (f : Dpll → Dpll) : (s.onDpll k f).loops = s.loops := rfl
@[simp] theorem State.onDpll_keeper (s : State) (k : Nat) (f : Dpll → Dpll) : (s.onDpll k f).keeper = s.keeper := rfl
@[simp] theorem State.onDpll_pending (s : State) (k : Nat) (f : Dpll → Dpll) : (s.onDpll k f).pending = s.pending := rfl
@[simp] theorem State.onDpll_get (s : State) (k : Nat) (f : Dpll → Dpll) (q : Nat) (g : Fld) (j : Nat) : (s.onDpll k f).get q g j = s.get q g j := rfl
@[simp] theorem State.onDpll_flag (s : State) (k : Nat) (f : Dpll → Dpll) (q : Nat) (g : Fld) (j : Nat) : (s.onDpll k f).flag q g j = s.flag q g j := rfl
@[simp] theorem State.onDpll_byte (s : State) (k : Nat) (f : Dpll → Dpll) (z : Nat) : (s.onDpll k f).byte z = s.byte z := rfl
@[simp] theorem State.onDpll_present (s : State) (k : Nat) (f : Dpll → Dpll) (q : Nat) : (s.onDpll k f).present q = s.present q := rfl

@[simp] theorem State.onFlow_part (s : State) (f : Flow → Flow) : (s.onFlow f).part = s.part := rfl
@[simp] theorem State.onFlow_now (s : State) (f : Flow → Flow) : (s.onFlow f).now = s.now := rfl
@[simp] theorem State.onFlow_freeCtr (s : State) (f : Flow → Flow) : (s.onFlow f).freeCtr = s.freeCtr := rfl
@[simp] theorem State.onFlow_lastResp (s : State) (f : Flow → Flow) : (s.onFlow f).lastResp = s.lastResp := rfl
@[simp] theorem State.onFlow_regs (s : State) (f : Flow → Flow) : (s.onFlow f).regs = s.regs := rfl
@[simp] theorem State.onFlow_mem (s : State) (f : Flow → Flow) : (s.onFlow f).mem = s.mem := rfl
@[simp] theorem State.onFlow_msix (s : State) (f : Flow → Flow) : (s.onFlow f).msix = s.msix := rfl
@[simp] theorem State.onFlow_ctrl (s : State) (f : Flow → Flow) : (s.onFlow f).ctrl = s.ctrl := rfl
@[simp] theorem State.onFlow_cinch (s : State) (f : Flow → Flow) : (s.onFlow f).cinch = s.cinch := rfl
@[simp] theorem State.onFlow_life (s : State) (f : Flow → Flow) : (s.onFlow f).life = s.life := rfl
@[simp] theorem State.onFlow_tiles (s : State) (f : Flow → Flow) : (s.onFlow f).tiles = s.tiles := rfl
@[simp] theorem State.onFlow_fabric (s : State) (f : Flow → Flow) : (s.onFlow f).fabric = s.fabric := rfl
@[simp] theorem State.onFlow_mix (s : State) (f : Flow → Flow) : (s.onFlow f).mix = s.mix := rfl
@[simp] theorem State.onFlow_girth (s : State) (f : Flow → Flow) : (s.onFlow f).girth = s.girth := rfl
@[simp] theorem State.onFlow_harness (s : State) (f : Flow → Flow) : (s.onFlow f).harness = s.harness := rfl
@[simp] theorem State.onFlow_drams (s : State) (f : Flow → Flow) : (s.onFlow f).drams = s.drams := rfl
@[simp] theorem State.onFlow_lanes (s : State) (f : Flow → Flow) : (s.onFlow f).lanes = s.lanes := rfl
@[simp] theorem State.onFlow_macs (s : State) (f : Flow → Flow) : (s.onFlow f).macs = s.macs := rfl
@[simp] theorem State.onFlow_time (s : State) (f : Flow → Flow) : (s.onFlow f).time = s.time := rfl
@[simp] theorem State.onFlow_rein (s : State) (f : Flow → Flow) : (s.onFlow f).rein = s.rein := rfl
@[simp] theorem State.onFlow_saps (s : State) (f : Flow → Flow) : (s.onFlow f).saps = s.saps := rfl
@[simp] theorem State.onFlow_loops (s : State) (f : Flow → Flow) : (s.onFlow f).loops = s.loops := rfl
@[simp] theorem State.onFlow_keeper (s : State) (f : Flow → Flow) : (s.onFlow f).keeper = s.keeper := rfl
@[simp] theorem State.onFlow_pending (s : State) (f : Flow → Flow) : (s.onFlow f).pending = s.pending := rfl
@[simp] theorem State.onFlow_get (s : State) (f : Flow → Flow) (q : Nat) (g : Fld) (j : Nat) : (s.onFlow f).get q g j = s.get q g j := rfl
@[simp] theorem State.onFlow_flag (s : State) (f : Flow → Flow) (q : Nat) (g : Fld) (j : Nat) : (s.onFlow f).flag q g j = s.flag q g j := rfl
@[simp] theorem State.onFlow_byte (s : State) (f : Flow → Flow) (z : Nat) : (s.onFlow f).byte z = s.byte z := rfl
@[simp] theorem State.onFlow_present (s : State) (f : Flow → Flow) (q : Nat) : (s.onFlow f).present q = s.present q := rfl

@[simp] theorem State.setSap_part (s : State) (n : Nat) (x : Sap) : (s.setSap n x).part = s.part := rfl
@[simp] theorem State.setSap_now (s : State) (n : Nat) (x : Sap) : (s.setSap n x).now = s.now := rfl
@[simp] theorem State.setSap_freeCtr (s : State) (n : Nat) (x : Sap) : (s.setSap n x).freeCtr = s.freeCtr := rfl
@[simp] theorem State.setSap_lastResp (s : State) (n : Nat) (x : Sap) : (s.setSap n x).lastResp = s.lastResp := rfl
@[simp] theorem State.setSap_regs (s : State) (n : Nat) (x : Sap) : (s.setSap n x).regs = s.regs := rfl
@[simp] theorem State.setSap_mem (s : State) (n : Nat) (x : Sap) : (s.setSap n x).mem = s.mem := rfl
@[simp] theorem State.setSap_msix (s : State) (n : Nat) (x : Sap) : (s.setSap n x).msix = s.msix := rfl
@[simp] theorem State.setSap_ctrl (s : State) (n : Nat) (x : Sap) : (s.setSap n x).ctrl = s.ctrl := rfl
@[simp] theorem State.setSap_cinch (s : State) (n : Nat) (x : Sap) : (s.setSap n x).cinch = s.cinch := rfl
@[simp] theorem State.setSap_life (s : State) (n : Nat) (x : Sap) : (s.setSap n x).life = s.life := rfl
@[simp] theorem State.setSap_tiles (s : State) (n : Nat) (x : Sap) : (s.setSap n x).tiles = s.tiles := rfl
@[simp] theorem State.setSap_fabric (s : State) (n : Nat) (x : Sap) : (s.setSap n x).fabric = s.fabric := rfl
@[simp] theorem State.setSap_mix (s : State) (n : Nat) (x : Sap) : (s.setSap n x).mix = s.mix := rfl
@[simp] theorem State.setSap_girth (s : State) (n : Nat) (x : Sap) : (s.setSap n x).girth = s.girth := rfl
@[simp] theorem State.setSap_harness (s : State) (n : Nat) (x : Sap) : (s.setSap n x).harness = s.harness := rfl
@[simp] theorem State.setSap_drams (s : State) (n : Nat) (x : Sap) : (s.setSap n x).drams = s.drams := rfl
@[simp] theorem State.setSap_lanes (s : State) (n : Nat) (x : Sap) : (s.setSap n x).lanes = s.lanes := rfl
@[simp] theorem State.setSap_macs (s : State) (n : Nat) (x : Sap) : (s.setSap n x).macs = s.macs := rfl
@[simp] theorem State.setSap_time (s : State) (n : Nat) (x : Sap) : (s.setSap n x).time = s.time := rfl
@[simp] theorem State.setSap_rein (s : State) (n : Nat) (x : Sap) : (s.setSap n x).rein = s.rein := rfl
@[simp] theorem State.setSap_flow (s : State) (n : Nat) (x : Sap) : (s.setSap n x).flow = s.flow := rfl
@[simp] theorem State.setSap_loops (s : State) (n : Nat) (x : Sap) : (s.setSap n x).loops = s.loops := rfl
@[simp] theorem State.setSap_keeper (s : State) (n : Nat) (x : Sap) : (s.setSap n x).keeper = s.keeper := rfl
@[simp] theorem State.setSap_pending (s : State) (n : Nat) (x : Sap) : (s.setSap n x).pending = s.pending := rfl
@[simp] theorem State.setSap_get (s : State) (n : Nat) (x : Sap) (q : Nat) (g : Fld) (j : Nat) : (s.setSap n x).get q g j = s.get q g j := rfl
@[simp] theorem State.setSap_flag (s : State) (n : Nat) (x : Sap) (q : Nat) (g : Fld) (j : Nat) : (s.setSap n x).flag q g j = s.flag q g j := rfl
@[simp] theorem State.setSap_byte (s : State) (n : Nat) (x : Sap) (z : Nat) : (s.setSap n x).byte z = s.byte z := rfl
@[simp] theorem State.setSap_present (s : State) (n : Nat) (x : Sap) (q : Nat) : (s.setSap n x).present q = s.present q := rfl

@[simp] theorem State.onSap_part (s : State) (n : Nat) (f : Sap → Sap) : (s.onSap n f).part = s.part := rfl
@[simp] theorem State.onSap_now (s : State) (n : Nat) (f : Sap → Sap) : (s.onSap n f).now = s.now := rfl
@[simp] theorem State.onSap_freeCtr (s : State) (n : Nat) (f : Sap → Sap) : (s.onSap n f).freeCtr = s.freeCtr := rfl
@[simp] theorem State.onSap_lastResp (s : State) (n : Nat) (f : Sap → Sap) : (s.onSap n f).lastResp = s.lastResp := rfl
@[simp] theorem State.onSap_regs (s : State) (n : Nat) (f : Sap → Sap) : (s.onSap n f).regs = s.regs := rfl
@[simp] theorem State.onSap_mem (s : State) (n : Nat) (f : Sap → Sap) : (s.onSap n f).mem = s.mem := rfl
@[simp] theorem State.onSap_msix (s : State) (n : Nat) (f : Sap → Sap) : (s.onSap n f).msix = s.msix := rfl
@[simp] theorem State.onSap_ctrl (s : State) (n : Nat) (f : Sap → Sap) : (s.onSap n f).ctrl = s.ctrl := rfl
@[simp] theorem State.onSap_cinch (s : State) (n : Nat) (f : Sap → Sap) : (s.onSap n f).cinch = s.cinch := rfl
@[simp] theorem State.onSap_life (s : State) (n : Nat) (f : Sap → Sap) : (s.onSap n f).life = s.life := rfl
@[simp] theorem State.onSap_tiles (s : State) (n : Nat) (f : Sap → Sap) : (s.onSap n f).tiles = s.tiles := rfl
@[simp] theorem State.onSap_fabric (s : State) (n : Nat) (f : Sap → Sap) : (s.onSap n f).fabric = s.fabric := rfl
@[simp] theorem State.onSap_mix (s : State) (n : Nat) (f : Sap → Sap) : (s.onSap n f).mix = s.mix := rfl
@[simp] theorem State.onSap_girth (s : State) (n : Nat) (f : Sap → Sap) : (s.onSap n f).girth = s.girth := rfl
@[simp] theorem State.onSap_harness (s : State) (n : Nat) (f : Sap → Sap) : (s.onSap n f).harness = s.harness := rfl
@[simp] theorem State.onSap_drams (s : State) (n : Nat) (f : Sap → Sap) : (s.onSap n f).drams = s.drams := rfl
@[simp] theorem State.onSap_lanes (s : State) (n : Nat) (f : Sap → Sap) : (s.onSap n f).lanes = s.lanes := rfl
@[simp] theorem State.onSap_macs (s : State) (n : Nat) (f : Sap → Sap) : (s.onSap n f).macs = s.macs := rfl
@[simp] theorem State.onSap_time (s : State) (n : Nat) (f : Sap → Sap) : (s.onSap n f).time = s.time := rfl
@[simp] theorem State.onSap_rein (s : State) (n : Nat) (f : Sap → Sap) : (s.onSap n f).rein = s.rein := rfl
@[simp] theorem State.onSap_flow (s : State) (n : Nat) (f : Sap → Sap) : (s.onSap n f).flow = s.flow := rfl
@[simp] theorem State.onSap_loops (s : State) (n : Nat) (f : Sap → Sap) : (s.onSap n f).loops = s.loops := rfl
@[simp] theorem State.onSap_keeper (s : State) (n : Nat) (f : Sap → Sap) : (s.onSap n f).keeper = s.keeper := rfl
@[simp] theorem State.onSap_pending (s : State) (n : Nat) (f : Sap → Sap) : (s.onSap n f).pending = s.pending := rfl
@[simp] theorem State.onSap_get (s : State) (n : Nat) (f : Sap → Sap) (q : Nat) (g : Fld) (j : Nat) : (s.onSap n f).get q g j = s.get q g j := rfl
@[simp] theorem State.onSap_flag (s : State) (n : Nat) (f : Sap → Sap) (q : Nat) (g : Fld) (j : Nat) : (s.onSap n f).flag q g j = s.flag q g j := rfl
@[simp] theorem State.onSap_byte (s : State) (n : Nat) (f : Sap → Sap) (z : Nat) : (s.onSap n f).byte z = s.byte z := rfl
@[simp] theorem State.onSap_present (s : State) (n : Nat) (f : Sap → Sap) (q : Nat) : (s.onSap n f).present q = s.present q := rfl

@[simp] theorem State.setLoop_part (s : State) (n : Nat) (l : Stirrup) : (s.setLoop n l).part = s.part := rfl
@[simp] theorem State.setLoop_now (s : State) (n : Nat) (l : Stirrup) : (s.setLoop n l).now = s.now := rfl
@[simp] theorem State.setLoop_freeCtr (s : State) (n : Nat) (l : Stirrup) : (s.setLoop n l).freeCtr = s.freeCtr := rfl
@[simp] theorem State.setLoop_lastResp (s : State) (n : Nat) (l : Stirrup) : (s.setLoop n l).lastResp = s.lastResp := rfl
@[simp] theorem State.setLoop_regs (s : State) (n : Nat) (l : Stirrup) : (s.setLoop n l).regs = s.regs := rfl
@[simp] theorem State.setLoop_mem (s : State) (n : Nat) (l : Stirrup) : (s.setLoop n l).mem = s.mem := rfl
@[simp] theorem State.setLoop_msix (s : State) (n : Nat) (l : Stirrup) : (s.setLoop n l).msix = s.msix := rfl
@[simp] theorem State.setLoop_ctrl (s : State) (n : Nat) (l : Stirrup) : (s.setLoop n l).ctrl = s.ctrl := rfl
@[simp] theorem State.setLoop_cinch (s : State) (n : Nat) (l : Stirrup) : (s.setLoop n l).cinch = s.cinch := rfl
@[simp] theorem State.setLoop_life (s : State) (n : Nat) (l : Stirrup) : (s.setLoop n l).life = s.life := rfl
@[simp] theorem State.setLoop_tiles (s : State) (n : Nat) (l : Stirrup) : (s.setLoop n l).tiles = s.tiles := rfl
@[simp] theorem State.setLoop_fabric (s : State) (n : Nat) (l : Stirrup) : (s.setLoop n l).fabric = s.fabric := rfl
@[simp] theorem State.setLoop_mix (s : State) (n : Nat) (l : Stirrup) : (s.setLoop n l).mix = s.mix := rfl
@[simp] theorem State.setLoop_girth (s : State) (n : Nat) (l : Stirrup) : (s.setLoop n l).girth = s.girth := rfl
@[simp] theorem State.setLoop_harness (s : State) (n : Nat) (l : Stirrup) : (s.setLoop n l).harness = s.harness := rfl
@[simp] theorem State.setLoop_drams (s : State) (n : Nat) (l : Stirrup) : (s.setLoop n l).drams = s.drams := rfl
@[simp] theorem State.setLoop_lanes (s : State) (n : Nat) (l : Stirrup) : (s.setLoop n l).lanes = s.lanes := rfl
@[simp] theorem State.setLoop_macs (s : State) (n : Nat) (l : Stirrup) : (s.setLoop n l).macs = s.macs := rfl
@[simp] theorem State.setLoop_time (s : State) (n : Nat) (l : Stirrup) : (s.setLoop n l).time = s.time := rfl
@[simp] theorem State.setLoop_rein (s : State) (n : Nat) (l : Stirrup) : (s.setLoop n l).rein = s.rein := rfl
@[simp] theorem State.setLoop_flow (s : State) (n : Nat) (l : Stirrup) : (s.setLoop n l).flow = s.flow := rfl
@[simp] theorem State.setLoop_saps (s : State) (n : Nat) (l : Stirrup) : (s.setLoop n l).saps = s.saps := rfl
@[simp] theorem State.setLoop_keeper (s : State) (n : Nat) (l : Stirrup) : (s.setLoop n l).keeper = s.keeper := rfl
@[simp] theorem State.setLoop_pending (s : State) (n : Nat) (l : Stirrup) : (s.setLoop n l).pending = s.pending := rfl
@[simp] theorem State.setLoop_get (s : State) (n : Nat) (l : Stirrup) (q : Nat) (g : Fld) (j : Nat) : (s.setLoop n l).get q g j = s.get q g j := rfl
@[simp] theorem State.setLoop_flag (s : State) (n : Nat) (l : Stirrup) (q : Nat) (g : Fld) (j : Nat) : (s.setLoop n l).flag q g j = s.flag q g j := rfl
@[simp] theorem State.setLoop_byte (s : State) (n : Nat) (l : Stirrup) (z : Nat) : (s.setLoop n l).byte z = s.byte z := rfl
@[simp] theorem State.setLoop_present (s : State) (n : Nat) (l : Stirrup) (q : Nat) : (s.setLoop n l).present q = s.present q := rfl

@[simp] theorem State.onKeeper_part (s : State) (f : Keeper → Keeper) : (s.onKeeper f).part = s.part := rfl
@[simp] theorem State.onKeeper_now (s : State) (f : Keeper → Keeper) : (s.onKeeper f).now = s.now := rfl
@[simp] theorem State.onKeeper_freeCtr (s : State) (f : Keeper → Keeper) : (s.onKeeper f).freeCtr = s.freeCtr := rfl
@[simp] theorem State.onKeeper_lastResp (s : State) (f : Keeper → Keeper) : (s.onKeeper f).lastResp = s.lastResp := rfl
@[simp] theorem State.onKeeper_regs (s : State) (f : Keeper → Keeper) : (s.onKeeper f).regs = s.regs := rfl
@[simp] theorem State.onKeeper_mem (s : State) (f : Keeper → Keeper) : (s.onKeeper f).mem = s.mem := rfl
@[simp] theorem State.onKeeper_msix (s : State) (f : Keeper → Keeper) : (s.onKeeper f).msix = s.msix := rfl
@[simp] theorem State.onKeeper_ctrl (s : State) (f : Keeper → Keeper) : (s.onKeeper f).ctrl = s.ctrl := rfl
@[simp] theorem State.onKeeper_cinch (s : State) (f : Keeper → Keeper) : (s.onKeeper f).cinch = s.cinch := rfl
@[simp] theorem State.onKeeper_life (s : State) (f : Keeper → Keeper) : (s.onKeeper f).life = s.life := rfl
@[simp] theorem State.onKeeper_tiles (s : State) (f : Keeper → Keeper) : (s.onKeeper f).tiles = s.tiles := rfl
@[simp] theorem State.onKeeper_fabric (s : State) (f : Keeper → Keeper) : (s.onKeeper f).fabric = s.fabric := rfl
@[simp] theorem State.onKeeper_mix (s : State) (f : Keeper → Keeper) : (s.onKeeper f).mix = s.mix := rfl
@[simp] theorem State.onKeeper_girth (s : State) (f : Keeper → Keeper) : (s.onKeeper f).girth = s.girth := rfl
@[simp] theorem State.onKeeper_harness (s : State) (f : Keeper → Keeper) : (s.onKeeper f).harness = s.harness := rfl
@[simp] theorem State.onKeeper_drams (s : State) (f : Keeper → Keeper) : (s.onKeeper f).drams = s.drams := rfl
@[simp] theorem State.onKeeper_lanes (s : State) (f : Keeper → Keeper) : (s.onKeeper f).lanes = s.lanes := rfl
@[simp] theorem State.onKeeper_macs (s : State) (f : Keeper → Keeper) : (s.onKeeper f).macs = s.macs := rfl
@[simp] theorem State.onKeeper_time (s : State) (f : Keeper → Keeper) : (s.onKeeper f).time = s.time := rfl
@[simp] theorem State.onKeeper_rein (s : State) (f : Keeper → Keeper) : (s.onKeeper f).rein = s.rein := rfl
@[simp] theorem State.onKeeper_flow (s : State) (f : Keeper → Keeper) : (s.onKeeper f).flow = s.flow := rfl
@[simp] theorem State.onKeeper_saps (s : State) (f : Keeper → Keeper) : (s.onKeeper f).saps = s.saps := rfl
@[simp] theorem State.onKeeper_loops (s : State) (f : Keeper → Keeper) : (s.onKeeper f).loops = s.loops := rfl
@[simp] theorem State.onKeeper_pending (s : State) (f : Keeper → Keeper) : (s.onKeeper f).pending = s.pending := rfl
@[simp] theorem State.onKeeper_get (s : State) (f : Keeper → Keeper) (q : Nat) (g : Fld) (j : Nat) : (s.onKeeper f).get q g j = s.get q g j := rfl
@[simp] theorem State.onKeeper_flag (s : State) (f : Keeper → Keeper) (q : Nat) (g : Fld) (j : Nat) : (s.onKeeper f).flag q g j = s.flag q g j := rfl
@[simp] theorem State.onKeeper_byte (s : State) (f : Keeper → Keeper) (z : Nat) : (s.onKeeper f).byte z = s.byte z := rfl
@[simp] theorem State.onKeeper_present (s : State) (f : Keeper → Keeper) (q : Nat) : (s.onKeeper f).present q = s.present q := rfl

/-! ### What each update changes -/

@[simp] theorem State.onCtrl_ctrl (s : State) (f : Ctrl → Ctrl) : (s.onCtrl f).ctrl = f s.ctrl := rfl
@[simp] theorem State.onLife_life (s : State) (f : Life → Life) : (s.onLife f).life = f s.life := rfl
@[simp] theorem State.onFabric_fabric (s : State) (f : Fabric → Fabric) : (s.onFabric f).fabric = f s.fabric := rfl
@[simp] theorem State.onMix_mix (s : State) (f : Mix → Mix) : (s.onMix f).mix = f s.mix := rfl
@[simp] theorem State.onGirth_girth (s : State) (f : Girth → Girth) : (s.onGirth f).girth = f s.girth := rfl
@[simp] theorem State.onHarness_harness (s : State) (f : Harness → Harness) : (s.onHarness f).harness = f s.harness := rfl
@[simp] theorem State.onRein_rein (s : State) (f : Rein → Rein) : (s.onRein f).rein = f s.rein := rfl
@[simp] theorem State.onFlow_flow (s : State) (f : Flow → Flow) : (s.onFlow f).flow = f s.flow := rfl
@[simp] theorem State.onKeeper_keeper (s : State) (f : Keeper → Keeper) : (s.onKeeper f).keeper = f s.keeper := rfl
@[simp] theorem State.setTile_tile_same (s : State) (n : Nat) (x : Tile) : (s.setTile n x).tile n = x := nget_nput_same ..
theorem State.setTile_tile_ne (s : State) {n m : Nat} (x : Tile) (h : n ≠ m) : (s.setTile n x).tile m = s.tile m := nget_nput_ne _ _ _ _ h
@[simp] theorem State.setDram_dram_same (s : State) (n : Nat) (x : Dram) : (s.setDram n x).dram n = x := nget_nput_same ..
theorem State.setDram_dram_ne (s : State) {n m : Nat} (x : Dram) (h : n ≠ m) : (s.setDram n x).dram m = s.dram m := nget_nput_ne _ _ _ _ h
@[simp] theorem State.setLane_lane_same (s : State) (n : Nat) (x : Lane) : (s.setLane n x).lane n = x := nget_nput_same ..
theorem State.setLane_lane_ne (s : State) {n m : Nat} (x : Lane) (h : n ≠ m) : (s.setLane n x).lane m = s.lane m := nget_nput_ne _ _ _ _ h
@[simp] theorem State.setMac_mac_same (s : State) (n : Nat) (x : Mac) : (s.setMac n x).mac n = x := nget_nput_same ..
theorem State.setMac_mac_ne (s : State) {n m : Nat} (x : Mac) (h : n ≠ m) : (s.setMac n x).mac m = s.mac m := nget_nput_ne _ _ _ _ h
@[simp] theorem State.setSap_sap_same (s : State) (n : Nat) (x : Sap) : (s.setSap n x).sap n = x := nget_nput_same ..
theorem State.setSap_sap_ne (s : State) {n m : Nat} (x : Sap) (h : n ≠ m) : (s.setSap n x).sap m = s.sap m := nget_nput_ne _ _ _ _ h
@[simp] theorem State.setLoop_loop_same (s : State) (n : Nat) (x : Stirrup) : (s.setLoop n x).loop n = x := nget_nput_same ..
theorem State.setLoop_loop_ne (s : State) {n m : Nat} (x : Stirrup) (h : n ≠ m) : (s.setLoop n x).loop m = s.loop m := nget_nput_ne _ _ _ _ h
@[simp] theorem State.setCinchSrc_cinchSrc_same (s : State) (n : Nat) (x : CinchSrc) : (s.setCinchSrc n x).cinchSrc n = x := nget_nput_same ..
theorem State.setCinchSrc_cinchSrc_ne (s : State) {n m : Nat} (x : CinchSrc) (h : n ≠ m) : (s.setCinchSrc n x).cinchSrc m = s.cinchSrc m := nget_nput_ne _ _ _ _ h
@[simp] theorem State.setDom_dom_same (s : State) (n : Nat) (x : Domain) : (s.setDom n x).dom n = x := nget_nput_same ..
theorem State.setDom_dom_ne (s : State) {n m : Nat} (x : Domain) (h : n ≠ m) : (s.setDom n x).dom m = s.dom m := nget_nput_ne _ _ _ _ h
@[simp] theorem State.answer_lastResp (s : State) (r : Resp) : (s.answer r).lastResp = some r := rfl
@[simp] theorem State.advance_now (s : State) (n : Nat) : (s.advance n).now = s.now + n := rfl
@[simp] theorem State.reach_now (s : State) (n : Nat) : (s.reach n).now = max s.now n := by
  unfold State.reach; rw [State.advance_now]; omega

end Sys2Proof.Machine
end

