-- ==== Sys2Proof/Laws/Calm.lean ====
section
/-!
SUPPORT. What events, life counters and the Cinch's sources leave as it was: everything but event bits, MSI-X, life counters,
the Cinch's own records and the loops that a safe state stops.
-/

namespace Sys2Proof.Machine

/-! ### Events -/

@[simp] theorem State.risen_part (o : State) (v : Nat) (s : State) : (State.risen o v s).part = s.part := by
  unfold State.risen; split <;> rfl
@[simp] theorem State.risen_now (o : State) (v : Nat) (s : State) : (State.risen o v s).now = s.now := by
  unfold State.risen; split <;> rfl
@[simp] theorem State.risen_freeCtr (o : State) (v : Nat) (s : State) : (State.risen o v s).freeCtr = s.freeCtr := by
  unfold State.risen; split <;> rfl
@[simp] theorem State.risen_lastResp (o : State) (v : Nat) (s : State) : (State.risen o v s).lastResp = s.lastResp := by
  unfold State.risen; split <;> rfl
@[simp] theorem State.risen_regs (o : State) (v : Nat) (s : State) : (State.risen o v s).regs = s.regs := by
  unfold State.risen; split <;> rfl
@[simp] theorem State.risen_mem (o : State) (v : Nat) (s : State) : (State.risen o v s).mem = s.mem := by
  unfold State.risen; split <;> rfl
@[simp] theorem State.risen_ctrl (o : State) (v : Nat) (s : State) : (State.risen o v s).ctrl = s.ctrl := by
  unfold State.risen; split <;> rfl
@[simp] theorem State.risen_cinch (o : State) (v : Nat) (s : State) : (State.risen o v s).cinch = s.cinch := by
  unfold State.risen; split <;> rfl
@[simp] theorem State.risen_life (o : State) (v : Nat) (s : State) : (State.risen o v s).life = s.life := by
  unfold State.risen; split <;> rfl
@[simp] theorem State.risen_tiles (o : State) (v : Nat) (s : State) : (State.risen o v s).tiles = s.tiles := by
  unfold State.risen; split <;> rfl
@[simp] theorem State.risen_fabric (o : State) (v : Nat) (s : State) : (State.risen o v s).fabric = s.fabric := by
  unfold State.risen; split <;> rfl
@[simp] theorem State.risen_mix (o : State) (v : Nat) (s : State) : (State.risen o v s).mix = s.mix := by
  unfold State.risen; split <;> rfl
@[simp] theorem State.risen_girth (o : State) (v : Nat) (s : State) : (State.risen o v s).girth = s.girth := by
  unfold State.risen; split <;> rfl
@[simp] theorem State.risen_harness (o : State) (v : Nat) (s : State) : (State.risen o v s).harness = s.harness := by
  unfold State.risen; split <;> rfl
@[simp] theorem State.risen_drams (o : State) (v : Nat) (s : State) : (State.risen o v s).drams = s.drams := by
  unfold State.risen; split <;> rfl
@[simp] theorem State.risen_lanes (o : State) (v : Nat) (s : State) : (State.risen o v s).lanes = s.lanes := by
  unfold State.risen; split <;> rfl
@[simp] theorem State.risen_macs (o : State) (v : Nat) (s : State) : (State.risen o v s).macs = s.macs := by
  unfold State.risen; split <;> rfl
@[simp] theorem State.risen_time (o : State) (v : Nat) (s : State) : (State.risen o v s).time = s.time := by
  unfold State.risen; split <;> rfl
@[simp] theorem State.risen_rein (o : State) (v : Nat) (s : State) : (State.risen o v s).rein = s.rein := by
  unfold State.risen; split <;> rfl
@[simp] theorem State.risen_flow (o : State) (v : Nat) (s : State) : (State.risen o v s).flow = s.flow := by
  unfold State.risen; split <;> rfl
@[simp] theorem State.risen_saps (o : State) (v : Nat) (s : State) : (State.risen o v s).saps = s.saps := by
  unfold State.risen; split <;> rfl
@[simp] theorem State.risen_loops (o : State) (v : Nat) (s : State) : (State.risen o v s).loops = s.loops := by
  unfold State.risen; split <;> rfl
@[simp] theorem State.risen_keeper (o : State) (v : Nat) (s : State) : (State.risen o v s).keeper = s.keeper := by
  unfold State.risen; split <;> rfl
@[simp] theorem State.risen_pending (o : State) (v : Nat) (s : State) : (State.risen o v s).pending = s.pending := by
  unfold State.risen; split <;> rfl
@[simp] theorem State.events_part (s : State) (p m : Nat) : (s.events p m).part = s.part := by
  unfold State.events; split
  · dsimp only; split <;> simp
  · rfl
@[simp] theorem State.event_part (s : State) (p b : Nat) : (s.event p b).part = s.part := State.events_part s p _
@[simp] theorem State.events_now (s : State) (p m : Nat) : (s.events p m).now = s.now := by
  unfold State.events; split
  · dsimp only; split <;> simp
  · rfl
@[simp] theorem State.event_now (s : State) (p b : Nat) : (s.event p b).now = s.now := State.events_now s p _
@[simp] theorem State.events_freeCtr (s : State) (p m : Nat) : (s.events p m).freeCtr = s.freeCtr := by
  unfold State.events; split
  · dsimp only; split <;> simp
  · rfl
@[simp] theorem State.event_freeCtr (s : State) (p b : Nat) : (s.event p b).freeCtr = s.freeCtr := State.events_freeCtr s p _
@[simp] theorem State.events_lastResp (s : State) (p m : Nat) : (s.events p m).lastResp = s.lastResp := by
  unfold State.events; split
  · dsimp only; split <;> simp
  · rfl
@[simp] theorem State.event_lastResp (s : State) (p b : Nat) : (s.event p b).lastResp = s.lastResp := State.events_lastResp s p _
@[simp] theorem State.events_mem (s : State) (p m : Nat) : (s.events p m).mem = s.mem := by
  unfold State.events; split
  · dsimp only; split <;> simp
  · rfl
@[simp] theorem State.event_mem (s : State) (p b : Nat) : (s.event p b).mem = s.mem := State.events_mem s p _
@[simp] theorem State.events_ctrl (s : State) (p m : Nat) : (s.events p m).ctrl = s.ctrl := by
  unfold State.events; split
  · dsimp only; split <;> simp
  · rfl
@[simp] theorem State.event_ctrl (s : State) (p b : Nat) : (s.event p b).ctrl = s.ctrl := State.events_ctrl s p _
@[simp] theorem State.events_cinch (s : State) (p m : Nat) : (s.events p m).cinch = s.cinch := by
  unfold State.events; split
  · dsimp only; split <;> simp
  · rfl
@[simp] theorem State.event_cinch (s : State) (p b : Nat) : (s.event p b).cinch = s.cinch := State.events_cinch s p _
@[simp] theorem State.events_life (s : State) (p m : Nat) : (s.events p m).life = s.life := by
  unfold State.events; split
  · dsimp only; split <;> simp
  · rfl
@[simp] theorem State.event_life (s : State) (p b : Nat) : (s.event p b).life = s.life := State.events_life s p _
@[simp] theorem State.events_tiles (s : State) (p m : Nat) : (s.events p m).tiles = s.tiles := by
  unfold State.events; split
  · dsimp only; split <;> simp
  · rfl
@[simp] theorem State.event_tiles (s : State) (p b : Nat) : (s.event p b).tiles = s.tiles := State.events_tiles s p _
@[simp] theorem State.events_fabric (s : State) (p m : Nat) : (s.events p m).fabric = s.fabric := by
  unfold State.events; split
  · dsimp only; split <;> simp
  · rfl
@[simp] theorem State.event_fabric (s : State) (p b : Nat) : (s.event p b).fabric = s.fabric := State.events_fabric s p _
@[simp] theorem State.events_mix (s : State) (p m : Nat) : (s.events p m).mix = s.mix := by
  unfold State.events; split
  · dsimp only; split <;> simp
  · rfl
@[simp] theorem State.event_mix (s : State) (p b : Nat) : (s.event p b).mix = s.mix := State.events_mix s p _
@[simp] theorem State.events_girth (s : State) (p m : Nat) : (s.events p m).girth = s.girth := by
  unfold State.events; split
  · dsimp only; split <;> simp
  · rfl
@[simp] theorem State.event_girth (s : State) (p b : Nat) : (s.event p b).girth = s.girth := State.events_girth s p _
@[simp] theorem State.events_harness (s : State) (p m : Nat) : (s.events p m).harness = s.harness := by
  unfold State.events; split
  · dsimp only; split <;> simp
  · rfl
@[simp] theorem State.event_harness (s : State) (p b : Nat) : (s.event p b).harness = s.harness := State.events_harness s p _
@[simp] theorem State.events_drams (s : State) (p m : Nat) : (s.events p m).drams = s.drams := by
  unfold State.events; split
  · dsimp only; split <;> simp
  · rfl
@[simp] theorem State.event_drams (s : State) (p b : Nat) : (s.event p b).drams = s.drams := State.events_drams s p _
@[simp] theorem State.events_lanes (s : State) (p m : Nat) : (s.events p m).lanes = s.lanes := by
  unfold State.events; split
  · dsimp only; split <;> simp
  · rfl
@[simp] theorem State.event_lanes (s : State) (p b : Nat) : (s.event p b).lanes = s.lanes := State.events_lanes s p _
@[simp] theorem State.events_macs (s : State) (p m : Nat) : (s.events p m).macs = s.macs := by
  unfold State.events; split
  · dsimp only; split <;> simp
  · rfl
@[simp] theorem State.event_macs (s : State) (p b : Nat) : (s.event p b).macs = s.macs := State.events_macs s p _
@[simp] theorem State.events_time (s : State) (p m : Nat) : (s.events p m).time = s.time := by
  unfold State.events; split
  · dsimp only; split <;> simp
  · rfl
@[simp] theorem State.event_time (s : State) (p b : Nat) : (s.event p b).time = s.time := State.events_time s p _
@[simp] theorem State.events_rein (s : State) (p m : Nat) : (s.events p m).rein = s.rein := by
  unfold State.events; split
  · dsimp only; split <;> simp
  · rfl
@[simp] theorem State.event_rein (s : State) (p b : Nat) : (s.event p b).rein = s.rein := State.events_rein s p _
@[simp] theorem State.events_flow (s : State) (p m : Nat) : (s.events p m).flow = s.flow := by
  unfold State.events; split
  · dsimp only; split <;> simp
  · rfl
@[simp] theorem State.event_flow (s : State) (p b : Nat) : (s.event p b).flow = s.flow := State.events_flow s p _
@[simp] theorem State.events_saps (s : State) (p m : Nat) : (s.events p m).saps = s.saps := by
  unfold State.events; split
  · dsimp only; split <;> simp
  · rfl
@[simp] theorem State.event_saps (s : State) (p b : Nat) : (s.event p b).saps = s.saps := State.events_saps s p _
@[simp] theorem State.events_loops (s : State) (p m : Nat) : (s.events p m).loops = s.loops := by
  unfold State.events; split
  · dsimp only; split <;> simp
  · rfl
@[simp] theorem State.event_loops (s : State) (p b : Nat) : (s.event p b).loops = s.loops := State.events_loops s p _
@[simp] theorem State.events_keeper (s : State) (p m : Nat) : (s.events p m).keeper = s.keeper := by
  unfold State.events; split
  · dsimp only; split <;> simp
  · rfl
@[simp] theorem State.event_keeper (s : State) (p b : Nat) : (s.event p b).keeper = s.keeper := State.events_keeper s p _
@[simp] theorem State.events_pending (s : State) (p m : Nat) : (s.events p m).pending = s.pending := by
  unfold State.events; split
  · dsimp only; split <;> simp
  · rfl
@[simp] theorem State.event_pending (s : State) (p b : Nat) : (s.event p b).pending = s.pending := State.events_pending s p _

theorem State.events_regs_ne (s : State) (p m : Nat) {k : FKey} (h : fkey p PG.EVT 0 ≠ k) :
    SMap.find? (s.events p m).regs k = SMap.find? s.regs k := by
  unfold State.events; split
  · dsimp only; split
    · rw [State.risen_regs, State.risen_regs, State.find?_set_ne _ _ h]
    · rw [State.risen_regs, State.find?_set_ne _ _ h]
  · rfl

/-- An event changes no field but the page's event bits. -/
theorem State.get_events_ne (s : State) (p m : Nat) {q : Nat} {g : Fld} {j : Nat} (h : fkey p PG.EVT 0 ≠ fkey q g j) :
    (s.events p m).get q g j = s.get q g j := by
  unfold State.get SMap.get; rw [State.events_regs_ne s p m h]

theorem State.get_events_off (s : State) (p m : Nat) {q : Nat} {g : Fld} {j : Nat} (h : PG.EVT.off ≠ g.off) :
    (s.events p m).get q g j = s.get q g j := s.get_events_ne p m (fkey_off h)
theorem State.get_event_off (s : State) (p b : Nat) {q : Nat} {g : Fld} {j : Nat} (h : PG.EVT.off ≠ g.off) :
    (s.event p b).get q g j = s.get q g j := s.get_events_ne p _ (fkey_off h)
theorem State.flag_event_off (s : State) (p b : Nat) {q : Nat} {g : Fld} {j : Nat} (h : PG.EVT.off ≠ g.off) :
    (s.event p b).flag q g j = s.flag q g j := by unfold State.flag; rw [State.get_event_off s p b h]
@[simp] theorem State.events_byte (s : State) (p m z : Nat) : (s.events p m).byte z = s.byte z :=
  State.byte_eq_of_mem (State.events_mem s p m) z
@[simp] theorem State.event_byte (s : State) (p m z : Nat) : (s.event p m).byte z = s.byte z :=
  State.byte_eq_of_mem (State.event_mem s p m) z
@[simp] theorem State.events_present (s : State) (p m q : Nat) : (s.events p m).present q = s.present q := by
  unfold State.present; rw [State.events_part]
@[simp] theorem State.event_present (s : State) (p b q : Nat) : (s.event p b).present q = s.present q := by
  unfold State.present; rw [State.event_part]

/-- On a present page the event's bits are set, the others stay. -/
theorem State.get_events_same (s : State) (p m : Nat) (h : s.present p = true) :
    (s.events p m).get p PG.EVT = (s.get p PG.EVT ||| m) % 2 ^ PG.EVT.w := by
  have hr : ∀ (o : State) (v : Nat) (t : State), (State.risen o v t).get p PG.EVT = t.get p PG.EVT := fun o v t =>
    State.get_eq_of_regs (State.risen_regs o v t) ..
  unfold State.events; rw [if_pos h]; dsimp only; split
  · rw [hr, hr, State.get_set_same]
  · rw [hr, State.get_set_same]

/-! ### Life counters -/

@[simp] theorem State.lifeAdd_part (s : State) (p i n : Nat) : (s.lifeAdd p i n).part = s.part := by
  unfold State.lifeAdd; split <;> rfl
@[simp] theorem State.lifeAdd_now (s : State) (p i n : Nat) : (s.lifeAdd p i n).now = s.now := by
  unfold State.lifeAdd; split <;> rfl
@[simp] theorem State.lifeAdd_freeCtr (s : State) (p i n : Nat) : (s.lifeAdd p i n).freeCtr = s.freeCtr := by
  unfold State.lifeAdd; split <;> rfl
@[simp] theorem State.lifeAdd_lastResp (s : State) (p i n : Nat) : (s.lifeAdd p i n).lastResp = s.lastResp := by
  unfold State.lifeAdd; split <;> rfl
@[simp] theorem State.lifeAdd_regs (s : State) (p i n : Nat) : (s.lifeAdd p i n).regs = s.regs := by
  unfold State.lifeAdd; split <;> rfl
@[simp] theorem State.lifeAdd_mem (s : State) (p i n : Nat) : (s.lifeAdd p i n).mem = s.mem := by
  unfold State.lifeAdd; split <;> rfl
@[simp] theorem State.lifeAdd_msix (s : State) (p i n : Nat) : (s.lifeAdd p i n).msix = s.msix := by
  unfold State.lifeAdd; split <;> rfl
@[simp] theorem State.lifeAdd_ctrl (s : State) (p i n : Nat) : (s.lifeAdd p i n).ctrl = s.ctrl := by
  unfold State.lifeAdd; split <;> rfl
@[simp] theorem State.lifeAdd_cinch (s : State) (p i n : Nat) : (s.lifeAdd p i n).cinch = s.cinch := by
  unfold State.lifeAdd; split <;> rfl
@[simp] theorem State.lifeAdd_tiles (s : State) (p i n : Nat) : (s.lifeAdd p i n).tiles = s.tiles := by
  unfold State.lifeAdd; split <;> rfl
@[simp] theorem State.lifeAdd_fabric (s : State) (p i n : Nat) : (s.lifeAdd p i n).fabric = s.fabric := by
  unfold State.lifeAdd; split <;> rfl
@[simp] theorem State.lifeAdd_mix (s : State) (p i n : Nat) : (s.lifeAdd p i n).mix = s.mix := by
  unfold State.lifeAdd; split <;> rfl
@[simp] theorem State.lifeAdd_girth (s : State) (p i n : Nat) : (s.lifeAdd p i n).girth = s.girth := by
  unfold State.lifeAdd; split <;> rfl
@[simp] theorem State.lifeAdd_harness (s : State) (p i n : Nat) : (s.lifeAdd p i n).harness = s.harness := by
  unfold State.lifeAdd; split <;> rfl
@[simp] theorem State.lifeAdd_drams (s : State) (p i n : Nat) : (s.lifeAdd p i n).drams = s.drams := by
  unfold State.lifeAdd; split <;> rfl
@[simp] theorem State.lifeAdd_lanes (s : State) (p i n : Nat) : (s.lifeAdd p i n).lanes = s.lanes := by
  unfold State.lifeAdd; split <;> rfl
@[simp] theorem State.lifeAdd_macs (s : State) (p i n : Nat) : (s.lifeAdd p i n).macs = s.macs := by
  unfold State.lifeAdd; split <;> rfl
@[simp] theorem State.lifeAdd_time (s : State) (p i n : Nat) : (s.lifeAdd p i n).time = s.time := by
  unfold State.lifeAdd; split <;> rfl
@[simp] theorem State.lifeAdd_rein (s : State) (p i n : Nat) : (s.lifeAdd p i n).rein = s.rein := by
  unfold State.lifeAdd; split <;> rfl
@[simp] theorem State.lifeAdd_flow (s : State) (p i n : Nat) : (s.lifeAdd p i n).flow = s.flow := by
  unfold State.lifeAdd; split <;> rfl
@[simp] theorem State.lifeAdd_saps (s : State) (p i n : Nat) : (s.lifeAdd p i n).saps = s.saps := by
  unfold State.lifeAdd; split <;> rfl
@[simp] theorem State.lifeAdd_loops (s : State) (p i n : Nat) : (s.lifeAdd p i n).loops = s.loops := by
  unfold State.lifeAdd; split <;> rfl
@[simp] theorem State.lifeAdd_keeper (s : State) (p i n : Nat) : (s.lifeAdd p i n).keeper = s.keeper := by
  unfold State.lifeAdd; split <;> rfl
@[simp] theorem State.lifeAdd_pending (s : State) (p i n : Nat) : (s.lifeAdd p i n).pending = s.pending := by
  unfold State.lifeAdd; split <;> rfl
@[simp] theorem State.lifeAdd_get (s : State) (p i n q : Nat) (g : Fld) (j : Nat) : (s.lifeAdd p i n).get q g j = s.get q g j :=
  State.get_eq_of_regs (State.lifeAdd_regs s p i n) ..
@[simp] theorem State.lifeAdd_flag (s : State) (p i n q : Nat) (g : Fld) (j : Nat) :
    (s.lifeAdd p i n).flag q g j = s.flag q g j := by unfold State.flag; rw [State.lifeAdd_get]
@[simp] theorem State.lifeAdd_byte (s : State) (p i n z : Nat) : (s.lifeAdd p i n).byte z = s.byte z :=
  State.byte_eq_of_mem (State.lifeAdd_mem s p i n) z
@[simp] theorem State.lifeAdd_present (s : State) (p i n q : Nat) : (s.lifeAdd p i n).present q = s.present q := by
  unfold State.present; rw [State.lifeAdd_part]

/-! ### Folds -/

theorem State.each_induction {α : Type} (P : State → Prop) (l : List α) (f : State → α → State)
    (h : ∀ s a, P s → P (f s a)) (s : State) (hs : P s) : P (s.each l f) := by
  unfold State.each
  induction l generalizing s with
  | nil => exact hs
  | cons a l ih => exact ih (f s a) (h s a hs)

/-- What no element's act changes, the fold does not change. -/
theorem State.each_eq {α β : Type} (v : State → β) (l : List α) (f : State → α → State) (h : ∀ s a, v (f s a) = v s)
    (s : State) : v (s.each l f) = v s :=
  State.each_induction (fun t => v t = v s) l f (fun t a ht => (h t a).trans ht) s rfl

/-! ### Calm: the Cinch's sources -/

/-- A page that the Cinch's reactions may change: its own, and the loops'. -/
def reactive (p : Nat) : Prop := p = Pg.cinch ∨ (0x240 ≤ p ∧ p ≤ 0x24F)

/-- Event bits of a page that are set stay set. -/
def Noted (q : Nat) (s u : State) : Prop :=
  ∀ b, b < 32 → (s.get q PG.EVT).testBit b = true → (u.get q PG.EVT).testBit b = true

theorem Noted.of_get {q : Nat} {s u : State} (h : u.get q PG.EVT = s.get q PG.EVT) : Noted q s u := fun _ _ k => by
  rw [h]; exact k

theorem Noted.of_regs {q : Nat} {s u : State} (h : u.regs = s.regs) : Noted q s u := .of_get (State.get_eq_of_regs h ..)

/-- u differs from s in nothing but event bits that come to be set, MSI-X, life counters, free values taken, the Cinch's page and records, and
the loops. -/
structure Calm (s u : State) : Prop where
  part : u.part = s.part
  now : u.now = s.now
  lastResp : u.lastResp = s.lastResp
  mem : u.mem = s.mem
  ctrl : u.ctrl = s.ctrl
  tiles : u.tiles = s.tiles
  fabric : u.fabric = s.fabric
  mix : u.mix = s.mix
  girth : u.girth = s.girth
  harness : u.harness = s.harness
  drams : u.drams = s.drams
  lanes : u.lanes = s.lanes
  macs : u.macs = s.macs
  time : u.time = s.time
  rein : u.rein = s.rein
  flow : u.flow = s.flow
  saps : u.saps = s.saps
  keeper : u.keeper = s.keeper
  pending : u.pending = s.pending
  regs : ∀ k : FKey, ¬ reactive k.p → k.off ≠ PG.EVT.off → SMap.find? u.regs k = SMap.find? s.regs k
  evt : ∀ q, ¬ reactive q → Noted q s u

theorem Calm.rfl' (s : State) : Calm s s := by
  constructor
  case evt => exact fun q _ => .of_regs rfl
  all_goals simp

theorem Calm.trans {s t u : State} (h : Calm s t) (k : Calm t u) : Calm s u := by
  constructor
  · exact k.part.trans h.part
  · exact k.now.trans h.now
  · exact k.lastResp.trans h.lastResp
  · exact k.mem.trans h.mem
  · exact k.ctrl.trans h.ctrl
  · exact k.tiles.trans h.tiles
  · exact k.fabric.trans h.fabric
  · exact k.mix.trans h.mix
  · exact k.girth.trans h.girth
  · exact k.harness.trans h.harness
  · exact k.drams.trans h.drams
  · exact k.lanes.trans h.lanes
  · exact k.macs.trans h.macs
  · exact k.time.trans h.time
  · exact k.rein.trans h.rein
  · exact k.flow.trans h.flow
  · exact k.saps.trans h.saps
  · exact k.keeper.trans h.keeper
  · exact k.pending.trans h.pending
  · exact fun q a b => (k.regs q a b).trans (h.regs q a b)
  · exact fun q hq b hb hs => k.evt q hq b hb (h.evt q hq b hb hs)

theorem Calm.each {α : Type} (l : List α) (f : State → α → State) (h : ∀ s a, Calm s (f s a)) (s : State) :
    Calm s (s.each l f) := State.each_induction (fun t => Calm s t) l f (fun t a ht => ht.trans (h t a)) s (Calm.rfl' s)

theorem Calm.ite {c : Prop} [Decidable c] {s t u : State} (h : Calm s t) (k : Calm s u) : Calm s (if c then t else u) := by
  split
  · exact h
  · exact k

theorem Calm.get {s u : State} (h : Calm s u) {q : Nat} {g : Fld} {j : Nat} (hq : ¬ reactive q) (hg : g.off ≠ PG.EVT.off) :
    u.get q g j = s.get q g j := by
  unfold State.get SMap.get; rw [h.regs (fkey q g j) hq hg]

/-- Events take no bit away. -/
theorem State.events_noted (s : State) (p m q : Nat) : Noted q s (s.events p m) := by
  intro b hb h
  by_cases e : q = p
  · subst e
    cases hp : s.present q with
    | true =>
      rw [State.get_events_same s q m hp, Nat.testBit_mod_two_pow, Nat.testBit_or, h]
      exact (Bool.and_eq_true _ _).mpr ⟨decide_eq_true hb, rfl⟩
    | false => unfold State.events; rw [hp]; exact h
  · rw [State.get_events_ne s p m (fkey_page (Ne.symm e))]; exact h

theorem Calm.events (s : State) (p b : Nat) : Calm s (s.events p b) := by
  constructor
  case evt => exact fun q _ => s.events_noted p b q
  case regs => exact fun k _ h => State.events_regs_ne s p _ fun e => h (by rw [← e]; rfl)
  all_goals simp

theorem Calm.event (s : State) (p b : Nat) : Calm s (s.event p b) := Calm.events s p _

theorem Calm.lifeAdd (s : State) (p i n : Nat) : Calm s (s.lifeAdd p i n) := by
  constructor
  case evt => exact fun q _ => .of_regs (by simp)
  all_goals simp

theorem Calm.set {s : State} {p : Nat} (hp : reactive p) (f : Fld) (v i : Nat) : Calm s (s.set p f v i) := by
  constructor
  case evt =>
    refine fun q hq => .of_get ?_
    unfold State.get SMap.get; rw [State.find?_set_ne s v fun e => hq (by rw [show q = p from congrArg FKey.p e.symm]; exact hp)]
  case regs => exact fun k h _ => State.find?_set_ne s v fun e => h (by rw [← e]; exact hp)
  all_goals simp

theorem Calm.setFlag {s : State} {p : Nat} (hp : reactive p) (f : Fld) (b : Bool) (i : Nat) : Calm s (s.setFlag p f b i) :=
  Calm.set hp f _ i
theorem Calm.count {s : State} {p : Nat} (hp : reactive p) (f : Fld) (n i : Nat) : Calm s (s.count p f n i) :=
  Calm.set hp f _ i

theorem Calm.setCinchSrc (s : State) (i : Nat) (c : CinchSrc) : Calm s (s.setCinchSrc i c) := by
  constructor
  case evt => exact fun q _ => .of_regs rfl
  all_goals simp
theorem Calm.setLoop (s : State) (n : Nat) (l : Stirrup) : Calm s (s.setLoop n l) := by
  constructor
  case evt => exact fun q _ => .of_regs rfl
  all_goals simp
theorem Calm.free (s : State) : Calm s s.free.2 := by
  constructor
  case evt => exact fun q _ => .of_regs rfl
  all_goals simp
theorem Calm.cinch (s : State) (c : Cinch) : Calm s { s with cinch := c } := by
  constructor
  case evt => exact fun q _ => .of_regs rfl
  all_goals simp

theorem reactive_cinch : reactive Pg.cinch := .inl rfl
theorem reactive_stirrup {n : Nat} (h : n < 16) : reactive (Pg.stirrup n) := .inr ⟨Nat.le_add_right _ _, by
  simp only [Pg.stirrup]; omega⟩

/-! ### The gate path of the safe state -/

theorem State.gatesLow_calm {n : Nat} (h : n < 16) (s : State) (st : Nat) : Calm s (s.gatesLow n st) := by
  have r := reactive_stirrup h
  unfold State.gatesLow State.setLoopState
  exact (Calm.set r _ _ _).trans ((Calm.set r _ _ _).trans ((Calm.set r _ _ _).trans (Calm.set r _ _ _)))

theorem State.measureLoop_calm {n : Nat} (h : n < 16) (s : State) : Calm s (s.measureLoop n) := by
  have r := reactive_stirrup h
  unfold State.measureLoop State.measureCarrier
  split
  · exact Calm.rfl' s
  · dsimp only
    refine Calm.trans (?_ : Calm s _) ((Calm.free _).trans (Calm.set r _ _ _))
    exact Calm.ite ((Calm.free _).trans (Calm.set r _ _ _)) ((Calm.free _).trans (Calm.set r _ _ _))

theorem State.startAtCarrier_calm {n : Nat} (h : n < 16) (s : State) (st fT : Nat) :
    Calm s (s.startAtCarrier n st fT) := by
  have r := reactive_stirrup h
  unfold State.startAtCarrier
  extract_lets g l s1 s2
  have h1 : Calm s s1 := Calm.setLoop _ _ _
  have h2 : Calm s1 s2 := (Calm.set r _ _ _).trans (Calm.set r _ _ _)
  exact h1.trans (h2.trans ((Calm.set r _ _ _).trans (State.measureLoop_calm h _)))

theorem State.startWith_calm {n : Nat} (h : n < 16) (s : State) (st : Nat) (o : Option Nat) :
    Calm s (s.startWith n st o) := by
  cases o with
  | none => exact (State.gatesLow_calm h s _).trans (Calm.event _ _ _)
  | some fT => exact State.startAtCarrier_calm h s _ _

theorem State.startCarrier_calm {n : Nat} (h : n < 16) (s : State) (st : Nat) : Calm s (s.startCarrier n st) :=
  State.startWith_calm h s st _

theorem State.beginSoftStart_calm {n : Nat} (h : n < 16) (s : State) : Calm s (s.beginSoftStart n) :=
  Calm.ite (Calm.rfl' s) (State.startCarrier_calm h s _)

theorem State.enterSafe_calm {n : Nat} (h : n < 16) (s : State) : Calm s (s.enterSafe n) :=
  Calm.ite (Calm.rfl' s) (State.gatesLow_calm h s _)

theorem State.leaveSafe_calm {n : Nat} (h : n < 16) (s : State) : Calm s (s.leaveSafe n) := by
  have r := reactive_stirrup h
  unfold State.leaveSafe
  refine Calm.ite (Calm.rfl' s) (Calm.ite (Calm.set r _ _ _) (Calm.ite ?_ (Calm.set r _ _ _)))
  exact (Calm.set r _ _ _).trans (State.beginSoftStart_calm h _)

/-! ### Occurrences, sources, withdrawals -/

theorem Calm.each_mem {α : Type} (l : List α) (f : State → α → State) (h : ∀ s, ∀ a ∈ l, Calm s (f s a)) (s : State) :
    Calm s (s.each l f) := by
  unfold State.each
  induction l generalizing s with
  | nil => exact Calm.rfl' s
  | cons a l ih =>
    exact (h s a (.head _)).trans (ih (fun s b hb => h s b (.tail _ hb)) (f s a))

theorem State.reconcile_calm (o s : State) : Calm s (State.reconcile o s) := by
  unfold State.reconcile
  extract_lets s1 freed muted rel rel' s2 s3 s4
  have h1 : Calm s s1 := Calm.each_mem _ _ (fun t n hn => by
    have h := List.mem_range.1 hn
    exact Calm.ite (State.enterSafe_calm h t) (Calm.ite (State.leaveSafe_calm h t) (Calm.rfl' t))) s
  have h3 : Calm s1 s3 := Calm.cinch _ _
  have h4 : Calm s3 s4 := Calm.ite (Calm.event _ _ _) (Calm.rfl' _)
  exact h1.trans (h3.trans (h4.trans (Calm.ite (Calm.event _ _ _) (Calm.rfl' _))))

theorem State.stampFirst_calm (s : State) (src inst : Nat) (b : Bool) : Calm s (s.stampFirst src inst b) := by
  have r := reactive_cinch
  exact (Calm.set r _ _ _).trans ((Calm.set r _ _ _).trans ((Calm.set r _ _ _).trans ((Calm.set r _ _ _).trans
    (Calm.setFlag r _ _ _))))

theorem State.recordOccurrence_calm (s : State) (src inst : Nat) (b : Bool) : Calm s (s.recordOccurrence src inst b) := by
  have r := reactive_cinch
  unfold State.recordOccurrence
  extract_lets s1 s2 s3
  have h1 : Calm s s1 := Calm.ite (Calm.rfl' s) (State.stampFirst_calm s src inst b)
  have h2 : Calm s1 s2 := Calm.set r _ _ _
  have h3 : Calm s2 s3 := Calm.set r _ _ _
  exact h1.trans (h2.trans (h3.trans ((Calm.count r _ _ _).trans (Calm.lifeAdd _ _ _ _))))

theorem State.recordFirst_calm (s : State) (src level : Nat) : Calm s (s.recordFirst src level) :=
  Calm.ite ((Calm.set reactive_cinch _ _ _).trans (Calm.set reactive_cinch _ _ _)) (Calm.rfl' s)

theorem State.level4_calm (s : State) (src sev level : Nat) : Calm s (s.level4 src sev level) := by
  have r := reactive_cinch
  unfold State.level4
  split
  · exact (Calm.count r _ _ _).trans ((Calm.set r _ _ _).trans ((Calm.lifeAdd _ _ _ _).trans (Calm.cinch _ _)))
  · exact Calm.ite ((Calm.set r _ _ _).trans (Calm.event _ _ _)) (Calm.rfl' s)

theorem State.occurrence_calm (s : State) (src inst : Nat) (b : Bool) : Calm s (s.occurrence src inst b) := by
  have r := reactive_cinch
  unfold State.occurrence
  extract_lets sev level g old s1 c s2 s3 s4 s5 s6
  have h1 : Calm s s1 := State.recordOccurrence_calm s src inst b
  have h2 : Calm s1 s2 := Calm.setCinchSrc _ _ _
  have h3 : Calm s2 s3 := (Calm.set r _ _ _).trans (Calm.set r _ _ _)
  have h4 : Calm s3 s4 := Calm.setFlag r _ _ _
  have h5 : Calm s4 s5 := (State.recordFirst_calm _ _ _).trans (State.level4_calm _ _ _ _)
  have h6 : Calm s5 s6 := Calm.ite (Calm.event _ _ _) (Calm.ite (Calm.event _ _ _) (Calm.rfl' _))
  exact h1.trans (h2.trans (h3.trans (h4.trans (h5.trans (h6.trans (State.reconcile_calm _ _))))))

theorem State.holdEvent_calm (s : State) (src inst : Nat) : Calm s (s.holdEvent src inst) :=
  Calm.ite (Calm.setCinchSrc _ _ _) (Calm.rfl' s)

theorem State.raise_calm (s : State) (src inst : Nat) : Calm s (s.raise src inst) := by
  unfold State.raise
  extract_lets s1 was c s2
  have h1 : Calm s s1 := State.holdEvent_calm s src inst
  have h2 : Calm s1 s2 := Calm.setCinchSrc _ _ _
  refine Calm.ite (Calm.rfl' s) (Calm.ite h1 (h1.trans (h2.trans ?_)))
  exact Calm.ite (Calm.set reactive_cinch _ _ _) (State.occurrence_calm _ _ _ _)

theorem State.liveFell_calm (s : State) (src : Nat) : Calm s (s.liveFell src) :=
  Calm.ite (Calm.ite ((Calm.setCinchSrc _ _ _).trans (Calm.set reactive_cinch _ _ _)) (Calm.set reactive_cinch _ _ _))
    (Calm.rfl' s)

theorem State.lower_calm (s : State) (src inst : Nat) : Calm s (s.lower src inst) := by
  unfold State.lower
  extract_lets was s1
  exact (Calm.setCinchSrc _ _ _).trans (Calm.ite (State.liveFell_calm _ _) (Calm.rfl' _))

theorem State.setSource_calm (s : State) (src inst : Nat) (on : Bool) : Calm s (s.setSource src inst on) :=
  Calm.ite (State.raise_calm _ _ _) (State.lower_calm _ _ _)

theorem State.withdraw_calm (s : State) (src : Nat) (auto : Bool) : Calm s (s.withdraw src auto) := by
  have r := reactive_cinch
  unfold State.withdraw
  extract_lets old s1 s2
  have h1 : Calm s s1 := (Calm.set r _ _ _).trans ((Calm.set r _ _ _).trans (Calm.set r _ _ _))
  have h2 : Calm s1 s2 :=
    Calm.ite ((Calm.count r _ _ _).trans ((Calm.lifeAdd _ _ _ _).trans (Calm.event _ _ _))) (Calm.rfl' _)
  exact h1.trans (h2.trans (State.reconcile_calm _ _))

/-! ### The same, part by part -/

@[simp] theorem State.raise_part (s : State) (a b : Nat) : (s.raise a b).part = s.part := (State.raise_calm s a b).part
@[simp] theorem State.raise_now (s : State) (a b : Nat) : (s.raise a b).now = s.now := (State.raise_calm s a b).now
@[simp] theorem State.raise_lastResp (s : State) (a b : Nat) : (s.raise a b).lastResp = s.lastResp := (State.raise_calm s a b).lastResp
@[simp] theorem State.raise_mem (s : State) (a b : Nat) : (s.raise a b).mem = s.mem := (State.raise_calm s a b).mem
@[simp] theorem State.raise_ctrl (s : State) (a b : Nat) : (s.raise a b).ctrl = s.ctrl := (State.raise_calm s a b).ctrl
@[simp] theorem State.raise_tiles (s : State) (a b : Nat) : (s.raise a b).tiles = s.tiles := (State.raise_calm s a b).tiles
@[simp] theorem State.raise_fabric (s : State) (a b : Nat) : (s.raise a b).fabric = s.fabric := (State.raise_calm s a b).fabric
@[simp] theorem State.raise_mix (s : State) (a b : Nat) : (s.raise a b).mix = s.mix := (State.raise_calm s a b).mix
@[simp] theorem State.raise_girth (s : State) (a b : Nat) : (s.raise a b).girth = s.girth := (State.raise_calm s a b).girth
@[simp] theorem State.raise_harness (s : State) (a b : Nat) : (s.raise a b).harness = s.harness := (State.raise_calm s a b).harness
@[simp] theorem State.raise_drams (s : State) (a b : Nat) : (s.raise a b).drams = s.drams := (State.raise_calm s a b).drams
@[simp] theorem State.raise_lanes (s : State) (a b : Nat) : (s.raise a b).lanes = s.lanes := (State.raise_calm s a b).lanes
@[simp] theorem State.raise_macs (s : State) (a b : Nat) : (s.raise a b).macs = s.macs := (State.raise_calm s a b).macs
@[simp] theorem State.raise_time (s : State) (a b : Nat) : (s.raise a b).time = s.time := (State.raise_calm s a b).time
@[simp] theorem State.raise_rein (s : State) (a b : Nat) : (s.raise a b).rein = s.rein := (State.raise_calm s a b).rein
@[simp] theorem State.raise_flow (s : State) (a b : Nat) : (s.raise a b).flow = s.flow := (State.raise_calm s a b).flow
@[simp] theorem State.raise_saps (s : State) (a b : Nat) : (s.raise a b).saps = s.saps := (State.raise_calm s a b).saps
@[simp] theorem State.raise_keeper (s : State) (a b : Nat) : (s.raise a b).keeper = s.keeper := (State.raise_calm s a b).keeper
@[simp] theorem State.raise_pending (s : State) (a b : Nat) : (s.raise a b).pending = s.pending := (State.raise_calm s a b).pending
@[simp] theorem State.raise_byte (s : State) (a b : Nat) (z : Nat) : (s.raise a b).byte z = s.byte z :=
  State.byte_eq_of_mem (State.raise_mem s a b) z
@[simp] theorem State.raise_present (s : State) (a b : Nat) (q : Nat) : (s.raise a b).present q = s.present q := by
  unfold State.present; rw [State.raise_part]
theorem State.get_raise (s : State) (a b : Nat) {q : Nat} {g : Fld} {j : Nat} (hq : ¬ reactive q) (hg : g.off ≠ PG.EVT.off) :
    (s.raise a b).get q g j = s.get q g j := (State.raise_calm s a b).get hq hg
@[simp] theorem State.lower_part (s : State) (a b : Nat) : (s.lower a b).part = s.part := (State.lower_calm s a b).part
@[simp] theorem State.lower_now (s : State) (a b : Nat) : (s.lower a b).now = s.now := (State.lower_calm s a b).now
@[simp] theorem State.lower_lastResp (s : State) (a b : Nat) : (s.lower a b).lastResp = s.lastResp := (State.lower_calm s a b).lastResp
@[simp] theorem State.lower_mem (s : State) (a b : Nat) : (s.lower a b).mem = s.mem := (State.lower_calm s a b).mem
@[simp] theorem State.lower_ctrl (s : State) (a b : Nat) : (s.lower a b).ctrl = s.ctrl := (State.lower_calm s a b).ctrl
@[simp] theorem State.lower_tiles (s : State) (a b : Nat) : (s.lower a b).tiles = s.tiles := (State.lower_calm s a b).tiles
@[simp] theorem State.lower_fabric (s : State) (a b : Nat) : (s.lower a b).fabric = s.fabric := (State.lower_calm s a b).fabric
@[simp] theorem State.lower_mix (s : State) (a b : Nat) : (s.lower a b).mix = s.mix := (State.lower_calm s a b).mix
@[simp] theorem State.lower_girth (s : State) (a b : Nat) : (s.lower a b).girth = s.girth := (State.lower_calm s a b).girth
@[simp] theorem State.lower_harness (s : State) (a b : Nat) : (s.lower a b).harness = s.harness := (State.lower_calm s a b).harness
@[simp] theorem State.lower_drams (s : State) (a b : Nat) : (s.lower a b).drams = s.drams := (State.lower_calm s a b).drams
@[simp] theorem State.lower_lanes (s : State) (a b : Nat) : (s.lower a b).lanes = s.lanes := (State.lower_calm s a b).lanes
@[simp] theorem State.lower_macs (s : State) (a b : Nat) : (s.lower a b).macs = s.macs := (State.lower_calm s a b).macs
@[simp] theorem State.lower_time (s : State) (a b : Nat) : (s.lower a b).time = s.time := (State.lower_calm s a b).time
@[simp] theorem State.lower_rein (s : State) (a b : Nat) : (s.lower a b).rein = s.rein := (State.lower_calm s a b).rein
@[simp] theorem State.lower_flow (s : State) (a b : Nat) : (s.lower a b).flow = s.flow := (State.lower_calm s a b).flow
@[simp] theorem State.lower_saps (s : State) (a b : Nat) : (s.lower a b).saps = s.saps := (State.lower_calm s a b).saps
@[simp] theorem State.lower_keeper (s : State) (a b : Nat) : (s.lower a b).keeper = s.keeper := (State.lower_calm s a b).keeper
@[simp] theorem State.lower_pending (s : State) (a b : Nat) : (s.lower a b).pending = s.pending := (State.lower_calm s a b).pending
@[simp] theorem State.lower_byte (s : State) (a b : Nat) (z : Nat) : (s.lower a b).byte z = s.byte z :=
  State.byte_eq_of_mem (State.lower_mem s a b) z
@[simp] theorem State.lower_present (s : State) (a b : Nat) (q : Nat) : (s.lower a b).present q = s.present q := by
  unfold State.present; rw [State.lower_part]
theorem State.get_lower (s : State) (a b : Nat) {q : Nat} {g : Fld} {j : Nat} (hq : ¬ reactive q) (hg : g.off ≠ PG.EVT.off) :
    (s.lower a b).get q g j = s.get q g j := (State.lower_calm s a b).get hq hg
@[simp] theorem State.setSource_part (s : State) (a b : Nat) (o : Bool) : (s.setSource a b o).part = s.part := (State.setSource_calm s a b o).part
@[simp] theorem State.setSource_now (s : State) (a b : Nat) (o : Bool) : (s.setSource a b o).now = s.now := (State.setSource_calm s a b o).now
@[simp] theorem State.setSource_lastResp (s : State) (a b : Nat) (o : Bool) : (s.setSource a b o).lastResp = s.lastResp := (State.setSource_calm s a b o).lastResp
@[simp] theorem State.setSource_mem (s : State) (a b : Nat) (o : Bool) : (s.setSource a b o).mem = s.mem := (State.setSource_calm s a b o).mem
@[simp] theorem State.setSource_ctrl (s : State) (a b : Nat) (o : Bool) : (s.setSource a b o).ctrl = s.ctrl := (State.setSource_calm s a b o).ctrl
@[simp] theorem State.setSource_tiles (s : State) (a b : Nat) (o : Bool) : (s.setSource a b o).tiles = s.tiles := (State.setSource_calm s a b o).tiles
@[simp] theorem State.setSource_fabric (s : State) (a b : Nat) (o : Bool) : (s.setSource a b o).fabric = s.fabric := (State.setSource_calm s a b o).fabric
@[simp] theorem State.setSource_mix (s : State) (a b : Nat) (o : Bool) : (s.setSource a b o).mix = s.mix := (State.setSource_calm s a b o).mix
@[simp] theorem State.setSource_girth (s : State) (a b : Nat) (o : Bool) : (s.setSource a b o).girth = s.girth := (State.setSource_calm s a b o).girth
@[simp] theorem State.setSource_harness (s : State) (a b : Nat) (o : Bool) : (s.setSource a b o).harness = s.harness := (State.setSource_calm s a b o).harness
@[simp] theorem State.setSource_drams (s : State) (a b : Nat) (o : Bool) : (s.setSource a b o).drams = s.drams := (State.setSource_calm s a b o).drams
@[simp] theorem State.setSource_lanes (s : State) (a b : Nat) (o : Bool) : (s.setSource a b o).lanes = s.lanes := (State.setSource_calm s a b o).lanes
@[simp] theorem State.setSource_macs (s : State) (a b : Nat) (o : Bool) : (s.setSource a b o).macs = s.macs := (State.setSource_calm s a b o).macs
@[simp] theorem State.setSource_time (s : State) (a b : Nat) (o : Bool) : (s.setSource a b o).time = s.time := (State.setSource_calm s a b o).time
@[simp] theorem State.setSource_rein (s : State) (a b : Nat) (o : Bool) : (s.setSource a b o).rein = s.rein := (State.setSource_calm s a b o).rein
@[simp] theorem State.setSource_flow (s : State) (a b : Nat) (o : Bool) : (s.setSource a b o).flow = s.flow := (State.setSource_calm s a b o).flow
@[simp] theorem State.setSource_saps (s : State) (a b : Nat) (o : Bool) : (s.setSource a b o).saps = s.saps := (State.setSource_calm s a b o).saps
@[simp] theorem State.setSource_keeper (s : State) (a b : Nat) (o : Bool) : (s.setSource a b o).keeper = s.keeper := (State.setSource_calm s a b o).keeper
@[simp] theorem State.setSource_pending (s : State) (a b : Nat) (o : Bool) : (s.setSource a b o).pending = s.pending := (State.setSource_calm s a b o).pending
@[simp] theorem State.setSource_byte (s : State) (a b : Nat) (o : Bool) (z : Nat) : (s.setSource a b o).byte z = s.byte z :=
  State.byte_eq_of_mem (State.setSource_mem s a b o) z
@[simp] theorem State.setSource_present (s : State) (a b : Nat) (o : Bool) (q : Nat) : (s.setSource a b o).present q = s.present q := by
  unfold State.present; rw [State.setSource_part]
theorem State.get_setSource (s : State) (a b : Nat) (o : Bool) {q : Nat} {g : Fld} {j : Nat} (hq : ¬ reactive q) (hg : g.off ≠ PG.EVT.off) :
    (s.setSource a b o).get q g j = s.get q g j := (State.setSource_calm s a b o).get hq hg

/-! ### What a raised source shows -/

/-- The records of the sources are as they were. -/
def SameSrcs (s u : State) : Prop := u.cinch.srcs = s.cinch.srcs

theorem SameSrcs.of_cinch {s u : State} (h : u.cinch = s.cinch) : SameSrcs s u := by unfold SameSrcs; rw [h]

theorem State.measureLoop_cinch (s : State) (n : Nat) : (s.measureLoop n).cinch = s.cinch := by
  unfold State.measureLoop State.measureCarrier
  split
  · rfl
  · dsimp only; split <;> simp

theorem State.startAtCarrier_cinch (s : State) (n st fT : Nat) : (s.startAtCarrier n st fT).cinch = s.cinch := by
  unfold State.startAtCarrier State.setLoopState
  simp [State.measureLoop_cinch]

theorem State.gatesLow_cinch (s : State) (n st : Nat) : (s.gatesLow n st).cinch = s.cinch := by
  simp [State.gatesLow, State.setLoopState]

theorem State.beginSoftStart_cinch (s : State) (n : Nat) : (s.beginSoftStart n).cinch = s.cinch := by
  unfold State.beginSoftStart State.startCarrier
  split
  · rfl
  · cases s.carrierFor n with
    | none => simp [State.startWith, State.gatesLow_cinch]
    | some _ => exact State.startAtCarrier_cinch ..

theorem State.enterSafe_cinch (s : State) (n : Nat) : (s.enterSafe n).cinch = s.cinch := by
  unfold State.enterSafe
  split
  · rfl
  · exact State.gatesLow_cinch ..

theorem State.leaveSafe_cinch (s : State) (n : Nat) : (s.leaveSafe n).cinch = s.cinch := by
  unfold State.leaveSafe State.setLoopState
  split
  · rfl
  · split
    · simp
    · split
      · simp [State.beginSoftStart_cinch]
      · simp

theorem State.reconcile_srcs (o s : State) : SameSrcs s (State.reconcile o s) := by
  unfold State.reconcile
  extract_lets s1 freed muted rel rel' s2 s3 s4
  have h1 : s1.cinch = s.cinch := State.each_eq State.cinch _ _ (fun t n => by
    split
    · exact State.enterSafe_cinch ..
    · split
      · exact State.leaveSafe_cinch ..
      · rfl) s
  have h3 : SameSrcs s s3 := by show s1.cinch.srcs = _; rw [h1]
  have h4 : SameSrcs s s4 := by
    unfold SameSrcs; simp only [s4]; split
    · rw [State.event_cinch]; exact h3
    · exact h3
  unfold SameSrcs; split
  · rw [State.event_cinch]; exact h4
  · exact h4

theorem State.level4_srcs (s : State) (src sev level : Nat) : SameSrcs s (s.level4 src sev level) := by
  unfold SameSrcs State.level4
  split
  · simp
  · split <;> simp

/-- An occurrence takes no instance of any source away. -/
theorem State.occurrence_active (s : State) (src inst : Nat) (b : Bool) :
    ((s.occurrence src inst b).cinchSrc src).active = (s.cinchSrc src).active := by
  have hc : ∀ {t u : State}, SameSrcs t u → u.cinchSrc src = t.cinchSrc src := fun h => by unfold State.cinchSrc; rw [h]
  unfold State.occurrence
  extract_lets sev level g old s1 c s2 s3 s4 s5 s6
  have h1 : s1.cinchSrc src = s.cinchSrc src := hc (.of_cinch (by
    simp only [s1, State.recordOccurrence, State.stampFirst]; split <;> simp))
  have h2 : (s2.cinchSrc src).active = (s1.cinchSrc src).active := by simp [s2, c]
  have h3 : s3.cinchSrc src = s2.cinchSrc src := hc (.of_cinch (by simp [s3]))
  have h4 : s4.cinchSrc src = s3.cinchSrc src := hc (.of_cinch (by simp [s4]))
  have h5 : s5.cinchSrc src = s4.cinchSrc src := by
    refine (hc (State.level4_srcs ..)).trans (hc (.of_cinch ?_))
    unfold State.recordFirst; split <;> simp
  have h6 : s6.cinchSrc src = s5.cinchSrc src := hc (.of_cinch (by
    simp only [s6]; split
    · simp
    · split <;> simp))
  rw [hc (State.reconcile_srcs ..), h6, h5, h4, h3, h2, h1]

/-- A source of a present unit is active once it is raised. -/
theorem State.raise_active (s : State) (src inst : Nat) (h : s.srcPresent src inst = true) :
    ((s.raise src inst).cinchSrc src).active.contains inst = true := by
  have hh : ((s.holdEvent src inst).cinchSrc src).active = (s.cinchSrc src).active := by
    unfold State.holdEvent; split
    · simp
    · rfl
  unfold State.raise
  rw [h]
  extract_lets s1 was c s2
  have h2 : (s2.cinchSrc src).active = inst :: (s1.cinchSrc src).active := by simp [s2, c]
  simp only [Bool.not_true, Bool.false_eq_true, if_false]
  split
  · rename_i k; rw [hh]; exact k
  · split
    · have : (s2.set Pg.cinch CINCH.SRC_INST_LAST_INST inst src).cinchSrc src = s2.cinchSrc src := by
        unfold State.cinchSrc; rw [State.set_cinch]
      rw [this, h2]; simp
    · rw [State.occurrence_active, h2]; simp

/-- Event bits that are set stay set while a source is raised. -/
theorem State.raise_noted (s : State) (a b : Nat) {q : Nat} (hq : ¬ reactive q) : Noted q s (s.raise a b) :=
  (State.raise_calm s a b).evt q hq


end Sys2Proof.Machine
end

