-- ==== Sys2Proof/Laws/Kept.lean ====
section
/-!
SUPPORT. Frames, one law for each shared operation: if all but A, w and m is kept up to a state, it is kept by the
operation too, whose own part lies in A, w or m.
-/

namespace Sys2Proof.Machine

variable {A : List Area} {w : FKey → Prop} {m : Nat → Prop} {s x : State}

theorem Kept.rfl' : Kept A w m s s :=
  ⟨rfl, rfl, fun _ _ => rfl, fun _ _ => rfl, fun a _ => by cases a <;> rfl⟩

theorem Kept.trans {t u : State} (h : Kept A w m s t) (k : Kept A w m t u) : Kept A w m s u :=
  ⟨k.part.trans h.part, k.pending.trans h.pending, fun a ha => (k.mem a ha).trans (h.mem a ha),
    fun a ha => (k.regs a ha).trans (h.regs a ha), fun a ha => by
      have h1 := h.areas a ha
      have h2 := k.areas a ha
      cases a <;> exact Eq.trans h2 h1⟩

theorem Kept.mono {B : List Area} {v : FKey → Prop} {n : Nat → Prop} {u : State} (h : Kept A w m s u)
    (hA : ∀ a ∈ A, a ∈ B) (hw : ∀ k, w k → v k) (hm : ∀ a, m a → n a) : Kept B v n s u :=
  ⟨h.part, h.pending, fun a ha => h.mem a fun k => ha (hm a k), fun k hk => h.regs k fun j => hk (hw k j),
    fun a ha => h.areas a fun k => ha (hA a k)⟩

theorem Kept.each {α : Type} (l : List α) (f : State → α → State) (h : ∀ s, ∀ a ∈ l, Kept A w m s (f s a)) (s : State) :
    Kept A w m s (s.each l f) := by
  induction l generalizing s with
  | nil => exact Kept.rfl'
  | cons a l ih =>
    exact (h s a (by simp)).trans (ih (fun s b hb => h s b (by simp [hb])) (f s a))

theorem Kept.ite {c : Prop} [Decidable c] {t u : State} (h : c → Kept A w m s t) (k : ¬ c → Kept A w m s u) :
    Kept A w m s (if c then t else u) := by
  split
  · exact h ‹_›
  · exact k ‹_›

theorem Kept.get {u : State} (h : Kept A w m s u) {p : Nat} {f : Fld} {i : Nat} (hk : ¬ w (fkey p f i)) :
    u.get p f i = s.get p f i := by unfold State.get SMap.get; rw [h.regs _ hk]

theorem Kept.flag {u : State} (h : Kept A w m s u) {p : Nat} {f : Fld} {i : Nat} (hk : ¬ w (fkey p f i)) :
    u.flag p f i = s.flag p f i := by unfold State.flag; rw [h.get hk]

theorem Kept.present {u : State} (h : Kept A w m s u) (p : Nat) : u.present p = s.present p := by
  unfold State.present; rw [h.part]

/-- A step that changes nothing of the registers and of memory but one area. -/
theorem Kept.area {u : State} (a : Area) (h : Kept A w m s x) (ha : a ∈ A) (hp : u.part = x.part)
    (hq : u.pending = x.pending) (hm : u.mem = x.mem) (hr : u.regs = x.regs) (hb : ∀ b, b ≠ a → b.same x u) :
    Kept A w m s u :=
  h.trans ⟨hp, hq, fun z _ => State.byte_eq_of_mem hm z, fun k _ => by rw [hr], fun b hn => hb b fun e => hn (e ▸ ha)⟩

theorem Kept.of_calm {u : State} (h : Kept A w m s x) (c : Calm x u) (hA : ∀ a ∈ reacting, a ∈ A)
    (hw : ∀ k, reaction k → w k) : Kept A w m s u := by
  refine h.trans ⟨c.part, c.pending, fun z _ => State.byte_eq_of_mem c.mem z, fun k hk => ?_, fun a ha => ?_⟩
  · have hk' : ¬ reaction k := fun r => hk (hw k r)
    refine c.regs k (fun r => hk' (.inr r)) (fun r => hk' (.inl r))
  · have hn : a ∉ reacting := fun r => ha (hA a r)
    cases a <;> first | exact absurd (by decide) hn | skip
    · exact c.now
    · exact c.lastResp
    · exact c.ctrl
    · exact c.tiles
    · exact c.fabric
    · exact c.mix
    · exact c.girth
    · exact c.harness
    · exact c.drams
    · exact c.lanes
    · exact c.macs
    · exact c.time
    · exact c.rein
    · exact c.flow
    · exact c.saps
    · exact c.keeper


/-! ### Fields -/


theorem Kept.set {p : Nat} {f : Fld} {v i : Nat} (hk : w (fkey p f i)) (h : Kept A w m s x) :
    Kept A w m s (x.set p f v i) :=
  h.trans ⟨rfl, rfl, fun _ _ => rfl, fun k hn => State.find?_set_ne _ _ fun e => hn (e ▸ hk), fun a _ => by cases a <;> rfl⟩

theorem Kept.setFlag {p : Nat} {f : Fld} {b : Bool} {i : Nat} (hk : w (fkey p f i)) (h : Kept A w m s x) :
    Kept A w m s (x.setFlag p f b i) :=
  h.trans ⟨rfl, rfl, fun _ _ => rfl, fun k hn => State.find?_set_ne _ _ fun e => hn (e ▸ hk), fun a _ => by cases a <;> rfl⟩

theorem Kept.count {p : Nat} {f : Fld} {n i : Nat} (hk : w (fkey p f i)) (h : Kept A w m s x) :
    Kept A w m s (x.count p f n i) :=
  h.trans ⟨rfl, rfl, fun _ _ => rfl, fun k hn => State.find?_set_ne _ _ fun e => hn (e ▸ hk), fun a _ => by cases a <;> rfl⟩

theorem Kept.free  (h1 : Area.free ∈ A) (h : Kept A w m s x) : Kept A w m s (x.free.2) :=
  h.area .free h1 (by simp) (by simp) (by simp) (by simp) fun b hb => by
    cases b <;> first | exact absurd rfl hb | (unfold Area.same; simp)

theorem Kept.setByte {a : Nat} {b : Byte} (hm : m a) (h : Kept A w m s x) : Kept A w m s (x.setByte a b) :=
  h.trans ⟨rfl, rfl, fun _ hz => State.byte_setByte_ne _ _ fun e => hz (e ▸ hm), fun _ _ => rfl, fun c _ => by cases c <;> rfl⟩

theorem Kept.sendMsix {v : Nat} (h1 : Area.msix ∈ A) (h : Kept A w m s x) : Kept A w m s (x.sendMsix v) :=
  h.area .msix h1 (by simp) (by simp) (by simp) (by simp) fun b hb => by
    cases b <;> first | exact absurd rfl hb | (unfold Area.same; simp)

theorem Kept.answer {r : Resp} (h1 : Area.resp ∈ A) (h : Kept A w m s x) : Kept A w m s (x.answer r) :=
  h.area .resp h1 (by simp) (by simp) (by simp) (by simp) fun b hb => by
    cases b <;> first | exact absurd rfl hb | (unfold Area.same; simp)

theorem Kept.lifePut {p i v : Nat} (h1 : Area.life ∈ A) (h : Kept A w m s x) : Kept A w m s (x.lifePut p i v) :=
  h.area .life h1 (by simp) (by simp) (by simp) (by simp) fun b hb => by
    cases b <;> first | exact absurd rfl hb | (unfold Area.same; simp)

theorem Kept.abandonUnlock {p : Nat} (h1 : Area.ctrl ∈ A) (h : Kept A w m s x) : Kept A w m s (x.abandonUnlock p) :=
  h.area .ctrl h1 (by simp) (by simp) (by simp) (by simp) fun b hb => by
    cases b <;> first | exact absurd rfl hb | (unfold Area.same; simp)

theorem Kept.advance {n : Nat} (h1 : Area.clock ∈ A) (h2 : Area.time ∈ A) (h : Kept A w m s x) : Kept A w m s (x.advance n) :=
  h.trans ⟨by simp, by simp, fun _ _ => by simp, fun _ _ => by simp, fun a ha => by
    cases a <;> first | exact absurd h1 ha | exact absurd h2 ha | (unfold Area.same; simp)⟩

theorem Kept.reach {n : Nat} (h1 : Area.clock ∈ A) (h2 : Area.time ∈ A) (h : Kept A w m s x) : Kept A w m s (x.reach n) :=
  h.trans ⟨by simp, by simp, fun _ _ => by simp, fun _ _ => by simp, fun a ha => by
    cases a <;> first | exact absurd h1 ha | exact absurd h2 ha | (unfold Area.same; simp)⟩

theorem Kept.untilTime0 {n : Nat} (h1 : Area.clock ∈ A) (h2 : Area.time ∈ A) (h : Kept A w m s x) : Kept A w m s (x.untilTime0 n) :=
  h.trans ⟨by simp, by simp, fun _ _ => by simp, fun _ _ => by simp, fun a ha => by
    cases a <;> first | exact absurd h1 ha | exact absurd h2 ha | (unfold Area.same; simp)⟩

theorem Kept.onCtrl {f : Ctrl → Ctrl} (h1 : Area.ctrl ∈ A) (h : Kept A w m s x) : Kept A w m s (x.onCtrl f) :=
  h.area .ctrl h1 (by simp) (by simp) (by simp) (by simp) fun b hb => by
    cases b <;> first | exact absurd rfl hb | (unfold Area.same; simp)

theorem Kept.setCinchSrc {i : Nat} {c : CinchSrc} (h1 : Area.cinch ∈ A) (h : Kept A w m s x) : Kept A w m s (x.setCinchSrc i c) :=
  h.area .cinch h1 (by simp) (by simp) (by simp) (by simp) fun b hb => by
    cases b <;> first | exact absurd rfl hb | (unfold Area.same; simp)

theorem Kept.onLife {f : Life → Life} (h1 : Area.life ∈ A) (h : Kept A w m s x) : Kept A w m s (x.onLife f) :=
  h.area .life h1 (by simp) (by simp) (by simp) (by simp) fun b hb => by
    cases b <;> first | exact absurd rfl hb | (unfold Area.same; simp)

theorem Kept.setTile {t : Nat} {y : Tile} (h1 : Area.tiles ∈ A) (h : Kept A w m s x) : Kept A w m s (x.setTile t y) :=
  h.area .tiles h1 (by simp) (by simp) (by simp) (by simp) fun b hb => by
    cases b <;> first | exact absurd rfl hb | (unfold Area.same; simp)

theorem Kept.setDom {d : Nat} {y : Domain} (h1 : Area.fabric ∈ A) (h : Kept A w m s x) : Kept A w m s (x.setDom d y) :=
  h.area .fabric h1 (by simp) (by simp) (by simp) (by simp) fun b hb => by
    cases b <;> first | exact absurd rfl hb | (unfold Area.same; simp)

theorem Kept.onFabric {f : Fabric → Fabric} (h1 : Area.fabric ∈ A) (h : Kept A w m s x) : Kept A w m s (x.onFabric f) :=
  h.area .fabric h1 (by simp) (by simp) (by simp) (by simp) fun b hb => by
    cases b <;> first | exact absurd rfl hb | (unfold Area.same; simp)

theorem Kept.onMix {f : Mix → Mix} (h1 : Area.mix ∈ A) (h : Kept A w m s x) : Kept A w m s (x.onMix f) :=
  h.area .mix h1 (by simp) (by simp) (by simp) (by simp) fun b hb => by
    cases b <;> first | exact absurd rfl hb | (unfold Area.same; simp)

theorem Kept.onGirth {f : Girth → Girth} (h1 : Area.girth ∈ A) (h : Kept A w m s x) : Kept A w m s (x.onGirth f) :=
  h.area .girth h1 (by simp) (by simp) (by simp) (by simp) fun b hb => by
    cases b <;> first | exact absurd rfl hb | (unfold Area.same; simp)

theorem Kept.onHarness {f : Harness → Harness} (h1 : Area.harness ∈ A) (h : Kept A w m s x) : Kept A w m s (x.onHarness f) :=
  h.area .harness h1 (by simp) (by simp) (by simp) (by simp) fun b hb => by
    cases b <;> first | exact absurd rfl hb | (unfold Area.same; simp)

theorem Kept.setDram {c : Nat} {y : Dram} (h1 : Area.drams ∈ A) (h : Kept A w m s x) : Kept A w m s (x.setDram c y) :=
  h.area .drams h1 (by simp) (by simp) (by simp) (by simp) fun b hb => by
    cases b <;> first | exact absurd rfl hb | (unfold Area.same; simp)

theorem Kept.onDram {c : Nat} {f : Dram → Dram} (h1 : Area.drams ∈ A) (h : Kept A w m s x) : Kept A w m s (x.onDram c f) :=
  h.area .drams h1 (by simp) (by simp) (by simp) (by simp) fun b hb => by
    cases b <;> first | exact absurd rfl hb | (unfold Area.same; simp)

theorem Kept.setLane {n : Nat} {y : Lane} (h1 : Area.lanes ∈ A) (h : Kept A w m s x) : Kept A w m s (x.setLane n y) :=
  h.area .lanes h1 (by simp) (by simp) (by simp) (by simp) fun b hb => by
    cases b <;> first | exact absurd rfl hb | (unfold Area.same; simp)

theorem Kept.onLane {n : Nat} {f : Lane → Lane} (h1 : Area.lanes ∈ A) (h : Kept A w m s x) : Kept A w m s (x.onLane n f) :=
  h.area .lanes h1 (by simp) (by simp) (by simp) (by simp) fun b hb => by
    cases b <;> first | exact absurd rfl hb | (unfold Area.same; simp)

theorem Kept.setMac {n : Nat} {y : Mac} (h1 : Area.macs ∈ A) (h : Kept A w m s x) : Kept A w m s (x.setMac n y) :=
  h.area .macs h1 (by simp) (by simp) (by simp) (by simp) fun b hb => by
    cases b <;> first | exact absurd rfl hb | (unfold Area.same; simp)

theorem Kept.onMac {n : Nat} {f : Mac → Mac} (h1 : Area.macs ∈ A) (h : Kept A w m s x) : Kept A w m s (x.onMac n f) :=
  h.area .macs h1 (by simp) (by simp) (by simp) (by simp) fun b hb => by
    cases b <;> first | exact absurd rfl hb | (unfold Area.same; simp)

theorem Kept.setCounter {n : Nat} {c : Counter} (h1 : Area.time ∈ A) (h : Kept A w m s x) : Kept A w m s (x.setCounter n c) :=
  h.area .time h1 (by simp) (by simp) (by simp) (by simp) fun b hb => by
    cases b <;> first | exact absurd rfl hb | (unfold Area.same; simp)

theorem Kept.setPtp {n : Nat} {p : Ptp} (h1 : Area.time ∈ A) (h : Kept A w m s x) : Kept A w m s (x.setPtp n p) :=
  h.area .time h1 (by simp) (by simp) (by simp) (by simp) fun b hb => by
    cases b <;> first | exact absurd rfl hb | (unfold Area.same; simp)

theorem Kept.onRein {f : Rein → Rein} (h1 : Area.rein ∈ A) (h : Kept A w m s x) : Kept A w m s (x.onRein f) :=
  h.area .rein h1 (by simp) (by simp) (by simp) (by simp) fun b hb => by
    cases b <;> first | exact absurd rfl hb | (unfold Area.same; simp)

theorem Kept.onRef {i : Nat} {f : RefSlot → RefSlot} (h1 : Area.rein ∈ A) (h : Kept A w m s x) : Kept A w m s (x.onRef i f) :=
  h.area .rein h1 (by simp) (by simp) (by simp) (by simp) fun b hb => by
    cases b <;> first | exact absurd rfl hb | (unfold Area.same; simp)

theorem Kept.onDpll {k : Nat} {f : Dpll → Dpll} (h1 : Area.rein ∈ A) (h : Kept A w m s x) : Kept A w m s (x.onDpll k f) :=
  h.area .rein h1 (by simp) (by simp) (by simp) (by simp) fun b hb => by
    cases b <;> first | exact absurd rfl hb | (unfold Area.same; simp)

theorem Kept.onFlow {f : Flow → Flow} (h1 : Area.flow ∈ A) (h : Kept A w m s x) : Kept A w m s (x.onFlow f) :=
  h.area .flow h1 (by simp) (by simp) (by simp) (by simp) fun b hb => by
    cases b <;> first | exact absurd rfl hb | (unfold Area.same; simp)

theorem Kept.setSap {n : Nat} {y : Sap} (h1 : Area.saps ∈ A) (h : Kept A w m s x) : Kept A w m s (x.setSap n y) :=
  h.area .saps h1 (by simp) (by simp) (by simp) (by simp) fun b hb => by
    cases b <;> first | exact absurd rfl hb | (unfold Area.same; simp)

theorem Kept.onSap {n : Nat} {f : Sap → Sap} (h1 : Area.saps ∈ A) (h : Kept A w m s x) : Kept A w m s (x.onSap n f) :=
  h.area .saps h1 (by simp) (by simp) (by simp) (by simp) fun b hb => by
    cases b <;> first | exact absurd rfl hb | (unfold Area.same; simp)

theorem Kept.setLoop {n : Nat} {l : Stirrup} (h1 : Area.loops ∈ A) (h : Kept A w m s x) : Kept A w m s (x.setLoop n l) :=
  h.area .loops h1 (by simp) (by simp) (by simp) (by simp) fun b hb => by
    cases b <;> first | exact absurd rfl hb | (unfold Area.same; simp)

theorem Kept.onKeeper {f : Keeper → Keeper} (h1 : Area.keeper ∈ A) (h : Kept A w m s x) : Kept A w m s (x.onKeeper f) :=
  h.area .keeper h1 (by simp) (by simp) (by simp) (by simp) fun b hb => by
    cases b <;> first | exact absurd rfl hb | (unfold Area.same; simp)
theorem Kept.with_now {y} (h1 : Area.clock ∈ A) (h : Kept A w m s x) : Kept A w m s { x with now := y } :=
  h.area .clock h1 rfl rfl rfl rfl fun b hb => by cases b <;> first | exact absurd rfl hb | rfl
theorem Kept.with_lastResp {y} (h1 : Area.resp ∈ A) (h : Kept A w m s x) : Kept A w m s { x with lastResp := y } :=
  h.area .resp h1 rfl rfl rfl rfl fun b hb => by cases b <;> first | exact absurd rfl hb | rfl
theorem Kept.with_msix {y} (h1 : Area.msix ∈ A) (h : Kept A w m s x) : Kept A w m s { x with msix := y } :=
  h.area .msix h1 rfl rfl rfl rfl fun b hb => by cases b <;> first | exact absurd rfl hb | rfl
theorem Kept.with_ctrl {y} (h1 : Area.ctrl ∈ A) (h : Kept A w m s x) : Kept A w m s { x with ctrl := y } :=
  h.area .ctrl h1 rfl rfl rfl rfl fun b hb => by cases b <;> first | exact absurd rfl hb | rfl
theorem Kept.with_cinch {y} (h1 : Area.cinch ∈ A) (h : Kept A w m s x) : Kept A w m s { x with cinch := y } :=
  h.area .cinch h1 rfl rfl rfl rfl fun b hb => by cases b <;> first | exact absurd rfl hb | rfl
theorem Kept.with_life {y} (h1 : Area.life ∈ A) (h : Kept A w m s x) : Kept A w m s { x with life := y } :=
  h.area .life h1 rfl rfl rfl rfl fun b hb => by cases b <;> first | exact absurd rfl hb | rfl
theorem Kept.with_tiles {y} (h1 : Area.tiles ∈ A) (h : Kept A w m s x) : Kept A w m s { x with tiles := y } :=
  h.area .tiles h1 rfl rfl rfl rfl fun b hb => by cases b <;> first | exact absurd rfl hb | rfl
theorem Kept.with_fabric {y} (h1 : Area.fabric ∈ A) (h : Kept A w m s x) : Kept A w m s { x with fabric := y } :=
  h.area .fabric h1 rfl rfl rfl rfl fun b hb => by cases b <;> first | exact absurd rfl hb | rfl
theorem Kept.with_mix {y} (h1 : Area.mix ∈ A) (h : Kept A w m s x) : Kept A w m s { x with mix := y } :=
  h.area .mix h1 rfl rfl rfl rfl fun b hb => by cases b <;> first | exact absurd rfl hb | rfl
theorem Kept.with_girth {y} (h1 : Area.girth ∈ A) (h : Kept A w m s x) : Kept A w m s { x with girth := y } :=
  h.area .girth h1 rfl rfl rfl rfl fun b hb => by cases b <;> first | exact absurd rfl hb | rfl
theorem Kept.with_harness {y} (h1 : Area.harness ∈ A) (h : Kept A w m s x) : Kept A w m s { x with harness := y } :=
  h.area .harness h1 rfl rfl rfl rfl fun b hb => by cases b <;> first | exact absurd rfl hb | rfl
theorem Kept.with_drams {y} (h1 : Area.drams ∈ A) (h : Kept A w m s x) : Kept A w m s { x with drams := y } :=
  h.area .drams h1 rfl rfl rfl rfl fun b hb => by cases b <;> first | exact absurd rfl hb | rfl
theorem Kept.with_lanes {y} (h1 : Area.lanes ∈ A) (h : Kept A w m s x) : Kept A w m s { x with lanes := y } :=
  h.area .lanes h1 rfl rfl rfl rfl fun b hb => by cases b <;> first | exact absurd rfl hb | rfl
theorem Kept.with_macs {y} (h1 : Area.macs ∈ A) (h : Kept A w m s x) : Kept A w m s { x with macs := y } :=
  h.area .macs h1 rfl rfl rfl rfl fun b hb => by cases b <;> first | exact absurd rfl hb | rfl
theorem Kept.with_time {y} (h1 : Area.time ∈ A) (h : Kept A w m s x) : Kept A w m s { x with time := y } :=
  h.area .time h1 rfl rfl rfl rfl fun b hb => by cases b <;> first | exact absurd rfl hb | rfl
theorem Kept.with_rein {y} (h1 : Area.rein ∈ A) (h : Kept A w m s x) : Kept A w m s { x with rein := y } :=
  h.area .rein h1 rfl rfl rfl rfl fun b hb => by cases b <;> first | exact absurd rfl hb | rfl
theorem Kept.with_flow {y} (h1 : Area.flow ∈ A) (h : Kept A w m s x) : Kept A w m s { x with flow := y } :=
  h.area .flow h1 rfl rfl rfl rfl fun b hb => by cases b <;> first | exact absurd rfl hb | rfl
theorem Kept.with_saps {y} (h1 : Area.saps ∈ A) (h : Kept A w m s x) : Kept A w m s { x with saps := y } :=
  h.area .saps h1 rfl rfl rfl rfl fun b hb => by cases b <;> first | exact absurd rfl hb | rfl
theorem Kept.with_loops {y} (h1 : Area.loops ∈ A) (h : Kept A w m s x) : Kept A w m s { x with loops := y } :=
  h.area .loops h1 rfl rfl rfl rfl fun b hb => by cases b <;> first | exact absurd rfl hb | rfl
theorem Kept.with_keeper {y} (h1 : Area.keeper ∈ A) (h : Kept A w m s x) : Kept A w m s { x with keeper := y } :=
  h.area .keeper h1 rfl rfl rfl rfl fun b hb => by cases b <;> first | exact absurd rfl hb | rfl


/-! ### Events, life counters, sources -/

theorem Kept.events {p b : Nat} (h1 : Area.msix ∈ A) (hk : w (fkey p PG.EVT 0)) (h : Kept A w m s x) :
    Kept A w m s (x.events p b) :=
  h.trans ⟨by simp, by simp, fun _ _ => by simp, fun _ hn => State.events_regs_ne _ _ _ fun e => hn (e ▸ hk), fun a ha => by
    cases a <;> first | exact absurd h1 ha | (unfold Area.same; simp)⟩

theorem Kept.event {p b : Nat} (h1 : Area.msix ∈ A) (hk : w (fkey p PG.EVT 0)) (h : Kept A w m s x) :
    Kept A w m s (x.event p b) := h.events h1 hk

theorem Kept.opDone {p : Nat} (h1 : Area.msix ∈ A) (hk : w (fkey p PG.EVT 0)) (h : Kept A w m s x) :
    Kept A w m s (x.opDone p) := h.events h1 hk

theorem Kept.lifeAdd {p i n : Nat} (h1 : Area.life ∈ A) (h : Kept A w m s x) : Kept A w m s (x.lifeAdd p i n) :=
  h.area .life h1 (by simp) (by simp) (by simp) (by simp) fun b hb => by
    cases b <;> first | exact absurd rfl hb | (unfold Area.same; simp)

theorem Kept.raise {a b : Nat} (hA : ∀ a ∈ reacting, a ∈ A) (hw : ∀ k, reaction k → w k) (h : Kept A w m s x) :
    Kept A w m s (x.raise a b) := h.of_calm (State.raise_calm ..) hA hw
theorem Kept.lower {a b : Nat} (hA : ∀ a ∈ reacting, a ∈ A) (hw : ∀ k, reaction k → w k) (h : Kept A w m s x) :
    Kept A w m s (x.lower a b) := h.of_calm (State.lower_calm ..) hA hw
theorem Kept.setSource {a b : Nat} {o : Bool} (hA : ∀ a ∈ reacting, a ∈ A) (hw : ∀ k, reaction k → w k)
    (h : Kept A w m s x) : Kept A w m s (x.setSource a b o) := h.of_calm (State.setSource_calm ..) hA hw
theorem Kept.withdraw {a : Nat} {o : Bool} (hA : ∀ a ∈ reacting, a ∈ A) (hw : ∀ k, reaction k → w k)
    (h : Kept A w m s x) : Kept A w m s (x.withdraw a o) := h.of_calm (State.withdraw_calm ..) hA hw

end Sys2Proof.Machine
end

