-- ==== Sys2Proof/Laws/Mailbox.lean ====
section
/-!
SUPPORT. What register writes, mailbox answers and long operations do, said once.
-/

namespace Sys2Proof.Machine

theorem State.present_host (s : State) : s.present Pg.host = true := by
  unfold State.present; cases s.part <;> decide

/-- A write that has its effect. -/
theorem State.writeTo_takes {s : State} {m : Master} {p : Nat} (h : s.takes m p) (f : State → State) :
    s.writeTo m p f = (f (s.abandonUnlock p)).answer (.ok []) := by
  unfold State.writeTo; rw [if_pos h.1, if_pos h.2]

theorem State.wrote_answer {s u : State} {p : Nat} (h : u.ctrl = (s.abandonUnlock p).ctrl) :
    Wrote p s (u.answer (.ok [])) := ⟨rfl, h⟩

/-- The event bits of a page after an event. -/
theorem State.evt_event_same {s : State} {p : Nat} (h : s.present p = true) (b : Nat) (hb : b < 32) :
    (s.event p b).evt p b = true := by
  unfold State.evt State.event
  rw [State.get_events_same s p _ h]
  simp only [Nat.testBit_mod_two_pow, Nat.testBit_or, Nat.testBit_two_pow_self, Bool.or_true, Bool.and_true, decide_eq_true_eq]
  exact hb

/-- Setting a field elsewhere leaves the event bits. -/
theorem State.evt_of_get {s u : State} {p : Nat} (h : u.get p PG.EVT = s.get p PG.EVT) (b : Nat) : u.evt p b = s.evt p b := by
  unfold State.evt; rw [h]

theorem putWords_head (m : SMap Nat Word) (i : Nat) (w : Word) (ws : List Word) :
    nget 0 (putWords m i (w :: ws)) i = w := by
  have h : ∀ (l : List Word) (m : SMap Nat Word) (j : Nat), i < j → nget 0 (putWords m j l) i = nget 0 m i := by
    intro l
    induction l with
    | nil => intro m j _; rfl
    | cons x l ih =>
      intro m j hj
      show nget 0 (putWords (nput 0 m j x) (j + 1) l) i = _
      rw [ih _ _ (by omega), nget_nput_ne _ _ _ _ (by omega)]
  show nget 0 (putWords (nput 0 m i w) (i + 1) ws) i = w
  rw [h _ _ _ (by omega), nget_nput_same]

variable {A : List Area} {w : FKey → Prop} {m : Nat → Prop} {s x : State}

theorem Kept.reply {op : Nat} {tag : BitVec 8} {st : Nat} {ws : List Word} (h1 : Area.resp ∈ A) (h2 : Area.ctrl ∈ A)
    (h3 : Area.msix ∈ A) (hw : ∀ k ∈ replyFields, w k) (h : Kept A w m s x) : Kept A w m s (x.reply op tag st ws) := by
  unfold State.reply
  exact Kept.answer h1 (Kept.event h3 (hw _ (by simp [replyFields])) (Kept.set (hw _ (by simp [replyFields]))
    (Kept.set (hw _ (by simp [replyFields])) (Kept.onCtrl h2 h))))

theorem State.reply_replied (s : State) (op : Nat) (tag : BitVec 8) (st : Nat) (ws : List Word) :
    Replied op tag st ws (s.reply op tag st ws) := by
  unfold State.reply
  extract_lets l s1 s2
  have hp : s2.present Pg.host = true := State.present_host _
  refine ⟨rfl, ?_, ?_, ?_, ?_⟩
  · simp only [State.answer_ctrl, State.event_ctrl, s2, s1, State.set_ctrl, State.onCtrl_ctrl]
    exact putWords_head ..
  · unfold State.flag
    rw [State.get_eq_of_regs (State.answer_regs ..), State.get_event_off _ _ _ (by decide)]
    simp only [s2]
    rw [State.get_set_lo _ _ (by decide), State.get_set_same]
    rfl
  · unfold State.flag
    rw [State.get_eq_of_regs (State.answer_regs ..), State.get_event_off _ _ _ (by decide)]
    simp only [s2]
    rw [State.get_set_same]
    rfl
  · rw [State.evt_of_get (State.get_eq_of_regs (State.answer_regs ..) _ _ _)]
    exact State.evt_event_same hp 0 (by decide)

/-- A served mailbox command is carried out, with its request in MBX_REQ. -/
theorem State.mailbox_serves {s : State} (h : s.serves) (op : Nat) (tag : BitVec 8) (args : List Word) (f : State → State) :
    s.mailbox op tag args f = f (s.submit op tag args) := by
  have hr : (s.submit op tag args).ready = true := h.2.1
  unfold State.mailbox
  simp [h.1, hr, h.2.2, Fw.run, Fw.recovery, Fw.mfgTest]

theorem Kept.accept {op : Nat} {tag : BitVec 8} {p : Nat} (h1 : Area.resp ∈ A) (h2 : Area.ctrl ∈ A) (h3 : Area.msix ∈ A)
    (hw : ∀ k ∈ replyFields, w k) (hv : ∀ k ∈ progressFields p, w k) (h : Kept A w m s x) :
    Kept A w m s (x.accept op tag p) := by
  unfold State.accept State.longStart
  exact Kept.reply h1 h2 h3 hw (Kept.onCtrl h2 (Kept.set (hv _ (by simp [progressFields]))
    (Kept.set (hv _ (by simp [progressFields])) (Kept.set (hv _ (by simp [progressFields])) h))))

theorem State.get_reply {s : State} {op : Nat} {tag : BitVec 8} {st : Nat} {ws : List Word} {p : Nat} {f : Fld} {i : Nat}
    (h1 : f.off ≠ HOST.MBX_STAT_BUSY.off) (h2 : f.off ≠ PG.EVT.off) :
    (s.reply op tag st ws).get p f i = s.get p f i := by
  refine (Kept.reply (A := [.resp, .ctrl, .msix]) (w := fields replyFields) (m := noByte) (by decide) (by decide) (by decide)
    (fun k hk => hk) Kept.rfl').get ?_
  intro hk
  simp only [fields, replyFields, List.mem_cons, List.not_mem_nil, or_false] at hk
  rcases hk with e | e | e
  · exact h1 (congrArg FKey.off e)
  · exact h1 (congrArg FKey.off e)
  · exact h2 (congrArg FKey.off e)

theorem State.accept_accepted (s : State) (op : Nat) (tag : BitVec 8) (p : Nat) : Accepted op tag p s (s.accept op tag p) := by
  unfold State.accept State.longStart
  extract_lets s1
  refine ⟨State.reply_replied .., ?_, ?_, ?_, ?_⟩
  · unfold State.reply; simp [s1]
  · unfold State.flag
    rw [State.get_reply (by decide) (by decide)]
    simp only [s1, State.onCtrl_get]
    rw [State.get_set_lo _ _ (by decide), State.get_set_lo _ _ (by decide), State.get_set_same]
    rfl
  · rw [State.get_reply (by decide) (by decide)]
    simp only [s1, State.onCtrl_get]
    rw [State.get_set_lo _ _ (by decide), State.get_set_same]
    rfl
  · rw [State.get_reply (by decide) (by decide)]
    simp only [s1, State.onCtrl_get]
    rw [State.get_set_same]
    rfl

theorem Kept.finish {op : Nat} {tag : BitVec 8} {p st : Nat} (h2 : Area.ctrl ∈ A) (h3 : Area.msix ∈ A)
    (hv : ∀ k ∈ fkey Pg.host PG.EVT 0 :: progressFields p, w k) (h : Kept A w m s x) :
    Kept A w m s (x.finish op tag p st) := by
  have hp : w (fkey p PG.PROGRESS_PERCENT 0) := hv _ (by simp [progressFields])
  have he : w (fkey p PG.EVT 0) := hv _ (by simp [progressFields])
  have hh : w (fkey Pg.host PG.EVT 0) := hv _ (by simp)
  unfold State.finish State.longEnd State.queueDone State.putDone
  extract_lets s1
  refine Kept.ite (fun _ => Kept.event h3 hh (Kept.onCtrl h2 ?_)) (fun _ => Kept.onCtrl h2 ?_)
  all_goals
    refine Kept.opDone h3 he (Kept.ite (fun _ => Kept.set hp ?_) (fun _ => ?_))
  all_goals exact Kept.onCtrl h2 h

theorem State.finish_finished (s : State) (op : Nat) (tag : BitVec 8) (p st : Nat) (h : s.present p = true) :
    Finished op tag p st s (s.finish op tag p st) := by
  have hc : ∀ (u : State) (b : Bool), (u.longEnd p b).ctrl = u.ctrl := by
    intro u b; unfold State.longEnd State.opDone; cases b <;> simp
  have hp : ∀ (u : State) (b : Bool), u.present p = true → (u.longEnd p b).present p = true := by
    intro u b hu; unfold State.longEnd State.opDone; cases b <;> simpa using hu
  have he : ∀ (u : State) (b : Bool), u.present p = true → (u.longEnd p b).evt p 31 = true := by
    intro u b hu; unfold State.longEnd State.opDone
    exact State.evt_event_same (by cases b <;> simpa using hu) 31 (by decide)
  have hg : ∀ u : State, (u.longEnd p true).get p PG.PROGRESS_PERCENT = 100 := by
    intro u; unfold State.longEnd State.opDone
    rw [State.get_event_off _ _ _ (by decide)]
    exact State.get_set_same ..
  have hq : ∀ (u : State) (r : DoneRec), (u.queueDone r).get p PG.PROGRESS_PERCENT = u.get p PG.PROGRESS_PERCENT := by
    intro u r; unfold State.queueDone State.putDone
    split
    · rw [State.get_event_off _ _ _ (by decide), State.onCtrl_get]
    · rw [State.onCtrl_get]
  have hk : ∀ (u : State) (r : DoneRec), u.evt p 31 = true → (u.queueDone r).evt p 31 = true := by
    intro u r hu; unfold State.queueDone State.putDone
    split
    · unfold State.evt at hu ⊢
      by_cases hpp : p = Pg.host
      · subst hpp
        unfold State.event
        rw [State.get_events_same _ _ _ (State.present_host _)]
        simp only [Nat.testBit_mod_two_pow, Nat.testBit_or, State.onCtrl_get, hu, Bool.true_or, Bool.and_true]
        decide
      · rw [State.event, State.get_events_ne _ _ _ (fkey_page (Ne.symm hpp)), State.onCtrl_get]
        exact hu
    · rw [State.evt_of_get (State.onCtrl_get ..)]
      exact hu
  unfold State.finish
  extract_lets s1
  have hs1 : s1.present p = true := h
  refine ⟨fun h1 h2 => ?_, fun h1 => ?_, ?_, ?_, fun hst => ?_⟩
  · unfold State.queueDone State.putDone
    rw [hc, if_pos (by simp [s1, h1, h2])]
    refine ⟨by simp [hc, s1], ?_⟩
    exact State.evt_event_same (State.present_host _) 1 (by decide)
  · unfold State.queueDone
    rw [hc, if_neg (by simpa [s1] using h1)]
    simp [hc, s1]
  · have : ∀ (u : State) (r : DoneRec), (u.queueDone r).ctrl.long = u.ctrl.long := by
      intro u r; unfold State.queueDone State.putDone; split <;> simp
    rw [this, hc]
    simp [s1]
  · exact hk _ _ (he _ _ hs1)
  · rw [hq, hst]
    exact hg _

end Sys2Proof.Machine
end

