-- ==== Sys2Proof/Laws/Awl.lean ====
section
/-!
SUPPORT. What issuing an instruction does to its tile and to the rest of the state, whichever instruction it is.
-/

namespace Sys2Proof.Machine

/-! ### Loop ends -/

/-- Two tiles agree in what a loop end looks at and changes. -/
def Tile.sameLoops (x y : Tile) : Prop :=
  x.lc = y.lc ∧ x.ls = y.ls ∧ x.le = y.le ∧ x.lrsd = y.lrsd ∧ x.ldepth = y.ldepth ∧ x.rsd = y.rsd

/-- The loop registers of a tile. -/
def Tile.withLoops (y : Tile) (lc : SMap Nat (BitVec 16)) (ls le : SMap Nat (BitVec 14)) (lrsd : SMap Nat Nat)
    (d : Nat) : Tile := { y with lc := lc, ls := ls, le := le, lrsd := lrsd, ldepth := d }

theorem Tile.closeLevel_withLoops (x : Tile) (n : Nat) :
    ∃ lc ls le lrsd, ∀ y : Tile, x.sameLoops y → y.closeLevel n = y.withLoops lc ls le lrsd (x.ldepth - 1) := by
  have key : ∀ (l : List Nat) (z : Tile), ∃ lc ls le lrsd, ∀ y : Tile, z.sameLoops y →
      l.foldl (fun (x : Tile) i =>
        { x with
          lc := nput 0 x.lc (n + i) (nget 0 x.lc (n + i + 1))
          ls := nput 0 x.ls (n + i) (nget 0 x.ls (n + i + 1))
          le := nput 0 x.le (n + i) (nget 0 x.le (n + i + 1))
          lrsd := nput 0 x.lrsd (n + i) (nget 0 x.lrsd (n + i + 1)) }) y = y.withLoops lc ls le lrsd z.ldepth := by
    intro l
    induction l with
    | nil =>
      intro z
      exact ⟨z.lc, z.ls, z.le, z.lrsd, fun y h => by
        obtain ⟨a, b, c, d, e, _⟩ := h
        simp [Tile.withLoops, a, b, c, d, e]⟩
    | cons i l ih =>
      intro z
      obtain ⟨lc, ls, le, lrsd, h⟩ := ih (z.withLoops (nput 0 z.lc (n + i) (nget 0 z.lc (n + i + 1)))
        (nput 0 z.ls (n + i) (nget 0 z.ls (n + i + 1))) (nput 0 z.le (n + i) (nget 0 z.le (n + i + 1)))
        (nput 0 z.lrsd (n + i) (nget 0 z.lrsd (n + i + 1))) z.ldepth)
      refine ⟨lc, ls, le, lrsd, fun y k => ?_⟩
      rw [List.foldl_cons, h]
      · rfl
      · obtain ⟨a, b, c, d, e, f⟩ := k
        simp [Tile.sameLoops, Tile.withLoops, a, b, c, d, e, f]
  obtain ⟨lc, ls, le, lrsd, h⟩ := key (List.range (x.ldepth - 1 - n)) { x with ldepth := x.ldepth - 1 }
  refine ⟨lc, ls, le, lrsd, fun y k => ?_⟩
  obtain ⟨a, b, c, d, e, f⟩ := k
  unfold Tile.closeLevel
  rw [← e]
  exact (h { y with ldepth := x.ldepth - 1 } ⟨a, b, c, d, rfl, f⟩).trans rfl

/-- A loop end depends on the loop registers and RSD alone, and changes the loop registers alone. -/
theorem Tile.loopEnd_withLoops (a n : Nat) (x : Tile) :
    ∃ lc ls le lrsd d q, ∀ y : Tile, x.sameLoops y → Tile.loopEnd a n y = (y.withLoops lc ls le lrsd d, q) := by
  induction n generalizing x with
  | zero =>
    exact ⟨x.lc, x.ls, x.le, x.lrsd, x.ldepth, a + 1, fun y h => by
      obtain ⟨a, b, c, d, e, _⟩ := h
      simp [Tile.loopEnd, Tile.withLoops, a, b, c, d, e]⟩
  | succ n ih =>
    by_cases h : (nget 0 x.le n).toNat = a ∧ nget 0 x.lrsd n = x.rsd
    · by_cases h2 : 1 < (nget 0 x.lc n).toNat
      · refine ⟨nput 0 x.lc n (nget 0 x.lc n - 1), x.ls, x.le, x.lrsd, x.ldepth, (nget 0 x.ls n).toNat, fun y k => ?_⟩
        obtain ⟨e1, e2, e3, e4, e5, e6⟩ := k
        unfold Tile.loopEnd
        rw [← e3, ← e4, ← e6, ← e1, if_pos h, if_pos h2, ← e2]
        simp [Tile.withLoops, e2, e3, e4, e5, e6]
      · obtain ⟨lc, ls, le, lrsd, hc⟩ := x.closeLevel_withLoops n
        obtain ⟨lc', ls', le', lrsd', d', q, hi⟩ := ih (x.withLoops lc ls le lrsd (x.ldepth - 1))
        refine ⟨lc', ls', le', lrsd', d', q, fun y k => ?_⟩
        have hcy := hc y k
        obtain ⟨e1, e2, e3, e4, e5, e6⟩ := k
        unfold Tile.loopEnd
        rw [← e3, ← e4, ← e6, ← e1, if_pos h, if_neg h2, hcy, hi]
        · rfl
        · exact ⟨rfl, rfl, rfl, rfl, rfl, e6⟩
    · obtain ⟨lc, ls, le, lrsd, d, q, hi⟩ := ih x
      refine ⟨lc, ls, le, lrsd, d, q, fun y k => ?_⟩
      unfold Tile.loopEnd
      rw [if_neg (by rw [← k.2.2.1, ← k.2.2.2.1, ← k.2.2.2.2.2]; exact h), hi y k]

theorem Tile.retireAt_withLoops (a : Nat) (x : Tile) :
    ∃ lc ls le lrsd d q, ∀ y : Tile, x.sameLoops y → y.retireAt a = (y.withLoops lc ls le lrsd d, q) := by
  obtain ⟨lc, ls, le, lrsd, d, q, h⟩ := Tile.loopEnd_withLoops a x.ldepth x
  exact ⟨lc, ls, le, lrsd, d, q, fun y k => by unfold Tile.retireAt; rw [← k.2.2.2.2.1, h y k]⟩

theorem Tile.sameLoops_self (x : Tile) : x.sameLoops x := ⟨rfl, rfl, rfl, rfl, rfl, rfl⟩

/-- Where execution goes on does not depend on the other registers. -/
theorem Tile.retireAt_next {x y : Tile} (h : x.sameLoops y) (a : Nat) : (y.retireAt a).2 = (x.retireAt a).2 := by
  obtain ⟨lc, ls, le, lrsd, d, q, k⟩ := Tile.retireAt_withLoops a x
  rw [k y h, k x x.sameLoops_self]

/-- y agrees with x in all that retirement looks at. -/
def Tile.sameFlow (x y : Tile) : Prop := x.sameLoops y ∧ y.pc = x.pc ∧ y.rpt = x.rpt ∧ y.hu = x.hu

/-- Retirement in sequence changes what `flowFrom` names and nothing else. -/
theorem Tile.advanced_flow (cost : Nat) (y : Tile) : Tile.advanced cost y = y.flowFrom (Tile.advanced cost y) := by
  unfold Tile.advanced
  split
  · rfl
  · obtain ⟨lc, ls, le, lrsd, d, q, k⟩ := Tile.retireAt_withLoops y.pc.toNat { y with rpt := none }
    rw [k _ (Tile.sameLoops_self _)]
    rfl

/-! ### Issue -/

theorem beyond_nil {n : Nat} (h : n < 0x4000) : beyond n = [] := if_neg (by omega)

theorem State.issue_next {s : State} {t : Nat} (ht : t < 256) (he : s.executing t = true) (f : Win → Tile → Issue)
    (hc : (f (s.win t) (s.tile t)).causes = []) : s.issue t f = .next (s.retire t (f (s.win t) (s.tile t))) := by
  unfold State.issue guardWf whenHolds
  rw [if_pos (by simpa using ht), if_pos he]
  show Host.Outcome.next (s.issueResult t (f (s.win t) (s.tile t))) = _
  unfold State.issueResult
  rw [hc]
  rfl

theorem Kept.huOver {A : List Area} {w : FKey → Prop} {m : Nat → Prop} {s x : State} {t a b : Nat} (h1 : Area.msix ∈ A)
    (hk : w (fkey (Pg.awl t) PG.EVT 0)) (h : Kept A w m s x) : Kept A w m s (x.huOver t a b) := by
  unfold State.huOver
  extract_lets c
  exact Kept.ite (fun _ => h.event h1 hk) (fun _ => h)

@[simp] theorem State.huOver_tiles (s : State) (t a b : Nat) : (s.huOver t a b).tiles = s.tiles := by
  unfold State.huOver; dsimp only; split <;> simp

@[simp] theorem State.tileLife_part (s : State) (t n : Nat) : (s.tileLife t n).part = s.part := by
  unfold State.tileLife; split <;> simp
@[simp] theorem State.tileLife_present (s : State) (t n q : Nat) : (s.tileLife t n).present q = s.present q := by
  unfold State.present; rw [State.tileLife_part]
@[simp] theorem State.tileLife_tiles (s : State) (t n : Nat) : (s.tileLife t n).tiles = s.tiles := by
  unfold State.tileLife; split <;> simp

@[simp] theorem State.tileLife_get (s : State) (t n p : Nat) (f : Fld) (i : Nat) :
    (s.tileLife t n).get p f i = s.get p f i := by
  unfold State.tileLife; split <;> simp

theorem Kept.tileLife {A : List Area} {w : FKey → Prop} {m : Nat → Prop} {s x : State} {t a : Nat} (h1 : Area.life ∈ A)
    (h : Kept A w m s x) : Kept A w m s (x.tileLife t a) := by
  unfold State.tileLife
  exact Kept.ite (fun _ => h.lifeAdd h1) (fun _ => h)

theorem State.tile_eq_of_tiles {s u : State} (h : u.tiles = s.tiles) (t : Nat) : u.tile t = s.tile t := by
  unfold State.tile; rw [h]

theorem State.retire_tile (s : State) (t : Nat) (i : Issue) :
    (s.retire t i).tile t = { i.tile with pc := BitVec.ofNat 14 i.next, lastPc := (s.tile t).pc, hu := (s.tile t).hu + i.cost } := by
  have h : ∀ u : State, (s.retire t i).tiles = u.tiles → (s.retire t i).tile t = u.tile t := fun u h =>
    State.tile_eq_of_tiles h t
  rw [h (s.setTile t { i.tile with pc := BitVec.ofNat 14 i.next, lastPc := (s.tile t).pc, hu := (s.tile t).hu + i.cost })]
  · exact State.setTile_tile_same ..
  · unfold State.retire State.storeSaturated State.accumulatorClamped
    extract_lets x y s1 s2 s3
    have h3 : s3.tiles = s1.tiles := by
      simp only [s3, s2]
      split <;> simp
    split
    · simp [h3, s1, x]
    · simp [h3, s1, x]

theorem State.retire_others (s : State) (t : Nat) (i : Issue) {j : Nat} (hj : j ≠ t) :
    (s.retire t i).tile j = s.tile j := by
  have h : ∀ u : State, (s.retire t i).tiles = u.tiles → (s.retire t i).tile j = u.tile j := fun u h =>
    State.tile_eq_of_tiles h j
  rw [h (s.setTile t { i.tile with pc := BitVec.ofNat 14 i.next, lastPc := (s.tile t).pc, hu := (s.tile t).hu + i.cost })]
  · exact State.setTile_tile_ne _ _ (Ne.symm hj)
  · unfold State.retire State.storeSaturated State.accumulatorClamped
    extract_lets x y s1 s2 s3
    have h3 : s3.tiles = s1.tiles := by
      simp only [s3, s2]
      split <;> simp
    split
    · simp [h3, s1, x]
    · simp [h3, s1, x]

theorem State.retire_only (s : State) (t : Nat) (i : Issue) (h1 : i.clamp = false) (h2 : i.sat = false) :
    OnlyTile t s (s.retire t i) := by
  refine ⟨fun j hj => State.retire_others s t i hj, ?_⟩
  unfold State.retire
  rw [h1, h2]
  extract_lets x y s1 s2 s3
  exact (Kept.rfl'.setTile (by decide)).huOver (by decide) (by simp [fields])

/-- An instruction without clamp or saturation, whatever its tile becomes. -/
theorem State.issue_gives {s : State} {t : Nat} (ht : t < 256) (he : s.executing t = true) (f : Win → Tile → Issue)
    (i : Issue) (hi : f (s.win t) (s.tile t) = i) (hc : i.causes = []) (h1 : i.clamp = false) (h2 : i.sat = false) :
    Gives (s.issue t f) s t { i.tile with pc := BitVec.ofNat 14 i.next, lastPc := (s.tile t).pc, hu := (s.tile t).hu + i.cost } := by
  subst hi
  exact ⟨_, s.issue_next ht he f hc, s.retire_tile t _, s.retire_only t _ h1 h2⟩

/-- A tile that retires in sequence, as `inSequence` has it. -/
theorem Tile.inSequence_advanced {x : Tile} (hg : x.goesOn) (cost : Nat) (d : Done) (hs : x.sameFlow d.tile) :
    (x.inSequence cost [] d).causes = [] ∧ (x.inSequence cost [] d).clamp = d.clamp ∧
    (x.inSequence cost [] d).sat = d.sat ∧
    { (x.inSequence cost [] d).tile with
      pc := BitVec.ofNat 14 (x.inSequence cost [] d).next, lastPc := x.pc, hu := x.hu + (x.inSequence cost [] d).cost } =
      Tile.advanced cost d.tile := by
  obtain ⟨hl, hp, hr, hh⟩ := hs
  unfold Tile.inSequence Tile.advanced
  rw [hr]
  by_cases h : 1 < (x.rpt.getD ⟨0⟩).left
  · rw [if_pos h, if_pos h]
    refine ⟨rfl, rfl, rfl, ?_⟩
    simp [hp, hh]
  · rw [if_neg h, if_neg h]
    have hn : (Tile.retireAt { d.tile with rpt := none } x.pc.toNat).2 = (x.retireAt x.pc.toNat).2 :=
      Tile.retireAt_next (x := x) (y := { d.tile with rpt := none }) hl _
    have hlt : (x.retireAt x.pc.toNat).2 < 0x4000 := by
      rcases hg with g | g
      · exact absurd g h
      · exact g
    refine ⟨?_, rfl, rfl, ?_⟩
    · dsimp only
      rw [hn, beyond_nil hlt]
      rfl
    · dsimp only
      rw [← hp, ← hh]

/-- An instruction in sequence that neither clamps nor saturates. -/
theorem State.issue_inSequence {s : State} {t : Nat} (h : s.canIssue t) (f : Win → Tile → Issue) (cost : Nat) (y : Tile)
    (hf : f (s.win t) (s.tile t) = (s.tile t).inSequence cost [] (plain y)) (hs : (s.tile t).sameFlow y) :
    Gives (s.issue t f) s t (Tile.advanced cost y) := by
  obtain ⟨ht, he, hg⟩ := h
  obtain ⟨a, b, c, d⟩ := Tile.inSequence_advanced hg cost (plain y) hs
  have := s.issue_gives ht he f _ hf a b c
  rw [d] at this
  exact this

/-- A present tile's accumulator source is there to be raised. -/
theorem State.awlAov_present {s : State} {t : Nat} (ht : t < 256) (h : s.present (Pg.awl t) = true) :
    s.srcPresent Src.awlAov t = true := by
  have hc : ∀ t < 256, presentOn .ca (Pg.awl t) = true → t < 128 := by decide +kernel
  have : t < s.tileCount := by
    unfold State.tileCount
    split
    · rename_i e; unfold State.present at h; rw [e] at h; exact hc t ht h
    · exact ht
  simpa [State.srcPresent, Src.awlAov, Src.all] using decide_eq_true this

/-- What an instruction's retirement does to its tile leaves the pages where they are. -/
theorem State.retired_present {s : State} {t : Nat} (x : Tile) (a b q : Nat) :
    ((s.setTile t x).huOver t a b).present q = s.present q := by
  unfold State.huOver; dsimp only; split <;> simp

/-- One that clamps an accumulator. -/
theorem State.issue_clamp {s : State} {t : Nat} (h : s.canIssue t) (f : Win → Tile → Issue) (cost : Nat) (y : Tile)
    (hf : f (s.win t) (s.tile t) = (s.tile t).inSequence cost [] ⟨y, true, false⟩) (hs : (s.tile t).sameFlow y) :
    GivesClamp (s.issue t f) s t (Tile.advanced cost y) := by
  obtain ⟨ht, he, hg⟩ := h
  obtain ⟨a, b, c, d⟩ := Tile.inSequence_advanced hg cost ⟨y, true, false⟩ hs
  rw [← hf] at a b c d
  have hp : s.present (Pg.awl t) = true := by
    simp only [State.executing, Bool.and_eq_true] at he; exact he.1
  have hr : ¬ reactive (Pg.awl t) := by unfold reactive Pg.awl Pg.cinch; omega
  refine ⟨_, s.issue_next ht he f a, ?_, fun j hj => State.retire_others s t _ hj, ?_, ?_, ?_, ?_⟩
  · rw [State.retire_tile, d]
  · unfold State.retire State.accumulatorClamped
    rw [b, c]
    extract_lets x y s1 s2 s3
    simp only [s3, if_true, Bool.false_eq_true, if_false]
    rw [State.get_raise _ _ _ (by unfold reactive Pg.awl Pg.cinch; omega) (by decide), State.tileLife_get,
      State.get_event_off _ _ _ (by decide), State.get_count_same]
    have : s2.get (Pg.awl t) AWL.AOV_COUNT = s.get (Pg.awl t) AWL.AOV_COUNT :=
      ((Kept.rfl'.setTile (by decide)).huOver (by decide) (by simp [fields]) :
        Kept [.tiles, .msix] (fields [fkey (Pg.awl t) PG.EVT 0]) noByte s s2).get (by simp [fields, fkey, PG.EVT, AWL.AOV_COUNT])
    rw [this]
    rfl
  · unfold State.retire State.accumulatorClamped
    rw [b, c]
    extract_lets x y s1 s2 s3
    simp only [s3, if_true, Bool.false_eq_true, if_false]
    refine State.raise_noted _ _ _ hr 0 (by decide) ?_
    rw [State.tileLife_get]
    exact State.evt_event_same (by simp only [State.count_present, s2, s1]; rw [State.retired_present]; exact hp) 0 (by decide)
  · unfold State.retire State.accumulatorClamped
    rw [b, c]
    extract_lets x y s1 s2 s3
    simp only [s3, if_true, Bool.false_eq_true, if_false]
    exact State.raise_active _ _ _ (State.awlAov_present ht (by
      simp only [State.tileLife_present, State.event_present, State.count_present, s2, s1]
      rw [State.retired_present]; exact hp))
  · unfold State.retire State.accumulatorClamped
    rw [b, c]
    extract_lets x y s1 s2 s3
    simp only [s3, if_true, Bool.false_eq_true, if_false]
    refine Kept.raise (by decide) (fun k hk => .inr hk) (Kept.tileLife (by decide) (Kept.event (by decide) (.inr (.inl rfl))
      (Kept.count (.inl (by simp)) ?_)))
    exact (Kept.rfl'.setTile (by decide)).huOver (by decide) (.inr (.inl rfl))

/-- One that stores a saturated word. -/
theorem State.issue_sat {s : State} {t : Nat} (h : s.canIssue t) (f : Win → Tile → Issue) (cost : Nat) (y : Tile)
    (hf : f (s.win t) (s.tile t) = (s.tile t).inSequence cost [] ⟨y, false, true⟩) (hs : (s.tile t).sameFlow y) :
    GivesSat (s.issue t f) s t (Tile.advanced cost y) := by
  obtain ⟨ht, he, hg⟩ := h
  obtain ⟨a, b, c, d⟩ := Tile.inSequence_advanced hg cost ⟨y, false, true⟩ hs
  rw [← hf] at a b c d
  have hp : s.present (Pg.awl t) = true := by
    simp only [State.executing, Bool.and_eq_true] at he; exact he.1
  refine ⟨_, s.issue_next ht he f a, ?_, fun j hj => State.retire_others s t _ hj, ?_, ?_, ?_⟩
  · rw [State.retire_tile, d]
  · unfold State.retire State.storeSaturated
    rw [b, c]
    extract_lets x y s1 s2 s3
    simp only [s3, if_true, Bool.false_eq_true, if_false]
    rw [State.get_event_off _ _ _ (by decide), State.get_count_same]
    have : s2.get (Pg.awl t) AWL.SAT_COUNT = s.get (Pg.awl t) AWL.SAT_COUNT :=
      ((Kept.rfl'.setTile (by decide)).huOver (by decide) (by simp [fields]) :
        Kept [.tiles, .msix] (fields [fkey (Pg.awl t) PG.EVT 0]) noByte s s2).get (by simp [fields, fkey, PG.EVT, AWL.SAT_COUNT])
    rw [this]
    rfl
  · unfold State.retire State.storeSaturated
    rw [b, c]
    extract_lets x y s1 s2 s3
    simp only [s3, if_true, Bool.false_eq_true, if_false]
    exact State.evt_event_same (by simp only [State.count_present, s2, s1]; rw [State.retired_present]; exact hp) 1 (by decide)
  · unfold State.retire State.storeSaturated
    rw [b, c]
    extract_lets x y s1 s2 s3
    simp only [s3, if_true, Bool.false_eq_true, if_false]
    refine Kept.event (by decide) (by simp [fields]) (Kept.count (by simp [fields]) ?_)
    exact (Kept.rfl'.setTile (by decide)).huOver (by decide) (by simp [fields])

/-! ### Changes of a tile that leave its flow -/

theorem Tile.sameFlow_self (x : Tile) : x.sameFlow x := ⟨x.sameLoops_self, rfl, rfl, rfl⟩

variable {x y : Tile}

theorem Tile.sameFlow.setG (h : x.sameFlow y) {n : BitVec 5} {v : Word} : x.sameFlow (y.setG n v) := h
theorem Tile.sameFlow.setP (h : x.sameFlow y) {n : BitVec 3} {v : BitVec 15} : x.sameFlow (y.setP n v) := h
theorem Tile.sameFlow.setM (h : x.sameFlow y) {n : BitVec 3} {v : BitVec 16} : x.sameFlow (y.setM n v) := h
theorem Tile.sameFlow.setL (h : x.sameFlow y) {n : BitVec 3} {v : BitVec 15} : x.sameFlow (y.setL n v) := h
theorem Tile.sameFlow.setA (h : x.sameFlow y) {n : BitVec 2} {v : Acc80} : x.sameFlow (y.setA n v) := h
theorem Tile.sameFlow.setClamp (h : x.sameFlow y) {n : BitVec 2} {v : Bool} : x.sameFlow (y.setClamp n v) := h
theorem Tile.sameFlow.accLoad (h : x.sameFlow y) {n : BitVec 2} {v : Int} : x.sameFlow (y.accLoad n v) := h
theorem Tile.sameFlow.withAov (h : x.sameFlow y) {v : Bool} : x.sameFlow { y with aov := v } := h
theorem Tile.sameFlow.markSat (h : x.sameFlow y) {v : Bool} : x.sameFlow (y.markSat v) := h
theorem Tile.sameFlow.flags (h : x.sameFlow y) {r : Word} {v c : Bool} : x.sameFlow (y.flags r v c) := h
theorem Tile.sameFlow.writeX (h : x.sameFlow y) {w : Win} {a : BitVec 15} {v : Word} : x.sameFlow (y.writeX w a v) := h
theorem Tile.sameFlow.stepP (h : x.sameFlow y) {n : BitVec 3} {v : Int} : x.sameFlow (y.stepP n v) := h

theorem Tile.sameFlow.ite (h : x.sameFlow y) {z : Tile} (k : x.sameFlow z) {c : Prop} [Decidable c] :
    x.sameFlow (if c then y else z) := by
  split
  · exact h
  · exact k

theorem Tile.sameFlow.writeMem (h : x.sameFlow y) {w : Win} {a : BitVec 15} {v : Word} : x.sameFlow (y.writeMem w a v) := by
  unfold Tile.writeMem
  split
  · exact h
  · exact h

theorem Tile.sameFlow.post (h : x.sameFlow y) {on : Bool} {n : BitVec 3} : x.sameFlow (y.post on n) := by
  unfold Tile.post
  split
  · exact h
  · exact h

theorem Tile.sameFlow.post2 (h : x.sameFlow y) {a b : Bool} {n k : BitVec 3} : x.sameFlow (y.post2 a n b k) := by
  unfold Tile.post2
  split
  · exact h.post
  · exact h.post.post

/-- An accumulation, case by case. -/
theorem State.issue_accumulates {s : State} {t : Nat} (h : s.canIssue t) (f : Win → Tile → Issue) (cost : Nat)
    (k : BitVec 2) (v : Int) (g : Tile → Tile)
    (hf : f (s.win t) (s.tile t) = (s.tile t).inSequence cost [] (((s.tile t).accAdd k (v - ((s.tile t).aReg k).toInt)).on g))
    (hg : ∀ y, (s.tile t).sameFlow y → (s.tile t).sameFlow (g y)) : Accumulates (s.issue t f) s t cost k v g := by
  have he : ((s.tile t).aReg k).toInt + (v - ((s.tile t).aReg k).toInt) = v := by omega
  unfold Tile.accAdd Tile.clamped at hf
  rw [he] at hf
  refine ⟨fun hc => ?_, fun hc h1 h2 => ?_, fun hc h1 => ?_, fun hc h1 => ?_⟩
  · rw [if_pos hc] at hf
    exact s.issue_inSequence h f cost _ hf (hg _ (Tile.sameFlow_self _))
  all_goals rw [if_neg (by rw [hc]; decide)] at hf; unfold Tile.accSet at hf
  · rw [if_pos (by unfold fits80; simp; omega)] at hf
    exact s.issue_inSequence h f cost _ hf (hg _ (Tile.sameFlow_self _).setA)
  · rw [if_neg (by unfold fits80; simp; omega), extreme80, if_pos (by omega)] at hf
    exact s.issue_clamp h f cost _ hf (hg _ (Tile.sameFlow_self _).setA.setClamp.withAov)
  · rw [if_neg (by unfold fits80; simp; omega), extreme80, if_neg (by omega)] at hf
    exact s.issue_clamp h f cost _ hf (hg _ (Tile.sameFlow_self _).setA.setClamp.withAov)

end Sys2Proof.Machine
end

