-- ==== Sys2Proof/Laws/Memory.lean ====
section
/-!
SUPPORT. The operations that write memory keep its canonical form.
-/

namespace Sys2Proof.Machine

theorem State.setByte_wf {s : State} (h : Memory.wf s.mem = true) (a : Nat) (b : Byte) :
    Memory.wf (s.setByte a b).mem = true := nput_wf memDefault s.mem a b h

theorem State.setBytes_wf {s : State} (h : Memory.wf s.mem = true) (a : Nat) (l : List Byte) :
    Memory.wf (s.setBytes a l).mem = true := by
  induction l generalizing s a with
  | nil => exact h
  | cons b l ih => exact ih (State.setByte_wf h a b) (a + 1)

theorem State.setStrobed_wf {s : State} (h : Memory.wf s.mem = true) (a : Nat) (l : List Byte) (on : List Bool) :
    Memory.wf (s.setStrobed a l on).mem = true := by
  induction l generalizing s a on with
  | nil => unfold State.setStrobed; exact h
  | cons b l ih =>
    cases on with
    | nil => exact ih (State.setByte_wf h a b) (a + 1) []
    | cons o on =>
      unfold State.setStrobed
      split
      · exact ih (State.setByte_wf h a b) (a + 1) on
      · exact ih h (a + 1) on

/-- Leaving out entries of a canonical map leaves one. -/
theorem SMap.wf_filter {κ α : Type} [DecidableEq α] (ord : κ → Nat) (d : κ → α) (m : SMap κ α) (f : κ × α → Bool)
    (h : SMap.wf ord d m = true) : SMap.wf ord d (m.filter f) = true := by
  rw [SMap.wf_iff] at h ⊢
  exact ⟨List.Pairwise.filter f h.1, fun e he => h.2 e (List.mem_of_mem_filter he)⟩

theorem State.zeroRange_wf {s : State} (h : Memory.wf s.mem = true) (o n : Nat) :
    Memory.wf (s.zeroRange o n).mem = true := SMap.wf_filter id (fun _ => memDefault) s.mem _ h

end Sys2Proof.Machine
end

