-- ==== Sys2Proof/Tests/Slice0.lean ====
section
/-!
SUPPORT. Tests: for every statement with hypotheses, states and operands that meet them, clause by clause; ill-formed
commands that WellFormed refuses; and worked examples of the spec.
-/

namespace Sys2Proof.Tests

open Sys2Proof.Machine

set_option Elab.async false

/-! ### States that the witnesses are built from -/

/-- Firmware runs and bring-up has ended. -/
def up : State :=
  ((State.reset.set Pg.host HOST.BOOT_STAT_FW_STATE 2).set Pg.host HOST.BRINGUP_READY 1).onCtrl fun c =>
    { c with resetN := true }

/-! A plan of two tiles in one domain, with a relocatable unit, and states around it. -/

def U1 : PlanUnit := ⟨7, 300, 2, true, [0], [⟨4,[1],[(0,5)],[],[],[(1,2)]⟩]⟩
def T3 : PlanTile := ⟨3,0,5,1000,0,0,[11],[10],.keep,[U1],[(0,7)],[(0,1)],[],[],[(5,9)]⟩
def T4 : PlanTile := ⟨4,0,6,2000,0,0,[12],[13,14],.keep,[],[],[],[],[],[]⟩
def T5 : PlanTile := ⟨5,0,6,2000,0,0,[12],[15],.warm,[],[],[],[],[],[]⟩
def P1 : Plan := {
    ident := 1, pred := none, domains := [⟨0,1,1⟩], tiles := [T3,T4], routes := [(11,10)], endpoints :=
    [(20,0)], flowIn := [], flowOut := [], buses := [], members := [], monitors := [], bridges := [], saps :=
    [], d2Source := none, loops := [], groups := [(1,[10])], streams := [], flows := [], macs := [], buffers
    := [], blocks := [] }
def P2 : Plan := { P1 with ident := 2, pred := some 1, tiles := [T3,T4,T5] }
def Pone : Plan := { P1 with tiles := [T3] }
def en (l : List Nat) (s : State) : State := l.foldl (fun s p => (s.set p PG.CTRL_EN 1).set p PG.STAT_QUIESCED 0) s
def sp (s : State) : State := [3,4,5].foldl (fun s t => s.set Pg.fabric FABRIC.TILE_SPEED_SPEED 1400 t) s
def b0 : State := sp (en [0x200,0x210,0x010] up)
def runs (p : Plan) (s : State) : State :=
  let s := p.tiles.foldl (fun s x => s.placeTile x) s
  let s := ((s.set Pg.fabric (FABRIC.DOM_CFG_ACTIVE 0) 1).set Pg.fabric (FABRIC.DOM_CFG_RATE 0) 1).set Pg.fabric (FABRIC.DOM_CFG_BSIZE 0) 1
  (s.set Pg.fabric FABRIC.PLAN_STAT_ACTIVE_VALID 1).onFabric fun f => { f with running := some p }
def run1 : State := runs P1 b0
def nx (o : Machine.Outcome) : State := match o with | .next u => u | _ => State.reset
def ld : State := nx (execPlanLoad 7 0x1000 100 1 b0)
def ld2 : State := nx (execPlanLoadDone ⟨true,100,true,P2⟩ ld)
def adm : State := nx (execPlanAdmit 7 1 ld2)
def run1b : State := (run1.setSlot 1 (some P2)).setAdmitted 1 true
def sw : State := nx (execCommitAtPlanSwap 7 0x0102 1 0 run1b)
def swbad : State := sw.set Pg.fabric FABRIC.TILE_SPEED_SPEED 1 5
def tk (n d : Nat) (s : State) : State :=
  { s with now := s.now + 416667 * n }.setDom d { s.dom d with count := n, tickAt := s.now + 416667 * n }
def warm1 : State := tk 3 0 (nx (execWarmTileLoaded 5 sw))
def xf : State := { tk 2 0 run1 with fabric := { (tk 2 0 run1).fabric with warmFades := [⟨0,100,100,[3],[4]⟩] } }
def esc1 : State := (tk 2 0 run1).set Pg.fabric FABRIC.TILE_STAT_CONSEC_MISS 9 3
def avs (s : State) := s.set Pg.fabric FABRIC.MARGIN_CTRL_AVS_EN 1
def esc2 : State := nx (execEscalationTrigger 3 (avs esc1))
def esc3 : State := nx (execAvsAck 780 esc2)
def esc4 : State := nx (execAvsSettleDone esc3)
def esc5 : State := esc4.onFabric fun f => { f with escs := f.escs.map fun e => (e.1, { e.2 with seen := List.replicate 8 true }) }
def rel0 : State := (tk 2 0 run1).startReloc 3 U1 4 false
def rel1 : State := rel0.beginReloc ⟨7,3,4,false,.due⟩
def rel2 : State := nx (execRelocCopyDone 7 rel1)
def rel3 : State := rel2.setPhase 7 (.shadow 100)
def rel4 : State := rel3.setPhase 7 (.fade 5000)
def shed1 : State := let s := (tk 2 0 run1).shedClass 3 2; { s with now := 200*625000000 }

/-- No security version fused into a die exceeds 0xFFFF. -/
theorem verdict_ok {b : BootView} {x : Slot} {i : ImgInfo}
    (h : (match x with | .a => b.slotA | .b => b.slotB) = .ok i ∧ i.secver = 0xFFFF ∧ i.bytes.length ≤ Mem.sramSize) :
    verdictOf b x = .ok i := by
  have hf : ¬ i.secver.toNat < Config.fusedMin.toNat := by
    have := Config.fusedMin.isLt
    rw [h.2.1]
    simp
    omega
  have hl : ¬ Mem.sramSize < i.bytes.length := by omega
  unfold verdictOf
  cases x <;> simp only at h <;> rw [h.1] <;> simp only [judged, if_neg hl, if_neg hf]

theorem no_vault {s : State} (h : s.vaultFailed = 0 ∧ s.vaultMap = 0) (m o : Nat) : s.vaultDenies m o = false := by
  unfold State.vaultDenies
  rw [h.1, h.2]
  split <;> simp

theorem no_wait {s : State} (h : s.girth.banks = []) (b : Nat) : (s.bank b).waiting = [] := by
  simp only [State.bank, h]
  rfl

theorem no_ctx {s : State} {P : Nat × FlowCtx → Prop} (h : s.flow.ctxs = []) : ∀ e ∈ s.flow.ctxs, P e := by
  simp [h]

theorem fourth {a b c v w r : Prop} (hv : v) (hw : w) (h : a ∧ b ∧ c ∧ r) : a ∧ b ∧ c ∧ v ∧ w ∧ r :=
  ⟨h.1, h.2.1, h.2.2.1, hv, hw, h.2.2.2⟩

/-! ### Pages and registers -/

namespace W10

def enAll (s : State) : State := [0x006,0x010,0x020,0x028,0x040,0x048,0x200,0x210,0x220,0x230,
    0x240].foldl (fun s p => (s.set p PG.CTRL_EN 1).set p PG.STAT_QUIESCED 0) s
def drAll (s : State) : State := [0x101,0x006,0x010,0x020,0x028,0x040,0x048,0x200,0x210,0x220,0x230,
    0x240].foldl (fun s p => (s.set p PG.CTRL_DRAIN 1)) s
def S : List State := [up.set Pg.host HOST.MBX_STAT_BUSY 1, State.reset, up, { enAll up with part := .ca }, enAll up,
    drAll up, (up.set 0x101 PG.CTRL_EN 0).set 0x101 PG.STAT_QUIESCED 1,
    (drAll up).set Pg.life LIFE.REC_STAT_WRITING 1]
def nth (i : Nat) : State := (S).getD i .reset

theorem meets_IdleCycle :
    ∃ (s : Machine.State), s.pending = [] :=
  ⟨(nth 0), by decide +kernel⟩

theorem meets_MemoryKept :
    ∃ (s : Machine.State) (u : Machine.State), Memory.wf s.mem = true ∧ step s = Host.Outcome.next u :=
  ⟨.reset, _, by decide, rfl⟩

theorem meets_PartKept :
    ∃ (s : Machine.State) (u : Machine.State), step s = Host.Outcome.next u :=
  ⟨.reset, _, rfl⟩

theorem meets_AbsentPages :
    ∃ (s : Machine.State) (off : ℕ), off < 2 ^ 26 ∧ off % 4 = 0 ∧ s.present (off / 4096) = false :=
  ⟨(nth 0), 12288, by decide +kernel⟩

theorem meets_RefusedAccesses :
    (∃ (off : ℕ) (size : ℕ), off < 2 ^ 26 ∧ ¬(size = 4 ∧ off % 4 = 0) ∧ ¬(size = 8 ∧ off % 8 = 0)) ∧
    (∃ (s : Machine.State) (m : Master) (off : ℕ), mailboxOffset off = true ∧ s.flag Pg.host HOST.MBX_STAT_BUSY =
      true ∧ s.takes m Pg.host) ∧
    (∃ (s : Machine.State) (op : BitVec 8), (op.toNat = 0 ∨ 12 < op.toNat) ∧ s.flag Pg.host HOST.MBX_STAT_BUSY =
      false) ∧
    (∃ (s : Machine.State) (op : BitVec 8), (op.toNat = 0 ∨ 12 < op.toNat) ∧ s.flag Pg.host HOST.MBX_STAT_BUSY =
      true) :=
  And.imp (fun h => ⟨0, 0, h⟩)
   (And.imp (fun h => ⟨(nth 0), .host, 1028, h⟩)
   (And.imp (fun h => ⟨(nth 1), 0x00#8, h⟩)
   (fun h => ⟨(nth 0), 0x00#8, h⟩))) (by decide +kernel)

theorem meets_RegisterAccess_1 :
    (∃ (s : Machine.State) (off : ℕ), off < 2 ^ 26 ∧ off % 4 = 0 ∧ s.present (off / 4096) = true ∧ s.readWaits
      off = false) ∧
    (∃ (s : Machine.State) (off : ℕ), off < 2 ^ 26 ∧ off % 8 = 0 ∧ s.present (off / 4096) = true ∧ readActs (off
      / 4096) (off % 4096) = false ∧ readActs (off / 4096) (off % 4096 + 4) = false) ∧
    (∃ (s : Machine.State) (d : ℕ), d = s.get (Pg.flow 0) FLOW.DOM_SEL_DOMAIN ∧ s.present (Pg.flow 0) = true ∧ d
      < 2) ∧
    (∃ (s : Machine.State) (off : ℕ), off < 2 ^ 26 ∧ off % 4 = 0 ∧ s.present (off / 4096) = true) ∧
    (∃ (s : Machine.State) (m : Master) (p : ℕ), p < 16384 ∧ s.takes m p) :=
  And.imp (fun h => ⟨(nth 0), 0, h⟩)
   (And.imp (fun h => ⟨(nth 0), 0, h⟩)
   (And.imp (fun h => ⟨(nth 0), 0, h⟩)
   (And.imp (fun h => ⟨(nth 0), 0, h⟩)
   (fun h => ⟨(nth 0), .host, 0, h⟩)))) (by decide +kernel)

theorem meets_RegisterAccess_2 :
    (∃ (s : Machine.State) (m : Master), s.takes m Pg.host) ∧
    (∃ (s : Machine.State) (m : Master), s.takes m Pg.harness ∧ s.locked Pg.harness = false) :=
  And.imp (fun h => ⟨(nth 0), .host, h⟩)
   (fun h => ⟨(nth 0), .host, h⟩) (by decide +kernel)

theorem meets_Enabling_1 :
    (∃ (s : Machine.State) (m : Master) (p : ℕ) (c : Instr), p < 16384 ∧ s.takes m p ∧ unitOf p = UnitKind.fixed
      ∧ c ∈ [Instr.enSet m p, Instr.drain m p, Instr.kill m p, Instr.srst m p]) ∧
    (∃ (s : Machine.State) (m : Master) (p : ℕ), p < 16384 ∧ s.takes m p ∧ unitOf p ≠ UnitKind.fixed ∧ s.flag p
      PG.CTRL_DRAIN = false ∧ s.flag p PG.CTRL_EN = true) ∧
    (∃ (s : Machine.State) (m : Master) (p : ℕ), p < 16384 ∧ s.takes m p ∧ unitOf p ≠ UnitKind.fixed ∧ s.flag p
      PG.CTRL_DRAIN = false ∧ s.flag p PG.CTRL_EN = false) ∧
    (∃ (s : Machine.State) (m : Master) (p : ℕ), p < 16384 ∧ s.takes m p ∧ unitOf p ≠ UnitKind.fixed ∧ s.flag p
      PG.CTRL_DRAIN = true ∧ p ∉ s.ctrl.resetting ∧ s.unitIdle p = false) ∧
    (∃ (s : Machine.State) (m : Master) (p : ℕ), p < 16384 ∧ s.takes m p ∧ unitOf p ≠ UnitKind.fixed ∧ s.flag p
      PG.CTRL_DRAIN = true ∧ p ∉ s.ctrl.resetting ∧ s.unitIdle p = true) :=
  And.imp (fun h => ⟨(nth 0), .host, 46, (Instr.enSet .host 46), h⟩)
   (And.imp (fun h => ⟨(nth 0), .host, 8, h⟩)
   (And.imp (fun h => ⟨(nth 0), .host, 6, h⟩)
   (And.imp (fun h => ⟨(nth 7), .host, 6, h⟩)
   (fun h => ⟨(nth 5), .host, 6, h⟩)))) (by decide +kernel)

theorem meets_Enabling_2 :
    (∃ (s : Machine.State) (m : Master) (p : ℕ) (t : ℕ), p < 16384 ∧ s.takes m p ∧ t < 256 ∧ p = Pg.awl t ∧
      s.flag p PG.CTRL_DRAIN = false ∧ s.flag p PG.CTRL_EN = false) ∧
    (∃ (s : Machine.State) (m : Master) (p : ℕ) (t : ℕ), p < 16384 ∧ s.takes m p ∧ t < 256 ∧ p = Pg.awl t ∧
      s.flag p PG.CTRL_DRAIN = false ∧ s.flag p PG.CTRL_EN = true) ∧
    (∃ (s : Machine.State) (m : Master) (p : ℕ) (t : ℕ), p < 16384 ∧ s.takes m p ∧ t < 256 ∧ p = Pg.awl t ∧
      s.flag p PG.CTRL_DRAIN = false ∧ p ∉ s.ctrl.resetting) ∧
    (∃ (s : Machine.State) (m : Master) (p : ℕ) (t : ℕ), p < 16384 ∧ s.takes m p ∧ t < 256 ∧ p = Pg.awl t ∧
      s.flag p PG.CTRL_DRAIN = false ∧ s.flag p PG.STAT_QUIESCED = true ∧ s.planTile t = none) ∧
    (∃ (s : Machine.State) (m : Master) (p : ℕ) (t : ℕ), p < 16384 ∧ s.takes m p ∧ t < 256 ∧ p = Pg.awl t ∧
      s.flag p PG.CTRL_DRAIN = true ∧ (s.tile t).pass.pendingPass = false ∧ p ∉ s.ctrl.resetting ∧ s.flag p
      PG.STAT_EN_PENDING = false) :=
  And.imp (fun h => ⟨(nth 6), .host, 257, 1, h⟩)
   (And.imp (fun h => ⟨(nth 0), .host, 257, 1, h⟩)
   (And.imp (fun h => ⟨(nth 0), .host, 257, 1, h⟩)
   (And.imp (fun h => ⟨(nth 6), .host, 257, 1, h⟩)
   (fun h => ⟨(nth 5), .host, 257, 1, h⟩)))) (by decide +kernel)

theorem meets_EventRegisters :
    (∃ (s : Machine.State) (m : Master) (p : ℕ) (off : ℕ), p < 16384 ∧ s.takes m p ∧ off < 65536 ∧ off % 4 = 0) ∧
    (∃ (s : Machine.State) (m : Master) (p : ℕ) (k : ℕ) (w : ℕ), p < 16384 ∧ s.takes m p ∧ k < 64 ∧ w < 4) :=
  And.imp (fun h => ⟨(nth 0), .host, 0, 0, h⟩)
   (fun h => ⟨(nth 0), .host, 0, 0, 0, h⟩) (by decide +kernel)

theorem meets_PageLock :
    (∃ (s : Machine.State) (m : Master) (p : ℕ) (v : Word), p < 16384 ∧ s.takes m p ∧ v ≠ 1 ∧ v ≠ 42480 ∧ v ≠
      3930) ∧
    (∃ (s : Machine.State) (m : Master) (p : ℕ), p < 16384 ∧ s.takes m p ∧ lifeWide p (s.get p PG.LIFE_IDX_INDEX)
      = false) :=
  And.imp (fun h => ⟨(nth 0), .host, 0, 0x00000000#32, h⟩)
   (fun h => ⟨(nth 0), .host, 0 , h⟩) (by decide +kernel)

end W10

/-! ### The Harness -/

namespace W10b

def rq (m a len : Nat) (w : Bool) : HReq := ⟨m, 3, a, len, w, List.replicate (if w then len else 0) 5, [], false, 0, false⟩
def R : List HReq := [rq 7 0x10 4 false, rq 7 0x10 4 true, rq 7 0x400010 8 true, rq 11 0x40000000 16 true,
    rq 2 0x40000000 16 false, rq 7 0x10000040 4 false, rq 7 0x800000100 64 true, rq 3 0x99999 4 true]
def rr (n : Nat) : HReq := R.getD n (rq 0 0 0 false)
def q (s : State) (r : HReq) : State := match exec (.harnessRequest r) s with | .next u => u | _ => s
def g (s : State) (p : Nat) : State := match exec (.harnessGrant p []) s with | .next u => u | _ => s
def mp (s : State) : State := s.set Pg.harness HARNESS.DRAM_MAP_SIZE0 16
def S : List State := [up, q up (rr 0), q (q (mp up) (rr 2)) (rr 3), g (q (mp up) (rr 2)) Port.sram,
    g (q up (rr 4)) 0, q (q (mp up) (rr 5)) (rr 6), (up.resetMaster 7), (q up (rr 0)).resetMaster 7,
    {(up.onCtrl fun c => { c with done := [⟨1,2,3⟩,⟨4,5,6⟩], held := [⟨7,8,9⟩]}) with part:=.ca}]
def nth (i : Nat) : State := (S).getD i .reset
def poolHReq : List (HReq) := R
def poolTxn : List (Txn) := S.flatMap fun s => s.harness.txns

theorem meets_DoneQueue :
    (∃ (s : Machine.State), s.ctrl.done = []) ∧
    (∃ (s : Machine.State) (r : DoneRec) (l : List DoneRec), s.ctrl.done = r :: l) ∧
    (∃ (s : Machine.State) (r : DoneRec) (l : List DoneRec), s.ctrl.held = r :: l ∧ s.ctrl.done.length < 8) :=
  And.imp (fun h => ⟨(nth 0), h⟩)
   (And.imp (fun h => ⟨(nth 8), { op := 0x01#8, tag := 0x02#8, status := 0x03#8 }, [{ op := 0x04#8, tag := 0x05#8, status := 0x06#8 }], h⟩)
   (fun h => ⟨(nth 8), { op := 0x07#8, tag := 0x08#8, status := 0x09#8 }, [], h⟩)) (by decide +kernel)

theorem meets_HarnessRequests_1 :
    ∃ (s : Machine.State) (r : HReq) (port : ℕ), goodRequest r = true ∧ s.mayIssue r.master = true ∧
      s.decodePort r = some port ∧ refusedKind port r = false :=
  ⟨(nth 0), (poolHReq.get ⟨0, by decide +kernel⟩), 35, by decide +kernel⟩

theorem meets_HarnessRequests_2 :
    ∃ (s : Machine.State) (r : HReq) (port : ℕ), goodRequest r = true ∧ s.mayIssue r.master = true ∧
      s.decodePort r = some port ∧ refusedKind port r = true :=
  ⟨(nth 0), (poolHReq.get ⟨1, by decide +kernel⟩), 35, by decide +kernel⟩

theorem meets_HarnessRequests_3 :
    ∃ (s : Machine.State) (port : ℕ), port ≤ Port.sram ∧ s.portFree port = true ∧ s.winner port = none :=
  ⟨(nth 0), 0, by decide +kernel⟩

theorem meets_HarnessRequests_4 :
    ∃ (s : Machine.State) (port : ℕ) (i : ℕ) (w : Txn), port ≤ Port.sram ∧ s.portFree port = true ∧ s.winner
      port = some (i, w) ∧ s.grantWaits port w.req = false :=
  ⟨(nth 1), 35, 0, (poolTxn.get ⟨0, by decide +kernel⟩), by decide +kernel⟩

theorem meets_HarnessWindow_1 :
    ∃ (s : Machine.State) (write : Bool) (off : ℕ) (len : ℕ) (data : List Byte), 1 ≤ len ∧ off + len ≤ 2 ^ 30 ∧
      (write = true → data.length = len) ∧ s.mayIssue 11 = true ∧ s.harness.held = [] ∧ (s.ctrl.winBase + off) %
      4096 + len ≤ 4096 :=
  ⟨(nth 0), false, 0, 1, [], by decide +kernel⟩

theorem meets_HarnessWindow_2 :
    ∃ (s : Machine.State) (master : ℕ) (id : ℕ) (t : Txn), List.find? (fun (t : Txn) => t.req.master == master
      && t.req.id == id && t.granted && decide (t.port ≠ Port.none) && decide (t.beats = 0)) s.harness.txns =
      some t ∧ inRange 32 t.port 33 = false :=
  ⟨(nth 3), 7, 3, ((List.find? (fun (t : Txn) => t.req.master == 7 && t.req.id == 3 && t.granted && decide (t.port ≠ Port.none) && decide (t.beats = 0)) (nth 3).harness.txns).get (by decide +kernel)), by decide +kernel⟩

theorem meets_HarnessWindow_3 :
    (∃ (master : ℕ), master < 13) ∧
    (∃ (s : Machine.State) (master : ℕ), master < 13 ∧ s.masterInReset master = true ∧ s.harness.held = [] ∧ ∀ (t
      : Txn), t ∈ s.harness.txns → t.req.master = master → t.dramWrite = false) :=
  And.imp (fun h => ⟨0, h⟩)
   (fun h => ⟨(nth 6), 7 , h⟩) (by decide +kernel)

end W10b

/-! ### Instructions of the tiles -/

namespace W20

def fen2 : State := up.setTile 3 { up.tile 3 with pass := .running } |>.set (Pg.awl 3) AWL.WIN_CH_NIN 4 |>.set (Pg.awl 3) AWL.WIN_CH_NOUT 4
def tl (f : Tile → Tile) : State := fen2.setTile 3 (f (fen2.tile 3))
def S : List State := [fen2, tl fun x => { x with rpt := some ⟨3⟩ },
    tl fun x => { x with ldepth := 2, le := [(0,x.pc),(1,x.pc+9)], lc := [(0,5)], rsd := 3, ret := [(2,0x100)] },
    tl fun x => { x with ldepth := 1, le := [(0,x.pc)], lc := [(0,5)] },
    tl fun x => { x with pass := .missedRunning }, tl fun x => { x with clamp := 15 },
    tl fun x => { x with g := [(1,0x7FFFFFFF),(2,0x80000000),(3,5)], acc := [(1,BitVec.ofInt 80 (2^75)),(2,BitVec.ofInt 80 (-2^75))] },
    tl fun x => { x with clamp := 2 },
    tl fun x => { x with g := [(1,0x7FFFFFFF),(2,0x80000000),(3,5)], p := [(1,0x4000),(2,0x6000)], fz := true },
    tl fun x => { x with g := [(1,0x7FFFFFFF),(2,0x80000000)], p := [(1,0x4000),(2,0x6000)], y := [(0,0x7FFFFFFF),(1,0x7FFFFFFF),(2,0x7FFFFFFF)] }]
def nth (i : Nat) : State := (S).getD i .reset
def poolTile : List (Tile) := S.map fun s => s.tile 3

theorem meets_AwlAdvance_1 :
    ∃ (x : Tile), x.rpt = none ∧ x.ldepth = 0 :=
  ⟨(poolTile.get ⟨0, by decide +kernel⟩), by decide +kernel⟩

theorem meets_AwlAdvance_2 :
    ∃ (x : Tile) (n : ℕ), 1 < n ∧ x.rpt = some { left := n } :=
  ⟨(poolTile.get ⟨1, by decide +kernel⟩), 3, by decide +kernel⟩

theorem meets_AwlAdvance_3 :
    ∃ (x : Tile) (n : ℕ), x.rpt = none ∧ x.ldepth = n + 1 ∧ nget 0 x.le n = x.pc ∧ nget 0 x.lrsd n = x.rsd ∧ 1 <
      (nget 0 x.lc n).toNat :=
  ⟨(poolTile.get ⟨3, by decide +kernel⟩), 0, by decide +kernel⟩

theorem meets_AwlRegisterAlu :
    ∃ (s : Machine.State) (t : ℕ), s.canIssue t :=
  ⟨(nth 0), 3, by decide +kernel⟩

theorem meets_AwlImmediates :
    ∃ (s : Machine.State) (t : ℕ), s.canIssue t :=
  ⟨(nth 0), 3, by decide +kernel⟩

theorem meets_AwlLoads_1 :
    ∃ (s : Machine.State) (t : ℕ) (am : BitVec 2) (pn : BitVec 3) (d : BitVec 8),
      let a := if am = 2 then (s.tile t).at_ pn d.toInt else (s.tile t).pReg pn
      s.canIssue t ∧ am ≠ 3 ∧ (am ≠ 2 → d = 0) ∧ (selectsY a = false → (s.win t).foreign a = false) :=
  ⟨(nth 0), 3, 0x0#2, 0x0#3, 0x00#8, by dsimp only; decide +kernel⟩

theorem meets_AwlLoads_2 :
    ∃ (s : Machine.State) (t : ℕ) (am : BitVec 2) (pn : BitVec 3) (d : BitVec 8),
      let a := if am = 2 then (s.tile t).at_ pn d.toInt else (s.tile t).pReg pn
      s.canIssue t ∧ am ≠ 3 ∧ (am ≠ 2 → d = 0) ∧ (s.win t).foreign a = false :=
  ⟨(nth 0), 3, 0x0#2, 0x0#3, 0x00#8, by dsimp only; decide +kernel⟩

theorem meets_AwlLoads_3 :
    ∃ (s : Machine.State) (t : ℕ) (px : BitVec 3) (ga : BitVec 5) (gb : BitVec 5), s.canIssue t ∧ (s.win
      t).foreign ((s.tile t).pReg px) = false ∧ ga = gb :=
  ⟨(nth 0), 3, 0x0#3, 0x00#5, 0x00#5, by decide +kernel⟩

theorem meets_LdxyYWins :
    ∃ (s : Machine.State) (t : ℕ) (px : BitVec 3), s.canIssue t ∧ (s.win t).foreign ((s.tile t).pReg px) = false :=
  ⟨(nth 0), 3, 0x0#3, by decide +kernel⟩

theorem meets_AwlStore :
    ∃ (s : Machine.State) (t : ℕ) (am : BitVec 2) (pn : BitVec 3) (d : BitVec 8), s.canIssue t ∧ am ≠ 3 ∧ (am ≠
      2 → d = 0) ∧ (selectsY ((s.tile t).memAddr am pn d) = false → (s.win t).foreign ((s.tile t).memAddr am pn
      d) = false) ∧ (selectsY ((s.tile t).memAddr am pn d) = true → ((s.tile t).memAddr am pn d).toNat % 16384 <
      8192) ∧ 2 * (s.win t).half ≤ 16384 :=
  ⟨(nth 0), 3, 0x0#2, 0x0#3, 0x00#8, by decide +kernel⟩

theorem meets_AwlPointers_1 :
    ∃ (s : Machine.State) (t : ℕ) (imm : BitVec 16), s.canIssue t ∧ imm.msb = false :=
  ⟨(nth 0), 3, 0x0000#16, by decide +kernel⟩

theorem meets_AwlPointers_2 :
    ∃ (s : Machine.State) (t : ℕ) (r : Bool) (gc : BitVec 5) (ch : BitVec 11),
      let c := ch.toNat + if r = true then BitVec.toNat ((s.tile t).gReg gc) % 2048 else 0
      s.canIssue t ∧ (r = false → gc = 0) ∧ c < (s.win t).nin :=
  ⟨(nth 0), 3, false, 0x00#5, 0x000#11, by dsimp only; decide +kernel⟩

theorem meets_AwlPointers_3 :
    ∃ (s : Machine.State) (t : ℕ) (r : Bool) (gc : BitVec 5) (ch : BitVec 11),
      let c := ch.toNat + if r = true then BitVec.toNat ((s.tile t).gReg gc) % 2048 else 0
      s.canIssue t ∧ (r = false → gc = 0) ∧ c < (s.win t).nout :=
  ⟨(nth 0), 3, false, 0x00#5, 0x000#11, by dsimp only; decide +kernel⟩

theorem meets_AwlPointers_4 :
    ∃ (s : Machine.State) (t : ℕ) (r : Bool) (gs : BitVec 5), s.canIssue t ∧ (r = false → gs = 0) :=
  ⟨(nth 0), 3, false, 0x00#5, by decide +kernel⟩

theorem meets_AwlMultiply :
    ∃ (s : Machine.State) (t : ℕ) (px : BitVec 3), s.canIssue t ∧ (s.win t).foreign ((s.tile t).pReg px) = false
      ∧ (s.win t).foreign ((s.tile t).at_ px 1) = false :=
  ⟨(nth 0), 3, 0x0#3, by decide +kernel⟩

theorem meets_AwlAccumulators_1 :
    (∃ (s : Machine.State) (t : ℕ) (n : BitVec 6), s.canIssue t ∧ n ≠ 0) ∧
    (∃ (s : Machine.State) (t : ℕ) (as : BitVec 2), s.canIssue t ∧ (s.tile t).clamped as = false) ∧
    (∃ (s : Machine.State) (t : ℕ) (k : BitVec 2) (as : BitVec 2), s.canIssue t ∧ (s.tile t).clamped k = false ∧
      (s.tile t).clamped as = true) ∧
    (∃ (s : Machine.State) (t : ℕ) (k : BitVec 2), s.canIssue t ∧ (s.tile t).clamped k = true) :=
  And.imp (fun h => ⟨(nth 0), 3, 0x01#6, h⟩)
   (And.imp (fun h => ⟨(nth 0), 3, 0x0#2, h⟩)
   (And.imp (fun h => ⟨(nth 7), 3, 0x0#2, 0x1#2, h⟩)
   (fun h => ⟨(nth 5), 3, 0x0#2, h⟩))) (by decide +kernel)

theorem meets_AwlAccumulators_2 :
    ∃ (s : Machine.State) (t : ℕ) (k : BitVec 2) (shift : BitVec 5) (pn : BitVec 3),
      let a := BitVec.toInt ((s.tile t).aReg k)
      let r := if 0 ≤ shift.toInt then a * 2 ^ shift.toInt.toNat / 2 ^ 31 else a / (2 ^ 31 * 2 ^
        (-shift.toInt).toNat)
      s.canIssue t ∧ -8 ≤ shift.toInt ∧ shift.toInt ≤ 8 ∧ (selectsY ((s.tile t).pReg pn) = false → (s.win
        t).foreign ((s.tile t).pReg pn) = false) ∧ (selectsY ((s.tile t).pReg pn) = true → ((s.tile t).pReg
        pn).toNat % 16384 < 8192) ∧ (s.tile t).clamped k = false ∧ -2 ^ 31 ≤ r ∧ r < 2 ^ 31 :=
  ⟨(nth 0), 3, 0x0#2, 0x00#5, 0x0#3, by dsimp only; decide +kernel⟩

theorem meets_AwlAccumulators_3 :
    ∃ (s : Machine.State) (t : ℕ) (k : BitVec 2) (shift : BitVec 5) (pn : BitVec 3),
      let a := BitVec.toInt ((s.tile t).aReg k)
      let r := if 0 ≤ shift.toInt then a * 2 ^ shift.toInt.toNat / 2 ^ 31 else a / (2 ^ 31 * 2 ^
        (-shift.toInt).toNat)
      s.canIssue t ∧ -8 ≤ shift.toInt ∧ shift.toInt ≤ 8 ∧ (selectsY ((s.tile t).pReg pn) = false → (s.win
        t).foreign ((s.tile t).pReg pn) = false) ∧ (selectsY ((s.tile t).pReg pn) = true → ((s.tile t).pReg
        pn).toNat % 16384 < 8192) ∧ ¬((s.tile t).clamped k = false ∧ -2 ^ 31 ≤ r ∧ r < 2 ^ 31) :=
  ⟨(nth 5), 3, 0x0#2, 0x00#5, 0x0#3, by dsimp only; decide +kernel⟩

theorem meets_AwlSpecials_1 :
    ∃ (s : Machine.State) (t : ℕ) (pn : BitVec 3), s.canIssue t ∧ ∀ (j : ℤ), 0 ≤ j → j < 4 → (s.win t).foreign
      ((s.tile t).at_ pn j) = false :=
  ⟨(nth 0), 3, 0x0#3, by decide +kernel⟩

theorem meets_AwlSpecials_2 :
    ∃ (s : Machine.State) (t : ℕ) (gx : BitVec 5) (ps : BitVec 3) (pc : BitVec 3),
      let sum := BitVec.toInt ((s.tile t).gReg gx) * (fun (j : ℤ) => BitVec.toInt ((s.tile t).readY (s.win t)
        ((s.tile t).at_ pc j))) 0 + BitVec.toInt ((fun (j : ℤ) => (s.tile t).readX (s.win t) ((s.tile t).at_ ps
        j)) 0) * (fun (j : ℤ) => BitVec.toInt ((s.tile t).readY (s.win t) ((s.tile t).at_ pc j))) 1 +
        BitVec.toInt ((fun (j : ℤ) => (s.tile t).readX (s.win t) ((s.tile t).at_ ps j)) 1) * (fun (j : ℤ) =>
        BitVec.toInt ((s.tile t).readY (s.win t) ((s.tile t).at_ pc j))) 2 - BitVec.toInt ((fun (j : ℤ) =>
        (s.tile t).readX (s.win t) ((s.tile t).at_ ps j)) 2) * (fun (j : ℤ) => BitVec.toInt ((s.tile t).readY
        (s.win t) ((s.tile t).at_ pc j))) 3 - BitVec.toInt ((fun (j : ℤ) => (s.tile t).readX (s.win t) ((s.tile
        t).at_ ps j)) 3) * (fun (j : ℤ) => BitVec.toInt ((s.tile t).readY (s.win t) ((s.tile t).at_ pc j))) 4
      let r := sum * 2 / 2 ^ 31
      s.canIssue t ∧ selectsY ((s.tile t).pReg ps) = false ∧ selectsY ((s.tile t).pReg pc) = true ∧ (∀ (j : ℤ),
        0 ≤ j → j < 4 → (s.win t).foreign ((s.tile t).at_ ps j) = false) ∧ -2 ^ 31 ≤ r ∧ r < 2 ^ 31 :=
  ⟨(nth 8), 3, 0x00#5, 0x0#3, 0x1#3, by dsimp only; decide +kernel⟩

theorem meets_AwlSpecials_3 :
    ∃ (s : Machine.State) (t : ℕ) (gx : BitVec 5) (ps : BitVec 3) (pc : BitVec 3),
      let sum := BitVec.toInt ((s.tile t).gReg gx) * (fun (j : ℤ) => BitVec.toInt ((s.tile t).readY (s.win t)
        ((s.tile t).at_ pc j))) 0 + BitVec.toInt ((fun (j : ℤ) => (s.tile t).readX (s.win t) ((s.tile t).at_ ps
        j)) 0) * (fun (j : ℤ) => BitVec.toInt ((s.tile t).readY (s.win t) ((s.tile t).at_ pc j))) 1 +
        BitVec.toInt ((fun (j : ℤ) => (s.tile t).readX (s.win t) ((s.tile t).at_ ps j)) 1) * (fun (j : ℤ) =>
        BitVec.toInt ((s.tile t).readY (s.win t) ((s.tile t).at_ pc j))) 2 - BitVec.toInt ((fun (j : ℤ) =>
        (s.tile t).readX (s.win t) ((s.tile t).at_ ps j)) 2) * (fun (j : ℤ) => BitVec.toInt ((s.tile t).readY
        (s.win t) ((s.tile t).at_ pc j))) 3 - BitVec.toInt ((fun (j : ℤ) => (s.tile t).readX (s.win t) ((s.tile
        t).at_ ps j)) 3) * (fun (j : ℤ) => BitVec.toInt ((s.tile t).readY (s.win t) ((s.tile t).at_ pc j))) 4
      let r := sum * 2 / 2 ^ 31
      s.canIssue t ∧ selectsY ((s.tile t).pReg ps) = false ∧ selectsY ((s.tile t).pReg pc) = true ∧ (∀ (j : ℤ),
        0 ≤ j → j < 4 → (s.win t).foreign ((s.tile t).at_ ps j) = false) ∧ 2 ^ 31 ≤ r :=
  ⟨(nth 9), 3, 0x01#5, 0x0#3, 0x1#3, by dsimp only; decide +kernel⟩

theorem meets_AwlSpecials_4 :
    ∃ (s : Machine.State) (t : ℕ) (gx : BitVec 5) (ps : BitVec 3) (pc : BitVec 3),
      let sum := BitVec.toInt ((s.tile t).gReg gx) * (fun (j : ℤ) => BitVec.toInt ((s.tile t).readY (s.win t)
        ((s.tile t).at_ pc j))) 0 + BitVec.toInt ((fun (j : ℤ) => (s.tile t).readX (s.win t) ((s.tile t).at_ ps
        j)) 0) * (fun (j : ℤ) => BitVec.toInt ((s.tile t).readY (s.win t) ((s.tile t).at_ pc j))) 1 +
        BitVec.toInt ((fun (j : ℤ) => (s.tile t).readX (s.win t) ((s.tile t).at_ ps j)) 1) * (fun (j : ℤ) =>
        BitVec.toInt ((s.tile t).readY (s.win t) ((s.tile t).at_ pc j))) 2 - BitVec.toInt ((fun (j : ℤ) =>
        (s.tile t).readX (s.win t) ((s.tile t).at_ ps j)) 2) * (fun (j : ℤ) => BitVec.toInt ((s.tile t).readY
        (s.win t) ((s.tile t).at_ pc j))) 3 - BitVec.toInt ((fun (j : ℤ) => (s.tile t).readX (s.win t) ((s.tile
        t).at_ ps j)) 3) * (fun (j : ℤ) => BitVec.toInt ((s.tile t).readY (s.win t) ((s.tile t).at_ pc j))) 4
      let r := sum * 2 / 2 ^ 31
      s.canIssue t ∧ selectsY ((s.tile t).pReg ps) = false ∧ selectsY ((s.tile t).pReg pc) = true ∧ (∀ (j : ℤ),
        0 ≤ j → j < 4 → (s.win t).foreign ((s.tile t).at_ ps j) = false) ∧ r < -2 ^ 31 :=
  ⟨(nth 9), 3, 0x02#5, 0x0#3, 0x1#3, by dsimp only; decide +kernel⟩

theorem meets_AwlSpecials_5 :
    (∃ (s : Machine.State) (t : ℕ) (pg : BitVec 3) (pt : BitVec 3), s.canIssue t ∧ selectsY ((s.tile t).pReg pg)
      ≠ selectsY ((s.tile t).pReg pt) ∧ (selectsY ((s.tile t).at_ pg 0) = false → (s.win t).foreign ((s.tile
      t).at_ pg 0) = false) ∧ (selectsY ((s.tile t).at_ pg 0) = true → ((s.tile t).at_ pg 0).toNat % 16384 <
      8192) ∧ (selectsY ((s.tile t).at_ pg 1) = false → (s.win t).foreign ((s.tile t).at_ pg 1) = false) ∧
      (selectsY ((s.tile t).pReg pt) = false → (s.win t).foreign ((s.tile t).pReg pt) = false)) ∧
    (∃ (s : Machine.State) (t : ℕ) (gx : BitVec 5) (pn : BitVec 3), s.canIssue t ∧ (selectsY ((s.tile t).pReg pn)
      = false → (s.win t).foreign ((s.tile t).pReg pn) = false) ∧ (BitVec.toInt ((s.tile t).readMem (s.win t)
      ((s.tile t).pReg pn)) < BitVec.toInt (sabs ((s.tile t).gReg gx)) → (fun (a : BitVec 15) => (fun (a :
      BitVec 15) => selectsY a = false → (s.win t).foreign a = false) a ∧ (selectsY a = true → a.toNat % 16384 <
      8192)) ((s.tile t).pReg pn))) ∧
    (∃ (s : Machine.State) (t : ℕ) (ps : BitVec 3), s.canIssue t ∧ (selectsY ((s.tile t).at_ ps 0) = false →
      (s.win t).foreign ((s.tile t).at_ ps 0) = false) ∧ (selectsY ((s.tile t).at_ ps 0) = true → ((s.tile
      t).at_ ps 0).toNat % 16384 < 8192) ∧ (selectsY ((s.tile t).at_ ps 1) = false → (s.win t).foreign ((s.tile
      t).at_ ps 1) = false)) :=
  And.imp (fun h => ⟨(nth 8), 3, 0x0#3, 0x1#3, h⟩)
   (And.imp (fun h => ⟨(nth 0), 3, 0x00#5, 0x0#3, h⟩)
   (fun h => ⟨(nth 0), 3, 0x0#3, h⟩)) (by decide +kernel)

theorem meets_AwlControl_1 :
    ∃ (s : Machine.State) (t : ℕ) (r : Bool) (count : BitVec 16) (gc : BitVec 5),
      let n := if r = true then BitVec.toNat ((s.tile t).gReg gc) % 65536 else count.toNat
      t < 256 ∧ s.executing t = true ∧ (s.tile t).rpt = none ∧ (if r = true then count = 0 else gc = 0) ∧ (∀ (n
        : ℕ), n < (s.tile t).ldepth → nget 0 (s.tile t).le n ≠ (s.tile t).pc) ∧ (s.tile t).pc.toNat + 1 < 16384
        ∧ n ≠ 0 :=
  ⟨(nth 0), 3, false, 0x0001#16, 0x00#5, by dsimp only; decide +kernel⟩

theorem meets_AwlControl_2 :
    ∃ (s : Machine.State) (t : ℕ) (r : Bool) (count : BitVec 16) (gc : BitVec 5),
      let n := if r = true then BitVec.toNat ((s.tile t).gReg gc) % 65536 else count.toNat
      t < 256 ∧ s.executing t = true ∧ (s.tile t).rpt = none ∧ (if r = true then count = 0 else gc = 0) ∧ (∀ (n
        : ℕ), n < (s.tile t).ldepth → nget 0 (s.tile t).le n ≠ (s.tile t).pc) ∧ (s.tile t).pc.toNat + 1 < 16384
        ∧ n = 0 ∧ ((s.tile t).retireAt ((s.tile t).pc.toNat + 1)).2 < 16384 :=
  ⟨(nth 0), 3, false, 0x0000#16, 0x00#5, by dsimp only; decide +kernel⟩

theorem meets_AwlControl_3 :
    ∃ (s : Machine.State) (t : ℕ) (r : Bool) (ofs : BitVec 11) (count : BitVec 12) (gc : BitVec 5),
      let start := (s.tile t).pc.toNat + 1
      let le := start + ofs.toNat
      let n := if r = true then BitVec.toNat ((s.tile t).gReg gc) % 65536 else count.toNat
      t < 256 ∧ s.executing t = true ∧ (s.tile t).rpt = none ∧ (if r = true then count = 0 else gc = 0) ∧ (∀ (n
        : ℕ), n < (s.tile t).ldepth → nget 0 (s.tile t).le n ≠ (s.tile t).pc) ∧ (s.tile t).ldepth ≠ 4 ∧ le <
        16384 ∧ n ≠ 0 :=
  ⟨(nth 0), 3, false, 0x000#11, 0x040#12, 0x00#5, by dsimp only; decide +kernel⟩

theorem meets_AwlControl_4 :
    ∃ (s : Machine.State) (t : ℕ) (r : Bool) (ofs : BitVec 11) (count : BitVec 12) (gc : BitVec 5),
      let start := (s.tile t).pc.toNat + 1
      let le := start + ofs.toNat
      let n := if r = true then BitVec.toNat ((s.tile t).gReg gc) % 65536 else count.toNat
      t < 256 ∧ s.executing t = true ∧ (s.tile t).rpt = none ∧ (if r = true then count = 0 else gc = 0) ∧ (∀ (n
        : ℕ), n < (s.tile t).ldepth → nget 0 (s.tile t).le n ≠ (s.tile t).pc) ∧ (s.tile t).ldepth ≠ 4 ∧ le <
        16384 ∧ n = 0 ∧ ((s.tile t).retireAt le).2 < 16384 :=
  ⟨(nth 0), 3, false, 0x000#11, 0x000#12, 0x00#5, by dsimp only; decide +kernel⟩

theorem meets_AwlControl_5 :
    (∃ (s : Machine.State) (t : ℕ) (ind : Bool) (target : BitVec 14) (gs : BitVec 5), t < 256 ∧ s.executing t =
      true ∧ (s.tile t).rpt = none ∧ (if ind = true then target = 0 else gs = 0) ∧ (s.tile t).rsd ≠ 8 ∧ (s.tile
      t).pc.toNat + 1 < 16384) ∧
    (∃ (s : Machine.State) (t : ℕ) (cond : BitVec 4), t < 256 ∧ s.executing t = true ∧ (s.tile t).rpt = none ∧
      cond ≠ 15 ∧ (s.tile t).holds cond = true) ∧
    (∃ (s : Machine.State) (t : ℕ) (cond : BitVec 4), t < 256 ∧ s.executing t = true ∧ (s.tile t).rpt = none ∧
      cond ≠ 15 ∧ (s.tile t).holds cond = false ∧ (s.tile t).goesOn) :=
  And.imp (fun h => ⟨(nth 0), 3, false, 0x0000#14, 0x00#5, h⟩)
   (And.imp (fun h => ⟨(nth 0), 3, 0x1#4, h⟩)
   (fun h => ⟨(nth 0), 3, 0x0#4, h⟩)) (by decide +kernel)

theorem meets_AwlControl_6 :
    ∃ (s : Machine.State) (t : ℕ),
      let a := (nget 0 (s.tile t).ret ((s.tile t).rsd - 1)).toNat
      let y := { s.tile t with rsd := (s.tile t).rsd - 1 }
      let r := if a = 0 then (y, 0) else y.retireAt (a - 1)
      t < 256 ∧ s.executing t = true ∧ (s.tile t).rpt = none ∧ (s.tile t).rsd ≠ 0 ∧ r.2 < 16384 :=
  ⟨(nth 2), 3, by dsimp only; decide +kernel⟩

theorem meets_AwlControl_7 :
    ∃ (s : Machine.State) (t : ℕ) (age : ℕ), t < 256 ∧ s.executing t = true ∧ (s.tile t).rpt = none ∧ age ≤ 2 ∧
      (s.tile t).goesOn :=
  ⟨(nth 0), 3, 0, by decide +kernel⟩

theorem meets_AwlWaitb :
    ∃ (s : Machine.State) (t : ℕ), t < 256 ∧ s.executing t = true ∧ (s.tile t).rpt = none :=
  ⟨(nth 0), 3, by decide +kernel⟩

theorem meets_AwlIllegal :
    ∃ (s : Machine.State) (t : ℕ) (c : ℕ) (f : Win → Tile → Issue), t < 256 ∧ s.executing t = true ∧ (f (s.win
      t) (s.tile t)).causes.min? = some c ∧ c < 16 :=
  ⟨nth 0, 3, 1, fun _ x => ⟨[1], 1, x, x.pc.toNat + 1, false, false⟩, by decide +kernel⟩

theorem meets_AwlRing :
    (∃ (len : BitVec 15), len.toNat ≤ 16384 ∧ len = 0) ∧
    (∃ (len : BitVec 15), len.toNat ≤ 16384 ∧ len ≠ 0) :=
  And.imp (fun h => ⟨0x0000#15, h⟩)
   (fun h => ⟨0x0001#15, h⟩) (by decide +kernel)

theorem meets_AwlWords :
    ∃ (c : Instr) (w : Word), Awl.canonical c = true ∧ Awl.encode c = some w :=
  ⟨.nop 0 0, 0, by decide +kernel⟩

end W20

/-! ### Startup -/

namespace W30

def I1 : ImgInfo := ⟨1,2,3,0xFFFF,5,6,7,8,[9,8,7]⟩
def fw (n : Nat) (s : State) : State := s.set Pg.host HOST.BOOT_STAT_FW_STATE n
def stg (n : Nat) (s : State) : State := ((s.set Pg.host HOST.BRINGUP_STAGE n).set Pg.host HOST.BRINGUP_READY 0)
def busy : State := up.onCtrl fun c => { c with long := [⟨0x0A,3⟩,⟨0x04,5⟩,⟨0x0B,6⟩], fwLen := 123456, short := some ⟨1,2⟩ }
def S : List State := [State.reset, up, busy, { busy with part := .ca, now := 77 },
    up.onCtrl fun c => { c with resetN := false, bootMode := 2 },
 fw 1 (stg 0 up), fw 1 (stg 0 busy),
    stg 3 (up.set 0 HOST.BRINGUP_BOARD_CFG 1), stg 2 (up.set 0 HOST.BRINGUP_SOFT 1), stg 5 up, stg 1 up,
    stg 1 ({ (up.set Pg.life LIFE.AREA_SIZE 8) with life := {up.life with area := ⟨[(2, some ⟨5,0,[(lifeKey 6 0, 3700)],[(0,9)],7⟩)],[],none⟩}}),
    fw 1 (up.onCtrl fun c => {c with trial := some .b, updated := some .b}),
    {busy with cinch := {busy.cinch with resetPending := true, resetTimes := [5]}},
    (busy.set Pg.ctrl CTRL.WDOG_STAT_ARMED 1),
    (match exec .watchdogExpiry (busy.set Pg.ctrl CTRL.WDOG_STAT_ARMED 1) with | .next u => u | _ => up),
    (match exec .watchdogExpiry (busy.set Pg.ctrl CTRL.WDOG_STAT_ARMED 1) with | .next u => u.set Pg.harness HARNESS.MRST_STAT_PENDING 0 | _ => up),
    up.onCtrl fun c => { c with long := [⟨0x0C,3⟩], fwLen := 123456, done := List.replicate 8 ⟨1,1,1⟩ },
    up.onCtrl fun c => { c with long := [⟨0x0C,3⟩] }, (up.raise Src.linkDown 0)]
def nth (i : Nat) : State := (S).getD i .reset
def poolBootView : List (BootView) := [⟨true,.ok I1,.ok ⟨9,2,3,0xFFFF,5,6,7,8,[1,2]⟩,0⟩,⟨true,.header,.ok I1,0⟩,
    ⟨false,.header,.ok I1,0⟩,⟨true,.ok I1,.header,1⟩]
def poolImgInfo : List (ImgInfo) := [I1, ⟨9,2,3,0xFFFF,5,6,7,8,[1,2]⟩]

theorem meets_Resets_1 :
    ∃ (s : Machine.State) (b : BootView) (i : ImgInfo), (s.ctrl.bootMode = 0 ∨ s.ctrl.bootMode = 2 ∧
      s.life.cycle ≠ 0) ∧ s.ctrl.updated = none ∧ b.wipeFail = 0 ∧ s.boots b s.ctrl.active i :=
  ⟨(nth 0), (poolBootView.get ⟨0, by decide +kernel⟩), (poolImgInfo.get ⟨0, by decide +kernel⟩), by (repeat' apply And.intro) <;> first | decide +kernel | exact verdict_ok (by decide +kernel)⟩

theorem meets_Resets_2 :
    ∃ (s : Machine.State) (b : BootView) (i : ImgInfo) (mode : BitVec 2), (mode = 0 ∨ mode = 2 ∧ s.life.cycle ≠
      0) ∧ s.ctrl.resetN = false ∧ s.ctrl.updated = none ∧ s.vaultFailed = 0 ∧ b.wipeFail = 0 ∧ s.boots b
      s.ctrl.active i :=
  ⟨(nth 0), (poolBootView.get ⟨0, by decide +kernel⟩), (poolImgInfo.get ⟨0, by decide +kernel⟩), 0x0#2, by (repeat' apply And.intro) <;> first | decide +kernel | exact verdict_ok (by decide +kernel)⟩

theorem meets_Resets_3 :
    (∃ (s : Machine.State) (mode : BitVec 2), (mode = 1 ∨ mode = 3) ∧ s.ctrl.resetN = false) ∧
    (∃ (s : Machine.State), s.ctrl.resetN = true) :=
  And.imp (fun h => ⟨(nth 0), 0x1#2, h⟩)
   (fun h => ⟨(nth 1), h⟩) (by decide +kernel)

theorem meets_Resets_4 :
    ∃ (s : Machine.State) (b : BootView) (i : ImgInfo) (m : Master), Master.isCore m = true ∧ s.fwRunning = true
      ∧ s.ctrl.updated = none ∧ s.boots b s.ctrl.active i :=
  ⟨(nth 1), (poolBootView.get ⟨0, by decide +kernel⟩), (poolImgInfo.get ⟨0, by decide +kernel⟩), (Master.core 0), by (repeat' apply And.intro) <;> first | decide +kernel | exact verdict_ok (by decide +kernel)⟩

theorem meets_Resets_5 :
    ∃ (s : Machine.State) (b : BootView) (i : ImgInfo), s.cinch.resetPending = true ∧ s.ready = true ∧
      s.ctrl.updated = none ∧ s.boots b s.ctrl.active i :=
  ⟨(nth 13), (poolBootView.get ⟨0, by decide +kernel⟩), (poolImgInfo.get ⟨0, by decide +kernel⟩), by (repeat' apply And.intro) <;> first | decide +kernel | exact verdict_ok (by decide +kernel)⟩

theorem meets_BringUp_1 :
    (∃ (s : Machine.State), s.ready = false ∧ s.stage = 0 ∧ s.fwState = Fw.verify ∧ s.ctrl.restarting = false) ∧
    (∃ (s : Machine.State), s.ready = false ∧ s.stage = 1 ∧ s.fwRunning = true ∧ s.soft = false) ∧
    (∃ (s : Machine.State), s.ready = false ∧ s.stage = 2 ∧ s.fwRunning = true ∧ s.soft = true ∧ s.flag Pg.girth
      PG.CTRL_DRAIN = false ∧ s.flag Pg.girth PG.CTRL_EN = false) ∧
    (∃ (s : Machine.State), s.ready = false ∧ s.stage = 3 ∧ s.fwRunning = true ∧ s.flag Pg.host
      HOST.BRINGUP_BOARD_CFG = true) ∧
    (∃ (s : Machine.State), s.ready = false ∧ s.stage = 5 ∧ s.fwRunning = true) :=
  And.imp (fun h => ⟨(nth 5), h⟩)
   (And.imp (fun h => ⟨(nth 10), h⟩)
   (And.imp (fun h => ⟨(nth 8), h⟩)
   (And.imp (fun h => ⟨(nth 7), h⟩)
   (fun h => ⟨(nth 9), h⟩)))) (by decide +kernel)

theorem meets_BringUp_2 :
    ∃ (s : Machine.State) (b : BootView) (i : ImgInfo) (x : Slot), s.ctrl.trial = some x ∧ s.fwRunning = false ∧
      s.boots b (otherSlot x) i :=
  ⟨(nth 12), (poolBootView.get ⟨0, by decide +kernel⟩), (poolImgInfo.get ⟨0, by decide +kernel⟩), (Slot.b), by (repeat' apply And.intro) <;> first | decide +kernel | exact verdict_ok (by decide +kernel)⟩

theorem meets_Watchdog_1 :
    (∃ (s : Machine.State) (m : Master), s.takes m Pg.ctrl ∧ Master.isCore m = true) ∧
    (∃ (s : Machine.State) (m : Master) (v : Word), s.takes m Pg.ctrl ∧ ¬(Master.isCore m = true ∧ v = 23063)) ∧
    (∃ (s : Machine.State), s.flag Pg.ctrl CTRL.WDOG_STAT_ARMED = true) :=
  And.imp (fun h => ⟨(nth 0), (Master.core 0), h⟩)
   (And.imp (fun h => ⟨(nth 0), (Master.core 0), 0x00000000#32, h⟩)
   (fun h => ⟨(nth 14), h⟩)) (by decide +kernel)

theorem meets_Watchdog_2 :
    ∃ (s : Machine.State) (b : BootView) (i : ImgInfo), s.ctrl.restarting = true ∧ s.fwState = Fw.restarting ∧
      s.boots b (slotOf (s.get Pg.host HOST.BOOT_STAT_SLOT)) i ∧ ∀ (c : ℕ), c ∈ [7, 8, 9, 10] → s.masterInReset
      c = false :=
  ⟨(nth 16), (poolBootView.get ⟨0, by decide +kernel⟩), (poolImgInfo.get ⟨0, by decide +kernel⟩), by (repeat' apply And.intro) <;> first | decide +kernel | exact verdict_ok (by decide +kernel)⟩

theorem meets_Watchdog_3 :
    ∃ (s : Machine.State) (c : ℕ), c ∈ [7, 8, 9, 10] ∧ s.masterInReset c = true :=
  ⟨(nth 15), 7, by decide +kernel⟩

theorem meets_FirmwareUpdate :
    (∃ (s : Machine.State) (addr : ℕ) (len : ℕ), s.serves ∧ addr < 2 ^ 48 ∧ 0 < len ∧ s.longRuns Op.fwUpdate =
      false) ∧
    (∃ (s : Machine.State) (l : LongCmd), List.find? (fun (l : LongCmd) => l.op == BitVec.ofNat 8 Op.fwUpdate)
      s.ctrl.long = some l) ∧
    (∃ (width : ℕ), width = 1 ∨ width = 2 ∨ width = 4) :=
  And.imp (fun h => ⟨(nth 1), 0, 1, h⟩)
   (And.imp (fun h => ⟨(nth 17), { op := 0x0c#8, tag := 0x03#8 }, h⟩)
   (fun h => ⟨1 , h⟩)) (by decide +kernel)

end W30

/-! ### Plans, swaps and relocation -/

namespace W31

def idle1 : State := { (runs Pone b0) with fabric := { (runs Pone b0).fabric with running := none } }
def fen0 : State := tk 1 0 (runs Pone b0)
def fen1 : State :=
  (fen0.setTile 3 { fen0.tile 3 with pass := .waiting }).setDom 0 { fen0.dom 0 with tF := 333333, fenced := false }
def fen2 : State := nx (execPassStart 3 fen1)
def S : List State := [up, b0, ld, ld2, adm, run1, run1b, sw, swbad, warm1, xf, esc1, avs esc1, esc2, esc3, esc4,
    esc5, { esc5 with now := 9000000000 }, rel0, rel1, rel2, rel3, rel4, shed1, idle1, tk 2 0 idle1, fen1, fen2,
    (fen1.setTile 3 { fen1.tile 3 with onTime := 64, lowSlack := 2000, canary := [1000,1400] }).raise Src.awlDeadline 3,
    (fen1.set Pg.fabric FABRIC.TILE_SPEED_EST_SOURCE 1 3).setTile 3 { fen1.tile 3 with agreeAt := some 5 },
    esc3.onFabric fun f => { f with escs := [] },
    (fen1.setTile 3 { fen1.tile 3 with lowSlack := 2000 }).set Pg.fabric FABRIC.MARGIN_CTRL_SLACK_WARN 5,
    ((fen1.setTile 3 { fen1.tile 3 with lowSlack := 2000 }).set Pg.fabric FABRIC.MARGIN_CTRL_SLACK_WARN 5).set Pg.fabric FABRIC.MARGIN_CTRL_AVS_EN 0,
    { shed1 with now := 900 * 625000000 },
    (fen1.set Pg.fabric FABRIC.TILE_SPEED_EST_SOURCE 1 3).set Pg.fabric FABRIC.MARGIN_CTRL_SLACK_WARN 5]
def nth (i : Nat) : State := (S).getD i .reset
def poolPlanImage : List (PlanImage) := [⟨true,100,true,P2⟩,⟨false,100,true,P2⟩]
def poolCommit : List (Commit) := S.flatMap fun s => s.mix.commits.map (·.2)
def poolPlanTile : List (PlanTile) := [T3,T4,T5]

theorem meets_PlanSlots_1 :
    ∃ (s : Machine.State) (addr : ℕ) (len : ℕ) (slot : ℕ), s.serves ∧ slot ≤ 1 ∧ 0 < len ∧ addr < 2 ^ 48 ∧
      s.fabricEnabled = true ∧ s.slotRuns slot = false ∧ s.slotArmed slot = false ∧ s.fabric.loading = none :=
  ⟨(nth 1), 0, 1, 0, by decide +kernel⟩

theorem meets_PlanSlots_2 :
    ∃ (s : Machine.State) (l : PlanLoading) (img : PlanImage), s.fabric.loading = some l ∧ imageOk l img = true
      ∧ s.streamsFit img.plan = true :=
  ⟨(nth 2), { slot := 1, len := 100, tag := 0x07#8 }, (poolPlanImage.get ⟨0, by decide +kernel⟩), by decide +kernel⟩

theorem meets_PlanSlots_3 :
    ∃ (s : Machine.State) (l : PlanLoading) (img : PlanImage), s.fabric.loading = some l ∧ imageOk l img = false :=
  ⟨(nth 2), { slot := 1, len := 100, tag := 0x07#8 }, (poolPlanImage.get ⟨1, by decide +kernel⟩), by decide +kernel⟩

theorem meets_PlanSlots_4 :
    ∃ (s : Machine.State) (slot : ℕ), s.serves ∧ slot ≤ 1 ∧ s.fabricEnabled = true ∧ s.slotLoading slot = false :=
  ⟨(nth 1), 0, by decide +kernel⟩

theorem meets_Commits_1 :
    (∃ (s : Machine.State) (arg : Word) (sec : ℕ) (ns : ℕ), s.serves ∧ sec * 1000000000 + ns < s.nanos0 + 5000000
      ∧ commitArgOk 1 arg sec ns = true ∧ commitSet arg ≠ 0 ∧ s.mixEnabled = true) ∧
    (∃ (s : Machine.State) (arg : Word) (sec : ℕ) (ns : ℕ), s.serves ∧ sec * 1000000000 + ns < s.nanos0 + 5000000
      ∧ commitArgOk 2 arg sec ns = true ∧ commitSet arg < 2 ∧ s.fabricEnabled = true) ∧
    (∃ (s : Machine.State) (arg : Word) (sec : ℕ) (ns : ℕ) (i : ℕ), s.serves ∧ s.nanos0 + 5000000 ≤ sec *
      1000000000 + ns ∧ s.freeEntry = some i ∧ commitArgOk 1 arg sec ns = true ∧ commitSet arg ≠ 0 ∧
      s.mixEnabled = true ∧ s.changeArmed = false ∧ s.mix.rampsEnd ≤ sec * 1000000000 + ns) ∧
    (∃ (s : Machine.State) (arg : Word) (sec : ℕ) (ns : ℕ) (i : ℕ), s.serves ∧ s.nanos0 + 5000000 ≤ sec *
      1000000000 + ns ∧ s.freeEntry = some i ∧ commitArgOk 3 arg sec ns = true ∧ commitSet arg / 8 % 16 = 0 ∧
      s.reinEnabled = true) ∧
    (∃ (s : Machine.State) (arg : Word) (sec : ℕ) (ns : ℕ) (i : ℕ), s.serves ∧ s.nanos0 + 5000000 ≤ sec *
      1000000000 + ns ∧ s.freeEntry = some i ∧ commitArgOk 4 arg sec ns = true ∧ commitSet arg < 2) :=
  And.imp (fun h => ⟨(nth 1), 0x00000101#32, 0, 0, h⟩)
   (And.imp (fun h => ⟨(nth 1), 0x00000102#32, 0, 0, h⟩)
   (And.imp (fun h => ⟨(nth 1), 0x00000101#32, 0, 9000000, 0, h⟩)
   (And.imp (fun h => ⟨(nth 0), 0x00000003#32, 0, 9000000, 0, h⟩)
   (fun h => ⟨(nth 0), 0x00000004#32, 0, 9000000, 0, h⟩)))) (by decide +kernel)

theorem meets_Commits_2 :
    ∃ (s : Machine.State) (arg : Word) (sec : ℕ) (ns : ℕ) (i : ℕ) (p : Plan), s.serves ∧ s.nanos0 + 5000000 ≤
      sec * 1000000000 + ns ∧ s.freeEntry = some i ∧ commitArgOk 2 arg sec ns = true ∧ commitSet arg < 2 ∧
      s.fabricEnabled = true ∧ s.changeArmed = false ∧ s.pairHoldsBack = false ∧ s.admitted (commitSet arg) =
      true ∧ s.slotRuns (commitSet arg) = false ∧ s.slotPlan (commitSet arg) = some p ∧ s.warmTooLate p (sec *
      1000000000 + ns) = false :=
  ⟨(nth 4), 0x00000102#32, 0, 9000000, 0, (((nth 4).slotPlan (commitSet 0x00000102#32)).get (by decide +kernel)), by decide +kernel⟩

theorem meets_PlanSwaps_1 :
    ∃ (s : Machine.State) (t : ℕ) (w : Swap) (p : Plan) (x : PlanTile), t < 256 ∧ s.fabric.swap = some w ∧
      s.swapPlan = some p ∧ List.find? (fun (x : PlanTile) => x.tile == t) (s.tilesIn p SwapClass.warm) = some x
      ∧ (w.warm.any fun (e : ℕ × ℕ) => e.1 == t) = false :=
  ⟨(nth 7), 5, (((nth 7).fabric.swap).get (by decide +kernel)), (((nth 7).swapPlan).get (by decide +kernel)), ((List.find? (fun (x : PlanTile) => x.tile == 5) ((nth 7).tilesIn (((nth 7).swapPlan).get (by decide +kernel)) SwapClass.warm)).get (by decide +kernel)), by decide +kernel⟩

theorem meets_PlanSwaps_2 :
    ∃ (s : Machine.State) (i : ℕ) (c : Commit) (w : Swap) (p : Plan), s.armed Ck.swap = some (i, c) ∧
      s.fabric.swap = some w ∧ s.swapPlan = some p ∧ c.begun = false :=
  ⟨(nth 7), 0, (poolCommit.get ⟨0, by decide +kernel⟩), (((nth 7).fabric.swap).get (by decide +kernel)), (((nth 7).swapPlan).get (by decide +kernel)), by decide +kernel⟩

theorem meets_PlanSwaps_3 :
    ∃ (s : Machine.State) (d : ℕ),
      let old := List.flatMap (fun (x : WarmFade) => x.old) (List.filter (fun (w : WarmFade) => w.dom == d &&
        decide (w.len ≤ w.pos)) s.fabric.warmFades)
      d < 3 ∧ ∀ (t : ℕ), t ∈ old → t < 256 :=
  ⟨(nth 0), 0, by dsimp only; decide +kernel⟩

theorem meets_Passes_1 :
    ∃ (s : Machine.State) (d : ℕ) (t : ℕ) (x : PlanTile), d < 3 ∧ t < 256 ∧ s.tickDue d = true ∧ s.mix.commits =
      [] ∧ s.keeper.armed = none ∧ s.fabric.running = none ∧ s.fabric.place = [(t, x)] ∧ x.domain = d ∧
      s.fabric.reloadWait = [] ∧ s.fabricEnabled = true ∧ s.enabled (Pg.awl t) = true :=
  ⟨(nth 24), 0, 3, (poolPlanTile.get ⟨0, by decide +kernel⟩), by decide +kernel⟩

theorem meets_Passes_2 :
    (∃ (s : Machine.State) (d : ℕ), d < 3 ∧ s.tickDue d = true ∧ s.mix.commits = [] ∧ s.keeper.armed = none ∧
      s.fabric.reloadWait = [] ∧ s.fabricEnabled = true ∧ (List.map (fun (x : ℕ × PlanTile) => x.1)
      s.fabric.place).Nodup) ∧
    (∃ (s : Machine.State) (d : ℕ), d < 3 ∧ (s.dom d).tF ≠ 0 ∧ (s.dom d).fenced = false) ∧
    (∃ (s : Machine.State) (t : ℕ), t < 256 ∧ (s.tile t).pass = PassState.waiting ∧ (s.dom (s.tileDomain
      t)).fenced = false) ∧
    (∃ (s : Machine.State) (d : ℕ) (t : ℕ), d < 3 ∧ (s.dom d).tF ≠ 0 ∧ (s.dom d).fenced = false ∧ s.tilesOf d =
      [t]) ∧
    (∃ (s : Machine.State) (t : ℕ), t < 256 ∧ 64 ≤ (s.tile t).onTime) :=
  And.imp (fun h => ⟨(nth 1), 0, h⟩)
   (And.imp (fun h => ⟨(nth 26), 0, h⟩)
   (And.imp (fun h => ⟨(nth 26), 3, h⟩)
   (And.imp (fun h => ⟨(nth 26), 0, 3, h⟩)
   (fun h => ⟨(nth 28), 3, h⟩)))) (by decide +kernel)

theorem meets_Passes_3 :
    (∃ (s : Machine.State) (t : ℕ), t < s.tileCount ∧ s.flag Pg.fabric FABRIC.TILE_SPEED_EST_SOURCE t = false) ∧
    (∃ (s : Machine.State) (t : ℕ) (a : ℕ), t < 256 ∧ s.flag Pg.fabric FABRIC.TILE_SPEED_EST_SOURCE t = true ∧
      (s.tile t).agreeAt = some a) ∧
    (∃ (s : Machine.State) (m : Master) (d : ℕ), d < 3 ∧ s.takes m Pg.fabric) :=
  And.imp (fun h => ⟨(nth 0), 0, h⟩)
   (And.imp (fun h => ⟨(nth 29), 3, 5, h⟩)
   (fun h => ⟨(nth 0), .host, 0, h⟩)) (by decide +kernel)

theorem meets_Escalations_1 :
    ∃ (s : Machine.State) (t : ℕ), t < 256 ∧ s.esc t = none ∧ 8 ≤ s.get Pg.fabric FABRIC.TILE_STAT_CONSEC_MISS t
      ∧ s.avsEnabled = true ∧ s.fabric.raise = none ∧ s.raiseObserved = false ∧ s.atCeiling = false :=
  ⟨(nth 11), 3, by decide +kernel⟩

theorem meets_Escalations_2 :
    ∃ (s : Machine.State) (t : ℕ) (r : Raise), t < 256 ∧ s.fabric.raise = some r ∧ r.settling = false :=
  ⟨(nth 13), 0, (((nth 13).fabric.raise).get (by decide +kernel)), by decide +kernel⟩

theorem meets_Escalations_3 :
    ∃ (s : Machine.State) (t : ℕ) (r : Raise), t < 256 ∧ s.fabric.raise = some r ∧ r.settling = true ∧ r.warned
      = [] ∧ s.awaiting EscStage.voltage = [] :=
  ⟨(nth 30), 0, (((nth 30).fabric.raise).get (by decide +kernel)), by decide +kernel⟩

theorem meets_Escalations_4 :
    ∃ (s : Machine.State) (t : ℕ) (r : Raise), t < 256 ∧ s.fabric.raise = some r ∧ r.settling = false ∧ r.tries
      < 2 :=
  ⟨(nth 13), 0, (((nth 13).fabric.raise).get (by decide +kernel)), by decide +kernel⟩

theorem meets_Escalations_5 :
    ∃ (s : Machine.State) (t : ℕ) (e : Esc), t < 256 ∧ s.esc t = some e ∧ e.observing = true ∧ 8 ≤ e.seen.length
      ∧ (e.seen.all fun (x : Bool) => x == true) = true :=
  ⟨(nth 16), 3, (((nth 16).esc 3).get (by decide +kernel)), by decide +kernel⟩

theorem meets_Escalations_6 :
    ∃ (s : Machine.State) (t : ℕ) (e : Esc), t < 256 ∧ s.esc t = some e ∧ e.missAt + 6250000000 ≤ s.now :=
  ⟨(nth 17), 3, (((nth 17).esc 3).get (by decide +kernel)), by decide +kernel⟩

theorem meets_Escalations_7 :
    ∃ (s : Machine.State) (t : ℕ), t < 256 ∧ s.get Pg.fabric FABRIC.MARGIN_CTRL_SLACK_WARN ≠ 0 ∧ 1024 ≤ (s.tile
      t).lowSlack ∧ s.fabric.raise = none ∧ s.avsEnabled = false :=
  ⟨(nth 32), 3, by decide +kernel⟩

theorem meets_Relocations_1 :
    ∃ (s : Machine.State) (uid : ℕ) (r : Reloc), s.relocOf uid = some r ∧ r.phase = RelocPhase.copy :=
  ⟨(nth 19), 7, (((nth 19).relocOf 7).get (by decide +kernel)), by decide +kernel⟩

theorem meets_Relocations_2 :
    ∃ (s : Machine.State) (uid : ℕ) (n : ℕ) (r : Reloc), s.relocOf uid = some r ∧ r.phase = RelocPhase.shadow n
      ∧ s.get Pg.fabric FABRIC.RELOC_CFG_WARM_BLOCKS ≤ n :=
  ⟨(nth 21), 7, 100, (((nth 21).relocOf 7).get (by decide +kernel)), by decide +kernel⟩

theorem meets_Relocations_3 :
    ∃ (s : Machine.State) (uid : ℕ) (n : ℕ) (r : Reloc), s.relocOf uid = some r ∧ r.phase = RelocPhase.fade n ∧
      s.relocBlocks r < n ∧ s.awaiting EscStage.relocation = [] :=
  ⟨(nth 22), 7, 5000, (((nth 22).relocOf 7).get (by decide +kernel)), by decide +kernel⟩

theorem meets_Relocations_4 :
    (∃ (s : Machine.State) (t : ℕ) (cls : ℕ), t < 256 ∧ 1 ≤ cls ∧ cls ≤ 7 ∧ s.mayRestore t cls = true) ∧
    (∃ (s : Machine.State) (t : ℕ) (cls : ℕ), t < 256 ∧ 1 ≤ cls ∧ cls ≤ 7 ∧ (s.shedRec t cls).at_ + 375000000000
      ≤ s.now) ∧
    (∃ (s : Machine.State) (m : Master), s.takes m Pg.fabric) :=
  And.imp (fun h => ⟨(nth 23), 3, 2, h⟩)
   (And.imp (fun h => ⟨(nth 33), 0, 1, h⟩)
   (fun h => ⟨(nth 0), .host , h⟩)) (by decide +kernel)

end W31

/-! ### Mixing -/

namespace W32

def dir (k t sd : Nat) (s : State) : State := ((s.set Pg.mix MIX.DIRECT_TGT_KIND k).set Pg.mix MIX.DIRECT_TGT_TILE t).set Pg.mix MIX.DIRECT_TGT_SLOT_DEST sd
def r2 : State := tk 2 0 run1
def full (s : State) : State := s.onMix fun m => { m with direct := List.replicate 64 (.param 3 5 1) }
def setw (s : State) : State := ((((s.pokeBytes 0x800001000 (bytesOf 0x01000500)).pokeBytes 0x800001004 (bytesOf 2)).pokeBytes 0x800001008 (bytesOf 0x0A05)).pokeBytes 0x80000100c (bytesOf 0x40300005)).pokeBytes 0x800001014 (bytesOf 0x8000000b)
def mapd (s : State) : State := ((((en [0x40] s).set Pg.harness HARNESS.DRAM_MAP_SIZE0 8).set Pg.dram0 DRAM.RANK_MAP_LR0_VALID 1)) where Pg.dram0 := 0x40
def stg0 : State := setw (mapd r2)
def stg1 : State := nx (execSceneStage 7 0x800001000 28 stg0)
def stg2 : State := r2.onMix fun m => { m with staging := some ⟨7,5,3,4,[⟨3,5,9,true⟩],[(11,13)]⟩ }
def stg3 : State := nx (execSceneStageDone stg2)
def arm1 : State := nx (execCommitAtScene 7 0x0501 1 0 stg3)
def arm2 : State := { arm1 with mix := { arm1.mix with held := [⟨3,5,9,true⟩] } }
def rmp : State := ((stg3.exchangeBank 3 3).setTile 3 { (stg3.exchangeBank 3 3).tile 3 with rampLeft := 0 })
def mir : State := (nx (execRampEnd 3 rmp)).onMix fun m => { m with stageSlots := [(3,7)] }
def brg (n : Nat) (s : State) : State := (s.set Pg.mix MIX.BRG_STAT_STATE n 4).set Pg.mix MIX.BRG_CFG_DST 77 4
def mon (s : State) : State := (s.setMonitor 5 { s.monitor 5 with source := 10, below := 100000 }).set Pg.mix MIX.MON_CFG_SIL_EN 1 5
def mon2 : State := let s := nx (execSilenceEnter 5 (mon r2)); s.setMonitor 5 { s.monitor 5 with loud := true }
def S : List State := [up, r2.setTile 3 { r2.tile 3 with pass := .running }, dir 0 3 5 r2, dir 1 3 5 r2,
    dir 2 3 11 r2, dir 0 9 5 r2, full (dir 0 3 5 r2), full (dir 1 3 5 r2), full (dir 2 3 5 r2),
    r2.onMix fun m => {m with direct := [.param 4 5 0x81234567]},
    (r2.setTile 4 {r2.tile 4 with pass := .idle}).onMix fun m => {m with direct := [.param 4 5 0x81234567]},
    r2.onMix fun m => {m with held := [⟨3,5,0x81234567,true⟩]}, stg0, stg1, stg2, stg3, arm1, arm2, rmp, mir,
    {r2 with mix := {r2.mix with xfades := [(11,⟨1,2,100,100⟩)]}}, brg 1 r2, brg 2 r2, mon r2, mon2,
    nx (execSnapReq .host (mon r2)), nx (execSnapReq .host r2), r2.onMix fun m => { m with snapBusy := true },
    ((r2.setTile 3 {r2.tile 3 with pass := .idle, dbg := [⟨0x40000003,none⟩]}).set Pg.fabric PG.CTRL_EN 0).set (Pg.awl 3) AWL.DBG_ADDR_AUTOINC 1]
/-- existential over a staging -/
def nth (i : Nat) : State := (S).getD i .reset
def poolCommit : List (Commit) := S.flatMap fun s => s.mix.commits.map (·.2)

theorem meets_DirectChanges_1 :
    (∃ (s : Machine.State) (m : Master) (v : Word), s.takes m Pg.mix ∧ s.mixEnabled = true ∧ s.mix.direct.length
      < 64 ∧ s.directBad (s.directOf v) = false ∧ s.get Pg.mix MIX.DIRECT_TGT_KIND = 0 ∧ s.hasWork (s.get Pg.mix
      MIX.DIRECT_TGT_TILE) = true) ∧
    (∃ (s : Machine.State) (m : Master) (v : Word), s.takes m Pg.mix ∧ s.mixEnabled = true ∧ s.mix.direct.length
      < 64 ∧ s.directBad (s.directOf v) = false ∧ s.get Pg.mix MIX.DIRECT_TGT_KIND = 1 ∧ s.hasWork (s.get Pg.mix
      MIX.DIRECT_TGT_TILE) = true) ∧
    (∃ (s : Machine.State) (m : Master) (v : Word), s.takes m Pg.mix ∧ s.mixEnabled = true ∧ s.mix.direct.length
      < 64 ∧ s.directBad (s.directOf v) = false ∧ s.get Pg.mix MIX.DIRECT_TGT_KIND = 2) ∧
    (∃ (s : Machine.State) (m : Master) (v : Word), s.takes m Pg.mix ∧ s.mixEnabled = true ∧ s.mix.direct.length
      < 64 ∧ s.directBad (s.directOf v) = false ∧ s.get Pg.mix MIX.DIRECT_TGT_KIND = 0 ∧ s.hasWork (s.get Pg.mix
      MIX.DIRECT_TGT_TILE) = false) ∧
    (∃ (s : Machine.State) (m : Master), s.takes m Pg.mix ∧ 64 ≤ s.mix.direct.length ∧ s.get Pg.mix
      MIX.DIRECT_TGT_KIND = 0) :=
  And.imp (fun h => ⟨(nth 2), .host, 0x0000000b#32, h⟩)
   (And.imp (fun h => ⟨(nth 3), .host, 0x0000000b#32, h⟩)
   (And.imp (fun h => ⟨(nth 4), .host, 0x0000000b#32, h⟩)
   (And.imp (fun h => ⟨(nth 1), .host, 0x0000000b#32, h⟩)
   (fun h => ⟨(nth 6), .host, h⟩)))) (by decide +kernel)

theorem meets_DirectChanges_2 :
    (∃ (s : Machine.State) (m : Master), s.takes m Pg.mix ∧ 64 ≤ s.mix.direct.length ∧ s.get Pg.mix
      MIX.DIRECT_TGT_KIND = 1) ∧
    (∃ (s : Machine.State) (m : Master), s.takes m Pg.mix ∧ 64 ≤ s.mix.direct.length ∧ s.get Pg.mix
      MIX.DIRECT_TGT_KIND = 2) ∧
    (∃ (s : Machine.State) (v : Word) (t : ℕ) (slot : ℕ), t < 256 ∧ slot < 4094 ∧ s.betweenPasses t = true ∧
      List.filter (fun (c : Direct) => c.tile? == some t) s.mix.direct = [Direct.param t slot v]) ∧
    (∃ (s : Machine.State) (v : Word) (t : ℕ) (slot : ℕ) (gain : Bool), t < 256 ∧ slot < 4096 ∧ s.flag (Pg.awl t)
      AWL.PSTAT_RAMP_BUSY = false ∧ List.filter (fun (r : StageRec) => r.tile == t) s.mix.held =
      [{ tile := t, slot := slot, value := v, gain := gain }]) :=
  And.imp (fun h => ⟨(nth 7), .host, h⟩)
   (And.imp (fun h => ⟨(nth 8), .host, h⟩)
   (And.imp (fun h => ⟨(nth 9), 0x81234567#32, 4, 5, h⟩)
   (fun h => ⟨(nth 11), 0x81234567#32, 3, 5, true, h⟩))) (by decide +kernel)

theorem meets_Scenes_1 :
    ∃ (s : Machine.State) (addr : ℕ) (n : ℕ),
      let r := s.peeked addr (12 + 8 * n) true
      s.serves ∧ addr < 2 ^ 48 ∧ n ≤ s.xfadeLimit ∧ BitVec.toNat (r.peekWord (addr + 4)) = n ∧ setHeaderOk
        (r.peekWord addr) (r.peekWord (addr + 8)) = true ∧ s.mixEnabled = true ∧ s.mix.staging = none ∧
        s.pairHoldsBack = false ∧ recsStatus (r.setRecs addr n) = St.ok :=
  ⟨(nth 12), 34359742464, 2, by dsimp only; decide +kernel⟩

theorem meets_Scenes_2 :
    ∃ (s : Machine.State) (st : Staging), s.mix.staging = some st :=
  ⟨(nth 13), (((nth 13).mix.staging).get (by decide +kernel)), by decide +kernel⟩

theorem meets_Scenes_3 :
    ∃ (s : Machine.State) (i : ℕ) (c : Commit), s.armed Ck.scene = some (i, c) ∧ c.begun = false :=
  ⟨(nth 16), 0, (poolCommit.get ⟨0, by decide +kernel⟩), by decide +kernel⟩

theorem meets_Scenes_4 :
    ∃ (s : Machine.State) (m : Master) (v : Word) (c : Commit), s.takes m Pg.mix ∧ MIX.COMMIT_CANCEL_GO.of v = 1
      ∧ Machine.SMap.find? s.mix.commits (MIX.COMMIT_CANCEL_ENTRY.of v) = some c ∧ c.kind = Ck.scene :=
  ⟨(nth 16), .host, 0x80000000#32, ((Machine.SMap.find? (nth 16).mix.commits (MIX.COMMIT_CANCEL_ENTRY.of 0x80000000#32)).get (by decide +kernel)), by decide +kernel⟩

theorem meets_Scenes_5 :
    (∃ (s : Machine.State) (t : ℕ), t < 256 ∧ s.flag (Pg.awl t) AWL.PSTAT_RAMP_BUSY = true ∧ (s.tile t).rampLeft
      = 0) ∧
    (∃ (s : Machine.State) (t : ℕ), t < 256 ∧ (s.tile t).mirror = true) :=
  And.imp (fun h => ⟨(nth 18), 3, h⟩)
   (fun h => ⟨(nth 19), 3, h⟩) (by decide +kernel)

theorem meets_MixEvents_1 :
    ∃ (s : Machine.State) (dest : ℕ) (x : Xfade), Machine.SMap.find? s.mix.xfades dest = some x ∧ x.len ≤ x.pos
      ∧ s.mix.waits = [] :=
  ⟨(nth 20), 11, ((Machine.SMap.find? (nth 20).mix.xfades 11).get (by decide +kernel)), by decide +kernel⟩

theorem meets_MixEvents_2 :
    ∃ (s : Machine.State) (dest : ℕ) (x : Xfade), Machine.SMap.find? s.mix.xfades dest = some x ∧ x.len ≤ x.pos :=
  ⟨(nth 20), 11, ((Machine.SMap.find? (nth 20).mix.xfades 11).get (by decide +kernel)), by decide +kernel⟩

theorem meets_MixEvents_3 :
    (∃ (s : Machine.State) (b : ℕ), b < s.bridgeCount ∧ s.bridgeState b = Brg.locked) ∧
    (∃ (s : Machine.State) (b : ℕ), b < s.bridgeCount ∧ s.bridgeState b = Brg.hold) ∧
    (∃ (s : Machine.State) (m : Master), s.takes m Pg.mix ∧ s.part ≠ Part.ca ∧ s.mix.snapBusy = false ∧
      s.mixEnabled = true) ∧
    (∃ (s : Machine.State), s.mix.snapBusy = true ∧ s.uncaptured = false) ∧
    (∃ (s : Machine.State) (k : ℕ) (d : ℕ), k < s.monitorCount ∧ s.patchDomain (s.monitor k).source = some d ∧
      s.flag Pg.mix MIX.MON_CFG_SIL_EN k = true ∧ (s.monitor k).silent = false ∧ s.silenceSamples k d ≤
      (s.monitor k).below) :=
  And.imp (fun h => ⟨(nth 21), 4, h⟩)
   (And.imp (fun h => ⟨(nth 22), 4, h⟩)
   (And.imp (fun h => ⟨(nth 1), .host, h⟩)
   (And.imp (fun h => ⟨(nth 26), h⟩)
   (fun h => ⟨(nth 23), 5, 0, h⟩)))) (by decide +kernel)

theorem meets_MixEvents_4 :
    ∃ (s : Machine.State) (k : ℕ), k < s.monitorCount ∧ (s.monitor k).silent = true ∧ (s.monitor k).loud = true :=
  ⟨(nth 24), 5, by decide +kernel⟩

theorem meets_TilePages :
    (∃ (s : Machine.State) (m : Master) (t : ℕ), t < 256 ∧ s.takes m (Pg.awl t) ∧ s.hasWork t = false ∧ s.get
      (Pg.awl t) AWL.DBG_ADDR_SPACE = 0) ∧
    (∃ (s : Machine.State) (m : Master) (t : ℕ), t < 256 ∧ s.takes m (Pg.awl t) ∧ s.hasWork t = true ∧ s.flag
      Pg.fabric PG.CTRL_EN = true) ∧
    (∃ (s : Machine.State) (t : ℕ), t < 256 ∧ s.present (Pg.awl t) = true ∧ s.betweenPasses t = true) ∧
    (∃ (s : Machine.State) (t : ℕ), t < 256 ∧ s.present (Pg.awl t) = true ∧ s.betweenPasses t = false) ∧
    (∃ (s : Machine.State) (t : ℕ) (r : DbgRead) (l : List DbgRead), t < 256 ∧ (s.tile t).dbg = r :: l ∧
      s.betweenPasses t = true) :=
  And.imp (fun h => ⟨(nth 0), .host, 0, h⟩)
   (And.imp (fun h => ⟨(nth 1), .host, 3, h⟩)
   (And.imp (fun h => ⟨(nth 0), 0, h⟩)
   (And.imp (fun h => ⟨(nth 1), 3, h⟩)
   (fun h => ⟨(nth 28), 3, { addr := 0x40000003#32, lower := none }, [] , h⟩)))) (by decide +kernel)

end W32

/-! ### The Cinch and life -/

namespace W33

def sel (n : Nat) (s : State) : State := s.set Pg.cinch CINCH.SRC_SEL_SOURCE n
def lf (s : State) : State := (en [6] s).set Pg.life LIFE.AREA_SIZE 8
def rep (a b : Bool) (s : State) : State := s.onLife fun l => { l with replan := some ⟨a,b,false,false⟩ }
def S : List State := [rep true false (lf run1),
    ((avs (lf run1)).requestVout 700 false []).onLife (fun l => { l with waited := some 59 }), avs (lf run1), up,
    sel 0x53 up, sel 0x53 (up.raise 0x53 2), sel 0x53 ((up.raise 0x53 2).lower 0x53 2), sel 0x66 up,
    sel 0x66 (up.raise 0x66 0), sel 0x66 ((up.raise 0x66 0).lower 0x66 0),
    sel 0x01 ((run1.raise 0x01 3).raise 0x01 4), sel 0x65 (run1.set Pg.cinch CINCH.SRC_CFG_SEVERITY 3 0x65),
    sel 0x65 (run1.set Pg.cinch CINCH.SRC_CFG_SEVERITY 4 0x65), (up.raise 0x64 0),
    sel 0x67 (run1.set Pg.cinch CINCH.SRC_CFG_SEVERITY 2 0x67),
    sel 0x65 ((run1.set Pg.cinch CINCH.SRC_CFG_SEVERITY 3 0x65).raise 0x65 0), lf up,
    (lf up).set Pg.life LIFE.REC_STAT_WRITING 1, {up with life := {up.life with counters := [(lifeKey 6 0, 3700)]}},
    (nx (execRecNow .host (lf ({up with life := {up.life with counters := [(lifeKey 6 0, 3700)], area := ⟨[(1,none),(3,some ⟨4,0,[],[],0⟩),(4,some ⟨2,0,[],[],0⟩)],[],none⟩}} )))),
    nx (execLifeDump 7 0x1000 65536 (lf up)), rep true false (lf up), rep false true up, rep true true (lf up),
    lf run1, (avs (lf run1)).requestVout 700 false [], (lf run1).requestVout 700 false [],
    ((lf run1).requestVout 700 false []).onLife fun l => { l with waited := some 59 }]
def nth (i : Nat) : State := (S).getD i .reset

theorem meets_CinchRegisters_1 :
    (∃ (s : Machine.State) (m : Master), s.takes m Pg.cinch ∧ Src.all.contains s.shownSource = true ∧ s.locked
      Pg.cinch = false) ∧
    (∃ (s : Machine.State) (m : Master), s.takes m Pg.cinch ∧ Src.all.contains s.shownSource = true ∧ s.live
      s.shownSource = false ∧ s.srcForceable s.shownSource = true ∧ s.flag Pg.cinch CINCH.SRC_STAT_LATCHED
      s.shownSource = false) ∧
    (∃ (s : Machine.State) (m : Master), s.takes m Pg.cinch ∧ Src.all.contains s.shownSource = true ∧ s.live
      s.shownSource = true) ∧
    (∃ (s : Machine.State) (m : Master), s.takes m Pg.cinch ∧ Src.all.contains s.shownSource = true ∧ s.live
      s.shownSource = false ∧ (s.rstate s.shownSource = Rstate.quiet ∨ s.rstate s.shownSource = Rstate.held)) ∧
    (∃ (s : Machine.State) (m : Master) (g : ℕ) (k : ℕ) (i : ℕ), s.takes m Pg.cinch ∧ Src.all.contains
      s.shownSource = true ∧ g < 4 ∧ k < 4 ∧ i < 32) :=
  And.imp (fun h => ⟨(nth 0), .host, h⟩)
   (And.imp (fun h => ⟨(nth 0), .host, h⟩)
   (And.imp (fun h => ⟨(nth 5), .host, h⟩)
   (And.imp (fun h => ⟨(nth 6), .host, h⟩)
   (fun h => ⟨(nth 0), .host, 0, 0, 0, h⟩)))) (by decide +kernel)

theorem meets_CinchRegisters_2 :
    ∃ (s : Machine.State) (m : Master) (k : ℕ), s.takes m Pg.cinch ∧ Src.all.contains s.shownSource = true ∧ k <
      4 :=
  ⟨(nth 0), .host, 0, by decide +kernel⟩

theorem meets_CinchEvents :
    (∃ (s : Machine.State) (src : ℕ) (inst : ℕ), Src.held src = true ∧ s.condition src inst = true) ∧
    (∃ (s : Machine.State) (src : ℕ), s.rstate src = Rstate.quiet) ∧
    (∃ (tj : ℤ), -128 ≤ tj ∧ tj ≤ 127) ∧
    (∃ (s : Machine.State), s.condition Src.tamper 0 = true) :=
  And.imp (fun h => ⟨(nth 10), 1, 3, h⟩)
   (And.imp (fun h => ⟨(nth 6), 83, h⟩)
   (And.imp (fun h => ⟨(-128), h⟩)
   (fun h => ⟨(nth 13), h⟩))) (by decide +kernel)

theorem meets_LifeUnit_1 :
    (∃ (s : Machine.State), s.enabled Pg.life = true ∧ s.flag Pg.life LIFE.REC_STAT_WRITING = false ∧ 8 ≤ s.get
      Pg.life LIFE.AREA_SIZE ∧ s.fwRunning = true) ∧
    (∃ (s : Machine.State) (m : Master), s.enabled Pg.life = true ∧ s.flag Pg.life LIFE.REC_STAT_WRITING = false
      ∧ 8 ≤ s.get Pg.life LIFE.AREA_SIZE ∧ s.takes m Pg.life) ∧
    (∃ (s : Machine.State) (m : Master), s.flag Pg.life LIFE.REC_STAT_WRITING = true ∧ s.takes m Pg.life ∧
      s.enabled Pg.life = true) ∧
    (∃ (s : Machine.State), s.flag Pg.life LIFE.REC_STAT_WRITING = true ∧ s.flag Pg.life LIFE.REC_CTRL_NOW =
      false) ∧
    (∃ (s : Machine.State) (addr : ℕ) (limit : ℕ), s.serves ∧ addr < 2 ^ 48 ∧ 65536 ≤ limit ∧ s.overVault addr
      65536 = false ∧ s.enabled Pg.life = true ∧ s.life.dump = none) :=
  And.imp (fun h => ⟨(nth 0), h⟩)
   (And.imp (fun h => ⟨(nth 0), .host, h⟩)
   (And.imp (fun h => ⟨(nth 17), .host, h⟩)
   (And.imp (fun h => ⟨(nth 17), h⟩)
   (fun h => ⟨(nth 0), 0, 625000000, h⟩)))) (by decide +kernel)

theorem meets_LifeUnit_2 :
    ∃ (s : Machine.State) (addr : ℕ) (l : LongCmd), s.life.dump = some addr ∧ List.find? (fun (l : LongCmd) =>
      l.op == BitVec.ofNat 8 Op.lifeDump) s.ctrl.long = some l :=
  ⟨(nth 20), 4096, { op := 0x0b#8, tag := 0x07#8 }, by decide +kernel⟩

theorem meets_LifeUnit_3 :
    ∃ (s : Machine.State) (r : Replan), s.life.replan = some r ∧ s.avsInUse = false ∧ s.enabled Pg.life = true ∧
      s.life.again = false ∧ s.workTiles = [] ∧ r.moving = false ∧ (r.lowering = true ∨ r.raising = true) :=
  ⟨(nth 21), (((nth 21).life.replan).get (by decide +kernel)), by decide +kernel⟩

theorem meets_LifeUnit_4 :
    ∃ (s : Machine.State) (r : Replan), s.life.replan = some r ∧ s.avsInUse = false ∧ s.enabled Pg.life = false :=
  ⟨(nth 22), (((nth 22).life.replan).get (by decide +kernel)), by decide +kernel⟩

theorem meets_LifeUnit_5 :
    (∃ (s : Machine.State), s.enabled Pg.life = false ∨ s.fabric.running = none) ∧
    (∃ (s : Machine.State) (due : ℕ), s.enabled Pg.life = true ∧ s.fabric.running.isSome = true ∧ (due = if
      s.life.waited.isSome = true then s.life.waitAt + 625000000 else if s.tempShifted = true then s.now else
      s.life.replanAt + 375000000000) ∧ s.life.replan.isSome = true) ∧
    (∃ (s : Machine.State) (due : ℕ), s.enabled Pg.life = true ∧ s.fabric.running.isSome = true ∧ (due = if
      s.life.waited.isSome = true then s.life.waitAt + 625000000 else if s.tempShifted = true then s.now else
      s.life.replanAt + 375000000000) ∧ s.life.replan = none ∧ s.avsInUse = true ∧ s.life.waited ≠ some 59) ∧
    (∃ (s : Machine.State) (due : ℕ), s.enabled Pg.life = true ∧ s.fabric.running.isSome = true ∧ (due = if
      s.life.waited.isSome = true then s.life.waitAt + 625000000 else if s.tempShifted = true then s.now else
      s.life.replanAt + 375000000000) ∧ s.life.replan = none ∧ s.avsInUse = true ∧ s.life.waited = some 59) ∧
    (∃ (s : Machine.State) (due : ℕ), s.enabled Pg.life = true ∧ s.fabric.running.isSome = true ∧ (due = if
      s.life.waited.isSome = true then s.life.waitAt + 625000000 else if s.tempShifted = true then s.now else
      s.life.replanAt + 375000000000) ∧ s.life.replan = none ∧ s.avsInUse = false) :=
  And.imp (fun h => ⟨(nth 3), h⟩)
   (And.imp (fun h => ⟨(nth 0), 375000000000, h⟩)
   (And.imp (fun h => ⟨(nth 25), 375000000000, h⟩)
   (And.imp (fun h => ⟨(nth 1), 625000000, h⟩)
   (fun h => ⟨(nth 2), 375000000000, h⟩)))) (by decide +kernel)

theorem meets_LifeUnit_6 :
    (∃ (s : Machine.State), s.powerOnHours ≤ s.life.hoursDone) ∧
    (∃ (s : Machine.State), s.life.hoursDone < s.powerOnHours) :=
  And.imp (fun h => ⟨(nth 0), h⟩)
   (fun h => ⟨(nth 18) , h⟩) (by decide +kernel)

end W33

/-! ### The Girth -/

namespace W34

def bt (port off len : Nat) (w : Bool) : Beat := ⟨port, if port=3 then 11 else 6, 0, off, len, w, [1,2,3,4,5,6,7,8], [true,false,true,true,true], false, 0⟩
def X : List Beat := [bt 0 0 4 true, bt 1 0 8 true, bt 2 4096 4 false, bt 2 2 3 true, bt 3 2 3 true, bt 3 0 4 false,
    bt 2 0 4 false]
def gw (l : List Beat) (b : Nat) (s : State) : State := s.setBank b { s.bank b with waiting := l }
def nx (o : Machine.Outcome) : State := match o with | .next u => u | _ => State.reset
def en (l : List Nat) (s : State) : State := l.foldl (fun s p => (s.set p PG.CTRL_EN 1).set p PG.STAT_QUIESCED 0) s
def g1 : State := up.setByte (Mem.girth+1) 9
def ret (n : Nat) (s : State) := (s.set Pg.girth GIRTH.RET_STAT_RETAINED n).set Pg.girth GIRTH.RET_CTRL_SEG n
def bg (p : Nat) (ph : BgtPhase) (s : State) := s.onGirth fun g => { g with bgt := some (p,ph), reserve := [(1,7),(5,6)] }
def swp (s : State) := (en [0x48] s).set Pg.girth GIRTH.BGT_CTRL_SWEEP 1
def vm (n : Nat) (s : State) := s.set Pg.girth GIRTH.VAULT_MAP_LO_MAP n
def wp (s : State) : State := s.startWipe s.vaultMap 4
def vbyte (s : State) : State := (s.setByte (Mem.girth + s.vaultBase + 5) 8).setByte (Mem.girth + s.vaultBase + 65536*2+ 5) 8
def S : List State := [up] ++ (X.map fun x => gw [x] 0 g1) ++ (X.map fun x => gw [x] 1 (bg 0 .save g1)) ++ (X.map fun x => gw [x] 0 (bg 0 .test g1)) ++ (X.map fun x => gw [x] 0 (bg 0 .restore g1)) ++ [gw [bt 0 0 4 true, bt 2 0 8 true] 0 g1,
    gw [bt 1 0 8 true, bt 3 2 3 true] 0 (bg 0 .restore g1),
    gw [bt 0 0 4 true, bt 2 2 3 true] 0 (g1.onGirth fun g => {g with pinned := some 0})] ++ [gw [bt 2 0 4 false] 0 (g1.onGirth fun g => {g with poison := [0]}),
    gw [bt 2 0 4 false] 0 (ret 1 g1), ret 2 g1, g1.set Pg.girth GIRTH.RET_STAT_WAKING 5,
    g1.onGirth fun g => {g with writebacks := [3,1025]}, g1.raise Src.girthShadow 2]
def S2 : List State := [swp up, swp (bg 3 .save up), bg 2 .save g1, bg 0 .save g1, bg 2 .test g1,
    (bg 2 .test g1).set Pg.girth GIRTH.BANK_STAT_SPARES_USED 8 2, bg 0 .restore g1, bg 2 .restore g1,
    (bg 2 .restore g1).onGirth fun g => {g with next := 16384}]
def S3 : List State := [up, vm 5 up, vbyte (vm 7 up), wp (vbyte (vm 7 up)),
    nx (execVaultMapWrite (.core 0) false 1 (vbyte (vm 5 up))), nx (execLifeCycleChange 1 (vbyte (vm 5 up))),
    (vm 5 (ret 4 up)), bg 15360 .test (vm 5 up), bg 15360 .restore (vm 4 up),
    {(wp (vbyte (vm 7 up))) with part := .ca}]
def nth (i : Nat) : State := (S ++ S2 ++ S3).getD i .reset
def poolBeat : List (Beat) := X

theorem meets_GirthSlots_1 :
    ∃ (s : Machine.State) (bank : ℕ) (x : Beat),
      let seg := bank / s.banksPerSegment
      bank < s.bankCount ∧ s.retained seg = false ∧ s.waking seg = false ∧ (s.bank bank).waiting = [x] ∧ x.port
        < 4 ∧ x.locked = false ∧ s.misaligned x = false ∧ s.vaultDenies x.master x.off = false ∧ x.len ≤ 16 ∧
        (s.girth.pinned = none ∨ s.girth.bgt = none) ∧ x.write = true :=
  ⟨(nth 1), 0, (poolBeat.get ⟨0, by decide +kernel⟩), by dsimp only; decide +kernel⟩

theorem meets_GirthSlots_2 :
    ∃ (s : Machine.State) (bank : ℕ) (x : Beat),
      let seg := bank / s.banksPerSegment
      bank < s.bankCount ∧ s.retained seg = false ∧ s.waking seg = false ∧ (s.bank bank).waiting = [x] ∧ x.port
        < 4 ∧ x.locked = false ∧ s.misaligned x = false ∧ s.vaultDenies x.master x.off = false ∧ x.len ≤ 16 ∧
        (s.girth.pinned = none ∨ s.girth.bgt = none) ∧ x.write = false ∧ s.beatPoisoned x = false :=
  ⟨(nth 3), 0, (poolBeat.get ⟨2, by decide +kernel⟩), by dsimp only; decide +kernel⟩

theorem meets_GirthSlots_3 :
    ∃ (s : Machine.State) (bank : ℕ) (x : Beat),
      let seg := bank / s.banksPerSegment
      bank < s.bankCount ∧ s.retained seg = false ∧ s.waking seg = false ∧ (s.bank bank).waiting = [x] ∧ x.port
        < 4 ∧ x.locked = false ∧ s.misaligned x = false ∧ s.vaultDenies x.master x.off = false ∧ x.len ≤ 16 ∧
        (s.girth.pinned = none ∨ s.girth.bgt = none) ∧ x.write = false ∧ x.off % 4 = 0 ∧ x.len = 4 ∧ x.off / 4 ∈
        s.girth.poison :=
  ⟨(nth 32), 0, (poolBeat.get ⟨6, by decide +kernel⟩), by dsimp only; decide +kernel⟩

theorem meets_GirthSlots_4 :
    ∃ (s : Machine.State) (bank : ℕ) (x : Beat) (y : Beat),
      let seg := bank / s.banksPerSegment
      bank < s.bankCount ∧ s.retained seg = false ∧ s.waking seg = false ∧ (s.bank bank).waiting = [x, y] ∧
        x.port < y.port ∧ y.port < 4 ∧ x.locked = false ∧ s.misaligned x = false ∧ s.vaultDenies x.master x.off
        = false ∧ x.len ≤ 16 ∧ (s.girth.pinned = none ∨ s.girth.bgt = none) ∧ y.locked = false ∧ s.misaligned y
        = false ∧ s.vaultDenies y.master y.off = false ∧ y.len ≤ 16 ∧ (s.girth.pinned = none ∨ s.girth.bgt =
        none) ∧ x.contends y = true ∧ (s.bank bank).lastPort ≠ x.port ∧ s.bankOf x.off = bank :=
  ⟨(nth 30), 0, (poolBeat.get ⟨1, by decide +kernel⟩), (poolBeat.get ⟨4, by decide +kernel⟩), by dsimp only; decide +kernel⟩

theorem meets_GirthSlots_5 :
    ∃ (s : Machine.State) (bank : ℕ),
      let seg := bank / s.banksPerSegment
      bank < s.bankCount ∧ (s.bank bank).waiting ≠ [] ∧ s.retained seg = true ∧ s.waking seg = false :=
  ⟨(nth 33), 0, by dsimp only; decide +kernel⟩

theorem meets_GirthSlots_6 :
    ∃ (s : Machine.State) (bank : ℕ),
      let seg := bank / s.banksPerSegment
      bank < s.bankCount ∧ s.waking seg = true :=
  ⟨(nth 35), 0, by dsimp only; decide +kernel⟩

theorem meets_GirthSlots_7 :
    (∃ (s : Machine.State) (bank : ℕ) (w : ℕ) (rest : List ℕ), bank < s.bankCount ∧ (s.bank bank).waiting = [] ∧
      s.girth.writebacks = w :: rest ∧ s.bankOf (4 * w) = bank) ∧
    (∃ (s : Machine.State) (bank : ℕ) (port : ℕ), bank < s.bankCount ∧ 1 ≤ port ∧ port ≤ 3 ∧ s.condition
      Src.girthShadow (port + 1) = true) ∧
    (∃ (s : Machine.State) (bank : ℕ) (port : ℕ), bank < s.bankCount ∧ 1 ≤ port ∧ port ≤ 3 ∧ s.condition
      Src.girthShadow (port + 1) = false) :=
  And.imp (fun h => ⟨(nth 36), 0, 3, [1025], h⟩)
   (And.imp (fun h => ⟨(nth 37), 0, 1, h⟩)
   (fun h => ⟨(nth 0), 0, 1, h⟩)) (by decide +kernel)

theorem meets_BackgroundTest_1 :
    (∃ (s : Machine.State), s.sweeps = true ∧ s.girth.bgt = none ∧ s.girth.ahead = [] ∧ s.girth.next <
      s.girthPages ∧ s.testable s.girth.next = true) ∧
    (∃ (s : Machine.State), s.sweeps = true ∧ s.girth.bgt ≠ none ∧ s.girth.overdue = false) ∧
    (∃ (s : Machine.State) (page : ℕ), s.girth.bgt = some (page, BgtPhase.save)) :=
  And.imp (fun h => ⟨(nth 38), h⟩)
   (And.imp (fun h => ⟨(nth 39), h⟩)
   (fun h => ⟨(nth 8), 0, h⟩)) (by decide +kernel)

theorem meets_BackgroundTest_2 :
    ∃ (s : Machine.State) (page : ℕ) (row : ℕ),
      let b := s.bankOf (4096 * page)
      s.girth.bgt = some (page, BgtPhase.test) ∧ s.girth.pinned = none ∧ s.get Pg.girth
        GIRTH.BANK_STAT_SPARES_USED b < 8 ∧ row < 4 :=
  ⟨(nth 15), 0, 0, by dsimp only; decide +kernel⟩

theorem meets_BackgroundTest_3 :
    ∃ (s : Machine.State) (page : ℕ) (row : ℕ),
      let b := s.bankOf (4096 * page)
      s.girth.bgt = some (page, BgtPhase.test) ∧ s.girth.pinned = none ∧ s.get Pg.girth
        GIRTH.BANK_STAT_SPARES_USED b = 8 ∧ row < 4 :=
  ⟨(nth 43), 2, 0, by dsimp only; decide +kernel⟩

theorem meets_BackgroundTest_4 :
    ∃ (s : Machine.State) (page : ℕ), s.girth.bgt = some (page, BgtPhase.restore) ∧ s.girth.overdue = false ∧
      s.girth.pinned = none :=
  ⟨(nth 22), 0, by decide +kernel⟩

theorem meets_Vault_1 :
    ∃ (s : Machine.State) (m : Master) (v : Word),
      let lo := BitVec.setWidth 64 v
      s.takes m Pg.girth ∧ s.locked Pg.girth = false ∧ Master.isCore m = true ∧ s.vaultMap &&& 4294967295 &&&
        ~~~lo = 0 :=
  ⟨(nth 0), (Master.core 0), 0x00000000#32, by dsimp only; decide +kernel⟩

theorem meets_Vault_2 :
    ∃ (s : Machine.State) (m : Master) (v : Word),
      let lo := BitVec.setWidth 64 v
      s.takes m Pg.girth ∧ s.locked Pg.girth = false ∧ Master.isCore m = true ∧ s.vaultMap &&& 4294967295 &&&
        ~~~lo ≠ 0 :=
  ⟨(nth 48), (Master.core 0), 0x00000000#32, by dsimp only; decide +kernel⟩

theorem meets_Vault_3 :
    ∃ (s : Machine.State) (m : Master) (v : Word),
      let lo := BitVec.setWidth 64 v
      s.takes m Pg.girth ∧ s.locked Pg.girth = false ∧ Master.isCore m = true ∧ s.vaultMap &&&
        ↑18446744069414584320 &&& ~~~(lo <<< 32) = 0 :=
  ⟨(nth 0), (Master.core 0), 0x00000000#32, by dsimp only; decide +kernel⟩

theorem meets_Vault_4 :
    (∃ (s : Machine.State) (m : Master), s.takes m Pg.girth ∧ Master.isCore m = false) ∧
    (∃ (s : Machine.State) (cyc : BitVec 2), cyc ≠ 3 ∧ cyc ≠ s.life.cycle) ∧
    (∃ (s : Machine.State), s.wiping = true) ∧
    (∃ (s : Machine.State) (m : Master) (v : Word) (seg : ℕ), seg < 8 ∧ s.takes m Pg.girth ∧ s.locked Pg.girth =
      false ∧ v = BitVec.ofNat 32 (2 ^ seg) ∧ s.get Pg.girth GIRTH.RET_STAT_RETAINED = 0 ∧ s.get Pg.girth
      GIRTH.RET_CTRL_SEG = 0 ∧ s.planUses seg = false ∧ s.waking seg = false ∧ s.wiping = false ∧ s.segmentIdle
      seg = true) :=
  And.imp (fun h => ⟨(nth 0), .host, h⟩)
   (And.imp (fun h => ⟨(nth 0), 0x0#2, h⟩)
   (And.imp (fun h => ⟨(nth 50), h⟩)
   (fun h => ⟨(nth 0), .host, 0x00000001#32, 0 , h⟩))) (by decide +kernel)

end W34

/-! ### The DRAM -/

namespace W35

def dr (f : Dram → Dram) (s : State) : State := s.onDram 0 f
def pg : Nat := Pg.dram 0
def d0 : State := (((en [0x40] b0).set pg DRAM.CFG_RANKS 15).set pg (DRAM.RANK_STAT_STATE 0) 2).set pg (DRAM.RANK_STAT_STATE 1) 1
def rs (l : List (Nat × Nat)) (s : State) : State := l.foldl (fun s e => s.setRankState 0 e.1 e.2) s
def hr (a q : Nat) : HReq := ⟨6, 1, a, 64, true, [], [], false, q, false⟩
def txx (a q : Nat) (g : Bool) : Txn := { Txn.new (hr a q) 32 q with granted := g, beats := 1 }
def wtx (l : List Txn) (s : State) : State := { s with harness := { s.harness with txns := l } }
def mp (s : State) : State := s.set Pg.harness HARNESS.DRAM_MAP_SIZE0 8
def lr0 (r : Nat) (s : State) : State := (s.set pg DRAM.RANK_MAP_LR0 r).set pg DRAM.RANK_MAP_LR0_VALID 1
def svc : State := mp (lr0 0 (rs [(0,3),(1,4),(2,5),(3,2)] d0))
def busy : State := wtx [txx 0x800000000 14 true] svc
def debt (n : Nat) (s : State) : State := s.setRank 0 0 { s.rank 0 0 with debtNs := 3900*n + 7, openRows := [(3,1)], tables := [(1,[(2,3)])] }
def mig (pos : Nat) : State := (svc.startMigration 0 0 1).onDram 0 fun d => {d with migPos := pos}
def S : List State := [up, d0, svc, debt 0 svc, debt 2 svc, debt 3 svc, debt 0 busy, debt 2 busy, debt 3 busy,
    (busy.set pg DRAM.CFG_WCRC_EN 1), dr (fun d => {d with wcrc := [(0,2)]}) (busy.set pg DRAM.CFG_WCRC_EN 1),
    svc.setRank 0 0 {svc.rank 0 0 with mr4 := true},
    dr (fun d => {d with storm := [0], stormEnd := [(0,900)], helper := true, mrBusy := true, throttle := []}) ((svc.set pg DRAM.TRN_CTRL_BURSTS 1).set pg DRAM.TRN_CTRL_SUBCH 3),
    dr (fun d => {d with mrBusy := true}) (svc.set pg DRAM.MR_CTRL_WRITE 1),
    (run1.onFabric fun f => {f with running := some {P1 with streams := [⟨0,true,5,0,0,100,0⟩]}})]
def S2 : List State := [d0, svc, rs [(0,9)] d0, rs [(0,10)] d0, rs [(0,2),(1,4)] d0, rs [(0,10),(1,4)] d0,
    nx (execTrainDram 7 0 3 d0), nx (execRankCmdTest .host 0 0 (rs [(0,9)] d0)), mig 0, mig 5, mig (2^21),
    (dr (fun d => {d with freqBusy := some 1}) d0),
    (en [0x40] run1).onFabric fun f => {f with running := some {P1 with streams := [⟨0,true,5,0,0,100,0⟩]}}]
def nth (i : Nat) : State := (S ++ S2).getD i .reset

theorem meets_DramHelpers_1 :
    ∃ (s : Machine.State) (c : ℕ) (t : Txn) (word : ℕ) (a : ℕ) (off : ℕ) (cs : ℕ) (spare : Bool),
      let failures := nget 0 (s.dram c).wcrc (2 * word + bit spare)
      c < 2 ∧ s.hasDram c = true ∧ s.dramWrite c = some t ∧ s.flag (Pg.dram c) DRAM.CFG_WCRC_EN = true ∧
        (s.lineAddrs t.req)[word]? = some a ∧ s.dramAt a = some (c, off) ∧ (s.ranksHit c off true)[bit spare]? =
        some cs ∧ cs < 4 ∧ a ∉ t.dropped ∧ failures < 2 :=
  ⟨(nth 6), 0, (((nth 6).dramWrite 0).get (by decide +kernel)), 0, 34359738368, 0, 0, false, by dsimp only; decide +kernel⟩

theorem meets_DramHelpers_2 :
    ∃ (s : Machine.State) (c : ℕ) (t : Txn) (word : ℕ) (a : ℕ) (off : ℕ) (cs : ℕ) (spare : Bool),
      let failures := nget 0 (s.dram c).wcrc (2 * word + bit spare)
      c < 2 ∧ s.hasDram c = true ∧ s.dramWrite c = some t ∧ s.flag (Pg.dram c) DRAM.CFG_WCRC_EN = true ∧
        (s.lineAddrs t.req)[word]? = some a ∧ s.dramAt a = some (c, off) ∧ (s.ranksHit c off true)[bit spare]? =
        some cs ∧ cs < 4 ∧ a ∉ t.dropped ∧ 2 ≤ failures :=
  ⟨(nth 10), 0, (((nth 10).dramWrite 0).get (by decide +kernel)), 0, 34359738368, 0, 0, false, by dsimp only; decide +kernel⟩

theorem meets_DramHelpers_3 :
    ∃ (s : Machine.State) (c : ℕ) (patch : ℕ) (r : Plan) (x : PlanStream), c < 2 ∧ s.hasDram c = true ∧
      s.fabric.running = some r ∧ List.find? (fun (x : PlanStream) => x.chan == c && x.read && x.patch == patch)
      r.streams = some x :=
  ⟨(nth 14), 0, 5, (((nth 14).fabric.running).get (by decide +kernel)), ((List.find? (fun (x : PlanStream) => x.chan == 0 && x.read && x.patch == 5) (((nth 14).fabric.running).get (by decide +kernel)).streams).get (by decide +kernel)), by decide +kernel⟩

theorem meets_DramHelpers_4 :
    ∃ (s : Machine.State) (c : ℕ) (r : ℕ), c < 2 ∧ s.hasDram c = true ∧ r < 4 ∧ s.populated c r = true ∧ (s.dram
      c).selfRefresh = false ∧ s.rtBusy c r = false :=
  ⟨(nth 1), 0, 0, by decide +kernel⟩

theorem meets_DramHelpers_5 :
    ∃ (s : Machine.State) (c : ℕ) (r : ℕ),
      let due := s.owed c r + 1
      c < 2 ∧ s.hasDram c = true ∧ r < 4 ∧ s.populated c r = true ∧ (s.dram c).selfRefresh = false ∧ s.rtBusy c
        r = true ∧ due < 4 :=
  ⟨(nth 6), 0, 0, by dsimp only; decide +kernel⟩

theorem meets_DramHelpers_6 :
    ∃ (s : Machine.State) (c : ℕ) (r : ℕ),
      let due := s.owed c r + 1
      c < 2 ∧ s.hasDram c = true ∧ r < 4 ∧ s.populated c r = true ∧ (s.dram c).selfRefresh = false ∧ s.rtBusy c
        r = true ∧ due = 4 :=
  ⟨(nth 8), 0, 0, by dsimp only; decide +kernel⟩

theorem meets_DramHelpers_7 :
    (∃ (s : Machine.State) (c : ℕ), c < 2 ∧ s.hasDram c = true ∧ s.flag (Pg.dram c) DRAM.REF_CFG_FORCE_2X = false) ∧
    (∃ (s : Machine.State) (c : ℕ) (r : ℕ) (bank : ℕ), c < 2 ∧ s.hasDram c = true ∧ r < 4 ∧ bank < 64) ∧
    (∃ (s : Machine.State) (c : ℕ) (r : ℕ), c < 2 ∧ s.hasDram c = true ∧ r < 4 ∧ (s.dram c).storm = [r]) ∧
    (∃ (s : Machine.State) (m : Master) (c : ℕ) (v : Word), c < 2 ∧ s.hasDram c = true ∧ s.takes m (Pg.dram c) ∧
      s.enabled (Pg.dram c) = true ∧ DRAM.TRN_CTRL_GO.of v = 1 ∧ DRAM.TRN_CTRL_SUBCH.of v ≠ 0 ∧
      DRAM.TRN_CTRL_OP.of v ≠ 3 ∧ (s.dram c).helper = false) ∧
    (∃ (s : Machine.State) (m : Master) (c : ℕ) (v : Word), c < 2 ∧ s.hasDram c = true ∧ s.takes m (Pg.dram c) ∧
      s.enabled (Pg.dram c) = true ∧ DRAM.MR_CTRL_GO.of v = 1 ∧ (s.dram c).mrBusy = false) :=
  And.imp (fun h => ⟨(nth 0), 0, h⟩)
   (And.imp (fun h => ⟨(nth 0), 0, 0, 0, h⟩)
   (And.imp (fun h => ⟨(nth 12), 0, 0, h⟩)
   (And.imp (fun h => ⟨(nth 1), .host, 0, 0x81234567#32, h⟩)
   (fun h => ⟨(nth 1), .host, 0, 0x80000000#32, h⟩)))) (by decide +kernel)

theorem meets_DramHelpers_8 :
    (∃ (s : Machine.State) (c : ℕ), c < 2 ∧ s.hasDram c = true ∧ (s.dram c).helper = true) ∧
    (∃ (s : Machine.State) (c : ℕ), c < 2 ∧ s.hasDram c = true ∧ (s.dram c).mrBusy = true) :=
  And.imp (fun h => ⟨(nth 12), 0, h⟩)
   (fun h => ⟨(nth 12), 0, h⟩) (by decide +kernel)

theorem meets_DramRanks_1 :
    (∃ (s : Machine.State) (c : ℕ) (v : Word), c < 2 ∧ s.hasDram c = true ∧ s.serves ∧ s.enabled (Pg.dram c) =
      true ∧ s.migActive c = false ∧ s.dramBusy c = false ∧ BitVec.toNat v < 16 ∧ (s.mappedGiB c = 0 ∨ ∀ (r :
      ℕ), r ∈ ranksOf (BitVec.toNat v) → mappedRank (s.rankState c r) = false)) ∧
    (∃ (s : Machine.State) (c : ℕ) (mask : BitVec 4) (tag : BitVec 8), c < 2 ∧ s.hasDram c = true ∧ (s.dram
      c).training = some (mask, tag) ∧ s.flag (Pg.dram c) DRAM.MIG_STAT_WAITING = false) ∧
    (∃ (s : Machine.State) (m : Master) (c : ℕ) (r : BitVec 2), c < 2 ∧ s.hasDram c = true ∧ s.takes m (Pg.dram
      c) ∧ s.mappedGiB c = 0 ∧ s.rankState c r.toNat = Rs.ready ∧ s.flag (Pg.dram c) DRAM.RANK_MAP_LR0_VALID =
      false) ∧
    (∃ (s : Machine.State) (m : Master) (c : ℕ) (r : BitVec 2), c < 2 ∧ s.hasDram c = true ∧ s.takes m (Pg.dram
      c) ∧ (s.rankState c r.toNat ≠ Rs.ready ∨ s.mappedGiB c ≠ 0)) ∧
    (∃ (s : Machine.State) (m : Master) (c : ℕ) (r : BitVec 2), c < 2 ∧ s.hasDram c = true ∧ s.takes m (Pg.dram
      c) ∧ s.mappedGiB c = 0 ∧ s.rankState c r.toNat = Rs.ready ∧ (s.rankIn c Rs.spare).isSome = false ∧ (s.dram
      c).failedWait = []) :=
  And.imp (fun h => ⟨(nth 1), 0, 0x00000000#32, h⟩)
   (And.imp (fun h => ⟨(nth 21), 0, 0x3#4, 0x07#8, h⟩)
   (And.imp (fun h => ⟨(nth 1), .host, 0, 0x0#2, h⟩)
   (And.imp (fun h => ⟨(nth 0), .host, 0, 0x0#2, h⟩)
   (fun h => ⟨(nth 1), .host, 0, 0x0#2, h⟩)))) (by decide +kernel)

theorem meets_DramRanks_2 :
    (∃ (s : Machine.State) (m : Master) (c : ℕ) (r : BitVec 2), c < 2 ∧ s.hasDram c = true ∧ s.takes m (Pg.dram
      c) ∧ s.mappedGiB c = 0 ∧ s.rankState c r.toNat = Rs.ready ∧ (s.rankIn c Rs.spare).isSome = true ∧
      s.sparesFull c = false ∧ (s.dram c).failedWait = []) ∧
    (∃ (s : Machine.State) (m : Master) (c : ℕ) (r : BitVec 2) (spare : ℕ), c < 2 ∧ s.hasDram c = true ∧ s.takes
      m (Pg.dram c) ∧ s.rankState c r.toNat = Rs.service ∧ s.migActive c = false ∧ s.rankIn c Rs.spare = some
      spare ∧ s.enabled (Pg.dram c) = true ∧ s.dramBusy c = false) ∧
    (∃ (s : Machine.State) (m : Master) (c : ℕ), c < 2 ∧ s.hasDram c = true ∧ s.takes m (Pg.dram c) ∧ s.rankIn c
      Rs.spare = none) ∧
    (∃ (s : Machine.State) (m : Master) (c : ℕ) (r : BitVec 2), c < 2 ∧ s.hasDram c = true ∧ s.takes m (Pg.dram
      c) ∧ s.rankState c r.toNat = Rs.retrained ∧ s.migActive c = false ∧ s.dramBusy c = false ∧ s.enabled
      (Pg.dram c) = true) ∧
    (∃ (s : Machine.State) (m : Master) (c : ℕ), c < 2 ∧ s.hasDram c = true ∧ s.takes m (Pg.dram c) ∧ s.migActive
      c = true) :=
  And.imp (fun h => ⟨(nth 19), .host, 0, 0x0#2, h⟩)
   (And.imp (fun h => ⟨(nth 2), .host, 0, 0x0#2, 1, h⟩)
   (And.imp (fun h => ⟨(nth 0), .host, 0, h⟩)
   (And.imp (fun h => ⟨(nth 17), .host, 0, 0x0#2, h⟩)
   (fun h => ⟨(nth 23), .host, 0, h⟩)))) (by decide +kernel)

theorem meets_DramRanks_3 :
    (∃ (s : Machine.State) (m : Master) (c : ℕ) (r : BitVec 2), c < 2 ∧ s.hasDram c = true ∧ s.takes m (Pg.dram
      c) ∧ s.rankState c r.toNat = Rs.tested ∧ (s.rankIn c Rs.spare).isSome = false ∧ (s.dram c).failedWait = []) ∧
    (∃ (s : Machine.State) (m : Master) (c : ℕ) (r : BitVec 2), c < 2 ∧ s.hasDram c = true ∧ s.takes m (Pg.dram
      c) ∧ s.rankState c r.toNat ≠ Rs.tested) ∧
    (∃ (s : Machine.State) (c : ℕ) (r : ℕ), c < 2 ∧ s.hasDram c = true ∧ (s.dram c).testing = some r ∧ r < 4 ∧
      s.flag (Pg.dram c) DRAM.MIG_STAT_WAITING = false) ∧
    (∃ (s : Machine.State) (c : ℕ), c < 2 ∧ s.hasDram c = true ∧ s.migActive c = true ∧ s.flag (Pg.dram c)
      DRAM.MIG_STAT_WAITING = false ∧ (s.dram c).migPaused = false ∧ s.portFree (32 + c) = true ∧ (s.dram
      c).migPos < s.rankUnits c) ∧
    (∃ (s : Machine.State) (c : ℕ), c < 2 ∧ s.hasDram c = true ∧ s.migActive c = true ∧ s.flag (Pg.dram c)
      DRAM.MIG_STAT_WAITING = false ∧ (s.dram c).migPaused = false ∧ s.portFree (32 + c) = true ∧ (s.dram
      c).migPos = s.rankUnits c ∧ s.migFrom c ≠ s.migTo c ∧ s.migFrom c < 4 ∧ s.migTo c < 4 ∧ s.get (Pg.dram c)
      DRAM.RANK_MAP_LR0 = s.migFrom c ∧ s.flag (Pg.dram c) DRAM.RANK_MAP_LR0_VALID = true ∧ s.rankState c
      (s.migFrom c) = Rs.migrating ∧ s.rankState c (s.migTo c) = Rs.spare ∧ (s.dram c).failedWait = []) :=
  And.imp (fun h => ⟨(nth 18), .host, 0, 0x0#2, h⟩)
   (And.imp (fun h => ⟨(nth 0), .host, 0, 0x0#2, h⟩)
   (And.imp (fun h => ⟨(nth 22), 0, 0, h⟩)
   (And.imp (fun h => ⟨(nth 23), 0, h⟩)
   (fun h => ⟨(nth 25), 0, h⟩)))) (by decide +kernel)

theorem meets_DramRanks_4 :
    (∃ (s : Machine.State) (m : Master) (c : ℕ) (v : Word), c < 2 ∧ s.hasDram c = true ∧ s.takes m (Pg.dram c) ∧
      s.enabled (Pg.dram c) = true ∧ (s.dram c).freqBusy = none ∧ DRAM.FREQ_CTRL_CHANGE.of v = 1 ∧ s.streamsOn c
      = false ∧ s.migActive c = false ∧ s.dramBusy c = false) ∧
    (∃ (s : Machine.State) (m : Master) (c : ℕ) (v : Word), c < 2 ∧ s.hasDram c = true ∧ s.takes m (Pg.dram c) ∧
      s.enabled (Pg.dram c) = true ∧ (s.dram c).freqBusy = none ∧ DRAM.FREQ_CTRL_CHANGE.of v = 1 ∧ (s.streamsOn
      c = true ∨ s.migActive c = true)) ∧
    (∃ (s : Machine.State) (c : ℕ) (target : ℕ), c < 2 ∧ s.hasDram c = true ∧ (s.dram c).freqBusy = some target ∧
      target < 2 ∧ (s.harness.txns.any fun (t : Txn) => t.granted && t.port == 32 + c) = false) ∧
    (∃ (s : Machine.State) (m : Master) (c : ℕ) (v : Word), c < 2 ∧ s.hasDram c = true ∧ s.takes m (Pg.dram c) ∧
      s.locked (Pg.dram c) = false ∧ DRAM.CFG_PAGE_IDLE.of v ≠ 0 ∧ s.mappedGiB c ≠ 0) ∧
    (∃ (s : Machine.State) (m : Master) (c : ℕ) (v : Word), c < 2 ∧ s.hasDram c = true ∧ s.takes m (Pg.dram c) ∧
      s.locked (Pg.dram c) = false ∧ DRAM.CFG_PAGE_IDLE.of v ≠ 0 ∧ s.mappedGiB c = 0 ∧ DRAM.CFG_DEVICE.of v < 2) :=
  And.imp (fun h => ⟨(nth 1), .host, 0, 0x80000000#32, h⟩)
   (And.imp (fun h => ⟨(nth 23), .host, 0, 0x80000000#32, h⟩)
   (And.imp (fun h => ⟨(nth 26), 0, 1, h⟩)
   (And.imp (fun h => ⟨(nth 2), .host, 0, 0x00000001#32, h⟩)
   (fun h => ⟨(nth 0), .host, 0, 0x00000001#32 , h⟩)))) (by decide +kernel)

end W35

/-! ### The lanes -/

namespace W36

def ln (n st rate : Nat) (f : Lane → Lane) (s : State) : State := (((en [Pg.lane n] s).set (Pg.lane n) LANE.STAT_STATE st).set (Pg.lane n) LANE.STAT_RATE rate).onLane n f
def wl (n : Nat) (s : State) : State := ((s.set (Pg.lane n) LANE.CFG_MODE 1).set (Pg.lane n) LANE.CFG_RATE_MAX 2).set (Pg.lane n) LANE.NEG_OUI_OUI 5
def mk1 (n : Nat) : List State := [0,1,2,3,4,5,6,
    7].flatMap fun st => [(ln n st 1 (fun x => {x with mode := true, rateMax := 2, try_ := 2, last := 2, everUp := true, estAt := some 3}) (wl n up)),
    ln n st 2 (fun x => {x with mode := false, rateMax := 0, try_ := 1, waking := true, everUp := true, losAt := 5, estAt := some 9}) ((((up.set (Pg.lane n) LANE.STAT_LOS 1).raise Src.laneLos n).set (Pg.lane n) LANE.CFG_AUTO_RESTART 1).set (Pg.lane n) LANE.PRBS_CTRL_CHK_EN 1),
    ln n st 2 (fun x => {x with mode := true, rateMax := 1, try_ := 1, everUp := true, losAt := 5, estAt := some 9}) (((up.set (Pg.lane n) LANE.SLEEP_RX 1).set (Pg.lane n) LANE.PRBS_STAT_CHK_LOCK 1).set (Pg.lane n) LANE.SLEEP_WAKE_ON_SIG 1)]
def S : List State := mk1 0 ++ mk1 5 ++ [ln 7 5 2 id up, up.onCtrl fun c => { c with linkUp := true },
    ((ln 0 6 2 id up).set (Pg.lane 0) LANE.PRBS_CTRL_CHK_EN 1).set (Pg.lane 0) LANE.PRBS_CTRL_GEN_EN 1,
    ((en [Pg.lane 0] up).set (Pg.lane 0) LANE.SLEEP_RX 0).set (Pg.lane 0) LANE.STAT_STATE 5,
    (((en [Pg.lane 0] up).set (Pg.lane 0) LANE.SLEEP_RX 0).set (Pg.lane 0) LANE.STAT_STATE 5).set (Pg.lane 0) LANE.STAT_LOS 1,
    (ln 0 6 2 id up).set (Pg.lane 0) LANE.PRBS_CTRL_CHK_EN 1]
def p7 : Nat → List Bool → List Bool | 0, l => l | k+1, l => p7 k (l ++ [l.getD (l.length-7) false != l.getD (l.length-6) false])
def nth (i : Nat) : State := (S).getD i .reset
def poolListBool : List (List Bool) := [[], List.replicate 71 false, p7 64 [true,false,false,false,false,false,false]]

theorem meets_Lanes_1 :
    (∃ (s : Machine.State) (n : ℕ), n < 10 ∧ s.present (Pg.lane n) = true ∧ s.laneState n = Ls.listen) ∧
    (∃ (s : Machine.State) (n : ℕ), n < 10 ∧ s.present (Pg.lane n) = true ∧ s.laneState n = Ls.detect) ∧
    (∃ (s : Machine.State) (n : ℕ), n < 10 ∧ s.present (Pg.lane n) = true ∧ s.laneState n = Ls.switch ∧ s.enabled
      (Pg.lane n) = true) ∧
    (∃ (s : Machine.State) (n : ℕ) (ppm : BitVec 16), n < 10 ∧ s.present (Pg.lane n) = true ∧ -20000 ≤ ppm.toInt
      ∧ ppm.toInt ≤ 20000 ∧ s.enabled (Pg.lane n) = true ∧ pcieLane n = false ∧ (s.laneState n = Ls.listen ∨
      s.laneState n = Ls.detect ∨ s.laneState n = Ls.switch)) ∧
    (∃ (s : Machine.State) (n : ℕ), n < 10 ∧ s.present (Pg.lane n) = true ∧ s.laneState n = Ls.negotiate) :=
  And.imp (fun h => ⟨(nth 3), 0, h⟩)
   (And.imp (fun h => ⟨(nth 9), 0, h⟩)
   (And.imp (fun h => ⟨(nth 12), 0, h⟩)
   (And.imp (fun h => ⟨(nth 3), 0, 0x0000#16, h⟩)
   (fun h => ⟨(nth 6), 0, h⟩)))) (by decide +kernel)

theorem meets_Lanes_2 :
    (∃ (s : Machine.State) (n : ℕ), n < 10 ∧ s.present (Pg.lane n) = true ∧ s.enabled (Pg.lane n) = true ∧
      s.rxSleeps n = false ∧ s.laneState n ≠ Ls.test ∧ s.laneLos n = false) ∧
    (∃ (s : Machine.State) (n : ℕ), n < 10 ∧ s.present (Pg.lane n) = true ∧ s.enabled (Pg.lane n) = true ∧
      s.rxSleeps n = false ∧ s.laneState n ≠ Ls.test ∧ s.laneLos n = true) ∧
    (∃ (s : Machine.State) (n : ℕ), n < 10 ∧ s.present (Pg.lane n) = true ∧ (s.rxSleeps n = true ∨ s.enabled
      (Pg.lane n) = false)) ∧
    (∃ (s : Machine.State) (n : ℕ) (t : ℕ), n < 10 ∧ s.present (Pg.lane n) = true ∧ (s.lane n).estAt = some t ∧
      s.laneLos n = true ∧ ¬(s.laneState n = Ls.switch ∧ (s.lane n).since < t + cyclesMs (s.lane n).losClear)) ∧
    (∃ (s : Machine.State) (n : ℕ), n < 10 ∧ s.present (Pg.lane n) = true ∧ n < 6 ∧ s.laneLos n = true ∧ (s.lane
      n).autoRestart = true) :=
  And.imp (fun h => ⟨(nth 51), 0, h⟩)
   (And.imp (fun h => ⟨(nth 52), 0, h⟩)
   (And.imp (fun h => ⟨(nth 0), 0, h⟩)
   (And.imp (fun h => ⟨(nth 1), 0, 9, h⟩)
   (fun h => ⟨(nth 1), 0, h⟩)))) (by decide +kernel)

theorem meets_Lanes_3 :
    (∃ (s : Machine.State) (m : Master) (n : ℕ), n < 10 ∧ s.present (Pg.lane n) = true ∧ s.takes m (Pg.lane n) ∧
      n < 6 ∧ s.enabled (Pg.lane n) = true ∧ s.laneState n ≠ Ls.off ∧ s.laneState n ≠ Ls.sleep ∧ s.laneState n ≠
      Ls.test) ∧
    (∃ (s : Machine.State) (m : Master) (n : ℕ), n < 10 ∧ s.present (Pg.lane n) = true ∧ s.takes m (Pg.lane n) ∧
      s.testBarred n = true) ∧
    (∃ (s : Machine.State) (m : Master) (n : ℕ) (v : Word), n < 10 ∧ s.present (Pg.lane n) = true ∧ s.takes m
      (Pg.lane n) ∧ s.testBarred n = false ∧ s.flag (Pg.lane n) LANE.PRBS_CTRL_GEN_EN = false ∧ s.flag (Pg.lane
      n) PG.CTRL_EN = true ∧ s.laneState n = Ls.up ∧ LANE.LB_MODE.of v ≠ 0) ∧
    (∃ (s : Machine.State) (m : Master) (n : ℕ) (v : Word), n < 10 ∧ s.present (Pg.lane n) = true ∧ s.takes m
      (Pg.lane n) ∧ s.testBarred n = false ∧ s.get (Pg.lane n) LANE.LB_MODE = 0 ∧ s.flag (Pg.lane n) PG.CTRL_EN
      = true ∧ s.laneState n = Ls.up ∧ LANE.PRBS_CTRL_GEN_EN.of v = 1) ∧
    (∃ (s : Machine.State) (m : Master) (n : ℕ) (v : Word), n < 10 ∧ s.present (Pg.lane n) = true ∧ s.takes m
      (Pg.lane n) ∧ n < 6 ∧ s.enabled (Pg.lane n) = true ∧ s.flag (Pg.lane n) LANE.SLEEP_RX = false ∧
      LANE.SLEEP_RX.of v = 1) :=
  And.imp (fun h => ⟨(nth 3), .host, 0, h⟩)
   (And.imp (fun h => ⟨(nth 49), .host, 7, h⟩)
   (And.imp (fun h => ⟨(nth 15), .host, 0, 0x00000001#32, h⟩)
   (And.imp (fun h => ⟨(nth 15), .host, 0, 0x00000001#32, h⟩)
   (fun h => ⟨(nth 51), .host, 0, 0x00000002#32, h⟩)))) (by decide +kernel)

theorem meets_Lanes_4 :
    ∃ (s : Machine.State) (m : Master) (n : ℕ) (v : Word), n < 10 ∧ s.present (Pg.lane n) = true ∧ s.takes m
      (Pg.lane n) ∧ n < 6 ∧ s.enabled (Pg.lane n) = true ∧ s.flag (Pg.lane n) LANE.SLEEP_RX = true ∧
      LANE.SLEEP_RX.of v = 0 ∧ s.testing n = false ∧ (s.lane n).everUp = true :=
  ⟨(nth 0), .host, 0, 0x00000000#32, by decide +kernel⟩

theorem meets_Lanes_5 :
    ∃ (s : Machine.State) (n : ℕ) (rx : List Bool), n < 10 ∧ s.present (Pg.lane n) = true ∧ s.laneState n =
      Ls.test ∧ s.flag (Pg.lane n) LANE.PRBS_CTRL_CHK_EN = true ∧ s.flag (Pg.lane n) LANE.PRBS_STAT_CHK_LOCK =
      false ∧ s.locksPrbs n rx = true :=
  ⟨(nth 22), 0, (poolListBool.get ⟨2, by decide +kernel⟩), by decide +kernel⟩

theorem meets_Lanes_6 :
    (∃ (s : Machine.State) (n : ℕ) (bits : ℕ) (errors : ℕ), n < 10 ∧ s.present (Pg.lane n) = true ∧ s.flag
      (Pg.lane n) LANE.PRBS_STAT_CHK_LOCK = true ∧ 16 ≤ errors ∧ errors ≤ bits ∧ (s.lane n).errSeen ≤ errors) ∧
    (∃ (s : Machine.State) (n : ℕ), n < 10 ∧ s.present (Pg.lane n) = true ∧ s.laneState n = Ls.sleep ∧ s.flag
      (Pg.lane n) LANE.SLEEP_WAKE_ON_SIG = true ∧ s.testing n = false ∧ (s.lane n).everUp = true) ∧
    (∃ (s : Machine.State) (n : ℕ), n < 10 ∧ s.present (Pg.lane n) = true ∧ s.laneState n = Ls.sleep ∧ s.flag
      (Pg.lane n) LANE.SLEEP_WAKE_ON_SIG = false) :=
  And.imp (fun h => ⟨(nth 2), 0, 100, 100, h⟩)
   (And.imp (fun h => ⟨(nth 20), 0, h⟩)
   (fun h => ⟨(nth 18), 0 , h⟩)) (by decide +kernel)

end W36

/-! ### The MACs -/

namespace W37

def mp0 : Nat := Pg.mac 0
def rd (_ : Nat) : State → State := fun s => s
def q7 : State := -- descriptor at 0x1000: buf 0x2000 len 64 
  let s := (en [mp0] up)
  let s := [5,6,
    7].foldl (fun s q => ((s.set mp0 MAC.TXQ_CFG_COUNT 16 q).set mp0 MAC.TXQ_BASE_BASE (0x1000 + 0x100*q) q)) s
  let s := (((s.set mp0 MAC.STAT_LINK 1).set mp0 MAC.STAT_SPEED 2).set mp0 MAC.CFG_MAX_FRAME 1522).set mp0 MAC.TXQ_SEL_QUEUE 7
  let s := [(0x1700+1,0x20),
    (0x1704,64),(0x1706,1),(0x1708,5),(0x2000,0xAA),
    (0x2003,0xBB)].foldl (fun s e => s.setByte (Mem.girth + e.1) e.2) s
  s
def fr (q : Nat) (ts po : Bool) : TxFrame := { queue := q, idx := 0, bytes := [1,2,3], frags := 2, sent := 0, startAt := 50, byteTime := 2, tsReq := ts, oneStep := none, refAt := 50, buf := 0x2000, len := if q = 8 then 0 else 64, poison := po, drop := false }
def cur (f : TxFrame) (s : State) : State := s.onMac 0 fun x => { x with cur := some f, wireAt := 3 }
def pr (q n : Nat) (s : State) := s.set mp0 MAC.TXQ_PROD_PROD n q
def rng (c pr co : Nat) (s : State) : State := ((((((s.set mp0 MAC.RXR_CFG_COUNT c 2).set mp0 MAC.RXR_PROD_PROD pr 2).set mp0 MAC.RXR_CONS_CONS co 2).set mp0 MAC.RXR_CFG_SLOT_KIB 1 2).set mp0 MAC.RXR_DATA_DATA 0x8000 2).set mp0 MAC.RXR_BASE_BASE 0x4000 2).set mp0 MAC.CFG_PROMISC 1
def S : List State := [up, q7, q7.set mp0 MAC.TXQ_SEL_QUEUE 6, pr 5 2 (q7.set mp0 MAC.TXQ_SEL_QUEUE 5),
    cur (fr 8 false false) q7, cur (fr 7 false false) (q7.set mp0 MAC.TXQ_STAT_HALTED 1 7),
    cur (fr 7 false false) (pr 7 1 q7), cur (fr 5 true false) (pr 5 1 q7),
    (cur (fr 5 true false) (pr 5 1 q7)).onMac 0 (fun x => {x with tsq := List.replicate 64 ⟨1,5,9⟩, tsSeq := 65}),
    cur (fr 5 false true) (pr 5 1 q7), (q7.set mp0 MAC.PREEMPT_CTRL_VERIFY 2),
    (q7.set mp0 MAC.PREEMPT_CTRL_VERIFY 2).onMac 0 (fun x => {x with verifySent := 3, verifyAt := 9}),
    q7.set mp0 PG.CTRL_EN 0, rng 16 3 3 q7, rng 16 3 4 q7, rng 16 0 1 (q7.set mp0 MAC.RXR_SEL_RING 2),
    (rng 16 9 1 (cur (fr 7 false false) (((q7.set mp0 MAC.STAT_PAUSING 1).set mp0 MAC.RXR_CFG_PAUSE_EN 1 2).set mp0 MAC.STAT_PAUSED_RX 1))).set mp0 MAC.RXR_SEL_RING 2,
    q7.onMac 0 (fun x => {x with tsq := [⟨1,5,9⟩,⟨2,5,9⟩]}), bg 2 .test (rng 16 3 3 q7),
    q7.onMac 0 (fun x => {x with killAt := some 3})] where bg (p : Nat) (ph : BgtPhase) (s : State) := s.onGirth fun g => { g with bgt := some (p,ph), reserve := [(1,7),(5,6)] }
def bts (n : Nat) : List Byte := (List.range n).map fun i => BitVec.ofNat 8 (i+1)
def F (n : Nat) : Frame := ⟨bts n, true, true, [], 0, none, false⟩
def nth (i : Nat) : State := (S).getD i .reset
def poolFrame : List (Frame) := [F 20, F 64, {F 64 with shadowed := true}, {F 64 with fcsOk := false},
    {F 64 with frags := [⟨0,0,false,false⟩,⟨0,1,true,true⟩]}, {F 64 with mpacket := some .verify, fcsOk := false},
    F 3000, { F 64 with bytes := (bts 64).set 0 2 }]

theorem meets_EthernetPorts_1 :
    ∃ (s : Machine.State) (m : Master) (n : ℕ) (q : ℕ), n < 4 ∧ s.hasMac n = true ∧ s.takes m (Pg.mac n) ∧ s.get
      (Pg.mac n) MAC.TXQ_SEL_QUEUE = q ∧ q = 6 :=
  ⟨(nth 2), .host, 0, 6, by decide +kernel⟩

theorem meets_EthernetPorts_2 :
    ∃ (s : Machine.State) (m : Master) (n : ℕ) (v : Word) (q : ℕ),
      let new := BitVec.toNat v % 2 ^ 12
      n < 4 ∧ s.hasMac n = true ∧ s.takes m (Pg.mac n) ∧ s.get (Pg.mac n) MAC.TXQ_SEL_QUEUE = q ∧ q ≠ 6 ∧
        (s.qCount n q ≤ new ∨ s.qCount n q ≤ s.qWaiting n q + (new + s.qCount n q - s.qProd n q) % s.qCount n q) :=
  ⟨(nth 0), .host, 0, 0x00000000#32, 0, by dsimp only; decide +kernel⟩

theorem meets_EthernetPorts_3 :
    ∃ (s : Machine.State) (m : Master) (n : ℕ) (v : Word) (q : ℕ),
      let new := BitVec.toNat v % 2 ^ 12
      n < 4 ∧ s.hasMac n = true ∧ s.takes m (Pg.mac n) ∧ s.get (Pg.mac n) MAC.TXQ_SEL_QUEUE = q ∧ q ≠ 6 ∧
        s.enabled (Pg.mac n) = true ∧ Option.any (fun (f : TxFrame) => decide (5 < f.queue)) (s.mac n).cur =
        true ∧ s.qProd n q = s.qCons n q ∧ new < s.qCount n q ∧ s.qProd n q < s.qCount n q :=
  ⟨(nth 4), .host, 0, 0x00000000#32, 7, by dsimp only; decide +kernel⟩

theorem meets_EthernetPorts_4 :
    ∃ (s : Machine.State) (m : Master) (n : ℕ) (v : Word) (q : ℕ),
      let new := BitVec.toNat v % 2 ^ 12
      let d := (s.readDesc n q (s.qCons n q)).2
      n < 4 ∧ s.hasMac n = true ∧ s.takes m (Pg.mac n) ∧ s.get (Pg.mac n) MAC.TXQ_SEL_QUEUE = q ∧ q = 7 ∧
        s.enabled (Pg.mac n) = true ∧ s.linkUp n = true ∧ (s.mac n).cur = none ∧ (s.mac n).pauseDue = none ∧
        s.qPaused n q = false ∧ s.qHalted n q = false ∧ s.qProd n q = s.qCons n q ∧ new < s.qCount n q ∧ new ≠
        s.qProd n q ∧ s.qProd n q < s.qCount n q ∧ s.get Pg.girth GIRTH.RET_STAT_RETAINED = 0 ∧ (∀ (o : ℕ),
        s.vaultDenies (n + 1) o = false) ∧ (s.girth.pinned = none ∨ s.girth.bgt = none) ∧ (∀ (b : ℕ), (s.bank
        b).waiting = []) ∧ s.girth.upset = [] ∧ s.girth.poison = [] ∧ s.get (Pg.mac n) MAC.POL_RATE_RATE q = 0 ∧
        d.ok (s.get (Pg.mac n) MAC.CFG_MAX_FRAME) = true ∧ d.tsReq = false ∧ d.oneStep = false :=
  ⟨(nth 1), .host, 0, 0x00000001#32, 7, by dsimp only; (repeat' apply And.intro) <;> first | decide +kernel | exact no_vault (by decide +kernel) _ | exact no_wait (by decide +kernel)⟩

theorem meets_EthernetPorts_5 :
    ∃ (s : Machine.State) (m : Master) (n : ℕ) (v : Word) (q : ℕ),
      let new := BitVec.toNat v % 2 ^ 12
      n < 4 ∧ s.hasMac n = true ∧ s.takes m (Pg.mac n) ∧ s.get (Pg.mac n) MAC.TXQ_SEL_QUEUE = q ∧ q ≠ 6 ∧ new <
        s.qCount n q ∧ s.qWaiting n q + (new + s.qCount n q - s.qProd n q) % s.qCount n q < s.qCount n q :=
  ⟨(nth 1), .host, 0, 0x00000000#32, 7, by dsimp only; decide +kernel⟩

theorem meets_EthernetPorts_6 :
    ∃ (s : Machine.State) (m : Master) (n : ℕ) (q : ℕ), n < 4 ∧ s.hasMac n = true ∧ s.takes m (Pg.mac n) ∧ s.get
      (Pg.mac n) MAC.TXQ_SEL_QUEUE = q ∧ s.enabled (Pg.mac n) = true ∧ Option.any (fun (f : TxFrame) => decide
      (5 < f.queue)) (s.mac n).cur = true ∧ q ≠ 6 ∧ s.qHalted n q = true :=
  ⟨(nth 5), .host, 0, 7, by decide +kernel⟩

theorem meets_EthernetPorts_7 :
    ∃ (s : Machine.State) (n : ℕ) (f : TxFrame), n < 4 ∧ s.hasMac n = true ∧ (s.mac n).cur = some f ∧ f.oneStep
      = none ∧ (s.mac n).resume = none ∧ (s.mac n).pauseDue = none ∧ s.enabled (Pg.mac n) = true ∧ (∀ (q : ℕ), q
      < 8 → q ≠ f.queue → s.qWaiting n q = 0) ∧ f.queue = 8 ∧ f.len = 0 :=
  ⟨(nth 4), 0, ((((nth 4).mac 0).cur).get (by decide +kernel)), by decide +kernel⟩

theorem meets_EthernetPorts_8 :
    ∃ (s : Machine.State) (n : ℕ) (f : TxFrame) (ecc : List (ℕ × Ecc)) (shadowed : Bool), n < 4 ∧ s.hasMac n =
      true ∧ (s.mac n).cur = some f ∧ f.oneStep = none ∧ (s.mac n).resume = none ∧ (s.mac n).pauseDue = none ∧
      s.enabled (Pg.mac n) = true ∧ (∀ (q : ℕ), q < 8 → q ≠ f.queue → s.qWaiting n q = 0) ∧ f.queue < 8 ∧
      f.queue ≠ 6 ∧ f.drop = false ∧ s.qWaiting n f.queue = 1 ∧ s.qCons n f.queue = f.idx ∧ f.idx < s.qCount n
      f.queue ∧ s.get Pg.girth GIRTH.RET_STAT_RETAINED = 0 ∧ (∀ (o : ℕ), s.vaultDenies (n + 1) o = false) ∧
      (s.girth.pinned = none ∨ s.girth.bgt = none) ∧ (∀ (b : ℕ), (s.bank b).waiting = []) ∧ s.girth.upset = [] ∧
      f.poison = false ∧ ecc = [] ∧ f.tsReq = false ∧ shadowed = false :=
  ⟨(nth 6), 0, ((((nth 6).mac 0).cur).get (by decide +kernel)), [], false, by (repeat' apply And.intro) <;> first | decide +kernel | exact no_vault (by decide +kernel) _ | exact no_wait (by decide +kernel)⟩

theorem meets_EthernetPorts_9 :
    ∃ (s : Machine.State) (n : ℕ) (f : TxFrame) (ecc : List (ℕ × Ecc)) (shadowed : Bool), n < 4 ∧ s.hasMac n =
      true ∧ (s.mac n).cur = some f ∧ f.oneStep = none ∧ (s.mac n).resume = none ∧ (s.mac n).pauseDue = none ∧
      s.enabled (Pg.mac n) = true ∧ (∀ (q : ℕ), q < 8 → q ≠ f.queue → s.qWaiting n q = 0) ∧ f.queue < 8 ∧
      f.queue ≠ 6 ∧ f.drop = false ∧ s.qWaiting n f.queue = 1 ∧ s.qCons n f.queue = f.idx ∧ f.idx < s.qCount n
      f.queue ∧ s.get Pg.girth GIRTH.RET_STAT_RETAINED = 0 ∧ (∀ (o : ℕ), s.vaultDenies (n + 1) o = false) ∧
      (s.girth.pinned = none ∨ s.girth.bgt = none) ∧ (∀ (b : ℕ), (s.bank b).waiting = []) ∧ s.girth.upset = [] ∧
      f.poison = false ∧ ecc = [] ∧ f.tsReq = true ∧ (s.mac n).tsq.length < 64 ∧ shadowed = false :=
  ⟨(nth 7), 0, ((((nth 7).mac 0).cur).get (by decide +kernel)), [], false, by (repeat' apply And.intro) <;> first | decide +kernel | exact no_vault (by decide +kernel) _ | exact no_wait (by decide +kernel)⟩

theorem meets_EthernetPorts_10 :
    ∃ (s : Machine.State) (n : ℕ) (f : TxFrame) (ecc : List (ℕ × Ecc)) (shadowed : Bool), n < 4 ∧ s.hasMac n =
      true ∧ (s.mac n).cur = some f ∧ f.oneStep = none ∧ (s.mac n).resume = none ∧ (s.mac n).pauseDue = none ∧
      s.enabled (Pg.mac n) = true ∧ (∀ (q : ℕ), q < 8 → q ≠ f.queue → s.qWaiting n q = 0) ∧ f.queue < 8 ∧
      f.queue ≠ 6 ∧ f.drop = false ∧ s.qWaiting n f.queue = 1 ∧ s.qCons n f.queue = f.idx ∧ f.idx < s.qCount n
      f.queue ∧ s.get Pg.girth GIRTH.RET_STAT_RETAINED = 0 ∧ (∀ (o : ℕ), s.vaultDenies (n + 1) o = false) ∧
      (s.girth.pinned = none ∨ s.girth.bgt = none) ∧ (∀ (b : ℕ), (s.bank b).waiting = []) ∧ s.girth.upset = [] ∧
      f.poison = false ∧ ecc = [] ∧ f.tsReq = true ∧ 64 ≤ (s.mac n).tsq.length ∧ shadowed = false :=
  ⟨(nth 8), 0, ((((nth 8).mac 0).cur).get (by decide +kernel)), [], false, by (repeat' apply And.intro) <;> first | decide +kernel | exact no_vault (by decide +kernel) _ | exact no_wait (by decide +kernel)⟩

theorem meets_EthernetPorts_11 :
    ∃ (s : Machine.State) (n : ℕ) (f : TxFrame) (ecc : List (ℕ × Ecc)) (shadowed : Bool), n < 4 ∧ s.hasMac n =
      true ∧ (s.mac n).cur = some f ∧ f.oneStep = none ∧ (s.mac n).resume = none ∧ (s.mac n).pauseDue = none ∧
      s.enabled (Pg.mac n) = true ∧ (∀ (q : ℕ), q < 8 → q ≠ f.queue → s.qWaiting n q = 0) ∧ f.queue < 8 ∧
      f.queue ≠ 6 ∧ f.drop = false ∧ s.qWaiting n f.queue = 1 ∧ s.qCons n f.queue = f.idx ∧ f.idx < s.qCount n
      f.queue ∧ s.get Pg.girth GIRTH.RET_STAT_RETAINED = 0 ∧ (∀ (o : ℕ), s.vaultDenies (n + 1) o = false) ∧
      (s.girth.pinned = none ∨ s.girth.bgt = none) ∧ (∀ (b : ℕ), (s.bank b).waiting = []) ∧ s.girth.upset = [] ∧
      (f.poison = true ∨ f.struck ecc = true) ∧ shadowed = false :=
  ⟨(nth 6), 0, ((((nth 6).mac 0).cur).get (by decide +kernel)), [(8192, Ecc.double)], false, by (repeat' apply And.intro) <;> first | decide +kernel | exact no_vault (by decide +kernel) _ | exact no_wait (by decide +kernel)⟩

theorem meets_EthernetPorts_12 :
    ∃ (s : Machine.State) (n : ℕ) (f : TxFrame) (shadowed : Bool), n < 4 ∧ s.hasMac n = true ∧ (s.mac n).cur =
      some f ∧ f.oneStep = none ∧ (s.mac n).resume = none ∧ (s.mac n).pauseDue = none ∧ s.enabled (Pg.mac n) =
      true ∧ (∀ (q : ℕ), q < 8 → q ≠ f.queue → s.qWaiting n q = 0) ∧ f.queue < 8 ∧ f.queue ≠ 6 ∧ f.drop = false
      ∧ s.qWaiting n f.queue = 1 ∧ s.qCons n f.queue = f.idx ∧ f.idx < s.qCount n f.queue ∧ s.get Pg.girth
      GIRTH.RET_STAT_RETAINED = 0 ∧ (∀ (o : ℕ), s.vaultDenies (n + 1) o = false) ∧ (s.girth.pinned = none ∨
      s.girth.bgt = none) ∧ (∀ (b : ℕ), (s.bank b).waiting = []) ∧ s.girth.upset = [] ∧ shadowed = true ∧
      f.tsReq = false :=
  ⟨(nth 6), 0, ((((nth 6).mac 0).cur).get (by decide +kernel)), true, by (repeat' apply And.intro) <;> first | decide +kernel | exact no_vault (by decide +kernel) _ | exact no_wait (by decide +kernel)⟩

theorem meets_EthernetPorts_13 :
    (∃ (s : Machine.State) (n : ℕ), n < 4 ∧ s.hasMac n = true ∧ s.get (Pg.mac n) MAC.PREEMPT_CTRL_VERIFY = 2) ∧
    (∃ (s : Machine.State) (n : ℕ), n < 4 ∧ s.hasMac n = true ∧ s.linkUp n = false) :=
  And.imp (fun h => ⟨(nth 10), 0, h⟩)
   (fun h => ⟨(nth 0), 0, h⟩) (by decide +kernel)

theorem meets_EthernetPorts_14 :
    ∃ (s : Machine.State) (n : ℕ) (f : Frame), n < 4 ∧ s.hasMac n = true ∧ s.linkUp n = true ∧ s.enabled (Pg.mac
      n) = false ∧ s.wasReceiving n f (s.mac n).drainAt = false ∧ s.wasReceiving n f (s.mac n).killAt = false :=
  ⟨(nth 12), 0, (poolFrame.get ⟨0, by decide +kernel⟩), by decide +kernel⟩

theorem meets_EthernetPorts_15 :
    ∃ (s : Machine.State) (n : ℕ) (f : Frame), n < 4 ∧ s.hasMac n = true ∧ s.linkUp n = true ∧ s.wasReceiving n
      f (s.mac n).killAt = true :=
  ⟨(nth 19), 0, (poolFrame.get ⟨0, by decide +kernel⟩), by decide +kernel⟩

theorem meets_EthernetPorts_16 :
    ∃ (s : Machine.State) (n : ℕ) (f : Frame), n < 4 ∧ s.hasMac n = true ∧ s.linkUp n = true ∧ s.enabled (Pg.mac
      n) = true ∧ s.wasReceiving n f (s.mac n).killAt = false ∧ fragsMerge f = false :=
  ⟨(nth 1), 0, (poolFrame.get ⟨4, by decide +kernel⟩), by decide +kernel⟩

theorem meets_EthernetPorts_17 :
    ∃ (s : Machine.State) (n : ℕ) (f : Frame), n < 4 ∧ s.hasMac n = true ∧ s.linkUp n = true ∧ s.enabled (Pg.mac
      n) = true ∧ s.wasReceiving n f (s.mac n).killAt = false ∧ fragsMerge f = true ∧ f.fcsOk = false :=
  ⟨(nth 1), 0, (poolFrame.get ⟨3, by decide +kernel⟩), by decide +kernel⟩

theorem meets_EthernetPorts_18 :
    ∃ (s : Machine.State) (n : ℕ) (f : Frame), n < 4 ∧ s.hasMac n = true ∧ s.linkUp n = true ∧ s.enabled (Pg.mac
      n) = true ∧ s.wasReceiving n f (s.mac n).killAt = false ∧ fragsMerge f = true ∧ f.mpacket = none ∧ f.fcsOk
      = true ∧ f.pcsOk = true ∧ f.frags.length ≤ 1 ∧ (f.bytes.length < 60 ∨ s.get (Pg.mac n) MAC.CFG_MAX_FRAME <
      f.bytes.length + 4) :=
  ⟨(nth 1), 0, (poolFrame.get ⟨0, by decide +kernel⟩), by decide +kernel⟩

theorem meets_EthernetPorts_19 :
    ∃ (s : Machine.State) (n : ℕ) (f : Frame), n < 4 ∧ s.hasMac n = true ∧ s.linkUp n = true ∧ s.enabled (Pg.mac
      n) = true ∧ s.wasReceiving n f (s.mac n).killAt = false ∧ fragsMerge f = true ∧ f.mpacket = none ∧ f.fcsOk
      = true ∧ f.pcsOk = true ∧ f.frags.length ≤ 1 ∧ 60 ≤ f.bytes.length ∧ f.bytes.length + 4 ≤ s.get (Pg.mac n)
      MAC.CFG_MAX_FRAME ∧ be16 f.bytes 12 ≠ 34824 ∧ s.addressOk n f.bytes = false :=
  ⟨(nth 1), 0, (poolFrame.get ⟨7, by decide +kernel⟩), by decide +kernel⟩

theorem meets_EthernetPorts_20 :
    ∃ (s : Machine.State) (n : ℕ) (f : Frame),
      let count := s.get (Pg.mac n) MAC.RXR_CFG_COUNT 2
      let prod := s.get (Pg.mac n) MAC.RXR_PROD_PROD 2
      n < 4 ∧ s.hasMac n = true ∧ s.linkUp n = true ∧ s.enabled (Pg.mac n) = true ∧ s.wasReceiving n f (s.mac
        n).killAt = false ∧ fragsMerge f = true ∧ f.mpacket = none ∧ f.fcsOk = true ∧ f.pcsOk = true ∧
        f.frags.length ≤ 1 ∧ 60 ≤ f.bytes.length ∧ f.bytes.length + 4 ≤ s.get (Pg.mac n) MAC.CFG_MAX_FRAME ∧
        be16 f.bytes 12 ≠ 34824 ∧ s.addressOk n f.bytes = true ∧ forFirmware (headers f.bytes) f.bytes = false ∧
        s.flowMatch n (headers f.bytes) f.bytes = none ∧ (count = 0 ∨ (prod + 1) % count = s.get (Pg.mac n)
        MAC.RXR_CONS_CONS 2) :=
  ⟨(nth 1), 0, (poolFrame.get ⟨1, by decide +kernel⟩), by dsimp only; decide +kernel⟩

theorem meets_EthernetPorts_21 :
    ∃ (s : Machine.State) (n : ℕ) (f : Frame),
      let count := s.get (Pg.mac n) MAC.RXR_CFG_COUNT 2
      let prod := s.get (Pg.mac n) MAC.RXR_PROD_PROD 2
      n < 4 ∧ s.hasMac n = true ∧ s.linkUp n = true ∧ s.enabled (Pg.mac n) = true ∧ s.wasReceiving n f (s.mac
        n).killAt = false ∧ fragsMerge f = true ∧ f.mpacket = none ∧ f.fcsOk = true ∧ f.pcsOk = true ∧
        f.frags.length ≤ 1 ∧ 60 ≤ f.bytes.length ∧ f.bytes.length + 4 ≤ s.get (Pg.mac n) MAC.CFG_MAX_FRAME ∧
        be16 f.bytes 12 ≠ 34824 ∧ s.addressOk n f.bytes = true ∧ forFirmware (headers f.bytes) f.bytes = false ∧
        s.flowMatch n (headers f.bytes) f.bytes = none ∧ ¬(count = 0 ∨ (prod + 1) % count = s.get (Pg.mac n)
        MAC.RXR_CONS_CONS 2) ∧ f.shadowed = true ∧ f.bytes.length ≤ 2048 * s.get (Pg.mac n) MAC.RXR_CFG_SLOT_KIB
        2 ∧ s.flag (Pg.mac n) MAC.CFG_VLAN_STRIP = false :=
  ⟨(nth 13), 0, (poolFrame.get ⟨2, by decide +kernel⟩), by dsimp only; decide +kernel⟩

theorem meets_EthernetPorts_22 :
    ∃ (s : Machine.State) (n : ℕ) (f : Frame),
      let count := s.get (Pg.mac n) MAC.RXR_CFG_COUNT 2
      let prod := s.get (Pg.mac n) MAC.RXR_PROD_PROD 2
      let slot := s.get (Pg.mac n) MAC.RXR_DATA_DATA 2 / 1024 * 1024 + prod * (2048 * s.get (Pg.mac n)
        MAC.RXR_CFG_SLOT_KIB 2)
      let desc := s.get (Pg.mac n) MAC.RXR_BASE_BASE 2 / 16 * 16 + 16 * prod
      n < 4 ∧ s.hasMac n = true ∧ s.linkUp n = true ∧ s.enabled (Pg.mac n) = true ∧ s.wasReceiving n f (s.mac
        n).killAt = false ∧ fragsMerge f = true ∧ f.mpacket = none ∧ f.fcsOk = true ∧ f.pcsOk = true ∧
        f.frags.length ≤ 1 ∧ 60 ≤ f.bytes.length ∧ f.bytes.length + 4 ≤ s.get (Pg.mac n) MAC.CFG_MAX_FRAME ∧
        be16 f.bytes 12 ≠ 34824 ∧ s.addressOk n f.bytes = true ∧ forFirmware (headers f.bytes) f.bytes = false ∧
        s.flowMatch n (headers f.bytes) f.bytes = none ∧ ¬(count = 0 ∨ (prod + 1) % count = s.get (Pg.mac n)
        MAC.RXR_CONS_CONS 2) ∧ f.shadowed = false ∧ f.bytes.length ≤ 2048 * s.get (Pg.mac n)
        MAC.RXR_CFG_SLOT_KIB 2 ∧ s.flag (Pg.mac n) MAC.CFG_VLAN_STRIP = false ∧ s.get Pg.girth
        GIRTH.RET_STAT_RETAINED = 0 ∧ (∀ (o : ℕ), s.vaultDenies (n + 1) o = false) ∧ (s.girth.pinned = none ∨
        s.girth.bgt = none) ∧ (∀ (b : ℕ), (s.bank b).waiting = []) ∧ s.girth.upset = [] ∧ s.flag (Pg.mac n)
        MAC.CFG_PAUSE_TX = false ∧ s.flag (Pg.mac n) MAC.STAT_PAUSING = false ∧ (slot + f.bytes.length ≤ desc ∨
        desc + 16 ≤ slot) :=
  ⟨(nth 13), 0, (poolFrame.get ⟨1, by decide +kernel⟩), by dsimp only; (repeat' apply And.intro) <;> first | decide +kernel | exact no_vault (by decide +kernel) _ | exact no_wait (by decide +kernel)⟩

theorem meets_EthernetPorts_23 :
    ∃ (s : Machine.State) (m : Master) (n : ℕ) (v : Word) (r : ℕ),
      let new := BitVec.toNat v % 2 ^ 12
      n < 4 ∧ s.hasMac n = true ∧ s.takes m (Pg.mac n) ∧ s.get (Pg.mac n) MAC.RXR_SEL_RING = r ∧ (r = 0 ∨ r = 3
        ∨ s.get (Pg.mac n) MAC.RXR_CFG_COUNT r ≤ new) :=
  ⟨(nth 0), .host, 0, 0x00000000#32, 0, by dsimp only; decide +kernel⟩

theorem meets_EthernetPorts_24 :
    ∃ (s : Machine.State) (m : Master) (n : ℕ) (v : Word) (r : ℕ),
      let new := BitVec.toNat v % 2 ^ 12
      n < 4 ∧ s.hasMac n = true ∧ s.takes m (Pg.mac n) ∧ s.get (Pg.mac n) MAC.RXR_SEL_RING = r ∧ 1 ≤ r ∧ r ≤ 2 ∧
        new < s.get (Pg.mac n) MAC.RXR_CFG_COUNT r ∧ s.flag (Pg.mac n) MAC.CFG_PAUSE_TX = false ∧ s.flag (Pg.mac
        n) MAC.STAT_PAUSING = false :=
  ⟨(nth 15), .host, 0, 0x00000000#32, 2, by dsimp only; decide +kernel⟩

theorem meets_EthernetPorts_25 :
    (∃ (s : Machine.State) (n : ℕ), n < 4 ∧ s.hasMac n = true ∧ s.enabled (Pg.mac n) = true ∧ Option.any (fun (f
      : TxFrame) => decide (5 < f.queue)) (s.mac n).cur = true ∧ s.flag (Pg.mac n) MAC.STAT_PAUSING = true ∧
      s.linkUp n = true ∧ s.someRingAbove n (s.get (Pg.mac n) MAC.PAUSE_CFG_LOW_PCT) = true) ∧
    (∃ (s : Machine.State) (n : ℕ), n < 4 ∧ s.hasMac n = true ∧ s.enabled (Pg.mac n) = true ∧ Option.any (fun (f
      : TxFrame) => decide (5 < f.queue)) (s.mac n).cur = true ∧ s.flag (Pg.mac n) MAC.STAT_PAUSED_RX = true) ∧
    (∃ (s : Machine.State) (n : ℕ), n < 4 ∧ s.hasMac n = true ∧ s.present (Pg.mac n) = true ∧ (s.mac n).tsq = []) ∧
    (∃ (s : Machine.State) (n : ℕ) (e : TsEntry) (rest : List TsEntry), n < 4 ∧ s.hasMac n = true ∧ s.present
      (Pg.mac n) = true ∧ (s.mac n).tsq = e :: rest ∧ e.queue < 8) :=
  And.imp (fun h => ⟨(nth 16), 0, h⟩)
   (And.imp (fun h => ⟨(nth 16), 0, h⟩)
   (And.imp (fun h => ⟨(nth 0), 0, h⟩)
   (fun h => ⟨(nth 17), 0, { tag := 0x01#6, queue := 5, stamp := 0x00000009#32 }, [{ tag := 0x02#6, queue := 5, stamp := 0x00000009#32 }] , h⟩))) (by decide +kernel)

end W37

/-! ### Network time -/

namespace W38

def tm (s : State) : State := en [0x10] s
def sv (n st : Nat) (f : Ptp → Ptp) (s : State) : State := ((tm s).set Pg.time (TIME.PTP_STAT_STATE n) st).setPtp n (f (s.ptp n))
def S : List State := [up, tm up, nx (execSlewNsWrite .host 0 5000 (tm up)),
    (tm up).setCounter 1 {(up.counter 1) with sec := 7, ns := 999999999},
    (tm up).setCounter 0 {(up.counter 0) with sec := 3, ns := 5, incNs := 1, incFrac := 9}, sv 0 2 id up,
    sv 0 2 (fun p => {p with good := 15}) up, sv 1 3 (fun p => {p with bad := 15, everLocked := true}) up,
    sv 0 3 id {up with now := 50*625000000},
    sv 0 2 (fun p => {p with everLocked := true}) (up.set Pg.time (TIME.PTP_CFG_PROFILE_WORD 0) 0x4021),
    sv 1 5 id (up.set Pg.time (TIME.PTP_CFG_PROFILE_WORD 1) 0x21),sv 0 4 id up]
def nth (i : Nat) : State := (S).getD i .reset
def poolAnnounce : List (Announce) := [⟨9,6,0x20,37,true,false⟩,⟨9,6,0x20,37,false,true⟩,⟨9,6,0x20,37,true,true⟩]

theorem meets_NetworkTime_1 :
    ∃ (s : Machine.State) (n : ℕ), n < 2 ∧ s.present Pg.time = true :=
  ⟨(nth 0), 0, by decide +kernel⟩

theorem meets_NetworkTime_2 :
    ∃ (s : Machine.State) (m : Master) (n : ℕ) (v : Word),
      let ns := s.get Pg.time (TIME.C_INC_NS_NS n)
      n < 2 ∧ s.takes m Pg.time ∧ s.flag Pg.time PG.CTRL_EN = true ∧ incAllowed (ns * 2 ^ 32 + BitVec.toNat v) =
        true :=
  ⟨(nth 1), .host, 0, 0x99999999#32, by dsimp only; decide +kernel⟩

theorem meets_NetworkTime_3 :
    ∃ (s : Machine.State) (m : Master) (n : ℕ) (v : Word),
      let ns := s.get Pg.time (TIME.C_INC_NS_NS n)
      n < 2 ∧ s.takes m Pg.time ∧ s.flag Pg.time PG.CTRL_EN = true ∧ incAllowed (ns * 2 ^ 32 + BitVec.toNat v) =
        false ∧ (s.counter n).incNs < 16 ∧ (s.counter n).incFrac < 2 ^ 32 :=
  ⟨(nth 1), .host, 0, 0x00000000#32, by dsimp only; decide +kernel⟩

theorem meets_NetworkTime_4 :
    (∃ (s : Machine.State) (n : ℕ), n < 2 ∧ s.flag Pg.time (TIME.C_STAT_SLEWING n) = true) ∧
    (∃ (s : Machine.State) (m : Master) (n : ℕ) (v : Word), n < 2 ∧ s.takes m Pg.time ∧ s.flag Pg.time PG.CTRL_EN
      = true ∧ (TIME.C_SET_NS_GO n).of v = 1 ∧ (TIME.C_SET_NS_NS n).of v < 1000000000) ∧
    (∃ (s : Machine.State) (m : Master) (n : ℕ) (v : Word), n < 2 ∧ s.takes m Pg.time ∧ s.flag Pg.time PG.CTRL_EN
      = true ∧ (TIME.C_SET_NS_GO n).of v = 1 ∧ 1000000000 ≤ (TIME.C_SET_NS_NS n).of v) ∧
    (∃ (s : Machine.State) (m : Master) (n : ℕ) (v : Word), n < 2 ∧ s.takes m Pg.time ∧ s.flag Pg.time PG.CTRL_EN
      = true ∧ 0 ≤ ↑(s.counter n).units + BitVec.toInt v * 2 ^ 32) ∧
    (∃ (s : Machine.State) (m : Master) (n : ℕ) (v : Word), n < 2 ∧ s.takes m Pg.time ∧ s.flag Pg.time PG.CTRL_EN
      = true ∧ ↑(s.counter n).units + BitVec.toInt v * 2 ^ 32 < 0) :=
  And.imp (fun h => ⟨(nth 2), 0, h⟩)
   (And.imp (fun h => ⟨(nth 1), .host, 0, 0x99999999#32, h⟩)
   (And.imp (fun h => ⟨(nth 1), .host, 0, 0xffffff00#32, h⟩)
   (And.imp (fun h => ⟨(nth 1), .host, 0, 0x00000000#32, h⟩)
   (fun h => ⟨(nth 1), .host, 0, 0x99999999#32, h⟩)))) (by decide +kernel)

theorem meets_NetworkTime_5 :
    (∃ (s : Machine.State) (m : Master) (n : ℕ), n < 2 ∧ s.takes m Pg.time ∧ s.flag Pg.time PG.CTRL_EN = false) ∧
    (∃ (s : Machine.State) (n : ℕ) (v : Word) (off' : ℤ), n < 2 ∧ s.fwRunning = true ∧ s.flag Pg.time PG.CTRL_EN
      = true ∧ s.servo n = Servo.acquiring ∧ s.servoSteps n off' = false ∧ incAllowed (s.get Pg.time
      (TIME.C_INC_NS_NS n) * 2 ^ 32 + BitVec.toNat v) = true) ∧
    (∃ (s : Machine.State) (n : ℕ) (off' : ℤ), n < 2 ∧ s.fwRunning = true ∧ s.flag Pg.time PG.CTRL_EN = true ∧
      s.servo n = Servo.acquiring ∧ s.servoSteps n off' = true ∧ 0 ≤ ↑(s.counter n).units - off' * 2 ^ 32) ∧
    (∃ (s : Machine.State) (n : ℕ) (v : Word), n < 2 ∧ s.fwRunning = true ∧ s.flag Pg.time PG.CTRL_EN = true ∧
      s.servo n = Servo.locked ∧ incAllowed (s.get Pg.time (TIME.C_INC_NS_NS n) * 2 ^ 32 + BitVec.toNat v) =
      true) :=
  And.imp (fun h => ⟨(nth 0), .host, 0, h⟩)
   (And.imp (fun h => ⟨(nth 5), 0, 0x99999999#32, 0, h⟩)
   (And.imp (fun h => ⟨(nth 5), 0, (-200000), h⟩)
   (fun h => ⟨(nth 7), 1, 0x99999999#32, h⟩))) (by decide +kernel)

theorem meets_NetworkTime_6 :
    ∃ (s : Machine.State) (n : ℕ) (a : Announce), n < 2 ∧ s.fwRunning = true ∧ s.servo n ≠ Servo.disabled ∧
      a.wins = true ∧ gmCapable (s.profile n) = true :=
  ⟨(nth 9), 0, (poolAnnounce.get ⟨1, by decide +kernel⟩), by decide +kernel⟩

theorem meets_NetworkTime_7 :
    ∃ (s : Machine.State) (n : ℕ) (a : Announce), n < 2 ∧ s.fwRunning = true ∧ s.servo n ≠ Servo.disabled ∧
      a.wins = false ∧ a.selects = true :=
  ⟨(nth 5), 0, (poolAnnounce.get ⟨0, by decide +kernel⟩), by decide +kernel⟩

theorem meets_NetworkTime_8 :
    (∃ (s : Machine.State) (n : ℕ), n < 2 ∧ s.fwRunning = true ∧ (s.servo n = Servo.acquiring ∨ s.servo n =
      Servo.locked)) ∧
    (∃ (s : Machine.State) (n : ℕ) (v : Word), n < 2 ∧ s.serves ∧ s.enabled Pg.time = true ∧ BitVec.toNat v % 16
      = 0 ∧ profileBits (BitVec.toNat v) = true) ∧
    (∃ (s : Machine.State) (n : ℕ) (v : Word) (dom : Word) (mask : Word), n < 2 ∧ s.serves ∧ s.enabled Pg.time =
      true ∧ BitVec.toNat v % 16 ≠ 0 ∧ profileOk (BitVec.toNat v) (BitVec.toNat dom) (BitVec.toNat mask) = true
      ∧ ((List.range 4).any fun (q : ℕ) => BitVec.getLsbD mask q && decide (s.macCount ≤ q)) = false) ∧
    (∃ (s : Machine.State) (n : ℕ) (v : Word) (dom : Word) (mask : Word), n < 2 ∧ s.serves ∧ s.enabled Pg.time =
      true ∧ BitVec.toNat v % 16 ≠ 0 ∧ profileOk (BitVec.toNat v) (BitVec.toNat dom) (BitVec.toNat mask) = false) :=
  And.imp (fun h => ⟨(nth 5), 0, h⟩)
   (And.imp (fun h => ⟨(nth 1), 0, 0x00000000#32, h⟩)
   (And.imp (fun h => ⟨(nth 1), 0, 0x00fd0021#32, 0x00000000#32, 0x00000001#32, h⟩)
   (fun h => ⟨(nth 1), 0, 0x00000001#32, 0x00000000#32, 0x00000000#32 , h⟩))) (by decide +kernel)

end W38

/-! ### The Rein -/

namespace W39

def rp : Nat := Pg.rein
def dcl (i w : Nat) (s : State) : State := s.declareRef i w 2 1
def qf (i : Nat) (s : State) : State := (s.set rp REIN.REF_STAT_STATE 2 i).onRef i fun x => {x with present := true, pulses := 9, sinceAt := 3}
def ql (i : Nat) (s : State) : State := (s.set rp REIN.REF_STAT_STATE 1 i).onRef i fun x => {x with present := true, pulses := 9, sinceAt := 3}
def ru : State := up
def w2 : Nat := 2
def w3 : Nat := 3 + 16
def two : State := qf 1 (qf 0 (dcl 1 w3 (dcl 0 w2 ru)))
def lk (s : State) : State := (((s.set rp REIN.SEL_STAT_STATE 2).set rp REIN.SEL_STAT_SEL_VALID 1).set rp REIN.SEL_STAT_SELECTED 0).onDpll 0 fun x => {x with follows := some 0}
def hld (s : State) : State := (lk s).set rp REIN.SEL_STAT_STATE 3
def S : List State := [up, ((up.set rp PG.LOCK_LOCKED 1)), (up.set Pg.fabric (FABRIC.DOM_CFG_RATE 0) 5),
    (up.set Pg.fabric (FABRIC.DOM_CFG_RATE 0) 4), dcl 0 w2 ru, ql 0 (dcl 0 w2 ru), two, lk two,
    (lk two).set rp REIN.SEL_STAT_SWITCHING 1, (lk two).onRef 0 (fun x => {x with softAt := some 5}),
    (lk two).set rp REIN.SEL_STAT_STATE 1, hld two,
    lk (two.set rp REIN.REF_STAT_STATE 3 0 |>.set rp REIN.REF_STAT_STATE 3 1), nx (execEsmcPdu 1 4 up),
    up.set rp PG.CTRL_EN 0 |>.set rp PG.STAT_QUIESCED 1, (lk two).onRef 0 (fun x => {x with glitches := [1,2]}),
    ((two.set rp (REIN.FP_CFG_EN 0) 1).set rp (REIN.FP_CFG_SRC 0) 1),
    ((two.set rp (REIN.FP_CFG_EN 0) 1).set rp (REIN.FP_CFG_SRC 0) 1).set rp REIN.FP_CTRL_ALIGN_NOW 1,
    (two.set rp (REIN.FP_CFG_EN 0) 1),
    (((two.set rp (REIN.FP_CFG_EN 0) 1).set rp (REIN.FP_CFG_SRC 0) 1).set rp REIN.FP_CTRL_MODE 0).onRein (fun r => {r with fpGrid := [(0,(16000,3))], fpCorrect := [(0,7)]})]
def nth (i : Nat) : State := (S).getD i .reset

theorem meets_References_1 :
    (∃ (s : Machine.State) (i : ℕ) (off : ℤ) (rate : ℤ), i < 8 ∧ pinType (s.refKind i) = true ∧ rate.natAbs ≤
      1000 ∧ edgeAccepted (s.refWord i) off = true) ∧
    (∃ (s : Machine.State) (i : ℕ) (off : ℤ) (rate : ℤ), i < 8 ∧ pinType (s.refKind i) = true ∧ rate.natAbs ≤
      1000 ∧ edgeAccepted (s.refWord i) off = false ∧ (s.ref i).rejected = false ∧ (recentGlitches s.now (s.ref
      i).glitches).length < 2) ∧
    (∃ (s : Machine.State) (i : ℕ) (off : ℤ) (rate : ℤ), i < 8 ∧ pinType (s.refKind i) = true ∧ 1000 <
      rate.natAbs ∧ edgeAccepted (s.refWord i) off = true ∧ s.refLive i = true) ∧
    (∃ (s : Machine.State) (i : ℕ), i < 8 ∧ pinType (s.refKind i) = true ∧ (s.ref i).present = true ∧ s.refLive i
      = true) ∧
    (∃ (s : Machine.State) (i : ℕ), i < 8 ∧ s.refState i = Rs.qualifying ∧ s.refConditions i = true ∧ (s.refKind
      i = 5 ∨ pulseType (s.refKind i) = false ∨ 8 ≤ (s.ref i).pulses)) :=
  And.imp (fun h => ⟨(nth 4), 0, 0, 0, h⟩)
   (And.imp (fun h => ⟨(nth 4), 0, 20000, 0, h⟩)
   (And.imp (fun h => ⟨(nth 4), 0, 0, 20000, h⟩)
   (And.imp (fun h => ⟨(nth 5), 0, h⟩)
   (fun h => ⟨(nth 5), 0, h⟩)))) (by decide +kernel)

theorem meets_References_2 :
    (∃ (s : Machine.State) (i : ℕ), i < 8 ∧ s.refState i ≠ Rs.undeclared) ∧
    (∃ (s : Machine.State) (i : ℕ) (t : ℕ) (j : ℕ), s.selected = some i ∧ (s.ref i).softAt = some t ∧
      s.autoActive = true ∧ s.reinEnabled = true ∧ s.dpllState 0 = Ds.locked ∧ ((s.reach (t + cyclesSec (s.get
      Pg.rein REIN.CHECK_TIME_DRIFT_S))).onRef i fun (x : RefSlot) =>
      { x with softAt := none, softOut := true }).candidate = some j) ∧
    (∃ (s : Machine.State), s.reinEnabled = false) :=
  And.imp (fun h => ⟨(nth 4), 0, h⟩)
   (And.imp (fun h => ⟨(nth 9), 0, 5, 1, h⟩)
   (fun h => ⟨(nth 14), h⟩)) (by decide +kernel)

theorem meets_References_3 :
    ∃ (s : Machine.State) (c : ℕ),
      let r := (s.each refSlots fun (s : Machine.State) (i : ℕ) => (s.refreshQl i).requalify i).updateDisputes
      s.reinEnabled = true ∧ s.ownD1 = false ∧ r.autoActive = true ∧ r.selected = none ∧ r.candidate = some c ∧
        r.dpllState 0 = Ds.free :=
  ⟨(nth 6), 0, by dsimp only; decide +kernel⟩

theorem meets_References_4 :
    ∃ (s : Machine.State),
      let r := (s.each refSlots fun (s : Machine.State) (i : ℕ) => (s.refreshQl i).requalify i).updateDisputes
      s.reinEnabled = true ∧ s.ownD1 = false ∧ r.autoActive = true ∧ r.candidate = none ∧ Option.any (fun (cur :
        ℕ) => r.usable cur) r.selected = false ∧ r.selected.isSome = true ∧ r.dpllState 0 = Ds.locked :=
  ⟨(nth 12), by dsimp only; decide +kernel⟩

theorem meets_References_5 :
    (∃ (s : Machine.State), s.flag Pg.rein REIN.SEL_STAT_SWITCHING = true ∧ s.reinEnabled = true) ∧
    (∃ (s : Machine.State) (k : ℕ), k < 3 ∧ s.dpllState k = Ds.acquire ∧ (k ≠ 1 ∨ s.ownD1 = true)) ∧
    (∃ (s : Machine.State) (k : ℕ), k < 3 ∧ s.dpllState k = Ds.holdover ∧ (k ≠ 1 ∨ s.ownD1 = true)) ∧
    (∃ (s : Machine.State) (lane : ℕ), lane < 4 ∧ s.fwRunning = true) ∧
    (∃ (s : Machine.State) (lane : ℕ) (c : BitVec 4 × ℕ), lane < 4 ∧ Machine.SMap.find? s.rein.ssm lane = some c) :=
  And.imp (fun h => ⟨(nth 8), h⟩)
   (And.imp (fun h => ⟨(nth 10), 0, h⟩)
   (And.imp (fun h => ⟨(nth 11), 0, h⟩)
   (And.imp (fun h => ⟨(nth 0), 0, h⟩)
   (fun h => ⟨(nth 13), 1, (0x4#4, 0), h⟩)))) (by decide +kernel)

theorem meets_References_6 :
    (∃ (s : Machine.State) (m : Master), s.takes m Pg.rein ∧ s.locked Pg.rein = true) ∧
    (∃ (s : Machine.State) (m : Master), s.takes m Pg.rein ∧ s.locked Pg.rein = false) ∧
    (∃ (s : Machine.State) (m : Master) (v : Word), s.takes m Pg.rein ∧ s.reinEnabled = true ∧
      REIN.FP_CTRL_MODE.of v = s.get Pg.rein REIN.FP_CTRL_MODE ∧ REIN.FP_CTRL_ALIGN_NOW.of v ≠ 0) :=
  And.imp (fun h => ⟨(nth 1), .host, h⟩)
   (And.imp (fun h => ⟨(nth 0), .host, h⟩)
   (fun h => ⟨(nth 0), .host, 0x00000011#32, h⟩)) (by decide +kernel)

theorem meets_References_7 :
    ∃ (s : Machine.State) (m : Master) (v : Word) (n : ℕ),
      let hz := s.mclkHz ((REIN.MCLK_CFG_MULT n).of v) ((REIN.MCLK_CFG_DOMAIN n).of v)
      s.takes m Pg.rein ∧ n < 4 ∧ (REIN.MCLK_CFG_DOMAIN n).of v ≠ 3 ∧ (REIN.MCLK_CFG_MULT n).of v ≠ 3 ∧ hz ≤
        49152000 :=
  ⟨(nth 0), .host, 0x00000000#32, 0, by dsimp only; decide +kernel⟩

theorem meets_References_8 :
    ∃ (s : Machine.State) (m : Master) (v : Word) (n : ℕ),
      let hz := s.mclkHz ((REIN.MCLK_CFG_MULT n).of v) ((REIN.MCLK_CFG_DOMAIN n).of v)
      s.takes m Pg.rein ∧ n < 4 ∧ (REIN.MCLK_CFG_DOMAIN n).of v ≠ 3 ∧ (REIN.MCLK_CFG_MULT n).of v ≠ 3 ∧ 49152000
        < hz :=
  ⟨(nth 2), .host, 0x00000002#32, 0, by dsimp only; decide +kernel⟩

theorem meets_References_9 :
    (∃ (s : Machine.State) (n : ℕ), n < 4 ∧ s.flag Pg.rein (REIN.FP_CFG_EN n) = true ∧ s.fpSource n = false) ∧
    (∃ (s : Machine.State) (n : ℕ), n < 4 ∧ s.flag Pg.rein (REIN.FP_CFG_EN n) = true ∧ s.refKind (s.get Pg.rein
      (REIN.FP_CFG_SRC n)) ≠ 5) :=
  And.imp (fun h => ⟨(nth 18), 0, h⟩)
   (fun h => ⟨(nth 16), 0, h⟩) (by decide +kernel)

theorem meets_References_10 :
    ∃ (s : Machine.State) (n : ℕ) (err : ℤ),
      let e := (s.reach (s.fpDue n)).fpError n err
      n < 4 ∧ s.flag Pg.rein (REIN.FP_CFG_EN n) = true ∧ s.fpSource n = true ∧ e.natAbs < 2 ^ 31 :=
  ⟨(nth 16), 0, 0, by dsimp only; decide +kernel⟩

theorem meets_References_11 :
    ∃ (s : Machine.State) (v : Word) (index : Word) (quality : Word) (rank : Word),
      let ok := declarationOk (BitVec.toNat index) (BitVec.toNat v) (BitVec.toNat quality) (BitVec.toNat rank)
      s.serves ∧ ok = true ∧ s.sourceBound (BitVec.toNat index) (BitVec.toNat v) = false ∧ refType (BitVec.toNat
        v) ≠ 6 ∧ s.reinEnabled = true ∧ s.refFollowed (BitVec.toNat index) = false :=
  ⟨(nth 0), 0x00000000#32, 0x00000000#32, 0x00000000#32, 0x00000000#32, by dsimp only; decide +kernel⟩

theorem meets_References_12 :
    ∃ (s : Machine.State) (v : Word) (index : Word) (quality : Word) (rank : Word),
      let ok := declarationOk (BitVec.toNat index) (BitVec.toNat v) (BitVec.toNat quality) (BitVec.toNat rank)
      s.serves ∧ (ok = false ∨ s.sourceBound (BitVec.toNat index) (BitVec.toNat v) = true) :=
  ⟨(nth 0), 0x00000000#32, 0x00000000#32, 0x00000000#32, 0x00000011#32 , by dsimp only; decide +kernel⟩

end W39

/-! ### Audio flows -/

namespace W40

def PF : Plan := {P1 with endpoints := [(20,0),(30,0),(31,0),(40,0)], flowIn := [30,31], flowOut := [40]}
def r0 : State := en [0x220,0x221,0x222] ((en [0x20] (runs PF b0)).set (Pg.mac 0) MAC.STAT_LINK 1)
def w32 (l : List Nat) : List Byte := (l.map (BitVec.ofNat 32)).flatMap bytesOf
-- receive: format 1, want 0xFFFF; word1 domain 0 enc 1 channels 2 ptime 0 portA 0 portB 15
def dRx (want : Nat) : List Nat := [0x01000000+want, 0x0F000210, 30, 96, 0x11223344, 0, 48*0+96, 5004*1, 0xEF010203,0,
    0,0, 0,0,0,0, 0,0,0,0, 0,0,0,0, 0,0,0,0,0,0,0,0]
def dTx : List Nat := [0x01010000+3, 0x0F000110, 40, 96+0x00010000, 0x11223344, 0, 0, 5004+5004*65536, 0xEF010204,0,0,
    0, 0x0A000001,0,0,0, 0,0,0,0, 0,0,0,0, 0,0,0,0,0,0,0,0]
def dRp (want : Nat) : List Nat := [0x01000000+want, 0x01000210, 30, 96, 0, 0, 96, 5004, 0xEF010203,0,0,0, 0,0,0,0,
    0xEF010205,0,0,0, 0,0,0,0, 0,0,0,0,0,0,0,0]
def A : Nat := 0x40001000
def put (l : List Nat) (s : State) : State := s.setBytes A (w32 l)
def hasF (l : List Nat) (s : State) : State := nx (execFlowAdd 7 A (put l s))
def fr0 : List Byte := -- UDP/IPv4 multicast frame w RTP pt 96, 2 ch x 6 samples x 3 B = 36
  let eth := [0x01,0,0x5e,
    1,2,3, 2,2,2,2,2,2, 8,0]
  let ip := [0x45,0,0,(20+8+12+36),0,0,0,0,64,17,0,0, 10,0,0,9, 0xEF,1,2,
    3]
  let udp := [0x13,0x8c,0x13,0x8c,0,(8+12+36),0,0]
  let rtp := [0x80,96,0,5, 0,0,0,0, 0x11,0x22,0x33,
    0x44]
  (eth ++ ip ++ udp ++ rtp ++ (List.range 36)).map (BitVec.ofNat 8)
def ring (f : List Byte) (s : State) : State :=
  let s := ((((s.set (Pg.mac 0) MAC.RXR_CFG_COUNT 16 0).set (Pg.mac 0) MAC.RXR_PROD_PROD 1 0).set (Pg.mac 0) MAC.RXR_CFG_SLOT_KIB 1 0).set (Pg.mac 0) MAC.RXR_DATA_DATA 0x8000 0).set (Pg.mac 0) MAC.RXR_BASE_BASE 0x4000 0
  let s := s.setBytes (0x40000000+0x4000) (w32 [f.length + 2^18 + 2^20 + 2^21, 0, 0, 0])
  s.setBytes (0x40000000+0x8000) f
def lost (s : State) := nx (execPathLost 0 s)
def S : List State := [up, put (dRx 0xFFFF) r0, put dTx r0, put (dRp 0xFFFF) r0, put (dRx 3) (hasF (dRx 0xFFFF) r0),
    ring fr0 (hasF (dRx 0xFFFF) r0), ring (fr0.set 43 5) (hasF (dRx 0xFFFF) r0), ring fr0 r0, hasF dTx r0,
    hasF (dRp 0xFFFF) r0, lost (hasF (dRp 0xFFFF) ((r0.set (Pg.mac 1) MAC.STAT_LINK 1))),
    (lost (hasF (dRp 0xFFFF) r0)).onCtx 0 (fun x => {x with upSince := some 4, learned := some 8}),
    (hasF (dRx 0xFFFF) r0).ctxSet 0 FLOW.CTX_STAT_UNDERRUN 1 |>.underrunSource 0,
    r0.setDom 0 {r0.dom 0 with differ := 16}, put (dRx 0xFFFF |>.set 2 (30+0x00830000)) r0,
    (hasF (dRx 0xFFFF |>.set 2 (30+0x00830000)) r0).set (Pg.flow 0) FLOW.GRP_SEL_GROUP 3,
    (hasF (dRx 0xFFFF) r0).set Pg.fabric (FABRIC.DOM_CFG_ACTIVE 0) 0,
    (hasF (dRx 0xFFFF) r0).onCtx 0 (fun x => {x with freeing := true})]
def nth (i : Nat) : State := (S).getD i .reset

theorem meets_AudioFlows_1 :
    ∃ (s : Machine.State) (addr : ℕ),
      let l := (s.peeked addr 128).peekWords addr 32
      let want := field (l[0]?.getD 0) 0 16
      s.serves ∧ s.descOk (flowDesc l) want = false :=
  ⟨(nth 0), 0, by dsimp only; decide +kernel⟩

theorem meets_AudioFlows_2 :
    ∃ (s : Machine.State) (addr : ℕ) (cs : List ℕ),
      let l := (s.peeked addr 128).peekWords addr 32
      let want := field (l[0]?.getD 0) 0 16
      s.serves ∧ s.descOk (flowDesc l) want = true ∧ (flowDesc l).ports.all s.hasMac = true ∧ (want = 65535 ∨
        want < s.flowCount) ∧ s.ctxsFor (flowDesc l) want = some cs ∧ (∀ (e : ℕ × FlowCtx), e ∈ s.flow.ctxs →
        e.2.desc.patch + e.2.desc.channels ≤ (flowDesc l).patch ∨ (flowDesc l).patch + (flowDesc l).channels ≤
        e.2.desc.patch) ∧ (∀ (e : ℕ × FlowCtx), e ∈ s.flow.ctxs → e.2.key ≠ (s.newCtx (flowDesc l) false
        false).key ∧ e.2.key ≠ (s.newCtx (flowDesc l) true false).key) ∧ s.enabled (ctxPage (cs.headD 0)) = true :=
  ⟨(nth 1), 1073745920, [0], by dsimp only; (repeat' apply And.intro) <;> first | decide +kernel | exact no_ctx (by decide +kernel)⟩

theorem meets_AudioFlows_3 :
    ∃ (s : Machine.State) (v : Word),
      let c := BitVec.toNat v % 65536 + if BitVec.getLsbD v 16 = true then 512 else 0
      s.serves ∧ BitVec.toNat v / 2 ^ 17 = 0 ∧ BitVec.toNat v % 65536 < s.flowCount ∧ s.enabled (ctxPage c) =
        true ∧ s.ctx c = none :=
  ⟨(nth 1), 0x00000000#32, by dsimp only; decide +kernel⟩

theorem meets_AudioFlows_4 :
    ∃ (s : Machine.State) (v : Word) (x : FlowCtx),
      let c := BitVec.toNat v % 65536 + if BitVec.getLsbD v 16 = true then 512 else 0
      s.serves ∧ BitVec.toNat v / 2 ^ 17 = 0 ∧ BitVec.toNat v % 65536 < s.flowCount ∧ s.enabled (ctxPage c) =
        true ∧ s.ctx c = some x ∧ 512 ≤ c ∧ x.freeing = false :=
  ⟨(nth 8), 0x00010003#32, (((nth 8).ctx (BitVec.toNat 0x00010003#32 % 65536 + if BitVec.getLsbD 0x00010003#32 16 = true then 512 else 0)).get (by decide +kernel)), by dsimp only; decide +kernel⟩

theorem meets_AudioFlows_5 :
    ∃ (s : Machine.State) (v : Word) (x : FlowCtx),
      let c := BitVec.toNat v % 65536 + if BitVec.getLsbD v 16 = true then 512 else 0
      s.serves ∧ BitVec.toNat v / 2 ^ 17 = 0 ∧ BitVec.toNat v % 65536 < s.flowCount ∧ s.enabled (ctxPage c) =
        true ∧ s.ctx c = some x ∧ c < 512 ∧ x.pathB = false ∧ s.domActive x.desc.domain = true ∧ x.freeing =
        false :=
  ⟨(nth 4), 0x00000000#32, (((nth 4).ctx (BitVec.toNat 0x00000000#32 % 65536 + if BitVec.getLsbD 0x00000000#32 16 = true then 512 else 0)).get (by decide +kernel)), by dsimp only; decide +kernel⟩

theorem meets_AudioFlows_6 :
    ∃ (s : Machine.State) (v : Word) (x : FlowCtx),
      let c := BitVec.toNat v % 65536 + if BitVec.getLsbD v 16 = true then 512 else 0
      s.serves ∧ BitVec.toNat v / 2 ^ 17 = 0 ∧ BitVec.toNat v % 65536 < s.flowCount ∧ s.enabled (ctxPage c) =
        true ∧ s.ctx c = some x ∧ c < 512 ∧ x.pathB = false ∧ s.domActive x.desc.domain = false ∧ x.freeing =
        false :=
  ⟨(nth 16), 0x00000000#32, (((nth 16).ctx (BitVec.toNat 0x00000000#32 % 65536 + if BitVec.getLsbD 0x00000000#32 16 = true then 512 else 0)).get (by decide +kernel)), by dsimp only; decide +kernel⟩

theorem meets_AudioFlows_7 :
    ∃ (s : Machine.State) (v : Word) (x : FlowCtx),
      let c := BitVec.toNat v % 65536 + if BitVec.getLsbD v 16 = true then 512 else 0
      s.serves ∧ BitVec.toNat v / 2 ^ 17 = 0 ∧ BitVec.toNat v % 65536 < s.flowCount ∧ s.enabled (ctxPage c) =
        true ∧ s.ctx c = some x ∧ c < 512 ∧ x.pathB = false ∧ x.freeing = true :=
  ⟨(nth 17), 0x00000000#32, (((nth 17).ctx (BitVec.toNat 0x00000000#32 % 65536 + if BitVec.getLsbD 0x00000000#32 16 = true then 512 else 0)).get (by decide +kernel)), by dsimp only; decide +kernel⟩

theorem meets_AudioFlows_8 :
    ∃ (s : Machine.State) (port : ℕ),
      let count := s.get (Pg.mac port) MAC.RXR_CFG_COUNT
      let cons := s.get (Pg.mac port) MAC.RXR_CONS_CONS
      port < 4 ∧ s.hasMac port = true ∧ s.get Pg.girth GIRTH.RET_STAT_RETAINED = 0 ∧ (∀ (o : ℕ), s.vaultDenies 5
        o = false) ∧ (∀ (b : ℕ), (s.bank b).waiting = []) ∧ s.girth.upset = [] ∧ s.girth.poison = [] ∧ s.flag
        (Pg.mac port) MAC.CFG_PAUSE_TX = false ∧ s.flag (Pg.mac port) MAC.STAT_PAUSING = false ∧ (count = 0 ∨
        s.get (Pg.mac port) MAC.RXR_PROD_PROD = cons) :=
  ⟨(nth 0), 0, fourth (no_vault (by decide +kernel) _) (no_wait (by decide +kernel)) (by decide +kernel)⟩

theorem meets_AudioFlows_9 :
    ∃ (s : Machine.State) (port : ℕ),
      let count := s.get (Pg.mac port) MAC.RXR_CFG_COUNT
      let cons := s.get (Pg.mac port) MAC.RXR_CONS_CONS
      let d := (s.netRead 5 (s.get (Pg.mac port) MAC.RXR_BASE_BASE / 16 * 16 + 16 * cons) 8 []).2
      let w0 := wordOf (d[0]?.getD 0) (d[1]?.getD 0) (d[2]?.getD 0) (d[3]?.getD 0)
      let l := (s.netRead 5 (s.get (Pg.mac port) MAC.RXR_DATA_DATA / 1024 * 1024 + cons * (2048 * s.get (Pg.mac
        port) MAC.RXR_CFG_SLOT_KIB)) (BitVec.toNat w0 % 2 ^ 14) []).2
      port < 4 ∧ s.hasMac port = true ∧ s.get Pg.girth GIRTH.RET_STAT_RETAINED = 0 ∧ (∀ (o : ℕ), s.vaultDenies 5
        o = false) ∧ (∀ (b : ℕ), (s.bank b).waiting = []) ∧ s.girth.upset = [] ∧ s.girth.poison = [] ∧ s.flag
        (Pg.mac port) MAC.CFG_PAUSE_TX = false ∧ s.flag (Pg.mac port) MAC.STAT_PAUSING = false ∧ count ≠ 0 ∧
        s.get (Pg.mac port) MAC.RXR_PROD_PROD ≠ cons ∧ BitVec.getLsbD w0 16 = false ∧ s.flowMatch port (headers
        l) l = none :=
  ⟨(nth 7), 0, fourth (no_vault (by decide +kernel) _) (no_wait (by decide +kernel)) (by decide +kernel)⟩

theorem meets_AudioFlows_10 :
    ∃ (s : Machine.State) (port : ℕ) (c : ℕ) (x : FlowCtx) (udp : ℕ),
      let count := s.get (Pg.mac port) MAC.RXR_CFG_COUNT
      let cons := s.get (Pg.mac port) MAC.RXR_CONS_CONS
      let d := (s.netRead 5 (s.get (Pg.mac port) MAC.RXR_BASE_BASE / 16 * 16 + 16 * cons) 8 []).2
      let w0 := wordOf (d[0]?.getD 0) (d[1]?.getD 0) (d[2]?.getD 0) (d[3]?.getD 0)
      let l := (s.netRead 5 (s.get (Pg.mac port) MAC.RXR_DATA_DATA / 1024 * 1024 + cons * (2048 * s.get (Pg.mac
        port) MAC.RXR_CFG_SLOT_KIB)) (BitVec.toNat w0 % 2 ^ 14) []).2
      port < 4 ∧ s.hasMac port = true ∧ s.get Pg.girth GIRTH.RET_STAT_RETAINED = 0 ∧ (∀ (o : ℕ), s.vaultDenies 5
        o = false) ∧ (∀ (b : ℕ), (s.bank b).waiting = []) ∧ s.girth.upset = [] ∧ s.girth.poison = [] ∧ s.flag
        (Pg.mac port) MAC.CFG_PAUSE_TX = false ∧ s.flag (Pg.mac port) MAC.STAT_PAUSING = false ∧ count ≠ 0 ∧
        s.get (Pg.mac port) MAC.RXR_PROD_PROD ≠ cons ∧ BitVec.getLsbD w0 16 = false ∧ s.flowMatch port (headers
        l) l = some c ∧ s.ctx c = some x ∧ (headers l).udp = some udp ∧ x.paired = false ∧ x.pathB = false ∧
        s.ctxState c ≠ Cs.draining ∧ s.ctxState c ≠ Cs.stopped ∧ ((rtpOf l udp).pt ≠ x.desc.pt ∨ (rtpOf l
        udp).ok = false) :=
  ⟨(nth 6), 0, 0, (((nth 6).ctx 0).get (by decide +kernel)), 34, fourth (no_vault (by decide +kernel) _) (no_wait (by decide +kernel)) (by decide +kernel)⟩

theorem meets_AudioFlows_11 :
    ∃ (s : Machine.State) (port : ℕ) (c : ℕ) (x : FlowCtx) (udp : ℕ),
      let count := s.get (Pg.mac port) MAC.RXR_CFG_COUNT
      let cons := s.get (Pg.mac port) MAC.RXR_CONS_CONS
      let d := (s.netRead 5 (s.get (Pg.mac port) MAC.RXR_BASE_BASE / 16 * 16 + 16 * cons) 8 []).2
      let w0 := wordOf (d[0]?.getD 0) (d[1]?.getD 0) (d[2]?.getD 0) (d[3]?.getD 0)
      let l := (s.netRead 5 (s.get (Pg.mac port) MAC.RXR_DATA_DATA / 1024 * 1024 + cons * (2048 * s.get (Pg.mac
        port) MAC.RXR_CFG_SLOT_KIB)) (BitVec.toNat w0 % 2 ^ 14) []).2
      port < 4 ∧ s.hasMac port = true ∧ s.get Pg.girth GIRTH.RET_STAT_RETAINED = 0 ∧ (∀ (o : ℕ), s.vaultDenies 5
        o = false) ∧ (∀ (b : ℕ), (s.bank b).waiting = []) ∧ s.girth.upset = [] ∧ s.girth.poison = [] ∧ s.flag
        (Pg.mac port) MAC.CFG_PAUSE_TX = false ∧ s.flag (Pg.mac port) MAC.STAT_PAUSING = false ∧ count ≠ 0 ∧
        s.get (Pg.mac port) MAC.RXR_PROD_PROD ≠ cons ∧ BitVec.getLsbD w0 16 = false ∧ s.flowMatch port (headers
        l) l = some c ∧ s.ctx c = some x ∧ (headers l).udp = some udp ∧ x.paired = false ∧ x.pathB = false ∧
        s.ctxState c ≠ Cs.draining ∧ s.ctxState c ≠ Cs.stopped ∧ BitVec.getLsbD w0 21 = true ∧ (rtpOf l udp).ok
        = true ∧ (rtpOf l udp).pt = x.desc.pt ∧ Option.any (fun (x : Word) => decide (x ≠ (rtpOf l udp).ssrc))
        (s.ssrcWanted x) = false ∧ (rtpOf l udp).payload.length = x.desc.channels * s.ctxS x * sampleBytes
        x.desc.enc ∧ x.hist = [] ∧ s.packetTokens x ≤ (s.policer x).tokens :=
  ⟨(nth 5), 0, 0, (((nth 5).ctx 0).get (by decide +kernel)), 34, fourth (no_vault (by decide +kernel) _) (no_wait (by decide +kernel)) (by decide +kernel)⟩

theorem meets_AudioFlows_12 :
    ∃ (s : Machine.State) (d : ℕ), d < 2 ∧ 16 ≤ (s.dom d).differ ∧ s.domActive d = true :=
  ⟨(nth 13), 0, by decide +kernel⟩

theorem meets_AudioFlows_13 :
    ∃ (s : Machine.State) (c : ℕ) (x : FlowCtx), c < 512 ∧ s.ctx c = some x ∧ s.ctxGet c FLOW.CTX_STAT_UNDERRUN
      = 1 :=
  ⟨(nth 12), 0, (((nth 12).ctx 0).get (by decide +kernel)), by decide +kernel⟩

theorem meets_AudioFlows_14 :
    ∃ (s : Machine.State) (c : ℕ) (x : FlowCtx), c < 512 ∧ s.ctx c = some x ∧ x.desc.ssrc = 0 ∧ x.learned ≠ none :=
  ⟨(nth 11), 0, (((nth 11).ctx 0).get (by decide +kernel)), by decide +kernel⟩

theorem meets_AudioFlows_15 :
    ∃ (s : Machine.State) (c : ℕ) (x : FlowCtx), c < 512 ∧ s.ctx c = some x ∧ s.ctxGet c FLOW.CTX_STAT_PATH_LOST
      = 0 :=
  ⟨(nth 4), 0, (((nth 4).ctx 0).get (by decide +kernel)), by decide +kernel⟩

theorem meets_AudioFlows_16 :
    ∃ (s : Machine.State) (c : ℕ) (x : FlowCtx) (t : ℕ), c < 512 ∧ s.ctx c = some x ∧ x.upSince = some t ∧
      s.ctxGet c FLOW.CTX_STAT_PATH_LOST = 1 ∧ s.linkUp x.port = true :=
  ⟨(nth 11), 0, (((nth 11).ctx 0).get (by decide +kernel)), 4, by decide +kernel⟩

theorem meets_AudioFlows_17 :
    ∃ (s : Machine.State) (m : Master) (v : Word) (n : ℕ) (x : FlowCtx),
      let delay := BitVec.toNat v % 65536
      n < 16 ∧ s.takes m (Pg.flow n) ∧ s.get (Pg.flow n) FLOW.CTX_SEL_CTX < 32 ∧ s.ctx (32 * n + s.get (Pg.flow
        n) FLOW.CTX_SEL_CTX) = some x ∧ x.pathB = false ∧ x.desc.group = none ∧ delayOk (s.ctxS x) (s.ctxHz x)
        delay = true :=
  ⟨(nth 4), .host, 0x00000060#32, 0, (((nth 4).ctx (32 * 0 + (nth 4).get (Pg.flow 0) FLOW.CTX_SEL_CTX)).get (by decide +kernel)), by dsimp only; decide +kernel⟩

theorem meets_AudioFlows_18 :
    ∃ (s : Machine.State) (m : Master) (v : Word) (n : ℕ) (x : FlowCtx),
      let delay := BitVec.toNat v % 65536
      n < 16 ∧ s.takes m (Pg.flow n) ∧ s.get (Pg.flow n) FLOW.CTX_SEL_CTX < 32 ∧ s.ctx (32 * n + s.get (Pg.flow
        n) FLOW.CTX_SEL_CTX) = some x ∧ x.pathB = false ∧ x.desc.group = none ∧ delayOk (s.ctxS x) (s.ctxHz x)
        delay = false :=
  ⟨(nth 4), .host, 0x00000000#32, 0, (((nth 4).ctx (32 * 0 + (nth 4).get (Pg.flow 0) FLOW.CTX_SEL_CTX)).get (by decide +kernel)), by dsimp only; decide +kernel⟩

theorem meets_AudioFlows_19 :
    ∃ (s : Machine.State) (m : Master) (v : Word),
      let g := s.get (Pg.flow 0) FLOW.GRP_SEL_GROUP
      let delay := BitVec.toNat v % 65536
      let bad := List.any s.flow.ctxs fun (e : ℕ × FlowCtx) => decide (e.1 < 512) && e.2.desc.group == some g &&
        !delayOk (s.ctxS e.2) (s.ctxHz e.2) delay
      s.takes m (Pg.flow 0) ∧ s.flag (Pg.flow 0) FLOW.GRP_CFG_IN_USE (s.get (Pg.flow 0) FLOW.GRP_SEL_GROUP) =
        true ∧ bad = false :=
  ⟨(nth 15), .host, 0x00000060#32, by dsimp only; decide +kernel⟩

theorem meets_AudioFlows_20 :
    ∃ (s : Machine.State) (m : Master) (v : Word),
      let g := s.get (Pg.flow 0) FLOW.GRP_SEL_GROUP
      let delay := BitVec.toNat v % 65536
      let bad := List.any s.flow.ctxs fun (e : ℕ × FlowCtx) => decide (e.1 < 512) && e.2.desc.group == some g &&
        !delayOk (s.ctxS e.2) (s.ctxHz e.2) delay
      s.takes m (Pg.flow 0) ∧ s.flag (Pg.flow 0) FLOW.GRP_CFG_IN_USE (s.get (Pg.flow 0) FLOW.GRP_SEL_GROUP) =
        true ∧ bad = true :=
  ⟨(nth 15), .host, 0x00000000#32 , by dsimp only; decide +kernel⟩

end W40

/-! ### Serial ports -/

namespace W41

def PS : Plan := P1
def sp0 (f : State → State) : State := let s := (en [0x230] (tk 2 0 run1)); (f (((((s.set (Pg.sap 0) SAP.CFG_DOMAIN 0).set (Pg.sap 0) SAP.CFG_SLOTS 2).set (Pg.sap 0) SAP.MASK_IN_SLOTS 3).set (Pg.sap 0) SAP.STAT_STATE 2)))
def S : List State := [sp0 id, sp0 (fun s => s.set (Pg.sap 0) SAP.CFG_D2_SRC 1),
    sp0 (fun s => s.set (Pg.sap 0) SAP.STAT_STATE 4),
    sp0 (fun s => (s.set (Pg.sap 0) SAP.STAT_STATE 4).raise Src.sapLoss 0),
    nx (execClkLoss 0 (sp0 (fun s => s.set (Pg.sap 0) SAP.CFG_D2_SRC 1))),
    sp0 (fun s => (s.set (Pg.sap 0) SAP.CFG_D2_SRC 1).set (Pg.sap 0) SAP.STAT_STATE 3)]
def nth (i : Nat) : State := (S).getD i .reset

theorem meets_SerialPorts :
    (∃ (s : Machine.State) (n : ℕ) (bclks : ℕ) (wsOk : Bool), n < 16 ∧ s.present (Pg.sap n) = true ∧ s.domActive
      (s.sapDom n) = true ∧ (s.sapState n = Ss.wait ∨ s.sapState n = Ss.run ∨ s.sapState n = Ss.slip) ∧
      s.sapLead n = false ∧ ((s.catchUp n).sap n).aligning = false ∧ (bclks ≠ s.frameBits n ∨ wsOk = false)) ∧
    (∃ (s : Machine.State) (n : ℕ) (bclks : ℕ) (wsOk : Bool), n < 16 ∧ s.present (Pg.sap n) = true ∧ s.domActive
      (s.sapDom n) = true ∧ (s.sapState n = Ss.wait ∨ s.sapState n = Ss.run ∨ s.sapState n = Ss.slip) ∧
      s.sapLead n = false ∧ ((s.catchUp n).sap n).aligning = false ∧ bclks = s.frameBits n ∧ wsOk = true ∧
      s.sapElastic n = false ∧ ((s.catchUp n).sap n).taken < s.domB (s.sapDom n)) ∧
    (∃ (s : Machine.State) (n : ℕ) (ppm : ℤ), n < 16 ∧ s.present (Pg.sap n) = true ∧ s.domActive (s.sapDom n) =
      true ∧ s.sapState n = Ss.clkLoss ∧ s.flag (Pg.sap n) SAP.STAT_RATE_ERR = false ∧ ppm.natAbs ≤ 1000) ∧
    (∃ (s : Machine.State) (n : ℕ) (ppm : ℤ), n < 16 ∧ s.present (Pg.sap n) = true ∧ s.domActive (s.sapDom n) =
      true ∧ s.sapState n = Ss.clkLoss ∧ s.flag (Pg.sap n) SAP.STAT_RATE_ERR = false ∧ 1000 < ppm.natAbs) :=
  And.imp (fun h => ⟨(nth 0), 0, 0, false, h⟩)
   (And.imp (fun h => ⟨(nth 1), 0, 48, true, h⟩)
   (And.imp (fun h => ⟨(nth 2), 0, 0, h⟩)
   (fun h => ⟨(nth 2), 0, 1001 , h⟩))) (by decide +kernel)

end W41

/-! ### The Stirrup -/

namespace W42

def lpg : Nat := Pg.stirrup 0
def en (l : List Nat) (s : State) : State := l.foldl (fun s p => (s.set p PG.CTRL_EN 1).set p PG.STAT_QUIESCED 0) s
def nx (o : Machine.Outcome) : State := match o with | .next u => u | _ => State.reset
def st (k : Nat) (f : Stirrup → Stirrup) (s : State) : State := (s.set lpg STIRRUP.STAT_STATE k).setLoop 0 (f (s.loop 0))
def full (s : State) : State := (List.range 22).foldl (fun s i => s.set lpg STIRRUP.AVOID_DATA_FREQ (3000 + 90*i) i) s
def S : List State := [up, en [lpg] up,
    (st 2 id up).raise Src.stirOc 0] ++ ([0,1,2,3,4,5,6,7].flatMap fun k => [st k id up, st k (fun l => {l with hiccup := true, tripAt := 77, trips := [1,2], startAt := 9, silentAt := some 5, moving := some (340, 900), drvLow := false}) (en [lpg] up), st k (fun l => {l with trips := [1,2,3], hiccup := true, drvLow := true}) up]) ++ [ (st 2 (fun l => {l with silentAt := some 5}) up).set lpg STIRRUP.CTRL_PD_EN 1 |>.set Pg.mix MIX.MON_CFG_SIL_EN 1 0 |>.set lpg STIRRUP.CFG_IN_PATCH 0,
    nx (execTrip 0 false 7 (st 2 id (en [lpg] up))),
    st 1 (fun l => {l with tripAt := 99}) (nx (execTrip 0 false 7 (st 2 id (en [lpg] up)))),
    nx (execDcLatch 0 (st 2 id (en [lpg] up))),
    (st 2 id up).set lpg STIRRUP.CTRL_AVOID_NOW 1 |>.set lpg STIRRUP.CARRIER_FC_TARGET 350,
    (st 0 id up).set lpg STIRRUP.CARRIER_FC_REQ 350, full (st 2 id up),
    full (st 3 (fun l => {l with hiccup := true}) (en [lpg] up)),
    (st 2 id up).set lpg STIRRUP.LOAD_Z_VALID 1 3 |>.set lpg STIRRUP.LOAD_Z_MAG 60000 3 |>.set lpg STIRRUP.LOAD_BASE_VALID 1 4,
    st 2 (fun l => {l with loud := [(3,[true])], opened := ⟨1,false⟩}) up |>.set lpg STIRRUP.LOAD_Z_VALID 1 3 |>.set lpg STIRRUP.LOAD_Z_MAG 60000 3 |>.set lpg STIRRUP.LOAD_CFG_OPEN_OHM 1,
    st 2 (fun l => {l with shorted := ⟨1,false⟩}) up |>.set lpg STIRRUP.LOAD_Z_VALID 1 3 |>.set lpg STIRRUP.LOAD_Z_MAG 6 3 |>.set lpg STIRRUP.LOAD_CFG_SHORT_DOHM 10,
    ((st 0 id up).set lpg STIRRUP.CARRIER_FC_REQ 350).set lpg STIRRUP.CARRIER_FC_TARGET 350,
    ((((st 3 (fun l => {l with silentAt := some 5}) up).set lpg STIRRUP.CTRL_PD_EN 1).set Pg.mix MIX.MON_CFG_SIL_EN 1 0).set Pg.mix MIX.MON_CFG_SOURCE 0 0).set lpg STIRRUP.CFG_IN_PATCH 0,
    ((((st 2 (fun l => {l with silentAt := some 5}) up).set lpg STIRRUP.CTRL_PD_EN 1).set Pg.mix MIX.MON_CFG_SIL_EN 1 0).set Pg.mix MIX.MON_CFG_SOURCE 0 0).set lpg STIRRUP.CFG_IN_PATCH 0,
    {(st 0 id up) with fabric := {up.fabric with startLoops := [0,1,2]}},
    {(full (st 0 id up)) with fabric := {up.fabric with startLoops := [0], loopsAt := 55}},
    ((st 4 id up).set lpg STIRRUP.CFG_IN_PATCH 0).onMix fun m => { m with patch := [(0,[0x7FFFFFFF])] },
    ((full (st 4 id up)).set lpg STIRRUP.CFG_IN_PATCH 0).onMix fun m => { m with patch := [(0,[0x7FFFFFFF])] }]
def nth (i : Nat) : State := (S).getD i .reset

theorem meets_Loops_1 :
    (∃ (s : Machine.State) (n : ℕ) (drv : Bool) (ipeak : BitVec 16), n < 16 ∧ s.hasLoop n = true ∧ s.loopGroup n
      = [n] ∧ s.loopPair n = [n] ∧ s.governor n = n ∧ s.switching n = true ∧ (drv = true ∨ 256 * s.get
      (Pg.stirrup n) STIRRUP.PROT_OC_LIMIT ≤ ipeak.toNat) ∧ (recentTrips s.now (s.loop n).trips).length < 3) ∧
    (∃ (s : Machine.State) (n : ℕ) (drv : Bool) (ipeak : BitVec 16), n < 16 ∧ s.hasLoop n = true ∧ s.loopGroup n
      = [n] ∧ s.loopPair n = [n] ∧ s.governor n = n ∧ s.switching n = true ∧ (drv = true ∨ 256 * s.get
      (Pg.stirrup n) STIRRUP.PROT_OC_LIMIT ≤ ipeak.toNat) ∧ 3 ≤ (recentTrips s.now (s.loop n).trips).length) ∧
    (∃ (s : Machine.State) (n : ℕ) (ipeak : BitVec 16), n < 16 ∧ s.hasLoop n = true ∧ s.loopGroup n = [n] ∧
      s.loopPair n = [n] ∧ s.governor n = n ∧ ipeak.toNat < 256 * s.get (Pg.stirrup n) STIRRUP.PROT_OC_LIMIT) ∧
    (∃ (s : Machine.State) (n : ℕ), n < 16 ∧ s.hasLoop n = true ∧ s.loopGroup n = [n] ∧ s.loopPair n = [n] ∧
      s.governor n = n ∧ s.switching n = false) ∧
    (∃ (s : Machine.State) (n : ℕ), n < 16 ∧ s.hasLoop n = true ∧ s.loopGroup n = [n] ∧ s.loopPair n = [n] ∧
      s.governor n = n ∧ (s.loop n).hiccup = true ∧ s.loopState n = Loop.hiccup) :=
  And.imp (fun h => ⟨(nth 2), 0, false, 0xea60#16, h⟩)
   (And.imp (fun h => ⟨(nth 8), 0, false, 0xea60#16, h⟩)
   (And.imp (fun h => ⟨(nth 0), 0, 0x0000#16, h⟩)
   (And.imp (fun h => ⟨(nth 0), 0, h⟩)
   (fun h => ⟨(nth 13), 0, h⟩)))) (by decide +kernel)

theorem meets_Loops_2 :
    (∃ (s : Machine.State) (n : ℕ), n < 16 ∧ s.hasLoop n = true ∧ s.loopGroup n = [n] ∧ s.loopPair n = [n] ∧
      s.governor n = n ∧ s.loopState n = Loop.softStart) ∧
    (∃ (s : Machine.State) (n : ℕ), n < 16 ∧ s.hasLoop n = true ∧ s.loopGroup n = [n] ∧ s.loopPair n = [n] ∧
      s.governor n = n ∧ s.condition Src.stirOc n = true ∧ s.anyLatched 1 = false) ∧
    (∃ (s : Machine.State) (n : ℕ), n < 16 ∧ s.hasLoop n = true ∧ s.loopGroup n = [n] ∧ s.loopPair n = [n] ∧
      s.governor n = n ∧ s.loopState n ≠ Loop.latched) ∧
    (∃ (s : Machine.State) (m : Master) (n : ℕ), n < 16 ∧ s.hasLoop n = true ∧ s.loopGroup n = [n] ∧ s.loopPair n
      = [n] ∧ s.governor n = n ∧ s.takes m (Pg.stirrup n) ∧ s.loopState n = Loop.latched ∧ s.safe = false ∧
      s.flag (Pg.stirrup n) PG.CTRL_EN = false) ∧
    (∃ (s : Machine.State) (m : Master) (n : ℕ), n < 16 ∧ s.hasLoop n = true ∧ s.loopGroup n = [n] ∧ s.loopPair n
      = [n] ∧ s.governor n = n ∧ s.takes m (Pg.stirrup n) ∧ s.loopState n = Loop.latched ∧ s.safe = false ∧
      s.flag (Pg.stirrup n) PG.CTRL_EN = true ∧ (s.loop n).drvLow = false) :=
  And.imp (fun h => ⟨(nth 6), 0, h⟩)
   (And.imp (fun h => ⟨(nth 2), 0, h⟩)
   (And.imp (fun h => ⟨(nth 0), 0, h⟩)
   (And.imp (fun h => ⟨(nth 24), .host, 0, h⟩)
   (fun h => ⟨(nth 25), .host, 0, h⟩)))) (by decide +kernel)

theorem meets_Loops_3 :
    ∃ (s : Machine.State) (m : Master) (n : ℕ),
      let req := s.get (Pg.stirrup n) STIRRUP.CARRIER_FC_REQ
      let choice := chooseCarrier (BitVec.getLsbD (if s.switching n = true then (s.loop n).comp else s.compWord
        n) 31) (s.shadowTable n) req
      n < 16 ∧ s.hasLoop n = true ∧ s.loopGroup n = [n] ∧ s.loopPair n = [n] ∧ s.governor n = n ∧ s.takes m
        (Pg.stirrup n) ∧ choice = none :=
  ⟨(nth 33), .host, 0, by dsimp only; decide +kernel⟩

theorem meets_Loops_4 :
    ∃ (s : Machine.State) (m : Master) (n : ℕ) (f : ℕ),
      let req := s.get (Pg.stirrup n) STIRRUP.CARRIER_FC_REQ
      let choice := chooseCarrier (BitVec.getLsbD (if s.switching n = true then (s.loop n).comp else s.compWord
        n) 31) (s.shadowTable n) req
      n < 16 ∧ s.hasLoop n = true ∧ s.loopGroup n = [n] ∧ s.loopPair n = [n] ∧ s.governor n = n ∧ s.takes m
        (Pg.stirrup n) ∧ choice = some f ∧ f = s.get (Pg.stirrup n) STIRRUP.CARRIER_FC_TARGET :=
  ⟨(nth 38), .host, 0, 350, by dsimp only; decide +kernel⟩

theorem meets_Loops_5 :
    ∃ (s : Machine.State) (m : Master) (n : ℕ) (f : ℕ),
      let req := s.get (Pg.stirrup n) STIRRUP.CARRIER_FC_REQ
      let choice := chooseCarrier (BitVec.getLsbD (if s.switching n = true then (s.loop n).comp else s.compWord
        n) 31) (s.shadowTable n) req
      n < 16 ∧ s.hasLoop n = true ∧ s.loopGroup n = [n] ∧ s.loopPair n = [n] ∧ s.governor n = n ∧ s.takes m
        (Pg.stirrup n) ∧ choice = some f ∧ f ≠ s.get (Pg.stirrup n) STIRRUP.CARRIER_FC_TARGET ∧ (s.flag
        (Pg.stirrup n) STIRRUP.CTRL_AVOID_NOW && s.switching n) = true :=
  ⟨(nth 31), .host, 0, 400, by dsimp only; decide +kernel⟩

theorem meets_Loops_6 :
    ∃ (s : Machine.State) (m : Master) (n : ℕ) (f : ℕ),
      let req := s.get (Pg.stirrup n) STIRRUP.CARRIER_FC_REQ
      let choice := chooseCarrier (BitVec.getLsbD (if s.switching n = true then (s.loop n).comp else s.compWord
        n) 31) (s.shadowTable n) req
      n < 16 ∧ s.hasLoop n = true ∧ s.loopGroup n = [n] ∧ s.loopPair n = [n] ∧ s.governor n = n ∧ s.takes m
        (Pg.stirrup n) ∧ choice = some f ∧ f ≠ s.get (Pg.stirrup n) STIRRUP.CARRIER_FC_TARGET ∧ (s.flag
        (Pg.stirrup n) STIRRUP.CTRL_AVOID_NOW && s.switching n) = false :=
  ⟨(nth 0), .host, 0, 400, by dsimp only; decide +kernel⟩

theorem meets_Loops_7 :
    (∃ (s : Machine.State) (n : ℕ) (from_ : ℕ) (due : ℕ), n < 16 ∧ s.hasLoop n = true ∧ s.loopGroup n = [n] ∧
      s.loopPair n = [n] ∧ s.governor n = n ∧ (s.loop n).moving = some (from_, due) ∧ s.switching n = true) ∧
    (∃ (s : Machine.State) (n : ℕ) (b : LoadBand), n < 16 ∧ s.hasLoop n = true ∧ s.loopGroup n = [n] ∧ s.loopPair
      n = [n] ∧ s.governor n = n ∧ b.band < 10) ∧
    (∃ (s : Machine.State) (n : ℕ) (t : ℕ), n < 16 ∧ s.hasLoop n = true ∧ s.loopGroup n = [n] ∧ s.loopPair n =
      [n] ∧ s.governor n = n ∧ s.loopState n = Loop.run ∧ s.watchesSilence n = true ∧ (s.loop n).silentAt = some
      t) ∧
    (∃ (s : Machine.State) (n : ℕ), n < 16 ∧ s.hasLoop n = true ∧ s.loopGroup n = [n] ∧ s.loopPair n = [n] ∧
      s.governor n = n ∧ s.inputLoud n = false) ∧
    (∃ (s : Machine.State) (n : ℕ), n < 16 ∧ s.hasLoop n = true ∧ s.loopGroup n = [n] ∧ s.loopPair n = [n] ∧
      s.governor n = n ∧ s.loopState n = Loop.sleep ∧ (s.loop n).hiccup = false ∧ s.inputLoud n = true) :=
  And.imp (fun h => ⟨(nth 7), 0, 340, 900, h⟩)
   (And.imp (fun h => ⟨(nth 0), 0, { band := 3, loud := true, mag := 0x003c#16 }, h⟩)
   (And.imp (fun h => ⟨(nth 40), 0, 5, h⟩)
   (And.imp (fun h => ⟨(nth 0), 0, h⟩)
   (fun h => ⟨(nth 43), 0, h⟩)))) (by decide +kernel)

theorem meets_Loops_8 :
    (∃ (s : Machine.State) (n : ℕ), n < 16 ∧ s.hasLoop n = true ∧ s.loopGroup n = [n] ∧ s.loopPair n = [n] ∧
      s.governor n = n ∧ s.loopState n = Loop.wake) ∧
    (∃ (s : Machine.State) (n : ℕ), n < 16 ∧ s.hasLoop n = true ∧ s.loopGroup n = [n] ∧ s.loopPair n = [n] ∧
      s.governor n = n ∧ (s.fabric.startLoops = [] ∨ s.loopsMayStart = false)) ∧
    (∃ (s : Machine.State) (n : ℕ) (ns : List ℕ), n < 16 ∧ s.hasLoop n = true ∧ s.loopGroup n = [n] ∧ s.loopPair
      n = [n] ∧ s.governor n = n ∧ s.fabric.startLoops = n :: ns ∧ s.loopsMayStart = true ∧ s.loopState n =
      Loop.off ∧ (s.loop n).drvLow = false) ∧
    (∃ (s : Machine.State) (n : ℕ), n < 16 ∧ s.hasLoop n = true ∧ s.loopGroup n = [n] ∧ s.loopPair n = [n] ∧
      s.governor n = n ∧ s.switching n = true ∧ s.flag (Pg.stirrup n) STIRRUP.STAT_LIMITING = false) ∧
    (∃ (s : Machine.State) (n : ℕ), n < 16 ∧ s.hasLoop n = true ∧ s.loopGroup n = [n] ∧ s.loopPair n = [n] ∧
      s.governor n = n ∧ (s.loop n).drvLow = true ∧ s.flag (Pg.stirrup n) PG.CTRL_EN = false) :=
  And.imp (fun h => ⟨(nth 18), 0, h⟩)
   (And.imp (fun h => ⟨(nth 0), 0, h⟩)
   (And.imp (fun h => ⟨(nth 41), 0, [1, 2], h⟩)
   (And.imp (fun h => ⟨(nth 2), 0, h⟩)
   (fun h => ⟨(nth 5), 0 , h⟩)))) (by decide +kernel)

end W42

/-! ### The Keeper -/

namespace W43

def kp : Nat := Pg.keeper
def ps (st : Nat) (on : Bool) (f : Keeper → Keeper) (s : State) : State := ((s.set kp KEEPER.STAT_PAIR_STATE st).set kp KEEPER.CFG_PAIR_EN (bit on)).onKeeper f
def both (g : State → State) : List State := [g up, g ((up.set kp KEEPER.STAT_ACT_IN 1)),
    g (up.set kp KEEPER.CFG_ROLE 1)]
def S : List State := [up, up.set kp KEEPER.STAT_FEED_A 1,
    (up.set kp KEEPER.STAT_FEED_B 1).onKeeper fun k => {k with feedA := false},
    up.onKeeper fun k => {k with warnHigh := false}] ++ ([0,1,2,3,4,5,6,7].flatMap fun st => both (ps st true id) ++ both (ps st true fun k => {k with lastSeq := some 3, hbAt := 9, hbSentAt := 20, nack := true, warmAt := some 8, proposed := some (1,5), retries := 2, lost := st = 7, copyX := ⟨true,0,[]⟩}) ++ [ps st true (fun k => {k with proposed := some (1,5), retries := 3, heard := true, lastSeq := some 4}) (up.onFabric fun f => {f with running := some P1}),  ps st true (fun k => {k with warmAt := some 8, retries := 1, armed := none, rx := some (7,[],true)}) run1]) ++ [ps 5 true (fun k => {k with armed := some ⟨900,true,true⟩}) up,
    ps 2 true id (up.onCtrl fun c => {c with long := [⟨0x0A,7⟩]}), up.set kp PG.LOCK_LOCKED 1, {up with part := .ca}]
def nth (i : Nat) : State := (S).getD i .reset
def poolHeartbeat : List (Heartbeat) := [⟨false,1,0,0,0,0,0,false,false⟩,⟨true,1,2,0,0,0,0,false,true⟩,
    ⟨true,3,2,0,0,0,0,true,false⟩]
def poolCkptData : List (CkptData) := [⟨false,1,[],true,true⟩,⟨true,7,[],true,true⟩]
def poolCkptEnd : List (CkptEnd) := [⟨true,7,0,true,true,false⟩,⟨true,8,0,true,true,false⟩,
    ⟨true,1,0,true,false,false⟩,⟨true,7,1,true,true,false⟩]

theorem meets_KeeperPair_1 :
    (∃ (s : Machine.State) (b : Bool), s.flag Pg.keeper (feedLost b) = false ∧ s.flag Pg.keeper (feedLost !b) =
      true) ∧
    (∃ (s : Machine.State) (b : Bool), s.flag Pg.keeper (feedLost b) = false ∧ s.flag Pg.keeper (feedLost !b) =
      false) ∧
    (∃ (s : Machine.State) (b : Bool), s.flag Pg.keeper (feedLost b) = true) ∧
    (∃ (s : Machine.State), s.keeper.warnHigh = true) ∧
    (∃ (s : Machine.State), s.keeper.warnHigh = false) :=
  And.imp (fun h => ⟨(nth 1), true, h⟩)
   (And.imp (fun h => ⟨(nth 0), false, h⟩)
   (And.imp (fun h => ⟨(nth 1), false, h⟩)
   (And.imp (fun h => ⟨(nth 0), h⟩)
   (fun h => ⟨(nth 3), h⟩)))) (by decide +kernel)

theorem meets_KeeperPair_2 :
    ∃ (s : Machine.State) (h : Heartbeat), s.pairs = true ∧ h.good = false :=
  ⟨(nth 4), (poolHeartbeat.get ⟨0, by decide +kernel⟩), by decide +kernel⟩

theorem meets_KeeperPair_3 :
    ∃ (s : Machine.State) (h : Heartbeat), s.pairs = true ∧ h.good = true ∧ s.keeper.lastSeq = some h.seq :=
  ⟨(nth 7), (poolHeartbeat.get ⟨2, by decide +kernel⟩), by decide +kernel⟩

theorem meets_KeeperPair_4 :
    ∃ (s : Machine.State) (h : Heartbeat), s.pairs = true ∧ h.good = true ∧ s.keeper.lastSeq ≠ some h.seq ∧
      (s.pairState = Pair.active ∨ s.pairState = Pair.alone) :=
  ⟨(nth 4), (poolHeartbeat.get ⟨1, by decide +kernel⟩), by decide +kernel⟩

theorem meets_KeeperPair_5 :
    ∃ (s : Machine.State) (h : Heartbeat), s.pairs = true ∧ h.good = true ∧ s.keeper.lastSeq ≠ some h.seq ∧
      s.pairState = Pair.seeking ∧ h.pairState.toNat = Pair.active ∧ s.secondary = true :=
  ⟨(nth 14), (poolHeartbeat.get ⟨1, by decide +kernel⟩), by decide +kernel⟩

theorem meets_KeeperPair_6 :
    (∃ (s : Machine.State), s.pairing = true ∧ s.actIn = false ∧ (s.actOut = false ∨ s.secondary = false)) ∧
    (∃ (s : Machine.State), s.pairing = true ∧ s.actIn = true ∧ s.pairState ≠ Pair.isolated) ∧
    (∃ (s : Machine.State), s.pairing = true ∧ s.actIn = true ∧ s.pairs = true ∧ s.pairState = Pair.isolated ∧
      s.keeper.isoSeek = false ∧ s.keeper.lost = true) ∧
    (∃ (s : Machine.State), s.mayDrive = true ∧ s.actIn = false ∧ s.actOut = false ∧ s.keeper.armed = none) ∧
    (∃ (s : Machine.State), s.pairs = true ∧ s.pairState = Pair.seeking ∧ s.keeper.heard = false ∧ s.actOut =
      false) :=
  And.imp (fun h => ⟨(nth 0), h⟩)
   (And.imp (fun h => ⟨(nth 5), h⟩)
   (And.imp (fun h => ⟨(nth 64), h⟩)
   (And.imp (fun h => ⟨(nth 4), h⟩)
   (fun h => ⟨(nth 12), h⟩)))) (by decide +kernel)

theorem meets_KeeperPair_7 :
    (∃ (s : Machine.State), s.pairs = true ∧ s.pairState = Pair.active ∧ s.fwRunning = true) ∧
    (∃ (s : Machine.State), s.serves ∧ s.pairing = true ∧ s.longRuns Op.ckptNow = true) ∧
    (∃ (s : Machine.State), s.serves ∧ s.pairing = true ∧ s.longRuns Op.ckptNow = false ∧ s.pairs = true ∧
      s.pairState = Pair.active) ∧
    (∃ (s : Machine.State) (l : LongCmd), List.find? (fun (l : LongCmd) => l.op == BitVec.ofNat 8 Op.ckptNow)
      s.ctrl.long = some l) :=
  And.imp (fun h => ⟨(nth 20), h⟩)
   (And.imp (fun h => ⟨(nth 69), h⟩)
   (And.imp (fun h => ⟨(nth 20), h⟩)
   (fun h => ⟨(nth 69), { op := 0x0a#8, tag := 0x07#8 }, h⟩))) (by decide +kernel)

theorem meets_KeeperPair_8 :
    ∃ (s : Machine.State) (f : CkptData), s.follows = true ∧ f.good = false :=
  ⟨(nth 28), (poolCkptData.get ⟨0, by decide +kernel⟩), by decide +kernel⟩

theorem meets_KeeperPair_9 :
    ∃ (s : Machine.State) (f : CkptData), s.follows = true ∧ f.good = true ∧ s.keeper.rx = none :=
  ⟨(nth 28), (poolCkptData.get ⟨1, by decide +kernel⟩), by decide +kernel⟩

theorem meets_KeeperPair_10 :
    ∃ (s : Machine.State) (f : CkptEnd), s.follows = true ∧ f.good = true ∧ f.final = false ∧ s.epochRecs f =
      none :=
  ⟨(nth 28), (poolCkptEnd.get ⟨2, by decide +kernel⟩), by decide +kernel⟩

theorem meets_KeeperPair_11 :
    ∃ (s : Machine.State) (f : CkptEnd) (recs : List CkptRec), s.follows = true ∧ f.good = true ∧ f.final =
      false ∧ s.epochRecs f = some recs ∧ s.pairState = Pair.standby ∧ f.full = true :=
  ⟨(nth 28), (poolCkptEnd.get ⟨0, by decide +kernel⟩), [], by decide +kernel⟩

theorem meets_KeeperPair_12 :
    (∃ (s : Machine.State), s.keeper.lastSeq.isSome = true ∧ s.keeper.lost = false ∧ s.pairs = true ∧ s.pairState
      = Pair.active) ∧
    (∃ (s : Machine.State), s.keeper.lastSeq.isSome = true ∧ s.keeper.lost = false ∧ s.follows = true ∧ s.actOut
      = false) ∧
    (∃ (s : Machine.State), s.pairState = Pair.takingOver ∧ s.fwRunning = true ∧ s.fabric.running.isSome = true ∧
      s.pairs = true) ∧
    (∃ (s : Machine.State), s.pairState = Pair.takingOver ∧ s.fwRunning = true ∧ s.fabric.running = none ∧
      s.takeoverAdmits = false) ∧
    (∃ (s : Machine.State) (t : ℕ), s.keeper.warmAt = some t ∧ s.pairState = Pair.warming ∧ s.actOut = false) :=
  And.imp (fun h => ⟨(nth 23), h⟩)
   (And.imp (fun h => ⟨(nth 31), h⟩)
   (And.imp (fun h => ⟨(nth 58), h⟩)
   (And.imp (fun h => ⟨(nth 52), h⟩)
   (fun h => ⟨(nth 39), 8, h⟩)))) (by decide +kernel)

theorem meets_KeeperPair_13 :
    (∃ (s : Machine.State), s.proposes = true ∧ s.keeper.retries = 0) ∧
    (∃ (s : Machine.State), s.proposes = true ∧ 0 < s.keeper.retries) ∧
    (∃ (s : Machine.State) (sec : ℕ) (ns : ℕ) (i : ℕ), s.pairs = true ∧ s.pairState = Pair.active ∧
      s.keeper.armed = none ∧ s.freeEntry = some i ∧ ns < 1000000000 ∧ s.nanos0 < sec * 1000000000 + ns) ∧
    (∃ (s : Machine.State), s.pairs = true ∧ s.pairState ≠ Pair.active) ∧
    (∃ (s : Machine.State) (sec : ℕ) (ns : ℕ) (result : Byte), s.pairState = Pair.holdoff ∧ s.keeper.proposed =
      some (sec, ns) ∧ s.pairs = true ∧ result ≠ 0 ∧ s.keeper.retries < 3) :=
  And.imp (fun h => ⟨(nth 44), h⟩)
   (And.imp (fun h => ⟨(nth 51), h⟩)
   (And.imp (fun h => ⟨(nth 20), 0, 1, 0, h⟩)
   (And.imp (fun h => ⟨(nth 4), h⟩)
   (fun h => ⟨(nth 47), 1, 5, 0x07#8, h⟩)))) (by decide +kernel)

theorem meets_KeeperPair_14 :
    (∃ (s : Machine.State) (sec : ℕ) (ns : ℕ) (result : Byte), s.pairState = Pair.holdoff ∧ s.keeper.proposed =
      some (sec, ns) ∧ s.pairs = true ∧ result ≠ 0 ∧ 3 ≤ s.keeper.retries) ∧
    (∃ (s : Machine.State) (sec : ℕ) (ns : ℕ) (i : ℕ), s.pairState = Pair.holdoff ∧ s.keeper.proposed = some
      (sec, ns) ∧ s.pairs = true ∧ s.freeEntry = some i) :=
  And.imp (fun h => ⟨(nth 50), 1, 5, 0x07#8, h⟩)
   (fun h => ⟨(nth 47), 1, 5, 0, h⟩) (by decide +kernel)

theorem meets_KeeperPair_15 :
    ∃ (s : Machine.State) (h : Handover), s.keeper.armed = some h ∧ h.incoming = true ∧ h.passed = true ∧
      s.actOut = false :=
  ⟨(nth 68), (((nth 68).keeper.armed).get (by decide +kernel)), by decide +kernel⟩

theorem meets_KeeperPair_16 :
    (∃ (s : Machine.State) (m : Master), s.takes m Pg.keeper ∧ s.locked Pg.keeper = true) ∧
    (∃ (s : Machine.State) (m : Master), s.takes m Pg.keeper ∧ s.locked Pg.keeper = false ∧ s.pairState ≠
      Pair.alone ∧ s.pairState ≠ Pair.seeking ∧ s.pairState ≠ Pair.standby) ∧
    (∃ (s : Machine.State) (m : Master) (v : Word), s.takes m Pg.keeper ∧ s.locked Pg.keeper = false ∧
      (s.pairState = Pair.alone ∨ s.pairState = Pair.seeking ∨ s.pairState = Pair.standby) ∧ s.pairEnabled =
      decide (KEEPER.CFG_PAIR_EN.of v = 1)) ∧
    (∃ (s : Machine.State) (m : Master) (v : Word), s.takes m Pg.keeper ∧ s.locked Pg.keeper = false ∧
      s.pairState = Pair.alone ∧ s.pairing = true ∧ s.pairEnabled = false ∧ s.actOut = false ∧
      KEEPER.CFG_PAIR_EN.of v = 1 ∧ s.fabric.running = none) :=
  And.imp (fun h => ⟨(nth 70), .host, h⟩)
   (And.imp (fun h => ⟨(nth 20), .host, h⟩)
   (And.imp (fun h => ⟨(nth 0), .host, 0x00000000#32, h⟩)
   (fun h => ⟨(nth 0), .host, 0x00000001#32 , h⟩))) (by decide +kernel)

end W43

/-! ### Ill-formed commands, one for each check of WellFormed -/

def askFor (master id len addr : Nat) : HReq := ⟨master, id, addr, len, false, [], [], false, 0, false⟩

theorem test_refuses_registers : [Instr.absentPageAccess .host false 2, .loRead .host (bar0Size + 4), .badAccess false 0 4,
    .bar2Access false 0 0 [] [], .bar2Access true 0 8 [1] [], .pgEvtWrite .host 0x4000 false 0, .pgEvtForce .host 0x4000 0,
    .msixUnmask 2, .msixUnmask 0x10000, .enSet .host 0x4000, .quiesced 0x4000, .registerWrite .host 1 0,
    .overrun .host 0x40 0].all (fun i => !i.wellFormed) = true := by decide +kernel

theorem test_refuses_fabric : [Instr.blockTick 3, .passStart 256, .fenceExpiry 3, .deadlineClear 256, .speedSourceRevert 256,
    .fencePctWrite .host 3 0, .escalationTrigger 256, .stageJudged 256, .escalationEnd 256, .restore 0 8, .restore 256 1,
    .shedBackoffReset 0 0, .warmTileLoaded 256, .swapXfadeEnd 3, .directApply 256, .stagingRelease 256, .rampEnd 256,
    .bankMirrorDone 256, .bridgeUnlock 512, .bridgeLock 512, .silenceEnter 8192,
    .silenceExit 8192].all (fun i => !i.wellFormed) = true := by decide +kernel

theorem test_refuses_tiles : [Instr.nop 0 0x01000000, .nop 256 0, .waitb 256 0, .fence 0 0 0 3, .fence 256 0 0 0,
    .add 256 0 0 0, .setp 0 0 2 0, .setm 0 0 2 0, .setl 0 0 2 0, .getp 256 0 0, .getm 256 0 0, .addp 256 0 0 0,
    .dbgDataRead .host 256, .dbgDataWrite .host 256 0].all (fun i => !i.wellFormed) = true := by decide +kernel

theorem test_refuses_memory : [Instr.girthAccess 64 [], .retWakeDone 8, .eccWriteback 64, .girthShadowEnd 0,
    .girthShadowEnd 4, .bgtPhaseDone [4], .lifeCycleChange 3, .harnessRequest (askFor 13 0 4 0),
    .harnessRequest (askFor 0 32 4 0), .harnessRequest (askFor 0 0 0 0), .harnessRequest (askFor 0 0 2 4095),
    .harnessRequest (askFor 6 0 4 0), .harnessGrant (Port.sram + 1) [], .masterReset 13, .mrstDone 13, .trainDramDone 2 0,
    .alertN 2, .movLate 2 0, .refreshDue 0 4, .mr4Poll 2 0 0, .refreshWindow 2 0, .dqsOscRead 0 4, .trnGo .host 2 0,
    .ceStormEnd 0 4, .dramCfgWrite .host 2 0, .rowIdleClose 0 0 64].all (fun i => !i.wellFormed) = true := by decide +kernel

theorem test_refuses_links : [Instr.laneStateTimeout 10, .prbsLock 10, .txqProdWrite .host 4 0, .verifyTimer 4,
    .cnNsRead .host 2, .stepWrite .host 2 0, .announceTimeout 2 0, .refStop 8, .refMeanUpdate [(8, 0)], .dpllLocked 3,
    .holdExpired 3, .esmcTimeout 4, .framePulse 4 0, .mclkCfgWrite .host 4 0, .flowPacket 4 [], .rebase 2, .pathUp 512,
    .ctxDelayWrite .host 16 0, .clkLoss 16, .hiccupEnd 16, .dcLatch 16, .latchClr .host 16, .wakeSettled 16,
    .pcieLinkUp 0 3, .drvFltNRelease 16].all (fun i => !i.wellFormed) = true := by decide +kernel

/-! ### Worked examples of the spec -/

/-- The words of chapter 05's two assembled sequences. -/
theorem test_words : [0x11684000, 0x91D4FE0F, 0x34428000, 0x61400000, 0x70584000, 0x60520000].map (Awl.decode 0) =
    [Instr.st 0 1 5 1 0, .addp 0 6 5 0xFE0F, .li 0 2 2 0x8000, .clra 0 1 false, .skv 0 1 false 6 2,
      .sacc 0 1 false true 1 0 0] := by decide +kernel

theorem test_words_loop : [0x03009004, 0x03007008, 0x12404000, 0x02000040, 0x52AC0000, 0x60120000, 0x91900041,
      0x01000000].map (Awl.decode 0) =
    [Instr.rptb 0 false 9 4 0, .rptb 0 false 7 8 0, .ldx 0 1 0 1 0, .rpt 0 false 64 0,
      .tapm 0 0 true 2 true 3, .sacc 0 0 false true 1 0 0, .addp 0 4 4 65, .waitb 0 0] := by decide +kernel

/-- R101's example. -/
theorem test_modify : modify 0x0901 (-497) 1024 = 0x0B10 := by decide +kernel

/-- A tile in a pass, with P6 at the four words of R122's example and half in G2. -/
def skvTile : State :=
  let x := up.tile 3
  up.setTile 3 { x with
    pass := .running, p := [(6, 0x0B10)], g := [(2, 0x80000000)],
    x := [(0x0B10, 0x20000000), (0x0B11, 0x40000000), (0x0B12, 0x50000000), (0x0B13, 0x60000000)] }

/-- A1 and the HU of R122's example. -/
theorem test_skv : ((nx (exec (.skv 3 1 false 6 2) skvTile)).tile 3).aReg 1 = 0x2480000000000000 ∧
    ((nx (exec (.skv 3 1 false 6 2) skvTile)).tile 3).hu = 4 := by decide +kernel

/-- The admission example of chapter 03: D0 at 96 kHz, B = 8, the default fence. -/
theorem test_admissible : (up.set Pg.fabric FABRIC.TILE_SPEED_SPEED 1380 12).admissible 12 0 96000 8 = 87757 ∧
    (up.set Pg.fabric FABRIC.TILE_SPEED_SPEED 1210 200).admissible 200 0 96000 8 = 76919 := by decide +kernel

/-- The discussion bus of chapter 06: five, then six open microphones under LAW = 1/√N. -/
theorem test_law : scaleTarget 2 5 = 960383883 ∧ scaleTarget 2 6 = 876706528 := by decide +kernel

/-- The amplifier rack of chapter 16. -/
theorem test_carrier : chooseCarrier true [(0, 39950), (1, 60050)] 2000 = some 2006 := by decide +kernel

/-- Steps 1 and 2 of chapter 11's example: a jumbo frame at 0.2 cycles a byte whose SFD ended at 1.6 cycles. -/
def jumbo : TxFrame :=
  { W37.fr 2 false false with bytes := List.replicate 9010 0, sent := 0, startAt := 16, byteTime := 2 }

theorem test_boundary : jumbo.gone 625 = 3117 ∧ jumbo.boundary 625 = some 3120 := by decide +kernel

/-- Chapter 12's stamp across a wrap. -/
theorem test_linear : ({ Counter.reset with sec := 103, ns := 500000000 } : Counter).linear = 420784896 := by decide +kernel

/-! ### Reset -/

theorem test_reset_mem : Memory.wf State.reset.mem = true := by decide
theorem test_reset_idle : (nx (step State.reset)).now = 1 := by decide +kernel

end Sys2Proof.Tests
end

section
/-!
SUPPORT. What every command keeps: the die's part and memory's canonical form. `Steady` says so of two states, with one
lemma for each function of the model that answers a state, under the name of the model's file that holds it; a proof names
what the function calls, branch by branch. `Meets` says it of a meaning, whose answer is a next state exactly on well-formed
operands.
-/

namespace Sys2Proof.Machine

/-- Between s and u the die is the same part, and memory has kept its canonical form. -/
structure Steady (s u : State) : Prop where
  part : u.part = s.part
  mem : Memory.wf s.mem = true → Memory.wf u.mem = true

variable {s x : State}

theorem Steady.refl (s : State) : Steady s s := ⟨rfl, id⟩

theorem Steady.trans {u : State} (h : Steady s x) (k : Steady x u) : Steady s u :=
  ⟨k.part.trans h.part, fun hw => k.mem (h.mem hw)⟩

/-- The reactions of the Cinch's sources leave part and memory. -/
theorem Steady.of_calm {u : State} (h : Steady s x) (c : Calm x u) : Steady s u :=
  ⟨c.part.trans h.part, fun hw => by rw [c.mem]; exact h.mem hw⟩

theorem Steady.ite {c : Prop} [Decidable c] {t u : State} (h : Steady s t) (k : Steady s u) :
    Steady s (if c then t else u) := by
  split
  · exact h
  · exact k

theorem Steady.ite_fst {c : Prop} [Decidable c] {α : Type} {t u : State × α} (h : Steady s t.1) (k : Steady s u.1) :
    Steady s (if c then t else u).1 := by
  split
  · exact h
  · exact k

theorem Steady.ite_snd {c : Prop} [Decidable c] {α : Type} {t u : α × State} (h : Steady s t.2) (k : Steady s u.2) :
    Steady s (if c then t else u).2 := by
  split
  · exact h
  · exact k

theorem Steady.foldl {α : Type} {l : List α} {f : State → α → State} (h : Steady s x)
    (hf : ∀ {t a}, Steady s t → Steady s (f t a)) : Steady s (l.foldl f x) := by
  induction l generalizing x with
  | nil => exact h
  | cons a l ih => exact ih (hf h)

theorem Steady.foldl_fst {α β : Type} {l : List α} {f : State × β → α → State × β} {r : State × β}
    (h : Steady s r.1) (hf : ∀ {r a}, Steady s r.1 → Steady s (f r a).1) : Steady s (l.foldl f r).1 := by
  induction l generalizing r with
  | nil => exact h
  | cons a l ih => exact ih (hf h)

/-! ### What a meaning answers -/

/-- The answer of a meaning whose operands are well formed or not (`ok`): a fault on operands that the block has not, else
a next state of the same part, with memory in canonical form where it was. -/
def Meets (ok : Bool) (s : State) (o : Outcome) : Prop := ∃ u, o = guardWf ok (.next u) ∧ Steady s u

theorem Meets.of {ok : Bool} {u : State} (h : Steady s s → Steady s u) : Meets ok s (guardWf ok (.next u)) :=
  ⟨u, rfl, h (Steady.refl s)⟩

theorem Meets.next {u : State} (h : Steady s s → Steady s u) : Meets true s (.next u) := .of h

theorem Meets.part {ok present : Bool} {u : State} (h : Steady s s → Steady s u) :
    Meets ok s (s.guardPart ok present (.next u)) := by
  cases present with
  | false => exact .of id
  | true => exact .of h

theorem Meets.next_iff {ok : Bool} {o : Outcome} (h : Meets ok s o) : (∃ u, o = .next u) ↔ ok = true := by
  obtain ⟨u, rfl, -⟩ := h
  cases ok with
  | false => exact ⟨fun ⟨v, e⟩ => (by cases e), fun e => (by cases e)⟩
  | true => exact ⟨fun _ => rfl, fun _ => ⟨u, rfl⟩⟩

theorem Meets.steady {u : State} {ok : Bool} {o : Outcome} (h : Meets ok s o) (e : o = .next u) : Steady s u := by
  obtain ⟨t, rfl, ht⟩ := h
  cases ok with
  | false => cases e
  | true => cases e; exact ht

theorem Meets.trans {ok : Bool} {o : Outcome} (h : Steady s x) (ho : Meets ok x o) : Meets ok s o := by
  obtain ⟨u, e, hu⟩ := ho
  exact ⟨u, e, h.trans hu⟩

theorem Meets.holds {ok : Bool} {o : Outcome} (h : Meets ok s o) (hok : ok = true) : Meets true s o := hok ▸ h

theorem Meets.ite {c : Prop} [Decidable c] {ok : Bool} {o o' : Outcome} (h : c → Meets ok s o)
    (k : ¬ c → Meets ok s o') : Meets ok s (if c then o else o') := by
  split
  · exact h ‹_›
  · exact k ‹_›

theorem Meets.guard {ok : Bool} {o : Outcome} (h : ok = true → Meets true s o) : Meets ok s (guardWf ok o) := by
  cases ok with
  | false => exact ⟨s, rfl, Steady.refl s⟩
  | true => exact h rfl

/-- A check of further operands around a meaning. -/
theorem Meets.within {ok ok' : Bool} {o : Outcome} (h : Meets ok s o) : Meets (ok && ok') s (guardWf ok' o) := by
  cases ok' with
  | false => exact ⟨s, by rw [Bool.and_false]; rfl, Steady.refl s⟩
  | true => rw [Bool.and_true]; exact h

/-! ### Records -/

theorem Steady.with_freeCtr {y} (h : Steady s x) : Steady s { x with freeCtr := y } := ⟨h.part, h.mem⟩
theorem Steady.with_lastResp {y} (h : Steady s x) : Steady s { x with lastResp := y } := ⟨h.part, h.mem⟩
theorem Steady.with_regs {y} (h : Steady s x) : Steady s { x with regs := y } := ⟨h.part, h.mem⟩
theorem Steady.with_msix {y} (h : Steady s x) : Steady s { x with msix := y } := ⟨h.part, h.mem⟩
theorem Steady.with_ctrl {y} (h : Steady s x) : Steady s { x with ctrl := y } := ⟨h.part, h.mem⟩
theorem Steady.with_cinch {y} (h : Steady s x) : Steady s { x with cinch := y } := ⟨h.part, h.mem⟩
theorem Steady.with_life {y} (h : Steady s x) : Steady s { x with life := y } := ⟨h.part, h.mem⟩
theorem Steady.with_tiles {y} (h : Steady s x) : Steady s { x with tiles := y } := ⟨h.part, h.mem⟩
theorem Steady.with_fabric {y} (h : Steady s x) : Steady s { x with fabric := y } := ⟨h.part, h.mem⟩
theorem Steady.with_mix {y} (h : Steady s x) : Steady s { x with mix := y } := ⟨h.part, h.mem⟩
theorem Steady.with_girth {y} (h : Steady s x) : Steady s { x with girth := y } := ⟨h.part, h.mem⟩
theorem Steady.with_harness {y} (h : Steady s x) : Steady s { x with harness := y } := ⟨h.part, h.mem⟩
theorem Steady.with_drams {y} (h : Steady s x) : Steady s { x with drams := y } := ⟨h.part, h.mem⟩
theorem Steady.with_lanes {y} (h : Steady s x) : Steady s { x with lanes := y } := ⟨h.part, h.mem⟩
theorem Steady.with_macs {y} (h : Steady s x) : Steady s { x with macs := y } := ⟨h.part, h.mem⟩
theorem Steady.with_time {y} (h : Steady s x) : Steady s { x with time := y } := ⟨h.part, h.mem⟩
theorem Steady.with_rein {y} (h : Steady s x) : Steady s { x with rein := y } := ⟨h.part, h.mem⟩
theorem Steady.with_flow {y} (h : Steady s x) : Steady s { x with flow := y } := ⟨h.part, h.mem⟩
theorem Steady.with_saps {y} (h : Steady s x) : Steady s { x with saps := y } := ⟨h.part, h.mem⟩
theorem Steady.with_loops {y} (h : Steady s x) : Steady s { x with loops := y } := ⟨h.part, h.mem⟩
theorem Steady.with_keeper {y} (h : Steady s x) : Steady s { x with keeper := y } := ⟨h.part, h.mem⟩

/-! ### Ops -/

theorem Steady.whenHolds {c f} (h : Steady s x) (hf : ∀ {t}, Steady s t → Steady s (f t)) :
    Steady s (whenHolds c x f) :=
  .ite (hf h) h

theorem Steady.set {p f v i} (h : Steady s x) : Steady s (x.set p f v i) := h.with_regs
theorem Steady.setFlag {p f b i} (h : Steady s x) : Steady s (x.setFlag p f b i) := h.set
theorem Steady.count {p f n i} (h : Steady s x) : Steady s (x.count p f n i) := h.set
theorem Steady.resetPage {p keep} (h : Steady s x) : Steady s (x.resetPage p keep) := h.with_regs
theorem Steady.free (h : Steady s x) : Steady s (x.free).2 := h.with_freeCtr

theorem Steady.setByte {a b} (h : Steady s x) : Steady s (x.setByte a b) :=
  ⟨h.part, fun hw => nput_wf memDefault x.mem a b (h.mem hw)⟩

theorem Steady.setBytes {a bs} (h : Steady s x) : Steady s (x.setBytes a bs) := by
  induction bs generalizing x a with
  | nil => exact h
  | cons b bs ih => exact ih h.setByte

theorem Steady.sendMsix {v} (h : Steady s x) : Steady s (x.sendMsix v) := h.with_msix
theorem Steady.risen {old v} (h : Steady s x) : Steady s (State.risen old v x) := .ite h.sendMsix h

theorem Steady.evtWritten {p} (h : Steady s x) : Steady s (x.evtWritten p) :=
  .ite (.ite (Steady.ite h.sendMsix h).sendMsix (.ite h.sendMsix h)) (.ite h.sendMsix h)

theorem Steady.events {p mask} (h : Steady s x) : Steady s (x.events p mask) :=
  .ite (.ite h.set.risen.risen h.set.risen) h

theorem Steady.event {p b} (h : Steady s x) : Steady s (x.event p b) := h.events
theorem Steady.opDone {p} (h : Steady s x) : Steady s (x.opDone p) := h.event
theorem Steady.answer {r} (h : Steady s x) : Steady s (x.answer r) := h.with_lastResp
theorem Steady.longStart {p} (h : Steady s x) : Steady s (x.longStart p) := h.set.set.set
theorem Steady.longStep {p pct pos} (h : Steady s x) : Steady s (x.longStep p pct pos) := h.set.set

theorem Steady.longEnd {p completed} (h : Steady s x) : Steady s (x.longEnd p completed) :=
  (Steady.ite h.set h).opDone

theorem Steady.lifePut {p idx v} (h : Steady s x) : Steady s (x.lifePut p idx v) := h.with_life
theorem Steady.lifeAdd {p idx n} (h : Steady s x) : Steady s (x.lifeAdd p idx n) := .ite h.lifePut h
theorem Steady.absentHit (h : Steady s x) : Steady s x.absentHit := h.count.event
theorem Steady.abandonUnlock {p} (h : Steady s x) : Steady s (x.abandonUnlock p) := h.with_ctrl

theorem Steady.writeTo {m p f} (h : Steady s x) (hf : ∀ {t}, Steady s t → Steady s (f t)) :
    Steady s (x.writeTo m p f) :=
  .ite (.ite (hf h.abandonUnlock).answer h.answer) h.absentHit.answer

theorem Steady.readFrom {p f} (h : Steady s x) (hf : ∀ {t}, Steady s t → Steady s (f t).1) :
    Steady s (x.readFrom p f) :=
  .ite (hf h).answer h.absentHit.answer

theorem Steady.advance {n} (h : Steady s x) : Steady s (x.advance n) := ⟨h.part, h.mem⟩
theorem Steady.reach {due} (h : Steady s x) : Steady s (x.reach due) := h.advance
theorem Steady.untilTime0 {ns} (h : Steady s x) : Steady s (x.untilTime0 ns) := h.reach

theorem Steady.each {α : Type} {l : List α} {f} (h : Steady s x) (hf : ∀ {t a}, Steady s t → Steady s (f t a)) :
    Steady s (x.each l f) :=
  h.foldl hf

/-! ### StirrupOps -/

theorem Steady.setLoop {n l} (h : Steady s x) : Steady s (x.setLoop n l) := h.with_loops
theorem Steady.setLoopState {n v} (h : Steady s x) : Steady s (x.setLoopState n v) := h.set
theorem Steady.measureCarrier {n fT} (h : Steady s x) : Steady s (x.measureCarrier n fT) := h.free.set
theorem Steady.refreshLoop {n} (h : Steady s x) : Steady s (x.refreshLoop n) := .ite h.set.set.setFlag h.set

theorem Steady.measureLoop {n} (h : Steady s x) : Steady s (x.measureLoop n) :=
  .ite h (Steady.ite h.free.set h.measureCarrier).free.set

theorem Steady.notePeak {n peak} (h : Steady s x) : Steady s (x.notePeak n peak) := .ite h.set.lifePut h.set

theorem Steady.senseLoop {n} (h : Steady s x) : Steady s (x.senseLoop n) :=
  .ite h.refreshLoop.measureLoop.free.notePeak h.refreshLoop.measureLoop

theorem Steady.gatesLow {n st} (h : Steady s x) : Steady s (x.gatesLow n st) := h.setLoopState.set.set.set

theorem Steady.startAtCarrier {n st fT} (h : Steady s x) : Steady s (x.startAtCarrier n st fT) :=
  h.setLoop.set.set.setLoopState.measureLoop

theorem Steady.startWith {n st b3} (h : Steady s x) : Steady s (x.startWith n st b3) := by
  unfold State.startWith
  split
  · exact h.gatesLow.event
  · exact h.startAtCarrier

theorem Steady.startCarrier {n st} (h : Steady s x) : Steady s (x.startCarrier n st) := h.startWith
theorem Steady.beginSoftStart {n} (h : Steady s x) : Steady s (x.beginSoftStart n) := .ite h h.startCarrier
theorem Steady.enterSafe {n} (h : Steady s x) : Steady s (x.enterSafe n) := .ite h h.gatesLow

theorem Steady.leaveSafe {n} (h : Steady s x) : Steady s (x.leaveSafe n) :=
  .ite h (.ite h.setLoopState (.ite h.setLoopState.beginSoftStart h.setLoopState))

theorem Steady.latchLoop {n cause} (h : Steady s x) : Steady s (x.latchLoop n cause) :=
  h.gatesLow.set.setLoop.count.lifeAdd.event

theorem Steady.tripMember {fourth k} (h : Steady s x) : Steady s (x.tripMember fourth k) := by
  unfold State.tripMember
  extract_lets p l ts was st s1 s2 s3
  have h1 : Steady s s1 := h.setLoop
  have h2 : Steady s s2 := h1.set
  have h3 : Steady s s3 := .ite h2.event h2
  exact .ite (.ite h3 h3.latchLoop) (.ite h3.gatesLow h3)

theorem Steady.hiccupOver {k} (h : Steady s x) : Steady s (x.hiccupOver k) :=
  .ite (.ite h.setLoop.beginSoftStart h.setLoop.setLoopState) h.setLoop

theorem Steady.unlatch {k} (h : Steady s x) : Steady s (x.unlatch k) := by
  unfold State.unlatch
  extract_lets p st _ s1 s2 s3
  have h1 : Steady s s1 := h.setLoop
  have h2 : Steady s s2 := h1.set
  have h3 : Steady s s3 := h2.set.setLoopState
  exact .ite (.ite h3.beginSoftStart h3) h2

theorem Steady.stirrupEnabled {n} (h : Steady s x) : Steady s (x.stirrupEnabled n) := .ite h.beginSoftStart h

theorem Steady.stirrupDrained {n} (h : Steady s x) : Steady s (x.stirrupDrained n) :=
  .ite h.setLoop (.ite h.setLoopState h)

theorem Steady.stirrupQuiesced {n} (h : Steady s x) : Steady s (x.stirrupQuiesced n) :=
  .ite h.setLoop h.setLoop.gatesLow.set

theorem Steady.loopFaded {n} (h : Steady s x) : Steady s (x.loopFaded n) := .ite h.reach h
theorem Steady.stirrupReset {n} (h : Steady s x) : Steady s (x.stirrupReset n) := h.setLoop.setFlag

/-! ### CinchOps -/

theorem Steady.setCinchSrc {src c} (h : Steady s x) : Steady s (x.setCinchSrc src c) := h.with_cinch

theorem Steady.reconcile {old} (h : Steady s x) : Steady s (State.reconcile old x) := by
  unfold State.reconcile
  extract_lets s1 freed muted rel rel' _ s2 s3
  have h1 : Steady s s1 := h.each fun ht => .ite ht.enterSafe (.ite ht.leaveSafe ht)
  have h2 : Steady s s2 := h1.with_cinch
  have h3 : Steady s s3 := .ite h2.event h2
  exact .ite h3.event h3

theorem Steady.occurrence {src inst forced} (h : Steady s x) : Steady s (x.occurrence src inst forced) :=
  h.of_calm (State.occurrence_calm ..)

theorem Steady.raise {src inst} (h : Steady s x) : Steady s (x.raise src inst) := h.of_calm (State.raise_calm ..)
theorem Steady.liveFell {src} (h : Steady s x) : Steady s (x.liveFell src) := h.of_calm (State.liveFell_calm ..)
theorem Steady.lower {src inst} (h : Steady s x) : Steady s (x.lower src inst) := h.of_calm (State.lower_calm ..)

theorem Steady.setSource {src inst on} (h : Steady s x) : Steady s (x.setSource src inst on) :=
  h.of_calm (State.setSource_calm ..)

theorem Steady.withdraw {src auto} (h : Steady s x) : Steady s (x.withdraw src auto) :=
  h.of_calm (State.withdraw_calm ..)

/-! ### Cinch -/

theorem execSourceHoldEnd_meets {src inst} : Meets true s (execSourceHoldEnd src inst s) :=
  .next fun h => h.whenHolds fun ht => ht.reach.lower

theorem execQuietExpiry_meets {src} : Meets true s (execQuietExpiry src s) :=
  .next fun h => h.whenHolds fun ht => ht.reach.withdraw

theorem Steady.writeSource {m f} (h : Steady s x) (hf : ∀ {a t}, Steady s t → Steady s (f a t)) :
    Steady s (x.writeSource m f) :=
  h.writeTo fun ht => .ite (hf ht) ht

theorem execReactClr_meets {m} : Meets true s (execReactClr m s) :=
  .next fun h => h.writeSource fun ht => .ite ht.event (.ite ht.withdraw ht)

theorem Steady.clearLatched {src} (h : Steady s x) : Steady s (x.clearLatched src) :=
  .ite h h.set.set.set.set.set.set.set

theorem execLatchedClear_meets {m} : Meets true s (execLatchedClear m s) :=
  .next fun h => h.writeSource fun ht => ht.clearLatched

theorem Steady.setForce {src on} (h : Steady s x) : Steady s (x.setForce src on) :=
  .ite h.setFlag.occurrence (.ite h.setFlag.liveFell h.setFlag)

theorem Steady.setAutoQuiet {src auto quiet} (h : Steady s x) : Steady s (x.setAutoQuiet src auto quiet) :=
  .ite (Steady.ite h.set h).set.set.setCinchSrc (Steady.ite h.set h).set

theorem execSrcCfgWrite_meets {m v} : Meets true s (execSrcCfgWrite m v s) :=
  .next fun h => h.writeSource fun ht => (Steady.ite ht (Steady.ite ht.set.set ht.set).setAutoQuiet).setForce

theorem execForce_meets {m on} : Meets true s (execForce m on s) :=
  .next fun h => h.writeSource fun ht => ht.setForce

theorem Steady.thermal {src tj limit} (h : Steady s x) : Steady s (x.thermal src tj limit) :=
  .ite h.raise (.ite h.lower h)

theorem execTjRead_meets {tj} : Meets true s (execTjRead tj s) :=
  .next fun h => (Steady.ite h.reach.with_cinch.set.set h.reach.with_cinch.set).with_life.thermal.thermal

theorem execTamperClear_meets : Meets true s (execTamperClear s) :=
  .next fun h => h.whenHolds fun ht => ht.reach.with_girth.lower

/-! ### GirthOps -/

theorem Steady.onGirth {f} (h : Steady s x) : Steady s (x.onGirth f) := h.with_girth
theorem Steady.setBank {b y} (h : Steady s x) : Steady s (x.setBank b y) := h.onGirth
theorem Steady.setVaultMap {m} (h : Steady s x) : Steady s (x.setVaultMap m) := h.set.set
theorem Steady.setVaultFailed {m} (h : Steady s x) : Steady s (x.setVaultFailed m) := h.set.set
theorem Steady.girthEccSource (h : Steady s x) : Steady s x.girthEccSource := h.setSource
theorem Steady.wipeProgress (h : Steady s x) : Steady s x.wipeProgress := .ite h.free.longStep h
theorem Steady.endTest (h : Steady s x) : Steady s x.endTest := h.onGirth.set.set

theorem Steady.setGirthByte {o b} (h : Steady s x) : Steady s (x.setGirthByte o b) := by
  unfold State.setGirthByte
  extract_lets page reserve
  have hreserve : ∀ {t}, Steady s t → Steady s (reserve t) := fun ht => ht.onGirth
  refine .ite (hreserve h) ?_
  split
  · exact .ite h.setByte (.ite (hreserve h) (hreserve h.setByte))
  · exact h.setByte

theorem Steady.saveRegion {page} (h : Steady s x) : Steady s (x.saveRegion page) := h.onGirth

theorem Steady.restoreRegion {page} (h : Steady s x) : Steady s (x.restoreRegion page) :=
  h.each fun ht => ht.setByte

theorem Steady.breakLocks {master words} (h : Steady s x) : Steady s (x.breakLocks master words) := h.onGirth
theorem Steady.wakeAll (h : Steady s x) : Steady s x.wakeAll := h.set.set

theorem Steady.abandonTest (h : Steady s x) : Steady s x.abandonTest := by
  unfold State.abandonTest
  split
  · split
    · exact .ite (Steady.ite h h.restoreRegion).endTest.onGirth h
    · exact h
  · exact h

theorem Steady.startWipe {granules cause} (h : Steady s x) : Steady s (x.startWipe granules cause) :=
  (Steady.ite h.onGirth.set h.onGirth.set.set.event.longStart.wakeAll).abandonTest

theorem Steady.zeroRange {o n} (h : Steady s x) : Steady s (x.zeroRange o n) :=
  ⟨h.part, fun hw => State.zeroRange_wf (h.mem hw) o n⟩

theorem Steady.zeroGranules {m} (h : Steady s x) : Steady s (x.zeroGranules m) :=
  h.each fun ht => .ite ht.zeroRange ht

theorem Steady.wakeSegment {seg} (h : Steady s x) : Steady s (x.wakeSegment seg) := h.set.set.set

theorem Steady.wakeByAccess {seg} (h : Steady s x) : Steady s (x.wakeByAccess seg) :=
  .ite h.wakeSegment.count.event h

theorem Steady.touchGirth {o n} (h : Steady s x) : Steady s (x.touchGirth o n) :=
  .ite h (h.each fun ht => ht.wakeByAccess)

theorem Steady.settleRetention (h : Steady s x) : Steady s x.settleRetention := h.each fun ht => .ite ht.set ht
theorem Steady.laneTxn {seg lane f} (h : Steady s x) : Steady s (x.laneTxn seg lane f) := h.with_harness

theorem Steady.countShadow {port} (h : Steady s x) : Steady s (x.countShadow port) :=
  .ite h.count (.ite h.count (.ite h.count h))

theorem Steady.lockFailed (h : Steady s x) : Steady s x.lockFailed := h.count.event
theorem Steady.shadowed {port} (h : Steady s x) : Steady s (x.shadowed port) := h.countShadow.event.raise

theorem Steady.shadowBeat {seg y} (h : Steady s x) : Steady s (x.shadowBeat seg y) := by
  unfold State.shadowBeat
  extract_lets first rt s1 s2 s3 s4
  have h1 : Steady s s1 := h.shadowed
  have h2 : Steady s s2 := .ite h1.lockFailed.onGirth h1
  have h3 : Steady s s3 := .ite h2.count.event h2
  have h4 : Steady s s4 := .ite h3.count h3
  exact h4.laneTxn

theorem Steady.storeBeat {y} (h : Steady s x) : Steady s (x.storeBeat y) := by
  unfold State.storeBeat
  exact (h.each fun ht => .ite ht.setGirthByte ht).breakLocks.onGirth

theorem Steady.girthCe {o} (h : Steady s x) : Steady s (x.girthCe o) := by
  unfold State.girthCe
  extract_lets b row s1 s2 ts _ s3 s4
  have h1 : Steady s s1 := h.count.count.event
  have h2 : Steady s s2 := h1.lifeAdd
  have h3 : Steady s s3 := h2.setBank
  have h4 : Steady s s4 := h3.onGirth
  exact .ite h4.onGirth h4

theorem Steady.girthUe {o} (h : Steady s x) : Steady s (x.girthUe o) := by
  unfold State.girthUe
  extract_lets s1 s2 s3
  have h1 : Steady s s1 := h.count.event.lifeAdd
  have h2 : Steady s s2 := h1.onGirth
  have h3 : Steady s s3 := .ite h2 h2.set.set
  exact h3.girthEccSource

theorem Steady.upsets {ecc} (h : Steady s x) : Steady s (x.upsets ecc) := h.onGirth

theorem Steady.checkRange {o n} (h : Steady s x) : Steady s (x.checkRange o n) := by
  unfold State.checkRange
  refine h.each fun ht => .ite ht.girthUe ?_
  split
  · exact ht.girthCe
  · exact ht.girthUe
  · exact ht

theorem Steady.refuseMisaligned {seg y} (h : Steady s x) : Steady s (x.refuseMisaligned seg y) :=
  h.count.event.setBank.laneTxn

theorem Steady.denyVault {seg y} (h : Steady s x) : Steady s (x.denyVault seg y) :=
  (Steady.ite h.count.event.onGirth h.count.event).laneTxn

theorem Steady.readBeat {seg y} (h : Steady s x) : Steady s (x.readBeat seg y) :=
  (Steady.ite h.checkRange.onGirth h.checkRange).laneTxn

theorem Steady.writeBeat {seg y} (h : Steady s x) : Steady s (x.writeBeat seg y) := by
  unfold State.writeBeat
  extract_lets broken s1
  have h1 : Steady s s1 := .ite h.onGirth h
  exact .ite h1.lockFailed.laneTxn h1.storeBeat.laneTxn

theorem Steady.serveBeat {seg y} (h : Steady s x) : Steady s (x.serveBeat seg y) :=
  .ite h.refuseMisaligned (.ite h.denyVault (.ite h.writeBeat h.readBeat))

theorem Steady.slot {b} (h : Steady s x) : Steady s (x.slot b) := by
  unfold State.slot
  extract_lets seg s1 bk wipe
  have h1 : Steady s s1 := h.each fun ht => ht.setBank.shadowBeat
  split
  · exact .ite h1 h1.setBank
  · split
    · exact h1
    · exact h1.setBank.serveBeat

theorem Steady.serveAhead {port b n} (h : Steady s x) : Steady s (x.serveAhead port b n) := by
  induction n generalizing x with
  | zero => exact h
  | succ n ih => exact .ite (ih h.slot) h

theorem Steady.reachBank {port b} (h : Steady s x) : Steady s (x.reachBank port b) := .ite h h.serveAhead.setBank

theorem Steady.storeLine {y} (h : Steady s x) : Steady s (x.storeLine y).1 :=
  .ite_fst h.count.event (.ite_fst h.shadowed (h.each fun ht => ht.setBank.shadowBeat).reachBank.storeBeat)

theorem Steady.countMisaligned (h : Steady s x) : Steady s x.countMisaligned := h.count.event

theorem Steady.store {port master o data} (h : Steady s x) : Steady s (x.store port master o data).1 :=
  .ite_fst h.countMisaligned (h.touchGirth.foldl_fst (fun ht => ht.storeLine))

theorem Steady.fetchLine {y} (h : Steady s x) : Steady s (x.fetchLine y).1 :=
  .ite_fst h.count.event h.reachBank.checkRange

theorem Steady.fetch {port master o n} (h : Steady s x) : Steady s (x.fetch port master o n).1 :=
  .ite_fst h.countMisaligned (h.touchGirth.foldl_fst (fun ht => ht.fetchLine))

theorem Steady.putBlock {port master q l} (h : Steady s x) : Steady s (x.putBlock port master q l).1 := by
  unfold State.putBlock
  split
  · exact h.store
  · exact h.with_mix

theorem Steady.readBlock {q} (h : Steady s x) : Steady s (x.readBlock q).1 := by
  unfold State.readBlock
  split
  · exact h.fetch
  · exact h

/-! ### FabricOps -/

theorem Steady.setTile {t y} (h : Steady s x) : Steady s (x.setTile t y) := h.with_tiles
theorem Steady.setDom {d y} (h : Steady s x) : Steady s (x.setDom d y) := h.with_fabric
theorem Steady.onFabric {f} (h : Steady s x) : Steady s (x.onFabric f) := h.with_fabric
theorem Steady.onMix {f} (h : Steady s x) : Steady s (x.onMix f) := h.with_mix
theorem Steady.unconfigureTile {t} (h : Steady s x) : Steady s (x.unconfigureTile t) := h.set.set.set.set.set
theorem Steady.tileLife {t k} (h : Steady s x) : Steady s (x.tileLife t k) := .ite h.lifeAdd h
theorem Steady.slackLife {t bin} (h : Steady s x) : Steady s (x.slackLife t bin) := h.lifeAdd
theorem Steady.snapPass {t aborted} (h : Steady s x) : Steady s (x.snapPass t aborted) := h.set.setFlag.set

theorem Steady.observePass {t onTime} (h : Steady s x) : Steady s (x.observePass t onTime) := by
  unfold State.observePass
  split
  · exact .ite h.onFabric h
  · exact h

theorem Steady.abortPass {t ended} (h : Steady s x) : Steady s (x.abortPass t ended) := h.setTile.snapPass
theorem Steady.recordHu {t} (h : Steady s x) : Steady s (x.recordHu t) := h.set.set

theorem Steady.tileStat {t missed late fault} (h : Steady s x) : Steady s (x.tileStat t missed late fault) :=
  h.setFlag.setFlag.setFlag

theorem Steady.recordSlack {t slack} (h : Steady s x) : Steady s (x.recordSlack t slack) := h.set.set.setTile.setDom
theorem Steady.noteAgree {t} (h : Steady s x) : Steady s (x.noteAgree t) := h.setTile

theorem Steady.observeSpeed {t busy} (h : Steady s x) : Steady s (x.observeSpeed t busy) :=
  .ite h (.ite h.setTile.set.set.noteAgree h.setTile)

theorem Steady.drainChannel {t j block} (h : Steady s x) : Steady s (x.drainChannel t j block).1 := by
  unfold State.drainChannel
  split
  · exact h
  · exact h.set.count

theorem Steady.drainPass {t} (h : Steady s x) : Steady s (x.drainPass t) := by
  unfold State.drainPass
  extract_lets w y r
  have hr : Steady s r.1 := Steady.foldl_fst (r := (x, [])) h fun ht => ht.drainChannel
  exact hr.setTile

theorem Steady.passOnTime {t done} (h : Steady s x) : Steady s (x.passOnTime t done) :=
  h.setTile.tileStat.set.recordSlack.slackLife.observeSpeed.observePass.drainPass

theorem Steady.completePass {t done} (h : Steady s x) : Steady s (x.completePass t done) :=
  .ite h.reach.recordHu.snapPass.passOnTime h.reach.recordHu.snapPass.setTile.observeSpeed

theorem Steady.recordFault {t cause pc} (h : Steady s x) : Steady s (x.recordFault t cause pc) :=
  .ite h h.set.set.set

theorem Steady.faultAbort {t} (h : Steady s x) : Steady s (x.faultAbort t) := h.abortPass.tileStat.count.tileLife

theorem Steady.tileFault {t cause} (h : Steady s x) : Steady s (x.tileFault t cause) :=
  h.count.recordFault.event.tileLife.faultAbort.raise

/-! ### FlowCtxOps -/

theorem Steady.onFlow {f} (h : Steady s x) : Steady s (x.onFlow f) := h.with_flow
theorem Steady.setCtx {c y} (h : Steady s x) : Steady s (x.setCtx c y) := h.onFlow

theorem Steady.onCtx {c f} (h : Steady s x) : Steady s (x.onCtx c f) := by
  unfold State.onCtx
  split
  · exact h.setCtx
  · exact h

theorem Steady.ctxSet {c f v} (h : Steady s x) : Steady s (x.ctxSet c f v) := h.set
theorem Steady.ctxCount {c f n} (h : Steady s x) : Steady s (x.ctxCount c f n) := h.count

theorem Steady.setCtxState {c v} (h : Steady s x) : Steady s (x.setCtxState c v) := by
  unfold State.setCtxState
  split
  · exact h.each fun ht => ht.ctxSet
  · exact h

theorem Steady.showProtected {a} (h : Steady s x) : Steady s (x.showProtected a) := h.ctxSet
theorem Steady.pathSource {a} (h : Steady s x) : Steady s (x.pathSource a) := h.setSource

theorem Steady.pathChanged {c y} (h : Steady s x) : Steady s (x.pathChanged c y) :=
  .ite h.showProtected.pathSource h

theorem Steady.losePath {c} (h : Steady s x) : Steady s (x.losePath c) := by
  unfold State.losePath
  split
  · exact .ite h.setCtx h.setCtx.ctxSet.event.lifeAdd.pathChanged
  · exact h

theorem Steady.pathsDown {port} (h : Steady s x) : Steady s (x.pathsDown port) := by
  unfold State.pathsDown
  refine h.each fun ht => ?_
  split
  · exact .ite ht.losePath ht
  · exact ht

/-! ### MacOps -/

theorem Steady.setMac {n y} (h : Steady s x) : Steady s (x.setMac n y) := h.with_macs
theorem Steady.onMac {n f} (h : Steady s x) : Steady s (x.onMac n f) := h.setMac
theorem Steady.netRead {master o n ecc} (h : Steady s x) : Steady s (x.netRead master o n ecc).1 := h.upsets.fetch
theorem Steady.netWrite {master o data} (h : Steady s x) : Steady s (x.netWrite master o data).1 := h.store

theorem Steady.flowCompletion {n status shadowed} (h : Steady s x) :
    Steady s (x.flowCompletion n status shadowed) := by
  unfold State.flowCompletion
  split
  · exact h
  · extract_lets _ s1 s2
    have h1 : Steady s s1 := h.with_flow
    have h2 : Steady s s2 := .ite h1.ctxCount h1
    exact .ite h2.ctxCount.event h2

theorem Steady.completeTx {n q idx status tag lost frags shadowed} (h : Steady s x) :
    Steady s (x.completeTx n q idx status tag lost frags shadowed) := by
  unfold State.completeTx
  extract_lets w2 r shadowed s1 s2 s3
  have hr : Steady s r.1 := .ite_fst h.shadowed h.netWrite
  have h1 : Steady s s1 := .ite hr.count.event hr
  have h2 : Steady s s2 := h1.set
  have h3 : Steady s s3 := h2.onMac
  exact .ite h3.flowCompletion h3

theorem Steady.readDesc {n q idx} (h : Steady s x) : Steady s (x.readDesc n q idx).1 := h.netRead
theorem Steady.freeErr {bound} (h : Steady s x) : Steady s (x.freeErr bound).2 := h.free

theorem Steady.txStamp {n tenths} (h : Steady s x) : Steady s (x.txStamp n tenths).2 := by
  unfold State.txStamp
  exact .ite_snd (h.freeErr (bound := 20)) h

theorem Steady.rxStamp {n tenths} (h : Steady s x) : Steady s (x.rxStamp n tenths).2 := by
  unfold State.rxStamp
  split
  rename_i u _
  exact .ite_snd (h.freeErr (bound := 20 + u)) (h.freeErr (bound := 20 + u))

theorem Steady.refill {n q} (h : Steady s x) : Steady s (x.refill n q) := h.setMac

theorem Steady.setPolice {n q f} (h : Steady s x) (hf : ∀ {t}, Steady s t → Steady s (f t)) :
    Steady s (x.setPolice n q f) :=
  .ite (hf h.refill).free.onMac (hf h.refill).onMac

theorem Steady.takeTokens {n q bytes} (h : Steady s x) : Steady s (x.takeTokens n q bytes) := .ite h h.onMac

theorem Steady.headReady {n q fuel} (h : Steady s x) : Steady s (x.headReady n q fuel).1 := by
  induction fuel generalizing x with
  | zero => exact h
  | succ fuel ih =>
    exact .ite_fst h (.ite_fst (ih h.completeTx) (.ite_fst h (.ite_fst h.readDesc.set.event
      (.ite_fst (ih h.readDesc.completeTx) (.ite_fst h
        (.ite_fst (ih h.refill.count.event.completeTx) h.refill))))))

theorem Steady.startHead {n q from_} (h : Steady s x) : Steady s (x.startHead n q from_) := by
  unfold State.startHead
  extract_lets idx bt at_ drop
  refine .ite ?_ (Steady.ite h.readDesc.netRead h.readDesc.netRead.takeTokens).onMac
  split
  · exact h
  · exact (Steady.ite h.netRead h.netRead.takeTokens).onMac

theorem Steady.startPause {n quanta} (h : Steady s x) : Steady s (x.startPause n quanta) := by
  unfold State.startPause
  exact h.onMac

theorem Steady.tryQueues {n qs} (h : Steady s x) : Steady s (x.tryQueues n qs) := by
  induction qs generalizing x with
  | nil => exact h
  | cons q qs ih =>
    unfold State.tryQueues
    have hq : Steady s (x.headReady n q (x.qWaiting n q + 1)).1 := h.headReady
    exact .ite hq.startHead (ih hq)

theorem Steady.resumeFrame {n} (h : Steady s x) : Steady s (x.resumeFrame n) := by
  unfold State.resumeFrame
  extract_lets x'
  split
  · exact h
  · exact h.setMac

theorem Steady.pick {n} (h : Steady s x) : Steady s (x.pick n) := by
  unfold State.pick
  refine .ite h ?_
  split
  · exact h.startPause
  · exact .ite h.tryQueues (.ite h.tryQueues.resumeFrame h.tryQueues.tryQueues)

theorem Steady.preempt {n} (h : Steady s x) : Steady s (x.preempt n) := by
  unfold State.preempt
  split
  · exact h.pick
  · refine .ite h ?_
    split
    · exact h
    · have h7 : Steady s (x.headReady n 7 (x.qWaiting n 7 + 1)).1 := h.headReady
      split
      rename_i s7 r7 e7
      rw [e7] at h7
      have h6 : Steady s (if r7 then (s7, false) else s7.headReady n 6 (s7.qWaiting n 6 + 1)).1 :=
        .ite_fst h7 h7.headReady
      split
      rename_i s6 r6 e6
      rw [e6] at h6
      exact .ite h6.count.onMac.startHead h6

theorem Steady.schedule {n} (h : Steady s x) : Steady s (x.schedule n) :=
  (Steady.ite h (h.each fun ht => .ite ht (.ite ht ht.headReady))).preempt

theorem Steady.offerStamp {n f ns} (h : Steady s x) : Steady s (x.offerStamp n f ns).1 :=
  .ite_fst h.setMac.set h.setMac.count.lifeAdd.event.raise

theorem Steady.pauseUpdate {n} (h : Steady s x) : Steady s (x.pauseUpdate n) := by
  unfold State.pauseUpdate
  extract_lets p on s1 s2 s3
  have h1 : Steady s s1 := h.set.event
  have h2 : Steady s s2 := .ite h1.onMac h1
  have h3 : Steady s s3 := h.set.event
  exact .ite (.ite h2.schedule h) (.ite h3.onMac.schedule h)

theorem Steady.pauseReceived {n quanta} (h : Steady s x) : Steady s (x.pauseReceived n quanta) := by
  unfold State.pauseReceived
  extract_lets p s1 s2 mode
  have h1 : Steady s s1 := h.count
  have h2 : Steady s s2 := .ite h1 h1.event
  exact .ite h2 (.ite h2.set.schedule h2.set.onMac)

theorem Steady.macUp {n rate} (h : Steady s x) : Steady s (x.macUp n rate) := by
  unfold State.macUp
  extract_lets p s1 s2 s3 s4
  have h1 : Steady s s1 := h.set.set
  have h2 : Steady s s2 := h1.setFlag
  have h3 : Steady s s3 := h2.event
  have h4 : Steady s s4 := .ite h3.set.onMac h3.set
  exact .ite h h4.pauseUpdate.schedule

theorem Steady.macDown {n} (h : Steady s x) : Steady s (x.macDown n) :=
  .ite h.set.set.event.lifeAdd.set.onMac.pathsDown.schedule h

theorem Steady.setRing {n r base data count slot} (h : Steady s x) :
    Steady s (x.setRing n r base data count slot) :=
  .ite h.set.set.set.set h

theorem Steady.macDrained {n} (h : Steady s x) : Steady s (x.macDrained n) :=
  (Steady.ite h.set.event h).onMac.schedule

theorem Steady.macKilled {n live} (h : Steady s x) : Steady s (x.macKilled n live) :=
  ((Steady.ite h.set.event h).setMac.each fun ht => ht.completeTx).onMac.schedule

theorem Steady.macReset {n old} (h : Steady s x) : Steady s (x.macReset n old) := h.setMac.with_flow.set.set.set
theorem Steady.macEnabled {n} (h : Steady s x) : Steady s (x.macEnabled n) := h.onMac.schedule

/-! ### MbxOps -/

theorem Steady.onCtrl {f} (h : Steady s x) : Steady s (x.onCtrl f) := h.with_ctrl

theorem Steady.reply {op tag status words} (h : Steady s x) : Steady s (x.reply op tag status words) :=
  h.onCtrl.set.set.event.answer

theorem Steady.mbxHeld {op tag} (h : Steady s x) : Steady s (x.mbxHeld op tag) := h.set.onCtrl
theorem Steady.submit {op tag args} (h : Steady s x) : Steady s (x.submit op tag args) := h.onCtrl

theorem Steady.mailbox {op tag args f} (h : Steady s x) (hf : ∀ {t}, Steady s t → Steady s (f t)) :
    Steady s (x.mailbox op tag args f) := by
  unfold State.mailbox
  extract_lets st busy s1
  have h1 : Steady s s1 := .ite h h.submit
  exact .ite h.set (.ite (.ite (hf h1) h1.reply) (.ite h1.reply (.ite (.ite (hf h1) h1.reply) h1.mbxHeld)))

theorem Steady.done {op tag} (h : Steady s x) : Steady s (x.done op tag) := h.reply
theorem Steady.refuse {op tag reason} (h : Steady s x) : Steady s (x.refuse op tag reason) := h.reply
theorem Steady.refuseOpen {op tag} (h : Steady s x) : Steady s (x.refuseOpen op tag) := h.free.refuse
theorem Steady.accept {op tag page} (h : Steady s x) : Steady s (x.accept op tag page) := h.longStart.onCtrl.reply
theorem Steady.putDone {r} (h : Steady s x) : Steady s (x.putDone r) := h.onCtrl.event
theorem Steady.queueDone {r} (h : Steady s x) : Steady s (x.queueDone r) := .ite h.putDone h.onCtrl

theorem Steady.finish {op tag page status} (h : Steady s x) : Steady s (x.finish op tag page status) :=
  h.onCtrl.longEnd.queueDone

/-! ### LaneOps -/

theorem Steady.setLane {n y} (h : Steady s x) : Steady s (x.setLane n y) := h.with_lanes
theorem Steady.onLane {n f} (h : Steady s x) : Steady s (x.onLane n f) := h.setLane
theorem Steady.setLaneState {n v ms} (h : Steady s x) : Steady s (x.setLaneState n v ms) := h.set.onLane

theorem Steady.setLocked {n ppm} (h : Steady s x) : Steady s (x.setLocked n ppm) := by
  unfold State.setLocked
  exact h.set.set.set.onLane

theorem Steady.findLock {n} (h : Steady s x) : Steady s (x.findLock n) := h.free.setLocked
theorem Steady.seekLock {n} (h : Steady s x) : Steady s (x.seekLock n) := .ite (.ite h.free.findLock h.free) h
theorem Steady.unlockRx {n} (h : Steady s x) : Steady s (x.unlockRx n) := h.set.set.onLane
theorem Steady.laneLink {n} (h : Steady s x) : Steady s (x.laneLink n) := .ite (.ite h.macUp h.macDown) h
theorem Steady.dropLos {n} (h : Steady s x) : Steady s (x.dropLos n) := .ite h.set.event.lower h

theorem Steady.detectAt {n rate} (h : Steady s x) : Steady s (x.detectAt n rate) := by
  unfold State.detectAt
  exact h.setLaneState.unlockRx.set.onLane

theorem Steady.listens {n} (h : Steady s x) : Steady s (x.listens n) := h.setLaneState.unlockRx.set

theorem Steady.bringUp {n} (h : Steady s x) : Steady s (x.bringUp n) := by
  unfold State.bringUp
  extract_lets p mode rate clear auto_ s1 s2 s3
  have h1 : Steady s s1 := h.unlockRx.onLane
  have h2 : Steady s s2 := .ite h1.onMac h1
  have h3 : Steady s s3 := .ite h2.listens h2.detectAt
  exact h3.laneLink

theorem Steady.restartLane {n} (h : Steady s x) : Steady s (x.restartLane n) := h.count.lifeAdd.event.bringUp

theorem Steady.laneUp {n rate} (h : Steady s x) : Steady s (x.laneUp n rate) :=
  h.setLaneState.set.onLane.event.laneLink

theorem Steady.prbsErrors {n} (h : Steady s x) : Steady s (x.prbsErrors n) := .ite h.free.count.onLane h
theorem Steady.addBits {n bits} (h : Steady s x) : Steady s (x.addBits n bits) := h.set.set
theorem Steady.unlockChecker {n} (h : Steady s x) : Steady s (x.unlockChecker n) := h.prbsErrors.addBits.set
theorem Steady.lockNear {n} (h : Steady s x) : Steady s (x.lockNear n) := .ite h.setLocked h

theorem Steady.enterTest {n} (h : Steady s x) : Steady s (x.enterTest n) :=
  (Steady.ite h h.unlockRx.set).setLaneState.onLane.dropLos.laneLink.lockNear

theorem Steady.leaveTest {n} (h : Steady s x) : Steady s (x.leaveTest n) :=
  .ite h.unlockChecker.setLaneState h.unlockChecker.event.bringUp

theorem Steady.updateTest {n} (h : Steady s x) : Steady s (x.updateTest n) :=
  .ite (.ite h.lockNear h.leaveTest) (.ite h.enterTest h)

theorem Steady.sleepLane {n} (h : Steady s x) : Steady s (x.sleepLane n) :=
  h.setLaneState.unlockRx.dropLos.unlockChecker.laneLink

theorem Steady.wakeLane {n} (h : Steady s x) : Steady s (x.wakeLane n) :=
  .ite h.enterTest (.ite h.onLane.detectAt h.bringUp)

theorem Steady.laneOff {n} (h : Steady s x) : Steady s (x.laneOff n) :=
  h.setLaneState.set.set.unlockRx.dropLos.unlockChecker.onLane.laneLink

theorem Steady.laneEnabled {n} (h : Steady s x) : Steady s (x.laneEnabled n) :=
  .ite h (.ite h.sleepLane (.ite h.enterTest h.bringUp))

theorem Steady.laneDrained {n} (h : Steady s x) : Steady s (x.laneDrained n) := .ite h h.laneOff
theorem Steady.laneReset {n} (h : Steady s x) : Steady s (x.laneReset n) := h.laneOff.setLane

theorem Steady.switchEnded {n f} (h : Steady s x) (hf : ∀ {t}, Steady s t → Steady s (f t)) :
    Steady s (x.switchEnded n f) :=
  .ite (hf h) h.laneOff

theorem Steady.applyLaneCfg {n} (h : Steady s x) : Steady s (x.applyLaneCfg n) := by
  unfold State.applyLaneCfg
  extract_lets p mode rate clear auto_ s1 st
  have h1 : Steady s s1 := h.onLane
  exact .ite h1 (.ite (.ite h1 h1.detectAt) (.ite h1.listens (.ite h1.detectAt h1)))

theorem Steady.writeLaneCfg {n v} (h : Steady s x) : Steady s (x.writeLaneCfg n v) := by
  unfold State.writeLaneCfg
  extract_lets p s1 s2 s3 s4
  have h1 : Steady s s1 := h.set.set
  have h2 : Steady s s2 := .ite h1 h1.set
  have h3 : Steady s s3 := h2.set.set
  have h4 : Steady s s4 := .ite h3 h3.set
  exact .ite h (.ite h4 h4.applyLaneCfg)

/-! ### AwlDebug -/

theorem State.tileWrite_meets {m t f} (hf : ∀ {t}, Steady s t → Steady s (f t)) :
    Meets (decide (t < 256)) s (s.tileWrite m t f) :=
  .of fun h => h.writeTo fun ht => (hf ht)

theorem execStickyClrAov_meets {m t} : Meets (decide (t < 256)) s (execStickyClrAov m t s) :=
  State.tileWrite_meets (fun ht => ht.set)

theorem execStickyClrSat_meets {m t} : Meets (decide (t < 256)) s (execStickyClrSat m t s) :=
  State.tileWrite_meets (fun ht => ht.set)

theorem Steady.setDbgWord {t space i v} (h : Steady s x) : Steady s (x.setDbgWord t space i v) := h.setTile
theorem Steady.dbgAdvance {t} (h : Steady s x) : Steady s (x.dbgAdvance t) := .ite h.set h

theorem execDbgDataRead_meets {m t lower} : Meets (decide (t < 256)) s (execDbgDataRead m t s lower) :=
  .of fun h => .ite h.absentHit.answer (.ite h.dbgAdvance.answer h.dbgAdvance.setTile.with_lastResp)

theorem execDbgReadDone_meets {t} : Meets (decide (t < 256)) s (execDbgReadDone t s) := by
  unfold execDbgReadDone
  refine .of fun h => ?_
  split
  · exact .ite h.setTile.answer h
  · exact h

theorem execDbgDataWrite_meets {m t v} : Meets (decide (t < 256)) s (execDbgDataWrite m t v s) :=
  State.tileWrite_meets (fun ht => (Steady.ite ht.setDbgWord ht.count.event).dbgAdvance)

/-! ### DramOps -/

theorem Steady.setDram {c y} (h : Steady s x) : Steady s (x.setDram c y) := h.with_drams
theorem Steady.onDram {c f} (h : Steady s x) : Steady s (x.onDram c f) := h.setDram
theorem Steady.setRank {c r y} (h : Steady s x) : Steady s (x.setRank c r y) := h.onDram
theorem Steady.setRankState {c r v} (h : Steady s x) : Steady s (x.setRankState c r v) := h.set
theorem Steady.showThrottles {c} (h : Steady s x) : Steady s (x.showThrottles c) := h.set.setSource

theorem Steady.chargeMaster {c r master} (h : Steady s x) : Steady s (x.chargeMaster c r master) :=
  .ite h.onDram (Steady.ite h.onDram.onDram.count.event h.onDram.onDram).showThrottles

theorem Steady.activate {c cs key row who} (h : Steady s x) : Steady s (x.activate c cs key row who) := by
  unfold State.activate
  extract_lets k t hit tbl rows s1 s2
  have h1 : Steady s s1 := h.setRank
  have h2 : Steady s s2 := h1.count.lifeAdd
  refine .ite h (.ite ?_ h1)
  split
  · exact h2.chargeMaster
  · exact h2

theorem Steady.dramUeSource {c} (h : Steady s x) : Steady s (x.dramUeSource c) := h.setSource

theorem Steady.startMigration {c cs spare} (h : Steady s x) : Steady s (x.startMigration c cs spare) := by
  unfold State.startMigration
  extract_lets p s1 s2 wait s3 paused s4 s5
  have h1 : Steady s s1 := h.setRankState
  have h2 : Steady s s2 := h1.set.set.set
  have h3 : Steady s s3 := h2.setFlag
  have h4 : Steady s s4 := h3.onDram
  have h5 : Steady s s5 := .ite h4 h4.longStart
  exact h5.event.lifeAdd.dramUeSource

theorem Steady.serviceFails {c cs} (h : Steady s x) : Steady s (x.serviceFails c cs) := by
  unfold State.serviceFails
  refine .ite h.setRankState.onDram.dramUeSource ?_
  split
  · exact h.startMigration
  · exact h.setRankState.dramUeSource

theorem Steady.promoteStandby {c} (h : Steady s x) : Steady s (x.promoteStandby c) := by
  unfold State.promoteStandby
  split
  · exact h.setRankState
  · exact h

theorem Steady.nextMigration {c} (h : Steady s x) : Steady s (x.nextMigration c) := by
  unfold State.nextMigration
  refine .ite h ?_
  split
  · exact h.onDram.startMigration
  · exact h

theorem Steady.spareFails {c} (h : Steady s x) : Steady s (x.spareFails c) := by
  unfold State.spareFails
  extract_lets p old s1 s2 s3 s4
  have h1 : Steady s s1 := h.setRankState.event.setRankState
  have h2 : Steady s s2 := h1.set.set
  have h3 : Steady s s3 := h2.onDram
  have h4 : Steady s s4 := h3.longEnd.promoteStandby
  split
  · exact h4.startMigration
  · exact h4.dramUeSource

theorem Steady.rankError {c cs} (h : Steady s x) : Steady s (x.rankError c cs) :=
  .ite h.spareFails (.ite h.serviceFails h)

theorem Steady.dramInfo {c off kind cs} (h : Steady s x) : Steady s (x.dramInfo c off kind cs) :=
  .ite h h.set.set.set.set.set.set

theorem Steady.dramUe {c off kind cs} (h : Steady s x) : Steady s (x.dramUe c off kind cs) :=
  h.count.event.lifeAdd.onDram.dramInfo

theorem Steady.dramCe {c cs} (h : Steady s x) : Steady s (x.dramCe c cs) := by
  unfold State.dramCe
  extract_lets p s1 ts _ s2 storm oldest s3
  have h1 : Steady s s1 := h.count.event.lifeAdd
  have h2 : Steady s s2 := h1.setRank
  have h3 : Steady s s3 := h2.onDram
  exact .ite (.ite h3 h3.onDram.event.raise) h2

theorem Steady.ownWrite {c l} (h : Steady s x) : Steady s (x.ownWrite c l) := h.onDram

theorem Steady.checkDram {c off kind ecc} (h : Steady s x) : Steady s (x.checkDram c off kind ecc) := by
  unfold State.checkDram
  extract_lets cs bad
  split
  · exact h
  · exact h.dramCe.onDram
  · exact h.dramUe.rankError

theorem Steady.activateWord {w write who} (h : Steady s x) : Steady s (x.activateWord w write who) :=
  h.each fun ht => ht.activate

theorem Steady.closeWord {w write} (h : Steady s x) : Steady s (x.closeWord w write) := h.each fun ht => ht.setRank

theorem Steady.accessWord {write close who ecc w rest} (h : Steady s x) :
    Steady s (x.accessWord write close who ecc w rest) := by
  unfold State.accessWord
  extract_lets s1 s2
  have h1 : Steady s s1 := h.activateWord
  have h2 : Steady s s2 := .ite h1.checkDram (.ite h1 h1.checkDram)
  exact .ite h2.closeWord h2

theorem Steady.accessWords {write close who ecc ws} (h : Steady s x) :
    Steady s (x.accessWords write close who ecc ws).1 := by
  induction ws generalizing x with
  | nil => exact h
  | cons w ws ih => exact ih h.accessWord

theorem Steady.wordsWritten {ws} (h : Steady s x) : Steady s (x.wordsWritten ws) :=
  h.each fun ht => .ite (ht.each fun hu => hu.setRank).onDram (ht.each fun hu => hu.setRank)

theorem Steady.showRefresh {c r} (h : Steady s x) : Steady s (x.showRefresh c r) := h.set.setFlag
theorem Steady.payRefresh {c r n} (h : Steady s x) : Steady s (x.payRefresh c r n) := .ite h h.setRank.showRefresh

theorem Steady.serveRefresh {c r} (h : Steady s x) : Steady s (x.serveRefresh c r) :=
  .ite h.payRefresh (.ite h.payRefresh.count h.showRefresh)

theorem Steady.crossThreshold {c r was sinceNs} (h : Steady s x) : Steady s (x.crossThreshold c r was sinceNs) := by
  unfold State.crossThreshold
  extract_lets p k s1 s2 s3
  have h1 : Steady s s1 := h.setRank
  have h2 : Steady s s2 := h1.count.event.lifeAdd
  have h3 : Steady s s3 := h2.showRefresh
  exact .ite h (.ite h3.serveRefresh h3)

/-! ### HarnessOps -/

theorem Steady.onHarness {f} (h : Steady s x) : Steady s (x.onHarness f) := h.with_harness

theorem Steady.respond {t} (h : Steady s x) : Steady s (x.respond t) :=
  .ite (.ite h.answer h.answer) (.ite h.answer (.ite h.answer
    (.ite h.answer (.ite h.answer (.ite h.answer (.ite h.answer (.ite h.answer h.answer)))))))

theorem Steady.countRefused (h : Steady s x) : Steady s x.countRefused := h.count.event

theorem Steady.flushId {master id n} (h : Steady s x) : Steady s (x.flushId master id n) := by
  induction n generalizing x with
  | zero => exact h
  | succ n ih =>
    unfold State.flushId
    split
    · exact .ite (ih (.ite h.onHarness h.onHarness.respond)) h
    · exact h

theorem Steady.flush {master id} (h : Steady s x) : Steady s (x.flush master id) := h.flushId
theorem Steady.endNow {r status} (h : Steady s x) : Steady s (x.endNow r status) := h.onHarness.flush

theorem Steady.countMiss {r} (h : Steady s x) : Steady s (x.countMiss r) :=
  .ite h.count.event h.count.event.set.setFlag.set.set.set.raise

theorem Steady.decodeMiss {r} (h : Steady s x) : Steady s (x.decodeMiss r) := h.countMiss.endNow

theorem Steady.request {r} (h : Steady s x) : Steady s (x.request r) := by
  unfold State.request
  split
  · exact h.decodeMiss
  · exact .ite h.countRefused.endNow h.onHarness

theorem Steady.requestPiece {r} (h : Steady s x) : Steady s (x.requestPiece r) := .ite h.request h.onHarness

theorem Steady.issueHeld {n} (h : Steady s x) : Steady s (x.issueHeld n) := by
  induction n generalizing x with
  | zero => exact h
  | succ n ih =>
    unfold State.issueHeld
    split
    · exact h
    · exact .ite (ih h.onHarness.request) h

theorem Steady.grant {port i w} (h : Steady s x) : Steady s (x.grant port i w) := h.onHarness.count
theorem Steady.portTxn {port f} (h : Steady s x) : Steady s (x.portTxn port f) := h.onHarness
theorem Steady.serveGirth {port r} (h : Steady s x) : Steady s (x.serveGirth port r) := h.setBank.portTxn
theorem Steady.storeRun {r} (h : Steady s x) : Steady s (x.storeRun r) := h.each fun ht => .ite ht.setByte ht

theorem Steady.serveLocal {port r} (h : Steady s x) : Steady s (x.serveLocal port r) :=
  (Steady.ite h.storeRun h).portTxn

theorem Steady.reachDram {r ecc} (h : Steady s x) : Steady s (x.reachDram r ecc).1 := h.accessWords
theorem Steady.countClosed {r} (h : Steady s x) : Steady s (x.countClosed r) := h.each fun ht => ht.count

theorem Steady.serveDram {c port r ecc} (h : Steady s x) : Steady s (x.serveDram c port r ecc) :=
  .ite h.countClosed.portTxn (.ite h.onDram.reachDram h.onDram.reachDram.portTxn)

theorem Steady.applyDram {r} (h : Steady s x) : Steady s (x.applyDram r) := h.storeRun.wordsWritten
theorem Steady.releasePath {t} (h : Steady s x) : Steady s (x.releasePath t) := h.onHarness

theorem Steady.endDram {t} (h : Steady s x) : Steady s (x.endDram t) :=
  (Steady.ite h.applyDram h).each fun ht => ht.each fun hu => .ite hu.serveRefresh hu

theorem Steady.freeCut {hit} (h : Steady s x) : Steady s (x.freeCut hit).2 := .ite_snd h.free h

theorem Steady.resetMaster {m} (h : Steady s x) : Steady s (x.resetMaster m) :=
  (Steady.ite h.freeCut.onHarness.onGirth h.freeCut.onHarness.onGirth.count.event).set

theorem Steady.retireMaster {m} (h : Steady s x) : Steady s (x.retireMaster m) :=
  (h.onHarness.each fun ht => ht.endDram).onGirth.set.count.event.settleRetention

theorem Steady.abortPorts {hit} (h : Steady s x) : Steady s (x.abortPorts hit) := by
  unfold State.abortPorts
  exact (h.freeCut.each fun ht => ht.applyDram).onHarness.onGirth

theorem Steady.peekBurst {a n bulk} (h : Steady s x) : Steady s (x.peekBurst a n bulk) := by
  unfold State.peekBurst
  extract_lets r
  split
  · exact h.countMiss
  · exact .ite h.countRefused (.ite h.fetch (.ite (.ite h.reachDram h.countClosed) h))

theorem Steady.peeked {a n bulk} (h : Steady s x) : Steady s (x.peeked a n bulk) := h.each fun ht => ht.peekBurst

theorem Steady.pokeBurst {a l bulk} (h : Steady s x) : Steady s (x.pokeBurst a l bulk) := by
  unfold State.pokeBurst
  extract_lets r q
  split
  · exact h.countMiss
  · exact .ite h.countRefused (.ite h.store (.ite h.storeRun (.ite (.ite h.reachDram.applyDram h.countClosed) h)))

theorem Steady.pokeBytes {a l bulk} (h : Steady s x) : Steady s (x.pokeBytes a l bulk) :=
  h.each fun ht => ht.pokeBurst

/-! ### MixOps -/

theorem Steady.directRefused (h : Steady s x) : Steady s x.directRefused := h.count.event
theorem Steady.writeActive {t slot v} (h : Steady s x) : Steady s (x.writeActive t slot v) := h.setTile

theorem Steady.applyDirect {c} (h : Steady s x) : Steady s (x.applyDirect c) := by
  unfold State.applyDirect
  split
  · exact h.writeActive
  · exact h.writeActive.writeActive
  · exact h

theorem Steady.applyQueued {t} (h : Steady s x) : Steady s (x.applyQueued t) :=
  h.onMix.each fun ht => ht.applyDirect

theorem Steady.submitDirect {v} (h : Steady s x) : Steady s (x.submitDirect v) := by
  unfold State.submitDirect
  extract_lets c
  refine .ite h.directRefused ?_
  split
  · exact .ite h.onMix h.applyDirect
  · exact h.onMix

theorem Steady.deferRoute {dest w} (h : Steady s x) : Steady s (x.deferRoute dest w) :=
  .ite h.onMix.event.count h.onMix.event

theorem Steady.startRoute {dest src len fenced} (h : Steady s x) : Steady s (x.startRoute dest src len fenced) :=
  .ite h.deferRoute h.onMix.set

theorem Steady.startWaiting (h : Steady s x) : Steady s x.startWaiting :=
  h.each fun ht => .ite ht ht.onMix.startRoute

theorem Steady.placeStaged {r} (h : Steady s x) : Steady s (x.placeStaged r) := by
  unfold State.placeStaged
  exact h.setTile.onMix

theorem Steady.stageWrite {r} (h : Steady s x) : Steady s (x.stageWrite r) := .ite h.onMix h.placeStaged

theorem Steady.releaseStaging {t} (h : Steady s x) : Steady s (x.releaseStaging t) :=
  h.onMix.each fun ht => ht.placeStaged

theorem Steady.clearStage (h : Steady s x) : Steady s x.clearStage := h.onMix.set.set
theorem Steady.discardStage (h : Steady s x) : Steady s x.discardStage := (h.each fun ht => ht.setTile).clearStage

theorem Steady.exchangeBank {t rampMs} (h : Steady s x) : Steady s (x.exchangeBank t rampMs) :=
  h.setTile.setFlag.set.onMix.applyQueued

theorem Steady.commitResult {c result} (h : Steady s x) : Steady s (x.commitResult c result) := h.set.set.set

theorem Steady.commitFails {c result} (h : Steady s x) : Steady s (x.commitFails c result) :=
  h.commitResult.event.raise

theorem Steady.commitApplied {entry c} (h : Steady s x) : Steady s (x.commitApplied entry c) := by
  unfold State.commitApplied
  extract_lets s1 s2 s3
  have h1 : Steady s s1 := h.onMix
  have h2 : Steady s s2 := h1.commitResult
  have h3 : Steady s s3 := .ite h2.count.event h2
  exact .ite h3.event.raise h3

theorem Steady.commitDropped {entry c result} (h : Steady s x) : Steady s (x.commitDropped entry c result) :=
  h.onMix.commitFails

theorem Steady.arm {kind set sec ns} (h : Steady s x) : Steady s (x.arm kind set sec ns) := by
  unfold State.arm
  split
  · exact h.onMix
  · exact h

theorem Steady.commitAt {tag kind arg sec ns setOk enabled busy rest} (h : Steady s x)
    (hrest : ∀ {t}, Steady s t → Steady s (rest t)) :
    Steady s (x.commitAt tag kind arg sec ns setOk enabled busy rest) :=
  .ite h.reply (.ite h.reply (.ite h.reply (.ite h.reply (hrest h))))

theorem Steady.swapRoute {dest src atOnce} (h : Steady s x) : Steady s (x.swapRoute dest src atOnce) :=
  .ite h.onMix.set (.ite h h.startRoute)

theorem Steady.dropSwap (h : Steady s x) : Steady s x.dropSwap := by
  unfold State.dropSwap
  split
  · exact (h.each fun ht => .ite ht.setTile.onFabric.unconfigureTile ht).onMix.onFabric.set.set.set
  · exact h.onFabric.set

theorem Steady.swapCancelled (h : Steady s x) : Steady s x.swapCancelled := h.event.raise

theorem Steady.unlockBridge {b} (h : Steady s x) : Steady s (x.unlockBridge b) :=
  .ite h.set.onMix.count.event.raise h

/-! ### MarginOps -/

theorem Steady.setEsc {t e} (h : Steady s x) : Steady s (x.setEsc t e) := h.onFabric
theorem Steady.setStage {t stage} (h : Steady s x) : Steady s (x.setStage t stage) := h.set.set

theorem Steady.showStage (h : Steady s x) : Steady s x.showStage := by
  unfold State.showStage
  extract_lets t
  refine .ite h.setStage ?_
  split
  · exact h.setStage
  · split
    · exact h.setStage
    · exact h.setStage

theorem Steady.observe {t stage} (h : Steady s x) : Steady s (x.observe t stage) := h.setEsc.setStage
theorem Steady.awaitStage {t stage} (h : Steady s x) : Steady s (x.awaitStage t stage) := h.setEsc.setStage

theorem Steady.requestVout {mv forReplan warned} (h : Steady s x) : Steady s (x.requestVout mv forReplan warned) :=
  h.onFabric.set

theorem Steady.startRaise {warned} (h : Steady s x) : Steady s (x.startRaise warned) := h.requestVout.count.event

theorem Steady.tryVoltage {t} (h : Steady s x) : Steady s (x.tryVoltage t).1 :=
  .ite_fst h (.ite_fst h.awaitStage (.ite_fst h.observe (.ite_fst h.event h.startRaise.awaitStage)))

theorem Steady.setCost {t v} (h : Steady s x) : Steady s (x.setCost t v) := h.set
theorem Steady.showReloc {t} (h : Steady s x) : Steady s (x.showReloc t) := h.setFlag

theorem Steady.setPhase {uid ph} (h : Steady s x) : Steady s (x.setPhase uid ph) := by
  unfold State.setPhase
  exact h.onFabric

theorem Steady.beginReloc {r} (h : Steady s x) : Steady s (x.beginReloc r) :=
  h.setCost.setCost.setPhase.showReloc.showReloc.event

theorem Steady.startReloc {t u dst planned} (h : Steady s x) : Steady s (x.startReloc t u dst planned) :=
  .ite h.onFabric.beginReloc h.onFabric

theorem Steady.tryRelocation {t} (h : Steady s x) : Steady s (x.tryRelocation t).1 := by
  unfold State.tryRelocation
  refine .ite_fst h ?_
  split
  · exact h
  · exact .ite_fst h.awaitStage h.startReloc.observe

theorem Steady.dropReloc {r} (h : Steady s x) : Steady s (x.dropReloc r) := h.onFabric.showReloc.showReloc

theorem Steady.stopRelocs (h : Steady s x) : Steady s x.stopRelocs := by
  unfold State.stopRelocs
  refine (h.each fun ht => ?_).showStage
  split
  · exact ht.dropReloc
  · exact ht.onFabric.dropReloc
  · exact ht.setCost.setCost.dropReloc

theorem Steady.setShedRec {t cls r} (h : Steady s x) : Steady s (x.setShedRec t cls r) := h.onFabric

theorem Steady.shedClass {t cls} (h : Steady s x) : Steady s (x.shedClass t cls) :=
  h.setShedRec.set.setCost.count.event

theorem Steady.tryShed {t} (h : Steady s x) : Steady s (x.tryShed t).1 := .ite_fst h h.shedClass.observe

theorem Steady.restoreClass {t cls} (h : Steady s x) : Steady s (x.restoreClass t cls) :=
  h.setCost.setShedRec.set.onMix.event

theorem Steady.exhaust {t} (h : Steady s x) : Steady s (x.exhaust t) := h.setEsc.event.raise.showStage
theorem Steady.fromShedding {t} (h : Steady s x) : Steady s (x.fromShedding t) := .ite h.tryShed h.tryShed.exhaust

theorem Steady.fromRelocation {t} (h : Steady s x) : Steady s (x.fromRelocation t) :=
  .ite h.tryRelocation h.tryRelocation.fromShedding

theorem Steady.fromVoltage {t} (h : Steady s x) : Steady s (x.fromVoltage t) :=
  .ite h.tryVoltage h.tryVoltage.fromRelocation

theorem Steady.escalate {t} (h : Steady s x) : Steady s (x.escalate t) := by
  unfold State.escalate
  extract_lets _ e s1
  have h1 : Steady s s1 := h.setEsc.set
  split
  · exact h1.fromRelocation
  · exact h1.fromShedding
  · exact h1.fromVoltage

theorem Steady.judge {t e} (h : Steady s x) : Steady s (x.judge t e) := by
  unfold State.judge
  refine .ite h.setEsc.showStage ?_
  split
  · exact h.fromRelocation
  · exact .ite h.fromRelocation h.fromShedding
  · exact h.fromShedding

theorem Steady.serveRelocation (h : Steady s x) : Steady s x.serveRelocation :=
  h.each fun ht => .ite ht.fromRelocation ht

theorem Steady.keepOldRelocs {old} (h : Steady s x) : Steady s (x.keepOldRelocs old) := by
  unfold State.keepOldRelocs
  exact h.onFabric

theorem Steady.endMargin (h : Steady s x) : Steady s x.endMargin := by
  unfold State.endMargin
  exact h.with_regs.onFabric.showStage

/-! ### PlanOps -/

theorem Steady.setSlot {k p} (h : Steady s x) : Steady s (x.setSlot k p) := h.onFabric.setFlag
theorem Steady.setAdmitted {k b} (h : Steady s x) : Steady s (x.setAdmitted k b) := h.setFlag
theorem Steady.recordFailure {f} (h : Steady s x) : Steady s (x.recordFailure f) := .ite h.set.set.set.set h.set

theorem Steady.admitPlan {k p} (h : Steady s x) : Steady s (x.admitPlan k p).1 := by
  unfold State.admitPlan
  split
  · exact h.setAdmitted.recordFailure
  · exact h.setSlot.setAdmitted

theorem Steady.setWindows {p} (h : Steady s x) : Steady s (x.setWindows p) := h.set.set.set.set
theorem Steady.configureTile {p} (h : Steady s x) : Steady s (x.configureTile p) := h.setWindows.setCost
theorem Steady.loadTile {p} (h : Steady s x) : Steady s (x.loadTile p) := h.setTile.set

/-! ### Time -/

theorem Steady.setCounter {n c} (h : Steady s x) : Steady s (x.setCounter n c) := h.with_time

theorem State.timeWrite_meets {m n f} (hf : ∀ {t}, Steady s t → Steady s (f t)) :
    Meets (decide (n < 2)) s (s.timeWrite m n f) :=
  .of fun h => h.writeTo fun ht => .ite (hf ht) ht.event

theorem Steady.setInc {n inc} (h : Steady s x) : Steady s (x.setInc n inc) := h.with_time.setCounter
theorem Steady.writeInc {n v} (h : Steady s x) : Steady s (x.writeInc n v) := .ite h.set.setInc h.set.set.event

theorem execIncFracWrite_meets {m n v} : Meets (decide (n < 2)) s (execIncFracWrite m n v s) :=
  State.timeWrite_meets (fun ht => ht.writeInc)

theorem Steady.startSlew {n amount} (h : Steady s x) : Steady s (x.startSlew n amount) := h.setCounter.setFlag

theorem execSlewNsWrite_meets {m n v} : Meets (decide (n < 2)) s (execSlewNsWrite m n v s) :=
  State.timeWrite_meets (fun ht => ht.startSlew)

theorem execSlewDone_meets {n} : Meets (decide (n < 2)) s (execSlewDone n s) :=
  .of fun h => h.whenHolds fun ht => ht.reach.setCounter.set.event

theorem Steady.passCommits {before} (h : Steady s x) : Steady s (x.passCommits before) := h.with_mix

theorem Steady.stepped {n c} (h : Steady s x) : Steady s (x.stepped n c) :=
  (Steady.ite h.setCounter.set.set.lifeAdd.set.passCommits h.setCounter.set.set).event.raise

theorem Steady.setTime {n v} (h : Steady s x) : Steady s (x.setTime n v) :=
  .ite (.ite h.set.event h.set.stepped) h.set

theorem execSetGo_meets {m n v} : Meets (decide (n < 2)) s (execSetGo m n v s) :=
  State.timeWrite_meets (fun ht => ht.setTime)

theorem Steady.stepTime {n d} (h : Steady s x) : Steady s (x.stepTime n d) := .ite h.event h.stepped

theorem execStepWrite_meets {m n v} : Meets (decide (n < 2)) s (execStepWrite m n v s) :=
  State.timeWrite_meets (fun ht => ht.stepTime)

theorem Steady.readNs {m n} (h : Steady s x) : Steady s (x.readNs m n).1 := h.with_time

theorem execCnNsRead_meets {m n} : Meets (decide (n < 2)) s (execCnNsRead m n s) :=
  .of fun h => h.readFrom fun ht => ht.readNs

theorem Steady.capture (h : Steady s x) : Steady s x.capture := (h.each fun ht => ht.set.set.set).set
theorem execCapture_meets {m} : Meets true s (execCapture m s) := .next fun h => h.writeTo fun ht => ht.capture

theorem execMonUpdate_meets : Meets true s (execMonUpdate s) :=
  .next fun h => h.whenHolds fun ht => ht.capture.set.event

theorem Steady.setPtp {n p} (h : Steady s x) : Steady s (x.setPtp n p) := h.with_time
theorem Steady.ptpSource (h : Steady s x) : Steady s x.ptpSource := h.setSource

theorem Steady.fwMoves {f} (h : Steady s x) (hf : ∀ {t}, Steady s t → Steady s (f t)) : Steady s (x.fwMoves f) :=
  .ite (hf h) h.event

theorem Steady.fwInc {n inc} (h : Steady s x) : Steady s (x.fwInc n inc) := h.fwMoves fun ht => ht.set.writeInc

theorem Steady.setServo {n st} (h : Steady s x) : Steady s (x.setServo n st) := by
  unfold State.setServo
  refine .ite h ?_
  extract_lets s1 p s2 s3 s4
  have h1 : Steady s s1 := h.set.event
  have h2 : Steady s s2 := h1.setPtp
  have h3 : Steady s s3 := h2.fwInc
  have h4 : Steady s s4 := .ite (.ite h3.lifeAdd h3) h2
  exact h4.ptpSource

theorem Steady.countOffset {n off} (h : Steady s x) : Steady s (x.countOffset n off) :=
  .ite h.setPtp.setServo (.ite h.setPtp.setServo h.setPtp)

theorem Steady.steer {n incFrac slew} (h : Steady s x) : Steady s (x.steer n incFrac slew) :=
  .ite h.writeInc h.writeInc.startSlew

theorem Steady.capturePair (h : Steady s x) : Steady s x.capturePair := .ite h.capture.with_time h
theorem Steady.showMaster {n cls utc} (h : Steady s x) : Steady s (x.showMaster n cls utc) := h.set.set

theorem Steady.startPtp {n word dom mask} (h : Steady s x) : Steady s (x.startPtp n word dom mask) :=
  h.set.set.set.setPtp.showMaster.set.setServo.ptpSource

theorem Steady.timeDrained (h : Steady s x) : Steady s x.timeDrained :=
  (h.each fun ht => ht.setCounter.set).with_time.set

theorem Steady.timeEnabled (h : Steady s x) : Steady s x.timeEnabled := h.with_time.set
theorem Steady.timeReset (h : Steady s x) : Steady s x.timeReset := h.with_time

/-! ### ReinOps -/

theorem Steady.onRein {f} (h : Steady s x) : Steady s (x.onRein f) := h.with_rein
theorem Steady.onRef {i f} (h : Steady s x) : Steady s (x.onRef i f) := h.onRein
theorem Steady.onDpll {k f} (h : Steady s x) : Steady s (x.onDpll k f) := h.onRein

theorem Steady.refreshQl {i} (h : Steady s x) : Steady s (x.refreshQl i) := by
  unfold State.refreshQl
  extract_lets p
  split
  · exact h
  · exact h
  · split
    · exact h.set.set
    · exact h.set
  · exact h.set

theorem Steady.holdSources (h : Steady s x) : Steady s x.holdSources := h.each fun ht => ht.setSource.setSource

theorem Steady.putDpll {k st} (h : Steady s x) : Steady s (x.putDpll k st) :=
  .ite h (.ite h.set.onRein.event (.ite h.set.event h.set.event))

theorem Steady.setDpll {k st} (h : Steady s x) : Steady s (x.setDpll k st) :=
  (Steady.ite h.putDpll.putDpll h.putDpll).holdSources

theorem Steady.moveFreq {k from_ to_ slew} (h : Steady s x) : Steady s (x.moveFreq k from_ to_ slew) := h.onDpll
theorem Steady.noteFreq {k ppb} (h : Steady s x) : Steady s (x.noteFreq k ppb) := h.moveFreq

theorem Steady.aim {k fresh} (h : Steady s x) : Steady s (x.aim k fresh) := by
  unfold State.aim
  split
  · exact (h.freeErr (bound := 9)).moveFreq.onDpll
  · exact h

theorem Steady.endSwitch (h : Steady s x) : Steady s x.endSwitch := .ite h.set.event h
theorem Steady.dropEpoch (h : Steady s x) : Steady s x.dropEpoch := h.set

theorem Steady.unselect (h : Steady s x) : Steady s x.unselect := by
  unfold State.unselect
  exact h.set.set.dropEpoch.onRein

theorem Steady.enterHold {k asIs} (h : Steady s x) : Steady s (x.enterHold k asIs) := by
  unfold State.enterHold
  extract_lets st slot toFree
  refine .ite ?_ h
  have he : Steady s (x.freeErr 10).2 := h.freeErr
  split
  split
  rename_i e t eq
  rw [eq] at he
  extract_lets s1 s2 s3 s4 s5
  have h1 : Steady s s1 := .ite h.noteFreq he.noteFreq
  have h2 : Steady s s2 := h1.onDpll
  have h3 : Steady s s3 := .ite h2.unselect.endSwitch h2
  have h4 : Steady s s4 := .ite h3.setFlag h3
  exact .ite h3.setDpll h4.count.lifeAdd.event.setDpll

theorem Steady.switchTo {k i} (h : Steady s x) : Steady s (x.switchTo k i) := by
  unfold State.switchTo
  extract_lets st s1 s2 s3 s4 s5 s6
  have h1 : Steady s s1 := h.onDpll
  have h2 : Steady s s2 := h1.set.set
  have h3 : Steady s s3 := .ite (.ite h2 h2.dropEpoch) h1
  have h4 : Steady s s4 := .ite h3.set.set h3
  have h5 : Steady s s5 := .ite (.ite h3.onRein h3) h4.count.lifeAdd.event
  have h6 : Steady s s6 := h5.aim
  exact .ite h6 h6.setDpll

theorem Steady.requalify {i} (h : Steady s x) : Steady s (x.requalify i) := .ite h.set.onRef (.ite h.onRef h)

theorem Steady.dropDisputes {gone} (h : Steady s x) : Steady s (x.dropDisputes gone) :=
  h.onRein.each fun ht => .ite ht ht.lower

theorem Steady.disqualify {i cause st} (h : Steady s x) : Steady s (x.disqualify i cause st) :=
  h.set.set.set.onRef.count.lifeAdd.event.dropDisputes

theorem Steady.showMedians (h : Steady s x) : Steady s x.showMedians := h.each fun ht => ht.set

theorem Steady.updateDisputes (h : Steady s x) : Steady s x.updateDisputes :=
  h.onRein.dropDisputes.each fun ht => .ite ht.onRein.event.raise ht

theorem Steady.startPick {cur} (h : Steady s x) : Steady s (x.startPick cur) := by
  unfold State.startPick
  split
  · exact .ite (.ite h.set h.set.set.onDpll.aim) h
  · exact h

theorem Steady.selectAuto (h : Steady s x) : Steady s x.selectAuto := by
  unfold State.selectAuto
  split
  · exact h.enterHold
  · split
    · exact h.switchTo.startPick
    · refine .ite h.switchTo ?_
      extract_lets s1
      have h1 : Steady s s1 := h.set
      refine .ite h1.switchTo ?_
      split
      · exact h1.switchTo
      · exact h1.startPick

theorem Steady.select0 (h : Steady s x) : Steady s x.select0 := by
  unfold State.select0
  extract_lets man s1
  have h1 : Steady s s1 := h.each fun ht => ht.set
  exact .ite h1.selectAuto (.ite (.ite h1 h1.switchTo) h1.enterHold)

theorem Steady.select1 (h : Steady s x) : Steady s x.select1 := .ite (.ite (.ite h h.switchTo) h.enterHold) h
theorem Steady.trackSoft (h : Steady s x) : Steady s x.trackSoft := h.each fun ht => ht.onRef

theorem Steady.steerGrandmaster (h : Steady s x) : Steady s x.steerGrandmaster := by
  unfold State.steerGrandmaster
  split
  · exact .ite h.fwInc h
  · exact h

theorem Steady.reselect (h : Steady s x) : Steady s x.reselect := by
  unfold State.reselect
  extract_lets s1 was s2
  have h1 : Steady s s1 := (h.each fun ht => ht.refreshQl.requalify).updateDisputes.trackSoft
  have h2 : Steady s s2 := .ite h1.select0.select1 h1
  exact .ite h2 h2.steerGrandmaster

theorem Steady.loseRef {i cause st} (h : Steady s x) : Steady s (x.loseRef i cause st) :=
  h.disqualify.showMedians.reselect

theorem Steady.turnPhase {d v} (h : Steady s x) : Steady s (x.turnPhase d v) := .ite h h.setDom

theorem Steady.showAligned {e} (h : Steady s x) : Steady s (x.showAligned e) :=
  .ite h.set.event (.ite h.dropEpoch h)

theorem Steady.pullStep {d} (h : Steady s x) : Steady s (x.pullStep d) := by
  unfold State.pullStep
  exact h.onRein

theorem Steady.pullTick {d} (h : Steady s x) : Steady s (x.pullTick d) :=
  (Steady.ite (Steady.ite h.showAligned h).pullStep (.ite h.showAligned h)).turnPhase

theorem Steady.stepDomain {d} (h : Steady s x) : Steady s (x.stepDomain d) := .ite h h.setDom

theorem Steady.runMclk {n} (h : Steady s x) : Steady s (x.runMclk n) := by
  unfold State.runMclk
  extract_lets p on mult dom
  split
  · exact .ite h (.ite h h.onRein)
  · exact .ite h.onRein h

theorem Steady.dropAligns (h : Steady s x) : Steady s x.dropAligns := h.set
theorem Steady.reinHold (h : Steady s x) : Steady s x.reinHold := .ite h.enterHold.enterHold h.enterHold
theorem Steady.stopPull (h : Steady s x) : Steady s x.stopPull := h.dropAligns.onRein
theorem Steady.reinDrained (h : Steady s x) : Steady s x.reinDrained := .ite h.stopPull h.stopPull.reinHold
theorem Steady.reinKilled (h : Steady s x) : Steady s x.reinKilled := h.stopPull.reinHold

theorem Steady.reinReset {old} (h : Steady s x) : Steady s (x.reinReset old) :=
  (h.dropDisputes.onRein.each fun ht => ht.runMclk).set.set.set.holdSources

/-! ### Rein -/

theorem Steady.glitch {i} (h : Steady s x) : Steady s (x.glitch i) :=
  .ite (.ite h.count.onRef.loseRef h.count.onRef.onRef) h.count.onRef

theorem Steady.window {i off} (h : Steady s x) : Steady s (x.window i off) := by
  unfold State.window
  split
  · exact .ite h.onRef.requalify (.ite h h.onRef.glitch)
  · exact .ite h.onRef h.glitch

theorem execRefEdge_meets {slot offPs ratePpm} : Meets (decide (slot < 8)) s (execRefEdge slot offPs ratePpm s) :=
  .of fun h => h.whenHolds fun ht => .ite (.ite ht.window.loseRef ht.window.set.set) ht.window

theorem execRefStop_meets {slot} : Meets (decide (slot < 8)) s (execRefStop slot s) := by
  unfold execRefStop
  refine .of fun h => ?_
  extract_lets t
  exact .ite (h.whenHolds fun ht => .ite ht.reach.onRef.loseRef ht.reach.onRef) (h.whenHolds fun ht => ht.loseRef)

theorem execQualified_meets {slot} : Meets (decide (slot < 8)) s (execQualified slot s) :=
  .of fun h => h.whenHolds fun ht => ht.reach.set.set.onRef.event.showMedians.reselect

theorem Steady.track {k slots} (h : Steady s x) : Steady s (x.track k slots) := by
  unfold State.track
  split
  · exact .ite h.aim h
  · exact h

theorem execRefMeanUpdate_meets {means} :
    Meets (means.all fun m => decide (m.1 < 8)) s (execRefMeanUpdate means s) := by
  unfold execRefMeanUpdate
  refine .of fun h => ?_
  extract_lets s1 s2 s3 s4 s5 new s6
  have h1 : Steady s s1 := h.each fun ht => .ite ht ht.set
  have h2 : Steady s s2 := h1.each fun ht => ht.disqualify
  have h3 : Steady s s3 := h2.showMedians
  have h4 : Steady s s4 := (h3.each fun ht => ht.disqualify).showMedians
  have h5 : Steady s s5 := h4.reselect
  have h6 : Steady s s6 := h5.track.track
  exact .ite h6.steerGrandmaster h6

theorem execSoftDriftSwitch_meets : Meets true s (execSoftDriftSwitch s) := by
  unfold execSoftDriftSwitch
  refine .next fun h => ?_
  split
  · exact h
  · split
    · exact h
    · refine .ite h ?_
      extract_lets s1 s2
      have h1 : Steady s s1 := h.reach
      have h2 : Steady s s2 := h1.onRef
      split
      · exact h2.switchTo
      · exact h1

theorem execSelection_meets : Meets true s (execSelection s) := .next fun h => h.reselect

theorem execSwitchDone_meets : Meets true s (execSwitchDone s) :=
  .next fun h => h.whenHolds fun ht => .ite ht.reach.endSwitch ht.reach.endSwitch.reinHold

theorem execDpllLocked_meets {k} : Meets (decide (k < 3)) s (execDpllLocked k s) :=
  .of fun h => h.whenHolds fun ht => (Steady.ite ht.noteFreq ht.reach).onDpll.setDpll

theorem execHoldExpired_meets {k} : Meets (decide (k < 3)) s (execHoldExpired k s) :=
  .of fun h => h.whenHolds fun ht => ht.reach.setDpll.event.lifeAdd

theorem execEsmcPdu_meets {lane ssm} : Meets (decide (lane < 4)) s (execEsmcPdu lane ssm s) :=
  .of fun h => h.whenHolds fun ht => ht.onRein.reselect

theorem execEsmcTimeout_meets {lane} : Meets (decide (lane < 4)) s (execEsmcTimeout lane s) := by
  unfold execEsmcTimeout
  refine .of fun h => ?_
  split
  · exact h.reach.onRein.reselect
  · exact h

theorem Steady.writeSelCtrl {v} (h : Steady s x) : Steady s (x.writeSelCtrl v) :=
  .ite h (Steady.ite h.set.set.set.set h.set.set.set.set.set).reselect

theorem execSelCtrlWrite_meets {m v} : Meets true s (execSelCtrlWrite m v s) :=
  .next fun h => h.writeTo fun ht => ht.writeSelCtrl

theorem Steady.writeDpll1 {v} (h : Steady s x) : Steady s (x.writeDpll1 v) := by
  unfold State.writeDpll1
  extract_lets p src bw s1 s2 s3
  have h1 : Steady s s1 := .ite h h.set
  have h2 : Steady s s2 := h1.set
  have h3 : Steady s s3 := .ite h2 h2.set
  exact (Steady.ite h3 h3.onDpll.putDpll).holdSources.reselect

theorem Steady.writeDpll0 {v} (h : Steady s x) : Steady s (x.writeDpll0 v) := by
  unfold State.writeDpll0
  extract_lets p a w bw s1 s2
  have h1 : Steady s s1 := .ite h.set h
  have h2 : Steady s s2 := .ite h1.set h1
  exact .ite h2.set h2

theorem Steady.writeCheckCfg {v} (h : Steady s x) : Steady s (x.writeCheckCfg v) := .ite h h.set.set.set.set

theorem Steady.writeCheckTime {v} (h : Steady s x) : Steady s (x.writeCheckTime v) :=
  .ite h (.ite (.ite h h.set) (Steady.ite h h.set).set)

theorem Steady.writeMclk {n v} (h : Steady s x) : Steady s (x.writeMclk n v) := .ite h.event h.set.set.set.runMclk

theorem execMclkCfgWrite_meets {m n v} : Meets (decide (n < 4)) s (execMclkCfgWrite m n v s) :=
  .of fun h => h.writeTo fun ht => ht.writeMclk

theorem Steady.writeFpCtrl {v} (h : Steady s x) : Steady s (x.writeFpCtrl v) := by
  unfold State.writeFpCtrl
  extract_lets p s1 mode s2 bits s3
  have h1 : Steady s s1 := h.set
  have h2 : Steady s s2 := .ite h1 h1.set.dropAligns.onRein
  have h3 : Steady s s3 := h2.set
  exact .ite h2 (h3.each fun ht => ht.stepDomain).onRein

theorem execAlignNow_meets {m v} : Meets true s (execAlignNow m v s) :=
  .next fun h => h.writeTo fun ht => ht.writeFpCtrl

theorem Steady.writeFpCfg {n v} (h : Steady s x) : Steady s (x.writeFpCfg n v) := by
  unfold State.writeFpCfg
  extract_lets p old s1 rate s2
  have h1 : Steady s s1 := h.set.set.set
  have h2 : Steady s s2 := .ite h1.set h1
  exact .ite h2 h2.onRein

theorem execFramePulse_meets {n measured} : Meets (decide (n < 4)) s (execFramePulse n measured s) := by
  unfold execFramePulse
  refine .of fun h => h.whenHolds fun ht => ?_
  extract_lets p grid s1 s2 err e s3 take bits
  have h1 : Steady s s1 := ht.reach
  have h2 : Steady s s2 := h1.onRein
  have h3 : Steady s s3 := h2.set.setFlag
  have htake : ∀ {a0 t}, Steady s t → Steady s (take a0 t) := fun hu => hu.onRein
  exact .ite h2 (.ite (htake h3).set.event (.ite (.ite (htake h3) (htake h3).count.event) h3))

theorem Steady.declareRef {i w quality rank} (h : Steady s x) : Steady s (x.declareRef i w quality rank) := by
  unfold State.declareRef
  extract_lets p s1 s2 s3 s4 s5 s6 s7
  have h1 : Steady s s1 := h.dropDisputes
  have h2 : Steady s s2 := h1.onRein
  have h3 : Steady s s3 := h2.set.set.set
  have h4 : Steady s s4 := h3.set.set
  have h5 : Steady s s5 := h4.set.set
  have h6 : Steady s s6 := h5.set.set.set
  have h7 : Steady s s7 := .ite h6 h6.onRef
  exact h7.showMedians.reselect

theorem execRefDeclare_meets {tag index type quality rank} :
    Meets true s (execRefDeclare tag index type quality rank s) :=
  .next fun h => h.mailbox fun ht => .ite ht.reply (.ite ht.reply
    (.ite ht.reply (.ite ht.reply ht.declareRef.done)))

theorem execCommitAtRefSwitch_meets {tag arg sec ns} : Meets true s (execCommitAtRefSwitch tag arg sec ns s) :=
  .next fun h => h.mailbox fun ht => ht.commitAt fun hu => hu.arm.done

theorem Steady.applyRefSwitch {c} (h : Steady s x) : Steady s (x.applyRefSwitch c) :=
  .ite h.event (Steady.ite h.set.set h.set).reselect

/-! ### FenceOps -/

theorem Steady.missTile {t} (h : Steady s x) : Steady s (x.missTile t) := by
  unfold State.missTile
  extract_lets p d s1 s2 _ s3 s4 _ s5 s6 s7
  have h1 : Steady s s1 := h.count.count
  have h2 : Steady s s2 := h1.tileStat.set
  have h3 : Steady s s3 := h2.setTile
  have h4 : Steady s s4 := h3.recordSlack.slackLife.tileLife
  have h5 : Steady s s5 := h4.setDom
  have h6 : Steady s s6 := h5.observePass
  have h7 : Steady s s7 := by
    unfold s7
    split
    · exact h6.setEsc
    · exact h6
  exact h7.event.raise

theorem Steady.lateTile {t} (h : Steady s x) : Steady s (x.lateTile t) := h.setTile.tileStat.count.event.raise

theorem Steady.fenceTile {t} (h : Steady s x) : Steady s (x.fenceTile t) := by
  unfold State.fenceTile
  split
  · exact h.missTile
  · exact h.lateTile
  · exact h

theorem Steady.domSlack {d} (h : Steady s x) : Steady s (x.domSlack d) := h.set.set.setDom

theorem Steady.runFence {d} (h : Steady s x) : Steady s (x.runFence d) :=
  .ite h (h.reach.each fun ht => ht.fenceTile).domSlack

/-! ### Fabric -/

theorem execPlanLoad_meets {tag addr len slot} : Meets true s (execPlanLoad tag addr len slot s) := by
  unfold execPlanLoad
  refine .next fun h => h.mailbox fun ht => ?_
  extract_lets op s1
  have h1 : Steady s s1 := ht.setSlot.setAdmitted
  exact .ite ht.reply (.ite ht.reply (.ite ht.refuseOpen (.ite ht.reply h1.onFabric.accept)))

theorem execPlanLoadDone_meets {img} : Meets true s (execPlanLoadDone img s) := by
  unfold execPlanLoadDone
  refine .next fun h => ?_
  split
  · exact h
  · exact .ite h.onFabric.set.setSlot.finish h.onFabric.set.finish

theorem execPlanAdmit_meets {tag slot} : Meets true s (execPlanAdmit tag slot s) := by
  unfold execPlanAdmit
  refine .next fun h => h.mailbox fun ht => ?_
  extract_lets op
  refine .ite ht.reply (.ite ht.reply (.ite ht.reply ?_))
  split
  · exact ht.setAdmitted.recordFailure.reply
  · have hu := ht.admitPlan (k := slot) (p := ‹Plan›)
    split
    · rename_i e; rw [e] at hu; exact hu.reply
    · rename_i e; rw [e] at hu; exact hu.done

theorem Steady.armSwap {slot sec ns p} (h : Steady s x) : Steady s (x.armSwap slot sec ns p) :=
  h.arm.onFabric.set.set.set

theorem execCommitAtPlanSwap_meets {tag arg sec ns} : Meets true s (execCommitAtPlanSwap tag arg sec ns s) := by
  unfold execCommitAtPlanSwap
  refine .next fun h => h.mailbox fun ht => ?_
  extract_lets slot op
  refine ht.commitAt fun hu => .ite hu.refuse (.ite hu.refuseOpen ?_)
  split
  · exact hu.refuseOpen
  · exact .ite hu.reply hu.armSwap.done

theorem execWarmTileLoaded_meets {t} : Meets (decide (t < 256)) s (execWarmTileLoaded t s) := by
  unfold execWarmTileLoaded
  refine .of fun h => ?_
  split
  · split
    · exact .ite h h.loadTile.setTile.setWindows.onFabric
    · exact h
  · exact h

theorem execSwapAdmitCheck_meets : Meets true s (execSwapAdmitCheck s) := by
  unfold execSwapAdmitCheck
  refine .next fun h => ?_
  split
  · refine .ite h ?_
    extract_lets s1
    have h1 : Steady s s1 := h.untilTime0
    split
    · exact h1.setAdmitted.recordFailure.dropSwap.commitDropped.swapCancelled
    · exact h1.setSlot
  · exact h

theorem execSwapXfadeEnd_meets {d} : Meets (decide (d < 3)) s (execSwapXfadeEnd d s) := by
  unfold execSwapXfadeEnd
  refine .of fun h => ?_
  extract_lets ended old rest s1 kept ins s2
  have h1 : Steady s s1 := h.each fun ht => ht.setTile.unconfigureTile
  have h2 : Steady s s2 := (h1.each fun ht => ht.swapRoute).startWaiting
  exact h2.onFabric

theorem execPassStart_meets {t} : Meets (decide (t < 256)) s (execPassStart t s) :=
  .of fun h => h.whenHolds fun ht => ht.reach.setTile

theorem execFenceExpiry_meets {d} : Meets (decide (d < 3)) s (execFenceExpiry d s) :=
  .of fun h => h.whenHolds fun ht => ht.runFence

theorem execDeadlineClear_meets {t} : Meets (decide (t < 256)) s (execDeadlineClear t s) :=
  .of fun h => h.whenHolds fun ht => ht.lower

theorem Steady.writeFence {d pct} (h : Steady s x) : Steady s (x.writeFence d pct) :=
  .ite h.event (.ite h.set (.ite h.setDom h.event))

theorem execFencePctWrite_meets {m d pct} : Meets (decide (d < 3)) s (execFencePctWrite m d pct s) :=
  .of fun h => h.writeTo fun ht => ht.writeFence

theorem Steady.measureSpeed {e} (h : Steady s x) : Steady s (x.measureSpeed e) :=
  .ite h.setTile.noteAgree h.setTile.noteAgree.set

theorem execSpeedMeasure_meets {speeds} : Meets true s (execSpeedMeasure speeds s) :=
  .next fun h => h.each fun ht => ht.measureSpeed

theorem execSpeedSourceRevert_meets {t} : Meets (decide (t < 256)) s (execSpeedSourceRevert t s) := by
  unfold execSpeedSourceRevert
  refine .of fun h => ?_
  split
  · exact h.reach.setTile.set.set
  · exact h

theorem execEscalationTrigger_meets {t} : Meets (decide (t < 256)) s (execEscalationTrigger t s) :=
  .of fun h => h.whenHolds fun ht => ht.reach.escalate

theorem execAvsAck_meets {mv} : Meets true s (execAvsAck mv s) := by
  unfold execAvsAck
  refine .next fun h => ?_
  split
  · exact .ite h (.ite h.onFabric.set.set.count h.onFabric.set.set)
  · exact h

theorem Steady.warnRaise {t} (h : Steady s x) : Steady s (x.warnRaise t) := by
  unfold State.warnRaise
  split
  · exact h.onFabric
  · exact .ite h (.ite h.event h.startRaise.setStage)

theorem execAvsSettleDone_meets : Meets true s (execAvsSettleDone s) := by
  unfold execAvsSettleDone
  refine .next fun h => ?_
  split
  · refine .ite h ?_
    extract_lets s1 waiting lowered s2 _ s3 s4
    have h1 : Steady s s1 := h.reach
    have h2 : Steady s s2 := h1.onFabric
    have h3 : Steady s s3 := .ite h2.with_life h2
    have h4 : Steady s s4 := h3.each fun ht => ht.setTile
    exact .ite ((h3.each fun ht => ht.fromVoltage).each fun ht => ht.warnRaise).showStage
      (h4.each fun ht => ht.observe).showStage
  · exact h

theorem execAvsNoack_meets : Meets true s (execAvsNoack s) := by
  unfold execAvsNoack
  refine .next fun h => ?_
  split
  · refine .ite h ?_
    extract_lets s1 s2 s3 _ s4
    have h1 : Steady s s1 := h.reach
    have h2 : Steady s s2 := h1.count.event
    have h3 : Steady s s3 := h2.onFabric
    have h4 : Steady s s4 := by
      unfold s4
      split
      · exact h3.with_life
      · exact h3
    exact .ite h2.onFabric (h4.each fun ht => ht.fromRelocation).showStage
  · exact h

theorem execStageJudged_meets {t} : Meets (decide (t < 256)) s (execStageJudged t s) := by
  unfold execStageJudged
  refine .of fun h => ?_
  split
  · exact .ite h.judge h
  · exact h

theorem Steady.copyUnit {r} (h : Steady s x) : Steady s (x.copyUnit r) := by
  unfold State.copyUnit
  split
  · split
    · exact h.setTile
    · exact h
  · exact h

theorem execRelocCopyDone_meets {uid} : Meets true s (execRelocCopyDone uid s) := by
  unfold execRelocCopyDone
  refine .next fun h => ?_
  split
  · exact .ite h.copyUnit.setPhase h
  · exact h

theorem execRelocWarmDone_meets {uid} : Meets true s (execRelocWarmDone uid s) := by
  unfold execRelocWarmDone
  refine .next fun h => ?_
  split
  · split
    · exact .ite h.setPhase h
    · exact h
  · exact h

theorem execRelocDone_meets {uid} : Meets true s (execRelocDone uid s) := by
  unfold execRelocDone
  refine .next fun h => ?_
  split
  · split
    · exact .ite h.onFabric.dropReloc.count.event.serveRelocation.showStage h
    · exact h
  · exact h

theorem execEscalationEnd_meets {t} : Meets (decide (t < 256)) s (execEscalationEnd t s) := by
  unfold execEscalationEnd
  refine .of fun h => ?_
  split
  · exact .ite h h.onFabric.set.showStage
  · exact h

theorem execSlackWarn_meets {t} : Meets (decide (t < 256)) s (execSlackWarn t s) :=
  .of fun h => h.whenHolds fun ht => ht.event.setTile.warnRaise

theorem execRestore_meets {t cls} : Meets (decide (t < 256) && inRange 1 cls 7) s (execRestore t cls s) :=
  .of fun h => h.whenHolds fun ht => ht.restoreClass

theorem execShedBackoffReset_meets {t cls} :
    Meets (decide (t < 256) && inRange 1 cls 7) s (execShedBackoffReset t cls s) :=
  .of fun h => h.whenHolds fun ht => ht.setShedRec

theorem Steady.clearBackoff (h : Steady s x) : Steady s x.clearBackoff := h.onFabric

theorem execBackoffClr_meets {m} : Meets true s (execBackoffClr m s) :=
  .next fun h => h.writeTo fun ht => ht.clearBackoff

/-! ### FlowOps -/

theorem Steady.fmtErr {c} (h : Steady s x) : Steady s (x.fmtErr c) := h.ctxCount.event

theorem Steady.putMargin {c l} (h : Steady s x) : Steady s (x.putMargin c l) := by
  unfold State.putMargin
  split
  · exact h.free.ctxSet
  · exact h.ctxSet

theorem Steady.showMargin {c ns} (h : Steady s x) : Steady s (x.showMargin c ns) := by
  unfold State.showMargin
  split
  · exact h
  · exact .ite h.setCtx.putMargin.showProtected h.setCtx.putMargin

theorem Steady.placeSample {a hz count v} (h : Steady s x) : Steady s (x.placeSample a hz count v).1 := by
  unfold State.placeSample
  extract_lets r
  have hr : Steady s r.1 := Steady.foldl_fst (r := (x, false)) h fun ht => ht.store
  exact hr.onCtx

theorem Steady.placePacket {c y p shadowed} (h : Steady s x) : Steady s (x.placePacket c y p shadowed) := by
  unfold State.placePacket
  extract_lets hz sper now rel delay first late early s1 r s2 s3 s4 s5 d ns s6
  have h1 : Steady s s1 := .ite h h.shadowed
  have hr : Steady s r.1 := h1.foldl_fst (fun ht => .ite_fst ht.placeSample ht)
  have h2 : Steady s s2 := hr
  have h3 : Steady s s3 := .ite h2.ctxCount.event.lifeAdd h2
  have h4 : Steady s s4 := .ite h3.ctxCount.event h3
  have h5 : Steady s s5 := .ite h4.ctxCount.event h4
  have h6 : Steady s s6 := h5.ctxSet.ctxSet
  exact h6.ctxCount.showMargin

theorem Steady.showSkew {a} (h : Steady s x) : Steady s (x.showSkew a) := by
  unfold State.showSkew
  split
  · exact .ite h.ctxSet h.ctxSet
  · exact h

theorem Steady.ageCtx {c} (h : Steady s x) : Steady s (x.ageCtx c) := by
  unfold State.ageCtx
  split
  · exact h
  · extract_lets m k s1 s2 s3
    have h1 : Steady s s1 := h.setCtx
    have h2 : Steady s s2 := h1.putMargin
    have h3 : Steady s s3 := .ite h1 (.ite h2.showProtected h2)
    exact .ite h3 h3.showSkew

theorem Steady.accepted {c y p} (h : Steady s x) : Steady s (x.accepted c y p) := .ite h.onCtx.ctxSet h.onCtx

theorem Steady.delivered {c y p} (h : Steady s x) : Steady s (x.delivered c y p) := by
  unfold State.delivered
  extract_lets recent s1 other
  have h1 : Steady s s1 := h.onCtx
  refine .ite ?_ h1
  split
  · exact h1.onCtx.showSkew
  · exact h1

theorem Steady.checkPacket {c y csumOk p shadowed} (h : Steady s x) :
    Steady s (x.checkPacket c y csumOk p shadowed) := by
  unfold State.checkPacket
  extract_lets size a y s1
  have h1 : Steady s s1 := h.onCtx
  refine .ite h.fmtErr (.ite h.fmtErr (.ite h.fmtErr ?_))
  split
  · exact h
  · extract_lets seen
    exact .ite h.fmtErr (.ite h.delivered.ctxCount (.ite h.onCtx.ctxCount.event
      (Steady.ite h1.onCtx h1.onCtx.ctxCount).accepted.delivered.placePacket))

theorem Steady.contextPacket {c csumOk p shadowed} (h : Steady s x) :
    Steady s (x.contextPacket c csumOk p shadowed) := by
  unfold State.contextPacket
  split
  · exact h
  · exact .ite h.ctxCount (.ite h h.checkPacket)

theorem Steady.readRing {port} (h : Steady s x) : Steady s (x.readRing port).1 := h.netRead.netRead

theorem Steady.takeFrame {port shadowed kill} (h : Steady s x) : Steady s (x.takeFrame port shadowed kill) := by
  unfold State.takeFrame
  refine .ite ?_ h
  extract_lets pg r s1 s2
  have hr : Steady s r.1 := h.readRing
  have h1 : Steady s s1 := hr.set
  have h2 : Steady s s2 := h1.pauseUpdate
  split
  · exact .ite h2 h2.contextPacket
  · exact h2

theorem Steady.takeRing {port shadowed} (h : Steady s x) : Steady s (x.takeRing port shadowed) := by
  unfold State.takeRing
  split
  · exact h.takeFrame.takeFrame
  · exact h.takeFrame

theorem Steady.fillPatches {base chans l} (h : Steady s x) : Steady s (x.fillPatches base chans l) :=
  h.each fun ht => ht.onMix

theorem Steady.landBlock {c y} (h : Steady s x) : Steady s (x.landBlock c y) := by
  unfold State.landBlock
  refine h.each fun ht => ?_
  split
  · exact .ite ht.putBlock.onMix.ctxCount.event ht.putBlock.onMix
  · exact ht

theorem Steady.landFlows (h : Steady s x) : Steady s x.landFlows := h.each fun ht => ht.landBlock
theorem Steady.underrunSource {c} (h : Steady s x) : Steady s (x.underrunSource c) := h.setSource

theorem Steady.concealState {c k runs} (h : Steady s x) : Steady s (x.concealState c k runs) := by
  unfold State.concealState
  extract_lets p s1 s2
  have h1 : Steady s s1 := .ite h.ctxCount.lifeAdd.ctxSet.onCtx.underrunSource h
  have h2 : Steady s s2 := .ite h1.event h1
  exact .ite h2.event h2

theorem Steady.leaveConceal {c} (h : Steady s x) : Steady s (x.leaveConceal c) := .ite h.event h
theorem Steady.showGroup {g} (h : Steady s x) : Steady s (x.showGroup g) := h.set

theorem Steady.delayTick {c y} (h : Steady s x) : Steady s (x.delayTick c y).1 := by
  unfold State.delayTick
  split
  · split
    · exact h
    · exact h
    · exact h
  · split
    · exact h.onCtx
    · exact (h.onCtx.each fun ht => ht.ctxSet).event
    · exact h

theorem Steady.groupTick {d} (h : Steady s x) : Steady s (x.groupTick d) :=
  h.each fun ht => .ite (.ite ht.onFlow (.ite (ht.onFlow.set.event.each fun hu => hu.ctxSet) ht.onFlow)) ht

theorem Steady.clearCtx {c} (h : Steady s x) : Steady s (x.clearCtx c) := h.with_regs

theorem Steady.leaveGroup {y} (h : Steady s x) : Steady s (x.leaveGroup y) := by
  unfold State.leaveGroup
  split
  · exact h
  · exact .ite h.set.set.set.set.onFlow h.set

theorem Steady.freeCtx {c} (h : Steady s x) : Steady s (x.freeCtx c) := by
  unfold State.freeCtx
  split
  · exact h
  · extract_lets a s1 s2 s3 s4
    have h1 : Steady s s1 := .ite h.leaveGroup h
    have h2 : Steady s s2 := h1.each fun ht => (Steady.ite ht.clearCtx.underrunSource ht.clearCtx).onFlow
    have h3 : Steady s s3 := .ite h2.lower h2
    have h4 : Steady s s4 := .ite (h3.each fun ht => ht.putBlock) h2
    split
    · exact .ite h4.showGroup h4
    · exact h4

theorem Steady.flowFreed (h : Steady s x) : Steady s x.flowFreed := by
  unfold State.flowFreed
  split
  · exact .ite h.done h
  · exact h

theorem Steady.releaseCtx {c} (h : Steady s x) : Steady s (x.releaseCtx c) := h.freeCtx.flowFreed

theorem Steady.readPlay {c y counts} (h : Steady s x) : Steady s (x.readPlay c y counts).1 := by
  unfold State.readPlay
  refine Steady.foldl_fst (r := (x, [])) h fun {r m} ht => ?_
  extract_lets chans q bad
  have hq : Steady s q.1 := Steady.foldl_fst (r := (r.1, [])) ht fun hu => hu.fetch
  exact .ite_fst hq hq.ctxCount

theorem Steady.fillSilence {c y b} (h : Steady s x) : Steady s (x.fillSilence c y b) :=
  h.each fun ht => .ite ht ht.onMix

theorem Steady.takeContext {c y n b} (h : Steady s x) : Steady s (x.takeContext c y n b) := by
  unfold State.takeContext
  extract_lets st runs k0
  have hd : Steady s (x.delayTick c y).1 := h.delayTick
  split
  rename_i t fade e
  rw [e] at hd
  refine .ite (.ite hd.releaseCtx hd.fillSilence) ?_
  extract_lets delay n' at_ sper r s1 k out out' old s2 s3 s4 s5 s6
  have h1 : Steady s s1 := hd.readPlay
  have h2 : Steady s s2 := h1.onCtx
  have h3 : Steady s s3 := h2.concealState
  have h4 : Steady s s4 := .ite h3 h3.setCtxState
  have h5 : Steady s s5 := h4.fillPatches
  have h6 : Steady s s6 := by
    unfold s6
    split
    · exact h5.showGroup
    · exact h5
  exact .ite h6.setCtxState h6

theorem Steady.takeFlows {d} (h : Steady s x) : Steady s (x.takeFlows d) := by
  unfold State.takeFlows
  extract_lets n s1
  have h1 : Steady s s1 := h.groupTick
  refine h1.each fun ht => ?_
  extract_lets s2
  have h2 : Steady s s2 := ht.ageCtx
  split
  · exact .ite h2.takeContext h2
  · exact h2

theorem Steady.ageReleases {d} (h : Steady s x) : Steady s (x.ageReleases d) := h.with_cinch

theorem Steady.post {port c bytes} (h : Steady s x) : Steady s (x.post port c bytes) := by
  unfold State.post
  extract_lets count buf words s1 r s2 s3
  have h1 : Steady s s1 := h.onGirth
  have hr : Steady s r.1 := h1.netWrite
  have h2 : Steady s s2 := .ite hr.ctxCount.event hr
  have h3 : Steady s s3 := h2.onFlow
  exact .ite h.set h3.set.schedule

theorem Steady.sendPacket {c i} (h : Steady s x) : Steady s (x.sendPacket c i) := by
  unfold State.sendPacket
  split
  · exact h
  · extract_lets hz sper bytes ts payload seq rtp y post sent s1 _ s2 s3 s4
    have h1 : Steady s s1 := h.setCtx
    have h2 : Steady s s2 := h1.with_keeper
    have h3 : Steady s s3 := h2.ctxSet.ctxSet.ctxCount
    have h4 : Steady s s4 := h3.post
    exact .ite h2 (.ite (.ite h4 h4.post) h2.ctxCount.event)

theorem Steady.collect {c n i} (h : Steady s x) : Steady s (x.collect c n i) := by
  unfold State.collect
  split
  · exact h
  · refine .ite ?_ h
    extract_lets bad v s1 s2
    have h1 : Steady s s1 := by
      refine h.each fun ht => ?_
      split
      · exact ht.checkRange.ctxCount
      · exact ht
    have h2 : Steady s s2 := h1.setCtx
    exact .ite h2.sendPacket h2

theorem Steady.buildFlows {d} (h : Steady s x) : Steady s (x.buildFlows d) := by
  unfold State.buildFlows
  extract_lets n
  refine h.each fun ht => ?_
  split
  · exact .ite (ht.each fun hu => hu.collect) ht
  · exact ht

theorem Steady.restartFlows {d} (h : Steady s x) : Steady s (x.restartFlows d) := h.each fun ht => ht.onCtx

theorem Steady.fadeCtx {c freeing} (h : Steady s x) : Steady s (x.fadeCtx c freeing) := by
  unfold State.fadeCtx
  split
  · exact h
  · exact .ite (h.each fun ht => ht.onCtx) (.ite h.releaseCtx h)

theorem Steady.stopPage {n} (h : Steady s x) : Steady s (x.stopPage n) :=
  h.each fun ht => (Steady.ite ht.fadeCtx.leaveConceal ht.onCtx).ctxSet

theorem Steady.emptyRing {port kill n} (h : Steady s x) : Steady s (x.emptyRing port kill n) := by
  induction n generalizing x with
  | zero => exact h
  | succ n ih => exact ih h.takeFrame

theorem Steady.emptyRings {kill} (h : Steady s x) : Steady s (x.emptyRings kill) :=
  h.each fun ht => .ite ht ht.emptyRing

theorem Steady.flowDrained {n} (h : Steady s x) : Steady s (x.flowDrained n) := h.emptyRings.stopPage
theorem Steady.flowKilled {n} (h : Steady s x) : Steady s (x.flowKilled n) := h.emptyRings.stopPage

theorem Steady.flowEnabled {n} (h : Steady s x) : Steady s (x.flowEnabled n) :=
  h.each fun ht => .ite (.ite ht.ctxSet (.ite ht.onCtx.ctxSet ht.onCtx.ctxSet)) ht

theorem Steady.flowReset {n} (h : Steady s x) : Steady s (x.flowReset n) := by
  unfold State.flowReset
  extract_lets s1 s2
  have h1 : Steady s s1 := h.each fun ht => .ite ht.releaseCtx ht.onFlow
  have h2 : Steady s s2 := h1.onFlow
  exact .ite (h2.each fun ht => ht.onCtx.ctxSet.ctxSet) h1

/-! ### Flow -/

theorem Steady.showCtx {c y} (h : Steady s x) : Steady s (x.showCtx c y) := by
  unfold State.showCtx
  extract_lets x' w s1 s2 s3 s4 s5 s6 s7 s8 s9 s10 s11 s12 s13 s14
  have hw : ∀ {t a1 a2}, Steady s t → Steady s (w t a1 a2) := fun ht => ht.ctxSet
  have h1 : Steady s s1 := (hw h)
  have h2 : Steady s s2 := (hw h1)
  have h3 : Steady s s3 := (hw h2)
  have h4 : Steady s s4 := (hw h3)
  have h5 : Steady s s5 := (hw h4)
  have h6 : Steady s s6 := (hw h5)
  have h7 : Steady s s7 := (hw h6)
  have h8 : Steady s s8 := (hw h7)
  have h9 : Steady s s9 := (hw h8)
  have h10 : Steady s s10 := (hw h9)
  have h11 : Steady s s11 := (hw h10)
  have h12 : Steady s s12 := (hw h11)
  have h13 : Steady s s13 := (hw h12)
  have h14 : Steady s s14 := (hw h13)
  exact (hw h14)

theorem Steady.joinGroup {y} (h : Steady s x) : Steady s (x.joinGroup y) := by
  unfold State.joinGroup
  split
  · exact h
  · exact (Steady.ite h h.set.set.set).count

theorem Steady.addFlow {tag l} (h : Steady s x) : Steady s (x.addFlow tag l) := by
  unfold State.addFlow
  extract_lets op x' want patchUsed s1
  have h1 : Steady s s1 := .ite h h.joinGroup
  refine .ite h.reply (.ite h.reply ?_)
  split
  · exact h.refuse
  · extract_lets y ys keyUsed s2 s3 s4
    have h2 : Steady s s2 := h1.each fun ht => ht.setCtx.showCtx
    have h3 : Steady s s3 := h2.each fun ht => .ite ht.losePath ht
    have h4 : Steady s s4 := .ite h3.showProtected h3
    exact .ite h.refuse (.ite h.refuse (.ite h.reply h4.reply))

theorem execFlowAdd_meets {tag addr} : Meets true s (execFlowAdd tag addr s) :=
  .next fun h => h.mailbox fun ht => ht.peeked.addFlow

theorem Steady.delFlow {tag arg} (h : Steady s x) : Steady s (x.delFlow tag arg) := by
  unfold State.delFlow
  extract_lets op k c
  refine .ite h.reply (.ite h.reply ?_)
  split
  · exact h.reply
  · exact .ite h.reply (.ite (.ite h.set h.mbxHeld) (.ite h.leaveConceal.fadeCtx.mbxHeld h.freeCtx.done))

theorem execFlowDel_meets {tag arg} : Meets true s (execFlowDel tag arg s) :=
  .next fun h => h.mailbox fun ht => ht.delFlow

theorem execFlowPacket_meets {port shadowed} : Meets (decide (port < 4)) s (execFlowPacket port shadowed s) :=
  .of fun h => .ite h.takeRing h

theorem execRebase_meets {d} : Meets (decide (d < 2)) s (execRebase d s) :=
  .of fun h => h.whenHolds fun ht => ht.reach.setDom.count.event.lifeAdd.raise

theorem rxCmd_meets {c f} (hf : ∀ {a t}, Steady s t → Steady s (f a t)) :
    Meets (decide (c < 512)) s (rxCmd c s f) := by
  unfold rxCmd
  refine .of fun h => ?_
  split
  · exact (hf h)
  · exact h

theorem execUnderrunClear_meets {c} : Meets (decide (c < 512)) s (execUnderrunClear c s) :=
  rxCmd_meets (fun ht => ht.whenHolds fun hu => hu.reach.ctxSet.underrunSource)

theorem execSsrcRelearn_meets {c} : Meets (decide (c < 512)) s (execSsrcRelearn c s) :=
  rxCmd_meets (fun ht => ht.whenHolds fun hu => hu.reach.onCtx.ctxSet)

theorem execPathLost_meets {c} : Meets (decide (c < 512)) s (execPathLost c s) :=
  rxCmd_meets (fun ht => ht.reach.losePath)

theorem execPathUp_meets {c} : Meets (decide (c < 512)) s (execPathUp c s) := by
  unfold execPathUp
  refine rxCmd_meets (fun ht => ?_)
  split
  · exact ht
  · exact ht.whenHolds fun hu => hu.reach.ctxSet.event.pathChanged

theorem Steady.writeDelay {n v} (h : Steady s x) : Steady s (x.writeDelay n v) := by
  unfold State.writeDelay
  extract_lets k delay c
  refine .ite h ?_
  split
  · exact h
  · exact .ite h (.ite h.event h.onCtx)

theorem execCtxDelayWrite_meets {m n v} : Meets (decide (n < 16)) s (execCtxDelayWrite m n v s) :=
  .of fun h => h.writeTo fun ht => ht.writeDelay

theorem Steady.writeGroupDelay {v} (h : Steady s x) : Steady s (x.writeGroupDelay v) :=
  .ite h (.ite h.event h.onFlow)

theorem execGrpDelayWrite_meets {m v} : Meets true s (execGrpDelayWrite m v s) :=
  .next fun h => h.writeTo fun ht => ht.writeGroupDelay

/-! ### Mix -/

theorem State.directWrite_meets {m kind v} : Meets true s (s.directWrite m kind v) :=
  .next fun h => h.writeTo fun ht => .ite ht.submitDirect ht

theorem execDirectParam_meets {m v} : Meets true s (execDirectParam m v s) := State.directWrite_meets
theorem execDirectGain_meets {m v} : Meets true s (execDirectGain m v s) := State.directWrite_meets
theorem execDirectRoute_meets {m v} : Meets true s (execDirectRoute m v s) := State.directWrite_meets

theorem execDirectApply_meets {t} : Meets (decide (t < 256)) s (execDirectApply t s) :=
  .of fun h => h.whenHolds fun ht => ht.applyQueued

theorem execSceneStage_meets {tag addr len} : Meets true s (execSceneStage tag addr len s) := by
  unfold execSceneStage
  refine .next fun h => h.mailbox fun ht => ?_
  extract_lets op s1 w0 w2 n recs routes values st
  have h1 : Steady s s1 := ht.peeked
  exact .ite h1.reply (.ite h1.reply (.ite h1.reply (.ite h1.reply
    (.ite h1.reply (.ite h1.refuse h1.onMix.accept)))))

theorem execSceneStageDone_meets : Meets true s (execSceneStageDone s) := by
  unfold execSceneStageDone
  refine .next fun h => ?_
  split
  · exact h
  · exact (h.each fun ht => ht.stageWrite).onMix.set.set.set.finish

theorem execStagingRelease_meets {t} : Meets (decide (t < 256)) s (execStagingRelease t s) :=
  .of fun h => h.whenHolds fun ht => ht.releaseStaging

theorem execCommitAtScene_meets {tag arg sec ns} : Meets true s (execCommitAtScene tag arg sec ns s) :=
  .next fun h => h.mailbox fun ht => ht.commitAt fun hu => hu.arm.done

theorem execSceneCheck_meets : Meets true s (execSceneCheck s) := by
  unfold execSceneCheck
  refine .next fun h => ?_
  split
  · exact h
  · exact .ite h (.ite h.untilTime0.commitDropped h.untilTime0)

theorem execCommitCancel_meets {m v} : Meets true s (execCommitCancel m v s) := by
  unfold execCommitCancel
  refine .next fun h => h.writeTo fun ht => .ite ht ?_
  extract_lets i
  split
  · exact ht
  · exact .ite ht (.ite ht.commitFails (Steady.ite ht.dropSwap ht).commitDropped)

theorem execRampEnd_meets {t} : Meets (decide (t < 256)) s (execRampEnd t s) :=
  .of fun h => h.whenHolds fun ht => ht.set.setTile

theorem execBankMirrorDone_meets {t} : Meets (decide (t < 256)) s (execBankMirrorDone t s) :=
  .of fun h => h.whenHolds fun ht => ht.setTile

theorem execRouteXfadeEnd_meets {dest} : Meets true s (execRouteXfadeEnd dest s) := by
  unfold execRouteXfadeEnd
  refine .next fun h => ?_
  split
  · exact .ite h.onMix.startWaiting h
  · exact h

theorem execBridgeUnlock_meets {b} : Meets (decide (b < 512)) s (execBridgeUnlock b s) :=
  .part fun h => h.unlockBridge

theorem execBridgeLock_meets {b} : Meets (decide (b < 512)) s (execBridgeLock b s) :=
  .part fun h => h.whenHolds fun ht => ht.set.onMix.lower

theorem Steady.setMonitor {k y} (h : Steady s x) : Steady s (x.setMonitor k y) := h.onMix

theorem execSnapReq_meets {m} : Meets true s (execSnapReq m s) :=
  .next fun h => h.writeTo fun ht => .ite ht ht.onMix.set.set

theorem execSnapReady_meets : Meets true s (execSnapReady s) :=
  .next fun h => h.whenHolds fun ht => ht.onMix.set.set.event

theorem execSilenceEnter_meets {slot} : Meets (decide (slot < 8192)) s (execSilenceEnter slot s) := by
  unfold execSilenceEnter
  refine .part fun h => ?_
  extract_lets x'
  split
  · exact h
  · exact .ite h.setMonitor.event h

theorem execSilenceExit_meets {slot} : Meets (decide (slot < 8192)) s (execSilenceExit slot s) :=
  .part fun h => .ite h.setMonitor.event h

/-! ### SapOps -/

theorem Steady.setSap {n y} (h : Steady s x) : Steady s (x.setSap n y) := h.with_saps
theorem Steady.onSap {n f} (h : Steady s x) : Steady s (x.onSap n f) := h.setSap
theorem Steady.setSapState {n st} (h : Steady s x) : Steady s (x.setSapState n st) := h.set
theorem Steady.sdoLow {n} (h : Steady s x) : Steady s (x.sdoLow n) := h.onSap
theorem Steady.slipQuiet {n} (h : Steady s x) : Steady s (x.slipQuiet n) := .ite h.lower h
theorem Steady.realign {n} (h : Steady s x) : Steady s (x.realign n) := h.onSap

theorem Steady.slip {n kind} (h : Steady s x) : Steady s (x.slip n kind) :=
  h.count.count.lifeAdd.realign.setSapState.onSap.event.raise

theorem Steady.undoSlip {n} (h : Steady s x) : Steady s (x.undoSlip n) := by
  unfold State.undoSlip
  split
  · refine .ite ?_ h
    extract_lets p back s1 s2 s3 s4
    have hback : ∀ {t a1}, Steady s t → Steady s (back t a1) := fun ht => ht.set
    have h1 : Steady s s1 := h.foldl fun ht => (hback ht)
    have h2 : Steady s s2 := h1.lifePut
    have h3 : Steady s s3 := .ite h2 h2.set
    have h4 : Steady s s4 := .ite h3 h3.lower
    exact h4.onSap
  · exact h

theorem Steady.fadeLast {n} (h : Steady s x) : Steady s (x.fadeLast n) := h.onSap
theorem Steady.showFill {n} (h : Steady s x) : Steady s (x.showFill n) := h.set
theorem Steady.deliverIn {n vals} (h : Steady s x) : Steady s (x.deliverIn n vals) := h.each fun ht => ht.onMix

theorem Steady.fadeFrame {n vals} (h : Steady s x) : Steady s (x.fadeFrame n vals) := by
  unfold State.fadeFrame
  extract_lets x'
  refine .ite h.onSap.deliverIn ?_
  split
  · exact h.deliverIn
  · exact .ite h.deliverIn.onSap h.deliverIn.onSap.setSapState

theorem Steady.silentIn {n} (h : Steady s x) : Steady s (x.silentIn n) := by
  unfold State.silentIn
  extract_lets k
  split
  · exact h.deliverIn.onSap
  · exact h.deliverIn

theorem Steady.nextOut {n} (h : Steady s x) : Steady s (x.nextOut n).1 := by
  unfold State.nextOut
  extract_lets y v
  split
  · exact h
  · exact h.with_saps

theorem Steady.elasticInstant {n} (h : Steady s x) : Steady s (x.elasticInstant n) := by
  unfold State.elasticInstant
  refine .ite h.silentIn ?_
  extract_lets s1 r
  have h1 : Steady s s1 := by
    unfold s1
    split
    · exact h.onSap.fadeFrame
    · exact h.deliverIn
  have hr : Steady s r.1 := h1.nextOut
  exact .ite h1 (.ite h1.slip hr.onSap)

theorem Steady.passInstants {n upTo f} (h : Steady s x) (hf : ∀ {t}, Steady s t → Steady s (f t)) :
    Steady s (x.passInstants n upTo f) :=
  h.each fun ht => (hf ht).onSap

theorem Steady.catchUp {n} (h : Steady s x) : Steady s (x.catchUp n) :=
  .ite (h.slipQuiet.passInstants fun ht => ht.elasticInstant).showFill h.slipQuiet

theorem Steady.lockInstant {n vals} (h : Steady s x) : Steady s (x.lockInstant n vals) := h.nextOut.onSap.fadeFrame

theorem Steady.freeFrame {n} (h : Steady s x) : Steady s (x.freeFrame n) :=
  (h.foldl_fst (fun ht => ht.free)).lockInstant

theorem Steady.sapFinish {n} (h : Steady s x) : Steady s (x.sapFinish n) := by
  unfold State.sapFinish
  extract_lets b s1 s2
  have h1 : Steady s s1 := h.slipQuiet
  have h2 : Steady s s2 := .ite (h1.passInstants fun ht => ht.elasticInstant).showFill
    (h1.each fun ht => .ite ht.freeFrame ht.silentIn.onSap)
  exact h2.onSap

theorem Steady.earlyFrames {d} (h : Steady s x) : Steady s (x.earlyFrames d) := by
  unfold State.earlyFrames
  split
  · exact h
  · exact h.each fun ht => ht.onSap.lockInstant

theorem Steady.startSap {n} (h : Steady s x) : Steady s (x.startSap n) := .ite h.realign.onSap.setSapState h
theorem Steady.dropClkLoss {n} (h : Steady s x) : Steady s (x.dropClkLoss n) := h.set.set.lower

theorem Steady.admitRate {n} (h : Steady s x) : Steady s (x.admitRate n) := by
  unfold State.admitRate
  extract_lets hz
  split
  · exact .ite h.set.onSap h
  · exact h

theorem Steady.loadFclks {p ks} (h : Steady s x) : Steady s (x.loadFclks p ks) :=
  h.each fun ht => ht.each fun hu => hu.set

theorem Steady.configureSap {y again} (h : Steady s x) : Steady s (x.configureSap y again) := by
  unfold State.configureSap
  extract_lets n p s1 s2 put s3 low s4 s5 s6
  have h1 : Steady s s1 := h.onSap
  have h2 : Steady s s2 := h1
  have hput : ∀ {t a1 a2}, Steady s t → Steady s (put t a1 a2) := fun ht => ht.each fun hu => hu.set
  have h3 : Steady s s3 := (hput h1)
  have h4 : Steady s s4 := h3.set.set
  have h5 : Steady s s5 := (hput h4)
  have h6 : Steady s s6 := .ite h5.set h5
  exact .ite h6 (.ite h6 h6.dropClkLoss.startSap)

theorem Steady.unuseSap {n} (h : Steady s x) : Steady s (x.unuseSap n) := h.dropClkLoss.setSap.setSapState.set

theorem Steady.sapDrained {n} (h : Steady s x) : Steady s (x.sapDrained n) := by
  unfold State.sapDrained
  exact (Steady.ite h.catchUp.fadeLast h.catchUp).onSap

theorem Steady.sapStopped {n} (h : Steady s x) : Steady s (x.sapStopped n) :=
  h.dropClkLoss.setSapState.onSap.sdoLow.showFill

theorem Steady.sapKilled {n} (h : Steady s x) : Steady s (x.sapKilled n) :=
  (Steady.ite h.catchUp.fadeLast h.catchUp).sapStopped

theorem Steady.sapReset {n} (h : Steady s x) : Steady s (x.sapReset n) := by
  unfold State.sapReset
  extract_lets x' _ s1
  have h1 : Steady s s1 := h.setSap.lower
  split
  · split
    · exact (Steady.ite h1.loadFclks h1).configureSap
    · exact h1
  · exact h1

/-! ### Stirrup -/

theorem State.loopEvent_meets {n c f} (hf : ∀ {t}, Steady s t → Steady s (f t)) :
    Meets (decide (n < 16)) s (s.loopEvent n c f) :=
  .of fun h => h.whenHolds fun ht => (hf ht)

theorem Steady.tripLoop {n ipeak} (h : Steady s x) : Steady s (x.tripLoop n ipeak) := by
  unfold State.tripLoop
  extract_lets p group fourth s1 s2 s3
  have h1 : Steady s s1 := h.each fun ht => ht.tripMember
  have h2 : Steady s s2 := h1.count.lifeAdd
  have h3 : Steady s s3 := h2.notePeak
  exact .ite (h3.each fun ht => ht.raise) h3.raise

theorem execTrip_meets {n drv ipeak} : Meets (decide (n < 16)) s (execTrip n drv ipeak s) :=
  State.loopEvent_meets (fun ht => .ite (Steady.ite ht.setLoop.set ht).tripLoop (.ite ht.setLoop.set ht))

theorem execHiccupEnd_meets {n} : Meets (decide (n < 16)) s (execHiccupEnd n s) :=
  State.loopEvent_meets (fun ht => ht.reach.each fun hu => hu.hiccupOver)

theorem execSoftStartEnd_meets {n} : Meets (decide (n < 16)) s (execSoftStartEnd n s) :=
  State.loopEvent_meets (fun ht => ht.reach.setLoopState)

theorem execStirrupOcClear_meets : Meets true s (execStirrupOcClear s) :=
  .next fun h => h.whenHolds fun ht => ht.reach.each fun hu => hu.lower

theorem Steady.latchPair {n cause src} (h : Steady s x) : Steady s (x.latchPair n cause src) :=
  h.each fun ht => ht.latchLoop.raise

theorem execDcLatch_meets {n} : Meets (decide (n < 16)) s (execDcLatch n s) :=
  State.loopEvent_meets (fun ht => ht.latchPair)

theorem execOscLatch_meets {n} : Meets (decide (n < 16)) s (execOscLatch n s) :=
  State.loopEvent_meets (fun ht => ht.latchPair)

theorem State.loopWrite_meets {m n f} (hf : ∀ {t}, Steady s t → Steady s (f t)) :
    Meets (decide (n < 16)) s (s.loopWrite m n f) :=
  .of fun h => h.writeTo fun ht => (hf ht)

theorem Steady.latchClear {n} (h : Steady s x) : Steady s (x.latchClear n) := by
  unfold State.latchClear
  extract_lets group s1 s2
  have h1 : Steady s s1 := h.each fun ht => ht.unlatch
  have h2 : Steady s s2 := h1.each fun ht => ht.lower.lower
  exact h2.each fun ht => .ite ht.enterSafe ht

theorem execLatchClr_meets {m n} : Meets (decide (n < 16)) s (execLatchClr m n s) :=
  State.loopWrite_meets (fun ht => ht.latchClear)

theorem Steady.avoidApply {n} (h : Steady s x) : Steady s (x.avoidApply n) := by
  unfold State.avoidApply
  extract_lets p l table req comp from_
  split
  · exact h.event
  · exact .ite h.setLoop.set (.ite (h.setLoop.each fun ht => ht.set).set.count h.setLoop.set)

theorem execAvoidApply_meets {m n} : Meets (decide (n < 16)) s (execAvoidApply m n s) :=
  State.loopWrite_meets (fun ht => .ite ht.avoidApply ht)

theorem execAvoidMoved_meets {n} : Meets (decide (n < 16)) s (execAvoidMoved n s) := by
  unfold execAvoidMoved
  refine State.loopEvent_meets (fun ht => ?_)
  extract_lets s1 _
  have h1 : Steady s s1 := by
    unfold s1
    split
    · exact ht.reach
    · exact ht
  exact h1.setLoop.measureLoop.event

theorem Steady.loadBand {n b} (h : Steady s x) : Steady s (x.loadBand n b) :=
  .ite h.setLoop.setFlag.set h.setLoop.setFlag

theorem Steady.loadEntry {n ev was is_} (h : Steady s x) : Steady s (x.loadEntry n ev was is_) :=
  .ite h.event.count h

theorem Steady.loadUpdate {n bands} (h : Steady s x) : Steady s (x.loadUpdate n bands) := by
  unfold State.loadUpdate
  extract_lets p s1 _ s2 s3 l z opened shorted drift s4 s5 s6 s7
  have h1 : Steady s s1 := h.reach
  have h2 : Steady s s2 := h1.setLoop
  have h3 : Steady s s3 := h2.each fun ht => ht.loadBand
  have h4 : Steady s s4 := h3.setLoop
  have h5 : Steady s s5 := h4.loadEntry
  have h6 : Steady s s6 := h5.loadEntry
  have h7 : Steady s s7 := h6.loadEntry
  exact h7.setSource

theorem execLoadUpdate_meets {n bands} : Meets (decide (n < 16)) s (execLoadUpdate n bands s) :=
  State.loopEvent_meets (fun ht => ht.loadUpdate)

theorem Steady.baselineCap {n} (h : Steady s x) : Steady s (x.baselineCap n) :=
  h.each fun ht => .ite ht.set.set ht.set

theorem execBaselineCap_meets {m n} : Meets (decide (n < 16)) s (execBaselineCap m n s) :=
  State.loopWrite_meets (fun ht => ht.baselineCap)

theorem execStirrupSleep_meets {n} : Meets (decide (n < 16)) s (execStirrupSleep n s) :=
  State.loopEvent_meets (fun ht => ht.reach.gatesLow.event)

theorem execStirrupWake_meets {n} : Meets (decide (n < 16)) s (execStirrupWake n s) :=
  State.loopEvent_meets (fun ht => .ite ht.startCarrier.count ht.startCarrier)

theorem execWakeSettled_meets {n} : Meets (decide (n < 16)) s (execWakeSettled n s) :=
  State.loopEvent_meets (fun ht => ht.reach.setLoopState.event)

theorem Steady.startLoop {n} (h : Steady s x) : Steady s (x.startLoop n) := h.set.set.stirrupEnabled

theorem execStirrupStartTimer_meets : Meets true s (execStirrupStartTimer s) := by
  unfold execStirrupStartTimer
  refine .next fun h => ?_
  split
  · exact h
  · exact .ite (h.reach.with_fabric.each fun ht => ht.startLoop) h

theorem execSupplyMonitorTrip_meets : Meets true s (execSupplyMonitorTrip s) := .next fun h => h.with_ctrl

theorem execDrvFltNRelease_meets {n} : Meets (decide (n < 16)) s (execDrvFltNRelease n s) :=
  State.loopEvent_meets (fun ht => .ite ht.setLoop.set.beginSoftStart ht.setLoop.set)

theorem execDepthLimit_meets {n gr} : Meets (decide (n < 16)) s (execDepthLimit n gr s) :=
  State.loopEvent_meets (fun ht => .ite ht.refreshLoop.setLoop.set.set ht.refreshLoop.setLoop.set.set.count.event)

theorem Steady.loopStopped {n} (h : Steady s x) : Steady s (x.loopStopped n) := h.stirrupQuiesced.lower.lower

theorem Steady.loopReset {n} (h : Steady s x) : Steady s (x.loopReset n) :=
  .ite h.stirrupReset.lower.lower.lower.enterSafe h.stirrupReset.lower.lower.lower

theorem Steady.loopSecond {n} (h : Steady s x) : Steady s (x.loopSecond n) :=
  .ite h (.ite h.setLoop h.setLoop.lifeAdd)

/-! ### SwapOps -/

theorem Steady.clearRegs {p offs} (h : Steady s x) : Steady s (x.clearRegs p offs) := h.with_regs
theorem Steady.putFields {p fs v i} (h : Steady s x) : Steady s (x.putFields p fs v i) := h.each fun ht => ht.set

theorem Steady.loadBuses {p} (h : Steady s x) : Steady s (x.loadBuses p) :=
  h.clearRegs.with_regs.onMix.each fun ht => ht.set.set.set.set.set.set.set

theorem Steady.loadMembers {p} (h : Steady s x) : Steady s (x.loadMembers p) :=
  h.clearRegs.each fun ht => ht.set.setFlag.set.set

theorem Steady.loadMonitors {p} (h : Steady s x) : Steady s (x.loadMonitors p) :=
  h.clearRegs.each fun ht => ht.putFields.set

theorem Steady.loadMixTables {p} (h : Steady s x) : Steady s (x.loadMixTables p) :=
  h.loadBuses.loadMembers.loadMonitors

theorem Steady.loadBridges {p} (h : Steady s x) : Steady s (x.loadBridges p) := by
  unfold State.loadBridges
  extract_lets g s1 s2 gone s3
  have h1 : Steady s s1 := h
  have h2 : Steady s s2 := h.clearRegs
  have h3 : Steady s s3 := h2.each fun ht => ht.lower
  exact h3.each fun ht => .ite ht.set.set.set.set.set.set ht.set.set.set.set.set

theorem Steady.loadSaps {p d} (h : Steady s x) : Steady s (x.loadSaps p d) := by
  unfold State.loadSaps
  extract_lets fclk now turned s1 s2
  have h1 : Steady s s1 := h.loadFclks
  have h2 : Steady s s2 := h1.each fun ht => .ite ht.unuseSap ht
  exact h2.each fun ht => .ite ht.set.set.configureSap.admitRate.startSap ht.set.set.configureSap.admitRate

theorem Steady.loadLoops {p d} (h : Steady s x) : Steady s (x.loadLoops p d) := by
  unfold State.loadLoops
  refine (h.each fun ht => ?_).reconcile
  extract_lets g _
  split
  · exact .ite ht.set.setFlag.setFlag.set ht
  · exact .ite ht.clearRegs.setLoop ht

theorem Steady.listLoops {p} (h : Steady s x) : Steady s (x.listLoops p) := h.onFabric

theorem Steady.stopTile {t} (h : Steady s x) : Steady s (x.stopTile t) := by
  unfold State.stopTile
  exact h.setTile.unconfigureTile.onFabric

theorem Steady.placeTile {y} (h : Steady s x) : Steady s (x.placeTile y) := h.setTile.onFabric.configureTile

theorem Steady.reloadTile {y hz b} (h : Steady s x) : Steady s (x.reloadTile y hz b) := by
  unfold State.reloadTile
  exact h.setTile.loadTile.placeTile.onFabric.onMix

theorem Steady.cutWarm {stopped} (h : Steady s x) : Steady s (x.cutWarm stopped) := h.onFabric

theorem Steady.swapTiles {p d} (h : Steady s x) : Steady s (x.swapTiles p d) := by
  unfold State.swapTiles
  extract_lets mine kept warm old ends stop outs freed gone takes hz look s1 s2 s3 n s4 s5 route
  have h1 : Steady s s1 := h.keepOldRelocs.cutWarm.each fun ht => ht.stopTile
  have h2 : Steady s s2 := h1.onMix
  have h3 : Steady s s3 := by
    refine h2.each fun ht => ?_
    split
    · exact ht.placeTile
    · exact (Steady.ite ht ht.loadTile).placeTile.setTile
    · exact ht.reloadTile
  have h4 : Steady s s4 := h3.onFabric
  have h5 : Steady s s5 := h4.onMix
  have hroute : ∀ {a0 t}, Steady s t → Steady s (route a0 t) := fun ht => ht.each fun hu => hu.each fun hv =>
    hv.swapRoute
  exact (hroute (hroute h5)).startWaiting

theorem Steady.startDomain {y} (h : Steady s x) : Steady s (x.startDomain y) :=
  .ite h.set.set.set (.ite h.set.set.set.setDom h.set.set.set.setDom.set)

theorem Steady.stopDomain {d} (h : Steady s x) : Steady s (x.stopDomain d) := h.set.setDom

theorem Steady.orphanFlows {d sameRate} (h : Steady s x) : Steady s (x.orphanFlows d sameRate) := by
  unfold State.orphanFlows
  refine h.each fun ht => ?_
  split
  · refine .ite ht ?_
    extract_lets s1 s2
    have h1 : Steady s s1 := .ite ht.fadeCtx.leaveConceal ht.onCtx
    have h2 : Steady s s2 := h1.each fun hu => hu.onCtx
    exact (Steady.ite h2 h2.setCtxState).event
  · exact ht

theorem Steady.freeStopped {d} (h : Steady s x) : Steady s (x.freeStopped d) := h.each fun ht => ht.releaseCtx
theorem Steady.moveBlocks {old p} (h : Steady s x) : Steady s (x.moveBlocks old p) := h.each fun ht => ht.putBlock

theorem Steady.installPlan {p slot} (h : Steady s x) : Steady s (x.installPlan p slot) := by
  unfold State.installPlan
  extract_lets s1 s2 s3 s4 s5 dests olds tied s6
  have h1 : Steady s s1 := h
  have h2 : Steady s s2 := h.endMargin.onFabric.moveBlocks
  have h3 : Steady s s3 := h2.set.set
  have h4 : Steady s s4 := h3.loadMixTables.loadBridges.discardStage
  have h5 : Steady s s5 := h4.loadSaps.listLoops
  have h6 : Steady s s6 := h5.each fun ht => ht.swapRoute
  exact h6.startWaiting.reconcile

theorem Steady.swapDomain {p d} (h : Steady s x) : Steady s (x.swapDomain p d) := by
  unfold State.swapDomain
  extract_lets f rate s1 s2
  have h1 : Steady s s1 := by
    unfold s1
    split
    · exact h.orphanFlows.startDomain
    · exact h.orphanFlows.stopDomain.freeStopped
  have h2 : Steady s s2 := h1.loadSaps.loadLoops
  exact h2.each fun ht => .ite ht.swapRoute ht

theorem Steady.swapEffect {d} (h : Steady s x) : Steady s (x.swapEffect d) := by
  unfold State.swapEffect
  split
  · exact (Steady.ite h (h.each fun ht => ht.swapTiles).installPlan.onFabric).swapDomain
  · exact h

theorem Steady.endSwap (h : Steady s x) : Steady s x.endSwap := h.onFabric.set.set.set

theorem Steady.coldStart {p slot} (h : Steady s x) : Steady s (x.coldStart p slot) := by
  unfold State.coldStart
  extract_lets s1 s2 s3
  have h1 : Steady s s1 := h.each fun ht => ht.loadTile.placeTile.onMix
  have h2 : Steady s s2 := h1.each fun ht => ht.stopDomain.startDomain.stopDomain.stepDomain.set.setDom.setDom
  have h3 : Steady s s3 := h2.installPlan.each fun ht => ht.loadSaps.loadLoops
  exact h3.each fun ht => ht.swapRoute

theorem Steady.stopPlan (h : Steady s x) : Steady s x.stopPlan := by
  unfold State.stopPlan
  extract_lets s1 s2 s3 s4 s5 s6 s7 s8
  have h1 : Steady s s1 := h.each fun ht => ht.stopTile
  have h2 : Steady s s2 := h1.each fun ht => ht.stopDomain
  have h3 : Steady s s3 := h2.each fun ht => ht.releaseCtx
  have h4 : Steady s s4 := h3.each fun ht => .ite ht.unuseSap ht
  have h5 : Steady s s5 := h4.each fun ht => (Steady.ite ht.gatesLow ht).set
  have h6 : Steady s s6 := h5.endMargin.clearStage
  have h7 : Steady s s7 := h6.onFabric
  have h8 : Steady s s8 := h7.onMix
  exact h8.set.set

/-! ### KeeperOps -/

theorem Steady.onKeeper {f} (h : Steady s x) : Steady s (x.onKeeper f) := h.with_keeper
theorem Steady.sendTether {l} (h : Steady s x) : Steady s (x.sendTether l) := h.onKeeper

theorem Steady.stopLoops (h : Steady s x) : Steady s x.stopLoops := by
  unfold State.stopLoops
  extract_lets s1
  have h1 : Steady s s1 := h.each fun ht => (Steady.ite ht.gatesLow ht).set
  split
  · exact h1.onFabric
  · exact h1

theorem Steady.dropActOut (h : Steady s x) : Steady s x.dropActOut := .ite (.ite h.set h.set.stopLoops) h

theorem Steady.setPair {st} (h : Steady s x) : Steady s (x.setPair st) :=
  .ite h.set.onKeeper h.set.onKeeper.dropActOut

theorem Steady.goCold (h : Steady s x) : Steady s x.goCold := by
  unfold State.goCold
  extract_lets s1 s2 s3
  have h1 : Steady s s1 := h.stopPlan.onKeeper
  have h2 : Steady s s2 := h1.each fun ht => ht.set
  have h3 : Steady s s3 := h2.set.settleRetention
  exact h3.each fun ht => ht.set.macKilled.set

theorem Steady.wakeNode (h : Steady s x) : Steady s x.wakeNode :=
  (h.each fun ht => ht.set).each fun ht => .ite ht.wakeSegment ht

theorem Steady.enableMacs (h : Steady s x) : Steady s x.enableMacs := h.each fun ht => .ite ht ht.set.set.macEnabled
theorem Steady.standBy (h : Steady s x) : Steady s x.standBy := h.setPair.goCold

theorem Steady.sendEpoch (h : Steady s x) : Steady s x.sendEpoch := by
  unfold State.sendEpoch
  exact h.set.sendTether.onKeeper

theorem Steady.sendFinal (h : Steady s x) : Steady s x.sendFinal := (Steady.ite h.set h).sendTether

theorem Steady.writeCopy {c} (h : Steady s x) : Steady s (x.writeCopy c) := by
  unfold State.writeCopy
  split
  · exact h.onKeeper
  · exact h.onKeeper
  · exact h.onKeeper

theorem Steady.discardEpoch (h : Steady s x) : Steady s x.discardEpoch := h.count.event.writeCopy.onKeeper
theorem Steady.loadParam {t slot active v} (h : Steady s x) : Steady s (x.loadParam t slot active v) := h.setTile

theorem Steady.loadFlow {c desc seq next delay} (h : Steady s x) : Steady s (x.loadFlow c desc seq next delay) := by
  unfold State.loadFlow
  extract_lets x' pair y sper passed y' s1 s2 s3 s4 s5 s6
  have h1 : Steady s s1 := .ite h.joinGroup h
  have h2 : Steady s s2 := h1.setCtx.showCtx
  have h3 : Steady s s3 := .ite h2.setCtx.showCtx h2
  have h4 : Steady s s4 := .ite (h3.each fun ht => ht.ctxSet) h3
  have h5 : Steady s s5 := by
    unfold s5
    split
    · exact .ite h4.set h4
    · exact h4
  have h6 : Steady s s6 := by
    refine .ite (h5.each fun ht => ?_) h5
    split
    · exact .ite ht ht.losePath
    · exact ht
  exact .ite h6.showProtected h6

theorem Steady.loadCommit {entry kind set sec ns} (h : Steady s x) :
    Steady s (x.loadCommit entry kind set sec ns) := by
  unfold State.loadCommit
  extract_lets s1 s2 s3
  have h1 : Steady s s1 := h.onMix
  have h2 : Steady s s2 := h1.onFabric
  have h3 : Steady s s3 := h2.set
  refine .ite ?_ h1
  split
  · exact h3.set.set
  · exact h1.onMix

theorem Steady.loadReinField {off lo i v} (h : Steady s x) : Steady s (x.loadReinField off lo i v) := by
  unfold State.loadReinField
  split
  · exact h.set
  · exact h

theorem Steady.applyRec {r} (h : Steady s x) : Steady s (x.applyRec r) := by
  unfold State.applyRec
  split
  · exact .ite h h.setSlot.setAdmitted
  · exact h
  · exact .ite h.loadParam h
  · exact h.swapRoute
  · split
    · exact .ite h (.ite (Steady.ite h.dropSwap h).onMix h.loadCommit)
    · exact .ite h h.loadCommit
  · exact h.set.onMix
  · split
    · exact .ite h.releaseCtx (.ite (.ite (h.each fun ht => ht.ctxSet) h) h.freeCtx.loadFlow)
    · exact .ite h h.loadFlow
  · exact h.declareRef
  · exact h.loadReinField

theorem Steady.loadPlans {recs} (h : Steady s x) : Steady s (x.loadPlans recs) := by
  unfold State.loadPlans
  refine h.each fun ht => ?_
  split
  · exact ht.setSlot
  · exact ht

theorem Steady.loadCheckpoint {recs} (h : Steady s x) : Steady s (x.loadCheckpoint recs) := by
  unfold State.loadCheckpoint
  extract_lets s1
  have h1 : Steady s s1 := h.loadPlans
  split
  · exact h1
  · extract_lets s2 s3 s4 s5 s6
    have h2 : Steady s s2 := h1.setAdmitted.coldStart
    have h3 : Steady s s3 := h2.each fun ht => ht.setTile
    have h4 : Steady s s4 := h3.clearRegs
    have h5 : Steady s s5 := h4.each fun ht => .ite ht ht.setAdmitted
    have h6 : Steady s s6 := by
      refine h5.each fun ht => ?_
      split
      · exact ht
      · exact ht.swapRoute
      · exact .ite ht ht.loadCommit
      · exact ht.applyRec
    exact h6.reselect

theorem Steady.cancelHandover (h : Steady s x) : Steady s x.cancelHandover := by
  unfold State.cancelHandover
  extract_lets s1 passed
  have h1 : Steady s s1 := by
    unfold s1
    split
    · exact .ite h h.onMix
    · exact h
  exact h1.onKeeper

theorem Steady.takeOver (h : Steady s x) : Steady s x.takeOver := .ite h.setPair h.setPair.wakeNode.writeFpCtrl

theorem Steady.declareLoss (h : Steady s x) : Steady s x.declareLoss := by
  unfold State.declareLoss
  extract_lets st s1 s2 s3
  have h1 : Steady s s1 := h.onKeeper.event
  have h2 : Steady s s2 := h1.raise.setFlag
  have h3 : Steady s s3 := h2.cancelHandover
  exact .ite h3 (.ite h3.setPair.onKeeper h3.takeOver)

theorem Steady.handoverEffect (h : Steady s x) : Steady s x.handoverEffect := by
  unfold State.handoverEffect
  split
  · exact h
  · extract_lets s1 s2 s3
    have h1 : Steady s s1 := h.onKeeper.event
    have h2 : Steady s s2 := h1.setPair.onKeeper
    have h3 : Steady s s3 := h1.count.lifeAdd.setPair
    exact .ite (h2.each fun ht => ht.onMix) h3.dropActOut

/-! ### LifeOps -/

theorem Steady.onLife {f} (h : Steady s x) : Steady s (x.onLife f) := h.with_life

theorem Steady.computeRatios (h : Steady s x) : Steady s x.computeRatios :=
  (h.each fun ht => ht.set.set).with_freeCtr

theorem Steady.showHeadroom (h : Steady s x) : Steady s x.showHeadroom := by
  unfold State.showHeadroom
  split
  · exact h.set.set
  · exact h

theorem Steady.computeFloors (h : Steady s x) : Steady s x.computeFloors :=
  h.each fun ht => .ite ht.set.set ht.set.set

theorem Steady.lifeMargin (h : Steady s x) : Steady s x.lifeMargin := (Steady.ite h.event h).setSource
theorem Steady.setReplan {r} (h : Steady s x) : Steady s (x.setReplan r) := h.onLife

theorem Steady.endReplan {result deep} (h : Steady s x) : Steady s (x.endReplan result deep) :=
  h.showHeadroom.computeFloors.set.set.set.onLife.count.event.lifeMargin

theorem Steady.stepVout {mv r} (h : Steady s x) : Steady s (x.stepVout mv r) := h.requestVout.setReplan

theorem Steady.replanMoves {n skip} (h : Steady s x) : Steady s (x.replanMoves n skip).1 := by
  induction n generalizing x skip with
  | zero => exact h
  | succ n ih =>
    unfold State.replanMoves
    split
    · exact h
    · split
      · exact ih h
      · exact .ite_fst h (ih h.startReloc)

theorem Steady.shedDown {t n} (h : Steady s x) : Steady s (x.shedDown t n) := by
  induction n generalizing x with
  | zero => exact h
  | succ n ih => exact .ite h (ih h.shedClass)

theorem Steady.replanSheds (h : Steady s x) : Steady s x.replanSheds := h.each fun ht => ht.shedDown

theorem Steady.replanTail {r} (h : Steady s x) : Steady s (x.replanTail r) := by
  unfold State.replanTail
  refine .ite h.endReplan ?_
  extract_lets fuel m before s1 result
  have hm : Steady s m.1 := .ite_fst h h.replanMoves
  have h1 : Steady s s1 := hm.replanSheds
  exact .ite hm.setReplan h1.endReplan

theorem Steady.replanNext {r} (h : Steady s x) : Steady s (x.replanNext r) :=
  .ite h.endReplan (.ite h.replanTail (.ite (.ite h.stepVout h.replanTail)
    (.ite (.ite h.stepVout h.replanTail) (.ite (.ite h.stepVout h.replanTail) (.ite h.stepVout h.replanTail)))))

theorem Steady.startReplan (h : Steady s x) : Steady s x.startReplan := by
  unfold State.startReplan
  extract_lets s1 s2 s3 r
  have h1 : Steady s s1 := h.set.onLife
  have h2 : Steady s s2 := .ite h1 h1.set.set
  have h3 : Steady s s3 := h2.computeRatios.showHeadroom
  exact h3.setReplan.replanNext

theorem Steady.onArea {f} (h : Steady s x) : Steady s (x.onArea f) := h.onLife
theorem Steady.startRecord (h : Steady s x) : Steady s x.startRecord := .ite h.set.set.count.event h.set.onArea.set
theorem Steady.abandonRecord (h : Steady s x) : Steady s x.abandonRecord := .ite h.onArea.set.set.event h

theorem Steady.warningRecord (h : Steady s x) : Steady s x.warningRecord := by
  unfold State.warningRecord
  extract_lets p s1 r s2 s3
  have h1 : Steady s s1 := h.abandonRecord
  have h2 : Steady s s2 := h1.onArea.set
  have h3 : Steady s s3 := .ite h1 h2.lifeAdd.event
  exact .ite h3.startRecord h3

theorem Steady.lifeKilled (h : Steady s x) : Steady s x.lifeKilled := by
  unfold State.lifeKilled
  extract_lets s1
  have h1 : Steady s s1 := h.abandonRecord
  split
  · exact h1.onLife.finish
  · exact h1

theorem Steady.lifeReset (h : Steady s x) : Steady s x.lifeReset := h.onArea.with_life.lifeMargin

/-! ### Ptp -/

theorem Steady.ptpSeen (h : Steady s x) : Steady s x.ptpSeen := .ite h.reselect h

theorem Steady.becomeGrandmaster {n} (h : Steady s x) : Steady s (x.becomeGrandmaster n) :=
  .ite h h.free.set.setServo.steerGrandmaster

theorem Steady.takeMaster {n a} (h : Steady s x) : Steady s (x.takeMaster n a) :=
  .ite h.setPtp.showMaster.setPtp (.ite h.setPtp.showMaster.setServo h.setPtp.showMaster)

theorem execSyncReceived_meets {n offset incFrac slew} :
    Meets (decide (n < 2)) s (execSyncReceived n offset incFrac slew s) := by
  unfold execSyncReceived
  refine .of fun h => h.whenHolds fun ht => ?_
  extract_lets s1 s2 s3
  have h1 : Steady s s1 := .ite ht.capturePair ht
  have h2 : Steady s s2 := h1.set
  have h3 : Steady s s3 := h2.fwMoves fun hu => .ite hu.stepTime hu.steer
  exact h3.countOffset.ptpSeen

theorem execAnnounceReceived_meets {n a} : Meets (decide (n < 2)) s (execAnnounceReceived n a s) :=
  .of fun h => h.whenHolds fun ht => .ite ht.becomeGrandmaster.ptpSeen (.ite ht.takeMaster.ptpSeen ht)

theorem execAnnounceTimeout_meets {n wins} : Meets (decide (n < 2)) s (execAnnounceTimeout n wins s) :=
  .of fun h => h.whenHolds fun ht => .ite ht.becomeGrandmaster.ptpSeen (.ite ht.setServo.ptpSeen ht)

theorem Steady.stampSources (h : Steady s x) : Steady s x.stampSources := h.each fun ht => .ite ht.setFlag ht

theorem execPtpProfile_meets {tag code domain mask} : Meets true s (execPtpProfile tag code domain mask s) := by
  unfold execPtpProfile
  refine .next fun h => h.mailbox fun ht => ?_
  extract_lets op w n
  exact .ite (.ite ht.reply (.ite ht.reply ht.startPtp.stampSources.ptpSeen.done))
    (.ite ht.reply (.ite ht.reply (.ite ht.reply ht.startPtp.stampSources.ptpSeen.done)))

/-! ### Keeper -/

theorem Steady.cold {up} (h : Steady s x) : Steady s (x.cold up) := ⟨h.part, fun _ => rfl⟩

theorem execFeedLoss_meets {b pin} : Meets true s (execFeedLoss b pin s) := by
  unfold execFeedLoss
  refine .next fun h => .ite (.ite h.set h) (.ite (Steady.ite h.set h).set.cold ?_)
  extract_lets s1
  have h1 : Steady s s1 := (Steady.ite h.set h).set.event.raise
  exact .ite h1.onKeeper.count.lifeAdd h1

theorem execFeedRecover_meets {b} : Meets true s (execFeedRecover b s) :=
  .next fun h => h.whenHolds fun ht => .ite ht.set.set.lower.onKeeper.count.lifeAdd ht.set.set.lower

theorem execPowerWarn_meets : Meets true s (execPowerWarn s) :=
  .next fun h => h.whenHolds fun ht => (Steady.ite ht.onKeeper.sendFinal
    ht.onKeeper).event.lifeAdd.warningRecord.raise

theorem execPowerWarnNRise_meets : Meets true s (execPowerWarnNRise s) :=
  .next fun h => h.whenHolds fun ht => ht.onKeeper.lower

theorem execHeartbeatSend_meets : Meets true s (execHeartbeatSend s) :=
  .next fun h => h.whenHolds fun ht => (Steady.ite ht.reach.count ht.reach).sendTether.onKeeper

theorem Steady.steerStandby {g} (h : Steady s x) : Steady s (x.steerStandby g) := h.startSlew

theorem Steady.noteHeartbeat {g} (h : Steady s x) : Steady s (x.noteHeartbeat g) := by
  unfold State.noteHeartbeat
  extract_lets k first s1 s2 s3
  have h1 : Steady s s1 := .ite h.event h
  have h2 : Steady s s2 := h1.set.setFlag
  have h3 : Steady s s3 := h2.onKeeper
  exact .ite h3.lower h3

theorem Steady.meetActive (h : Steady s x) : Steady s x.meetActive := .ite h.setPair.onKeeper h.standBy

theorem execHeartbeat_meets {g} : Meets true s (execHeartbeat g s) := by
  unfold execHeartbeat
  refine .next fun h => h.whenHolds fun ht => .ite ht.count (.ite ht ?_)
  extract_lets s1 st active
  have h1 : Steady s s1 := ht.noteHeartbeat
  exact .ite (.ite h1.meetActive h1) (.ite h1.standBy (.ite h1.setPair (.ite h1.steerStandby h1)))

theorem execPairActInRise_meets : Meets true s (execPairActInRise s) :=
  .next fun h => h.whenHolds fun ht => .ite ht.set.standBy ht.set

theorem execPairActInFall_meets : Meets true s (execPairActInFall s) :=
  .next fun h => h.whenHolds fun ht => .ite ht.set.onKeeper.set.takeOver ht.set.onKeeper

theorem execPairActOutRaise_meets : Meets true s (execPairActOutRaise s) := by
  unfold execPairActOutRaise
  refine .next fun h => h.whenHolds fun ht => ?_
  extract_lets s1 s2 s3
  have h1 : Steady s s1 := ht.reach
  have h2 : Steady s s2 := .ite h1.setPair.set h1
  have h3 : Steady s s3 := h2.set
  exact .ite h3.count.lifeAdd.onKeeper h3

theorem execSeekingTimeout_meets : Meets true s (execSeekingTimeout s) :=
  .next fun h => h.whenHolds fun ht => .ite ht.reach.setPair.set.onKeeper ht.reach.setPair

theorem execCheckpointEpoch_meets : Meets true s (execCheckpointEpoch s) :=
  .next fun h => h.whenHolds fun ht => ht.reach.sendEpoch

theorem execCkptNow_meets {tag} : Meets true s (execCkptNow tag s) :=
  .next fun h => h.mailbox fun ht => .ite ht.reply (.ite ht.reply (.ite ht.refuseOpen ht.accept))

theorem execCkptNowDone_meets : Meets true s (execCkptNowDone s) := by
  unfold execCkptNowDone
  refine .next fun h => ?_
  split
  · exact h.onKeeper.sendEpoch.free.set.finish
  · exact h

theorem execCkptData_meets {f} : Meets true s (execCkptData f s) := by
  unfold execCkptData
  refine .next fun h => h.whenHolds fun ht => .ite ht.count.onKeeper ?_
  extract_lets s1 old l
  have h1 : Steady s s1 := by
    unfold s1
    split
    · exact .ite ht ht.discardEpoch
    · exact ht
  exact h1.writeCopy.onKeeper

theorem Steady.completeEpoch {f recs} (h : Steady s x) : Steady s (x.completeEpoch f recs) := by
  unfold State.completeEpoch
  extract_lets whole s1 s2 s3 s4 _
  have h1 : Steady s s1 := h.writeCopy
  have h2 : Steady s s2 := h1.set.onKeeper
  have h3 : Steady s s3 := h2.loadCheckpoint
  have h4 : Steady s s4 := h3.enableMacs
  exact .ite h2 (.ite (.ite h4.onKeeper h2.with_keeper) (h2.each fun ht => ht.applyRec))

theorem execCkptEnd_meets {f} : Meets true s (execCkptEnd f s) := by
  unfold execCkptEnd
  refine .next fun h => h.whenHolds fun ht => ?_
  extract_lets s1 s2
  have h1 : Steady s s1 := ht.count
  have h2 : Steady s s2 := by
    refine .ite (.ite h1.discardEpoch h1) (.ite ht ?_)
    split
    · exact ht.completeEpoch
    · exact ht.discardEpoch
  exact .ite h2.declareLoss h2

theorem execPairLost_meets : Meets true s (execPairLost s) :=
  .next fun h => h.whenHolds fun ht => ht.reach.declareLoss

theorem Steady.finishTakeover (h : Steady s x) : Steady s x.finishTakeover := h.setPair.onKeeper.count.lifeAdd.event

theorem execTakeoverDone_meets {admitted} : Meets true s (execTakeoverDone admitted s) :=
  .next fun h => h.whenHolds fun ht => .ite (.ite ht.finishTakeover ht)
    (.ite ht (.ite ht.loadCheckpoint.enableMacs.startPtp.ptpSeen.finishTakeover ht.event))

theorem execWarmingEnd_meets : Meets true s (execWarmingEnd s) := by
  unfold execWarmingEnd
  refine .next fun h => ?_
  split
  · exact h.whenHolds fun ht => ht.reach.setPair
  · exact h

theorem Steady.propose (h : Steady s x) : Steady s x.propose := by
  unfold State.propose
  exact h.sendTether.onKeeper

theorem execHoldoffEnd_meets : Meets true s (execHoldoffEnd s) :=
  .next fun h => h.whenHolds fun ht => ht.reach.propose

theorem execHandoverReq_meets {m} : Meets true s (execHandoverReq m s) :=
  .next fun h => h.writeTo fun ht => .ite ht.onKeeper ht

theorem execHandoverPropose_meets {sec ns} : Meets true s (execHandoverPropose sec ns s) :=
  .next fun h => h.whenHolds fun ht => .ite ht.arm.onKeeper.sendTether ht.sendTether

theorem Steady.proposalFails (h : Steady s x) : Steady s x.proposalFails := .ite h.onKeeper h.onKeeper.event

theorem execHandoverAck_meets {sec ns result seqs} : Meets true s (execHandoverAck sec ns result seqs s) :=
  .next fun h => h.whenHolds fun ht => .ite ht.arm.onKeeper ht.proposalFails

theorem execHandoverAckTimeout_meets : Meets true s (execHandoverAckTimeout s) :=
  .next fun h => h.whenHolds fun ht => ht.reach.proposalFails

theorem execHandoverRetry_meets : Meets true s (execHandoverRetry s) :=
  .next fun h => h.whenHolds fun ht => ht.reach.propose

theorem execHandoverFail_meets : Meets true s (execHandoverFail s) := by
  unfold execHandoverFail
  refine .next fun h => ?_
  split
  · exact h.whenHolds fun ht => ht.untilTime0.onKeeper.stopLoops.event
  · exact h

theorem execCommitAtHandover_meets {tag arg sec ns} : Meets true s (execCommitAtHandover tag arg sec ns s) :=
  .next fun h => h.mailbox fun ht => ht.commitAt fun hu => hu.refuseOpen

theorem Steady.pairOff (h : Steady s x) : Steady s x.pairOff := by
  unfold State.pairOff
  extract_lets st s1 s2 s3 s4
  have h1 : Steady s s1 := h.set.setPair
  have h2 : Steady s s2 := h1.lower.cancelHandover
  have h3 : Steady s s3 := h2.onKeeper
  have h4 : Steady s s4 := h3.set
  exact .ite h4.wakeNode (.ite h4.stopPlan.onKeeper h4)

theorem Steady.pairOn (h : Steady s x) : Steady s x.pairOn := by
  unfold State.pairOn
  extract_lets s1 s2 s3
  have h1 : Steady s s1 := h.set
  have h2 : Steady s s2 := h1.onKeeper
  have h3 : Steady s s3 := h2.onKeeper
  exact .ite h2.setPair (.ite h3 h3.stopLoops)

theorem Steady.writeKeeperCfg {v} (h : Steady s x) : Steady s (x.writeKeeperCfg v) := by
  unfold State.writeKeeperCfg
  extract_lets p hold s1 s2 on
  have h1 : Steady s s1 := .ite h.set h
  have h2 : Steady s s2 := h1.set.set
  exact .ite h (.ite h.event (.ite h2 (.ite h2.pairOn h2.pairOff)))

theorem execKeeperCfgWrite_meets {m v} : Meets true s (execKeeperCfgWrite m v s) :=
  .next fun h => h.writeTo fun ht => ht.writeKeeperCfg

/-! ### Dram -/

/-- A word of a transaction is left unwritten there. -/
theorem Alerted.undo_txn {r : State} {chan port word : Nat} {spare y}
  (e : r.alertedTxn chan port word spare = some y) :
    ∃ f, y.undo = fun u => u.portTxn port f := by
  unfold State.alertedTxn at e
  obtain ⟨at_, hat⟩ : ∃ f, f = State.dramAt := ⟨_, rfl⟩
  rw [← hat] at e
  split at e
  · cases e
  · split at e
    · cases e
    · split at e
      · cases e
      · split at e
        · cases e
        · obtain ⟨cs, -, rfl⟩ := Option.map_eq_some_iff.1 e
          exact ⟨_, rfl⟩

/-- A word left unwritten, in its transaction or in the bytes that it had. -/
theorem Steady.undo {r : State} {chan word spare y} (e : r.alerted chan word spare = some y) (h : Steady s x) :
    Steady s (y.undo x) := by
  have txn : ∀ {port}, r.alertedTxn chan port word spare = some y → Steady s (y.undo x) := fun e => by
    obtain ⟨f, hf⟩ := Alerted.undo_txn e
    rw [hf]
    exact h.portTxn
  have own : r.alertedOwn chan word spare = some y → Steady s (y.undo x) := by
    intro e
    unfold State.alertedOwn at e
    split at e
    · cases e
    · obtain ⟨cs, -, rfl⟩ := Option.map_eq_some_iff.1 e
      exact h.foldl fun ht => ht.setByte
  unfold State.alerted at e
  split at e
  · rename_i k; exact txn (k.trans e)
  · split at e
    · rename_i k; exact txn (k.trans e)
    · split at e
      · cases e
      · exact own e

theorem execAlertN_meets {chan word spare} : Meets (decide (chan < 2)) s (execAlertN chan s word spare) := by
  unfold execAlertN
  refine .part fun h => ?_
  extract_lets p
  split
  · exact h
  · rename_i e
    exact .ite h (.ite h.count.onDram (Steady.ite (.undo e h.onDram) h.onDram).event.lifeAdd.dramInfo.rankError)

theorem execMovLate_meets {chan patch} : Meets (decide (chan < 2)) s (execMovLate chan patch s) := by
  unfold execMovLate
  refine .part fun h => ?_
  split
  · exact h
  · split
    · exact h
    · exact h.onMix.count.event.raise

theorem execRefreshDue_meets {chan rank} :
    Meets (decide (chan < 2) && decide (rank < 4)) s (execRefreshDue chan rank s) :=
  .part fun h => h.whenHolds fun ht => ht.setRank.serveRefresh

theorem execMr4Poll_meets {chan doubled sinceNs} :
    Meets (decide (chan < 2)) s (execMr4Poll chan doubled sinceNs s) :=
  .part fun h => h.each fun ht => .ite ht.setRank.crossThreshold ht

theorem execRefreshWindow_meets {chan rank} :
    Meets (decide (chan < 2) && decide (rank < 4)) s (execRefreshWindow chan rank s) :=
  .part fun h => h.setRank.onDram.showThrottles

theorem execDqsOscRead_meets {chan rank} :
    Meets (decide (chan < 2) && decide (rank < 4)) s (execDqsOscRead chan rank s) :=
  .part fun h => h.whenHolds fun ht => ht.setRank

theorem execRowIdleClose_meets {chan rank bank} :
    Meets (decide (chan < 2) && decide (rank < 4) && decide (bank < 64)) s (execRowIdleClose chan rank bank s) :=
  .part fun h => h.setRank

theorem Steady.testRows {c cs bank row} (h : Steady s x) : Steady s (x.testRows c cs bank row) :=
  h.each fun ht => ht.activate

theorem Steady.testProgress {c} (h : Steady s x) : Steady s (x.testProgress c) := .ite h h.free.set

theorem execTrainDram_meets {tag chan mask} : Meets true s (execTrainDram tag chan mask s) := by
  unfold execTrainDram
  refine .next fun h => h.mailbox fun ht => ?_
  extract_lets c p op s1 s2 s3
  have h1 : Steady s s1 := ht.set
  have h2 : Steady s s2 := h1.set.set
  have h3 : Steady s s3 := h2.onDram
  exact .ite ht.reply (.ite ht.reply (.ite ht.reply (.ite ht.reply (.ite ht.refuseOpen h3.accept))))

theorem Steady.endWaiting {c} (h : Steady s x) : Steady s (x.endWaiting c) := .ite h.set.longStart h

theorem execTrainDramDone_meets {chan passed} : Meets (decide (chan < 2)) s (execTrainDramDone chan passed s) := by
  unfold execTrainDramDone
  refine .part fun h => ?_
  split
  · exact h
  · exact (h.set.set.set.each fun ht => ht.setRankState).onDram.finish.endWaiting

theorem execTrnGo_meets {m chan v} : Meets (decide (chan < 2)) s (execTrnGo m chan v s) :=
  .of fun h => h.writeTo fun ht => .ite ht.set.set.set.set.set.set.set.set.set.set.set.onDram ht.set.set.set.set.set

theorem Steady.helperRows {c cs sc n} (h : Steady s x) : Steady s (x.helperRows c cs sc n) :=
  h.each fun ht => ht.activate

theorem Steady.helperWrite {c cs sc n} (h : Steady s x) : Steady s (x.helperWrite c cs sc n) := by
  unfold State.helperWrite
  extract_lets p seed user k s1
  have h1 : Steady s s1 := h.setRank
  split
  · exact h1
  · exact h1.each fun ht => ht.foldl fun hu => hu.setByte

theorem Steady.helperErrors {c cs sc n dq cb} (h : Steady s x) : Steady s (x.helperErrors c cs sc n dq cb).1 :=
  .ite_fst h h.free

theorem execTrnDone_meets {chan err0 err1 err2} :
    Meets (decide (chan < 2)) s (execTrnDone chan err0 err1 err2 s) := by
  unfold execTrnDone
  refine .part fun h => h.whenHolds fun ht => ?_
  extract_lets p cs n op subs s1 s2 cmp
  have h1 : Steady s s1 := ht.each fun hu => hu.helperRows
  have h2 : Steady s s2 := .ite h1 (h1.each fun hu => hu.helperWrite)
  have hcmp : ∀ {a0 t a2 a3}, Steady s t → Steady s (cmp a0 t a2 a3).1 := fun hu => .ite_fst hu hu.helperErrors
  exact (hcmp (hcmp h2)).set.set.set.set.set.set.onDram.event

theorem execTrnStepAdvance_meets {m chan} : Meets (decide (chan < 2)) s (execTrnStepAdvance m chan s) :=
  .of fun h => h.writeTo fun ht => .ite ht.count.longStep ht.count

theorem execMrGo_meets {m chan v} : Meets (decide (chan < 2)) s (execMrGo m chan v s) :=
  .of fun h => h.writeTo fun ht => .ite ht.set.set.set.set.set.set.onDram ht.set.set.set.set

theorem execMrDone_meets {chan value} : Meets (decide (chan < 2)) s (execMrDone chan value s) :=
  .part fun h => h.whenHolds fun ht => (Steady.ite ht ht.set).set.set.onDram.event

theorem State.rankCmd_meets {m chan ok f} (hf : ∀ {t}, Steady s t → Steady s (f t)) :
    Meets (decide (chan < 2)) s (s.rankCmd m chan ok f) :=
  .of fun h => h.writeTo fun ht => .ite (hf ht) ht.event

theorem Steady.mapRank {c lr cs} (h : Steady s x) : Steady s (x.mapRank c lr cs) := .ite h.set.set h.set.set

theorem execRankCmdService_meets {m chan rank} : Meets (decide (chan < 2)) s (execRankCmdService m chan rank s) :=
  State.rankCmd_meets (fun ht => ht.mapRank.setRankState)

theorem Steady.addSpare {c r} (h : Steady s x) : Steady s (x.addSpare c r) := h.setRankState.nextMigration

theorem execRankCmdSpare_meets {m chan rank} : Meets (decide (chan < 2)) s (execRankCmdSpare m chan rank s) :=
  State.rankCmd_meets (fun ht => ht.addSpare)

theorem execRankCmdRetire_meets {m chan rank} : Meets (decide (chan < 2)) s (execRankCmdRetire m chan rank s) :=
  State.rankCmd_meets (fun ht => ht.onDram.startMigration)

theorem Steady.testPattern {c cs whole} (h : Steady s x) : Steady s (x.testPattern c cs whole) := h.setRank

theorem execRankCmdTest_meets {m chan rank} : Meets (decide (chan < 2)) s (execRankCmdTest m chan rank s) :=
  State.rankCmd_meets (fun ht => ht.set.set.set.set.onDram.testPattern.testRows)

theorem execRankCmdReturn_meets {m chan rank} : Meets (decide (chan < 2)) s (execRankCmdReturn m chan rank s) :=
  State.rankCmd_meets (fun ht => ht.addSpare)

theorem Steady.endRankTest {chan result} (h : Steady s x) : Steady s (x.endRankTest chan result) :=
  h.set.set.onDram.event.endWaiting

theorem execTestDone_meets {chan pass} : Meets (decide (chan < 2)) s (execTestDone chan pass s) := by
  unfold execTestDone
  refine .part fun h => ?_
  split
  · exact h
  · extract_lets s1 s2 s3
    have h1 : Steady s s1 := h.testProgress
    have h2 : Steady s s2 := .ite h1.set.testRows h1
    have h3 : Steady s s3 := h2.testPattern
    exact h3.setRankState.endRankTest

theorem Steady.copyWord {c off e} (h : Steady s x) : Steady s (x.copyWord c off e) := by
  unfold State.copyWord
  extract_lets pl s1 _ s2
  have h1 : Steady s s1 := h.each fun ht => ht.activate
  have h2 : Steady s s2 := h1.setRank
  split
  · exact h2
  · exact h2.dramCe
  · exact h2.dramUe

theorem execMigrationCopyUnit_meets {chan ecc} : Meets (decide (chan < 2)) s (execMigrationCopyUnit chan ecc s) :=
  .part fun h => h.whenHolds fun ht => (ht.each fun hu => hu.copyWord).ownWrite.onDram.longStep

theorem execMigDone_meets {chan} : Meets (decide (chan < 2)) s (execMigDone chan s) := by
  unfold execMigDone
  refine .part fun h => h.whenHolds fun ht => ?_
  extract_lets p from_ to_ lr other s1 s2 s3 s4
  have h1 : Steady s s1 := ht.onDram
  have h2 : Steady s s2 := h1.mapRank.setRankState
  have h3 : Steady s s3 := h2.setRankState.promoteStandby
  have h4 : Steady s s4 := h3.set.event
  exact h4.longEnd.dramUeSource.nextMigration

theorem execCeStormEnd_meets {chan rank} :
    Meets (decide (chan < 2) && decide (rank < 4)) s (execCeStormEnd chan rank s) :=
  .part fun h => h.whenHolds fun ht => .ite ht.reach.onDram.lower ht.reach.onDram

theorem execFreqChange_meets {m chan v} : Meets (decide (chan < 2)) s (execFreqChange m chan v s) :=
  .of fun h => h.writeTo fun ht => .ite ht.set (.ite ht.set.set.event ht.set.set.onDram)

theorem execFreqDone_meets {chan locked} : Meets (decide (chan < 2)) s (execFreqDone chan locked s) := by
  unfold execFreqDone
  refine .part fun h => ?_
  split
  · exact h
  · refine .ite h ?_
    extract_lets p s1 s2 s3
    have h1 : Steady s s1 := h.onDram
    have h2 : Steady s s2 := h1.each fun ht => .ite ht.setRank.showRefresh ht
    have h3 : Steady s s3 := h2.set.event
    exact .ite h3.set.set h3.set.event

theorem Steady.populate {c} (h : Steady s x) : Steady s (x.populate c) := by
  unfold State.populate
  extract_lets p s1 gone s2
  have h1 : Steady s s1 := h.each fun ht => .ite ht.setRank.setRankState.set.set
    (Steady.ite ht.setRankState ht).showRefresh
  have h2 : Steady s s2 := .ite h1.set h1
  exact .ite h2.set h2

theorem execDramCfgWrite_meets {m chan v} : Meets (decide (chan < 2)) s (execDramCfgWrite m chan v s) := by
  unfold execDramCfgWrite
  refine .of fun h => h.writeTo fun ht => ?_
  extract_lets p s1 s2 dev s3
  have h1 : Steady s s1 := .ite ht ht.set
  have h2 : Steady s s2 := h1.set
  have h3 : Steady s s3 := .ite h2.set h2
  exact .ite h1 (.ite h2.event h3.set.set.populate)

/-! ### Girth -/

theorem execGirthAccess_meets {bank ecc} : Meets (decide (bank < 64)) s (execGirthAccess bank ecc s) :=
  .part fun h => h.upsets.whenHolds fun ht => .ite ht (.ite ht.wakeByAccess ht.slot.settleRetention)

theorem execRetWakeDone_meets {seg} : Meets (decide (seg < 8)) s (execRetWakeDone seg s) :=
  .of fun h => h.whenHolds fun ht => ht.set.settleRetention

theorem execEccWriteback_meets {bank} : Meets (decide (bank < 64)) s (execEccWriteback bank s) := by
  unfold execEccWriteback
  refine .part fun h => h.whenHolds fun ht => ?_
  split
  · exact ht.onGirth
  · exact ht

theorem execGirthShadowEnd_meets {port} : Meets (inRange 1 port 3) s (execGirthShadowEnd port s) :=
  .of fun h => h.whenHolds fun ht => ht.reach.lower

theorem Steady.wrapSweep (h : Steady s x) : Steady s x.wrapSweep := .ite h.count.event.onGirth h

theorem Steady.startRegion (h : Steady s x) : Steady s x.startRegion := by
  unfold State.startRegion
  extract_lets start w
  have hstart : ∀ {p t}, Steady s t → Steady s (start p t) := fun ht => .ite ht ht.onGirth.set.set.set
  have hw : Steady s w := h.wrapSweep
  generalize w.nextPage = r, x.girth.ahead.find? x.testable = q
  cases q with
  | some p => exact hstart h.onGirth
  | none =>
    cases r with
    | some p => exact hstart hw.onGirth
    | none => exact hw

theorem execBgtRegionStart_meets : Meets true s (execBgtRegionStart s) := by
  unfold execBgtRegionStart
  refine .next fun h => h.whenHolds fun ht => ?_
  split
  · exact ht.startRegion
  · exact .ite ht ht.count.onGirth

theorem Steady.repairRow {page} (h : Steady s x) : Steady s (x.repairRow page) :=
  .ite h.set.count.lifeAdd.event h.onGirth.set.event.girthEccSource

theorem Steady.testPhase {page ph code} (h : Steady s x) : Steady s (x.testPhase page ph code) := h.onGirth.set

theorem Steady.testEnds {page failed} (h : Steady s x) : Steady s (x.testEnds page failed) :=
  .ite (h.each fun ht => ht.repairRow).endTest.set (h.each fun ht => ht.repairRow).testPhase

theorem Steady.regionDone (h : Steady s x) : Steady s x.regionDone :=
  .ite h.endTest.wrapSweep.startRegion h.endTest.wrapSweep

theorem execBgtPhaseDone_meets {failed} :
    Meets (failed.all fun x => decide (x < 4)) s (execBgtPhaseDone failed s) := by
  unfold execBgtPhaseDone
  refine .of fun h => ?_
  split
  · exact h
  · exact h.checkRange.saveRegion.testPhase
  · exact h.testEnds
  · exact h.restoreRegion.regionDone

theorem execVaultMapWrite_meets {m hi v} : Meets true s (execVaultMapWrite m hi v s) :=
  .next fun h => h.writeTo fun ht => .ite ht (.ite ht.setVaultMap.onGirth ht.setVaultMap.onGirth.startWipe)

theorem execTamperNFall_meets : Meets true s (execTamperNFall s) := .next fun h => h.onGirth.startWipe.raise

theorem execLifeCycleChange_meets {cyc} : Meets (decide (cyc ≠ 3)) s (execLifeCycleChange cyc s) :=
  .of fun h => h.whenHolds fun ht => ht.with_life.startWipe

theorem Steady.cycleTakes (h : Steady s x) : Steady s x.cycleTakes := by
  unfold State.cycleTakes
  split
  · exact h.with_life
  · exact h

theorem Steady.clearPinned {m} (h : Steady s x) : Steady s (x.clearPinned m) := by
  unfold State.clearPinned
  split
  · split
    · exact .ite h.onGirth h
    · exact h
  · exact h

theorem execWipeDone_meets {failed} : Meets true s (execWipeDone failed s) := by
  unfold execWipeDone
  refine .next fun h => h.whenHolds fun ht => ?_
  extract_lets done bad s1 s2 s3 s4 s5 s6 s7
  have h1 : Steady s s1 := ht.zeroGranules.clearPinned
  have h2 : Steady s s2 := h1.setVaultMap
  have h3 : Steady s s3 := h2.setVaultFailed.onGirth
  have h4 : Steady s s4 := h3.set.count
  have h5 : Steady s s5 := h4.lifeAdd
  have h6 : Steady s s6 := h5.set.longEnd
  have h7 : Steady s s7 := .ite h6 h6.event.raise
  exact h7.cycleTakes.settleRetention

theorem execRetCtrlWrite_meets {m v} : Meets true s (execRetCtrlWrite m v s) := by
  unfold execRetCtrlWrite
  refine .next fun h => h.writeTo fun ht => .ite ht ?_
  extract_lets old s1
  have h1 : Steady s s1 := ht.each fun hu => .ite hu.event (.ite hu.set (.ite hu.wakeSegment hu.set))
  exact h1.settleRetention

/-! ### Harness -/

theorem execHarnessRequest_meets {r} : Meets (goodRequest r) s (execHarnessRequest r s) :=
  .of fun h => h.whenHolds fun ht => ht.request

theorem Steady.endTxn {t} (h : Steady s x) : Steady s (x.endTxn t) :=
  (Steady.ite h.releasePath.endDram h.releasePath).flush

theorem execTransactionEnd_meets {master id} : Meets true s (execTransactionEnd master id s) := by
  unfold execTransactionEnd
  refine .next fun h => ?_
  split
  · exact h.endTxn.issueHeld
  · exact h

theorem execMasterReset_meets {master} : Meets (decide (master < 13)) s (execMasterReset master s) :=
  .of fun h => h.resetMaster

theorem execMrstDone_meets {master} : Meets (decide (master < 13)) s (execMrstDone master s) :=
  .of fun h => h.whenHolds fun ht => ht.retireMaster.issueHeld

theorem execRemapWrite_meets {m v} : Meets true s (execRemapWrite m v s) :=
  .next fun h => h.writeTo fun ht => .ite ht.set ht

theorem execDramMapWrite_meets {m v} : Meets true s (execDramMapWrite m v s) :=
  .next fun h => h.writeTo fun ht => .ite ht (.ite ht.set.set.set ht.event)

theorem execWinBaseHiWrite_meets {m v} : Meets true s (execWinBaseHiWrite m v s) :=
  .next fun h => h.writeTo fun ht => ht.set.with_ctrl

theorem Steady.bar2Pieces {write data strobes fuel a len} (h : Steady s x) :
    Steady s (x.bar2Pieces write data strobes fuel a len) := by
  induction fuel generalizing x data strobes a len with
  | zero => exact h
  | succ fuel ih => exact .ite h (ih h.requestPiece)

theorem execBar2Access_meets {write off len data strobes} :
    Meets (decide (1 ≤ len) && decide (off + len ≤ 2 ^ 30) && (!write || decide (data.length = len))) s
      (execBar2Access write off len data strobes s) :=
  .of fun h => h.whenHolds fun ht => .ite ht.bar2Pieces.answer ht.bar2Pieces

/-! ### Lane -/

theorem laneCmd_meets {n f} (hf : ∀ {t}, Steady s t → Steady s (f t)) : Meets (decide (n < 10)) s (laneCmd n s f) :=
  .of fun h => .ite (hf h) h

theorem Steady.windowEnds {n} (h : Steady s x) : Steady s (x.windowEnds n) := by
  unfold State.windowEnds
  extract_lets x' st p
  refine .ite (.ite h.setLaneState h.detectAt) (.ite (.ite h.restartLane
    (.ite h.setLaneState (.ite h.detectAt h.listens))) (.ite (h.switchEnded fun ht => ?_) h))
  extract_lets s1
  have h1 : Steady s s1 := ht.unlockRx.count.lifeAdd.event
  exact .ite h1.listens h1.setLaneState.onLane

theorem execLaneStateTimeout_meets {n} : Meets (decide (n < 10)) s (execLaneStateTimeout n s) :=
  laneCmd_meets (fun ht => ht.whenHolds fun hu => hu.reach.windowEnds)

theorem Steady.lockRx {n ppm} (h : Steady s x) : Steady s (x.lockRx n ppm) := h.setLocked.onLane

theorem Steady.negotiates {n} (h : Steady s x) : Steady s (x.negotiates n) := by
  unfold State.negotiates
  exact h.setLaneState.onLane

theorem Steady.establish {n ppm} (h : Steady s x) : Steady s (x.establish n ppm) := by
  unfold State.establish
  extract_lets s1 st rate
  have h1 : Steady s s1 := h.lockRx
  exact .ite h1.negotiates (.ite h1.laneUp (.ite (h1.switchEnded fun ht => ht.laneUp) h1))

theorem execRateEstablished_meets {n ppm} : Meets (decide (n < 10)) s (execRateEstablished n ppm s) :=
  laneCmd_meets (fun ht => .ite ht (.ite ht.establish (ht.whenHolds fun hu => hu.reach.establish)))

theorem execNegotiate_meets {n ouiMatch rates} : Meets (decide (n < 10)) s (execNegotiate n ouiMatch rates s) :=
  laneCmd_meets (fun ht => ht.whenHolds fun hu => .ite hu.setLaneState.onLane hu.laneUp)

theorem Steady.loseRx {n cause} (h : Steady s x) : Steady s (x.loseRx n cause) := by
  unfold State.loseRx
  split
  · exact h.set.unlockRx
  · exact h.unlockRx
  · exact h.onLane

theorem Steady.setLos {n cause} (h : Steady s x) : Steady s (x.setLos n cause) :=
  h.loseRx.set.count.lifeAdd.event.onLane.raise.laneLink

theorem execLos_meets {n cause} : Meets (decide (n < 10)) s (execLos n cause s) :=
  laneCmd_meets (fun ht => .ite (.ite ht.set ht) (.ite (.ite ht ht.loseRx) (.ite ht.loseRx ht.setLos)))

theorem execLosClear_meets {n} : Meets (decide (n < 10)) s (execLosClear n s) := by
  unfold execLosClear
  refine laneCmd_meets (fun ht => ?_)
  split
  · exact ht
  · exact ht.whenHolds fun hu => hu.reach.dropLos.laneLink

theorem execAutoRestart_meets {n} : Meets (decide (n < 10)) s (execAutoRestart n s) :=
  laneCmd_meets (fun ht => ht.whenHolds fun hu => hu.reach.onLane.restartLane)

theorem Steady.requestRestart {n} (h : Steady s x) : Steady s (x.requestRestart n) := .ite h h.restartLane

theorem execLaneRestart_meets {m n} : Meets (decide (n < 10)) s (execLaneRestart m n s) :=
  .of fun h => h.writeTo fun ht => ht.requestRestart

theorem Steady.writeLb {n v} (h : Steady s x) : Steady s (x.writeLb n v) :=
  .ite h.event (Steady.ite h.unlockRx h).set.set.updateTest

theorem execLbModeWrite_meets {m n v} : Meets (decide (n < 10)) s (execLbModeWrite m n v s) :=
  .of fun h => h.writeTo fun ht => ht.writeLb

theorem Steady.clearPrbs {n} (h : Steady s x) : Steady s (x.clearPrbs n) := by
  unfold State.clearPrbs
  exact h.set.set.set.set.onLane

theorem Steady.setPoly {p f v} (h : Steady s x) : Steady s (x.setPoly p f v) := .ite h h.set

theorem Steady.writePrbs {n v} (h : Steady s x) : Steady s (x.writePrbs n v) := by
  unfold State.writePrbs
  extract_lets p s1 put s2 s3 s4
  have h1 : Steady s s1 := .ite h.clearPrbs h
  have hput : ∀ {t a1}, Steady s t → Steady s (put t a1) := fun ht => ht.set
  have h2 : Steady s s2 := (hput (hput (hput (hput h1))))
  have h3 : Steady s s3 := h2.setPoly.setPoly
  have h4 : Steady s s4 := .ite h3 h3.unlockChecker
  exact .ite h.event h4.updateTest

theorem execPrbsCtrlWrite_meets {m n v} : Meets (decide (n < 10)) s (execPrbsCtrlWrite m n v s) :=
  .of fun h => h.writeTo fun ht => ht.writePrbs

theorem Steady.writePrbsClr {n} (h : Steady s x) : Steady s (x.writePrbsClr n) := .ite h.event h.clearPrbs

theorem execPrbsClr_meets {m n} : Meets (decide (n < 10)) s (execPrbsClr m n s) :=
  .of fun h => h.writeTo fun ht => ht.writePrbsClr

theorem execPrbsLock_meets {n rx} : Meets (decide (n < 10)) s (execPrbsLock n s rx) :=
  laneCmd_meets (fun ht => ht.whenHolds fun hu => (Steady.ite hu hu.findLock).set.onLane.event)

theorem Steady.loseChecker {n bits errors} (h : Steady s x) : Steady s (x.loseChecker n bits errors) :=
  h.addBits.count.count.set.event

theorem execPrbsUnlock_meets {n bits errors} : Meets (decide (n < 10)) s (execPrbsUnlock n bits errors s) :=
  laneCmd_meets (fun ht => ht.whenHolds fun hu => hu.reach.loseChecker)

theorem Steady.writeSleep {n v} (h : Steady s x) : Steady s (x.writeSleep n v) := by
  unfold State.writeSleep
  extract_lets p was s1 on
  have h1 : Steady s s1 := h.set.set.set
  exact .ite h (.ite h1 (.ite h1.sleepLane (.ite h1.wakeLane h1)))

theorem execSleepWrite_meets {m n v} : Meets (decide (n < 10)) s (execSleepWrite m n v s) :=
  .of fun h => h.writeTo fun ht => ht.writeSleep

theorem execWakeOnSig_meets {n} : Meets (decide (n < 10)) s (execWakeOnSig n s) :=
  laneCmd_meets (fun ht => ht.whenHolds fun hu => .ite hu.set (.ite hu.set.set.event.wakeLane hu.set.set.event))

/-! ### Life -/

theorem execRecordPeriod_meets : Meets true s (execRecordPeriod s) :=
  .next fun h => h.whenHolds fun ht => ht.reach.onLife.startRecord

theorem Steady.recNow (h : Steady s x) : Steady s x.recNow := .ite h (.ite h.set h.startRecord)
theorem execRecNow_meets {m} : Meets true s (execRecNow m s) := .next fun h => h.writeTo fun ht => ht.recNow

theorem execRecDone_meets {ok} : Meets true s (execRecDone ok s) := by
  unfold execRecDone
  refine .next fun h => h.whenHolds fun ht => ?_
  extract_lets p s1 s2 s3
  have h1 : Steady s s1 := ht.set
  have h2 : Steady s s2 := h1.set.onArea
  have h3 : Steady s s3 := .ite h2.set.lifeAdd.event h1.onArea.set.count.event
  exact .ite h3.startRecord h3

theorem execLifeDump_meets {tag addr limit} : Meets true s (execLifeDump tag addr limit s) :=
  .next fun h => h.mailbox fun ht => .ite ht.reply (.ite ht.reply (.ite ht.reply ht.onLife.accept))

theorem execLifeDumpDone_meets : Meets true s (execLifeDumpDone s) := by
  unfold execLifeDumpDone
  refine .next fun h => ?_
  split
  · exact h.with_freeCtr.pokeBytes.onLife.set.finish
  · exact h

theorem Steady.replanDue (h : Steady s x) : Steady s x.replanDue := .ite h.reach (.ite h h.reach.onLife)
theorem Steady.replanWaits (h : Steady s x) : Steady s x.replanWaits := .ite h.onLife.count.set h.onLife

theorem execReplan_meets : Meets true s (execReplan s) :=
  .next fun h => .ite h.onLife (.ite h.replanDue.onLife (.ite h.replanDue.replanWaits h.replanDue.startReplan))

theorem Steady.replanAgain (h : Steady s x) : Steady s x.replanAgain := .ite (.ite h.startReplan h.onLife) h

theorem execReplanStepDone_meets : Meets true s (execReplanStepDone s) := by
  unfold execReplanStepDone
  refine .next fun h => ?_
  split
  · exact .ite h (.ite h.reach.showHeadroom.replanNext.replanAgain h.onLife.set)
  · exact h

theorem execPowerOnSecond_meets : Meets true s (execPowerOnSecond s) := by
  unfold execPowerOnSecond
  refine .next fun h => ?_
  extract_lets p s1 s2 s3 s4
  have h1 : Steady s s1 := h.reach.lifeAdd
  have h2 : Steady s s2 := by
    unfold s2
    split
    · exact h1.lifeAdd
    · exact h1
  have h3 : Steady s s3 := h2.lifeAdd
  have h4 : Steady s s4 := h3.each fun ht => ht.loopSecond
  exact h4.onLife

theorem execPowerOnHour_meets : Meets true s (execPowerOnHour s) :=
  .next fun h => h.whenHolds fun ht => ht.computeRatios.onLife

/-! ### Mac -/

theorem macCmd_meets {n f} (hf : ∀ {t}, Steady s t → Steady s (f t)) : Meets (decide (n < 4)) s (macCmd n s f) :=
  .of fun h => .ite (hf h) h

theorem Steady.writeProd {n v} (h : Steady s x) : Steady s (x.writeProd n v) := .ite h (.ite h.set h.set.schedule)

theorem execTxqProdWrite_meets {m n v} : Meets (decide (n < 4)) s (execTxqProdWrite m n v s) :=
  .of fun h => h.writeTo fun ht => ht.writeProd

theorem Steady.frameEnd {n f ecc shadowed} (h : Steady s x) : Steady s (x.frameEnd n f ecc shadowed) := by
  unfold State.frameEnd
  extract_lets p end_ s1 bad late s2
  have h1 : Steady s s1 := h.reach
  have h2 : Steady s s2 := h1.upsets.each fun ht => ht.checkRange
  have h3 : Steady s (if ((f.tsReq || f.oneStep.isSome) && !f.drop) = true then s2.txStamp n f.refAt else
    (0, s2)).2 :=
    .ite_snd h2.txStamp h2
  split
  rename_i ns s3 e
  rw [e] at h3
  extract_lets s4 s5 s6
  have h4 : Steady s s4 := h3.onMac
  have h5 : Steady s s5 := h4.count
  have h6 : Steady s s6 := .ite h4.count (.ite h4.count.completeTx
    (.ite h4.count.event.completeTx (Steady.ite_fst h5.offerStamp h5).completeTx))
  exact h6.schedule

theorem execTxFrameEnd_meets {n ecc shadowed} : Meets (decide (n < 4)) s (execTxFrameEnd n ecc shadowed s) := by
  unfold execTxFrameEnd
  refine macCmd_meets (fun ht => ?_)
  split
  · exact ht.frameEnd
  · exact ht

theorem Steady.clearHalt {m n} (h : Steady s x) : Steady s (x.clearHalt m n) := .ite h (.ite h.set.schedule h)

theorem execHaltedClear_meets {m n} : Meets (decide (n < 4)) s (execHaltedClear m n s) :=
  .of fun h => h.writeTo fun ht => ht.clearHalt

theorem execVerifyTimer_meets {n} : Meets (decide (n < 4)) s (execVerifyTimer n s) :=
  macCmd_meets (fun ht => ht.whenHolds fun hu => .ite hu.reach.onMac hu.reach.set.event)

theorem Steady.deliverFrame {n r f g} (h : Steady s x) : Steady s (x.deliverFrame n r f g) := by
  unfold State.deliverFrame
  extract_lets p count prod slotBytes data desc strip bytes s1 ip w0 w1
  have h1 : Steady s s1 := .ite h.count (.ite h.count h.count)
  refine .ite h1.lifeAdd.event (.ite h.count (.ite h.shadowed.count.event ?_))
  have h2 : Steady s (x.rxStamp n (x.refAt n f)).2 := h.rxStamp
  split
  rename_i ns s2 e
  rw [e] at h2
  extract_lets words frame desc'
  have h3 : Steady s frame.1 := h2.netWrite
  have h4 : Steady s desc'.1 := .ite_fst h3 h3.netWrite
  exact .ite h4.count.event h4.set.count.pauseUpdate

theorem Steady.macControl {n l} (h : Steady s x) : Steady s (x.macControl n l) := .ite h.pauseReceived h

theorem Steady.mergePacket {n k} (h : Steady s x) : Steady s (x.mergePacket n k) := by
  unfold State.mergePacket
  extract_lets p
  split
  · exact .ite h.onMac h
  · exact .ite h.set.event.schedule h

theorem Steady.classify {n f} (h : Steady s x) : Steady s (x.classify n f) := by
  unfold State.classify
  extract_lets p l h' s1
  have h1 : Steady s s1 := .ite h.count h
  refine .ite h.count.event (.ite h.count.lifeAdd (.ite h.count ?_))
  split
  · exact h.mergePacket
  · exact .ite h1.macControl (.ite h1.count (.ite h1.deliverFrame (.ite h1.deliverFrame h1.deliverFrame)))

theorem execRxFrame_meets {n f} : Meets (decide (n < 4)) s (execRxFrame n f s) :=
  macCmd_meets (fun ht => ht.whenHolds fun hu => .ite hu (.ite hu.classify hu.count))

theorem Steady.writeCons {n v} (h : Steady s x) : Steady s (x.writeCons n v) := .ite h h.set.pauseUpdate

theorem execRxrConsWrite_meets {m n v} : Meets (decide (n < 4)) s (execRxrConsWrite m n v s) :=
  .of fun h => h.writeTo fun ht => ht.writeCons

theorem execPauseRefresh_meets {n} : Meets (decide (n < 4)) s (execPauseRefresh n s) :=
  macCmd_meets (fun ht => ht.whenHolds fun hu => hu.reach.onMac.schedule)

theorem execPauseExpiry_meets {n} : Meets (decide (n < 4)) s (execPauseExpiry n s) :=
  macCmd_meets (fun ht => ht.whenHolds fun hu => hu.reach.set.schedule)

theorem Steady.popStamp {n} (h : Steady s x) : Steady s (x.popStamp n).1 := by
  unfold State.popStamp
  extract_lets p
  split
  · exact h.set.set.set
  · exact h.onMac.set.set.set.set.set

theorem execTsqPop_meets {m n} : Meets (decide (n < 4)) s (execTsqPop m n s) :=
  .of fun h => h.readFrom fun ht => ht.popStamp

/-! ### Sap -/

theorem Steady.acquireD2 {n} (h : Steady s x) : Steady s (x.acquireD2 n) := .ite h.setDpll h

theorem Steady.alignFrame {n} (h : Steady s x) : Steady s (x.alignFrame n) :=
  (Steady.ite h.onSap h.onSap.free.set).acquireD2.setSapState.showFill

theorem Steady.elasticFrame {n slots} (h : Steady s x) : Steady s (x.elasticFrame n slots) := by
  unfold State.elasticFrame
  extract_lets x' v
  refine .ite h.onSap.showFill ?_
  split
  · exact h.slip
  · exact .ite h.slip h.onSap.showFill

theorem Steady.d2Frame {n slots} (h : Steady s x) : Steady s (x.d2Frame n slots) :=
  .ite h.onSap.lockInstant (.ite h.onSap.onSap h.onSap.onSap)

theorem execSapFrame_meets {n bclks wsOk slots} :
    Meets (decide (n < 16)) s (execSapFrame n bclks wsOk slots s) := by
  unfold execSapFrame
  refine .of fun h => ?_
  extract_lets st
  refine h.whenHolds fun ht => ?_
  extract_lets d s1 s2 s3
  have h1 : Steady s s1 := ht.onSap
  have h2 : Steady s s2 := h1.slipQuiet.reach
  have h3 : Steady s s3 := h1.catchUp
  exact .ite (.ite h1 (.ite h2.silentIn.onSap.alignFrame h2.lockInstant))
    (.ite h3.alignFrame (.ite h3.slip (.ite h3.elasticFrame h3.d2Frame)))

theorem execClkLoss_meets {n} : Meets (decide (n < 16)) s (execClkLoss n s) := by
  unfold execClkLoss
  refine .of fun h => ?_
  extract_lets st p
  refine h.whenHolds fun ht => ?_
  extract_lets s1 s2 s3 s4 s5 s6 s7 s8 s9
  have h1 : Steady s s1 := ht.catchUp.undoSlip.fadeLast
  have h2 : Steady s s2 := h1.realign.sdoLow.setSapState
  have h3 : Steady s s3 := h2.set.set.showFill
  have h4 : Steady s s4 := h3.count.lifeAdd.event
  have h5 : Steady s s5 := h4.raise
  have h6 : Steady s s6 := h5.count.lifeAdd
  have h7 : Steady s s7 := h6.noteFreq
  have h8 : Steady s s8 := h7.onDpll
  have h9 : Steady s s9 := h8.event.setDpll
  exact .ite (h9.each fun hu => hu.unlockBridge) h5

theorem execClkBack_meets {n ppm} : Meets (decide (n < 16)) s (execClkBack n ppm s) := by
  unfold execClkBack
  refine .of fun h => ?_
  extract_lets p
  refine h.whenHolds fun ht => ?_
  extract_lets s1 s2 rate
  have h1 : Steady s s1 := ht.catchUp.set
  have h2 : Steady s s2 := h1.set.lower
  exact .ite h2.realign.setSapState.acquireD2.event h1.onSap.set.event

/-! ### TickOps -/

theorem Steady.deliverBlock {q l} (h : Steady s x) : Steady s (x.deliverBlock q l) := h.putBlock

theorem Steady.putPatch {q l} (h : Steady s x) : Steady s (x.putPatch q l) := by
  unfold State.putPatch
  split
  · exact h.deliverBlock
  · exact h.deliverBlock.onMix

theorem Steady.commitTile {t} (h : Steady s x) : Steady s (x.commitTile t) :=
  .ite h.setTile (.ite h.setTile h.setTile)

theorem Steady.endPass {t} (h : Steady s x) : Steady s (x.endPass t) := (Steady.ite h.abortPass h).commitTile

theorem Steady.issueTiles {d b} (h : Steady s x) : Steady s (x.issueTiles d b) := by
  unfold State.issueTiles
  exact ((h.each fun ht => ht.putPatch).each fun ht => ht.putPatch).onFabric

theorem Steady.silenceGone {d b} (h : Steady s x) : Steady s (x.silenceGone d b) := by
  unfold State.silenceGone
  exact (h.each fun ht => ht.deliverBlock.onMix).onFabric

theorem Steady.issueLast {d} (h : Steady s x) : Steady s (x.issueLast d) := by
  unfold State.issueLast
  exact (h.each fun ht => ht.deliverBlock).onFabric

theorem Steady.advanceReloc {r} (h : Steady s x) : Steady s (x.advanceReloc r) := by
  unfold State.advanceReloc
  split
  · exact h.beginReloc
  · exact h
  · exact h.setPhase
  · exact h.setPhase

theorem Steady.advanceRelocs {d} (h : Steady s x) : Steady s (x.advanceRelocs d) := by
  unfold State.advanceRelocs
  exact (h.each fun ht => ht.advanceReloc).onFabric

theorem Steady.freeBlock {b} (h : Steady s x) : Steady s (x.freeBlock b).1 := by
  induction b generalizing x with
  | zero => exact h
  | succ b ih => exact ih h.free

theorem Steady.bridgesTake {p d b hz} (h : Steady s x) : Steady s (x.bridgesTake p d b hz) :=
  h.each fun ht => ht.onMix

theorem Steady.bridgeBlock {y hz b} (h : Steady s x) : Steady s (x.bridgeBlock y hz b).1 :=
  h.foldl_fst (fun ht => ht.free)

theorem Steady.bridgeTick {y b} (h : Steady s x) : Steady s (x.bridgeTick y b) :=
  .ite h.putPatch (.ite h.bridgeBlock.putPatch.set.event h.bridgeBlock.putPatch)

theorem Steady.streamMoved {i} (h : Steady s x) : Steady s (x.streamMoved i) := h.onFabric
theorem Steady.reachStream {y offs} (h : Steady s x) : Steady s (x.reachStream y offs).1 := h.accessWords

theorem Steady.readStream {i y b} (h : Steady s x) : Steady s (x.readStream i y b).1 :=
  .ite_fst h.streamMoved.reachStream h.streamMoved.count.freeBlock

theorem Steady.writeStream {i y b} (h : Steady s x) : Steady s (x.writeStream i y b) := by
  unfold State.writeStream
  extract_lets offs s1 l ws s2 s3 s4
  have h1 : Steady s s1 := h.streamMoved
  have h2 : Steady s s2 := h1.reachStream
  have h3 : Steady s s3 := h2.ownWrite
  have h4 : Steady s s4 := h3.each fun ht => ht.foldl fun hu => hu.setByte
  exact .ite h4.wordsWritten h1.count

theorem Steady.writeStreams {p d b} (h : Steady s x) : Steady s (x.writeStreams p d b) :=
  h.each fun ht => ht.writeStream

theorem Steady.takeInputs {p d b} (h : Steady s x) : Steady s (x.takeInputs p d b) := by
  unfold State.takeInputs
  extract_lets sap s1 reads s2 s3
  have h1 : Steady s s1 := h.each fun ht => ht.putPatch
  have h2 : Steady s s2 := by
    refine h1.each fun ht => ?_
    split
    · exact ht.streamMoved.putPatch
    · exact ht.readStream.putPatch
  have h3 : Steady s s3 := h2.onMix
  exact h3.each fun ht => ht.bridgeTick

theorem Steady.routed {dest b} (h : Steady s x) : Steady s (x.routed dest b).1 := by
  unfold State.routed
  extract_lets src
  have hsrc : ∀ {t a1}, Steady s t → Steady s (src t a1).1 := fun ht => .ite_fst ht ht.readBlock
  split
  · exact (hsrc (hsrc h)).with_mix
  · exact hsrc h

theorem Steady.deliverSinks {p d b} (h : Steady s x) : Steady s (x.deliverSinks p d b) :=
  h.each fun ht => ht.routed.putPatch

theorem Steady.deliverTile {t e} (h : Steady s x) : Steady s (x.deliverTile t e) :=
  (h.setTile.each fun ht => (Steady.ite ht.routed ht.routed.deliverBlock).setTile).setTile

theorem Steady.clearSticky {t} (h : Steady s x) : Steady s (x.clearSticky t) := h.setTile.set.set

theorem Steady.startPass {t e tick first} (h : Steady s x) : Steady s (x.startPass t e tick first) := by
  unfold State.startPass
  split
  · exact h.onFabric
  · extract_lets first s1 x' s2 s3 s4
    have h1 : Steady s s1 := h.onFabric
    have h2 : Steady s s2 := h1.setTile
    have h3 : Steady s s3 := h2.clearSticky
    have h4 : Steady s s4 := .ite h3.onFabric h3
    refine .ite ?_ h1
    split
    · exact h4.setEsc
    · exact h4

theorem Steady.rollSlack {d} (h : Steady s x) : Steady s (x.rollSlack d) :=
  h.setDom.set.each fun ht => ht.setTile.set

theorem Steady.captureSlot {k} (h : Steady s x) : Steady s (x.captureSlot k) := h.setBytes.setMonitor
theorem Steady.meterBlock {k y l hz} (h : Steady s x) : Steady s (x.meterBlock k y l hz).1 := h.freeBlock

theorem Steady.putMonitor {k y} (h : Steady s x) : Steady s (x.putMonitor k y) :=
  .ite h.setMonitor.event h.setMonitor

theorem Steady.monitorTick {k b hz} (h : Steady s x) : Steady s (x.monitorTick k b hz) :=
  (Steady.ite_fst (Steady.ite h.captureSlot h).meterBlock (.ite h.captureSlot h)).putMonitor

theorem Steady.monitorTicks {d b hz} (h : Steady s x) : Steady s (x.monitorTicks d b hz) :=
  h.each fun ht => .ite ht.putMonitor (.ite ht.monitorTick ht)

theorem Steady.busTick {bus hz} (h : Steady s x) : Steady s (x.busTick bus hz) := .ite h.set.onMix h.set.onMix.onMix
theorem Steady.busTicks {p d hz} (h : Steady s x) : Steady s (x.busTicks p d hz) := h.each fun ht => ht.busTick

theorem Steady.loopTick {n b hz} (h : Steady s x) : Steady s (x.loopTick n b hz) :=
  (Steady.ite_fst h.senseLoop.freeBlock h.senseLoop).setLoop

theorem Steady.loopTicks {p d b hz} (h : Steady s x) : Steady s (x.loopTicks p d b hz) :=
  h.each fun ht => ht.loopTick

theorem Steady.advanceMedia {d b} (h : Steady s x) : Steady s (x.advanceMedia d b) :=
  .ite h.setDom h.setDom.restartFlows

theorem Steady.compareMedia {d b hz} (h : Steady s x) : Steady s (x.compareMedia d b hz) := h.setDom.onFlow.set.set

/-! ### Tick -/

theorem Steady.beginCommit {i c d left} (h : Steady s x) : Steady s (x.beginCommit i c d left) := by
  unfold State.beginCommit
  exact h.onMix

theorem Steady.countCommits {d k} (h : Steady s x) : Steady s (x.countCommits d k) :=
  h.onMix.each fun ht => .ite ht ht.beginCommit

theorem Steady.fadeBefore {qs ahead len} (h : Steady s x) : Steady s (x.fadeBefore qs ahead len) := h.onMix

theorem Steady.fadesBefore {d k} (h : Steady s x) : Steady s (x.fadesBefore d k) := by
  unfold State.fadesBefore
  extract_lets b n s1
  have h1 : Steady s s1 := by
    unfold s1
    split
    · exact .ite h h.fadeBefore.onFabric
    · exact h
  split
  · exact .ite h1 h1.fadeBefore
  · exact h1

theorem Steady.startStaged {r} (h : Steady s x) : Steady s (x.startStaged r) := by
  unfold State.startStaged
  exact h.startRoute.onMix

theorem Steady.commitBefore {c d left} (h : Steady s x) : Steady s (x.commitBefore c d left) := by
  unfold State.commitBefore
  refine .ite (h.each fun ht => ht.startStaged) (.ite ?_ (.ite h (.ite h.applyRefSwitch (.ite h.handoverEffect h))))
  split
  · exact .ite h.swapTiles (.ite h.swapEffect h)
  · exact h

theorem Steady.commitAfter {i c d left} (h : Steady s x) : Steady s (x.commitAfter i c d left) :=
  .ite h (h.each fun ht => ht.exchangeBank).onMix

theorem Steady.closeCommits {d} (h : Steady s x) : Steady s (x.closeCommits d) := by
  unfold State.closeCommits
  extract_lets mark s1
  have h1 : Steady s s1 := h.onMix
  exact h1.each fun ht => .ite ht.commitApplied.endSwap (.ite ht.commitApplied.clearStage ht.commitApplied)

theorem Steady.tickNow {d} (h : Steady s x) : Steady s (x.tickNow d) := h.setDom

theorem Steady.openTick {d} (h : Steady s x) : Steady s (x.openTick d) := by
  unfold State.openTick
  extract_lets s1
  have h1 : Steady s s1 := .ite h h.runFence
  split
  · exact h1.reach
  · exact (Steady.ite h1.reach h1).tickNow

theorem Steady.takePeriod {d} (h : Steady s x) : Steady s (x.takePeriod d) :=
  .ite (h.each fun ht => ht.sapFinish).takeFlows (h.each fun ht => ht.sapFinish)

theorem Steady.countTick {d} (h : Steady s x) : Steady s (x.countTick d) := by
  unfold State.countTick
  extract_lets s1 f y s2 s3 s4
  have h1 : Steady s s1 := h.each fun ht => ht.endPass
  have h2 : Steady s s2 := h1.setDom
  have h3 : Steady s s3 := by
    unfold s3
    split
    · exact h2.set
    · exact h2
  have h4 : Steady s s4 := .ite h3 h3.rollSlack
  exact .ite h4.set.advanceMedia h4

theorem Steady.startPasses {d first} (h : Steady s x) : Steady s (x.startPasses d first) :=
  h.each fun ht => ht.startPass

theorem Steady.armFence {d} (h : Steady s x) : Steady s (x.armFence d) := h.setDom

theorem Steady.directRoutes {d} (h : Steady s x) : Steady s (x.directRoutes d) := by
  unfold State.directRoutes
  refine h.each fun ht => ?_
  split
  · exact .ite ht.onMix.startRoute ht
  · exact ht

theorem Steady.withPlan {f} (h : Steady s x) (hf : ∀ {t a}, Steady s t → Steady s (f t a)) :
    Steady s (x.withPlan f) := by
  unfold State.withPlan
  split
  · exact (hf h)
  · exact h

theorem Steady.closeHandover (h : Steady s x) : Steady s x.closeHandover := by
  unfold State.closeHandover
  split
  · exact .ite h.goCold h
  · exact h

theorem Steady.tick {d} (h : Steady s x) : Steady s (x.tick d) := by
  unfold State.tick
  extract_lets s1 s2 k s3 begun swapsHere fresh b s4 s5 s6 b' hz s7 s8 s9 s10 s11 s12 s13 s14 s15 s16
  have h1 : Steady s s1 := h.openTick
  have h2 : Steady s s2 := h1.takePeriod.countTick
  have h3 : Steady s s3 := h2.countCommits.fadesBefore
  have h4 : Steady s s4 := h3.issueTiles.silenceGone.issueLast.advanceRelocs
  have h5 : Steady s s5 := h4.withPlan fun ht => ht.takeInputs
  have h6 : Steady s s6 := h5.each fun ht => ht.commitBefore
  have h7 : Steady s s7 := h6.each fun ht => ht.deliverTile
  have h8 : Steady s s8 := h7.withPlan fun ht => ht.deliverSinks.writeStreams.bridgesTake
  have h9 : Steady s s9 := h8.earlyFrames
  have h10 : Steady s s10 := h9.landFlows
  have h11 : Steady s s11 := .ite h10.buildFlows.ageReleases h10
  have h12 : Steady s s12 := h11.startPasses
  have h13 : Steady s s13 := h12.each fun ht => ht.commitAfter
  have h14 : Steady s s14 := h13.armFence.directRoutes.monitorTicks
  have h15 : Steady s s15 := h14.withPlan fun ht => ht.busTicks.loopTicks
  have h16 : Steady s s16 := .ite h15.compareMedia h15
  exact h16.pullTick.closeCommits.closeHandover

theorem execBlockTick_meets {d} : Meets (decide (d < 3)) s (execBlockTick d s) :=
  .of fun h => h.whenHolds fun ht => ht.tick

/-! ### Control -/

theorem Steady.disableSwap (h : Steady s x) : Steady s x.disableSwap :=
  h.each fun ht => ht.dropSwap.commitDropped.swapCancelled

theorem Steady.fabricDrained (h : Steady s x) : Steady s x.fabricDrained := h.stopRelocs.disableSwap

theorem Steady.killPass {t} (h : Steady s x) : Steady s (x.killPass t) :=
  .ite (Steady.ite h.setTile h.abortPass).set h

theorem Steady.abortLoad (h : Steady s x) : Steady s x.abortLoad := by
  unfold State.abortLoad
  split
  · exact h.onFabric.finish
  · exact h

theorem Steady.fabricKilled (h : Steady s x) : Steady s x.fabricKilled :=
  (h.each fun ht => ht.killPass).fabricDrained.abortLoad.resetMaster

theorem Steady.fabricReset {old} (h : Steady s x) : Steady s (x.fabricReset old) := by
  unfold State.fabricReset
  exact ((h.each fun ht => ht.stopTile).onFabric.each fun ht => ht.setDom).onMix

theorem Steady.mixDrained (h : Steady s x) : Steady s x.mixDrained := h.each fun ht => ht.commitDropped

theorem Steady.abortStaging (h : Steady s x) : Steady s x.abortStaging := by
  unfold State.abortStaging
  split
  · exact h.onMix.set.finish
  · exact h

theorem Steady.mixKilled (h : Steady s x) : Steady s x.mixKilled := h.onMix.mixDrained.abortStaging

theorem Steady.mixReset (h : Steady s x) : Steady s x.mixReset := by
  unfold State.mixReset
  split
  · exact h.clearStage.loadMixTables
  · exact h.clearStage

theorem Steady.awlReset {t} (h : Steady s x) : Steady s (x.awlReset t) := by
  unfold State.awlReset
  extract_lets x' s1
  have h1 : Steady s s1 := h.setTile
  split
  · exact h1.setWindows
  · exact h1

theorem Steady.girthKilled (h : Steady s x) : Steady s x.girthKilled := by
  unfold State.girthKilled
  extract_lets s1
  have h1 : Steady s s1 := by
    unfold s1
    split
    · exact h.testPhase
    · exact h.endTest
    · exact h
  exact h1.abortPorts

theorem Steady.girthReset (h : Steady s x) : Steady s x.girthReset := h.each fun ht => ht.wakeSegment

theorem Steady.girthAfterReset (h : Steady s x) : Steady s x.girthAfterReset := by
  refine Steady.girthEccSource ?_
  split
  · exact h.set.set
  · exact h

theorem Steady.dramDrained {c} (h : Steady s x) : Steady s (x.dramDrained c) := by
  unfold State.dramDrained
  exact (Steady.ite h.endRankTest h).onDram

theorem Steady.stopHelper {c} (h : Steady s x) : Steady s (x.stopHelper c) :=
  .ite h.set.set.set.set.with_freeCtr.set.onDram h

theorem Steady.dramKilled {c} (h : Steady s x) : Steady s (x.dramKilled c) := by
  unfold State.dramKilled
  extract_lets s1 s2
  have h1 : Steady s s1 := h.dramDrained.abortPorts
  have h2 : Steady s s2 := h1.stopHelper.set.onDram
  split
  · exact h2.onDram.finish.endWaiting
  · exact h2

theorem Steady.enterSelfRefresh {c} (h : Steady s x) : Steady s (x.enterSelfRefresh c) :=
  h.onDram.each fun ht => .ite ht.setRank.showRefresh ht

theorem Steady.dramReset {c} (h : Steady s x) : Steady s (x.dramReset c) :=
  h.onDram.showThrottles.lower.enterSelfRefresh

theorem Steady.dramEnabled {c} (h : Steady s x) : Steady s (x.dramEnabled c) :=
  .ite h.onDram.longStart.longStep h.onDram

theorem Steady.unitEnabled {p} (h : Steady s x) : Steady s (x.unitEnabled p) := by
  unfold State.unitEnabled
  split
  · exact h.timeEnabled
  · exact h.macEnabled
  · exact h.laneEnabled
  · exact h.dramEnabled
  · exact h.flowEnabled
  · exact h.stirrupEnabled
  · exact h.reselect
  · exact h.serveRelocation.showStage
  · exact h

theorem Steady.unitDrained {p} (h : Steady s x) : Steady s (x.unitDrained p) := by
  unfold State.unitDrained
  split
  · exact h.fabricDrained
  · exact h.mixDrained
  · exact h.timeDrained
  · exact h.reinDrained
  · exact h.macDrained
  · exact h.laneDrained
  · exact h.dramDrained
  · exact h.flowDrained
  · exact h.sapDrained
  · exact h.stirrupDrained
  · exact h

theorem Steady.unitQuiet {p} (h : Steady s x) : Steady s (x.unitQuiet p) := by
  unfold State.unitQuiet
  split
  · exact h.reinHold
  · exact h.onMac
  · exact h.laneOff
  · exact h.enterSelfRefresh
  · exact h.sapStopped
  · exact h.loopFaded.loopStopped
  · exact h

theorem Steady.unitKilled {p live} (h : Steady s x) : Steady s (x.unitKilled p live) := by
  unfold State.unitKilled
  split
  · exact h.fabricKilled
  · exact h.mixKilled
  · exact h.killPass
  · exact h.girthKilled
  · exact h.dramKilled
  · exact h.lifeKilled
  · exact h.timeDrained
  · exact h.reinKilled
  · exact h.macKilled.resetMaster
  · exact h.laneOff
  · exact h.flowKilled
  · exact h.sapKilled
  · exact h.loopStopped
  · exact h

theorem Steady.unitBeforeReset {p} (h : Steady s x) : Steady s (x.unitBeforeReset p) := by
  unfold State.unitBeforeReset
  split
  · exact h.flowReset
  · exact h.girthReset
  · exact h.resetMaster
  · exact h.resetMaster
  · exact h

theorem Steady.unitReset {p old} (h : Steady s x) : Steady s (x.unitReset p old) := by
  unfold State.unitReset
  split
  · exact h.fabricReset
  · exact h.mixReset
  · exact h.awlReset
  · exact h.girthAfterReset
  · exact h.dramReset
  · exact h.lifeReset
  · exact h.timeReset.ptpSource
  · exact h.reinReset
  · exact h.macReset
  · exact h.laneReset
  · exact h.sapReset
  · exact h.loopReset
  · exact h

theorem Steady.resetUnit {p} (h : Steady s x) : Steady s (x.resetUnit p) := h.unitBeforeReset.resetPage.unitReset

theorem Steady.quiesce {p} (h : Steady s x) : Steady s (x.quiesce p) := by
  unfold State.quiesce
  extract_lets srst s1 s2 s3
  have h1 : Steady s s1 := h.onCtrl
  have h2 : Steady s s2 := h1.unitQuiet.set.set.opDone
  have h3 : Steady s s3 := .ite h2.set.set.unitEnabled h2
  exact .ite h3.resetUnit h3

theorem Steady.enableUnit {p} (h : Steady s x) : Steady s (x.enableUnit p) :=
  .ite h.set.set (.ite h h.set.set.unitEnabled)

theorem Steady.drainUnit {p} (h : Steady s x) : Steady s (x.drainUnit p) :=
  .ite h.set.set (.ite h.set.set.unitDrained h)

theorem Steady.killUnit {p} (h : Steady s x) : Steady s (x.killUnit p) :=
  .ite h.set.set.unitKilled.quiesce h.set.set.unitKilled.set.onCtrl

theorem Steady.srstUnit {p} (h : Steady s x) : Steady s (x.srstUnit p) :=
  .ite h.resetUnit (.ite h.killUnit.onCtrl h.killUnit.resetUnit)

theorem Steady.ctrlWrite {m p f} (h : Steady s x) (hf : ∀ {t a}, Steady s t → Steady s (f t a)) :
    Steady s (x.ctrlWrite m p f) :=
  h.writeTo fun ht => .ite ht (hf ht)

theorem execEnSet_meets {m p} : Meets (bar0Page p) s (execEnSet m p s) :=
  .of fun h => h.ctrlWrite fun ht => ht.enableUnit

theorem execDrain_meets {m p} : Meets (bar0Page p) s (execDrain m p s) :=
  .of fun h => h.ctrlWrite fun ht => ht.drainUnit

theorem execKill_meets {m p} : Meets (bar0Page p) s (execKill m p s) :=
  .of fun h => h.ctrlWrite fun ht => ht.killUnit

theorem execSrst_meets {m p} : Meets (bar0Page p) s (execSrst m p s) :=
  .of fun h => h.ctrlWrite fun ht => ht.srstUnit

theorem execQuiesced_meets {p} : Meets (bar0Page p) s (execQuiesced p s) :=
  .of fun h => h.whenHolds fun ht => ht.quiesce

theorem Steady.writeEvents {p en v} (h : Steady s x) : Steady s (x.writeEvents p en v) :=
  (Steady.ite h.set h.set).evtWritten

theorem execPgEvtWrite_meets {m p en v} : Meets (bar0Page p) s (execPgEvtWrite m p en v s) :=
  .of fun h => h.writeTo fun ht => ht.writeEvents

theorem execPgEvtForce_meets {m p v} : Meets (bar0Page p) s (execPgEvtForce m p v s) :=
  .of fun h => h.writeTo fun ht => ht.events

theorem Steady.setMsix {k y} (h : Steady s x) : Steady s (x.setMsix k y) := h.with_msix

theorem execMsixUnmask_meets {off write v} :
    Meets (decide (off < 65536) && decide (off % 4 = 0)) s (execMsixUnmask off s write v) :=
  .of fun h => .ite h.answer (Steady.ite h.setMsix h).answer

theorem Steady.setLock {p on} (h : Steady s x) : Steady s (x.setLock p on) := h.abandonUnlock.setFlag

theorem Steady.writeLock {p v} (h : Steady s x) : Steady s (x.writeLock p v) :=
  .ite h.setLock (.ite h.abandonUnlock.onCtrl (.ite h.setLock h.abandonUnlock))

theorem Steady.lockWrite {m p v} (h : Steady s x) : Steady s (x.lockWrite m p v) :=
  .ite (Steady.ite h.writeLock h).answer h.absentHit.answer

theorem execPgLockLock_meets {m p} : Meets (bar0Page p) s (execPgLockLock m p s) := .of fun h => h.lockWrite

theorem execPgLockUnlockKey_meets {m p v} : Meets (bar0Page p) s (execPgLockUnlockKey m p v s) :=
  .of fun h => h.lockWrite

theorem Steady.readLife {p} (h : Steady s x) : Steady s (x.readLife p).1 := .ite h.onCtrl.set h.onCtrl

theorem execPgLifeDataRead_meets {m p} : Meets (bar0Page p) s (execPgLifeDataRead m p s) :=
  .of fun h => h.readFrom fun ht => ht.readLife

theorem Steady.popDone (h : Steady s x) : Steady s x.popDone.1 := by
  unfold State.popDone
  split
  · exact h
  · exact h.with_ctrl

theorem execMbxDonePop_meets {m} : Meets true s (execMbxDonePop m s) :=
  .next fun h => h.readFrom fun ht => ht.popDone

theorem execMbxDoneRelease_meets : Meets true s (execMbxDoneRelease s) := by
  unfold execMbxDoneRelease
  refine .next fun h => ?_
  split
  · exact h
  · exact .ite h.onCtrl.putDone h

theorem execOverrun_meets {m off v} : Meets (mailboxOffset off) s (execOverrun m off v s) :=
  .of fun h => h.whenHolds fun ht => ht.writeTo fun hu => hu.set

theorem execBadOpcode_meets {op tag} : Meets true s (execBadOpcode op tag s) :=
  .next fun h => h.whenHolds fun ht => .ite ht.set ht.submit.reply

/-! ### Read -/

theorem Steady.holdHi {p off v} (h : Steady s x) : Steady s (x.holdHi p off v) := h.onCtrl
theorem Steady.advanceAvoid {p} (h : Steady s x) : Steady s (x.advanceAvoid p) := .ite h.set h

theorem Steady.readPage {m p off} (h : Steady s x) : Steady s (x.readPage m p off).1 := by
  unfold State.readPage
  extract_lets plain k b b' s1
  have hplain : Steady s plain.1 := h
  have h1 : Steady s s1 := h.prbsErrors
  refine .ite_fst h.readLife ?_
  split
  · exact .ite_fst h.popStamp hplain
  · exact .ite_fst h.readNs (.ite_fst h.readNs hplain)
  · exact .ite_fst h.dbgAdvance hplain
  · exact .ite_fst h.advanceAvoid (.ite_fst h.senseLoop (.ite_fst h.senseLoop.set hplain))
  · exact .ite_fst h.holdHi (.ite_fst h.prbsErrors hplain)
  · exact .ite_fst h.ageCtx (.ite_fst h.holdHi hplain)
  · exact .ite_fst h.free.set hplain
  · exact .ite_fst h.popDone (.ite_fst h.holdHi (.ite_fst h1 hplain))
  · exact hplain

theorem Steady.longProgress {p} (h : Steady s x) : Steady s (x.longProgress p) := by
  unfold State.longProgress
  split
  · exact h.free.longStep
  · exact h

theorem Steady.showProgress {p} (h : Steady s x) : Steady s (x.showProgress p) := .ite h.wipeProgress h.longProgress

theorem Steady.showFor {p off} (h : Steady s x) : Steady s (x.showFor p off) := by
  unfold State.showFor
  refine .ite h.showProgress ?_
  split
  · exact .ite h.testProgress h
  · exact .ite h.seekLock h
  · exact .ite h.seekLock h
  · exact h

theorem Steady.readReg {m off} (h : Steady s x) : Steady s (x.readReg m off).1 :=
  .ite_fst h.showFor.readPage h.absentHit

/-! ### Startup -/

theorem Steady.setFw {st} (h : Steady s x) : Steady s (x.setFw st) := h.set
theorem Steady.bootFail {code y} (h : Steady s x) : Steady s (x.bootFail code y) := h.set.set

theorem Steady.recovery (h : Steady s x) : Steady s x.recovery := by
  unfold State.recovery
  extract_lets s1 s2 _ s3
  have h1 : Steady s s1 := h.setFw.onCtrl
  have h2 : Steady s s2 := h1.set.set
  have h3 : Steady s s3 := h2.with_cinch
  split
  · exact h3.reply
  · exact h3

theorem Steady.applySlices {i} (h : Steady s x) : Steady s (x.applySlices i) := .ite h h.onCtrl.set.set
theorem Steady.copyImage {i} (h : Steady s x) : Steady s (x.copyImage i) := h.setBytes

theorem Steady.startImage {y i} (h : Steady s x) : Steady s (x.startImage y i) :=
  h.copyImage.onCtrl.setFw.set.applySlices.set.set.set.set.set

theorem Steady.trySlot {b y next} (h : Steady s x) (hnext : ∀ {t}, Steady s t → Steady s (next t)) :
    Steady s (x.trySlot b y next) := by
  unfold State.trySlot
  refine .ite (hnext h) ?_
  split
  · exact h.startImage
  · exact (hnext h.bootFail)

theorem Steady.bootFrom {b y} (h : Steady s x) : Steady s (x.bootFrom b y) :=
  .ite (h.trySlot fun ht => ht.trySlot fun hu => hu.recovery) h.set.recovery

theorem Steady.boot {b} (h : Steady s x) : Steady s (x.boot b) := by
  unfold State.boot
  split
  · exact h.onCtrl.bootFrom
  · exact h.bootFrom

theorem Steady.restartPtp (h : Steady s x) : Steady s x.restartPtp :=
  (h.each fun ht => .ite ht ht.setPtp.showMaster.setServo).ptpSource.ptpSeen

theorem Steady.reachRun (h : Steady s x) : Steady s x.reachRun := h.setFw.set.set.set.set.onCtrl.restartPtp

theorem Steady.bootWipe {kept failed} (h : Steady s x) : Steady s (x.bootWipe kept failed) := by
  unfold State.bootWipe
  extract_lets s1 s2
  have h1 : Steady s s1 := h.setVaultFailed
  have h2 : Steady s s2 := .ite h1 h1.event
  exact .ite h2 h2.raise

theorem Steady.modeBoot {b} (h : Steady s x) : Steady s (x.modeBoot b) := .ite h.set.recovery (.ite h.setFw h.boot)

theorem Steady.release {kept b} (h : Steady s x) : Steady s (x.release kept b) := by
  unfold State.release
  extract_lets s1 s2 s3 s4
  have h1 : Steady s s1 := h.cold.bootWipe
  have h2 : Steady s s2 := .ite h1 h1.raise
  have h3 : Steady s s3 := h2.each fun ht => ht.raise
  have h4 : Steady s s4 := .ite h3 h3.raise
  exact h4.raise.modeBoot

theorem execPowerOnReset_meets {b} : Meets true s (execPowerOnReset b s) := .next fun h => h.release

theorem execResetNFall_meets : Meets true s (execResetNFall s) :=
  .next fun h => h.whenHolds fun ht => ht.cold.setVaultFailed

theorem execResetNRelease_meets {mode b} : Meets true s (execResetNRelease mode b s) :=
  .next fun h => h.whenHolds fun ht => ht.onCtrl.release

theorem Steady.nextStage (h : Steady s x) : Steady s x.nextStage := h.set

theorem Steady.romEnds (h : Steady s x) : Steady s x.romEnds := by
  unfold State.romEnds
  extract_lets s1 s2
  have h1 : Steady s s1 := h.reachRun
  have h2 : Steady s s2 := by
    unfold s2
    split
    · exact h1.reply
    · exact h1
  exact .ite h2.setPair h2

theorem Steady.restoreLife (h : Steady s x) : Steady s x.restoreLife := by
  unfold State.restoreLife
  extract_lets a slots best base later s1 s2 s3 s4 s5 s6
  have h1 : Steady s s1 := h.each fun ht => .ite ht.lifePut ht
  have h2 : Steady s s2 := h1.each fun ht => ht.each fun hu => hu.lifeAdd
  have h3 : Steady s s3 := h2.onLife
  have h4 : Steady s s4 := h3.set
  have h5 : Steady s s5 := h4.setFlag
  have h6 : Steady s s6 := h5.count
  exact h6.lifeAdd.event

theorem Steady.restoreStage {v} (h : Steady s x) : Steady s (x.restoreStage v) := by
  unfold State.restoreStage
  extract_lets s1 s2 s3
  have h1 : Steady s s1 := h.setFlag
  have h2 : Steady s s2 := .ite h1 h1.restoreLife
  have h3 : Steady s s3 := h2.enableUnit
  split
  · exact h3.set.set.onFabric
  · exact h3.set.set

theorem Steady.bootSweep {v} (h : Steady s x) : Steady s (x.bootSweep v) := by
  unfold State.bootSweep
  extract_lets s1 s2 bad s3 s4
  have h1 : Steady s s1 := h.zeroRange
  have h2 : Steady s s2 := h1.each fun ht => .ite ht.set.count.lifeAdd ht.set.count.lifeAdd.event
  have h3 : Steady s s3 := h2.each fun ht => ht.set.event
  have h4 : Steady s s4 := .ite h3 h3.set
  exact h4.girthEccSource

theorem Steady.girthStage {v} (h : Steady s x) : Steady s (x.girthStage v) := (Steady.ite h h.bootSweep).enableUnit

theorem Steady.setUpDram {d} (h : Steady s x) : Steady s (x.setUpDram d).1 := by
  unfold State.setUpDram
  extract_lets c p s1 s2 s3 good s4 s5
  have h1 : Steady s s1 := h.set.set.set
  have h2 : Steady s s2 := h1.set
  have h3 : Steady s s3 := h2.populate.enableUnit
  have h4 : Steady s s4 := h3.set.set.set
  have h5 : Steady s s5 := h4.each fun ht => ht.setRankState
  split
  extract_lets s6 s7 s8
  have h6 : Steady s s6 := h5.each fun ht => ht.mapRank.setRankState
  have h7 : Steady s s7 := h6.each fun ht => ht.addSpare
  exact .ite h7.set h7

theorem Steady.writeMap {size0 size1 intlv} (h : Steady s x) : Steady s (x.writeMap size0 size1 intlv) :=
  h.set.set.set

theorem Steady.dramStage {v} (h : Steady s x) : Steady s (x.dramStage v) := by
  unfold State.dramStage
  refine .ite h (.ite (h.each fun ht => ht.enableUnit).writeMap ?_)
  extract_lets run
  have hrun : ∀ {t a1}, Steady s t → Steady s (run t a1).1 := by
    intro t a1 ht
    unfold run
    split
    · exact .ite_fst ht.setUpDram ht
    · exact ht
  exact (hrun (hrun h)).writeMap

theorem Steady.setUpMac {v n} (h : Steady s x) : Steady s (x.setUpMac v n) :=
  ((h.each fun ht => ht.setRing).each fun ht => ht.set.set).enableUnit

theorem Steady.setUpLane {v n} (h : Steady s x) : Steady s (x.setUpLane v n) := by
  unfold State.setUpLane
  extract_lets p s1 s2
  have h1 : Steady s s1 := h.set
  have h2 : Steady s s2 := by
    unfold s2
    split
    · exact .ite h1 (.ite h1.set h1.set.set)
    · exact h1
  exact h2.set.set.enableUnit

theorem Steady.unitsStage {v} (h : Steady s x) : Steady s (x.unitsStage v) :=
  ((h.each fun ht => ht.enableUnit).each fun ht => ht.setUpMac).each fun ht => ht.setUpLane

theorem Steady.readyStage (h : Steady s x) : Steady s x.readyStage := h.with_cinch.set.event

theorem execBringupStageEnd_meets {v} : Meets true s (execBringupStageEnd v s) :=
  .next fun h => .ite h (.ite (h.whenHolds fun ht => ht.romEnds.nextStage)
    (h.whenHolds fun ht => .ite ht.restoreStage.nextStage (.ite ht.girthStage.nextStage
    (.ite ht.dramStage.nextStage (.ite ht.unitsStage.nextStage ht.readyStage)))))

theorem execWdogKick_meets {m v} : Meets true s (execWdogKick m v s) :=
  .next fun h => h.writeTo fun ht => .ite ht.onCtrl ht.count.event

theorem Steady.pokeFree {a n} (h : Steady s x) : Steady s (x.pokeFree a n) := h.with_freeCtr.pokeBytes

theorem Steady.loseLong {l} (h : Steady s x) : Steady s (x.loseLong l) := by
  unfold State.loseLong
  extract_lets op s1
  have h1 : Steady s s1 := by
    unfold s1
    split
    · exact h.pokeFree
    · exact h
  exact .ite h.onFabric.longEnd (.ite h.onMix.set.longEnd (.ite (h.each fun ht => ht.onDram.set.longEnd.endWaiting)
    (.ite h.longEnd (.ite h1.onLife.longEnd (.ite h.onCtrl.longEnd h)))))

theorem Steady.coresStop (h : Steady s x) : Steady s x.coresStop := by
  unfold State.coresStop
  extract_lets s1 s2 s3 s4 s5
  have h1 : Steady s s1 := h.each fun ht => ht.loseLong
  have h2 : Steady s s2 := h1.onCtrl
  have h3 : Steady s s3 := h2.set.set
  have h4 : Steady s s4 := h3.set.set
  have h5 : Steady s s5 := h4.set.set
  exact h5.set.each fun ht => ht.resetMaster

theorem execWatchdogExpiry_meets : Meets true s (execWatchdogExpiry s) :=
  .next fun h => h.whenHolds fun ht => ht.reach.count.event.coresStop.setFw.raise

theorem Steady.answerLost (h : Steady s x) : Steady s x.answerLost := by
  unfold State.answerLost
  extract_lets s1 lost
  have h1 : Steady s s1 := by
    unfold s1
    split
    · exact h.reply
    · exact h
  exact h1.onCtrl.each fun ht => ht.queueDone

theorem execRestarted_meets {b} : Meets true s (execRestarted b s) :=
  .next fun h => h.whenHolds fun ht => .ite ht.bootFrom.reachRun.event.lower.onKeeper.answerLost ht.bootFrom

theorem Steady.cutShort {p} (h : Steady s x) : Steady s (x.cutShort p) := by
  unfold State.cutShort
  split
  · split
    · exact h.restoreRegion.endTest
    · exact h
  · exact h.onDram
  · exact h

theorem Steady.softPage {p} (h : Steady s x) : Steady s (x.softPage p) :=
  .ite (Steady.ite h h.killUnit.cutShort).onCtrl.resetUnit h

theorem Steady.softMix (h : Steady s x) : Steady s x.softMix := h.resetPage.with_mix

theorem Steady.endTransactions (h : Steady s x) : Steady s x.endTransactions := by
  unfold State.endTransactions
  exact h.abortPorts.onHarness.onGirth

theorem Steady.softHarness (h : Steady s x) : Steady s x.softHarness := h.onCtrl.set.set.set.writeMap

theorem Steady.softKeeper (h : Steady s x) : Steady s x.softKeeper :=
  .ite h.dropActOut.resetPage.onKeeper.setPair h.dropActOut.resetPage.onKeeper

theorem Steady.softReset {b} (h : Steady s x) : Steady s (x.softReset b) := by
  unfold State.softReset
  extract_lets s1 s2 s3 s4 _ s5 s6
  have h1 : Steady s s1 := (h.endTransactions.each fun ht => ht.softPage).softMix
  have h2 : Steady s s2 := h1.coresStop.softHarness.softKeeper
  have h3 : Steady s s3 := h2.setFw.resetPage
  have h4 : Steady s s4 := h3.set
  have h5 : Steady s s5 := h4.with_cinch
  have h6 : Steady s s6 := h5.answerLost
  exact h6.onCtrl.boot

theorem execSoftReset_meets {m b} : Meets true s (execSoftReset m b s) :=
  .next fun h => h.whenHolds fun ht => ht.softReset

theorem execLevel4Reset_meets {b} : Meets true s (execLevel4Reset b s) :=
  .next fun h => h.whenHolds fun ht => ht.reach.softReset

theorem execFwUpdate_meets {tag addr len} : Meets true s (execFwUpdate tag addr len s) :=
  .next fun h => h.mailbox fun ht => .ite ht.reply (.ite ht.reply ht.onCtrl.accept)

theorem execFwUpdateDone_meets {v} : Meets true s (execFwUpdateDone v s) := by
  unfold execFwUpdateDone
  refine .next fun h => ?_
  split
  · exact h
  · split
    · exact h.onCtrl.set.finish
    · exact h.finish
    · exact h.finish
    · exact h.finish

theorem execFwUpdateBootTimeout_meets {b} : Meets true s (execFwUpdateBootTimeout b s) := by
  unfold execFwUpdateBootTimeout
  refine .next fun h => ?_
  split
  · exact .ite h h.reach.onCtrl.bootFail.bootFrom
  · exact h

theorem execPcieLinkReset_meets : Meets true s (execPcieLinkReset s) :=
  .next fun h => (h.onCtrl.each fun ht => ht.unlockRx).resetMaster.raise

theorem Steady.pcieLaneUp {rate width ppm n} (h : Steady s x) : Steady s (x.pcieLaneUp rate width ppm n) := by
  unfold State.pcieLaneUp
  extract_lets p on s1 s2 s3
  have h1 : Steady s s1 := h.setFlag.setFlag
  have h2 : Steady s s2 := .ite h1.setLaneState.updateTest h1
  have h3 : Steady s s3 := h2.set
  exact .ite (.ite h3.lockRx h3.unlockRx) h1.set.sleepLane

theorem execPcieLinkUp_meets {rate width ppm} :
    Meets (decide (width = 1) || decide (width = 2) || decide (width = 4)) s (execPcieLinkUp s rate width ppm) :=
  .of fun h => (h.onCtrl.each fun ht => ht.pcieLaneUp).lower

/-! ### Write -/

theorem Steady.after {ok o} (h : Steady s x) (ho : Meets ok x o) : Steady s (x.after o) := by
  obtain ⟨u, rfl, hu⟩ := ho
  cases ok with
  | false => exact h
  | true => exact h.trans hu

theorem Steady.writeField {p i v f} (h : Steady s x) : Steady s (x.writeField p i v f) := by
  unfold State.writeField
  split
  · exact h.set
  · exact .ite h h.set
  · exact h.set
  · exact h.set
  · exact h.set
  · exact h
  · exact h

theorem Steady.writePlain {p off v} (h : Steady s x) : Steady s (x.writePlain p off v) :=
  h.each fun ht => ht.writeField

theorem Steady.writeIf {ok p f v i} (h : Steady s x) : Steady s (x.writeIf ok p f v i) := .ite h.writeField h

theorem Steady.clearOffs {p offs} (h : Steady s x) : Steady s (x.clearOffs p offs) :=
  h.each fun ht => ht.each fun hu => hu.set

theorem Steady.doorbell (h : Steady s x) : Steady s x.doorbell :=
  .ite (h.mailbox fun ht => .ite ht.mbxHeld ht.reply) h.reply

theorem Steady.writeHost {m off v} (h : Steady s x) : Steady s (x.writeHost m off v) := by
  unfold State.writeHost
  extract_lets p
  exact .ite (h.after execWinBaseHiWrite_meets) (.ite (.ite h.set (.ite (.ite h.doorbell h) h.onCtrl)) h.writePlain)

theorem Steady.writeHarness {m off v} (h : Steady s x) : Steady s (x.writeHarness m off v) := by
  unfold State.writeHarness
  extract_lets p s1
  have h1 : Steady s s1 := h.clearOffs
  exact .ite (h.after execRemapWrite_meets) (.ite (h.after execDramMapWrite_meets)
    (.ite (.ite h h.writePlain) (.ite (h1.each fun ht => ht.lower) h.writePlain)))

theorem Steady.acknowledge {k v} (h : Steady s x) : Steady s (x.acknowledge k v) := h.each fun ht => ht.setCinchSrc

theorem Steady.writeCinch {m off v} (h : Steady s x) : Steady s (x.writeCinch m off v) := by
  unfold State.writeCinch
  extract_lets p s1
  have h1 : Steady s s1 := .ite (h.after execReactClr_meets) h
  exact .ite (h.after execSrcCfgWrite_meets) (.ite (.ite (h1.after execLatchedClear_meets) h1)
    (.ite h.acknowledge (.ite h.clearOffs (.ite (.ite h.writePlain h) h.writePlain))))

theorem Steady.writeKeeper {m off v} (h : Steady s x) : Steady s (x.writeKeeper m off v) := by
  unfold State.writeKeeper
  extract_lets p
  exact .ite (h.after execKeeperCfgWrite_meets) (.ite (.ite (h.after execHandoverReq_meets) h)
    (.ite h.writeIf h.writePlain))

theorem Steady.writeLife {m off v} (h : Steady s x) : Steady s (x.writeLife m off v) := by
  unfold State.writeLife
  extract_lets p
  exact .ite (.ite (h.after execRecNow_meets) h) (.ite (.ite h.writePlain.lifeMargin h) h.writePlain)

theorem Steady.writeRein {m off v} (h : Steady s x) : Steady s (x.writeRein m off v) := by
  unfold State.writeRein
  extract_lets p n
  exact .ite (h.after execSelCtrlWrite_meets) (.ite h.writeDpll0
    (.ite h.writeCheckCfg (.ite h.writeCheckTime (.ite (h.after execMclkCfgWrite_meets)
    (.ite h.writeFpCtrl (.ite h.writeDpll1 (.ite (.ite h.writeFpCfg (.ite h.writeIf h)) h.writePlain)))))))

theorem Steady.writeTime {m off v} (h : Steady s x) : Steady s (x.writeTime m off v) := by
  unfold State.writeTime
  extract_lets p n o
  exact .ite (.ite (h.after execCapture_meets) h) (.ite (h.after (State.timeWrite_meets fun ht => ht.writeField))
    (.ite (h.after execIncFracWrite_meets) (.ite (h.after execSetGo_meets)
    (.ite (h.after execStepWrite_meets) (.ite (h.after execSlewNsWrite_meets)
    (.ite h.writeIf h.writePlain))))))

theorem Steady.writeMacCfg {n v} (h : Steady s x) : Steady s (x.writeMacCfg n v) :=
  (h.each fun ht => ht.writeField).writeIf.writeIf.pauseUpdate

theorem Steady.writePreempt {n v} (h : Steady s x) : Steady s (x.writePreempt n v) :=
  .ite h.writeField.writeField.writeIf h.writeField.writeField.writeIf.set.schedule

theorem Steady.writeRing {m n off v} (h : Steady s x) : Steady s (x.writeRing m n off v) := by
  unfold State.writeRing
  extract_lets p r rest s1 s2 s3 s4
  have h1 : Steady s s1 := h.writeField
  have h2 : Steady s s2 := h1.writeIf
  have h3 : Steady s s3 := h2.writeIf
  have h4 : Steady s s4 := h.writePlain
  exact .ite (h.after execRxrConsWrite_meets) (.ite (Steady.ite h1 h3).pauseUpdate (.ite (.ite h h4) h))

theorem Steady.writeQueue {m n off v} (h : Steady s x) : Steady s (x.writeQueue m n off v) := by
  unfold State.writeQueue
  extract_lets p q empty s1
  have h1 : Steady s s1 := h.writeField
  exact .ite h (.ite (h.after execTxqProdWrite_meets) (.ite (.ite (h1.after execHaltedClear_meets) h1)
    (.ite (.ite h.writePlain h) (.ite h.writeIf (.ite (h.setPolice fun ht => ht.writeIf)
    (.ite (h.setPolice fun ht => ht.writeIf) h))))))

theorem Steady.writeMac {m n off v} (h : Steady s x) : Steady s (x.writeMac m n off v) := by
  unfold State.writeMac
  extract_lets p
  exact .ite h.writeMacCfg (.ite h.writePreempt (.ite (.ite h.writePlain.pauseUpdate h)
    (.ite h.writeRing (.ite h.writeQueue h.writePlain))))

theorem Steady.writeLane {m n off v} (h : Steady s x) : Steady s (x.writeLane m n off v) := by
  unfold State.writeLane
  extract_lets p s1
  have h1 : Steady s s1 := h.writeLaneCfg
  exact .ite (.ite (h1.after execLaneRestart_meets) h1) (.ite (.ite h h.writePlain)
    (.ite (h.after execLbModeWrite_meets) (.ite (h.after execSleepWrite_meets)
    (.ite (h.after execPrbsCtrlWrite_meets) (.ite (.ite h h.writePlain) h.writePlain)))))

theorem Steady.writeRankCmd {m c v} (h : Steady s x) : Steady s (x.writeRankCmd m c v) := by
  unfold State.writeRankCmd
  extract_lets r
  refine .ite h ?_
  split
  · exact h.after execRankCmdService_meets
  · exact h.after execRankCmdSpare_meets
  · exact h.after execRankCmdRetire_meets
  · exact h.after execRankCmdTest_meets
  · exact h.after execRankCmdReturn_meets
  · exact h.event

theorem Steady.writeRefCfg {c v} (h : Steady s x) : Steady s (x.writeRefCfg c v) :=
  h.writeField.writeField.writeField.writeIf.each fun ht => ht.crossThreshold

theorem Steady.writeDelayVal {c v} (h : Steady s x) : Steady s (x.writeDelayVal c v) :=
  .ite h.event (.ite (h.each fun ht => ht.set) h)

theorem Steady.writeTrnResult {p v} (h : Steady s x) : Steady s (x.writeTrnResult p v) := h.each fun ht => ht.set

theorem Steady.writeDram {m c off v} (h : Steady s x) : Steady s (x.writeDram m c off v) := by
  unfold State.writeDram
  extract_lets p
  exact .ite (h.after execDramCfgWrite_meets) (.ite h.writeRankCmd
    (.ite h.writeRefCfg (.ite h.writeIf.writeField (.ite (h.after execFreqChange_meets)
    (.ite (.ite h.event h.writePlain) (.ite (h.after execTrnGo_meets)
    (.ite (.ite (h.after execTrnStepAdvance_meets) h.writeField.set)
    (.ite h.writeDelayVal (.ite (h.after execMrGo_meets) (.ite h.clearOffs
    (.ite (.ite h.writeTrnResult h) h.writePlain)))))))))))

theorem Steady.writeGirth {m off v} (h : Steady s x) : Steady s (x.writeGirth m off v) := by
  unfold State.writeGirth
  extract_lets p
  exact .ite h (.ite (h.after execVaultMapWrite_meets) (.ite (h.after execVaultMapWrite_meets)
    (.ite (h.after execRetCtrlWrite_meets) (.ite h.clearOffs.girthEccSource h.writePlain))))

theorem Steady.writeAwl {m t off v} (h : Steady s x) : Steady s (x.writeAwl m t off v) := by
  unfold State.writeAwl
  extract_lets p s1
  have h1 : Steady s s1 := .ite (h.after execStickyClrAov_meets) h
  exact .ite (.ite (h1.after execStickyClrSat_meets) h1) (.ite h.clearOffs
    (.ite (h.after execDbgDataWrite_meets) h.writePlain))

theorem Steady.writeDomCfg {d v} (h : Steady s x) : Steady s (x.writeDomCfg d v) := h.writeField.writeFence
theorem Steady.writeMarginCtrl {v} (h : Steady s x) : Steady s (x.writeMarginCtrl v) := .ite h h.writePlain.set

theorem Steady.writeFabric {m off v} (h : Steady s x) : Steady s (x.writeFabric m off v) := by
  unfold State.writeFabric
  extract_lets p s1
  have h1 : Steady s s1 := h.writeIf
  exact .ite h.writeDomCfg (.ite h.writeMarginCtrl (.ite h1.writeIf
    (.ite (.ite (h.after execBackoffClr_meets) h) h.writePlain)))

theorem Steady.writeRamp {v f} (h : Steady s x) : Steady s (x.writeRamp v f) := h.writeIf

theorem Steady.writeMix {m off v} (h : Steady s x) : Steady s (x.writeMix m off v) := by
  unfold State.writeMix
  extract_lets p
  exact .ite (h.each fun ht => ht.writeRamp) (.ite h.submitDirect
    (.ite (h.after execCommitCancel_meets) (.ite h.writeIf
    (.ite h.writePlain (.ite (.ite (h.after execSnapReq_meets) h) h.writePlain)))))

theorem Steady.writeFlow {m n off v} (h : Steady s x) : Steady s (x.writeFlow m n off v) := by
  unfold State.writeFlow
  extract_lets p
  exact .ite (h.after execCtxDelayWrite_meets) (.ite (h.after execGrpDelayWrite_meets)
    (.ite h.writeIf h.writePlain))

theorem Steady.writeLoopCtrl {m n v} (h : Steady s x) : Steady s (x.writeLoopCtrl m n v) := by
  unfold State.writeLoopCtrl
  extract_lets p s1 s2 s3
  have h1 : Steady s s1 := h.each fun ht => ht.writeField
  have h2 : Steady s s2 := .ite (h1.after execLatchClr_meets) h1
  have h3 : Steady s s3 := .ite (h2.after execBaselineCap_meets) h2
  exact .ite (h3.after execAvoidApply_meets) h3

theorem Steady.writeStirrup {m n off v} (h : Steady s x) : Steady s (x.writeStirrup m n off v) := by
  unfold State.writeStirrup
  extract_lets p governed s1
  have h1 : Steady s s1 := h.writeField.writeField
  exact .ite h.writeLoopCtrl (.ite (.ite h h.writePlain) (.ite (.ite h h.writePlain)
    (.ite h1.writeIf (.ite (Steady.ite h h.writePlain).advanceAvoid h.writePlain))))

theorem Steady.writeCtrlWord {p v} (h : Steady s x) : Steady s (x.writeCtrlWord p v) :=
  .ite h (.ite h.srstUnit (.ite h.killUnit (.ite h.enableUnit h.drainUnit)))

theorem Steady.writeBlock {m p off v} (h : Steady s x) : Steady s (x.writeBlock m p off v) := by
  unfold State.writeBlock
  split
  · exact h.writeLife
  · exact h.writeRein
  · exact h.writeTime
  · exact h.writeGirth
  · exact h.writeFabric
  · exact h.writeMix
  · exact h.writeMac
  · exact h.writeLane
  · exact h.writeDram
  · exact h.writeAwl
  · exact h.writeFlow
  · exact h.writePlain
  · exact h.writeStirrup
  · exact .ite h.writeHost (.ite (.ite (h.after execWdogKick_meets) h.writePlain)
      (.ite h.writeHarness (.ite h.writeCinch (.ite h.writeKeeper h.writeLane))))

theorem Steady.writePage {m p off v} (h : Steady s x) : Steady s (x.writePage m p off v) :=
  .ite h.writeCtrlWord (.ite h.writeEvents (.ite h.writeEvents
    (.ite h.events (.ite h.writePlain (.ite h.writeBlock h)))))

theorem Steady.writeReg {m off v} (h : Steady s x) : Steady s (x.writeReg m off v) :=
  .ite h.lockWrite (h.writeTo fun ht => ht.writePage)

/-! ### Access -/

theorem execAbsentPageAccess_meets {m write off} : Meets (bar0Word off) s (execAbsentPageAccess m write off s) :=
  .of fun h => h.whenHolds fun ht => ht.absentHit.answer

theorem Steady.readWords {m off n} (h : Steady s x) : Steady s (x.readWords m off n).1 := by
  induction n generalizing x off with
  | zero => exact h
  | succ n ih => exact ih h.readReg

theorem unitOf_awl {p t : Nat} (h : unitOf p = .awl t) : p - 0x100 < 256 := by
  grind [unitOf, inRange]

/-- Only a tile's page makes a read wait (R124). -/
theorem State.readWaits_tile {off} (h : s.readWaits off = true) : off / 4096 - 0x100 < 256 := by
  unfold State.readWaits at h
  split at h
  · exact unitOf_awl ‹_›
  · cases h

theorem execLoRead_meets {m off wide} :
    Meets (bar0Word off && (!wide || decide (off % 8 = 0))) s (execLoRead m off s wide) := by
  refine .guard fun ok => ?_
  extract_lets t
  refine .ite (fun hw => .ite (fun hr => ?_) fun _ => ?_) fun _ => .ite (fun hr => ?_) fun _ => ?_
  · have ht : t < 256 := by
      have hd : (off + 4) / 4096 = off / 4096 := by
        simp only [hw, bar0Word, Bool.and_eq_true, Bool.not_true, Bool.false_or, decide_eq_true_eq] at ok
        omega
      have := State.readWaits_tile hr
      rwa [hd] at this
    exact .trans (Steady.refl s).readReg (execDbgDataRead_meets.holds (decide_eq_true ht))
  · exact .next fun h => h.readWords.answer
  · exact execDbgDataRead_meets.holds (decide_eq_true (State.readWaits_tile hr))
  · exact .next fun h => h.readReg.answer

theorem execBadAccess_meets {write off size} :
    Meets (decide (off < bar0Size) && !bar0Accepts off size) s (execBadAccess write off size s) :=
  .of fun h => h.count.event.answer

theorem execNonBarRequest_meets {write addr} : Meets true s (execNonBarRequest write addr s) :=
  .next fun h => h.answer

theorem execRegisterWrite_meets {m off v upper} :
    Meets (bar0Word off && (upper.isNone || decide (off % 8 = 0))) s (execRegisterWrite m off v s upper) := by
  unfold execRegisterWrite
  refine .of fun h => ?_
  extract_lets s1
  have h1 : Steady s s1 := h.writeReg
  split
  · exact h1.writeReg
  · exact h1

theorem Steady.servePages {r} (h : Steady s x) : Steady s (x.servePages r) :=
  (h.each fun ht => .ite ht.writeReg ht.readReg.portTxn).with_lastResp

theorem Steady.serve {port r ecc} (h : Steady s x) : Steady s (x.serve port r ecc) :=
  .ite h.serveGirth (.ite h.serveDram (.ite h.servePages h.serveLocal))

theorem execHarnessGrant_meets {port ecc} : Meets (decide (port ≤ Port.sram)) s (execHarnessGrant port ecc s) := by
  unfold execHarnessGrant
  refine .of fun h => h.whenHolds fun ht => ?_
  split
  · exact ht
  · exact .ite ht ht.grant.serve

/-! ### AwlOps -/

theorem Steady.accumulatorClamped {t} (h : Steady s x) : Steady s (x.accumulatorClamped t) :=
  h.count.event.tileLife.raise

theorem Steady.storeSaturated {t} (h : Steady s x) : Steady s (x.storeSaturated t) := h.count.event
theorem Steady.huOver {t before after} (h : Steady s x) : Steady s (x.huOver t before after) := .ite h.event h

theorem Steady.retire {t i} (h : Steady s x) : Steady s (x.retire t i) := by
  unfold State.retire
  extract_lets x' _ s1 s2 s3
  have h1 : Steady s s1 := h.setTile
  have h2 : Steady s s2 := h1.huOver
  have h3 : Steady s s3 := .ite h2.accumulatorClamped h2
  exact .ite h3.storeSaturated h3

theorem Steady.issueResult {t i} (h : Steady s x) : Steady s (x.issueResult t i) := by
  unfold State.issueResult
  split
  · exact h.tileFault
  · exact h.retire

theorem State.issue_meets {t f} : Meets (decide (t < 256)) s (s.issue t f) :=
  .of fun h => h.whenHolds fun ht => ht.issueResult

theorem State.issueReg_meets {t f} : Meets (decide (t < 256)) s (s.issueReg t f) := State.issue_meets

theorem State.issueForm_meets {t reserved f} : Meets (decide (t < 256)) s (s.issueForm t reserved f) :=
  State.issue_meets

/-! ### AwlAlu -/

theorem State.alu_meets {t gd ga gb f fl} : Meets (decide (t < 256)) s (s.alu t gd ga gb f fl) :=
  State.issueReg_meets

theorem execAdd_meets {t gd ga gb} : Meets (decide (t < 256)) s (execAdd t gd ga gb s) := State.alu_meets
theorem execSub_meets {t gd ga gb} : Meets (decide (t < 256)) s (execSub t gd ga gb s) := State.alu_meets
theorem execAnd_meets {t gd ga gb} : Meets (decide (t < 256)) s (execAnd t gd ga gb s) := State.alu_meets
theorem execOr_meets {t gd ga gb} : Meets (decide (t < 256)) s (execOr t gd ga gb s) := State.alu_meets
theorem execXor_meets {t gd ga gb} : Meets (decide (t < 256)) s (execXor t gd ga gb s) := State.alu_meets

theorem execShl_meets {t gd ga gb imm} : Meets (decide (t < 256)) s (execShl t gd ga gb imm s) :=
  State.issueReg_meets

theorem execShr_meets {t gd ga gb imm} : Meets (decide (t < 256)) s (execShr t gd ga gb imm s) :=
  State.issueReg_meets

theorem execAsr_meets {t gd ga gb imm} : Meets (decide (t < 256)) s (execAsr t gd ga gb imm s) :=
  State.issueReg_meets

theorem State.choose_meets {t gd ga gb first} : Meets (decide (t < 256)) s (s.choose t gd ga gb first) :=
  State.issueReg_meets

theorem execMin_meets {t gd ga gb} : Meets (decide (t < 256)) s (execMin t gd ga gb s) := State.choose_meets
theorem execMax_meets {t gd ga gb} : Meets (decide (t < 256)) s (execMax t gd ga gb s) := State.choose_meets
theorem execAbs_meets {t gd ga} : Meets (decide (t < 256)) s (execAbs t gd ga s) := State.issueReg_meets
theorem execNeg_meets {t gd ga} : Meets (decide (t < 256)) s (execNeg t gd ga s) := State.issueReg_meets
theorem execCmp_meets {t ga gb} : Meets (decide (t < 256)) s (execCmp t ga gb s) := State.issueReg_meets
theorem execAddi_meets {t gd ga imm} : Meets (decide (t < 256)) s (execAddi t gd ga imm s) := State.issueReg_meets
theorem execLi_meets {t gd mode imm} : Meets (decide (t < 256)) s (execLi t gd mode imm s) := State.issueForm_meets
theorem execLui_meets {t gd imm} : Meets (decide (t < 256)) s (execLui t gd imm s) := State.issueReg_meets
theorem execCmpi_meets {t ga imm} : Meets (decide (t < 256)) s (execCmpi t ga imm s) := State.issueReg_meets

/-! ### AwlControl -/

theorem execNop_meets {t w} : Meets (decide (t < 256) && (w == 0 || (Awl.decodeOp t w).isNone)) s (execNop t w s) :=
  .within State.issueForm_meets

theorem execWaitb_meets {t done} : Meets (decide (t < 256)) s (execWaitb t done s) :=
  .of fun h => h.whenHolds fun ht => .ite ht.tileFault ht.setTile.completePass

theorem execRpt_meets {t r count gc} : Meets (decide (t < 256)) s (execRpt t r count gc s) := State.issue_meets

theorem execRptb_meets {t r endOfs count gc} : Meets (decide (t < 256)) s (execRptb t r endOfs count gc s) :=
  State.issue_meets

theorem execBr_meets {t ind target gs} : Meets (decide (t < 256)) s (execBr t ind target gs s) := State.issue_meets
theorem execBrc_meets {t cond target} : Meets (decide (t < 256)) s (execBrc t cond target s) := State.issue_meets

theorem execCall_meets {t ind target gs} : Meets (decide (t < 256)) s (execCall t ind target gs s) :=
  State.issue_meets

theorem execRet_meets {t} : Meets (decide (t < 256)) s (execRet t s) := State.issue_meets

theorem execFence_meets {t gd sel age} :
    Meets (decide (t < 256) && decide (age ≤ 2)) s (execFence t gd sel age s) :=
  .within State.issue_meets

/-! ### AwlMac -/

theorem State.issueAcc_meets {t reserved f} : Meets (decide (t < 256)) s (s.issueAcc t reserved f) :=
  State.issue_meets

theorem execMpy_meets {t k ga gb} : Meets (decide (t < 256)) s (execMpy t k ga gb s) := State.issueAcc_meets
theorem execMac_meets {t k ga gb} : Meets (decide (t < 256)) s (execMac t k ga gb s) := State.issueAcc_meets
theorem execMsu_meets {t k ga gb} : Meets (decide (t < 256)) s (execMsu t k ga gb s) := State.issueAcc_meets

theorem execMacxy_meets {t k mx px my py} : Meets (decide (t < 256)) s (execMacxy t k mx px my py s) :=
  State.issue_meets

theorem execTapm_meets {t k mx px my py} : Meets (decide (t < 256)) s (execTapm t k mx px my py s) :=
  State.issue_meets

theorem execSacc_meets {t k dst pm pn gd shift} : Meets (decide (t < 256)) s (execSacc t k dst pm pn gd shift s) :=
  State.issue_meets

theorem execClra_meets {t k all} : Meets (decide (t < 256)) s (execClra t k all s) := State.issueAcc_meets

theorem execMova_meets {t mode ad as g word} : Meets (decide (t < 256)) s (execMova t mode ad as g word s) :=
  State.issueAcc_meets

theorem execSha_meets {t k n} : Meets (decide (t < 256)) s (execSha t k n s) := State.issueAcc_meets
theorem execAdda_meets {t ad as} : Meets (decide (t < 256)) s (execAdda t ad as s) := State.issueAcc_meets
theorem execSkv_meets {t k pm pn gf} : Meets (decide (t < 256)) s (execSkv t k pm pn gf s) := State.issue_meets
theorem execBiq_meets {t k ps pc gx} : Meets (decide (t < 256)) s (execBiq t k ps pc gx s) := State.issue_meets

theorem execGramp_meets {t k gx mg pg mt pt acc} :
    Meets (decide (t < 256)) s (execGramp t k gx mg pg mt pt acc s) :=
  State.issue_meets

theorem execPeak_meets {t k sq pm pn gx} : Meets (decide (t < 256)) s (execPeak t k sq pm pn gx s) :=
  State.issue_meets

theorem execSilchk_meets {t gd pm ps gx} : Meets (decide (t < 256)) s (execSilchk t gd pm ps gx s) :=
  State.issue_meets

/-! ### AwlMemory -/

theorem execLd_meets {t am pn g d} : Meets (decide (t < 256)) s (execLd t am pn g d s) := State.issue_meets
theorem execSt_meets {t am pn g d} : Meets (decide (t < 256)) s (execSt t am pn g d s) := State.issue_meets
theorem execLdx_meets {t am pn g d} : Meets (decide (t < 256)) s (execLdx t am pn g d s) := State.issue_meets
theorem execLdy_meets {t am pn g d} : Meets (decide (t < 256)) s (execLdy t am pn g d s) := State.issue_meets

theorem execLdxy_meets {t mx px ga my py gb} : Meets (decide (t < 256)) s (execLdxy t mx px ga my py gb s) :=
  State.issue_meets

theorem execInp_meets {t pn r gc ch} : Meets (decide (t < 256)) s (execInp t pn r gc ch s) := State.issue_meets
theorem execOutp_meets {t pn r gc ch} : Meets (decide (t < 256)) s (execOutp t pn r gc ch s) := State.issue_meets

theorem execParm_meets {t gd bank r gs slot} : Meets (decide (t < 256)) s (execParm t gd bank r gs slot s) :=
  State.issue_meets

theorem execSetp_meets {t n mode imm} : Meets (decide (t < 256) && decide (mode ≠ 2)) s (execSetp t n mode imm s) :=
  .within State.issueForm_meets

theorem execGetp_meets {t n gd} : Meets (decide (t < 256)) s (execGetp t n gd s) := State.issueReg_meets

theorem execSetm_meets {t n mode imm} : Meets (decide (t < 256) && decide (mode ≠ 2)) s (execSetm t n mode imm s) :=
  .within State.issueForm_meets

theorem execGetm_meets {t n gd} : Meets (decide (t < 256)) s (execGetm t n gd s) := State.issueReg_meets

theorem execSetl_meets {t n mode imm} : Meets (decide (t < 256) && decide (mode ≠ 2)) s (execSetl t n mode imm s) :=
  .within State.issueForm_meets

theorem execGetl_meets {t n gd} : Meets (decide (t < 256)) s (execGetl t n gd s) := State.issueReg_meets
theorem execAddp_meets {t pd ps imm} : Meets (decide (t < 256)) s (execAddp t pd ps imm s) := State.issueReg_meets

/-- What every command does: it faults where its operands lie outside the block, and else runs to a next state of the
same part, with memory in canonical form where it was. -/
theorem exec_meets : ∀ (c : Instr) (s : State), Meets c.wellFormed s (exec c s)
  | .powerOnReset _, _ => execPowerOnReset_meets
  | .resetNFall, _ => execResetNFall_meets
  | .resetNRelease _ _, _ => execResetNRelease_meets
  | .bringupStageEnd _, _ => execBringupStageEnd_meets
  | .fwUpdateBootTimeout _, _ => execFwUpdateBootTimeout_meets
  | .wdogKick _ _, _ => execWdogKick_meets
  | .watchdogExpiry, _ => execWatchdogExpiry_meets
  | .restarted _, _ => execRestarted_meets
  | .softReset _ _, _ => execSoftReset_meets
  | .absentPageAccess m _ _, _ => execAbsentPageAccess_meets (m := m)
  | .loRead _ _ _, _ => execLoRead_meets
  | .badAccess write _ _, _ => execBadAccess_meets (write := write)
  | .nonBarRequest write addr, _ => execNonBarRequest_meets (write := write) (addr := addr)
  | .bar2Access _ _ _ _ _, _ => execBar2Access_meets
  | .winBaseHiWrite _ _, _ => execWinBaseHiWrite_meets
  | .pgEvtWrite _ _ _ _, _ => execPgEvtWrite_meets
  | .pgEvtForce _ _ _, _ => execPgEvtForce_meets
  | .msixUnmask off _ _, _ => by
    rw [show (Instr.msixUnmask off _ _).wellFormed = (decide (off < 0x10000) && decide (off % 4 = 0)) from
      Bool.decide_and ..]
    exact execMsixUnmask_meets
  | .enSet _ _, _ => execEnSet_meets
  | .drain _ _, _ => execDrain_meets
  | .kill _ _, _ => execKill_meets
  | .srst _ _, _ => execSrst_meets
  | .quiesced _, _ => execQuiesced_meets
  | .pgLockLock _ _, _ => execPgLockLock_meets
  | .pgLockUnlockKey _ _ _, _ => execPgLockUnlockKey_meets
  | .pgLifeDataRead m _, _ => execPgLifeDataRead_meets (m := m)
  | .registerWrite _ _ _ _, _ => execRegisterWrite_meets
  | .overrun _ _ v, _ => execOverrun_meets (v := v)
  | .badOpcode _ _, _ => execBadOpcode_meets
  | .planLoad _ _ _ _, _ => execPlanLoad_meets
  | .planLoadDone _, _ => execPlanLoadDone_meets
  | .planAdmit _ _, _ => execPlanAdmit_meets
  | .commitAtScene _ _ _ _, _ => execCommitAtScene_meets
  | .commitAtPlanSwap _ _ _ _, _ => execCommitAtPlanSwap_meets
  | .commitAtRefSwitch _ _ _ _, _ => execCommitAtRefSwitch_meets
  | .commitAtHandover _ _ _ _, _ => execCommitAtHandover_meets
  | .sceneStage _ _ _, _ => execSceneStage_meets
  | .sceneStageDone, _ => execSceneStageDone_meets
  | .flowAdd _ _, _ => execFlowAdd_meets
  | .flowDel _ _, _ => execFlowDel_meets
  | .ptpProfile _ _ _ _, _ => execPtpProfile_meets
  | .refDeclare _ _ _ _ _, _ => execRefDeclare_meets
  | .trainDram _ _ _, _ => execTrainDram_meets
  | .trainDramDone _ _, _ => execTrainDramDone_meets
  | .ckptNow _, _ => execCkptNow_meets
  | .ckptNowDone, _ => execCkptNowDone_meets
  | .lifeDump _ _ _, _ => execLifeDump_meets
  | .lifeDumpDone, _ => execLifeDumpDone_meets
  | .fwUpdate _ _ _, _ => execFwUpdate_meets
  | .fwUpdateDone _, _ => execFwUpdateDone_meets
  | .mbxDonePop m, _ => execMbxDonePop_meets (m := m)
  | .mbxDoneRelease, _ => execMbxDoneRelease_meets
  | .blockTick _, _ => execBlockTick_meets
  | .passStart _, _ => execPassStart_meets
  | .fenceExpiry _, _ => execFenceExpiry_meets
  | .deadlineClear _, _ => execDeadlineClear_meets
  | .speedMeasure _, _ => execSpeedMeasure_meets
  | .speedSourceRevert _, _ => execSpeedSourceRevert_meets
  | .swapAdmitCheck, _ => execSwapAdmitCheck_meets
  | .fencePctWrite _ _ _, _ => execFencePctWrite_meets
  | .escalationTrigger _, _ => execEscalationTrigger_meets
  | .avsAck _, _ => execAvsAck_meets
  | .avsSettleDone, _ => execAvsSettleDone_meets
  | .avsNoack, _ => execAvsNoack_meets
  | .stageJudged _, _ => execStageJudged_meets
  | .relocCopyDone _, _ => execRelocCopyDone_meets
  | .relocWarmDone _, _ => execRelocWarmDone_meets
  | .relocDone _, _ => execRelocDone_meets
  | .escalationEnd _, _ => execEscalationEnd_meets
  | .slackWarn _, _ => execSlackWarn_meets
  | .restore _ _, _ => execRestore_meets
  | .shedBackoffReset _ _, _ => execShedBackoffReset_meets
  | .backoffClr _, _ => execBackoffClr_meets
  | .warmTileLoaded _, _ => execWarmTileLoaded_meets
  | .swapXfadeEnd _, _ => execSwapXfadeEnd_meets
  | .nop _ _, _ => execNop_meets
  | .waitb _ _, _ => execWaitb_meets
  | .rpt _ _ _ _, _ => execRpt_meets
  | .rptb _ _ _ _ _, _ => execRptb_meets
  | .br _ _ _ _, _ => execBr_meets
  | .brc _ _ _, _ => execBrc_meets
  | .call _ _ _ _, _ => execCall_meets
  | .ret _, _ => execRet_meets
  | .fence _ _ _ _, _ => execFence_meets
  | .ld _ _ _ _ _, _ => execLd_meets
  | .st _ _ _ _ _, _ => execSt_meets
  | .ldx _ _ _ _ _, _ => execLdx_meets
  | .ldy _ _ _ _ _, _ => execLdy_meets
  | .ldxy _ _ _ _ _ _ _, _ => execLdxy_meets
  | .add _ _ _ _, _ => execAdd_meets
  | .sub _ _ _ _, _ => execSub_meets
  | .and _ _ _ _, _ => execAnd_meets
  | .or _ _ _ _, _ => execOr_meets
  | .xor _ _ _ _, _ => execXor_meets
  | .shl _ _ _ _ _, _ => execShl_meets
  | .shr _ _ _ _ _, _ => execShr_meets
  | .asr _ _ _ _ _, _ => execAsr_meets
  | .min _ _ _ _, _ => execMin_meets
  | .max _ _ _ _, _ => execMax_meets
  | .abs _ _ _, _ => execAbs_meets
  | .neg _ _ _, _ => execNeg_meets
  | .cmp _ _ _, _ => execCmp_meets
  | .addi _ _ _ _, _ => execAddi_meets
  | .li _ _ _ _, _ => execLi_meets
  | .lui _ _ _, _ => execLui_meets
  | .cmpi _ _ _, _ => execCmpi_meets
  | .mpy _ _ _ _, _ => execMpy_meets
  | .mac _ _ _ _, _ => execMac_meets
  | .msu _ _ _ _, _ => execMsu_meets
  | .macxy _ _ _ _ _ _, _ => execMacxy_meets
  | .tapm _ _ _ _ _ _, _ => execTapm_meets
  | .sacc _ _ _ _ _ _ _, _ => execSacc_meets
  | .clra _ _ _, _ => execClra_meets
  | .mova _ _ _ _ _ _, _ => execMova_meets
  | .sha _ _ _, _ => execSha_meets
  | .adda _ _ _, _ => execAdda_meets
  | .skv _ _ _ _ _, _ => execSkv_meets
  | .biq _ _ _ _ _, _ => execBiq_meets
  | .gramp _ _ _ _ _ _ _ _, _ => execGramp_meets
  | .peak _ _ _ _ _ _, _ => execPeak_meets
  | .silchk _ _ _ _ _, _ => execSilchk_meets
  | .inp _ _ _ _ _, _ => execInp_meets
  | .outp _ _ _ _ _, _ => execOutp_meets
  | .parm _ _ _ _ _ _, _ => execParm_meets
  | .setp _ _ _ _, _ => execSetp_meets
  | .getp _ _ _, _ => execGetp_meets
  | .setm _ _ _ _, _ => execSetm_meets
  | .getm _ _ _, _ => execGetm_meets
  | .setl _ _ _ _, _ => execSetl_meets
  | .getl _ _ _, _ => execGetl_meets
  | .addp _ _ _ _, _ => execAddp_meets
  | .stickyClrAov _ _, _ => execStickyClrAov_meets
  | .stickyClrSat _ _, _ => execStickyClrSat_meets
  | .dbgDataRead m _, _ => execDbgDataRead_meets (m := m)
  | .dbgReadDone _, _ => execDbgReadDone_meets
  | .dbgDataWrite _ _ _, _ => execDbgDataWrite_meets
  | .directParam _ _, _ => execDirectParam_meets
  | .directGain _ _, _ => execDirectGain_meets
  | .directRoute _ _, _ => execDirectRoute_meets
  | .directApply _, _ => execDirectApply_meets
  | .stagingRelease _, _ => execStagingRelease_meets
  | .sceneCheck, _ => execSceneCheck_meets
  | .commitCancel _ _, _ => execCommitCancel_meets
  | .rampEnd _, _ => execRampEnd_meets
  | .bankMirrorDone _, _ => execBankMirrorDone_meets
  | .routeXfadeEnd _, _ => execRouteXfadeEnd_meets
  | .bridgeUnlock _, _ => execBridgeUnlock_meets
  | .bridgeLock _, _ => execBridgeLock_meets
  | .snapReq _, _ => execSnapReq_meets
  | .snapReady, _ => execSnapReady_meets
  | .silenceEnter _, _ => execSilenceEnter_meets
  | .silenceExit _, _ => execSilenceExit_meets
  | .girthAccess _ _, _ => execGirthAccess_meets
  | .retWakeDone _, _ => execRetWakeDone_meets
  | .eccWriteback _, _ => execEccWriteback_meets
  | .girthShadowEnd _, _ => execGirthShadowEnd_meets
  | .bgtRegionStart, _ => execBgtRegionStart_meets
  | .bgtPhaseDone _, _ => execBgtPhaseDone_meets
  | .vaultMapWrite _ _ _, _ => execVaultMapWrite_meets
  | .tamperNFall, _ => execTamperNFall_meets
  | .lifeCycleChange _, _ => execLifeCycleChange_meets
  | .wipeDone _, _ => execWipeDone_meets
  | .retCtrlWrite _ _, _ => execRetCtrlWrite_meets
  | .harnessRequest _, _ => execHarnessRequest_meets
  | .harnessGrant _ _, _ => execHarnessGrant_meets
  | .transactionEnd _ _, _ => execTransactionEnd_meets
  | .masterReset _, _ => execMasterReset_meets
  | .mrstDone _, _ => execMrstDone_meets
  | .remapWrite _ _, _ => execRemapWrite_meets
  | .dramMapWrite _ _, _ => execDramMapWrite_meets
  | .alertN _ _ _, _ => execAlertN_meets
  | .movLate _ _, _ => execMovLate_meets
  | .refreshDue _ _, _ => execRefreshDue_meets
  | .mr4Poll _ _ _, _ => execMr4Poll_meets
  | .refreshWindow _ _, _ => execRefreshWindow_meets
  | .dqsOscRead _ _, _ => execDqsOscRead_meets
  | .trnGo _ _ _, _ => execTrnGo_meets
  | .trnDone _ _ _ _, _ => execTrnDone_meets
  | .trnStepAdvance _ _, _ => execTrnStepAdvance_meets
  | .mrGo _ _ _, _ => execMrGo_meets
  | .mrDone _ _, _ => execMrDone_meets
  | .rankCmdService _ _ _, _ => execRankCmdService_meets
  | .rankCmdSpare _ _ _, _ => execRankCmdSpare_meets
  | .rankCmdRetire _ _ _, _ => execRankCmdRetire_meets
  | .rankCmdTest _ _ _, _ => execRankCmdTest_meets
  | .rankCmdReturn _ _ _, _ => execRankCmdReturn_meets
  | .migrationCopyUnit _ _, _ => execMigrationCopyUnit_meets
  | .migDone _, _ => execMigDone_meets
  | .testDone _ _, _ => execTestDone_meets
  | .freqChange _ _ _, _ => execFreqChange_meets
  | .freqDone _ _, _ => execFreqDone_meets
  | .ceStormEnd _ _, _ => execCeStormEnd_meets
  | .dramCfgWrite _ _ _, _ => execDramCfgWrite_meets
  | .laneStateTimeout _, _ => execLaneStateTimeout_meets
  | .rateEstablished _ _, _ => execRateEstablished_meets
  | .negotiate _ _ _, _ => execNegotiate_meets
  | .los _ _, _ => execLos_meets
  | .losClear _, _ => execLosClear_meets
  | .autoRestart _, _ => execAutoRestart_meets
  | .laneRestart _ _, _ => execLaneRestart_meets
  | .lbModeWrite _ _ _, _ => execLbModeWrite_meets
  | .prbsCtrlWrite _ _ _, _ => execPrbsCtrlWrite_meets
  | .prbsClr _ _, _ => execPrbsClr_meets
  | .prbsLock _ _, _ => execPrbsLock_meets
  | .prbsUnlock _ _ _, _ => execPrbsUnlock_meets
  | .sleepWrite _ _ _, _ => execSleepWrite_meets
  | .wakeOnSig _, _ => execWakeOnSig_meets
  | .txqProdWrite _ _ _, _ => execTxqProdWrite_meets
  | .txFrameEnd _ _ _, _ => execTxFrameEnd_meets
  | .haltedClear _ _, _ => execHaltedClear_meets
  | .verifyTimer _, _ => execVerifyTimer_meets
  | .rxFrame _ _, _ => execRxFrame_meets
  | .rxrConsWrite _ _ _, _ => execRxrConsWrite_meets
  | .pauseRefresh _, _ => execPauseRefresh_meets
  | .pauseExpiry _, _ => execPauseExpiry_meets
  | .tsqPop m _, _ => execTsqPop_meets (m := m)
  | .cnNsRead _ _, _ => execCnNsRead_meets
  | .capture _, _ => execCapture_meets
  | .incFracWrite _ _ _, _ => execIncFracWrite_meets
  | .slewNsWrite _ _ _, _ => execSlewNsWrite_meets
  | .slewDone _, _ => execSlewDone_meets
  | .setGo _ _ _, _ => execSetGo_meets
  | .stepWrite _ _ _, _ => execStepWrite_meets
  | .monUpdate, _ => execMonUpdate_meets
  | .syncReceived _ _ _ _, _ => execSyncReceived_meets
  | .announceReceived _ _, _ => execAnnounceReceived_meets
  | .announceTimeout _ _, _ => execAnnounceTimeout_meets
  | .refEdge _ _ _, _ => execRefEdge_meets
  | .refStop _, _ => execRefStop_meets
  | .qualified _, _ => execQualified_meets
  | .refMeanUpdate _, _ => execRefMeanUpdate_meets
  | .softDriftSwitch, _ => execSoftDriftSwitch_meets
  | .selection, _ => execSelection_meets
  | .switchDone, _ => execSwitchDone_meets
  | .dpllLocked _, _ => execDpllLocked_meets
  | .holdExpired _, _ => execHoldExpired_meets
  | .esmcPdu _ _, _ => execEsmcPdu_meets
  | .esmcTimeout _, _ => execEsmcTimeout_meets
  | .selCtrlWrite _ _, _ => execSelCtrlWrite_meets
  | .framePulse _ _, _ => execFramePulse_meets
  | .alignNow _ _, _ => execAlignNow_meets
  | .mclkCfgWrite _ _ _, _ => execMclkCfgWrite_meets
  | .flowPacket _ _, _ => execFlowPacket_meets
  | .rebase _, _ => execRebase_meets
  | .underrunClear _, _ => execUnderrunClear_meets
  | .ssrcRelearn _, _ => execSsrcRelearn_meets
  | .pathLost _, _ => execPathLost_meets
  | .pathUp _, _ => execPathUp_meets
  | .ctxDelayWrite _ _ _, _ => execCtxDelayWrite_meets
  | .grpDelayWrite _ _, _ => execGrpDelayWrite_meets
  | .sapFrame _ _ _ _, _ => execSapFrame_meets
  | .clkLoss _, _ => execClkLoss_meets
  | .clkBack _ _, _ => execClkBack_meets
  | .trip _ _ _, _ => execTrip_meets
  | .hiccupEnd _, _ => execHiccupEnd_meets
  | .softStartEnd _, _ => execSoftStartEnd_meets
  | .stirrupOcClear, _ => execStirrupOcClear_meets
  | .dcLatch _, _ => execDcLatch_meets
  | .oscLatch _, _ => execOscLatch_meets
  | .latchClr _ _, _ => execLatchClr_meets
  | .avoidApply _ _, _ => execAvoidApply_meets
  | .avoidMoved _, _ => execAvoidMoved_meets
  | .loadUpdate _ _, _ => execLoadUpdate_meets
  | .baselineCap _ _, _ => execBaselineCap_meets
  | .stirrupSleep _, _ => execStirrupSleep_meets
  | .stirrupWake _, _ => execStirrupWake_meets
  | .wakeSettled _, _ => execWakeSettled_meets
  | .stirrupStartTimer, _ => execStirrupStartTimer_meets
  | .supplyMonitorTrip, _ => execSupplyMonitorTrip_meets
  | .sourceHoldEnd _ _, _ => execSourceHoldEnd_meets
  | .quietExpiry _, _ => execQuietExpiry_meets
  | .reactClr _, _ => execReactClr_meets
  | .latchedClear _, _ => execLatchedClear_meets
  | .srcCfgWrite _ _, _ => execSrcCfgWrite_meets
  | .force _ _, _ => execForce_meets
  | .tjRead _, _ => execTjRead_meets
  | .tamperClear, _ => execTamperClear_meets
  | .level4Reset _, _ => execLevel4Reset_meets
  | .feedLoss _ _, _ => execFeedLoss_meets
  | .feedRecover _, _ => execFeedRecover_meets
  | .powerWarn, _ => execPowerWarn_meets
  | .heartbeatSend, _ => execHeartbeatSend_meets
  | .heartbeat _, _ => execHeartbeat_meets
  | .ckptData _, _ => execCkptData_meets
  | .ckptEnd _, _ => execCkptEnd_meets
  | .handoverPropose _ _, _ => execHandoverPropose_meets
  | .handoverAck _ _ _ _, _ => execHandoverAck_meets
  | .checkpointEpoch, _ => execCheckpointEpoch_meets
  | .pairLost, _ => execPairLost_meets
  | .pairActInRise, _ => execPairActInRise_meets
  | .pairActInFall, _ => execPairActInFall_meets
  | .seekingTimeout, _ => execSeekingTimeout_meets
  | .takeoverDone _, _ => execTakeoverDone_meets
  | .warmingEnd, _ => execWarmingEnd_meets
  | .holdoffEnd, _ => execHoldoffEnd_meets
  | .handoverReq _, _ => execHandoverReq_meets
  | .handoverAckTimeout, _ => execHandoverAckTimeout_meets
  | .handoverFail, _ => execHandoverFail_meets
  | .keeperCfgWrite _ _, _ => execKeeperCfgWrite_meets
  | .recordPeriod, _ => execRecordPeriod_meets
  | .recNow _, _ => execRecNow_meets
  | .recDone _, _ => execRecDone_meets
  | .replan, _ => execReplan_meets
  | .replanStepDone, _ => execReplanStepDone_meets
  | .powerOnHour, _ => execPowerOnHour_meets
  | .pcieLinkReset, _ => execPcieLinkReset_meets
  | .powerWarnNRise, _ => execPowerWarnNRise_meets
  | .pcieLinkUp _ _ _, _ => execPcieLinkUp_meets
  | .drvFltNRelease _, _ => execDrvFltNRelease_meets
  | .pairActOutRaise, _ => execPairActOutRaise_meets
  | .handoverRetry, _ => execHandoverRetry_meets
  | .rowIdleClose _ _ _, _ => execRowIdleClose_meets
  | .powerOnSecond, _ => execPowerOnSecond_meets
  | .depthLimit _ _, _ => execDepthLimit_meets

/-- No step changes the part or breaks memory's canonical form. -/
theorem step_steady {u : State} (hs : step s = .next u) : Steady s u := by
  unfold step at hs
  split at hs
  · cases hs
    exact (Steady.refl s).advance
  · have hu := (exec_meets _ _).steady hs
    exact ⟨hu.part, hu.mem⟩

end Sys2Proof.Machine
end

section
open Sys2Proof Sys2Proof.Machine

/-- Settles O3: each command's answer is its well-formedness around a next state. -/
theorem everyCommandRuns : Obligations.EveryCommandRuns := fun c s => (exec_meets c s).next_iff

/-- Settles O6: every step is steady in its part, and the pages present are a function of the part. -/
theorem partKept : Obligations.PartKept := by
  intro s u hs
  have hp := (step_steady hs).part
  exact ⟨hp, fun p => by rw [State.present, State.present, hp]⟩

end

section
/-!
SUPPORT. The reset state.
-/

namespace Sys2Proof.Machine

/-- The pages that come up enabled: the control pages, the Rein and every tile. -/
theorem enAtReset_eq_one {p : Nat} (h : p ∈ [Pg.host, Pg.ctrl, Pg.harness, Pg.cinch, Pg.keeper, Pg.rein] ∨
    ∃ t < 256, p = Pg.awl t) : enAtReset p = 1 := by
  rcases h with h | ⟨t, ht, rfl⟩
  · revert p
    decide
  · have : inRange 0x100 (Pg.awl t) 0x1FF = true := by
      simp only [inRange, Bool.and_eq_true, decide_eq_true_eq]
      unfold Pg.awl
      omega
    simp only [enAtReset, this, Bool.or_true, Bool.true_or, if_true]

/-- An empty store reads every field at its reset value. -/
theorem reset_get (p : Nat) (f : Fld) (i : Nat) : State.reset.get p f i = resetAt p f i := rfl

theorem reset_enabled {p : Nat} (h : enAtReset p = 1) : State.reset.flag p PG.CTRL_EN = true := by
  rw [State.flag, reset_get, show resetAt p PG.CTRL_EN 0 = enAtReset p from rfl, h]
  rfl

end Sys2Proof.Machine
end

section
open Sys2Proof Sys2Proof.Machine

/-- Settles O4: the reset state holds no entry at all, so every field and byte reads its default. -/
theorem resetValues : Obligations.ResetValues :=
  ⟨reset_get, fun _ hp => reset_enabled (enAtReset_eq_one (.inl hp)),
    fun t ht => reset_enabled (enAtReset_eq_one (.inr ⟨t, ht, rfl⟩)),
    fun _ => rfl, rfl, rfl, rfl, rfl, rfl, rfl⟩

end

section
/-!
SUPPORT. Accesses to absent and reserved pages (R6).
-/

namespace Sys2Proof.Machine

variable {s : State} {m : Master} {p off : Nat}

theorem State.writeTo_absent (h : s.present p = false) (f : State → State) :
    s.writeTo m p f = s.absentHit.answer (.ok []) := by
  rw [State.writeTo, h]; rfl

theorem State.ctrlWrite_absent (h : s.present p = false) (f : State → Nat → State) :
    s.ctrlWrite m p f = s.absentHit.answer (.ok []) := State.writeTo_absent h _

theorem State.lockWrite_absent (h : s.present p = false) (v : Word) :
    s.lockWrite m p v = s.absentHit.answer (.ok []) := by
  rw [State.lockWrite, h]; rfl

theorem State.readFrom_absent (h : s.present p = false) (f : State → State × Word) :
    s.readFrom p f = s.absentHit.answer (.ok [0]) := by
  rw [State.readFrom, h]; rfl

theorem State.writeReg_absent (h : s.present (off / 4096) = false) (v : Word) :
    s.writeReg m off v = s.absentHit.answer (.ok []) := by
  unfold State.writeReg
  split
  · exact State.lockWrite_absent h v
  · exact State.writeTo_absent h _

theorem State.readReg_absent (h : s.present (off / 4096) = false) : s.readReg m off = (s.absentHit, 0) := by
  rw [State.readReg, h]; rfl

theorem State.readWaits_absent (h : s.present (off / 4096) = false) : s.readWaits off = false := by
  unfold State.readWaits
  split
  · rw [h]; rfl
  · rfl

/-- What an access to an absent page changes: the count, its event and the answer. -/
theorem State.absentHit_answered (s : State) (r : List Word) :
    let u := s.absentHit.answer (.ok r)
    u.lastResp = some (.ok r) ∧ u.get Pg.host HOST.ABSENT_HITS = min (s.get Pg.host HOST.ABSENT_HITS + 1) 0xFFFFFFFF ∧
      u.evt Pg.host 2 = true ∧
      Kept [.resp, .msix] (fields [fkey Pg.host HOST.ABSENT_HITS 0, fkey Pg.host PG.EVT 0]) noByte s u := by
  refine ⟨rfl, ?_, ?_, ?_⟩
  · rw [State.answer_get, State.absentHit, State.get_event_off _ _ _ (by decide), State.get_count_same]
    rfl
  · exact State.evt_event_same (State.present_host _) 2 (by decide)
  · exact .answer (by decide) (.event (by decide) (by simp [fields]) (.count (by simp [fields]) .rfl'))

end Sys2Proof.Machine
end

section
open Sys2Proof Sys2Proof.Machine

/-- Settles O7: on an absent page each of these meanings is the one hit with its answer. -/
theorem absentPages : Obligations.AbsentPages := by
  intro s m off v hlt hal hp hit
  have hpage : bar0Page (off / 4096) = true := decide_eq_true (by omega)
  have hword : bar0Word off = true := by
    rw [bar0Word, Bool.and_eq_true, decide_eq_true_eq, decide_eq_true_eq]
    exact ⟨hlt, hal⟩
  have isHit : ∀ {o : Outcome} {r : List Word}, o = .next (s.absentHit.answer (.ok r)) → hit o r :=
    fun h => ⟨_, h, s.absentHit_answered _⟩
  have paged : ∀ {t : State} {r : List Word}, t = s.absentHit.answer (.ok r) →
      hit (guardWf (bar0Page (off / 4096)) (.next t)) r := fun h => isHit (by rw [hpage, h]; rfl)
  refine ⟨isHit ?_, isHit ?_, isHit ?_, isHit ?_, paged ?_, paged ?_, paged ?_, paged ?_, paged ?_, paged ?_, paged ?_,
    paged ?_, paged ?_⟩
  · rw [exec_absentPageAccess, execAbsentPageAccess, hword, hp]; rfl
  · rw [exec_absentPageAccess, execAbsentPageAccess, hword, hp]; rfl
  · rw [exec_loRead, execLoRead, hword, State.readWaits_absent hp, State.readReg_absent hp]; rfl
  · rw [exec_registerWrite, execRegisterWrite, hword, State.writeReg_absent hp]; rfl
  · exact State.ctrlWrite_absent hp _
  · exact State.ctrlWrite_absent hp _
  · exact State.ctrlWrite_absent hp _
  · exact State.ctrlWrite_absent hp _
  · exact State.writeTo_absent hp _
  · exact State.writeTo_absent hp _
  · exact State.lockWrite_absent hp _
  · exact State.lockWrite_absent hp _
  · exact State.readFrom_absent hp _

end

section
/-!
SUPPORT. Register accesses: reads leave memory, a read that does not act changes nothing, and what the plain writes do.
-/

namespace Sys2Proof.Machine

/-! ### Reads leave memory -/

section
variable {s : State} {p off n : Nat} {c : Prop} [Decidable c] {l : List Host.Cell}

theorem mem_ite {t u : State} (h : t.mem = l) (k : u.mem = l) : (if c then t else u).mem = l := by
  split
  · exact h
  · exact k

theorem mem_ite_fst {α : Type} {t u : State × α} (h : t.1.mem = l) (k : u.1.mem = l) :
    (if c then t else u).1.mem = l := by
  split
  · exact h
  · exact k

theorem State.longProgress_mem : (s.longProgress p).mem = s.mem := by
  unfold State.longProgress
  split <;> rfl

theorem State.seekLock_mem : (s.seekLock n).mem = s.mem := mem_ite (mem_ite rfl rfl) rfl
theorem State.testProgress_mem : (s.testProgress n).mem = s.mem := mem_ite rfl rfl
theorem State.showProgress_mem : (s.showProgress p).mem = s.mem := mem_ite (mem_ite rfl rfl) State.longProgress_mem

theorem State.showFor_mem : (s.showFor p off).mem = s.mem := by
  refine mem_ite State.showProgress_mem ?_
  split
  · exact mem_ite State.testProgress_mem rfl
  · exact mem_ite State.seekLock_mem rfl
  · exact mem_ite State.seekLock_mem rfl
  · rfl

theorem State.readLife_mem : (s.readLife p).1.mem = s.mem := mem_ite rfl rfl
theorem State.dbgAdvance_mem : (s.dbgAdvance n).mem = s.mem := mem_ite rfl rfl
theorem State.advanceAvoid_mem : (s.advanceAvoid p).mem = s.mem := mem_ite rfl rfl
theorem State.prbsErrors_mem : (s.prbsErrors n).mem = s.mem := mem_ite rfl rfl

theorem State.popStamp_mem : (s.popStamp n).1.mem = s.mem := by
  unfold State.popStamp
  split <;> rfl

theorem State.popDone_mem : s.popDone.1.mem = s.mem := by
  unfold State.popDone
  split <;> rfl

theorem State.measureLoop_mem : (s.measureLoop n).mem = s.mem := mem_ite rfl (mem_ite rfl rfl)
theorem State.notePeak_mem {peak : Nat} : (s.notePeak n peak).mem = s.mem := mem_ite rfl rfl

theorem State.senseLoop_mem : (s.senseLoop n).mem = s.mem := by
  have h : ((s.refreshLoop n).measureLoop n).mem = s.mem := State.measureLoop_mem.trans (mem_ite rfl rfl)
  exact mem_ite (State.notePeak_mem.trans h) h

theorem State.putMargin_mem {l : List (Nat × Int)} : (s.putMargin n l).mem = s.mem := by
  unfold State.putMargin
  split <;> rfl

theorem State.showSkew_mem : (s.showSkew n).mem = s.mem := by
  unfold State.showSkew
  split
  · exact mem_ite rfl rfl
  · rfl

theorem State.showProtected_mem : (s.showProtected n).mem = s.mem := rfl

theorem State.ageCtx_mem : (s.ageCtx n).mem = s.mem := by
  unfold State.ageCtx
  split
  · rfl
  · extract_lets m k t1 u t2
    have hu : u.mem = s.mem := State.putMargin_mem
    have h2 : t2.mem = s.mem := mem_ite rfl (mem_ite (State.showProtected_mem.trans hu) hu)
    exact mem_ite h2 (State.showSkew_mem.trans h2)

theorem State.holdHi_mem {v : Nat} : (s.holdHi p off v).mem = s.mem := rfl

theorem State.readPage_mem {m : Master} : (s.readPage m p off).1.mem = s.mem := by
  refine mem_ite_fst State.readLife_mem ?_
  split
  · exact mem_ite_fst State.popStamp_mem rfl
  · exact mem_ite_fst rfl (mem_ite_fst rfl rfl)
  · exact mem_ite_fst State.dbgAdvance_mem rfl
  · exact mem_ite_fst State.advanceAvoid_mem (mem_ite_fst State.senseLoop_mem
      (mem_ite_fst ((State.set_mem ..).trans State.senseLoop_mem) rfl))
  · exact mem_ite_fst State.holdHi_mem (mem_ite_fst State.prbsErrors_mem rfl)
  · exact mem_ite_fst State.ageCtx_mem (mem_ite_fst rfl rfl)
  · exact mem_ite_fst rfl rfl
  · exact mem_ite_fst State.popDone_mem (mem_ite_fst State.holdHi_mem (mem_ite_fst State.prbsErrors_mem rfl))
  · rfl

theorem State.readReg_mem {m : Master} : (s.readReg m off).1.mem = s.mem :=
  mem_ite_fst (State.readPage_mem.trans State.showFor_mem) (by simp [State.absentHit])

end

/-! ### Reads that change nothing -/

section
variable {s : State} {m : Master} {p off : Nat}

theorem State.showFor_plain (h : readActs p off = false) : s.showFor p off = s := by
  simp only [readActs, Bool.or_eq_false_iff, beq_eq_false_iff_ne, ne_eq] at h
  obtain ⟨⟨-, h1⟩, h2⟩ := h
  rw [State.showFor, if_neg h1]
  cases hu : unitOf p <;> simp_all

theorem State.readPage_plain (h : readActs p off = false) : s.readPage m p off = (s, s.peekReg m p off) := by
  simp only [readActs, Bool.or_eq_false_iff, beq_eq_false_iff_ne, ne_eq] at h
  obtain ⟨⟨h1, -⟩, h2⟩ := h
  simp only [State.readPage, if_neg h1]
  cases hu : unitOf p <;> simp_all
  grind

theorem bar0Word_iff : bar0Word off = true ↔ off < 2 ^ 26 ∧ off % 4 = 0 := by
  rw [bar0Word, Bool.and_eq_true, decide_eq_true_eq, decide_eq_true_eq]; rfl

theorem State.readReg_plain (hp : s.present (off / 4096) = true) (h : readActs (off / 4096) (off % 4096) = false) :
    s.readReg m off = (s, s.peekReg m (off / 4096) (off % 4096)) := by
  rw [State.readReg, if_pos hp, State.showFor_plain h, State.readPage_plain h]

/-- A read that waits is of a register whose read acts. -/
theorem readActs_of_readWaits (h : s.readWaits off = true) : readActs (off / 4096) (off % 4096) = true := by
  unfold State.readWaits at h
  split at h
  · rename_i t ht
    simp only [Bool.and_eq_true, decide_eq_true_eq] at h
    simp [readActs, ht, h.1.2]
  · cases h

theorem State.readWaits_plain (h : readActs (off / 4096) (off % 4096) = false) : s.readWaits off = false := by
  by_contra hw
  rw [readActs_of_readWaits (Bool.eq_true_of_not_eq_false hw)] at h
  cases h

/-- A 32-bit read that need not wait. -/
theorem exec_loRead_next (h : off < 2 ^ 26) (ha : off % 4 = 0) (hw : s.readWaits off = false) :
    exec (.loRead m off) s = .next ((s.readReg m off).1.answer (.ok [(s.readReg m off).2])) := by
  rw [exec_loRead, execLoRead, bar0Word_iff.2 ⟨h, ha⟩, hw]; rfl

theorem exec_loRead_plain (h : off < 2 ^ 26) (ha : off % 4 = 0) (hp : s.present (off / 4096) = true)
    (hr : readActs (off / 4096) (off % 4096) = false) :
    exec (.loRead m off) s = .next (s.answer (.ok [s.peekReg m (off / 4096) (off % 4096)])) := by
  rw [exec_loRead_next h ha (State.readWaits_plain hr), State.readReg_plain hp hr]

theorem exec_loRead_wide (h : off < 2 ^ 26) (ha : off % 8 = 0) (hp : s.present (off / 4096) = true)
    (hr : readActs (off / 4096) (off % 4096) = false) (hr' : readActs (off / 4096) (off % 4096 + 4) = false) :
    exec (.loRead m off true) s = .next (s.answer (.ok [s.peekReg m (off / 4096) (off % 4096),
      s.peekReg m (off / 4096) (off % 4096 + 4)])) := by
  have hd : (off + 4) / 4096 = off / 4096 := by omega
  have hm : (off + 4) % 4096 = off % 4096 + 4 := by omega
  have hu : s.readReg m (off + 4) = (s, s.peekReg m (off / 4096) (off % 4096 + 4)) := by
    rw [← hd, ← hm]
    exact State.readReg_plain (by rwa [hd]) (by rwa [hd, hm])
  have hw : s.readWaits (off + 4) = false := State.readWaits_plain (by rwa [hd, hm])
  have hs : s.readWords m off 2 = (s, [s.peekReg m (off / 4096) (off % 4096),
      s.peekReg m (off / 4096) (off % 4096 + 4)]) := by
    rw [State.readWords, State.readWords, State.readWords, State.readReg_plain hp hr, hu]
  rw [exec_loRead, execLoRead, bar0Word_iff.2 ⟨h, by omega⟩, hw, hs]
  simp [guardWf, ha]

theorem Kept.answered {r : Resp} : Kept [.resp] (fields []) noByte s (s.answer r) := .answer (by decide) .rfl'

/-- Every write to a present page is answered. -/
theorem State.writeReg_answered (hp : s.present (off / 4096) = true) (v : Word) :
    (s.writeReg m off v).lastResp = some (.ok []) := by
  unfold State.writeReg State.lockWrite State.writeTo
  split
  · rw [if_pos hp]; rfl
  · rw [if_pos hp]
    split <;> rfl

theorem exec_registerWrite_next (h : off < 2 ^ 26) (ha : off % 4 = 0) (v : Word) :
    exec (.registerWrite m off v) s = .next (s.writeReg m off v) := by
  rw [exec_registerWrite, execRegisterWrite, bar0Word_iff.2 ⟨h, ha⟩]; rfl

/-! ### MEDIA_LO and VARIANT -/

theorem fieldsAt_domSel : fieldsAt (Pg.flow 0) 0x0D0 = [FLOW.DOM_SEL_DOMAIN] := by decide +kernel
theorem fieldsAt_mediaLo : fieldsAt (Pg.flow 0) 0x0D4 = [FLOW.MEDIA_LO_N] := by decide +kernel

/-- A register of one field that is no selector's. -/
theorem State.fieldWord_single {f : Fld} {inst : Fld → Nat} (h : fieldsAt p off = [f]) (hw : f.acc ≠ .wo)
    (hl : f.lo = 0) : s.fieldWord p off inst = s.get p f (inst f) := by
  rw [State.fieldWord, h]
  simp [hw, hl]

theorem State.instOf_mediaLo (h : s.get (Pg.flow 0) FLOW.DOM_SEL_DOMAIN < 2) :
    s.instOf (Pg.flow 0) FLOW.MEDIA_LO_N = s.get (Pg.flow 0) FLOW.DOM_SEL_DOMAIN := by
  rw [State.instOf, if_neg (by decide), show FLOW.MEDIA_LO_N.sel = 0x0D0 from rfl,
    State.fieldWord_single fieldsAt_domSel (by decide) rfl]
  generalize s.get (Pg.flow 0) FLOW.DOM_SEL_DOMAIN = d at h ⊢
  match d, h with
  | 0, _ => rfl
  | 1, _ => rfl

theorem State.peekReg_mediaLo (h : s.get (Pg.flow 0) FLOW.DOM_SEL_DOMAIN < 2) :
    s.peekReg m (Pg.flow 0) 0x0D4 =
      BitVec.ofNat 32 (s.get (Pg.flow 0) FLOW.MEDIA_LO_N (s.get (Pg.flow 0) FLOW.DOM_SEL_DOMAIN)) := by
  have hu : unitOf (Pg.flow 0) = .flow 0 := by decide
  have hs : s.shown (Pg.flow 0) 0x0D4 = true := by
    simp [State.shown, hu, h]
  rw [← State.instOf_mediaLo h, ← State.fieldWord_single fieldsAt_mediaLo (by decide) rfl]
  simp [State.peekReg, hs, State.liveWord, hu]

/-- A read of MEDIA_LO holds the high half for MEDIA_HI (R11). -/
theorem State.readReg_mediaLo (hp : s.present (Pg.flow 0) = true) (h : s.get (Pg.flow 0) FLOW.DOM_SEL_DOMAIN < 2) :
    s.readReg m 0x2200D4 =
      (s.holdHi (Pg.flow 0) 0x0D8 (s.get (Pg.flow 0) FLOW.MEDIA_HI_N (s.get (Pg.flow 0) FLOW.DOM_SEL_DOMAIN)),
        s.peekReg m (Pg.flow 0) 0x0D4) := by
  have hu : unitOf (Pg.flow 0) = .flow 0 := by decide
  have hs : s.showFor (Pg.flow 0) 0x0D4 = s := by
    rw [State.showFor, if_neg (by decide), hu]
  rw [State.readReg, show 0x2200D4 / 4096 = Pg.flow 0 from rfl, show 0x2200D4 % 4096 = 0x0D4 from rfl, if_pos hp, hs]
  simp [State.readPage, hu, h]

theorem State.hiWord_holdHi (v : Nat) : (s.holdHi p off v).hiWord p off = v % 2 ^ 32 := by
  rw [State.hiWord, State.holdHi, State.onCtrl_ctrl, nget_nput_same]
  rfl

theorem unitOf_host : unitOf Pg.host = .fixed := by decide

/-- No register of HOST has instances. -/
theorem State.shown_host : s.shown Pg.host off = true := by
  rw [State.shown, unitOf_host]; rfl

theorem State.peekReg_variant : s.peekReg m Pg.host 0x040 = s.variant := by
  have hl : s.liveWord m Pg.host 0x040 (s.fieldWord Pg.host 0x040 (s.instOf Pg.host)) = s.variant.toNat := by
    rw [State.liveWord, unitOf_host]; rfl
  simp [State.peekReg, State.shown_host, hl]

/-! ### Plain writes -/

theorem State.writeReg_takes (h : s.takes m p) (ho : off < 4096) (hl : off ≠ 0x028) (v : Word) :
    s.writeReg m (p * 4096 + off) v = ((s.abandonUnlock p).writePage m p off v).answer (.ok []) := by
  have hd : (p * 4096 + off) / 4096 = p := by omega
  have hm : (p * 4096 + off) % 4096 = off := by omega
  rw [State.writeReg, hd, hm, if_neg hl, State.writeTo_takes h]

/-- The page header's registers are no block's. -/
theorem blockFields_off : ∀ f ∈ blockFields p, f.off ≠ 0x020 := by
  unfold blockFields
  repeat' split
  all_goals decide +kernel

theorem fieldsAt_lifeIdx : fieldsAt p 0x020 = [PG.LIFE_IDX_AUTOINC, PG.LIFE_IDX_INDEX] := by
  have h : (blockFields p).filter (fun f => f.off == 0x020) = [] :=
    List.filter_eq_nil_iff.2 fun f hf => by simpa using blockFields_off f hf
  rw [fieldsAt, List.filter_append, h, List.append_nil]
  decide

/-- Writes of PG_LIFE_IDX (R41). -/
theorem State.writePage_lifeIdx (v : Word) : s.writePage m p 0x020 v =
    (s.set p PG.LIFE_IDX_AUTOINC (PG.LIFE_IDX_AUTOINC.of v)).set p PG.LIFE_IDX_INDEX (PG.LIFE_IDX_INDEX.of v) := by
  show s.writePlain p 0x020 v = _
  rw [State.writePlain, fieldsAt_lifeIdx]
  rfl

/-- A register of HOST without behaviour of its own. -/
theorem State.writePage_host (h : 0x040 ≤ off) (hw : off ≠ HOST.WIN_BASE_HI_ADDR.off) (hm : mailboxOffset off = false)
    (v : Word) : s.writePage m Pg.host off v = s.writePlain Pg.host off v := by
  rw [State.writePage, if_neg (by omega), if_neg (by omega), if_neg (by omega), if_neg (by omega), if_neg (by omega),
    if_pos State.shown_host, State.writeBlock, unitOf_host]
  show s.writeHost m off v = _
  rw [State.writeHost, if_neg hw, hm]
  rfl

theorem fieldsAt_absentHits : fieldsAt Pg.host 0x044 = [HOST.ABSENT_HITS] := by decide +kernel

theorem State.writePage_absentHits (v : Word) : s.writePage m Pg.host 0x044 v = s.set Pg.host HOST.ABSENT_HITS 0 := by
  rw [State.writePage_host (by decide) (by decide) (by decide), State.writePlain, fieldsAt_absentHits]
  rfl

/-- A plain write of read-only fields. -/
theorem State.writePlain_ro (h : ∀ f ∈ fieldsAt p off, f.acc = .ro) (v : Word) : s.writePlain p off v = s := by
  rw [State.writePlain]
  generalize fieldsAt p off = l at h
  induction l with
  | nil => rfl
  | cons f l ih =>
    rw [State.each, List.foldl_cons, State.writeField, h f List.mem_cons_self]
    exact ih fun g hg => h g (List.mem_cons_of_mem f hg)

theorem State.writePage_variant (v : Word) : s.writePage m Pg.host 0x040 v = s := by
  rw [State.writePage_host (by decide) (by decide) (by decide), State.writePlain_ro (by decide +kernel)]

/-! ### Written fields -/

theorem Fld.of_mod (f : Fld) (v : Word) : f.of v % 2 ^ f.w = f.of v := Nat.mod_mod ..

/-- A flag written from its bit of a word. -/
theorem Fld.of_bit {f : Fld} (h : f.w = 1) (v : Word) : (f.of v % 2 ^ f.w == 1) = v.getLsbD f.lo := by
  rw [Fld.of_mod, Fld.of, h, BitVec.getLsbD, Nat.testBit_eq_decide_div_mod_eq, Nat.shiftRight_eq_div_pow]
  rfl

theorem Kept.holdHi {v : Nat} : Kept [.resp, .ctrl] (fields []) noByte s (s.holdHi p off v) := .onCtrl (by decide) .rfl'

/-- The size of channel 1 that a write of DRAM_MAP asks for; CA has one channel (R217). -/
def State.mapSize1 (s : State) (v : Word) : Nat := if s.part = .ca then 0 else HARNESS.DRAM_MAP_SIZE1.of v

theorem State.mapSize1_mod (v : Word) : s.mapSize1 v % 2 ^ HARNESS.DRAM_MAP_SIZE1.w = s.mapSize1 v := by
  unfold State.mapSize1
  split
  · rfl
  · exact Fld.of_mod ..

/-- DRAM_MAP's fields after they are written. -/
theorem State.get_setMap (s : State) (a b c : Nat) :
    let u := ((s.set p HARNESS.DRAM_MAP_SIZE0 a).set p HARNESS.DRAM_MAP_SIZE1 b).set p HARNESS.DRAM_MAP_INTLV c
    u.get p HARNESS.DRAM_MAP_SIZE0 = a % 2 ^ 6 ∧ u.get p HARNESS.DRAM_MAP_SIZE1 = b % 2 ^ 6 ∧
      u.get p HARNESS.DRAM_MAP_INTLV = c % 2 ^ 2 := by
  refine ⟨?_, ?_, State.get_set_same ..⟩
  · rw [State.get_set_lo _ _ (by decide), State.get_set_lo _ _ (by decide), State.get_set_same]; rfl
  · rw [State.get_set_lo _ _ (by decide), State.get_set_same]; rfl

/-- A write of DRAM_MAP to an unlocked page (R217). -/
theorem exec_dramMapWrite_takes (h : s.takes m Pg.harness) (hl : s.locked Pg.harness = false) (v : Word) :
    exec (.dramMapWrite m v) s = .next (
      (if mapAllowed (HARNESS.DRAM_MAP_SIZE0.of v) (s.mapSize1 v) (HARNESS.DRAM_MAP_INTLV.of v) then
        (((s.abandonUnlock Pg.harness).set Pg.harness HARNESS.DRAM_MAP_SIZE0 (HARNESS.DRAM_MAP_SIZE0.of v)).set Pg.harness
          HARNESS.DRAM_MAP_SIZE1 (s.mapSize1 v)).set Pg.harness HARNESS.DRAM_MAP_INTLV (HARNESS.DRAM_MAP_INTLV.of v)
      else (s.abandonUnlock Pg.harness).event Pg.harness 4).answer (.ok [])) := by
  have hl' : (s.abandonUnlock Pg.harness).locked Pg.harness = false := hl
  rw [exec_dramMapWrite, execDramMapWrite, State.writeTo_takes h, if_neg (by rw [hl']; decide)]
  rfl

end

end Sys2Proof.Machine
end

section
open Sys2Proof Sys2Proof.Machine

/-- Settles O9: a read that does not act answers the register's word, and each write is its field updates on the state with
the unlock sequence abandoned. -/
theorem registerAccess : Obligations.RegisterAccess := by
  intro s m v
  refine ⟨?_, ?_, ?_, ?_, ?_, ?_, ?_, ?_, ?_, ?_, ?_⟩
  · intro off h ha hp hw
    refine ⟨_, exec_loRead_next h ha hw, ⟨_, rfl⟩, State.byte_eq_of_mem State.readReg_mem, fun hr => ?_⟩
    rw [State.readReg_plain hp hr]
    exact ⟨rfl, .answered⟩
  · intro off h ha hp hr hr'
    exact ⟨_, exec_loRead_wide h ha hp hr hr', .answered, rfl⟩
  · rintro d rfl hp hd
    have hw : s.readWaits 0x2200D4 = false := by
      rw [State.readWaits, show unitOf (0x2200D4 / 4096) = .flow 0 by decide]
    refine ⟨_, exec_loRead_next (by decide) (by decide) hw, ?_⟩
    rw [State.readReg_mediaLo hp hd, State.peekReg_mediaLo hd]
    exact ⟨rfl, State.hiWord_holdHi _, .answer (by decide) .holdHi⟩
  · intro off h ha hp
    exact ⟨_, exec_registerWrite_next h ha v, State.writeReg_answered hp v⟩
  · refine ⟨_, exec_loRead_plain (by decide) (by decide) s.present_host (by decide), ?_, .answered⟩
    rw [show 0x040 / 4096 = Pg.host from rfl, show 0x040 % 4096 = 0x040 from rfl, State.peekReg_variant]
    rfl
  · intro p hp h
    refine ⟨_, exec_registerWrite_next (by omega) (by omega) v, ?_⟩
    rw [State.writeReg_takes h (by decide) (by decide), State.writePage_lifeIdx]
    refine ⟨State.wrote_answer rfl, ?_, ?_, ?_⟩
    · rw [State.answer_get, State.get_set_same, Fld.of_mod]
      rfl
    · rw [State.answer_flag, State.flag_eq, State.get_set_lo _ _ (by decide), State.get_set_same]
      exact Fld.of_bit rfl v
    · exact .answer (by decide) (.set (by simp [fields]) (.set (by simp [fields]) (.abandonUnlock (by decide) .rfl')))
  · intro h
    refine ⟨_, exec_registerWrite_next (by decide) (by decide) v, ?_⟩
    rw [show 0x044 = Pg.host * 4096 + 0x044 from rfl, State.writeReg_takes h (by decide) (by decide),
      State.writePage_absentHits]
    exact ⟨State.wrote_answer rfl, (State.answer_get ..).trans (State.get_set_same ..),
      .answer (by decide) (.set (by simp [fields]) (.abandonUnlock (by decide) .rfl'))⟩
  · intro h
    refine ⟨_, exec_registerWrite_next (by decide) (by decide) v, ?_⟩
    rw [show 0x040 = Pg.host * 4096 + 0x040 from rfl, State.writeReg_takes h (by decide) (by decide),
      State.writePage_variant]
    exact ⟨State.wrote_answer rfl, .answer (by decide) (.abandonUnlock (by decide) .rfl')⟩
  · intro h
    refine ⟨_, by rw [exec_winBaseHiWrite, execWinBaseHiWrite, State.writeTo_takes h], rfl, ?_, ?_, ?_⟩
    · exact (State.get_set_same ..).trans (Fld.of_mod ..)
    · have hlo : ((s.abandonUnlock Pg.host).set Pg.host HOST.WIN_BASE_HI_ADDR (HOST.WIN_BASE_HI_ADDR.of v)).get Pg.host
          HOST.WIN_BASE_LO_ADDR = s.get Pg.host HOST.WIN_BASE_LO_ADDR := State.get_set_off _ _ (by decide)
      simp only [State.answer_ctrl, State.get_set_same, Fld.of_mod, hlo]
    · exact .answer (by decide) (.with_ctrl (by decide) (.set (by simp [fields]) (.abandonUnlock (by decide) .rfl')))
  · intro h
    refine ⟨_, by rw [exec_remapWrite, execRemapWrite, State.writeTo_takes h], ?_⟩
    cases hc : Master.isCore m with
    | true =>
      exact ⟨State.wrote_answer rfl, fun _ => (State.get_set_same ..).trans (Fld.of_mod ..), nofun,
        .answer (by decide) (.set (by simp [fields]) (.abandonUnlock (by decide) .rfl'))⟩
    | false =>
      exact ⟨State.wrote_answer rfl, nofun, fun _ => rfl, .answer (by decide) (.abandonUnlock (by decide) .rfl')⟩
  · intro h hl s0 s1 i
    rw [exec_dramMapWrite_takes h hl v]
    by_cases ha : mapAllowed s0 (s.mapSize1 v) i = true
    · rw [if_pos ha]
      obtain ⟨h0, h1, hi⟩ := (s.abandonUnlock Pg.harness).get_setMap (p := Pg.harness) s0 (s.mapSize1 v) i
      refine ⟨_, rfl, State.wrote_answer rfl, fun _ => ⟨h0.trans (Fld.of_mod ..), h1.trans (State.mapSize1_mod v),
        hi.trans (Fld.of_mod ..)⟩, fun hn => absurd (ha.symm.trans hn) (by decide), ?_⟩
      exact .answer (by decide) (.set (by simp [fields]) (.set (by simp [fields]) (.set (by simp [fields])
        (.abandonUnlock (by decide) .rfl'))))
    · have hp : (s.abandonUnlock Pg.harness).present Pg.harness = true := h.1
      rw [if_neg ha]
      refine ⟨_, rfl, State.wrote_answer (State.event_ctrl ..), fun hy => absurd hy ha, fun _ => ⟨?_, ?_, ?_⟩, ?_⟩
      · exact State.evt_event_same hp 4 (by decide)
      · exact State.get_event_off _ _ _ (by decide)
      · exact State.get_event_off _ _ _ (by decide)
      · exact .answer (by decide) (.event (by decide) (by simp [fields]) (.abandonUnlock (by decide) .rfl'))

end

section
/-!
SUPPORT. What a write with its effect leaves, for each of the page header's registers, and what the mailbox's queue and its
refusals do (R33, R39, R41, R47, R50 to R52).
-/

namespace Sys2Proof.Machine

variable {s : State} {m : Master} {p : Nat}

theorem bar0Page_of (h : p < 0x4000) : bar0Page p = true := decide_eq_true h

/-- On operands of the block a meaning is its next state. -/
theorem guardWf_of {ok : Bool} (h : ok = true) (o : Outcome) : guardWf ok o = o := by rw [guardWf, if_pos h]

/-- Where its condition holds, an event has its effect. -/
theorem whenHolds_of {c : Bool} (h : c = true) (s : State) (f : State → State) : whenHolds c s f = f s := by
  rw [whenHolds, if_pos h]

theorem whenHolds_not {c : Bool} (h : c = false) (s : State) (f : State → State) : whenHolds c s f = s := by
  rw [whenHolds, h]; rfl

/-! ### Refusals -/

theorem exec_badAccess_next {off size : Nat} (write : Bool) (h : off < 2 ^ 26) (h4 : ¬ (size = 4 ∧ off % 4 = 0))
    (h8 : ¬ (size = 8 ∧ off % 8 = 0)) : exec (.badAccess write off size) s =
      .next (((s.count Pg.host HOST.BAD_ACCESS).event Pg.host 3).answer .unsupported) := by
  have ha : bar0Accepts off size = false := by
    simp only [bar0Accepts, Bool.or_eq_false_iff, Bool.and_eq_false_iff, decide_eq_false_iff_not]
    exact ⟨Decidable.not_and_iff_or_not.1 h4, Decidable.not_and_iff_or_not.1 h8⟩
  have hl : decide (off < bar0Size) = true := decide_eq_true h
  rw [exec_badAccess, execBadAccess, guardWf_of (by rw [hl, ha]; rfl)]

/-- The opcodes of R52 are those from 1 to 12. -/
theorem opcodeDefined_false {op : BitVec 8} (h : op.toNat = 0 ∨ 0x0C < op.toNat) : opcodeDefined op = false := by
  rw [opcodeDefined, inRange, Bool.and_eq_false_iff, decide_eq_false_iff_not, decide_eq_false_iff_not]
  omega

theorem exec_badOpcode_next {op : BitVec 8} (tag : BitVec 8) (h : op.toNat = 0 ∨ 0x0C < op.toNat) :
    exec (.badOpcode op tag) s = .next (if s.flag Pg.host HOST.MBX_STAT_BUSY then s.set Pg.host HOST.MBX_STAT_OVERRUN 1
      else (s.submit op.toNat tag []).reply op.toNat tag St.badOpcode []) := by
  rw [exec_badOpcode, execBadOpcode, whenHolds_of (by rw [opcodeDefined_false h]; rfl)]

/-- A flag reads 1 after 1 is written to it. -/
theorem State.flag_set_one (s : State) (p : Nat) {f : Fld} (i : Nat) (h : f.w = 1) : (s.set p f 1 i).flag p f i = true := by
  rw [State.flag_eq, State.get_set_same, h]; rfl

theorem State.flag_set_zero (s : State) (p : Nat) (f : Fld) (i : Nat) : (s.set p f 0 i).flag p f i = false := by
  rw [State.flag_eq, State.get_set_same, Nat.zero_mod]; rfl

end Sys2Proof.Machine
end

section
open Sys2Proof Sys2Proof.Machine

/-- Settles O8: each refusal is its count, its flag or its answer, and nothing else. -/
theorem refusedAccesses : Obligations.RefusedAccesses := by
  intro s
  refine ⟨?_, ?_, ?_, ?_, ?_⟩
  · intro write off size h h4 h8
    refine ⟨_, exec_badAccess_next write h h4 h8, rfl, ?_, State.evt_event_same (State.present_host _) 3 (by decide), ?_⟩
    · rw [State.answer_get, State.get_event_off _ _ _ (by decide), State.get_count_same]
      rfl
    · exact .answer (by decide) (.event (by decide) (by simp [fields]) (.count (by simp [fields]) .rfl'))
  · intro write addr
    exact ⟨_, rfl, rfl, .answered⟩
  · intro m off v ho hb ht
    rw [exec_overrun, execOverrun, guardWf_of ho, whenHolds_of hb, State.writeTo_takes ht]
    refine ⟨_, rfl, State.wrote_answer (State.set_ctrl ..), State.flag_set_one _ _ _ rfl, ?_⟩
    exact .answer (by decide) (.set (by simp [fields]) (.abandonUnlock (by decide) .rfl'))
  · intro op tag ho hb
    refine ⟨_, by rw [exec_badOpcode_next tag ho, hb]; rfl, State.reply_replied .., ?_⟩
    exact .reply (by decide) (by decide) (by decide) (fun _ h => h) (.onCtrl (by decide) .rfl')
  · intro op tag ho hb
    exact ⟨_, by rw [exec_badOpcode_next tag ho, hb]; rfl, State.flag_set_one _ _ _ rfl, .set (by simp [fields]) .rfl'⟩

end

section
/-!
SUPPORT. Event registers and vectors (R39, R41).
-/

namespace Sys2Proof.Machine

variable {s : State} {m : Master} {p : Nat}

/-- What W1C leaves of a register, bit by bit. -/
theorem testBit_clearBits (a b i : Nat) : (clearBits a b).testBit i = (a.testBit i && !b.testBit i) := by
  induction i generalizing a b with
  | zero =>
    have hle : a &&& b ≤ a := Nat.and_le_left
    have h1 := @Nat.and_mod_two_eq_one a b
    rw [Bool.eq_iff_iff]
    simp only [Nat.testBit_zero, clearBits, Bool.and_eq_true, Bool.not_eq_true', decide_eq_true_eq, decide_eq_false_iff_not]
    omega
  | succ i ih =>
    have hd : clearBits a b / 2 = clearBits (a / 2) (b / 2) := by
      have hle : a &&& b ≤ a := Nat.and_le_left
      have h1 := @Nat.and_mod_two_eq_one a b
      rw [clearBits, clearBits, ← Nat.and_div_two]
      omega
    rw [Nat.testBit_succ, Nat.testBit_succ, Nat.testBit_succ, hd, ih]

/-- Sending again on a write of the event registers reaches nothing but the vectors. -/
theorem Kept.evtWritten {A : List Area} {w : FKey → Prop} {k : Nat → Prop} {x : State} (h1 : Area.msix ∈ A)
    (h : Kept A w k s x) : Kept A w k s (x.evtWritten p) := by
  unfold State.evtWritten
  refine .ite (fun _ => .ite (fun _ => ?_) fun _ => ?_) (fun _ => .ite (fun _ => .sendMsix h1 h) fun _ => h)
  · exact .sendMsix h1 (.ite (fun _ => .sendMsix h1 h) fun _ => h)
  · exact .ite (fun _ => .sendMsix h1 h) fun _ => h

theorem State.evtWritten_ctrl (s : State) (p : Nat) : (s.evtWritten p).ctrl = s.ctrl :=
  (Kept.evtWritten (A := [.msix]) (w := fields []) (k := noByte) (by decide) .rfl').areas .ctrl (by decide)

theorem State.evtWritten_get (s : State) (p q : Nat) (f : Fld) (i : Nat) : (s.evtWritten p).get q f i = s.get q f i :=
  (Kept.evtWritten (A := [.msix]) (w := fields []) (k := noByte) (by decide) .rfl').get (fun h => nomatch h)

theorem exec_msixUnmask_read {off : Nat} (v : Word) (h : off < 0x10000) (h4 : off % 4 = 0) :
    exec (.msixUnmask off false v) s = .next (s.answer (.ok [s.bar4Word off])) := by
  rw [exec_msixUnmask, execMsixUnmask, guardWf_of (by simp [h, h4])]; rfl

theorem exec_msixUnmask_entry {k w : Nat} (v : Word) (hk : k < 64) (hw : w < 4) :
    exec (.msixUnmask (16 * k + 4 * w) true v) s = .next ((s.setMsix k ((s.msixOf k).write w v)).answer (.ok [])) := by
  have hd : (16 * k + 4 * w) / 16 = k := by omega
  have hm : (16 * k + 4 * w) / 4 % 4 = w := by omega
  rw [exec_msixUnmask, execMsixUnmask, guardWf_of (by simp; omega), if_neg (by decide), if_pos (by omega), hd, hm]

end Sys2Proof.Machine
end

section
open Sys2Proof Sys2Proof.Machine

/-- Settles O11: a write of an event register is its field write and a message, a word of BAR4 its entry. -/
theorem eventRegisters : Obligations.EventRegisters := by
  intro s m p v hp h
  refine ⟨?_, ?_, ?_, ?_, ?_⟩
  · rw [exec_pgEvtWrite, execPgEvtWrite, guardWf_of (bar0Page_of hp), State.writeTo_takes h]
    refine ⟨_, rfl, State.wrote_answer (State.evtWritten_ctrl ..), fun b hb => ?_, ?_⟩
    · rw [State.evt, State.answer_get, State.writeEvents, State.evtWritten_get, if_neg (by decide), State.get_set_same,
        Nat.testBit_mod_two_pow, testBit_clearBits, decide_eq_true (show b < PG.EVT.w from hb), Bool.true_and]
      rfl
    · exact .answer (by decide) (.evtWritten (by decide) (.set (by simp [fields]) (.abandonUnlock (by decide) .rfl')))
  · rw [exec_pgEvtWrite, execPgEvtWrite, guardWf_of (bar0Page_of hp), State.writeTo_takes h]
    refine ⟨_, rfl, State.wrote_answer (State.evtWritten_ctrl ..), ?_, ?_⟩
    · rw [State.answer_get, State.writeEvents, State.evtWritten_get, if_pos rfl, State.get_set_same]
      exact Nat.mod_eq_of_lt (Nat.lt_of_le_of_lt Nat.and_le_left v.isLt)
    · exact .answer (by decide) (.evtWritten (by decide) (.set (by simp [fields]) (.abandonUnlock (by decide) .rfl')))
  · rw [exec_pgEvtForce, execPgEvtForce, guardWf_of (bar0Page_of hp), State.writeTo_takes h]
    refine ⟨_, rfl, State.wrote_answer (State.events_ctrl ..), fun b hb => ?_, ?_⟩
    · have hq : (s.abandonUnlock p).present p = true := h.1
      rw [State.evt, State.answer_get, State.get_events_same _ _ _ hq, Nat.testBit_mod_two_pow, Nat.testBit_or,
        Nat.testBit_and, decide_eq_true (show b < PG.EVT.w from hb), Bool.true_and]
      rfl
    · exact .answer (by decide) (.events (by decide) (by simp [fields]) (.abandonUnlock (by decide) .rfl'))
  · intro off ho h4
    exact ⟨_, exec_msixUnmask_read v ho h4, rfl, .answered⟩
  · intro k w hk hw
    refine ⟨_, exec_msixUnmask_entry v hk hw, rfl, nget_nput_same .., ?_, fun j hj => nget_nput_ne _ _ _ _ (Ne.symm hj),
      .answer (by decide) (.with_msix (by decide) .rfl')⟩
    rintro rfl hv
    have hx : ((s.setMsix k ((s.msixOf k).write 3 v)).answer (.ok [])).msixOf k = (s.msixOf k).setMask false :=
      (nget_nput_same ..).trans (by rw [Msix.write, hv] <;> decide)
    rw [hx]
    refine ⟨rfl, rfl, ?_⟩
    simp only [Msix.setMask]
    cases (s.msixOf k).pending <;> rfl

end

section
/-!
SUPPORT. The window on a page's life counters (R41, R450), and the mailbox's queue (R51).
-/

namespace Sys2Proof.Machine

variable {s : State} {p : Nat}

/-- A counter of 32 bits captures nothing. -/
theorem State.readLife_narrow (h : lifeWide p (s.get p PG.LIFE_IDX_INDEX) = false) : s.readLife p =
    (if s.flag p PG.LIFE_IDX_AUTOINC then s.set p PG.LIFE_IDX_INDEX (s.get p PG.LIFE_IDX_INDEX + 1) else s,
      s.lifeWord p (s.get p PG.LIFE_IDX_INDEX)) := by
  rw [State.readLife]
  simp only [h]
  rfl

theorem exec_mbxDonePop_next (m : Master) : exec (.mbxDonePop m) s = .next (s.popDone.1.answer (.ok [s.popDone.2])) := by
  rw [exec_mbxDonePop, execMbxDonePop, State.readFrom, if_pos s.present_host]

theorem State.popDone_nil (h : s.ctrl.done = []) : s.popDone = (s, 0) := by rw [State.popDone, h]

theorem State.popDone_cons {r : DoneRec} {l : List DoneRec} (h : s.ctrl.done = r :: l) :
    s.popDone = (s.onCtrl fun c => { c with done := l }, doneWord r) := by rw [State.popDone, h]

/-- Firmware's next held record enters the queue. -/
theorem exec_mbxDoneRelease_room {r : DoneRec} {l : List DoneRec} (h : s.ctrl.held = r :: l)
    (hl : s.ctrl.done.length < 8) :
    exec .mbxDoneRelease s = .next ((s.onCtrl fun c => { c with held := l }).putDone r) := by
  rw [exec_mbxDoneRelease, execMbxDoneRelease, h]
  dsimp only
  rw [if_pos hl]

end Sys2Proof.Machine
end

section
open Sys2Proof Sys2Proof.Machine

/-- Settles O12: each word written to PG_LOCK has its own branch, and the window answers the counter that INDEX names. -/
theorem pageLock : Obligations.PageLock := by
  intro s m p hp h
  have lockWrites : ∀ v, s.lockWrite m p v = (s.writeLock p v).answer (.ok []) := fun v => by
    rw [State.lockWrite, if_pos h.1, if_pos h.2]
  have unlocks : ∀ v, exec (.pgLockUnlockKey m p v) s = .next ((s.writeLock p v).answer (.ok [])) := fun v => by
    rw [exec_pgLockUnlockKey, execPgLockUnlockKey, guardWf_of (bar0Page_of hp), lockWrites]
  refine ⟨?_, ?_, ?_, ?_, ?_⟩
  · rw [exec_pgLockLock, execPgLockLock, guardWf_of (bar0Page_of hp), lockWrites, State.writeLock, if_pos rfl]
    refine ⟨_, rfl, State.wrote_answer (State.setFlag_ctrl ..), State.flag_set_one _ _ _ rfl, ?_⟩
    exact .answer (by decide) (.setFlag (by simp [fields]) (.abandonUnlock (by decide) .rfl'))
  · rw [unlocks, State.writeLock, if_neg (by decide), if_pos rfl]
    refine ⟨_, rfl, rfl, List.mem_cons_self, rfl, ?_⟩
    exact .answer (by decide) (.onCtrl (by decide) (.abandonUnlock (by decide) .rfl'))
  · have hw : s.writeLock p 0x0F5A = if s.ctrl.unlockKey.contains p then s.setLock p false else s.abandonUnlock p := by
      rw [State.writeLock, if_neg (by decide), if_neg (by decide)]; rfl
    rw [unlocks, hw]
    by_cases hk : p ∈ s.ctrl.unlockKey
    · rw [if_pos (List.contains_iff_mem.2 hk)]
      refine ⟨_, rfl, State.wrote_answer (State.setFlag_ctrl ..), fun _ => State.flag_set_zero .., fun hn => absurd hk hn, ?_⟩
      exact .answer (by decide) (.setFlag (by simp [fields]) (.abandonUnlock (by decide) .rfl'))
    · rw [if_neg fun hc => hk (List.contains_iff_mem.1 hc)]
      refine ⟨_, rfl, State.wrote_answer rfl, fun hy => absurd hy hk, fun _ => rfl, ?_⟩
      exact .answer (by decide) (.abandonUnlock (by decide) .rfl')
  · intro v h1 h2 h3
    rw [unlocks, State.writeLock, if_neg h1, if_neg h2, if_neg fun hc => h3 (of_decide_eq_true (Bool.and_eq_true_iff.1 hc).1)]
    refine ⟨_, rfl, State.wrote_answer rfl, ?_⟩
    exact .answer (by decide) (.abandonUnlock (by decide) .rfl')
  · intro hw
    rw [exec_pgLifeDataRead, execPgLifeDataRead, guardWf_of (bar0Page_of hp), State.readFrom, if_pos h.1,
      State.readLife_narrow hw]
    refine ⟨_, rfl, rfl, ?_, .answer (by decide) (.ite (fun _ => .set (by simp [fields]) .rfl') fun _ => .rfl')⟩
    rw [State.answer_get]
    split
    · exact State.get_set_same ..
    · rfl

/-- Settles O13: the queue's head is the answer, and the held record's entry is the queue's new end. -/
theorem doneQueue : Obligations.DoneQueue := by
  intro s m
  refine ⟨?_, ?_, ?_⟩
  · intro hd
    rw [exec_mbxDonePop_next, State.popDone_nil hd]
    exact ⟨_, rfl, rfl, .answered⟩
  · intro r l hd
    rw [exec_mbxDonePop_next, State.popDone_cons hd]
    dsimp only
    exact ⟨_, rfl, rfl, rfl, .answer (by decide) (.onCtrl (by decide) .rfl')⟩
  · intro r l hh hl
    rw [exec_mbxDoneRelease_room hh hl]
    refine ⟨_, rfl, State.event_ctrl .., State.evt_event_same (State.present_host _) 1 (by decide), ?_⟩
    exact .event (by decide) (by simp [fields]) (.onCtrl (by decide) (.onCtrl (by decide) .rfl'))

end

section
/-!
SUPPORT. What answers, acceptances and ends of long commands leave of registers, by the place of a field.
-/

namespace Sys2Proof.Machine

variable {A : List Area} {l : List FKey} {m : Nat → Prop} {s u : State} {p : Nat} {f : Fld} {i : Nat}

theorem Kept.get_off (h : Kept A (fields l) m s u) (ho : ∀ k ∈ l, k.off ≠ f.off) : u.get p f i = s.get p f i :=
  h.get fun hk => ho _ hk rfl

theorem Kept.get_page (h : Kept A (fields l) m s u) (hp : ∀ k ∈ l, k.p ≠ p) : u.get p f i = s.get p f i :=
  h.get fun hk => hp _ hk rfl

theorem Kept.get_lo (h : Kept A (fields l) m s u) (ho : ∀ k ∈ l, k.off ≠ f.off ∨ k.lo ≠ f.lo) : u.get p f i = s.get p f i :=
  h.get fun hk => (ho _ hk).elim (fun h => h rfl) fun h => h rfl

/-- What an answer leaves: everything but the answer, the control complex, messages and the mailbox's fields. -/
theorem State.reply_kept (s : State) (op : Nat) (tag : BitVec 8) (st : Nat) (ws : List Word) :
    Kept [.resp, .ctrl, .msix] (fields replyFields) noByte s (s.reply op tag st ws) :=
  .reply (by decide) (by decide) (by decide) (fun _ h => h) .rfl'

theorem State.submit_kept (s : State) (op : Nat) (tag : BitVec 8) (args : List Word) :
    Kept [.resp, .ctrl, .msix] (fields replyFields) noByte s (s.submit op tag args) := .onCtrl (by decide) .rfl'

theorem State.reply_mix (s : State) (op : Nat) (tag : BitVec 8) (st : Nat) (ws : List Word) :
    (s.reply op tag st ws).mix = s.mix := (s.reply_kept op tag st ws).areas .mix (by decide)
theorem State.reply_fabric (s : State) (op : Nat) (tag : BitVec 8) (st : Nat) (ws : List Word) :
    (s.reply op tag st ws).fabric = s.fabric := (s.reply_kept op tag st ws).areas .fabric (by decide)

/-- The fields that the end of a long command writes. -/
def finishFields (page : Nat) : List FKey :=
  [fkey Pg.host PG.EVT 0, fkey page PG.PROGRESS_PERCENT 0, fkey page PG.EVT 0]

theorem State.finish_kept (s : State) (op : Nat) (tag : BitVec 8) (page st : Nat) :
    Kept [.ctrl, .msix] (fields (finishFields page)) noByte s (s.finish op tag page st) := by
  unfold State.finish State.longEnd State.queueDone State.putDone
  extract_lets s1
  have h1 : Kept [.ctrl, .msix] (fields (finishFields page)) noByte s s1 := .onCtrl (by decide) .rfl'
  have h2 : Kept [.ctrl, .msix] (fields (finishFields page)) noByte s
      ((if (st == St.ok) = true then s1.set page PG.PROGRESS_PERCENT 100 else s1).opDone page) :=
    .opDone (by decide) (by simp [fields, finishFields])
      (.ite (fun _ => .set (by simp [fields, finishFields]) h1) fun _ => h1)
  exact .ite (fun _ => .event (by decide) (by simp [fields, finishFields]) (.onCtrl (by decide) h2))
    fun _ => .onCtrl (by decide) h2

theorem State.accept_kept (s : State) (op : Nat) (tag : BitVec 8) (page : Nat) :
    Kept [.resp, .ctrl, .msix] (fields (replyFields ++ progressFields page)) noByte s (s.accept op tag page) :=
  .accept (by decide) (by decide) (by decide) (fun _ h => List.mem_append_left _ h) (fun _ h => List.mem_append_right _ h)
    .rfl'

theorem State.accept_fabric (s : State) (op : Nat) (tag : BitVec 8) (page : Nat) :
    (s.accept op tag page).fabric = s.fabric := (s.accept_kept op tag page).areas .fabric (by decide)
theorem State.finish_fabric (s : State) (op : Nat) (tag : BitVec 8) (page st : Nat) :
    (s.finish op tag page st).fabric = s.fabric := (s.finish_kept op tag page st).areas .fabric (by decide)

/-- An acceptance speaks of the state before it only by the long commands that ran. -/
theorem Accepted.of_long {op : Nat} {tag : BitVec 8} {page : Nat} {t : State} (h : Accepted op tag page t u)
    (hl : t.ctrl.long = s.ctrl.long) : Accepted op tag page s u :=
  ⟨h.reply, hl ▸ h.long, h.valid, h.percent, h.position⟩

/-- The end of a long command speaks of the state before it only by its queue. -/
theorem Finished.of_ctrl {op : Nat} {tag : BitVec 8} {page st : Nat} {t : State} (h : Finished op tag page st t u)
    (hd : t.ctrl.done = s.ctrl.done) (hh : t.ctrl.held = s.ctrl.held) : Finished op tag page st s u :=
  ⟨hd ▸ hh ▸ h.record, hd ▸ hh ▸ h.held, h.ended, h.event, h.percent⟩

end Sys2Proof.Machine
end

section
/-!
SUPPORT. COMMIT_AT: the checks that every kind shares, and the arming (R168, R169).
-/

namespace Sys2Proof.Machine

variable {s : State} {tag : BitVec 8} {kind : Nat} {arg : Word} {sec ns i : Nat} {setOk enabled busy : Bool}
  {rest : State → State}

theorem State.commitAt_tooLate (ha : commitArgOk kind arg sec ns = true) (hs : setOk = true) (he : enabled = true)
    (ht : sec * 1000000000 + ns < s.nanos0 + 5000000) :
    s.commitAt tag kind arg sec ns setOk enabled busy rest = s.reply Op.commitAt tag St.tooLate [] := by
  rw [State.commitAt, ha, hs, he, nsPerSec, if_neg (by decide), if_neg (by decide), if_pos ht]

theorem State.commitAt_passes (ha : commitArgOk kind arg sec ns = true) (hs : setOk = true) (he : enabled = true)
    (ht : s.nanos0 + 5000000 ≤ sec * 1000000000 + ns) (hb : busy = false) (hf : s.freeEntry = some i) :
    s.commitAt tag kind arg sec ns setOk enabled busy rest = rest s := by
  rw [State.commitAt, ha, hs, he, nsPerSec, if_neg (by decide), if_neg (by decide), if_neg (Nat.not_lt.2 ht), hb, hf,
    if_neg (by rw [Option.isNone_some]; decide)]

theorem State.arm_free (h : s.freeEntry = some i) (kind set sec ns : Nat) : s.arm kind set sec ns =
    s.onMix fun m => { m with commits := nset m.commits i ⟨kind, set, sec, ns, false, [], [], [], false⟩ } := by
  rw [State.arm, h]

variable (tag arg sec ns) in
/-- Firmware serves COMMIT_AT: the checks run on the state with the request in MBX_REQ. -/
theorem State.mailbox_commitAt (hs : s.serves) (f : State → State) : s.mailbox Op.commitAt tag (commitArgs arg sec ns) f =
    f (s.submit Op.commitAt tag (commitArgs arg sec ns)) := State.mailbox_serves hs ..

theorem exec_commitAtScene_arms (hs : s.serves) (ha : commitArgOk 1 arg sec ns = true) (hset : commitSet arg ≠ 0)
    (he : s.mixEnabled = true) (ht : s.nanos0 + 5000000 ≤ sec * 1000000000 + ns) (hc : s.changeArmed = false)
    (hr : s.mix.rampsEnd ≤ sec * 1000000000 + ns) (hf : s.freeEntry = some i) :
    exec (.commitAtScene tag arg sec ns) s = .next (((s.submit Op.commitAt tag (commitArgs arg sec ns)).arm Ck.scene
      (commitSet arg) sec ns).done Op.commitAt tag) := by
  have hb : (s.changeArmed || decide (sec * nsPerSec + ns < s.mix.rampsEnd)) = false := by
    rw [hc, Bool.false_or, decide_eq_false_iff_not]
    exact Nat.not_lt.2 hr
  rw [exec_commitAtScene, execCommitAtScene, State.mailbox_commitAt _ _ _ _ hs]
  exact congrArg _ (State.commitAt_passes ha (decide_eq_true hset) he ht hb hf)

theorem exec_commitAtRefSwitch_arms (hs : s.serves) (ha : commitArgOk 3 arg sec ns = true)
    (hset : commitSet arg / 8 % 16 = 0) (he : s.reinEnabled = true) (ht : s.nanos0 + 5000000 ≤ sec * 1000000000 + ns)
    (hf : s.freeEntry = some i) :
    exec (.commitAtRefSwitch tag arg sec ns) s = .next (((s.submit Op.commitAt tag (commitArgs arg sec ns)).arm
      Ck.refSwitch (commitSet arg) sec ns).done Op.commitAt tag) := by
  rw [exec_commitAtRefSwitch, execCommitAtRefSwitch, State.mailbox_commitAt _ _ _ _ hs]
  exact congrArg _ (State.commitAt_passes ha (decide_eq_true hset) he ht rfl hf)

theorem exec_commitAtHandover_refused (hs : s.serves) (ha : commitArgOk 4 arg sec ns = true) (hset : commitSet arg < 2)
    (ht : s.nanos0 + 5000000 ≤ sec * 1000000000 + ns) (hf : s.freeEntry = some i) :
    exec (.commitAtHandover tag arg sec ns) s =
      .next ((s.submit Op.commitAt tag (commitArgs arg sec ns)).refuseOpen Op.commitAt tag) := by
  rw [exec_commitAtHandover, execCommitAtHandover, State.mailbox_commitAt _ _ _ _ hs]
  exact congrArg _ (State.commitAt_passes ha (decide_eq_true hset) rfl ht rfl hf)

theorem exec_commitAtPlanSwap_arms {p : Plan} (hs : s.serves) (ha : commitArgOk 2 arg sec ns = true)
    (hset : commitSet arg < 2) (he : s.fabricEnabled = true) (ht : s.nanos0 + 5000000 ≤ sec * 1000000000 + ns)
    (hc : s.changeArmed = false) (hf : s.freeEntry = some i) (hh : s.pairHoldsBack = false)
    (had : s.admitted (commitSet arg) = true) (hru : s.slotRuns (commitSet arg) = false)
    (hp : s.slotPlan (commitSet arg) = some p) (hw : s.warmTooLate p (sec * 1000000000 + ns) = false) :
    exec (.commitAtPlanSwap tag arg sec ns) s = .next (((s.submit Op.commitAt tag (commitArgs arg sec ns)).armSwap
      (commitSet arg) sec ns p).done Op.commitAt tag) := by
  rw [exec_commitAtPlanSwap, execCommitAtPlanSwap, State.mailbox_commitAt _ _ _ _ hs]
  obtain ⟨r, hr⟩ : ∃ r, r = s.submit Op.commitAt tag (commitArgs arg sec ns) := ⟨_, rfl⟩
  have hh : r.pairHoldsBack = false := hr ▸ hh
  have had : r.admitted (commitSet arg) = true := hr ▸ had
  have hru : r.slotRuns (commitSet arg) = false := hr ▸ hru
  have hp : r.slotPlan (commitSet arg) = some p := hr ▸ hp
  have hw : r.warmTooLate p (sec * nsPerSec + ns) = false := hr ▸ hw
  have he : r.fabricEnabled = true := hr ▸ he
  have ht : r.nanos0 + 5000000 ≤ sec * 1000000000 + ns := hr ▸ ht
  have hc : r.changeArmed = false := hr ▸ hc
  have hf : r.freeEntry = some i := hr ▸ hf
  rw [← hr]
  dsimp only
  rw [State.commitAt_passes (kind := Ck.swap) ha (decide_eq_true hset) he ht hc hf]
  simp only [hh, had, hru, hp, hw]
  rfl

/-- An armed swap shows in PLAN_STAT and SWAP_STAT, and takes its entry of the commit table. -/
theorem State.armSwap_eq (hf : s.freeEntry = some i) (slot : Nat) (p : Plan) : ∃ l n,
    s.armSwap slot sec ns p = ((((s.onMix fun m => { m with
      commits := nset m.commits i ⟨Ck.swap, slot, sec, ns, false, [], [], [], false⟩ }).onFabric fun f => { f with
      swap := some ⟨slot, [], s.get Pg.fabric FABRIC.RELOC_CFG_WARM_BLOCKS, [], [], false⟩ }).set Pg.fabric
      FABRIC.PLAN_STAT_SWAP_ARMED 1).set Pg.mix MIX.SWAP_STAT_L l).set Pg.mix MIX.SWAP_STAT_RELOAD_TILES n := by
  rw [State.armSwap, State.arm_free hf]
  exact ⟨_, _, rfl⟩

end Sys2Proof.Machine
end

section
open Sys2Proof Sys2Proof.Machine

/-- Settles O36: past the shared checks each kind arms the first free entry; a time too near is refused before them. -/
theorem commits : Obligations.Commits := by
  intro s tag arg sec ns i hs
  refine ⟨fun ht => ⟨fun ha hset he => ?_, fun ha hset he => ?_⟩, fun ht hf => ⟨fun ha hset he hc hr => ?_,
    fun ha hset he => ?_, fun ha hset => ?_, fun p ha hset he hc hh had hru hp hw => ?_⟩⟩
  · rw [exec_commitAtScene, execCommitAtScene, State.mailbox_commitAt _ _ _ _ hs]
    exact ⟨_, congrArg _ (State.commitAt_tooLate ha (decide_eq_true hset) he ht), State.reply_replied ..,
      (s.submit_kept ..).trans (State.reply_kept ..)⟩
  · rw [exec_commitAtPlanSwap, execCommitAtPlanSwap, State.mailbox_commitAt _ _ _ _ hs]
    exact ⟨_, congrArg _ (State.commitAt_tooLate ha (decide_eq_true hset) he ht), State.reply_replied ..,
      (s.submit_kept ..).trans (State.reply_kept ..)⟩
  · rw [exec_commitAtScene_arms hs ha hset he ht hc hr hf, State.arm_free (s := s.submit _ _ _) hf]
    refine ⟨_, rfl, State.reply_replied .., State.reply_mix .., ?_⟩
    exact .reply (by decide) (by decide) (by decide) (fun _ h => h) (.onMix (by decide) (.onCtrl (by decide) .rfl'))
  · rw [exec_commitAtRefSwitch_arms hs ha hset he ht hf, State.arm_free (s := s.submit _ _ _) hf]
    refine ⟨_, rfl, State.reply_replied .., State.reply_mix .., ?_⟩
    exact .reply (by decide) (by decide) (by decide) (fun _ h => h) (.onMix (by decide) (.onCtrl (by decide) .rfl'))
  · rw [exec_commitAtHandover_refused hs ha hset ht hf]
    refine ⟨_, rfl, State.reply_replied .., ?_⟩
    exact .reply (by decide) (by decide) (by decide) (fun _ h => h) (.free (by decide) (.onCtrl (by decide) .rfl'))
  · rw [exec_commitAtPlanSwap_arms hs ha hset he ht hc hf hh had hru hp hw]
    obtain ⟨l, n, e⟩ := State.armSwap_eq (s := s.submit Op.commitAt tag (commitArgs arg sec ns)) (sec := sec) (ns := ns) hf
      (commitSet arg) p
    rw [e]
    refine ⟨_, rfl, State.reply_replied .., State.reply_mix .., State.reply_fabric .., ?_, ?_⟩
    · rw [State.flag_eq, State.done, State.get_reply (by decide) (by decide), State.get_set_off _ _ (by decide),
        State.get_set_off _ _ (by decide), State.get_set_same]
      rfl
    · refine .reply (by decide) (by decide) (by decide) (fun _ h => List.mem_append_right _ h) ?_
      exact .set (by simp [fields]) (.set (by simp [fields]) (.set (by simp [fields]) (.onFabric (by decide)
        (.onMix (by decide) (.onCtrl (by decide) .rfl')))))

end

section
/-!
SUPPORT. Plan slots: loading, verification and admission (R52, R75, R76, R245).
-/

namespace Sys2Proof.Machine

variable {s : State} {tag : BitVec 8} {slot : Nat}

theorem State.present_fabric (s : State) : s.present Pg.fabric = true := by
  unfold State.present
  cases s.part <;> decide

theorem loadedFld_off (k : Nat) : (loadedFld k).off = 0x0F0 := by unfold loadedFld; split <;> rfl
theorem admittedFld_off (k : Nat) : (admittedFld k).off = 0x0F0 := by unfold admittedFld; split <;> rfl
theorem loadedFld_w (k : Nat) : (loadedFld k).w = 1 := by unfold loadedFld; split <;> rfl
theorem loadedFld_lo_ne (k j : Nat) : (admittedFld k).lo ≠ (loadedFld j).lo := by
  unfold admittedFld loadedFld
  split <;> split <;> decide

theorem State.slotPlan_setSlot (s : State) (k : Nat) (p : Option Plan) : (s.setSlot k p).slotPlan k = p := by
  simp only [State.slotPlan, State.setSlot, State.setFlag_fabric, State.onFabric_fabric]
  split <;> rfl

theorem State.setSlot_loading (s : State) (k : Nat) (p : Option Plan) :
    (s.setSlot k p).fabric.loading = s.fabric.loading := by
  simp only [State.setSlot, State.setFlag_fabric, State.onFabric_fabric]
  split <;> rfl

/-- The other of the two slots. -/
theorem State.slotPlan_setSlot_other (s : State) {k : Nat} (p : Option Plan) (h : k ≤ 1) :
    (s.setSlot k p).slotPlan (1 - k) = s.slotPlan (1 - k) := by
  obtain rfl | rfl : k = 0 ∨ k = 1 := by omega
  · rfl
  · rfl

theorem State.slotPlan_of_fabric {u : State} (h : u.fabric = s.fabric) (k : Nat) : u.slotPlan k = s.slotPlan k := by
  rw [State.slotPlan, State.slotPlan, h]

theorem State.flag_loaded_setSlot (s : State) (k : Nat) (p : Option Plan) :
    (s.setSlot k p).flag Pg.fabric (loadedFld k) = p.isSome := by
  rw [State.setSlot, State.flag_eq, State.setFlag_eq, State.get_set_same, loadedFld_w]
  cases p <;> rfl

theorem State.admitted_setAdmitted (s : State) (k : Nat) (b : Bool) : (s.setAdmitted k b).admitted k = b := by
  have hw : (admittedFld k).w = 1 := by unfold admittedFld; split <;> rfl
  rw [State.admitted, State.setAdmitted, State.flag_eq, State.setFlag_eq, State.get_set_same, hw]
  cases b <;> rfl

/-- PLAN_LOAD into a free slot. -/
theorem exec_planLoad_accepts {addr len : Nat} (hs : s.serves) (hk : slot ≤ 1) (hl : 0 < len) (ha : addr < 2 ^ 48)
    (he : s.fabricEnabled = true) (hr : s.slotRuns slot = false) (hm : s.slotArmed slot = false)
    (hn : s.fabric.loading = none) : ∃ r, (∃ args, r = s.submit Op.planLoad tag args) ∧
      exec (.planLoad tag addr len slot) s = .next ((((r.setSlot slot none).setAdmitted slot false).onFabric fun f =>
        { f with loading := some ⟨slot, len, tag⟩ }).accept Op.planLoad tag Pg.fabric) := by
  rw [exec_planLoad, execPlanLoad, State.mailbox_serves hs]
  obtain ⟨r, e⟩ : ∃ r, r = s.submit Op.planLoad tag (addrArgs addr ++ [BitVec.ofNat 32 len, BitVec.ofNat 32 slot]) :=
    ⟨_, rfl⟩
  have he : r.fabricEnabled = true := e ▸ he
  have hr : r.slotRuns slot = false := e ▸ hr
  have hb : (r.slotArmed slot || r.fabric.loading.isSome) = false := by
    rw [show r.slotArmed slot = false from e ▸ hm, show r.fabric.loading = none from e ▸ hn]; rfl
  have hg : (decide (1 < slot) || decide (len = 0) || decide (2 ^ 48 ≤ addr)) = false := by simp; omega
  refine ⟨r, ⟨_, e⟩, ?_⟩
  rw [← e]
  simp only [hg, he, hr, hb]
  rfl

/-- What a finished load leaves, whatever it found. -/
def State.loaded (s : State) (l : PlanLoading) : State :=
  (s.onFabric fun f => { f with loading := none }).set Pg.fabric PG.PROGRESS_POSITION (l.len / 1024)

theorem exec_planLoadDone_ok {l : PlanLoading} {img : PlanImage} (h : s.fabric.loading = some l)
    (hi : imageOk l img = true) (hf : s.streamsFit img.plan = true) : exec (.planLoadDone img) s =
      .next (((s.loaded l).setSlot l.slot (some img.plan)).finish Op.planLoad l.tag Pg.fabric St.ok) := by
  have hf' : (s.loaded l).streamsFit img.plan = true := by
    have hm : ∀ c, (s.loaded l).mappedGiB c = s.mappedGiB c := fun c => State.get_set_page _ _ (by decide)
    have hd : (s.loaded l).dramCount = s.dramCount := rfl
    simpa only [State.streamsFit, hm, hd] using hf
  rw [exec_planLoadDone, execPlanLoadDone, h]
  exact congrArg _ (if_pos (by rw [hi]; exact hf'))

theorem exec_planLoadDone_bad {l : PlanLoading} {img : PlanImage} (h : s.fabric.loading = some l)
    (hi : imageOk l img = false) : exec (.planLoadDone img) s =
      .next ((s.loaded l).finish Op.planLoad l.tag Pg.fabric St.badArg) := by
  rw [exec_planLoadDone, execPlanLoadDone, h]
  exact congrArg _ (if_neg (by rw [hi]; exact Bool.false_ne_true))

/-- PLAN_ADMIT of an empty slot, of one that passes every check, and of one that fails one. -/
theorem exec_planAdmit_serves (hs : s.serves) (hk : slot ≤ 1) (he : s.fabricEnabled = true)
    (hl : s.slotLoading slot = false) : ∃ r, (∃ args, r = s.submit Op.planAdmit tag args) ∧
      (r.slotPlan slot = none → exec (.planAdmit tag slot) s = .next (((r.setAdmitted slot false).recordFailure
        (AdmitFail.of Ad.notLoaded)).reply Op.planAdmit tag St.refused (AdmitFail.of Ad.notLoaded).words)) ∧
      (∀ p, r.slotPlan slot = some p → r.admitFailure p = none → exec (.planAdmit tag slot) s =
        .next (((r.setSlot slot (some (r.strike p))).setAdmitted slot true).done Op.planAdmit tag)) ∧
      (∀ p f, r.slotPlan slot = some p → r.admitFailure p = some f → exec (.planAdmit tag slot) s =
        .next (((r.setAdmitted slot false).recordFailure f).reply Op.planAdmit tag St.refused f.words)) := by
  rw [exec_planAdmit, execPlanAdmit, State.mailbox_serves hs]
  obtain ⟨r, e⟩ : ∃ r, r = s.submit Op.planAdmit tag [BitVec.ofNat 32 slot] := ⟨_, rfl⟩
  have he : r.fabricEnabled = true := e ▸ he
  have hl : r.slotLoading slot = false := e ▸ hl
  refine ⟨r, ⟨_, e⟩, ?_⟩
  rw [← e]
  simp only [if_neg (Nat.not_lt.2 hk), he, hl, Bool.not_true, Bool.false_eq_true, if_false]
  refine ⟨fun hn => ?_, fun p hp hf => ?_, fun p f hp hf => ?_⟩
  · rw [hn]
  · simp only [hp, State.admitPlan, hf]
  · simp only [hp, State.admitPlan, hf]

/-- A refused admission leaves its slot's ADMITTED 0 and shows the check. -/
theorem State.recordFailure_shows (s : State) (k : Nat) (f : AdmitFail) :
    ((s.setAdmitted k false).recordFailure f).admitted k = false ∧
    ((s.setAdmitted k false).recordFailure f).get Pg.fabric FABRIC.PLAN_STAT_FAIL_CHECK =
      f.reason % 2 ^ FABRIC.PLAN_STAT_FAIL_CHECK.w := by
  have ha := s.admitted_setAdmitted k false
  have hlo : ∀ g ∈ [FABRIC.PLAN_STAT_FAIL_CHECK, FABRIC.PLAN_STAT_FAIL_TILE], g.lo ≠ (admittedFld k).lo := by
    unfold admittedFld
    split <;> decide
  have hoff : ∀ g ∈ [FABRIC.ADMIT_DECL_HU, FABRIC.ADMIT_LIMIT_HU], g.off ≠ (admittedFld k).off := by
    rw [admittedFld_off]
    decide
  have h1 : ((s.setAdmitted k false).set Pg.fabric FABRIC.PLAN_STAT_FAIL_CHECK f.reason).admitted k = false := by
    rw [State.admitted, State.flag_eq, State.get_set_lo _ _ (hlo _ (by simp)), ← State.flag_eq]
    exact ha
  unfold State.recordFailure
  extract_lets t
  split
  · constructor
    · rw [State.admitted, State.flag_eq, State.get_set_off _ _ (hoff _ (by simp)), State.get_set_off _ _ (hoff _ (by simp)),
        State.get_set_lo _ _ (hlo _ (by simp)), ← State.flag_eq]
      exact h1
    · rw [State.get_set_off _ _ (by decide), State.get_set_off _ _ (by decide), State.get_set_lo _ _ (by decide)]
      exact State.get_set_same ..
  · exact ⟨h1, State.get_set_same ..⟩

theorem Kept.recordFailure {A : List Area} {w : FKey → Prop} {m : Nat → Prop} {x : State} (hw : ∀ k, k.p = Pg.fabric → w k)
    (f : AdmitFail) (h : Kept A w m s x) : Kept A w m s (x.recordFailure f) :=
  .ite (fun _ => .set (hw _ rfl) (.set (hw _ rfl) (.set (hw _ rfl) (.set (hw _ rfl) h)))) fun _ => .set (hw _ rfl) h

theorem State.recordFailure_fabric (s : State) (f : AdmitFail) : (s.recordFailure f).fabric = s.fabric := by
  unfold State.recordFailure
  split <;> rfl

theorem Kept.setSlot {A : List Area} {w : FKey → Prop} {m : Nat → Prop} {x : State} (h1 : Area.fabric ∈ A)
    {k : Nat} (hw : w (fkey Pg.fabric (loadedFld k) 0)) (p : Option Plan) (h : Kept A w m s x) :
    Kept A w m s (x.setSlot k p) := .setFlag hw (.onFabric h1 h)

theorem Kept.setAdmitted {A : List Area} {w : FKey → Prop} {m : Nat → Prop} {x : State} {k : Nat}
    (hw : w (fkey Pg.fabric (admittedFld k) 0)) (b : Bool) (h : Kept A w m s x) : Kept A w m s (x.setAdmitted k b) :=
  .setFlag hw h

end Sys2Proof.Machine
end

section
open Sys2Proof Sys2Proof.Machine

/-- Settles O35: a load empties its slot and its end fills it or leaves it empty; an admission sets ADMITTED, or clears it
and records the failed check. -/
theorem planSlots : Obligations.PlanSlots := by
  refine ⟨?_, ?_, ?_, ?_⟩
  · intro s tag addr len slot hs hk hl ha he hr hm hn
    obtain ⟨r, ⟨args, rfl⟩, e⟩ := exec_planLoad_accepts (tag := tag) hs hk hl ha he hr hm hn
    have hacc := fun t : State => State.accept_kept t Op.planLoad tag Pg.fabric
    rw [e]
    refine ⟨_, rfl, (State.accept_accepted ..).of_long rfl, ?_, ?_, ?_, ?_, ?_, ?_⟩
    · rw [State.slotPlan_of_fabric (State.accept_fabric ..)]
      exact State.slotPlan_setSlot ..
    · rw [State.slotPlan_of_fabric (State.accept_fabric ..)]
      exact State.slotPlan_setSlot_other _ _ hk
    · rw [State.accept_fabric]
      rfl
    · rw [State.flag_eq, (hacc _).get_off (by rw [loadedFld_off]; decide), State.onFabric_get, State.setAdmitted,
        State.setFlag_eq, State.get_set_lo _ _ (loadedFld_lo_ne _ _), ← State.flag_eq]
      exact State.flag_loaded_setSlot ..
    · rw [State.admitted, State.flag_eq, (hacc _).get_off (by rw [admittedFld_off]; decide), State.onFabric_get, ← State.flag_eq]
      exact State.admitted_setAdmitted ..
    · refine .accept (by decide) (by decide) (by decide) (fun k h => ?_) (fun k h => ?_) (.onFabric (by decide)
        (.setAdmitted ?_ _ (.setSlot (by decide) ?_ _ (.onCtrl (by decide) .rfl'))))
      · exact List.mem_append_left _ (List.mem_append_left _ h)
      · exact List.mem_append_left _ (List.mem_append_right _ h)
      · simp [fields]
      · simp [fields]
  · intro s l img h hi hf
    rw [exec_planLoadDone_ok h hi hf]
    have hfin := fun t : State => State.finish_kept t Op.planLoad l.tag Pg.fabric St.ok
    refine ⟨_, rfl, (State.finish_finished _ _ _ _ _ (State.present_fabric _)).of_ctrl rfl rfl, ?_, ?_, ?_, ?_, ?_⟩
    · rw [State.slotPlan_of_fabric (State.finish_fabric ..), State.slotPlan_setSlot]
    · rw [State.finish_fabric, State.setSlot_loading]
      rfl
    · rw [State.flag_eq, (hfin _).get_off (by rw [loadedFld_off]; decide), ← State.flag_eq]
      exact State.flag_loaded_setSlot ..
    · rw [(hfin _).get_lo (by decide), State.setSlot, State.setFlag_eq, State.get_set_off _ _ (by rw [loadedFld_off]; decide)]
      exact State.get_set_same ..
    · refine .finish (by decide) (by decide) (fun k h => ?_) (.setSlot (by decide) ?_ _ (.set ?_ (.onFabric (by decide) .rfl')))
      · rcases List.mem_cons.1 h with rfl | h
        · exact List.mem_cons_self
        · exact List.mem_cons_of_mem _ (List.mem_cons_of_mem _ h)
      · simp [fields]
      · simp [fields, progressFields]
  · intro s l img h hi
    rw [exec_planLoadDone_bad h hi]
    refine ⟨_, rfl, (State.finish_finished _ _ _ _ _ (State.present_fabric _)).of_ctrl rfl rfl, State.finish_fabric .., ?_⟩
    exact .finish (by decide) (by decide) (fun k h => h) (.set (by simp [fields, progressFields]) (.onFabric (by decide) .rfl'))
  · intro s tag slot hs hk he hl
    obtain ⟨r, ⟨args, hr⟩, empty, passes, fails⟩ := exec_planAdmit_serves (tag := tag) hs hk he hl
    have hk : Kept [.resp, .ctrl, .msix, .fabric] (fun k => k ∈ replyFields ∨ k.p = Pg.fabric) noByte s r :=
      hr ▸ .onCtrl (by decide) .rfl'
    have hrep := fun t : State => State.reply_kept t Op.planAdmit tag
    have hstrike : r.strike = s.strike := by rw [hr]; rfl
    have hfail : r.admitFailure = s.admitFailure := by rw [hr]; rfl
    have hslot : r.slotPlan slot = s.slotPlan slot := by rw [hr]; rfl
    have hfab : r.fabric = s.fabric := by rw [hr]; rfl
    rw [← hslot]
    have hkept : ∀ {t : State} (st : Nat) (ws : List Word),
        Kept [.resp, .ctrl, .msix, .fabric] (fun k => k ∈ replyFields ∨ k.p = Pg.fabric) noByte s t →
        Kept [.resp, .ctrl, .msix, .fabric] (fun k => k ∈ replyFields ∨ k.p = Pg.fabric) noByte s
          (t.reply Op.planAdmit tag st ws) := fun st ws h =>
      .reply (by decide) (by decide) (by decide) (fun _ h => .inl h) h
    have shows : ∀ f : AdmitFail, let u := ((r.setAdmitted slot false).recordFailure f).reply Op.planAdmit tag St.refused f.words
        u.admitted slot = false ∧ u.fabric = s.fabric ∧
          u.get Pg.fabric FABRIC.PLAN_STAT_FAIL_CHECK = f.reason % 2 ^ FABRIC.PLAN_STAT_FAIL_CHECK.w ∧
          Kept [.resp, .ctrl, .msix, .fabric] (fun k => k ∈ replyFields ∨ k.p = Pg.fabric) noByte s u := by
      intro f u
      obtain ⟨h1, h2⟩ := r.recordFailure_shows slot f
      refine ⟨?_, ?_, ?_, hkept _ _ (.recordFailure (fun _ h => .inr h) f (.setAdmitted (.inr rfl) _ hk))⟩
      · rw [State.admitted, State.flag_eq, (hrep _ _ _).get_off (by rw [admittedFld_off]; decide), ← State.flag_eq]
        exact h1
      · rw [State.reply_fabric, State.recordFailure_fabric]
        exact hfab
      · rw [(hrep _ _ _).get_off (by decide)]
        exact h2
    cases hp : r.slotPlan slot with
    | none =>
      obtain ⟨h1, h2, h3, h4⟩ := shows (AdmitFail.of Ad.notLoaded)
      exact ⟨_, empty hp, fun _ => ⟨State.reply_replied .., h1, h3, h2⟩, nofun, nofun, h4⟩
    | some p =>
      cases hf : r.admitFailure p with
      | none =>
        have hf' : s.admitFailure p = none := hfail ▸ hf
        refine ⟨_, passes p hp hf, nofun, ?_, ?_, hkept _ _ (.setAdmitted (.inr rfl) _ (.setSlot (by decide) (.inr rfl) _ hk))⟩
        · rintro q ⟨⟩ -
          refine ⟨State.reply_replied .., ?_, ?_⟩
          · rw [State.done, State.admitted, State.flag_eq, (hrep _ _ _).get_off (by rw [admittedFld_off]; decide), ← State.flag_eq]
            exact State.admitted_setAdmitted ..
          · rw [State.done, State.slotPlan_of_fabric (State.reply_fabric ..), ← hstrike]
            exact State.slotPlan_setSlot ..
        · rintro q f ⟨⟩ h
          exact absurd (hf'.symm.trans h) nofun
      | some f =>
        have hf' : s.admitFailure p = some f := hfail ▸ hf
        obtain ⟨h1, h2, h3, h4⟩ := shows f
        refine ⟨_, fails p f hp hf, nofun, ?_, ?_, h4⟩
        · rintro q ⟨⟩ h
          exact absurd (hf'.symm.trans h) nofun
        · rintro q g ⟨⟩ h
          obtain rfl : f = g := Option.some.inj (hf'.symm.trans h)
          exact ⟨State.reply_replied .., h1, h2, h3⟩

end

section
/-!
SUPPORT. The end of FW_UPDATE on an image that does not fit into control SRAM (R54).
-/

namespace Sys2Proof.Machine

/-- An image of given bytes. -/
def imageOf (l : List Byte) : ImgInfo where
  major := 1
  minor := 0
  build := 0
  secver := 0xFFFF
  lifeBase := 0
  lifeSize := 0
  sliceM := 0
  sliceT := 0
  bytes := l

theorem exists_oversizeImage : ∃ i : ImgInfo, Mem.sramSize < i.bytes.length := by
  have hlen : ∀ n, (imageOf (List.replicate n 0)).bytes.length = n := fun _ => List.length_replicate
  exact ⟨imageOf (List.replicate (Mem.sramSize + 1) 0), (hlen _).symm ▸ Nat.lt_succ_self _⟩

theorem judged_oversize {i : ImgInfo} (h : Mem.sramSize < i.bytes.length) : judged (.ok i) = .length := by
  rw [judged, if_pos h]

/-- A state in which FW_UPDATE runs under the tag 9. -/
def updating : State := State.reset.onCtrl fun c => { c with long := [⟨BitVec.ofNat 8 Op.fwUpdate, 9⟩] }

theorem exec_fwUpdateDone_oversize {i : ImgInfo} (h : Mem.sramSize < i.bytes.length) :
    exec (.fwUpdateDone (.ok i)) updating = .next (updating.finish Op.fwUpdate 9 Pg.ctrl St.badArg) := by
  have hl : (updating.ctrl.long.find? fun l => l.op == BitVec.ofNat 8 Op.fwUpdate) =
    some ⟨BitVec.ofNat 8 Op.fwUpdate, 9⟩ := rfl
  rw [exec_fwUpdateDone, execFwUpdateDone]
  simp only [hl, judged_oversize h]

end Sys2Proof.Machine
end

section
open Sys2Proof Sys2Proof.Machine

/-- Refutes O34: an image whose signature verifies (`.ok`) may still be too long for control SRAM, and FW_UPDATE then ends
with BAD_ARG, not with OK as the second clause says of every `.ok`. -/
theorem not_firmwareUpdate : ¬ Obligations.FirmwareUpdate := by
  intro h
  obtain ⟨i, hi⟩ := exists_oversizeImage
  obtain ⟨-, ends, -⟩ := h updating
  obtain ⟨u, hu, hok, -⟩ := ends ⟨BitVec.ofNat 8 Op.fwUpdate, 9⟩ (.ok i) rfl
  obtain ⟨⟨record, -, -, -, -⟩, -⟩ := hok i rfl
  rw [exec_fwUpdateDone_oversize hi] at hu
  injection hu with hu
  subst hu
  have hbad := (updating.finish_finished Op.fwUpdate 9 Pg.ctrl St.badArg rfl).record rfl (by decide)
  exact absurd ((record rfl (by decide)).1.symm.trans hbad.1) (by decide)

end

section
/-!
SUPPORT. What the reset and the retirement of a master leave (R234), and a BAR2 request of one piece (R34, R221).
-/

namespace Sys2Proof.Machine

variable {A : List Area} {w : FKey → Prop} {k : Nat → Prop} {s x : State} {m : Nat}

theorem testBit_setBits (a m i : Nat) : (setBits a (2 ^ m)).testBit i = (a.testBit i || decide (m = i)) := by
  rw [setBits, Nat.testBit_or, Nat.testBit_two_pow]

theorem State.freeCut_girth (s : State) (hit : Txn → Bool) : (s.freeCut hit).2.girth = s.girth := by
  unfold State.freeCut
  split <;> rfl

theorem Kept.freeCut {hit : Txn → Bool} (h1 : Area.free ∈ A) (h : Kept A w k s x) : Kept A w k s (x.freeCut hit).2 := by
  unfold State.freeCut
  split
  · exact .free h1 h
  · exact h

/-! ### The reset of a master -/

/-- A transaction of a reset master; `v` says where a DRAM write is cut. -/
def orphaned (m v : Nat) (t : Txn) : Txn :=
  if t.req.master == m && !t.orphan then
    { t with
      orphan := true
      onBehalf := t.req.write && (0 < t.beats || inRange 32 t.port 33)
      req := if t.dramWrite then reqCutAt t.req (t.beatsDone v) else t.req }
  else t

theorem orphaned_master (m v : Nat) (t : Txn) : (orphaned m v t).req.master = t.req.master := by
  unfold orphaned
  split <;> dsimp only
  split <;> rfl

theorem orphaned_granted (m v : Nat) (t : Txn) : (orphaned m v t).granted = t.granted := by
  unfold orphaned
  split <;> rfl

/-- What a reset master has waiting in the Harness and in the Girth is withdrawn, and its locks are broken. -/
def State.withdrawMaster (s : State) (m : Nat) : State :=
  let cut := s.freeCut fun t => t.req.master == m && t.req.write
  (cut.2.onHarness fun h => { h with
    held := h.held.filter fun r => r.master ≠ m
    txns := (h.txns.filter fun t => t.granted || t.req.master ≠ m).map (orphaned m cut.1) }).onGirth fun g => { g with
      locks := g.locks.filter fun l => l.1 ≠ m
      banks := g.banks.map fun e => (e.1, { e.2 with waiting := e.2.waiting.map fun x =>
        if x.master = m then { x with strobes := List.replicate x.len false, locked := false } else x }) }

/-- Locked sequences that the reset of a master breaks fail. -/
def State.failLocks (s : State) (broken : Nat) : State :=
  if broken = 0 then s else (s.count Pg.harness HARNESS.LOCK_FAILS broken).event Pg.harness 2

theorem State.resetMaster_eq (s : State) (m : Nat) : s.resetMaster m =
    ((s.withdrawMaster m).failLocks (s.girth.locks.countP fun l => l.1 == m)).set Pg.harness HARNESS.MRST_STAT_PENDING
      (setBits (((s.withdrawMaster m).failLocks (s.girth.locks.countP fun l => l.1 == m)).get Pg.harness
        HARNESS.MRST_STAT_PENDING) (2 ^ m)) := by
  rw [← s.freeCut_girth fun t => t.req.master == m && t.req.write]
  rfl

theorem Kept.withdrawMaster (h1 : Area.free ∈ A) (h2 : Area.harness ∈ A) (h3 : Area.girth ∈ A) (h : Kept A w k s x) :
    Kept A w k s (x.withdrawMaster m) := by
  unfold State.withdrawMaster
  exact .onGirth h3 (.onHarness h2 (.freeCut h1 h))

theorem Kept.failLocks {n : Nat} (h1 : Area.msix ∈ A) (hf : w (fkey Pg.harness HARNESS.LOCK_FAILS 0))
    (he : w (fkey Pg.harness PG.EVT 0)) (h : Kept A w k s x) : Kept A w k s (x.failLocks n) :=
  .ite (fun _ => h) fun _ => .event h1 he (.count hf h)

/-- The registers that the reset of a master writes. -/
def resetMasterFields : List FKey :=
  [fkey Pg.harness HARNESS.LOCK_FAILS 0, fkey Pg.harness HARNESS.MRST_STAT_PENDING 0, fkey Pg.harness PG.EVT 0]

theorem State.resetMaster_kept (s : State) (m : Nat) :
    Kept [.free, .harness, .girth, .msix] (fields resetMasterFields) noByte s (s.resetMaster m) := by
  rw [State.resetMaster_eq]
  exact .set (by simp [fields, resetMasterFields]) (.failLocks (by decide) (by simp [fields, resetMasterFields])
    (by simp [fields, resetMasterFields]) (.withdrawMaster (by decide) (by decide) (by decide) .rfl'))

/-- A reset master is pending, and the others are pending as before. -/
theorem State.masterInReset_resetMaster (s : State) {j : Nat} (hj : j < 13) :
    (s.resetMaster m).masterInReset j = (s.masterInReset j || decide (m = j)) := by
  have h : Kept [.free, .harness, .girth, .msix] (fields [fkey Pg.harness HARNESS.LOCK_FAILS 0, fkey Pg.harness PG.EVT 0])
      noByte s ((s.withdrawMaster m).failLocks (s.girth.locks.countP fun l => l.1 == m)) :=
    .failLocks (by decide) (by simp [fields]) (by simp [fields]) (.withdrawMaster (by decide) (by decide) (by decide) .rfl')
  rw [State.resetMaster_eq, State.masterInReset, State.get_set_same, Nat.testBit_mod_two_pow, testBit_setBits,
    h.get_off (by decide), decide_eq_true (show j < HARNESS.MRST_STAT_PENDING.w from hj), Bool.true_and, State.masterInReset]

theorem State.failLocks_girth (s : State) (n : Nat) : (s.failLocks n).girth = s.girth := by
  unfold State.failLocks
  split <;> simp

theorem State.failLocks_harness (s : State) (n : Nat) : (s.failLocks n).harness = s.harness := by
  unfold State.failLocks
  split <;> simp

theorem State.resetMaster_locks (s : State) (m : Nat) : ∀ l ∈ (s.resetMaster m).girth.locks, l.1 ≠ m := by
  intro l h
  rw [State.resetMaster_eq, State.set_girth, State.failLocks_girth] at h
  exact of_decide_eq_true (List.mem_filter.1 h).2

/-- What a reset master still has in the Harness was granted before. -/
theorem State.resetMaster_txns (s : State) (m : Nat) :
    ∀ t ∈ (s.resetMaster m).harness.txns, t.req.master = m → t.granted = true := by
  intro t h hm
  rw [State.resetMaster_eq, State.set_harness, State.failLocks_harness] at h
  obtain ⟨y, hy, rfl⟩ := List.mem_map.1 h
  rw [orphaned_master] at hm
  rw [orphaned_granted]
  simpa [hm] using (List.mem_filter.1 hy).2

/-! ### The retirement of a master -/

theorem Kept.showRefresh {c r : Nat} (hw : ∀ k, k.p = Pg.dram c → w k) (h : Kept A w k s x) :
    Kept A w k s (x.showRefresh c r) := .setFlag (hw _ rfl) (.set (hw _ rfl) h)

theorem Kept.payRefresh {c r n : Nat} (h1 : Area.drams ∈ A) (hw : ∀ k, k.p = Pg.dram c → w k) (h : Kept A w k s x) :
    Kept A w k s (x.payRefresh c r n) :=
  .ite (fun _ => h) fun _ => .showRefresh hw (.onDram h1 h)

theorem Kept.serveRefresh {c r : Nat} (h1 : Area.drams ∈ A) (hw : ∀ k, k.p = Pg.dram c → w k) (h : Kept A w k s x) :
    Kept A w k s (x.serveRefresh c r) :=
  .ite (fun _ => .payRefresh h1 hw h) fun _ =>
    .ite (fun _ => .count (hw _ rfl) (.payRefresh h1 hw h)) fun _ => .showRefresh hw h

/-- A read at a DRAM port leaves refreshes only. -/
theorem State.endDram_kept (s : State) {t : Txn} (h : t.req.write = false) :
    Kept [.drams] (fun _ => True) noByte s (s.endDram t) := by
  unfold State.endDram
  rw [h]
  refine .each _ _ (fun u c _ => .each _ _ (fun v r _ => ?_) _) _
  exact .ite (fun _ => .serveRefresh (by decide) (fun _ _ => trivial) .rfl') fun _ => .rfl'

theorem State.settleRetention_kept (s : State) : Kept [] (fun _ => True) noByte s s.settleRetention :=
  .each _ _ (fun _ _ _ => .ite (fun _ => .set trivial .rfl') fun _ => .rfl') _

/-- What a retired master leaves in the Harness and in memory, where none of its DRAM writes is under way. -/
theorem State.retireMaster_leaves (s : State) (m : Nat)
    (h : ∀ t ∈ s.harness.txns, t.req.master = m → t.dramWrite = false) :
    (s.retireMaster m).harness.txns = s.harness.txns.filter (fun t => t.req.master ≠ m) ∧
      (s.retireMaster m).harness.held = s.harness.held ∧ ∀ a, (s.retireMaster m).byte a = s.byte a := by
  unfold State.retireMaster
  extract_lets bursts ends s1 s2 s3 p s4
  have h2 : Kept [.drams] (fun _ => True) noByte s1 s2 := .each _ _ (fun u t ht => by
    obtain ⟨hin, hq⟩ := List.mem_filter.1 ht
    simp only [Bool.and_eq_true, beq_iff_eq] at hq
    obtain ⟨⟨hm, hg⟩, hp⟩ := hq
    refine u.endDram_kept ?_
    simpa [Txn.dramWrite, hg, hp] using h t hin hm) _
  have h4 : Kept [.drams, .girth, .msix] (fun _ => True) noByte s1 ((s4.count p HARNESS.MRST_BURSTS bursts).event p
      3).settleRetention := by
    refine .trans (t := (s4.count p HARNESS.MRST_BURSTS bursts).event p 3) (.event (by decide) trivial (.count trivial (.set trivial (.onGirth (by decide)
      (h2.mono (by decide) (fun _ h => h) fun _ h => h))))) ?_
    exact (State.settleRetention_kept _).mono (by decide) (fun _ h => h) fun _ h => h
  have hh : _ = s1.harness := h4.areas .harness (by decide)
  refine ⟨by rw [hh]; rfl, by rw [hh]; rfl, fun a => h4.mem a id⟩

/-! ### The host's window -/

/-- A BAR2 request within a 4 KiB page is one piece. -/
theorem State.bar2Pieces_one (s : State) (write : Bool) (data : List Byte) (strobes : List Bool) (n : Nat) {a len : Nat}
    (h : 1 ≤ len) (h4 : a % 4096 + len ≤ 4096) : s.bar2Pieces write data strobes (n + 2) a len =
      s.requestPiece ⟨11, 0, a % 2 ^ 48, len, write, data.take len, strobes.take len, false, 0, false⟩ := by
  have hn : min len (4096 - a % 4096) = len := by omega
  rw [State.bar2Pieces, if_neg (by omega)]
  simp only [hn, Nat.sub_self]
  rw [State.bar2Pieces, if_pos rfl]

/-- With nothing held back, a piece is a request under the master's least free ID. -/
theorem State.requestPiece_issues {r : HReq} (hh : s.harness.held = []) (hi : s.mayIssue r.master = true) :
    s.requestPiece r = s.request { r with id := s.freeId r.master } := by
  rw [State.requestPiece, hh, hi]
  rfl

end Sys2Proof.Machine
end

section
open Sys2Proof Sys2Proof.Machine

/-- Settles O15: one piece enters at once, the end of a transaction is the release of its path, and the reset and the
retirement of a master are what they leave in the Harness. -/
theorem harnessWindow : Obligations.HarnessWindow := by
  refine ⟨?_, ?_, ?_, ?_⟩
  · intro s write off len data strobes h1 ho hd hi hh h4 r
    have hg : (decide (1 ≤ len) && decide (off + len ≤ 2 ^ 30) && (!write || decide (data.length = len))) = true := by
      rw [decide_eq_true h1, decide_eq_true ho]
      cases write
      · rfl
      · rw [decide_eq_true (hd rfl)]
        rfl
    refine ⟨_, ?_, rfl⟩
    rw [exec_bar2Access, execBar2Access, guardWf_of hg, whenHolds_of hi]
    dsimp only
    rw [State.bar2Pieces_one s write data strobes _ h1 h4, State.requestPiece_issues hh hi]
  · intro s master id t ht hp
    refine ⟨_, ?_, rfl⟩
    rw [exec_transactionEnd, execTransactionEnd]
    simp only [ht, State.endTxn, hp, Bool.false_eq_true, if_false]
  · intro s m hm
    have hk := s.resetMaster_kept m
    refine ⟨_, by rw [exec_masterReset, execMasterReset, guardWf_of (decide_eq_true hm)], ?_, s.resetMaster_locks m,
      s.resetMaster_txns m, fun a => hk.mem a id, hk⟩
    exact (s.masterInReset_resetMaster hm).trans (by rw [decide_eq_true rfl, Bool.or_true])
  · intro s m hm hr hh hd
    obtain ⟨htxns, hheld, hbytes⟩ := s.retireMaster_leaves m hd
    refine ⟨s.retireMaster m, ?_, ?_, hbytes⟩
    · rw [exec_mrstDone, execMrstDone, guardWf_of (decide_eq_true hm), whenHolds_of hr, hh]
      rfl
    · intro t ht
      rw [htxns] at ht
      exact of_decide_eq_true (List.mem_filter.1 ht).2

end

section
/-!
SUPPORT. A port whose drain completes a descriptor in the Girth (R42, R286).
-/

namespace Sys2Proof.Machine

/-- MAC 0 is enabled, and one descriptor waits in its queue 7 that is longer than MAX_FRAME lets it be. -/
def waitingMac : State :=
  let s := (State.reset.set (Pg.mac 0) PG.CTRL_EN 1).set (Pg.mac 0) MAC.CFG_MAX_FRAME 0
  (s.set (Pg.mac 0) MAC.TXQ_CFG_COUNT 2 7).set (Pg.mac 0) MAC.TXQ_PROD_PROD 1 7

/-- The drain ends that descriptor with BAD_ARG, and the status reaches byte 1 of its word 2. -/
theorem drainUnit_waitingMac_byte :
    ((waitingMac.abandonUnlock (Pg.mac 0)).drainUnit (Pg.mac 0)).byte (Mem.girth + 9) = 6 := rfl

theorem waitingMac_takes : waitingMac.takes (.core 0) (Pg.mac 0) := ⟨rfl, rfl⟩
theorem waitingMac_enabled : waitingMac.flag (Pg.mac 0) PG.CTRL_DRAIN = false ∧ waitingMac.flag (Pg.mac 0) PG.CTRL_EN = true :=
  ⟨rfl, rfl⟩

/-- DRAIN of a unit whose EN is not fixed. -/
theorem exec_drain_takes {s : State} {m : Master} {p : Nat} (hp : p < 0x4000) (h : s.takes m p) (hu : unitOf p ≠ .fixed) :
    exec (.drain m p) s = .next (((s.abandonUnlock p).drainUnit p).answer (.ok [])) := by
  rw [exec_drain, execDrain, guardWf_of (bar0Page_of hp), State.ctrlWrite, State.writeTo_takes h, if_neg hu]

end Sys2Proof.Machine
end

section
open Sys2Proof Sys2Proof.Machine

/-- Refutes O10: the drain of an enabled port completes the descriptors that it has fetched, and the completion of one that
is out of its ranges is written to the Girth, so the drain does not leave every byte as it was. -/
theorem not_enabling : ¬ Obligations.Enabling := by
  intro h
  obtain ⟨hdrain, hen⟩ := waitingMac_enabled
  obtain ⟨-, -, drains, -⟩ := h waitingMac (.core 0) (Pg.mac 0) (by decide) waitingMac_takes
  obtain ⟨-, u, hu, -, -, -, hbyte⟩ := (drains (by decide) hdrain).1 hen
  rw [exec_drain_takes (by decide) waitingMac_takes (by decide)] at hu
  injection hu with hu
  have hend := hbyte (Mem.girth + 9)
  rw [← hu, State.answer_byte, drainUnit_waitingMac_byte] at hend
  exact absurd hend (by decide)

end

section
/-!
SUPPORT. A driver fault pin that is low when RESET_N falls (R470).
-/

namespace Sys2Proof.Machine

/-- RESET_N is high, and loop 0's driver shows a fault. -/
def driverFault : State :=
  ((State.reset.onCtrl fun c => { c with resetN := true }).setLoop 0 { Stirrup.reset with drvLow := true }).set
    (Pg.stirrup 0) STIRRUP.STAT_DRV_FLT 1

theorem exec_resetNFall_driverFault : exec .resetNFall driverFault =
    .next ((driverFault.cold false).setVaultFailed driverFault.vaultFailed) := rfl

/-- No reset changes a field that shows the level of a pin. -/
theorem resetNFall_driverFault_pin : ((driverFault.cold false).setVaultFailed driverFault.vaultFailed).get (Pg.stirrup 0)
    STIRRUP.STAT_DRV_FLT = 1 := rfl

end Sys2Proof.Machine
end

section
open Sys2Proof Sys2Proof.Machine

/-- Refutes O31: STAT.DRV_FLT of a loop shows the level of its driver's fault pin, so the fall of RESET_N does not put it at
its reset value, though its page is neither the Girth's nor the Keeper's. -/
theorem not_resets : ¬ Obligations.Resets := by
  rintro ⟨-, -, -, falls, -⟩
  obtain ⟨u, hu, -, -, -, -, -, hreset⟩ := falls driverFault rfl
  rw [exec_resetNFall_driverFault] at hu
  injection hu with hu
  have hpin := hreset (Pg.stirrup 0) STIRRUP.STAT_DRV_FLT 0 (by decide) (by decide)
  rw [← hu, resetNFall_driverFault_pin] at hpin
  exact absurd hpin (by decide)

end

section
/-!
SUPPORT. What the PTP instances and the Rein leave as they steer the counters (R320, R321, R329): all but their own two
pages, and what sources bring with them. Used where firmware reaches RUN.
-/

namespace Sys2Proof.Machine

/-- The parts of the state, and the registers, that steering changes. -/
def steering : List Area := .time :: .rein :: reacting
def steered (k : FKey) : Prop := (k.p = Pg.time ∨ k.p = Pg.rein) ∨ reaction k

/-- Only the PTP instances and the Rein have moved. -/
abbrev Steers (s u : State) : Prop := Kept steering steered noByte s u

variable {s x : State}

/-! ### Operations -/

theorem Steers.set {p f v i} (h : Steers s x) (hp : p = Pg.time ∨ p = Pg.rein := by decide) : Steers s (x.set p f v i) :=
  Kept.set (.inl hp) h

theorem Steers.setFlag {p f b i} (h : Steers s x) (hp : p = Pg.time ∨ p = Pg.rein := by decide) :
    Steers s (x.setFlag p f b i) := Kept.setFlag (.inl hp) h

theorem Steers.count {p f n i} (h : Steers s x) (hp : p = Pg.time ∨ p = Pg.rein := by decide) :
    Steers s (x.count p f n i) := Kept.count (.inl hp) h

theorem Steers.event {p b} (h : Steers s x) : Steers s (x.event p b) := Kept.event (by decide) (.inr (.inl rfl)) h
theorem Steers.lifeAdd {p i n} (h : Steers s x) : Steers s (x.lifeAdd p i n) := Kept.lifeAdd (by decide) h

theorem Steers.raise {a b} (h : Steers s x) : Steers s (x.raise a b) := Kept.raise (by decide) (fun _ => .inr) h
theorem Steers.lower {a b} (h : Steers s x) : Steers s (x.lower a b) := Kept.lower (by decide) (fun _ => .inr) h

theorem Steers.setSource {a b o} (h : Steers s x) : Steers s (x.setSource a b o) :=
  Kept.setSource (by decide) (fun _ => .inr) h

theorem Steers.freeErr {n} (h : Steers s x) : Steers s (x.freeErr n).2 := Kept.free (by decide) h
theorem Steers.onRein {f} (h : Steers s x) : Steers s (x.onRein f) := Kept.onRein (by decide) h
theorem Steers.onRef {i f} (h : Steers s x) : Steers s (x.onRef i f) := h.onRein
theorem Steers.onDpll {k f} (h : Steers s x) : Steers s (x.onDpll k f) := h.onRein
theorem Steers.onTime {y} (h : Steers s x) : Steers s { x with time := y } := Kept.with_time (by decide) h

theorem Steers.ite {c : Prop} [Decidable c] {t u : State} (h : Steers s t) (k : Steers s u) :
    Steers s (if c then t else u) := Kept.ite (fun _ => h) fun _ => k

theorem Steers.each {α : Type} {l : List α} {f : State → α → State} (h : Steers s x)
    (hf : ∀ {t a}, Steers s t → Steers s (f t a)) : Steers s (x.each l f) := State.each_induction _ _ _ (fun _ _ => hf) _ h

/-! ### Counters and PTP instances -/

theorem Steers.setCounter {n c} (h : Steers s x) : Steers s (x.setCounter n c) := h.onTime
theorem Steers.setInc {n inc} (h : Steers s x) : Steers s (x.setInc n inc) := h.onTime.setCounter
theorem Steers.writeInc {n v} (h : Steers s x) : Steers s (x.writeInc n v) := .ite h.set.setInc h.set.set.event
theorem Steers.fwInc {n inc} (h : Steers s x) : Steers s (x.fwInc n inc) := .ite h.set.writeInc h.event
theorem Steers.setPtp {n p} (h : Steers s x) : Steers s (x.setPtp n p) := h.onTime
theorem Steers.ptpSource (h : Steers s x) : Steers s x.ptpSource := h.setSource
theorem Steers.showMaster {n cls utc} (h : Steers s x) : Steers s (x.showMaster n cls utc) := h.set.set

theorem Steers.setServo {n st} (h : Steers s x) : Steers s (x.setServo n st) := by
  unfold State.setServo
  refine .ite h ?_
  extract_lets s1 p s2 s3 s4
  have h2 : Steers s s2 := h.set.event.setPtp
  have h4 : Steers s s4 := .ite (.ite h2.fwInc.lifeAdd h2.fwInc) h2
  exact h4.ptpSource

/-! ### The Rein's selection -/

theorem Steers.refreshQl {i} (h : Steers s x) : Steers s (x.refreshQl i) := by
  unfold State.refreshQl
  extract_lets p
  split
  · exact h
  · exact h
  · split
    · exact h.set.set
    · exact h.set
  · exact h.set

theorem Steers.requalify {i} (h : Steers s x) : Steers s (x.requalify i) := .ite h.set.onRef (.ite h.onRef h)

theorem Steers.dropDisputes {gone} (h : Steers s x) : Steers s (x.dropDisputes gone) :=
  h.onRein.each fun ht => .ite ht ht.lower

theorem Steers.updateDisputes (h : Steers s x) : Steers s x.updateDisputes :=
  h.onRein.dropDisputes.each fun ht => .ite ht.onRein.event.raise ht

theorem Steers.trackSoft (h : Steers s x) : Steers s x.trackSoft := h.each fun ht => ht.onRef
theorem Steers.holdSources (h : Steers s x) : Steers s x.holdSources := h.each fun ht => ht.setSource.setSource

theorem Steers.putDpll {k st} (h : Steers s x) : Steers s (x.putDpll k st) :=
  .ite h (.ite h.set.onRein.event (.ite h.set.event h.set.event))

theorem Steers.setDpll {k st} (h : Steers s x) : Steers s (x.setDpll k st) :=
  (Steers.ite h.putDpll.putDpll h.putDpll).holdSources

theorem Steers.moveFreq {k from_ to_ slew} (h : Steers s x) : Steers s (x.moveFreq k from_ to_ slew) := h.onDpll

theorem Steers.aim {k fresh} (h : Steers s x) : Steers s (x.aim k fresh) := by
  unfold State.aim
  split
  · exact (h.freeErr (n := 9)).moveFreq.onDpll
  · exact h

theorem Steers.endSwitch (h : Steers s x) : Steers s x.endSwitch := .ite h.set.event h
theorem Steers.unselect (h : Steers s x) : Steers s x.unselect := by
  unfold State.unselect
  exact h.set.set.set.onRein

theorem Steers.enterHold {k asIs} (h : Steers s x) : Steers s (x.enterHold k asIs) := by
  unfold State.enterHold
  extract_lets st slot toFree
  refine .ite ?_ h
  have he : Steers s (x.freeErr 10).2 := h.freeErr
  split
  split
  rename_i e t eq
  rw [eq] at he
  extract_lets s1 s2 s3 s4 s5
  have h2 : Steers s s2 := (Steers.ite h.moveFreq he.moveFreq).onDpll
  have h3 : Steers s s3 := .ite h2.unselect.endSwitch h2
  have h4 : Steers s s4 := .ite h3.setFlag h3
  exact .ite h3.setDpll h4.count.lifeAdd.event.setDpll

theorem Steers.switchTo {k i} (h : Steers s x) : Steers s (x.switchTo k i) := by
  unfold State.switchTo
  extract_lets st s1 s2 s3 s4 s5 s6
  have h1 : Steers s s1 := h.onDpll
  have h3 : Steers s s3 := .ite (.ite h1.set.set h1.set.set.set) h1
  have h4 : Steers s s4 := .ite h3.set.set h3
  have h6 : Steers s s6 := (Steers.ite (.ite h3.onRein h3) h4.count.lifeAdd.event).aim
  exact .ite h6 h6.setDpll

theorem Steers.startPick {cur} (h : Steers s x) : Steers s (x.startPick cur) := by
  unfold State.startPick
  split
  · exact .ite (.ite h.set h.set.set.onDpll.aim) h
  · exact h

theorem Steers.selectAuto (h : Steers s x) : Steers s x.selectAuto := by
  unfold State.selectAuto
  split
  · exact h.enterHold
  · split
    · exact h.switchTo.startPick
    · refine .ite h.switchTo (.ite h.set.switchTo ?_)
      split
      · exact h.set.switchTo
      · exact h.set.startPick

theorem Steers.select0 (h : Steers s x) : Steers s x.select0 := by
  unfold State.select0
  extract_lets man s1
  have h1 : Steers s s1 := h.each fun ht => ht.set
  exact .ite h1.selectAuto (.ite (.ite h1 h1.switchTo) h1.enterHold)

theorem Steers.select1 (h : Steers s x) : Steers s x.select1 := .ite (.ite (.ite h h.switchTo) h.enterHold) h

theorem Steers.steerGrandmaster (h : Steers s x) : Steers s x.steerGrandmaster := by
  unfold State.steerGrandmaster
  split
  · exact .ite h.fwInc h
  · exact h

theorem Steers.reselect (h : Steers s x) : Steers s x.reselect := by
  unfold State.reselect
  extract_lets s1 was s2
  have h1 : Steers s s1 := (h.each fun ht => ht.refreshQl.requalify).updateDisputes.trackSoft
  have h2 : Steers s s2 := .ite h1.select0.select1 h1
  exact .ite h2 h2.steerGrandmaster

/-- What the restart of one of the two PTP ports is. -/
def State.restartInstance (s : State) (n : Nat) : State :=
  if (s.profile n).toNat % 16 = 0 then s
  else ((s.setPtp n { s.ptp n with master := none, good := 0, bad := 0 }).showMaster n (s.ptp n).cls (s.ptp n).utc).setServo
    n Servo.listening

/-- The PTP instances start again without touching anything but themselves and the Rein. -/
theorem State.restartPtp_steers (s : State) : Steers s s.restartPtp := by
  have h : Steers s s := .rfl'
  have h1 : Steers s (s.each [0, 1] State.restartInstance).ptpSource :=
    (h.each fun ht => .ite ht ht.setPtp.showMaster.setServo).ptpSource
  exact .ite h1.reselect h1

end Sys2Proof.Machine
end

section
/-!
SUPPORT. What the boot ROM leaves when it starts an image (R29, R30, R55).
-/

namespace Sys2Proof.Machine

variable {A : List Area} {w : FKey → Prop} {m : Nat → Prop} {s t u x : State} {b : BootView} {i : ImgInfo} {y : Slot}

/-! ### Runs of bytes -/

theorem State.byte_setBytes_below (s : State) (l : List Byte) {a z : Nat} (h : z < a) : (s.setBytes a l).byte z = s.byte z := by
  induction l generalizing s a with
  | nil => rfl
  | cons v l ih => rw [State.setBytes, ih _ (by omega), State.byte_setByte_ne _ _ (by omega)]

/-- Bytes stored from an address on are read there. -/
theorem State.byte_setBytes_in (s : State) (l : List Byte) {a k : Nat} (h : k < l.length) :
    (s.setBytes a l).byte (a + k) = l.getD k 0 := by
  induction l generalizing s a k with
  | nil => exact absurd h (Nat.not_lt_zero k)
  | cons v l ih =>
    rw [State.setBytes]
    cases k with
    | zero => exact (State.byte_setBytes_below _ _ (Nat.lt_succ_self a)).trans (State.byte_setByte_same ..)
    | succ k =>
      rw [show a + (k + 1) = a + 1 + k by omega, ih _ (Nat.lt_of_succ_lt_succ h)]
      rfl

theorem Kept.setBytes {a n : Nat} {l : List Byte} (hm : ∀ z, bytesIn a n z → m z) (hl : l.length ≤ n)
    (h : Kept A w m s x) : Kept A w m s (x.setBytes a l) := by
  induction l generalizing x a n with
  | nil => exact h
  | cons v l ih =>
    have hl' : l.length + 1 ≤ n := hl
    refine ih (a := a + 1) (n := n - 1) (fun z hz => hm z ?_) (by omega) (.setByte (hm a ⟨Nat.le_refl a, by omega⟩) h)
    obtain ⟨h1, h2⟩ := hz
    exact ⟨by omega, by omega⟩

/-! ### The image that starts -/

/-- An image that passes verification fits into control SRAM. -/
theorem length_of_verdict (h : verdictOf b y = .ok i) : i.bytes.length ≤ Mem.sramSize := by
  unfold verdictOf judged at h
  split at h
  · split at h
    · exact absurd h nofun
    · split at h
      · exact absurd h nofun
      · obtain rfl := SlotVerdict.ok.inj h
        omega
  · rename_i hne
    exact absurd h (hne i)

theorem Kept.applySlices (h1 : Area.ctrl ∈ A) (hm : w (fkey Pg.harness HARNESS.SLICE_M_SLICES 0))
    (ht : w (fkey Pg.harness HARNESS.SLICE_T_SLICES 0)) (h : Kept A w m s x) : Kept A w m s (x.applySlices i) :=
  .ite (fun _ => h) fun _ => .set ht (.set hm (.onCtrl h1 h))

/-- The image copied, with the state and the slot that BOOT_STAT then shows. -/
def State.imageLoaded (s : State) (y : Slot) (i : ImgInfo) : State :=
  (((s.copyImage i).onCtrl fun c => { c with img := i, wdogAt := s.now }).setFw Fw.verify).set Pg.host
    HOST.BOOT_STAT_SLOT (slotCode y)

/-- The registers that the boot ROM writes behind BOOT_STAT. -/
def startFields : List FKey :=
  [fkey Pg.harness HARNESS.SLICE_M_SLICES 0, fkey Pg.harness HARNESS.SLICE_T_SLICES 0,
    fkey Pg.harness HARNESS.REMAP_REMAP 0, fkey Pg.life LIFE.AREA_BASE 0, fkey Pg.life LIFE.AREA_SIZE 0,
    fkey Pg.ctrl CTRL.WDOG_STAT_ARMED 0, fkey Pg.ctrl CTRL.CORE_STAT_RUNNING 0]

theorem State.startImage_kept (s : State) (y : Slot) (i : ImgInfo) :
    Kept [.ctrl] (fields startFields) noByte (s.imageLoaded y i) (s.startImage y i) := by
  unfold State.startImage
  refine .set ?_ (.set ?_ (.set ?_ (.set ?_ (.set ?_ (.applySlices (by decide) ?_ ?_ .rfl')))))
  all_goals simp [fields, startFields]

theorem State.imageLoaded_kept (s : State) (y : Slot) (hl : i.bytes.length ≤ Mem.sramSize) :
    Kept [.ctrl] (fields [fkey Pg.host HOST.BOOT_STAT_FW_STATE 0, fkey Pg.host HOST.BOOT_STAT_SLOT 0])
      (bytesIn Mem.sram Mem.sramSize) s (s.imageLoaded y i) :=
  .set (by simp [fields]) (.set (by simp [fields]) (.onCtrl (by decide) (.setBytes (fun _ h => h) hl .rfl')))

theorem State.applySlices_ctrl (s : State) (i : ImgInfo) : (s.applySlices i).ctrl = { s.ctrl with sliced := true } := by
  unfold State.applySlices
  split
  · rename_i h
    rw [← h]
  · rfl

theorem State.startImage_ctrl (s : State) (y : Slot) (i : ImgInfo) :
    (s.startImage y i).ctrl = { (s.copyImage i).ctrl with img := i, wdogAt := s.now, sliced := true } := by
  unfold State.startImage
  extract_lets s1 s2 s3
  have h3 : s3.ctrl = _ := State.applySlices_ctrl s2 i
  exact h3

theorem State.copyImage_ctrl (s : State) (hl : i.bytes.length ≤ Mem.sramSize) : (s.copyImage i).ctrl = s.ctrl :=
  (Kept.setBytes (A := []) (w := fields []) (fun _ h => h) hl .rfl').areas .ctrl (by decide)

/-- What the boot ROM leaves of a slot's image. -/
theorem State.startImage_booted (s : State) (y : Slot) (hl : i.bytes.length ≤ Mem.sramSize) :
    Booted y i (s.startImage y i) := by
  have hk := s.startImage_kept y i
  have hload := (s.imageLoaded_kept y hl).areas .clock (by decide)
  constructor
  · rw [State.fwState, hk.get_page (by decide), State.imageLoaded, State.get_set_lo _ _ (by decide)]
    exact State.get_set_same ..
  · rw [hk.get_page (by decide), State.imageLoaded, State.get_set_same]
    cases y <;> rfl
  · unfold State.startImage
    rw [State.flag_eq, State.get_set_page _ _ (by decide), State.get_set_page _ _ (by decide),
      State.get_set_page _ _ (by decide), State.get_set_page _ _ (by decide), State.get_set_same]
    rfl
  · intro k _ hk'
    rw [hk.mem _ id]
    exact State.byte_setBytes_in _ _ hk'
  · refine ⟨?_, ?_⟩
    · unfold State.startImage
      rw [State.flag_eq, State.get_set_off _ _ (by decide), State.get_set_same]
      rfl
    · rw [State.startImage_ctrl]
      exact hload.symm.trans (hk.areas .clock (by decide)).symm
  · refine ⟨?_, ?_⟩
    · unfold State.startImage
      rw [State.get_set_page _ _ (by decide), State.get_set_page _ _ (by decide), State.get_set_lo _ _ (by decide),
        State.get_set_same]
      exact Nat.mod_eq_of_lt i.lifeBase.isLt
    · unfold State.startImage
      rw [State.get_set_page _ _ (by decide), State.get_set_page _ _ (by decide), State.get_set_same]
      exact Nat.mod_eq_of_lt i.lifeSize.isLt

/-- A slot that verifies and is not marked failed is started. -/
theorem State.bootFrom_boots (h : s.boots b y i) : s.bootFrom b y = s.startImage y i := by
  obtain ⟨hflash, hfailed, hv⟩ := h
  rw [State.bootFrom, if_pos hflash, State.trySlot, if_neg (by rw [hfailed]; exact Bool.false_ne_true), hv]

/-- The slice counts follow the header where no image has set them since the last reset, and stay where one has. -/
theorem State.startImage_slices (s : State) (y : Slot) (hl : i.bytes.length ≤ Mem.sramSize) :
    (s.ctrl.sliced = false → Sliced i (s.startImage y i)) ∧
    (s.ctrl.sliced = true →
      (s.startImage y i).get Pg.harness HARNESS.SLICE_M_SLICES = s.get Pg.harness HARNESS.SLICE_M_SLICES ∧
      (s.startImage y i).get Pg.harness HARNESS.SLICE_T_SLICES = s.get Pg.harness HARNESS.SLICE_T_SLICES) := by
  have hload := s.imageLoaded_kept y hl
  have hc : (s.imageLoaded y i).ctrl.sliced = s.ctrl.sliced := by
    rw [← s.copyImage_ctrl hl]
    rfl
  have hend : ∀ f : Fld, f.off ≠ HARNESS.REMAP_REMAP.off →
      (s.startImage y i).get Pg.harness f = ((s.imageLoaded y i).applySlices i).get Pg.harness f := fun f hf => by
    unfold State.startImage
    rw [State.get_set_page _ _ (by decide), State.get_set_page _ _ (by decide), State.get_set_page _ _ (by decide),
      State.get_set_page _ _ (by decide), State.get_set_off _ _ (Ne.symm hf)]
    rfl
  unfold Sliced
  rw [hend _ (by decide), hend _ (by decide), State.applySlices, hc]
  refine ⟨fun h => ?_, fun h => ?_⟩
  · rw [h, if_neg (by decide)]
    refine ⟨?_, (State.get_set_same ..).trans (Nat.mod_eq_of_lt i.sliceT.isLt)⟩
    rw [State.get_set_off _ _ (by decide), State.get_set_same]
    exact Nat.mod_eq_of_lt i.sliceM.isLt
  · rw [h, if_pos rfl]
    exact ⟨hload.get_page (by decide), hload.get_page (by decide)⟩

end Sys2Proof.Machine
end

section
/-!
SUPPORT. Firmware reaches RUN (R473), and what the stages of bring-up leave (R456, R474 to R478).
-/

namespace Sys2Proof.Machine

variable {A : List Area} {w : FKey → Prop} {m : Nat → Prop} {s t u x : State} {p : Nat} {f : Fld} {i : Nat}

/-! ### RUN -/

/-- A reaction reaches event bits, the Cinch's page and the loops' pages only. -/
theorem not_reaction (ho : f.off ≠ PG.EVT.off) (hp : p ≠ Pg.cinch ∧ p < 0x240) : ¬ reaction (fkey p f i) := by
  obtain ⟨hc, hl⟩ := hp
  rintro (h | h | ⟨h, -⟩)
  · exact ho h
  · exact hc h
  · exact Nat.not_le_of_lt hl h

theorem not_steered (ho : f.off ≠ PG.EVT.off) (hp : p ≠ Pg.time ∧ p ≠ Pg.rein ∧ p ≠ Pg.cinch ∧ p < 0x240) :
    ¬ steered (fkey p f i) := by
  obtain ⟨ht, hr, hc, hl⟩ := hp
  rintro ((h | h) | h)
  · exact ht h
  · exact hr h
  · exact not_reaction ho ⟨hc, hl⟩ h

/-- RUN shows, with the image's versions; an updated image is the active one. -/
def State.showsRun (s : State) : State :=
  let i := s.ctrl.img
  let t := (((((s.setFw Fw.run).set Pg.ctrl CTRL.FW_ID_MAJOR i.major.toNat).set Pg.ctrl CTRL.FW_ID_MINOR i.minor.toNat).set
    Pg.ctrl CTRL.FW_ID_BUILD i.build.toNat).set Pg.ctrl CTRL.FW_SECVER_IMAGE i.secver.toNat)
  let y := slotOf (t.get Pg.host HOST.BOOT_STAT_SLOT)
  t.onCtrl fun c => { c with
    active := if c.trial = some y then y else c.active
    updated := if c.trial.isSome then none else c.updated
    trial := none, restarting := false }

theorem State.reachRun_eq (s : State) : s.reachRun = s.showsRun.restartPtp := rfl

/-- The registers that show RUN. -/
def runFields : List FKey :=
  [fkey Pg.host HOST.BOOT_STAT_FW_STATE 0, fkey Pg.ctrl CTRL.FW_ID_MAJOR 0, fkey Pg.ctrl CTRL.FW_ID_MINOR 0,
    fkey Pg.ctrl CTRL.FW_ID_BUILD 0, fkey Pg.ctrl CTRL.FW_SECVER_IMAGE 0]

theorem State.showsRun_kept (s : State) : Kept [.ctrl] (fields runFields) noByte s s.showsRun := by
  unfold State.showsRun
  refine .onCtrl (by decide) (.set ?_ (.set ?_ (.set ?_ (.set ?_ (.set ?_ .rfl')))))
  all_goals simp [fields, runFields]

theorem State.reachRun_kept (s : State) :
    Kept (.ctrl :: steering) (fun k => k ∈ runFields ∨ steered k) noByte s s.reachRun :=
  (s.showsRun_kept.mono (by decide) (fun _ => .inl) fun _ h => h).trans
    (s.showsRun.restartPtp_steers.mono (by decide) (fun _ => .inr) fun _ h => h)

theorem State.reachRun_ctrl (s : State) : s.reachRun.ctrl = s.showsRun.ctrl :=
  s.showsRun.restartPtp_steers.areas .ctrl (by decide)

/-- What shows once firmware runs. -/
theorem State.reachRun_shows (s : State) : s.reachRun.fwState = Fw.run ∧
    s.reachRun.get Pg.ctrl CTRL.FW_ID_MAJOR = s.ctrl.img.major.toNat ∧
    s.reachRun.get Pg.ctrl CTRL.FW_ID_MINOR = s.ctrl.img.minor.toNat ∧
    s.reachRun.get Pg.ctrl CTRL.FW_ID_BUILD = s.ctrl.img.build.toNat := by
  have hs := s.showsRun.restartPtp_steers
  rw [State.reachRun_eq, State.fwState, hs.get (not_steered (by decide) (by decide)),
    hs.get (not_steered (by decide) (by decide)), hs.get (not_steered (by decide) (by decide)),
    hs.get (not_steered (by decide) (by decide))]
  unfold State.showsRun
  simp only [State.onCtrl_get]
  refine ⟨?_, ?_, ?_, ?_⟩
  · rw [State.get_set_page _ _ (by decide), State.get_set_page _ _ (by decide), State.get_set_page _ _ (by decide),
      State.get_set_page _ _ (by decide)]
    exact State.get_set_same ..
  · rw [State.get_set_off _ _ (by decide), State.get_set_lo _ _ (by decide), State.get_set_lo _ _ (by decide),
      State.get_set_same]
    exact Nat.mod_eq_of_lt s.ctrl.img.major.isLt
  · rw [State.get_set_off _ _ (by decide), State.get_set_lo _ _ (by decide), State.get_set_same]
    exact Nat.mod_eq_of_lt s.ctrl.img.minor.isLt
  · rw [State.get_set_off _ _ (by decide), State.get_set_same]
    exact Nat.mod_eq_of_lt s.ctrl.img.build.isLt

/-! ### The Keeper's outputs -/

theorem Kept.stopLoops (hA : ∀ a ∈ Area.fabric :: reacting, a ∈ A) (hw : ∀ k, reaction k → w k) (h : Kept A w m s x) :
    Kept A w m s x.stopLoops := by
  unfold State.stopLoops
  extract_lets t
  have ht : Kept A w m s t := h.trans (.each _ _ (fun v n hn => by
    have hn : n < 16 := by
      rw [List.mem_range, State.loopCount] at hn
      split at hn <;> omega
    have hp : reaction (fkey (Pg.stirrup n) PG.CTRL_EN 0) := .inr (.inr (by unfold Pg.stirrup fkey; constructor <;> simp; omega))
    refine .set (hw _ hp) (.ite (fun _ => ?_) fun _ => .rfl')
    exact Kept.of_calm .rfl' (State.gatesLow_calm hn ..) (fun a ha => hA a (List.mem_cons_of_mem _ ha)) hw) _)
  split
  · exact .onFabric (hA _ List.mem_cons_self) ht
  · exact ht

/-- A change of the pair state leaves all but the Keeper and the loops. -/
theorem Kept.setPair {st : Nat} (hA : ∀ a ∈ Area.keeper :: .fabric :: reacting, a ∈ A)
    (hw : ∀ k, k.p = Pg.keeper ∨ reaction k → w k) (h : Kept A w m s x) : Kept A w m s (x.setPair st) := by
  unfold State.setPair
  extract_lets t
  have ht : Kept A w m s t := .onKeeper (hA _ List.mem_cons_self) (.set (hw _ (.inl rfl)) h)
  refine .ite (fun _ => ht) fun _ => .ite (fun _ => ?_) fun _ => ht
  have hd : Kept A w m s (t.set Pg.keeper KEEPER.STAT_ACT_OUT 0) := .set (hw _ (.inl rfl)) ht
  exact .ite (fun _ => hd) fun _ => .stopLoops (fun a ha => hA a (List.mem_cons_of_mem _ ha)) (fun k hk => hw k (.inr hk)) hd

/-- What the end of stage 0 leaves behind RUN. -/
theorem State.romEnds_kept (s : State) :
    Kept (.ctrl :: .resp :: .keeper :: .fabric :: Machine.reacting) (fun k => k ∈ replyFields ∨ k.p = Pg.keeper ∨ reaction k) noByte
      s.reachRun s.romEnds := by
  unfold State.romEnds
  extract_lets t v
  have hv : Kept (.ctrl :: .resp :: .keeper :: .fabric :: Machine.reacting) (fun k => k ∈ replyFields ∨ k.p = Pg.keeper ∨ reaction k)
      noByte t v := by
    unfold v
    split
    · exact .reply (by decide) (by decide) (by decide) (fun _ => .inl) .rfl'
    · exact .rfl'
  exact .ite (fun _ => .setPair (by decide) (fun _ => .inr) hv) fun _ => hv

end Sys2Proof.Machine
end

section
/-!
SUPPORT. The restore of the life record (R456), and the stages of bring-up one by one (R474 to R478, R483).
-/

namespace Sys2Proof.Machine

variable {s t u x : State} {v : StageView}

/-! ### The life record -/

/-- The newest valid full record of the area. -/
def State.newestRecord (s : State) : Option (Nat × LifeRec) :=
  LifeArea.newest { s.life.area with slots := s.life.area.slots.filter fun e => e.1 < s.get Pg.life LIFE.AREA_SIZE - 1 }

/-- What the counters start from: the newest full record, or an empty one. -/
def State.baseRecord (s : State) : LifeRec := (s.newestRecord.map (·.2)).getD ⟨0, 0, [], [], 0⟩

/-- The warning records later than it. -/
def State.laterRecords (s : State) : List LifeRec := s.life.area.warns.filter fun r => s.baseRecord.seq < r.seq

/-- The counters as the records have them. -/
def State.countersRestored (s : State) : State :=
  (s.each s.baseRecord.counters fun t e => if t.present e.1.p then t.lifePut e.1.p e.1.off e.2 else t).each s.laterRecords
    fun t r => t.each r.counters fun u e => u.lifeAdd e.1.p e.1.off e.2

/-- What the records leave beside the counters. -/
def State.recordsShown (s : State) : State :=
  let t := s.countersRestored
  let t := t.onLife fun l => { l with
    fits := s.baseRecord.fits, fitCommon := s.baseRecord.fitCommon, hoursDone := t.powerOnHours }
  (t.set Pg.life LIFE.REC_SEQ_SEQ (s.laterRecords.foldl (fun n r => max n r.seq) s.baseRecord.seq)).setFlag Pg.life
    LIFE.REC_STAT_FRESH (s.newestRecord.isNone && s.laterRecords.isEmpty)

/-- Slots that hold no valid record. -/
def State.badSlots (s : State) : Nat :=
  ((s.life.area.slots.filter fun e => e.1 < s.get Pg.life LIFE.AREA_SIZE - 1).filter fun e => e.2.isNone).length

theorem State.restoreLife_eq (s : State) :
    s.restoreLife = ((s.recordsShown.count Pg.life LIFE.REC_FAILS s.badSlots).lifeAdd Pg.life 2).event Pg.life 3 := by
  have hbase : s.baseRecord = match s.newestRecord with
      | some e => e.2
      | none => ⟨0, 0, [], [], 0⟩ := by
    unfold State.baseRecord
    cases s.newestRecord <;> rfl
  unfold State.recordsShown State.countersRestored State.laterRecords
  rw [hbase]
  rfl

theorem State.countersRestored_kept (s : State) : Kept [.life] (fields []) noByte s s.countersRestored := by
  unfold State.countersRestored
  refine .trans (.each _ _ (fun t e _ => ?_) _) (.each _ _ (fun t r _ => .each _ _ (fun u e _ => ?_) _) _)
  · exact .ite (fun _ => .lifePut (by decide) .rfl') fun _ => .rfl'
  · exact .lifeAdd (by decide) .rfl'

theorem State.recordsShown_kept (s : State) :
    Kept [.life] (fields [fkey Pg.life LIFE.REC_SEQ_SEQ 0, fkey Pg.life LIFE.REC_STAT_FRESH 0]) noByte s s.recordsShown := by
  unfold State.recordsShown
  refine .setFlag (by simp [fields]) (.set (by simp [fields]) (.onLife (by decide) ?_))
  exact s.countersRestored_kept.mono (by decide) (fun _ h => absurd h List.not_mem_nil) fun _ h => h

/-- What a restore writes beside the counters. -/
def restoreFields : List FKey :=
  [fkey Pg.life LIFE.REC_SEQ_SEQ 0, fkey Pg.life LIFE.REC_STAT_FRESH 0, fkey Pg.life LIFE.REC_FAILS 0, fkey Pg.life PG.EVT 0]

theorem State.restoreLife_kept (s : State) : Kept [.life, .msix] (fields restoreFields) noByte s s.restoreLife := by
  rw [State.restoreLife_eq]
  refine .event (by decide) (by simp [fields, restoreFields]) (.lifeAdd (by decide) (.count (by simp [fields, restoreFields])
    (s.recordsShown_kept.mono (by decide) (fun k hk => ?_) fun _ h => h)))
  simp only [fields, restoreFields, List.mem_cons, List.not_mem_nil, or_false] at hk ⊢
  exact hk.elim .inl fun h => .inr (.inl h)

theorem State.present_life (s : State) : s.present Pg.life = true := by
  unfold State.present
  cases s.part <;> decide

theorem State.lifeAdd_fits (s : State) (p i n : Nat) :
    (s.lifeAdd p i n).life.fits = s.life.fits ∧ (s.lifeAdd p i n).life.fitCommon = s.life.fitCommon := by
  unfold State.lifeAdd
  split
  · exact ⟨rfl, rfl⟩
  · exact ⟨rfl, rfl⟩

/-- The sums, the sequence number and FRESH after a restore, and its event. -/
theorem State.restoreLife_shows (s : State) :
    s.restoreLife.life.fits = s.baseRecord.fits ∧ s.restoreLife.life.fitCommon = s.baseRecord.fitCommon ∧
    s.restoreLife.get Pg.life LIFE.REC_SEQ_SEQ =
      s.laterRecords.foldl (fun n r => max n r.seq) s.baseRecord.seq % 2 ^ 32 ∧
    s.restoreLife.flag Pg.life LIFE.REC_STAT_FRESH = (s.newestRecord.isNone && s.laterRecords.isEmpty) ∧
    s.restoreLife.evt Pg.life 3 = true := by
  rw [State.restoreLife_eq, State.event_life]
  obtain ⟨hf, hc⟩ := State.lifeAdd_fits (s.recordsShown.count Pg.life LIFE.REC_FAILS s.badSlots) Pg.life 2 1
  have hk : Kept [.life, .msix] (fields [fkey Pg.life LIFE.REC_FAILS 0, fkey Pg.life PG.EVT 0]) noByte s.recordsShown
      (((s.recordsShown.count Pg.life LIFE.REC_FAILS s.badSlots).lifeAdd Pg.life 2).event Pg.life 3) :=
    .event (by decide) (by simp [fields]) (.lifeAdd (by decide) (.count (by simp [fields]) .rfl'))
  refine ⟨hf.trans rfl, hc.trans rfl, ?_, ?_, State.evt_event_same (State.present_life _) 3 (by decide)⟩
  · rw [hk.get_off (by decide), State.recordsShown, State.setFlag_eq, State.get_set_off _ _ (by decide)]
    exact State.get_set_same ..
  · rw [State.flag_eq, hk.get_off (by decide), State.recordsShown, State.setFlag_eq, State.get_set_same]
    cases s.newestRecord.isNone && s.laterRecords.isEmpty <;> rfl

/-- An empty area gives no record. -/
theorem State.newestRecord_nil (h : s.life.area.slots = []) : s.newestRecord = none := by
  rw [State.newestRecord, h]
  rfl

/-- The one record of an area is its newest. -/
theorem State.newestRecord_single {k : Nat} {r : LifeRec} (h : s.life.area.slots = [(k, some r)])
    (hk : k < s.get Pg.life LIFE.AREA_SIZE - 1) : s.newestRecord = some (k, r) := by
  rw [State.newestRecord, h, List.filter_cons_of_pos (by exact decide_eq_true hk)]
  rfl

theorem State.laterRecords_nil (h : s.life.area.warns = []) : s.laterRecords = [] := by
  rw [State.laterRecords, h]
  rfl

/-! ### The stages -/

theorem exec_bringupStageEnd_rom (v : StageView) (hr : s.ready = false) (h0 : s.stage = 0) (hf : s.fwState = Fw.verify)
    (hc : s.ctrl.restarting = false) : exec (.bringupStageEnd v) s = .next s.romEnds.nextStage := by
  rw [exec_bringupStageEnd, execBringupStageEnd, if_neg (by rw [hr]; exact Bool.false_ne_true), if_pos h0,
    whenHolds_of (by rw [hf, hc]; rfl)]

theorem exec_bringupStageEnd_runs (v : StageView) (hr : s.ready = false) (h0 : s.stage ≠ 0) (hf : s.fwRunning = true) :
    exec (.bringupStageEnd v) s = .next (if s.stage = 1 then (s.restoreStage v).nextStage
      else if s.stage = 2 then (s.girthStage v).nextStage
      else if s.stage = 3 then (s.dramStage v).nextStage
      else if s.stage = 4 then (s.unitsStage v).nextStage
      else s.readyStage) := by
  rw [exec_bringupStageEnd, execBringupStageEnd, if_neg (by rw [hr]; exact Bool.false_ne_true), if_neg h0, whenHolds_of hf]

theorem State.nextStage_stage (h : s.stage < 15) : s.nextStage.stage = s.stage + 1 := by
  rw [State.stage, State.nextStage, State.get_set_same]
  exact Nat.mod_eq_of_lt (Nat.succ_lt_succ h)

/-- EN of the life unit has no effect beside the header. -/
theorem State.enableUnit_life_kept (s : State) : Kept [] (fields [fkey Pg.life PG.CTRL_EN 0, fkey Pg.life PG.STAT_EN_PENDING 0,
    fkey Pg.life PG.STAT_QUIESCED 0]) noByte s (s.enableUnit Pg.life) := by
  refine .ite (fun _ => .set ?_ (.set ?_ .rfl')) fun _ => .ite (fun _ => .rfl') fun _ => .set ?_ (.set ?_ .rfl')
  all_goals simp [fields]

/-- What stage RESTORE leaves behind the record: the life unit enabled, and the core voltage or the fallback without one. -/
def State.voltageRead (s : State) (v : StageView) : State :=
  match v.vcoreMv with
  | some mv =>
    ((s.set Pg.life LIFE.VCORE_READ_VALID 1).set Pg.life LIFE.VCORE_READ_MV mv).onFabric fun f => { f with coreMv := mv }
  | none => (s.set Pg.host HOST.BRINGUP_AVS 1).set Pg.fabric FABRIC.MARGIN_CTRL_AVS_EN 0

theorem State.restoreStage_eq (s : State) (v : StageView) (hs : s.soft = false) : s.restoreStage v =
    (((s.setFlag Pg.host HOST.BRINGUP_BOARD_CFG (!v.boardOk)).restoreLife).enableUnit Pg.life).voltageRead v := by
  have hs' : (s.setFlag Pg.host HOST.BRINGUP_BOARD_CFG (!v.boardOk)).soft = false := by
    rw [State.soft, State.flag_eq, State.setFlag_eq, State.get_set_lo _ _ (by decide), ← State.flag_eq]
    exact hs
  have hr : (if (s.setFlag Pg.host HOST.BRINGUP_BOARD_CFG (!v.boardOk)).soft then
      s.setFlag Pg.host HOST.BRINGUP_BOARD_CFG (!v.boardOk)
      else (s.setFlag Pg.host HOST.BRINGUP_BOARD_CFG (!v.boardOk)).restoreLife) =
      (s.setFlag Pg.host HOST.BRINGUP_BOARD_CFG (!v.boardOk)).restoreLife :=
    if_neg (by rw [hs']; exact Bool.false_ne_true)
  rw [← hr]
  rfl

theorem State.voltageRead_kept (s : State) (v : StageView) : Kept [.fabric] (fields [fkey Pg.life LIFE.VCORE_READ_VALID 0,
    fkey Pg.life LIFE.VCORE_READ_MV 0, fkey Pg.host HOST.BRINGUP_AVS 0, fkey Pg.fabric FABRIC.MARGIN_CTRL_AVS_EN 0]) noByte s
      (s.voltageRead v) := by
  unfold State.voltageRead
  split
  · exact .onFabric (by decide) (.set (by simp [fields]) (.set (by simp [fields]) .rfl'))
  · exact .set (by simp [fields]) (.set (by simp [fields]) .rfl')

theorem State.voltageRead_avs (s : State) (v : StageView) :
    (s.voltageRead v).flag Pg.host HOST.BRINGUP_AVS = (s.flag Pg.host HOST.BRINGUP_AVS || v.vcoreMv.isNone) := by
  unfold State.voltageRead
  cases v.vcoreMv with
  | none =>
    rw [State.flag_eq, State.get_set_page _ _ (by decide), ← State.flag_eq, State.flag_set_one _ _ _ rfl]
    exact (Bool.or_true _).symm
  | some mv =>
    rw [Option.isNone_some, Bool.or_false, State.flag_eq, State.onFabric_get, State.get_set_page _ _ (by decide),
      State.get_set_page _ _ (by decide), ← State.flag_eq]

end Sys2Proof.Machine
end

section
/-!
O32: the stages of bring-up and the boot timeout (R53, R54, R456, R473 to R478, R483).
-/

namespace Sys2Proof.Machine

variable {s t u x : State} {v : StageView} {p : Nat} {f : Fld} {i : Nat}

/-! ### The boot ROM's end -/

/-- Behind RUN, the end of stage 0 writes the mailbox's fields, the Keeper's page and what reactions write. -/
theorem State.romEnds_get (s : State) (hf : f.off ≠ PG.EVT.off ∧ f.off ≠ HOST.MBX_STAT_BUSY.off)
    (hp : p ≠ Pg.keeper ∧ p ≠ Pg.cinch ∧ p < 0x240) : s.romEnds.get p f i = s.reachRun.get p f i := by
  obtain ⟨he, hm⟩ := hf
  obtain ⟨hk, hr⟩ := hp
  refine s.romEnds_kept.get ?_
  rintro (h | h | h)
  · simp only [replyFields, List.mem_cons, List.not_mem_nil, or_false] at h
    rcases h with h | h | h
    · exact hm (congrArg FKey.off h)
    · exact hm (congrArg FKey.off h)
    · exact he (congrArg FKey.off h)
  · exact hk h
  · exact not_reaction he hr h

/-- The stage and READY stand through the boot ROM's end. -/
theorem State.romEnds_bringup (s : State) (h1 : fkey Pg.host f 0 ∉ runFields) (hf : f.off ≠ PG.EVT.off ∧ f.off ≠ HOST.MBX_STAT_BUSY.off) :
    s.romEnds.get Pg.host f = s.get Pg.host f := by
  rw [s.romEnds_get hf (by decide)]
  exact s.reachRun_kept.get fun hk => hk.elim h1 (not_steered hf.1 (by decide))

/-- The end of stage 0. -/
theorem State.romEnds_shows (s : State) (h0 : s.stage = 0) (hr : s.ready = false) :
    s.romEnds.nextStage.fwState = Fw.run ∧ s.romEnds.nextStage.stage = 1 ∧
    s.romEnds.nextStage.get Pg.ctrl CTRL.FW_ID_MAJOR = s.ctrl.img.major.toNat ∧
    s.romEnds.nextStage.get Pg.ctrl CTRL.FW_ID_MINOR = s.ctrl.img.minor.toNat ∧
    s.romEnds.nextStage.get Pg.ctrl CTRL.FW_ID_BUILD = s.ctrl.img.build.toNat ∧ s.romEnds.nextStage.ready = false ∧
    ∀ a, s.romEnds.nextStage.byte a = s.byte a := by
  obtain ⟨hrun, hmajor, hminor, hbuild⟩ := s.reachRun_shows
  have hstage : s.romEnds.stage = 0 := (s.romEnds_bringup (by decide) (by decide)).trans h0
  refine ⟨?_, ?_, ?_, ?_, ?_, ?_, fun a => ?_⟩
  · rw [State.fwState, State.nextStage, State.get_set_off _ _ (by decide), s.romEnds_get (by decide) (by decide)]
    exact hrun
  · rw [State.nextStage_stage (by rw [hstage]; decide), hstage]
  · rw [State.nextStage, State.get_set_page _ _ (by decide), s.romEnds_get (by decide) (by decide), hmajor]
  · rw [State.nextStage, State.get_set_page _ _ (by decide), s.romEnds_get (by decide) (by decide), hminor]
  · rw [State.nextStage, State.get_set_page _ _ (by decide), s.romEnds_get (by decide) (by decide), hbuild]
  · rw [State.ready, State.flag_eq, State.nextStage, State.get_set_lo _ _ (by decide),
      s.romEnds_bringup (by decide) (by decide), ← State.flag_eq]
    exact hr
  · rw [State.nextStage, State.set_byte, s.romEnds_kept.mem a id, s.reachRun_kept.mem a id]

/-! ### RESTORE -/

/-- The registers that the life unit's enable and the core voltage write. -/
def restoreEndFields : List FKey :=
  [fkey Pg.life PG.CTRL_EN 0, fkey Pg.life PG.STAT_EN_PENDING 0, fkey Pg.life PG.STAT_QUIESCED 0,
    fkey Pg.life LIFE.VCORE_READ_VALID 0, fkey Pg.life LIFE.VCORE_READ_MV 0, fkey Pg.host HOST.BRINGUP_AVS 0,
    fkey Pg.fabric FABRIC.MARGIN_CTRL_AVS_EN 0]

theorem State.restoreEnd_kept (s : State) (v : StageView) :
    Kept [.fabric] (fields restoreEndFields) noByte s ((s.enableUnit Pg.life).voltageRead v) := by
  refine .trans (s.enableUnit_life_kept.mono (by decide) (fun k hk => ?_) fun _ h => h)
    ((State.voltageRead_kept _ v).mono (by decide) (fun k hk => ?_) fun _ h => h)
  all_goals
    simp only [fields, restoreEndFields, List.mem_cons, List.not_mem_nil, or_false] at hk ⊢
    tauto

/-- The life unit's event after its enable. -/
theorem State.evt_restoreEnd (s : State) (v : StageView) (b : Nat) :
    ((s.enableUnit Pg.life).voltageRead v).nextStage.evt Pg.life b = s.evt Pg.life b := by
  rw [State.evt, State.nextStage, State.get_set_page _ _ (by decide), (s.restoreEnd_kept v).get_off (by decide)]
  rfl

/-- The end of RESTORE on a boot that is not soft. -/
theorem State.restoreStage_shows (s : State) (v : StageView) (h1 : s.stage = 1) (hs : s.soft = false) :
    (s.restoreStage v).nextStage.stage = 2 ∧
    (s.restoreStage v).nextStage.flag Pg.host HOST.BRINGUP_BOARD_CFG = !v.boardOk ∧
    (s.restoreStage v).nextStage.flag Pg.host HOST.BRINGUP_AVS =
      (s.flag Pg.host HOST.BRINGUP_AVS || v.vcoreMv.isNone) ∧
    (s.restoreStage v).nextStage.evt Pg.life 3 = true := by
  rw [s.restoreStage_eq v hs]
  obtain ⟨t, ht⟩ : ∃ t, t = s.setFlag Pg.host HOST.BRINGUP_BOARD_CFG (!v.boardOk) := ⟨_, rfl⟩
  rw [← ht]
  have hstage : ((t.restoreLife.enableUnit Pg.life).voltageRead v).stage = 1 := by
    rw [State.stage, (State.restoreEnd_kept _ v).get_lo (by decide), t.restoreLife_kept.get_page (by decide), ht,
      State.setFlag_eq, State.get_set_lo _ _ (by decide)]
    exact h1
  obtain ⟨-, -, -, -, hevt⟩ := t.restoreLife_shows
  refine ⟨?_, ?_, ?_, ?_⟩
  · rw [State.nextStage_stage (by rw [hstage]; decide), hstage]
  · rw [State.flag_eq, State.nextStage, State.get_set_lo _ _ (by decide), (State.restoreEnd_kept _ v).get_lo (by decide),
      t.restoreLife_kept.get_page (by decide), ht, State.setFlag_eq, State.get_set_same]
    cases v.boardOk <;> rfl
  · rw [State.flag_eq, State.nextStage, State.get_set_lo _ _ (by decide), ← State.flag_eq, State.voltageRead_avs,
      State.flag_eq, State.enableUnit_life_kept _ |>.get_page (by decide), t.restoreLife_kept.get_page (by decide), ht,
      State.setFlag_eq, State.get_set_lo _ _ (by decide), ← State.flag_eq]
  · rw [State.evt_restoreEnd]
    exact hevt

/-- The record's sums, its sequence number and FRESH stand at the end of RESTORE. -/
theorem State.restoreStage_record (s : State) (v : StageView) (hs : s.soft = false) :
    (s.restoreStage v).nextStage.life.fits = s.baseRecord.fits ∧
    (s.restoreStage v).nextStage.life.fitCommon = s.baseRecord.fitCommon ∧
    (s.restoreStage v).nextStage.get Pg.life LIFE.REC_SEQ_SEQ =
      s.laterRecords.foldl (fun n r => max n r.seq) s.baseRecord.seq % 2 ^ 32 ∧
    (s.restoreStage v).nextStage.flag Pg.life LIFE.REC_STAT_FRESH = (s.newestRecord.isNone && s.laterRecords.isEmpty) := by
  rw [s.restoreStage_eq v hs]
  obtain ⟨t, ht⟩ : ∃ t, t = s.setFlag Pg.host HOST.BRINGUP_BOARD_CFG (!v.boardOk) := ⟨_, rfl⟩
  have hnew : t.newestRecord = s.newestRecord := by
    rw [State.newestRecord, State.newestRecord, ht, State.setFlag_eq, State.get_set_page _ _ (by decide)]
    rfl
  have hbase : t.baseRecord = s.baseRecord := by rw [State.baseRecord, State.baseRecord, hnew]
  have hlater : t.laterRecords = s.laterRecords := by
    rw [State.laterRecords, State.laterRecords, hbase, ht]
    rfl
  obtain ⟨hfits, hcommon, hseq, hfresh, -⟩ := t.restoreLife_shows
  rw [hbase] at hfits hcommon
  rw [hbase, hlater] at hseq
  rw [hnew, hlater] at hfresh
  rw [← ht]
  have hlife : ((t.restoreLife.enableUnit Pg.life).voltageRead v).nextStage.life = t.restoreLife.life :=
    (State.restoreEnd_kept _ v).areas .life (by decide)
  refine ⟨?_, ?_, ?_, ?_⟩
  · rw [hlife, hfits]
  · rw [hlife, hcommon]
  · rw [State.nextStage, State.get_set_page _ _ (by decide), (State.restoreEnd_kept _ v).get_off (by decide), hseq]
  · rw [State.flag_eq, State.nextStage, State.get_set_page _ _ (by decide), (State.restoreEnd_kept _ v).get_off (by decide),
      ← State.flag_eq, hfresh]

/-- An empty area leaves a fresh record. -/
theorem State.restoreStage_fresh (s : State) (v : StageView) (hs : s.soft = false) (ha : s.life.area.slots = [])
    (hw : s.life.area.warns = []) :
    (s.restoreStage v).nextStage.flag Pg.life LIFE.REC_STAT_FRESH = true ∧ (s.restoreStage v).nextStage.life.fits = [] ∧
    (s.restoreStage v).nextStage.life.fitCommon = 0 ∧ (s.restoreStage v).nextStage.get Pg.life LIFE.REC_SEQ_SEQ = 0 := by
  obtain ⟨hfits, hcommon, hseq, hfresh⟩ := s.restoreStage_record v hs
  have hbase : s.baseRecord = ⟨0, 0, [], [], 0⟩ := by rw [State.baseRecord, State.newestRecord_nil ha]; rfl
  rw [hfits, hcommon, hseq, hfresh, State.newestRecord_nil ha, State.laterRecords_nil hw, hbase]
  exact ⟨rfl, rfl, rfl, rfl⟩

/-- The one record of an area comes back. -/
theorem State.restoreStage_single (s : State) (v : StageView) (hs : s.soft = false) {k : Nat} {r : LifeRec}
    (ha : s.life.area.slots = [(k, some r)]) (hk : k < s.get Pg.life LIFE.AREA_SIZE - 1) (hw : s.life.area.warns = []) :
    (s.restoreStage v).nextStage.flag Pg.life LIFE.REC_STAT_FRESH = false ∧ (s.restoreStage v).nextStage.life.fits = r.fits ∧
    (s.restoreStage v).nextStage.life.fitCommon = r.fitCommon ∧
    (s.restoreStage v).nextStage.get Pg.life LIFE.REC_SEQ_SEQ = r.seq % 2 ^ 32 := by
  obtain ⟨hfits, hcommon, hseq, hfresh⟩ := s.restoreStage_record v hs
  have hnew := State.newestRecord_single ha hk
  have hbase : s.baseRecord = r := by rw [State.baseRecord, hnew]; rfl
  rw [hfits, hcommon, hseq, hfresh, hnew, State.laterRecords_nil hw, hbase]
  exact ⟨rfl, rfl, rfl, rfl⟩

/-! ### GIRTH, DRAM and READY -/

/-- GIRTH on a soft boot enables the Girth and sweeps nothing. -/
theorem State.girthStage_soft (v : StageView) (hs : s.soft = true) (hd : s.flag Pg.girth PG.CTRL_DRAIN = false)
    (he : s.flag Pg.girth PG.CTRL_EN = false) :
    s.girthStage v = (s.set Pg.girth PG.CTRL_EN 1).set Pg.girth PG.STAT_QUIESCED 0 := by
  rw [State.girthStage, if_pos hs, State.enableUnit, if_neg (by rw [hd]; exact Bool.false_ne_true),
    if_neg (by rw [he]; exact Bool.false_ne_true)]
  rfl

theorem State.dramStage_skipped (v : StageView) (hb : s.flag Pg.host HOST.BRINGUP_BOARD_CFG = true) : s.dramStage v = s :=
  if_pos hb

theorem State.readyStage_kept (s : State) : Kept [.cinch, .msix]
    (fields [fkey Pg.host HOST.BRINGUP_READY 0, fkey Pg.host PG.EVT 0]) noByte s s.readyStage :=
  .event (by decide) (by simp [fields]) (.set (by simp [fields]) (.with_cinch (by decide) .rfl'))

theorem State.readyStage_ready (s : State) : s.readyStage.ready = true := by
  have hk (t : State) : Kept [.msix] (fields [fkey Pg.host PG.EVT 0]) noByte t (t.event Pg.host 5) :=
    .event (by decide) (by simp [fields]) .rfl'
  rw [State.ready, State.flag_eq, State.readyStage, (hk _).get_off (by decide), State.get_set_same]
  rfl

/-! ### The boot timeout -/

/-- The updated slot is marked failed and no slot is tried any more. -/
def State.updateFails (s : State) (y : Slot) : State :=
  ((s.reach (s.ctrl.bootAt + cyclesSec 2)).onCtrl fun c => { (c.setFailed y true) with trial := none, updated := none }).bootFail
    6 y

theorem exec_fwUpdateBootTimeout_fails {b : BootView} {y : Slot} (ht : s.ctrl.trial = some y) (hf : s.fwRunning = false) :
    exec (.fwUpdateBootTimeout b) s = .next ((s.updateFails y).bootFrom b (otherSlot y)) := by
  rw [exec_fwUpdateBootTimeout, execFwUpdateBootTimeout, ht]
  dsimp only
  rw [if_neg (by rw [hf]; exact Bool.false_ne_true)]
  rfl

theorem State.updateFails_kept (s : State) (y : Slot) : Kept [.clock, .time, .ctrl]
    (fields [fkey Pg.host HOST.BOOT_STAT_FAIL_CODE 0, fkey Pg.host HOST.BOOT_STAT_FAIL_SLOT 0]) noByte s (s.updateFails y) :=
  .set (by simp [fields]) (.set (by simp [fields]) (.onCtrl (by decide) (.reach (by decide) (by decide) .rfl')))

/-- The marks of the slots once the update has failed. -/
theorem State.updateFails_ctrl (s : State) (y : Slot) :
    (s.updateFails y).ctrl = { (s.ctrl.setFailed y true) with trial := none, updated := none } := by
  rw [State.updateFails, State.bootFail, State.set_ctrl, State.set_ctrl, State.onCtrl, State.reach_ctrl]

/-- The other slot, whose mark stands, boots as before. -/
theorem State.updateFails_boots {b : BootView} {y : Slot} {i : ImgInfo} (h : s.boots b (otherSlot y) i) :
    (s.updateFails y).boots b (otherSlot y) i := by
  obtain ⟨hflash, hfailed, hv⟩ := h
  refine ⟨hflash, ?_, hv⟩
  rw [← hfailed]
  cases y <;> (unfold State.slotFailed otherSlot; rw [State.updateFails_ctrl]; rfl)

/-- The start of an image leaves what it neither loads nor writes. -/
theorem State.startImage_get (s : State) (y : Slot) {j : ImgInfo} (hl : j.bytes.length ≤ Mem.sramSize)
    (h1 : fkey p f i ∉ startFields) (h2 : fkey p f i ∉ [fkey Pg.host HOST.BOOT_STAT_FW_STATE 0, fkey Pg.host HOST.BOOT_STAT_SLOT 0]) :
    (s.startImage y j).get p f i = s.get p f i :=
  ((s.startImage_kept y j).get h1).trans ((s.imageLoaded_kept y hl).get h2)

theorem State.startImage_sramOnly (s : State) (y : Slot) {j : ImgInfo} (hl : j.bytes.length ≤ Mem.sramSize) :
    SramOnly s (s.startImage y j) := fun a ha =>
  ((s.startImage_kept y j).mem a id).trans ((s.imageLoaded_kept y hl).mem a ha)

/-- What shows where an updated image has not reached RUN. -/
theorem State.updateFails_shows (s : State) (y : Slot) :
    (s.updateFails y).slotFailed y = true ∧ (s.updateFails y).now = max s.now (s.ctrl.bootAt + 1250000000) ∧
    (s.updateFails y).ctrl.trial = none ∧ (s.updateFails y).ctrl.updated = none ∧
    (s.updateFails y).get Pg.host HOST.BOOT_STAT_FAIL_CODE = 6 ∧
    (s.updateFails y).get Pg.host HOST.BOOT_STAT_FAIL_SLOT = slotCode y ∧
    (s.updateFails y).ctrl.sliced = s.ctrl.sliced := by
  rw [State.updateFails_ctrl]
  refine ⟨?_, ?_, rfl, rfl, ?_, ?_, ?_⟩
  · cases y <;> (unfold State.slotFailed; rw [State.updateFails_ctrl]; rfl)
  · rw [State.updateFails, State.bootFail, State.set_now, State.set_now, State.onCtrl_now, State.reach_now,
      show cyclesSec 2 = 1250000000 from rfl]
  · rw [State.updateFails, State.bootFail, State.get_set_lo _ _ (by decide), State.get_set_same]
    rfl
  · rw [State.updateFails, State.bootFail, State.get_set_same]
    cases y <;> rfl
  · cases y <;> rfl

/-- What the other image's start leaves of the mark. -/
theorem State.updateFails_started (s : State) (y : Slot) {j : ImgInfo} (hl : j.bytes.length ≤ Mem.sramSize) :
    ∀ u, u = (s.updateFails y).startImage (otherSlot y) j →
      Booted (otherSlot y) j u ∧ u.slotFailed y = true ∧ u.now = max s.now (s.ctrl.bootAt + 1250000000) ∧
      u.ctrl.trial = none ∧ u.ctrl.updated = none ∧ u.get Pg.host HOST.BOOT_STAT_FAIL_CODE = 6 ∧
      u.get Pg.host HOST.BOOT_STAT_FAIL_SLOT = slotCode y ∧ (s.ctrl.sliced = false → Sliced j u) ∧
      (s.ctrl.sliced = true → u.get Pg.harness HARNESS.SLICE_M_SLICES = s.get Pg.harness HARNESS.SLICE_M_SLICES ∧
        u.get Pg.harness HARNESS.SLICE_T_SLICES = s.get Pg.harness HARNESS.SLICE_T_SLICES) ∧ SramOnly s u := by
  rintro u rfl
  obtain ⟨hfailed, hnow, htrial, hupdated, hcode, hslot, hsliced⟩ := s.updateFails_shows y
  have hk := s.updateFails_kept y
  obtain ⟨t, ht⟩ : ∃ t, t = s.updateFails y := ⟨_, rfl⟩
  rw [← ht] at hfailed hnow htrial hupdated hcode hslot hsliced hk ⊢
  have hc : (t.startImage (otherSlot y) j).ctrl = { t.ctrl with img := j, wdogAt := t.now, sliced := true } := by
    rw [State.startImage_ctrl, t.copyImage_ctrl hl]
  obtain ⟨hfree, hset⟩ := t.startImage_slices (otherSlot y) hl
  rw [hsliced] at hfree hset
  refine ⟨t.startImage_booted _ hl, ?_, ?_, ?_, ?_, ?_, ?_, hfree, fun h => ?_, fun a ha => ?_⟩
  · rw [← hfailed]
    cases y <;> (unfold State.slotFailed; rw [hc])
  · rw [← hnow]
    exact ((t.startImage_kept _ j).areas .clock (by decide)).trans ((t.imageLoaded_kept _ hl).areas .clock (by decide))
  · rw [hc]
    exact htrial
  · rw [hc]
    exact hupdated
  · rw [t.startImage_get _ hl (by decide) (by decide), hcode]
  · rw [t.startImage_get _ hl (by decide) (by decide), hslot]
  · obtain ⟨hm, hslices⟩ := hset h
    exact ⟨hm.trans (hk.get_page (by decide)), hslices.trans (hk.get_page (by decide))⟩
  · rw [t.startImage_sramOnly _ hl a ha, hk.mem a id]

/-- Settles O32, stage by stage (R53, R456, R473 to R478). -/
theorem bringUp : Obligations.BringUp := by
  unfold Obligations.BringUp
  refine ⟨fun s v hr h0 hf hc => ?_, fun s v hr h1 hf hs => ?_, fun s v hr h2 hf hs hd he => ?_, fun s v hr h3 hf hb => ?_,
    fun s v hr h5 hf => ?_, fun s b i y ht hf hb => ?_⟩
  · exact ⟨_, exec_bringupStageEnd_rom v hr h0 hf hc, s.romEnds_shows h0 hr⟩
  · rw [exec_bringupStageEnd_runs v hr (by rw [h1]; decide) hf, if_pos h1]
    obtain ⟨hstage, hboard, havs, hevt⟩ := s.restoreStage_shows v h1 hs
    exact ⟨_, rfl, hstage, hboard, havs, hevt, s.restoreStage_fresh v hs, fun k r ha hk => s.restoreStage_single v hs ha hk⟩
  · rw [exec_bringupStageEnd_runs v hr (by rw [h2]; decide) hf, if_neg (by rw [h2]; decide), if_pos h2,
      State.girthStage_soft v hs hd he]
    have hstage : ((s.set Pg.girth PG.CTRL_EN 1).set Pg.girth PG.STAT_QUIESCED 0).stage = 2 := by
      rw [State.stage, State.get_set_page _ _ (by decide), State.get_set_page _ _ (by decide)]
      exact h2
    refine ⟨_, rfl, ?_, ?_, ?_, .set (by simp [fields]) (.set (by simp [fields]) (.set (by simp [fields]) .rfl'))⟩
    · rw [State.nextStage_stage (by rw [hstage]; decide), hstage]
    · rw [State.flag_eq, State.nextStage, State.get_set_page _ _ (by decide), State.get_set_off _ _ (by decide),
        State.get_set_same]
      rfl
    · rw [State.flag_eq, State.nextStage, State.get_set_page _ _ (by decide), State.get_set_same]
      rfl
  · rw [exec_bringupStageEnd_runs v hr (by rw [h3]; decide) hf, if_neg (by rw [h3]; decide), if_neg (by rw [h3]; decide),
      if_pos h3, State.dramStage_skipped v hb]
    exact ⟨_, rfl, by rw [State.nextStage_stage (by rw [h3]; decide), h3], .set (by simp [fields]) .rfl'⟩
  · rw [exec_bringupStageEnd_runs v hr (by rw [h5]; decide) hf, if_neg (by rw [h5]; decide), if_neg (by rw [h5]; decide),
      if_neg (by rw [h5]; decide), if_neg (by rw [h5]; decide)]
    refine ⟨_, rfl, s.readyStage_ready, ?_, State.event_cinch .., s.readyStage_kept⟩
    exact State.evt_event_same (State.present_host _) 5 (by decide)
  · obtain ⟨-, -, hv⟩ := id hb
    rw [exec_fwUpdateBootTimeout_fails ht hf, State.bootFrom_boots (State.updateFails_boots hb)]
    exact ⟨_, rfl, s.updateFails_started y (length_of_verdict hv) _ rfl⟩

end Sys2Proof.Machine
end

section
/-!
SUPPORT. The frame of firmware's own accesses to memory (chapters 11 to 13): what a burst that firmware reads or stores
can reach beside bytes.
-/

namespace Sys2Proof.Machine

/-- The parts of the state that an access of firmware may change. -/
def accessing : List Area := [.girth, .harness, .drams, .free, .msix, .cinch, .life, .loops]

/-- The registers that an access of firmware may change. -/
inductive Accessed : FKey → Prop
  | evt {p : Nat} : Accessed (fkey p PG.EVT 0)
  | window : Accessed (fkey Pg.host HOST.WIN_SHADOWED 0)
  | girth {f : Fld} {i : Nat} : Accessed (fkey Pg.girth f i)
  | harness {f : Fld} {i : Nat} : Accessed (fkey Pg.harness f i)
  | dram {c : Nat} {f : Fld} {i : Nat} (h : f.off ≠ PG.CTRL_EN.off := by decide) : Accessed (fkey (Pg.dram c) f i)
  | reacted {k : FKey} (h : Machine.reaction k) : Accessed k

/-- All but what an access of firmware may change is as it was. -/
def Reached (s u : State) : Prop := Kept accessing Accessed (fun _ => True) s u

variable {s x : State}

theorem Accessed.cases_page {k : FKey} (h : Accessed k) : k.off = PG.EVT.off ∨ k = fkey Pg.host HOST.WIN_SHADOWED 0 ∨
    k.p = Pg.harness ∨ k.p = Pg.girth ∨ (0x40 ≤ k.p ∧ k.off ≠ PG.CTRL_EN.off) ∨ reaction k := by
  cases h with
  | evt => exact .inl rfl
  | window => exact .inr (.inl rfl)
  | girth => exact .inr (.inr (.inr (.inl rfl)))
  | harness => exact .inr (.inr (.inl rfl))
  | dram h => exact .inr (.inr (.inr (.inr (.inl ⟨Nat.le_add_right .., h⟩))))
  | reacted h => exact .inr (.inr (.inr (.inr (.inr h))))

/-- The pages below the lanes' end that no access of firmware writes but for event bits. -/
theorem not_accessed_low {p i : Nat} {f : Fld} (he : f.off ≠ PG.EVT.off)
    (hp : p < 0x40 ∧ p ≠ Pg.harness ∧ p ≠ Pg.host ∧ p ≠ Pg.cinch) : ¬ Accessed (fkey p f i) := by
  obtain ⟨hlow, hharness, hhost, hcinch⟩ := hp
  intro h
  rcases h.cases_page with h | h | h | h | ⟨h, -⟩ | h
  · exact he h
  · exact hhost (congrArg FKey.p h)
  · exact hharness h
  · exact Nat.not_le_of_lt hlow (Nat.le_trans (by decide : 0x40 ≤ Pg.girth) (Nat.le_of_eq h.symm))
  · exact Nat.not_le_of_lt hlow h
  · exact not_reaction he ⟨hcinch, Nat.lt_trans hlow (by decide)⟩ h

namespace Reached

theorem refl (s : State) : Reached s s := Kept.rfl'
theorem trans {t u : State} (h : Reached s t) (k : Reached t u) : Reached s u := Kept.trans h k

theorem ite {c : Prop} [Decidable c] {t u : State} (h : Reached s t) (k : Reached s u) :
    Reached s (if c then t else u) := Kept.ite (fun _ => h) fun _ => k

theorem each {α : Type} {l : List α} {f : State → α → State} (h : Reached s x) (hf : ∀ t a, Reached t (f t a)) :
    Reached s (x.each l f) := h.trans (Kept.each l f (fun t a _ => hf t a) x)

theorem set {p v i : Nat} {f : Fld} (hk : Accessed (fkey p f i)) (h : Reached s x) : Reached s (x.set p f v i) :=
  Kept.set hk h

theorem setFlag {p i : Nat} {f : Fld} {b : Bool} (hk : Accessed (fkey p f i)) (h : Reached s x) :
    Reached s (x.setFlag p f b i) := Kept.setFlag hk h

theorem count {p n i : Nat} {f : Fld} (hk : Accessed (fkey p f i)) (h : Reached s x) : Reached s (x.count p f n i) :=
  Kept.count hk h

theorem setByte {a : Nat} {b : Byte} (h : Reached s x) : Reached s (x.setByte a b) := Kept.setByte trivial h

/-! ### What all accesses use -/

theorem source {a b : Nat} {o : Bool} (h : Reached s x) : Reached s (x.setSource a b o) :=
  Kept.setSource (by decide) (fun _ => .reacted) h

theorem raised {a b : Nat} (h : Reached s x) : Reached s (x.raise a b) := Kept.raise (by decide) (fun _ => .reacted) h
theorem lifeAdd {p i n : Nat} (h : Reached s x) : Reached s (x.lifeAdd p i n) := Kept.lifeAdd (by decide) h
theorem event {p b : Nat} (h : Reached s x) : Reached s (x.event p b) := Kept.event (by decide) .evt h
theorem onGirth {f : Girth → Girth} (h : Reached s x) : Reached s (x.onGirth f) := Kept.onGirth (by decide) h
theorem onDram {c : Nat} {f : Dram → Dram} (h : Reached s x) : Reached s (x.onDram c f) := Kept.onDram (by decide) h

theorem ite_fst {c : Prop} [Decidable c] {α : Type} {t u : State × α} (h : Reached s t.1) (k : Reached s u.1) :
    Reached s (if c then t else u).1 := by
  split
  · exact h
  · exact k

theorem foldl_fst {α β : Type} {l : List α} {f : State × β → α → State × β} {r : State × β} (h : Reached s r.1)
    (hf : ∀ r a, Reached r.1 (f r a).1) : Reached s (l.foldl f r).1 := by
  induction l generalizing r with
  | nil => exact h
  | cons a l ih => exact ih (h.trans (hf r a))

/-! ### The Girth -/

theorem laneTxn {seg lane : Nat} {f : Txn → Txn} (h : Reached s x) : Reached s (x.laneTxn seg lane f) :=
  Kept.with_harness (by decide) h

theorem setBank {b : Nat} {y : Bank} (h : Reached s x) : Reached s (x.setBank b y) := h.onGirth

theorem setGirthByte {o : Nat} {b : Byte} (h : Reached s x) : Reached s (x.setGirthByte o b) := by
  unfold State.setGirthByte
  extract_lets page reserve
  refine .ite h.onGirth ?_
  split
  · exact .ite h.setByte (.ite h.onGirth h.setByte.onGirth)
  · exact h.setByte

theorem wakeByAccess {seg : Nat} (h : Reached s x) : Reached s (x.wakeByAccess seg) :=
  .ite (.event (.count .girth (.set .girth (.set .girth (.set .girth h))))) h

theorem touchGirth {o n : Nat} (h : Reached s x) : Reached s (x.touchGirth o n) :=
  .ite h (h.each fun t _ => (refl t).wakeByAccess)

theorem lockFailed (h : Reached s x) : Reached s x.lockFailed := .event (.count .harness h)

theorem shadowed {port : Nat} (h : Reached s x) : Reached s (x.shadowed port) :=
  .raised (.event (.ite (.count .girth h) (.ite (.count .girth h) (.ite (.count .girth h) h))))

theorem shadowBeat {seg : Nat} {y : Beat} (h : Reached s x) : Reached s (x.shadowBeat seg y) := by
  unfold State.shadowBeat
  extract_lets first rt s1 s2 s3 s4
  have h2 : Reached s s2 := .ite h.shadowed.lockFailed.onGirth h.shadowed
  have h3 : Reached s s3 := .ite (.event (.count .window h2)) h2
  exact .laneTxn (.ite (.count .dram h3) h3)

theorem storeBeat {y : Beat} (h : Reached s x) : Reached s (x.storeBeat y) := by
  unfold State.storeBeat
  exact .onGirth (.onGirth (h.each fun t _ => .ite (refl t).setGirthByte (refl t)))

theorem girthCe {o : Nat} (h : Reached s x) : Reached s (x.girthCe o) := by
  unfold State.girthCe
  extract_lets b row s1 s2 ts _ s3 s4
  have h4 : Reached s s4 := .onGirth (.setBank (.lifeAdd (.event (.count .girth (.count .girth h)))))
  exact .ite h4.onGirth h4

theorem girthUe {o : Nat} (h : Reached s x) : Reached s (x.girthUe o) := by
  unfold State.girthUe
  extract_lets s1 s2 s3
  have h2 : Reached s s2 := .onGirth (.lifeAdd (.event (.count .girth h)))
  exact .source (.ite h2 (.set .girth (.set .girth h2)))

theorem checkRange {o n : Nat} (h : Reached s x) : Reached s (x.checkRange o n) := by
  refine h.each fun t w => .ite (refl t).girthUe ?_
  split
  · exact (refl t).girthCe
  · exact (refl t).girthUe
  · exact refl t

theorem denied (h : Reached s x) : Reached s ((x.count Pg.girth GIRTH.VAULT_DENIED).event Pg.girth 5) :=
  .event (.count .girth h)

theorem countMisaligned (h : Reached s x) : Reached s x.countMisaligned := .event (.count .girth h)

theorem denyVault {seg : Nat} {y : Beat} (h : Reached s x) : Reached s (x.denyVault seg y) :=
  .laneTxn (.ite h.denied.onGirth h.denied)

theorem readBeat {seg : Nat} {y : Beat} (h : Reached s x) : Reached s (x.readBeat seg y) :=
  .laneTxn (.ite h.checkRange.onGirth h.checkRange)

theorem writeBeat {seg : Nat} {y : Beat} (h : Reached s x) : Reached s (x.writeBeat seg y) := by
  unfold State.writeBeat
  extract_lets broken s1
  have h1 : Reached s s1 := .ite h.onGirth h
  exact .ite h1.lockFailed.laneTxn h1.storeBeat.laneTxn

theorem serveBeat {seg : Nat} {y : Beat} (h : Reached s x) : Reached s (x.serveBeat seg y) :=
  .ite (.laneTxn (.setBank h.countMisaligned)) (.ite h.denyVault (.ite h.writeBeat h.readBeat))

theorem slot {b : Nat} (h : Reached s x) : Reached s (x.slot b) := by
  unfold State.slot
  extract_lets seg s1 bk wipe
  have h1 : Reached s s1 := h.each fun t _ => (refl t).setBank.shadowBeat
  split
  · exact .ite h1 h1.setBank
  · split
    · exact h1
    · exact h1.setBank.serveBeat

theorem serveAhead {port b n : Nat} (h : Reached s x) : Reached s (x.serveAhead port b n) := by
  induction n generalizing x with
  | zero => exact h
  | succ n ih => exact .ite (ih h.slot) h

theorem reachBank {port b : Nat} (h : Reached s x) : Reached s (x.reachBank port b) := .ite h h.serveAhead.setBank

theorem storeLine {y : Beat} (h : Reached s x) : Reached s (x.storeLine y).1 :=
  .ite_fst h.denied (.ite_fst h.shadowed (h.each fun t _ => (refl t).setBank.shadowBeat).reachBank.storeBeat)

theorem store {port master o : Nat} {data : List Byte} (h : Reached s x) : Reached s (x.store port master o data).1 :=
  .ite_fst h.countMisaligned (h.touchGirth.foldl_fst fun r _ => (refl r.1).storeLine)

theorem fetchLine {y : Beat} (h : Reached s x) : Reached s (x.fetchLine y).1 := .ite_fst h.denied h.reachBank.checkRange

theorem fetch {port master o n : Nat} (h : Reached s x) : Reached s (x.fetch port master o n).1 :=
  .ite_fst h.countMisaligned (h.touchGirth.foldl_fst fun r _ => (refl r.1).fetchLine)

/-! ### The DRAM channels -/

theorem setRank {c r : Nat} {y : Rank} (h : Reached s x) : Reached s (x.setRank c r y) := h.onDram

theorem setRankState {c r v : Nat} (h : Reached s x) : Reached s (x.setRankState c r v) :=
  .set (.dram (show (0x048 : Nat) ≠ 0x008 by decide)) h

theorem chargeMaster {c r n : Nat} (h : Reached s x) : Reached s (x.chargeMaster c r n) := by
  unfold State.chargeMaster
  extract_lets k m s1 new s2 s3
  have h2 : Reached s s2 := h.onDram.onDram
  exact .ite h.onDram (.source (.set .dram (.ite (.event (.count .dram h2)) h2)))

theorem activate {c cs key row : Nat} {who : Option Nat} (h : Reached s x) : Reached s (x.activate c cs key row who) := by
  unfold State.activate
  extract_lets k t hit tbl rows s1 s2
  have h2 : Reached s s2 := .lifeAdd (.count .dram h.setRank)
  refine .ite h (.ite ?_ h.setRank)
  split
  · exact h2.chargeMaster
  · exact h2

theorem longStart {c : Nat} (h : Reached s x) : Reached s (x.longStart (Pg.dram c)) := .set .dram (.set .dram (.set .dram h))

theorem startMigration {c cs spare : Nat} (h : Reached s x) : Reached s (x.startMigration c cs spare) := by
  unfold State.startMigration
  extract_lets p s1 s2 wait s3 paused s4 s5
  have h4 : Reached s s4 := .onDram (.setFlag .dram (.set .dram (.set .dram (.set .dram h.setRankState))))
  exact .source (.lifeAdd (.event (.ite h4 h4.longStart)))

theorem serviceFails {c cs : Nat} (h : Reached s x) : Reached s (x.serviceFails c cs) := by
  refine .ite h.setRankState.onDram.source ?_
  split
  · exact h.startMigration
  · exact h.setRankState.source

theorem promoteStandby {c : Nat} (h : Reached s x) : Reached s (x.promoteStandby c) := by
  unfold State.promoteStandby
  split
  · exact h.setRankState
  · exact h

theorem spareFails {c : Nat} (h : Reached s x) : Reached s (x.spareFails c) := by
  unfold State.spareFails
  extract_lets p old s1 s2 s3 s4
  have h3 : Reached s s3 := .onDram (.set .dram (.set .dram (.setRankState (.event h.setRankState))))
  have h4 : Reached s s4 := .promoteStandby h3.event
  split
  · exact h4.startMigration
  · exact h4.source

theorem dramUe {c off kind cs : Nat} (h : Reached s x) : Reached s (x.dramUe c off kind cs) := by
  unfold State.dramUe
  extract_lets p s1 spare both s2
  have h2 : Reached s s2 := .onDram (.lifeAdd (.event (.count .dram h)))
  exact .ite h2 (.set .dram (.set .dram (.set .dram (.set .dram (.set .dram (.set .dram h2))))))

theorem dramCe {c cs : Nat} (h : Reached s x) : Reached s (x.dramCe c cs) := by
  unfold State.dramCe
  extract_lets p s1 ts _ s2 storm oldest s3
  have h2 : Reached s s2 := .setRank (.lifeAdd (.event (.count .dram h)))
  exact .ite (.ite h2.onDram h2.onDram.onDram.event.raised) h2

theorem rankError {c cs : Nat} (h : Reached s x) : Reached s (x.rankError c cs) := .ite h.spareFails (.ite h.serviceFails h)

theorem checkDram {c off kind : Nat} {ecc : List (Nat × Ecc)} (h : Reached s x) : Reached s (x.checkDram c off kind ecc) := by
  unfold State.checkDram
  extract_lets cs bad
  split
  · exact h
  · exact h.dramCe.onDram
  · exact h.dramUe.rankError

theorem activateWord {y : DramWord} {write : Bool} {who : Option Nat} (h : Reached s x) :
    Reached s (x.activateWord y write who) := h.each fun t _ => (refl t).activate

theorem closeWord {y : DramWord} {write : Bool} (h : Reached s x) : Reached s (x.closeWord y write) :=
  h.each fun t _ => (refl t).setRank

theorem accessWord {write close : Bool} {who : Option Nat} {ecc : List (Nat × Ecc)} {y : DramWord}
    {rest : List DramWord} (h : Reached s x) : Reached s (x.accessWord write close who ecc y rest) := by
  unfold State.accessWord
  extract_lets s1 s2
  have h1 : Reached s s1 := h.activateWord
  have h2 : Reached s s2 := .ite h1.checkDram (.ite h1 h1.checkDram)
  exact .ite h2.closeWord h2

theorem accessWords {write close : Bool} {who : Option Nat} {ecc : List (Nat × Ecc)} {ws : List DramWord}
    (h : Reached s x) : Reached s (x.accessWords write close who ecc ws).1 := by
  induction ws generalizing x with
  | nil => exact h
  | cons w ws ih => exact ih h.accessWord

theorem reachDram {r : HReq} {ecc : List (Nat × Ecc)} (h : Reached s x) : Reached s (x.reachDram r ecc).1 := h.accessWords

theorem wordsWritten {ws : List DramWord} (h : Reached s x) : Reached s (x.wordsWritten ws) := by
  have hranks (t : State) (w : DramWord) (l : List Nat) :
      Reached t (t.each l fun u cs => u.setRank w.chan cs { u.rank w.chan cs with helper := [] }) :=
    (refl t).each fun u _ => (refl u).setRank
  exact h.each fun t w => .ite (hranks t w _).onDram (hranks t w _)

/-! ### A burst -/

theorem countRefused (h : Reached s x) : Reached s x.countRefused := .event (.count .harness h)

theorem countMiss {r : HReq} (h : Reached s x) : Reached s (x.countMiss r) := by
  unfold State.countMiss
  extract_lets p s1 s2 s3
  have h1 : Reached s s1 := .event (.count .harness h)
  exact .ite h1 (.raised (.set .harness (.set .harness (.set .harness (.setFlag .harness (.set .harness h1))))))

theorem countClosed {r : HReq} (h : Reached s x) : Reached s (x.countClosed r) := h.each fun t _ => .count .dram (refl t)

theorem storeRun {r : HReq} (h : Reached s x) : Reached s (x.storeRun r) :=
  h.each fun t _ => .ite (refl t).setByte (refl t)

/-- What a burst that firmware reads may change. -/
theorem peekBurst {a n : Nat} {bulk : Bool} (h : Reached s x) : Reached s (x.peekBurst a n bulk) := by
  unfold State.peekBurst
  extract_lets r
  split
  · exact h.countMiss
  · exact .ite h.countRefused (.ite h.fetch (.ite (.ite h.reachDram h.countClosed) h))

/-- What a burst that firmware stores may change. -/
theorem pokeBurst {a : Nat} {l : List Byte} {bulk : Bool} (h : Reached s x) : Reached s (x.pokeBurst a l bulk) := by
  unfold State.pokeBurst
  extract_lets r q
  split
  · exact h.countMiss
  · exact .ite h.countRefused (.ite h.store (.ite h.storeRun
      (.ite (.ite h.reachDram.storeRun.wordsWritten h.countClosed) h)))

theorem peeked {a n : Nat} {bulk : Bool} (h : Reached s x) : Reached s (x.peeked a n bulk) :=
  h.each fun t _ => (refl t).peekBurst

theorem pokeBytes {a : Nat} {l : List Byte} {bulk : Bool} (h : Reached s x) : Reached s (x.pokeBytes a l bulk) :=
  h.each fun t _ => (refl t).pokeBurst

end Reached
end Sys2Proof.Machine
end

section
/-!
SUPPORT. The watchdog: kicks, and what its expiry takes from the control cores (R31, R55).
-/

namespace Sys2Proof.Machine

variable {s t u x : State} {m : Master} {v : Word} {l : LongCmd}

/-! ### Kicks -/

theorem exec_wdogKick_kicks (h : s.takes m Pg.ctrl) (hm : Master.isCore m = true) : exec (.wdogKick m 0x5A17) s =
    .next (((s.abandonUnlock Pg.ctrl).onCtrl fun c => { c with wdogAt := s.now }).answer (.ok [])) := by
  rw [exec_wdogKick, execWdogKick, State.writeTo_takes h, hm]
  rfl

theorem exec_wdogKick_bad (h : s.takes m Pg.ctrl) (hv : ¬ (Master.isCore m = true ∧ v = 0x5A17)) :
    exec (.wdogKick m v) s =
      .next ((((s.abandonUnlock Pg.ctrl).count Pg.ctrl CTRL.WDOG_BAD).event Pg.ctrl 1).answer (.ok [])) := by
  rw [exec_wdogKick, execWdogKick, State.writeTo_takes h, if_neg]
  rw [Bool.and_eq_true, decide_eq_true_eq]
  exact hv

theorem State.present_ctrl (s : State) : s.present Pg.ctrl = true := by
  unfold State.present
  cases s.part <;> decide

/-- What another write of the kick register leaves. -/
theorem State.kickCounted (s : State) : ∀ u,
    u = (((s.abandonUnlock Pg.ctrl).count Pg.ctrl CTRL.WDOG_BAD).event Pg.ctrl 1).answer (.ok []) →
    Wrote Pg.ctrl s u ∧ u.get Pg.ctrl CTRL.WDOG_BAD = min (s.get Pg.ctrl CTRL.WDOG_BAD + 1) 0xFFFFFFFF ∧
      u.evt Pg.ctrl 1 = true ∧
      Kept [.resp, .ctrl, .msix] (fields [fkey Pg.ctrl CTRL.WDOG_BAD 0, fkey Pg.ctrl PG.EVT 0]) noByte s u := by
  rintro u rfl
  refine ⟨State.wrote_answer (by rw [State.event_ctrl, State.count_ctrl]), ?_, ?_, ?_⟩
  · rw [State.answer_get, State.get_event_off _ _ _ (by decide), State.get_count_same]
    rfl
  · exact State.evt_event_same (State.present_ctrl _) 1 (by decide)
  · exact .answer (by decide) (.event (by decide) (by simp [fields]) (.count (by simp [fields]) (.abandonUnlock (by decide) .rfl')))

/-! ### What the cores carried out is lost -/

/-- The parts of the state that the loss of a long command may change. -/
def losing : List Area := .ctrl :: .fabric :: .mix :: accessing

/-- The registers that it may change. -/
def Losing (k : FKey) : Prop := Accessed k ∨ k = fkey Pg.mix MIX.STAGE_SET_INCOMPLETE 0

/-- The loss of long commands leaves the records of the commands. -/
structure Loses (s u : State) : Prop where
  kept : Kept losing Losing (fun _ => True) s u
  long : u.ctrl.long = s.ctrl.long
  held : u.ctrl.held = s.ctrl.held
  lost : u.ctrl.lost = s.ctrl.lost

namespace Loses

theorem refl (s : State) : Loses s s := ⟨.rfl', rfl, rfl, rfl⟩

theorem trans (h : Loses s t) (k : Loses t u) : Loses s u :=
  ⟨h.kept.trans k.kept, k.long.trans h.long, k.held.trans h.held, k.lost.trans h.lost⟩

/-- A step that leaves the control complex leaves the records. -/
theorem of_kept (h : Kept (.fabric :: .mix :: accessing) Losing (fun _ => True) s u) : Loses s u := by
  have hc : u.ctrl = s.ctrl := h.areas .ctrl (by decide)
  exact ⟨h.mono (fun _ ha => List.mem_cons_of_mem _ ha) (fun _ hk => hk) fun _ hm => hm, by rw [hc], by rw [hc], by rw [hc]⟩

theorem of_reached (h : Reached s u) : Loses s u :=
  of_kept (Kept.mono h (fun _ ha => List.mem_cons_of_mem _ (List.mem_cons_of_mem _ ha)) (fun _ hk => .inl hk) fun _ hm => hm)

theorem each {α : Type} (l : List α) (f : State → α → State) (h : ∀ t a, Loses t (f t a)) (s : State) :
    Loses s (s.each l f) := by
  induction l generalizing s with
  | nil => exact refl s
  | cons a l ih => exact (h s a).trans (ih (f s a))

end Loses

/-- The mark of a slot leaves the records of commands. -/
theorem Ctrl.setFailed_records (c : Ctrl) (y : Slot) (b : Bool) : (c.setFailed y b).long = c.long ∧
    (c.setFailed y b).held = c.held ∧ (c.setFailed y b).lost = c.lost := by
  cases y <;> exact ⟨rfl, rfl, rfl⟩

theorem Reached.pokeFree {a n : Nat} (h : Reached s x) : Reached s (x.pokeFree a n) :=
  .pokeBytes (h.trans (.area .free .rfl' (by decide) rfl rfl rfl rfl fun b hb => by
    cases b <;> first | exact absurd rfl hb | rfl))

/-- What the loss of a long command leaves (R31). -/
theorem State.loseLong_loses (s : State) (l : LongCmd) : Loses s (s.loseLong l) := by
  have hdone (u : State) (p : Nat) : Kept (.fabric :: .mix :: accessing) Losing (fun _ => True) u (u.longEnd p false) :=
    .opDone (by decide) (.inl .evt) .rfl'
  unfold State.loseLong
  extract_lets op lifeLost
  split
  · exact .of_kept (.trans (.onFabric (by decide) .rfl') (hdone ..))
  split
  · exact .of_kept (.trans (.set (.inr rfl) (.onMix (by decide) .rfl')) (hdone ..))
  split
  · refine .of_reached (.each (.refl s) fun t c => ?_)
    have h : Reached t (((t.onDram c fun d => { d with training := none }).set (Pg.dram c) DRAM.TRN_RESULT_VALID 0).longEnd
        (Pg.dram c) false) := .event (.set .dram (Reached.refl t).onDram)
    exact .ite (.longStart (.set .dram h)) h
  split
  · exact .of_kept (hdone ..)
  split
  · refine .trans (.of_reached (u := lifeLost) ?_) (.of_kept (.trans (.onLife (by decide) .rfl') (hdone ..)))
    unfold lifeLost
    split
    · exact (Reached.refl s).pokeFree
    · exact .refl s
  split
  · have hc : Loses s (s.onCtrl fun c => { (c.setFailed (otherSlot c.active) true) with updated := none }) := by
      obtain ⟨hlong, hheld, hlost⟩ := s.ctrl.setFailed_records (otherSlot s.ctrl.active) true
      exact ⟨.onCtrl (by decide) .rfl', hlong, hheld, hlost⟩
    exact hc.trans (.of_kept (hdone ..))
  · exact .refl s

/-- No register of the control complex but its event bits is written by the loss. -/
theorem Loses.get_ctrl {f : Fld} (h : Loses s u) (hf : f.off ≠ PG.EVT.off) : u.get Pg.ctrl f = s.get Pg.ctrl f :=
  h.kept.get fun hk => hk.elim (not_accessed_low hf (by decide)) fun e =>
    absurd (congrArg FKey.p e) (show Pg.ctrl ≠ Pg.mix by decide)

/-! ### The cores stop -/

/-- The records of what was lost. -/
def State.lostRecords (s : State) : List LongCmd :=
  s.ctrl.lost ++ s.ctrl.held.map (fun r => ⟨r.op, r.tag⟩) ++ s.ctrl.long

/-- The image's registers once the cores have stopped. -/
def State.coresDown (s : State) : State :=
  let s := s.onCtrl fun c => { c with
    restarting := true, lost := c.lost ++ c.held.map (fun r => ⟨r.op, r.tag⟩) ++ c.long, long := [], held := [] }
  let s := (s.set Pg.ctrl CTRL.FW_ID_MAJOR 0).set Pg.ctrl CTRL.FW_ID_MINOR 0
  let s := (s.set Pg.ctrl CTRL.FW_ID_BUILD 0).set Pg.ctrl CTRL.FW_SECVER_IMAGE 0
  let s := (s.set Pg.ctrl CTRL.CORE_STAT_RUNNING 0).set Pg.ctrl CTRL.WDOG_STAT_ARMED 0
  s.set Pg.harness HARNESS.REMAP_REMAP 0

theorem State.coresStop_eq (s : State) :
    s.coresStop = (s.each s.ctrl.long State.loseLong).coresDown.each [7, 8, 9, 10] State.resetMaster := rfl

/-- Behind the stop of the cores only their masters' resets follow. -/
theorem State.coresStop_kept (s : State) : Kept [.free, .harness, .girth, .msix] (fields resetMasterFields) noByte
    (s.each s.ctrl.long State.loseLong).coresDown s.coresStop := by
  rw [State.coresStop_eq]
  exact .each _ _ (fun t c _ => t.resetMaster_kept c) _

/-- What the stop of the cores leaves. -/
theorem State.coresStop_leaves (s : State) : s.coresStop.ctrl.restarting = true ∧ s.coresStop.ctrl.long = [] ∧
    s.coresStop.ctrl.held = [] ∧ s.coresStop.ctrl.lost = s.lostRecords ∧
    s.coresStop.flag Pg.ctrl CTRL.WDOG_STAT_ARMED = false ∧ s.coresStop.flag Pg.harness HARNESS.REMAP_REMAP = false ∧
    s.coresStop.get Pg.ctrl CTRL.WDOG_EXPIRIES = s.get Pg.ctrl CTRL.WDOG_EXPIRIES ∧ s.coresStop.now = s.now := by
  have hk := s.coresStop_kept
  have hl := Loses.each s.ctrl.long State.loseLong State.loseLong_loses s
  obtain ⟨t, ht⟩ : ∃ t, t = s.each s.ctrl.long State.loseLong := ⟨_, rfl⟩
  rw [← ht] at hk hl
  have hc : s.coresStop.ctrl = t.coresDown.ctrl := hk.areas .ctrl (by decide)
  refine ⟨by rw [hc]; rfl, by rw [hc]; rfl, by rw [hc]; rfl, ?_, ?_, ?_, ?_, ?_⟩
  · rw [hc, State.lostRecords, ← hl.lost, ← hl.held, ← hl.long]
    rfl
  · rw [State.flag_eq, hk.get_page (by decide), State.coresDown, State.get_set_page _ _ (by decide), State.get_set_same]
    rfl
  · rw [State.flag_eq, hk.get_off (by decide), State.coresDown, State.get_set_same]
    rfl
  · rw [hk.get_page (by decide), State.coresDown, State.get_set_page _ _ (by decide), State.get_set_off _ _ (by decide),
      State.get_set_off _ _ (by decide), State.get_set_off _ _ (by decide), State.get_set_off _ _ (by decide),
      State.get_set_off _ _ (by decide), State.get_set_off _ _ (by decide), State.onCtrl_get, hl.get_ctrl (by decide)]
  · have hdown : s.coresStop.now = t.coresDown.now := hk.areas .clock (by decide)
    have hlost : t.now = s.now := hl.kept.areas .clock (by decide)
    rw [hdown, State.coresDown]
    simp only [State.set_now, State.onCtrl_now, hlost]

/-! ### Expiry -/

/-- The count of expiries and its event, 100 ms after the last kick. -/
def State.expires (s : State) : State :=
  ((s.reach (s.ctrl.wdogAt + cyclesMs 100)).count Pg.ctrl CTRL.WDOG_EXPIRIES).event Pg.ctrl 0

theorem exec_watchdogExpiry_armed (h : s.flag Pg.ctrl CTRL.WDOG_STAT_ARMED = true) :
    exec .watchdogExpiry s = .next ((s.expires.coresStop.setFw Fw.restarting).raise Src.watchdog 0) := by
  rw [exec_watchdogExpiry, execWatchdogExpiry, whenHolds_of h]
  rfl

theorem State.expires_ctrl (s : State) : s.expires.ctrl = s.ctrl := by
  rw [State.expires, State.event_ctrl, State.count_ctrl, State.reach_ctrl]

theorem State.expires_counts (s : State) : s.expires.get Pg.ctrl CTRL.WDOG_EXPIRIES =
    min (s.get Pg.ctrl CTRL.WDOG_EXPIRIES + 1) 0xFFFFFFFF := by
  rw [State.expires, State.get_event_off _ _ _ (by decide), State.get_count_same, State.reach_get]
  rfl

theorem State.expires_now (s : State) : s.expires.now = max s.now (s.ctrl.wdogAt + 62500000) := by
  rw [State.expires, State.event_now, State.count_now, State.reach_now, show cyclesMs 100 = 62500000 from rfl]

end Sys2Proof.Machine
end

section
/-!
O33: the watchdog and the restart of the control cores (R31, R55, R234).
-/

namespace Sys2Proof.Machine

variable {s t u x : State}

/-! ### Expiry -/

/-- What the expiry of the watchdog leaves. -/
theorem State.expired (s : State) : ∀ u, u = (s.expires.coresStop.setFw Fw.restarting).raise Src.watchdog 0 →
    u.fwState = Fw.restarting ∧ u.flag Pg.ctrl CTRL.WDOG_STAT_ARMED = false ∧
    u.get Pg.ctrl CTRL.WDOG_EXPIRIES = min (s.get Pg.ctrl CTRL.WDOG_EXPIRIES + 1) 0xFFFFFFFF ∧
    u.flag Pg.harness HARNESS.REMAP_REMAP = false ∧ u.ctrl.restarting = true ∧ u.ctrl.long = [] ∧ u.ctrl.held = [] ∧
    u.ctrl.lost = s.lostRecords ∧ u.condition Src.watchdog 0 = true ∧ u.now = max s.now (s.ctrl.wdogAt + 62500000) := by
  intro u hu
  rw [hu]
  clear u hu
  obtain ⟨hrestart, hlong, hheld, hlost, harmed, hremap, hcount, hnow⟩ := s.expires.coresStop_leaves
  obtain ⟨t, ht⟩ : ∃ t, t = s.expires.coresStop := ⟨_, rfl⟩
  rw [← ht] at hrestart hlong hheld hlost harmed hremap hcount hnow ⊢
  have hr : ∀ p, p < 0x240 → p ≠ Pg.cinch → ∀ f : Fld, f.off ≠ PG.EVT.off →
      ((t.setFw Fw.restarting).raise Src.watchdog 0).get p f = (t.setFw Fw.restarting).get p f := fun p hp hc f hf =>
    State.get_raise _ _ _ (fun h => h.elim hc fun h => Nat.not_le_of_lt hp h.1) hf
  rw [State.raise_ctrl, State.setFw, State.set_ctrl, hrestart, hlong, hheld, hlost, State.lostRecords, s.expires_ctrl]
  refine ⟨?_, ?_, ?_, ?_, rfl, rfl, rfl, rfl, State.raise_active _ _ _ rfl, ?_⟩
  · rw [State.fwState, ← State.setFw, hr _ (by decide) (by decide) _ (by decide)]
    exact State.get_set_same ..
  · rw [State.flag_eq, ← State.setFw, hr _ (by decide) (by decide) _ (by decide), State.setFw,
      State.get_set_page _ _ (by decide), ← State.flag_eq, harmed]
  · rw [← State.setFw, hr _ (by decide) (by decide) _ (by decide), State.setFw, State.get_set_page _ _ (by decide), hcount,
      State.expires_counts]
  · rw [State.flag_eq, ← State.setFw, hr _ (by decide) (by decide) _ (by decide), State.setFw,
      State.get_set_page _ _ (by decide), ← State.flag_eq, hremap]
  · rw [State.raise_now, State.set_now, hnow, State.expires_now]

/-! ### The restart -/

theorem State.queueDone_kept (s : State) (r : DoneRec) :
    Kept [.ctrl, .msix] (fields [fkey Pg.host PG.EVT 0]) noByte s (s.queueDone r) :=
  .ite (fun _ => .event (by decide) (by simp [fields]) (.onCtrl (by decide) .rfl')) fun _ => .onCtrl (by decide) .rfl'

theorem State.queueDone_records (s : State) (r : DoneRec) :
    (s.queueDone r).ctrl.restarting = s.ctrl.restarting ∧ (s.queueDone r).ctrl.lost = s.ctrl.lost := by
  unfold State.queueDone State.putDone
  split
  · rw [State.event_ctrl]
    exact ⟨rfl, rfl⟩
  · exact ⟨rfl, rfl⟩

/-- The command that waited is answered. -/
def State.answersShort (s : State) : State :=
  match s.ctrl.short with
  | some l => s.reply l.op.toNat l.tag St.fwRestart []
  | none => s

/-- The commands that were lost end. -/
def State.endsLost (s : State) : State :=
  (s.onCtrl fun c => { c with lost := [] }).each s.ctrl.lost fun t l =>
    t.queueDone ⟨l.op, l.tag, BitVec.ofNat 8 St.fwRestart⟩

theorem State.answerLost_eq (s : State) : s.answerLost = s.answersShort.endsLost := rfl

theorem State.answersShort_kept (s : State) :
    Kept [.resp, .ctrl, .msix] (fields replyFields) noByte s s.answersShort := by
  unfold State.answersShort
  split
  · exact s.reply_kept ..
  · exact .rfl'

theorem State.reply_restarting (s : State) (op : Nat) (tag : BitVec 8) (st : Nat) (ws : List Word) :
    (s.reply op tag st ws).ctrl.restarting = s.ctrl.restarting := by
  unfold State.reply
  simp only [State.answer_ctrl, State.event_ctrl, State.set_ctrl, State.onCtrl_ctrl]

theorem State.answersShort_restarting (s : State) : s.answersShort.ctrl.restarting = s.ctrl.restarting := by
  unfold State.answersShort
  split
  · exact s.reply_restarting ..
  · rfl

/-- The answers to what was lost. -/
theorem State.answerLost_kept (s : State) : Kept [.resp, .ctrl, .msix] (fields replyFields) noByte s s.answerLost := by
  rw [State.answerLost_eq]
  refine s.answersShort_kept.trans (.trans (.onCtrl (by decide) .rfl') (.each _ _ (fun t l _ => ?_) _))
  refine (t.queueDone_kept _).mono (by decide) (fun k hk => ?_) fun _ h => h
  exact List.mem_cons_of_mem _ (List.mem_cons_of_mem _ hk)

/-- Nothing lost stays unanswered. -/
theorem State.answerLost_records (s : State) : s.answerLost.ctrl.restarting = s.ctrl.restarting ∧ s.answerLost.ctrl.lost = [] := by
  rw [State.answerLost_eq, State.endsLost, ← s.answersShort_restarting]
  refine State.each_induction
    (fun t => t.ctrl.restarting = s.answersShort.ctrl.restarting ∧ t.ctrl.lost = []) _ _ (fun t l ht => ?_) _ ⟨rfl, rfl⟩
  obtain ⟨hr, hl⟩ := t.queueDone_records ⟨l.op, l.tag, BitVec.ofNat 8 St.fwRestart⟩
  exact ⟨hr.trans ht.1, hl.trans ht.2⟩

/-- The restart shows, and the Keeper's next checkpoint is a full one. -/
def State.showsRestart (s : State) : State :=
  ((s.reachRun.event Pg.ctrl 2).lower Src.watchdog 0).onKeeper fun k => { k with fullNext := true }

theorem State.showsRestart_kept (s : State) : Kept (.keeper :: Machine.reacting)
    (fun k => k = fkey Pg.ctrl PG.EVT 0 ∨ reaction k) noByte s.reachRun s.showsRestart :=
  .onKeeper (by decide) (.lower (by decide) (fun _ => .inr) (.event (by decide) (.inl rfl) .rfl'))

theorem exec_restarted_boots {b : BootView} {y : Slot} {i : ImgInfo} (hr : s.ctrl.restarting = true)
    (hf : s.fwState = Fw.restarting) (hc : s.coresReleased = true) (hy : y = slotOf (s.get Pg.host HOST.BOOT_STAT_SLOT))
    (hb : s.boots b y i) : exec (.restarted b) s = .next (s.startImage y i).showsRestart.answerLost := by
  obtain ⟨-, -, hv⟩ := id hb
  have hverify := (s.startImage_booted y (length_of_verdict hv)).verify
  rw [exec_restarted, execRestarted, whenHolds_of (by rw [hr, hf, hc]; rfl), ← hy, State.bootFrom_boots hb]
  dsimp only
  rw [if_pos hverify]
  rfl

theorem State.cinchSrc_setCinchSrc (s : State) (src : Nat) (c : CinchSrc) : (s.setCinchSrc src c).cinchSrc src = c :=
  nget_nput_same ..

theorem State.liveFell_active (s : State) (src : Nat) :
    ((s.liveFell src).cinchSrc src).active = (s.cinchSrc src).active := by
  unfold State.liveFell
  split
  · split
    · have h (c : CinchSrc) : ((s.setCinchSrc src c).set Pg.cinch CINCH.SRC_STAT_RSTATE Rstate.quiet src).cinchSrc src = c :=
        s.cinchSrc_setCinchSrc src c
      rw [h]
    · rfl
  · rfl

/-- A source whose condition ends for one of its numbers is no longer active for that number. -/
theorem State.lower_inactive (s : State) (src inst : Nat) : (s.lower src inst).condition src inst = false := by
  have h : ((s.lower src inst).cinchSrc src).active = (s.cinchSrc src).active.filter (· ≠ inst) := by
    unfold State.lower
    extract_lets was c t
    have ht : (t.cinchSrc src).active = (s.cinchSrc src).active.filter (· ≠ inst) :=
      congrArg CinchSrc.active (s.cinchSrc_setCinchSrc src _)
    split
    · rw [State.liveFell_active, ht]
    · exact ht
  rw [State.condition, h]
  simp

theorem not_reactive_ctrl : ¬ reactive Pg.ctrl := fun h => h.elim (by decide) fun h => absurd h.1 (by decide)

/-- What a restart leaves of its image. -/
theorem State.restarts (s : State) (y : Slot) {i : ImgInfo} (hl : i.bytes.length ≤ Mem.sramSize) : ∀ u,
    u = (s.startImage y i).showsRestart.answerLost → u.fwState = Fw.run ∧ u.ctrl.restarting = false ∧ u.ctrl.lost = [] ∧
      u.evt Pg.ctrl 2 = true ∧ u.condition Src.watchdog 0 = false ∧ u.keeper.fullNext = true ∧
      u.get Pg.ctrl CTRL.FW_ID_MAJOR = i.major.toNat ∧
      (∀ k, k < Mem.sramSize → k < i.bytes.length → u.byte (Mem.sram + k) = i.bytes.getD k 0) ∧ SramOnly s u := by
  rintro u rfl
  have hboot := (s.startImage_booted y hl).image
  have hsram := s.startImage_sramOnly y hl
  have himg : (s.startImage y i).ctrl.img = i := by rw [State.startImage_ctrl]
  obtain ⟨t, ht⟩ : ∃ t, t = s.startImage y i := ⟨_, rfl⟩
  rw [← ht] at hboot hsram himg ⊢
  have hk := t.showsRestart.answerLost_kept
  have hs := t.showsRestart_kept
  obtain ⟨hrun, hmajor, -, -⟩ := t.reachRun_shows
  obtain ⟨hrestarting, hlost⟩ := t.showsRestart.answerLost_records
  have hbyte : ∀ a, t.showsRestart.answerLost.byte a = t.byte a := fun a =>
    (hk.mem a id).trans ((hs.mem a id).trans (t.reachRun_kept.mem a id))
  have hnot : ∀ {p : Nat} {f : Fld}, f.off ≠ PG.EVT.off → p ≠ Pg.cinch ∧ p < 0x240 →
      ¬ (fkey p f 0 = fkey Pg.ctrl PG.EVT 0 ∨ reaction (fkey p f 0)) := fun ho hp h =>
    h.elim (fun e => ho (congrArg FKey.off e)) (not_reaction ho hp)
  refine ⟨?_, ?_, hlost, ?_, ?_, ?_, ?_, fun k h1 h2 => (hbyte _).trans (hboot k h1 h2), fun a ha => (hbyte a).trans (hsram a ha)⟩
  · rw [State.fwState, hk.get_off (by decide), hs.get (hnot (by decide) (by decide))]
    exact hrun
  · have hc : t.showsRestart.ctrl = t.reachRun.ctrl := hs.areas .ctrl (by decide)
    rw [hrestarting, hc, t.reachRun_ctrl]
    rfl
  · rw [State.evt_of_get (hk.get_page (by decide)), State.showsRestart, State.evt_of_get (State.onKeeper_get ..)]
    exact (State.lower_calm ..).evt Pg.ctrl not_reactive_ctrl 2 (by decide) (State.evt_event_same (State.present_ctrl _) 2 (by decide))
  · have hc : t.showsRestart.answerLost.cinch = t.showsRestart.cinch := hk.areas .cinch (by decide)
    rw [State.condition, State.cinchSrc, hc, State.showsRestart, State.onKeeper_cinch]
    exact State.lower_inactive ..
  · have hc : t.showsRestart.answerLost.keeper = t.showsRestart.keeper := hk.areas .keeper (by decide)
    rw [hc, State.showsRestart, State.onKeeper_keeper]
  · rw [hk.get_page (by decide), hs.get (hnot (by decide) (by decide)), hmajor, himg]

/-- While the Harness holds a core in reset the cores are not released. -/
theorem State.coresReleased_iff (s : State) : s.coresReleased = true ↔ ∀ c ∈ [7, 8, 9, 10], s.masterInReset c = false := by
  unfold State.coresReleased
  simp only [List.all_eq_true, Bool.not_eq_true']

/-- Settles O33: the kick, the expiry and the restart, each by what it leaves (R31, R55). -/
theorem watchdog : Obligations.Watchdog := by
  unfold Obligations.Watchdog
  refine ⟨fun s m h hm => ?_, fun s m v h hv => ?_, fun s h => ?_, fun s b i hr hf hb hc => ?_, fun s b c hc hm => ?_⟩
  · exact ⟨_, exec_wdogKick_kicks h hm, rfl, rfl, .answer (by decide) (.onCtrl (by decide) (.abandonUnlock (by decide) .rfl'))⟩
  · exact ⟨_, exec_wdogKick_bad h hv, s.kickCounted _ rfl⟩
  · exact ⟨_, exec_watchdogExpiry_armed h, s.expired _ rfl⟩
  · obtain ⟨-, -, hv⟩ := id hb
    exact ⟨_, exec_restarted_boots hr hf (s.coresReleased_iff.mpr hc) rfl hb, s.restarts _ (length_of_verdict hv) _ rfl⟩
  · have h : s.coresReleased = false := by
      rw [← Bool.not_eq_true, State.coresReleased_iff]
      exact fun h => Bool.false_ne_true ((h c hc).symm.trans hm)
    rw [exec_restarted, execRestarted, whenHolds_not (by rw [h, Bool.and_false])]

end Sys2Proof.Machine
end

section
/-!
SUPPORT. Scenes after their staging: the end of a staging, the check, the cancel, the end of the ramps and the mirror
(R167, R171, R174).
-/

namespace Sys2Proof.Machine

variable {s t u x : State} {st : Staging} {i : Nat} {c : Commit} {m : Master} {v : Word}

theorem State.present_mix (s : State) : s.present Pg.mix = true := by
  unfold State.present
  cases s.part <;> decide

/-! ### The end of a staging -/

/-- A staged record goes into a bank or waits; the rest of the mix unit stays. -/
theorem State.stageWrite_kept (s : State) (r : StageRec) : Kept [.mix, .tiles] (fields []) noByte s (s.stageWrite r) := by
  unfold State.stageWrite State.placeStaged
  exact .ite (fun _ => .onMix (by decide) .rfl') fun _ => .onMix (by decide) (.setTile (by decide) .rfl')

theorem State.stageWrite_routes (s : State) (r : StageRec) : (s.stageWrite r).mix.stageRoutes = s.mix.stageRoutes := by
  unfold State.stageWrite
  split <;> rfl

/-- The records staged. -/
def State.staged (s : State) (st : Staging) : State := s.each st.recs fun t r => t.stageWrite r

/-- The set shown as staged. -/
def State.showsStaged (s : State) (st : Staging) : State :=
  let s := (s.staged st).onMix fun m => { m with
    staging := none, stageRoutes := mergeRoutes m.stageRoutes st.routes, rampMs := st.rampMs, routeMs := st.routeMs }
  let s := (s.set Pg.mix MIX.STAGE_SET_SET st.set).set Pg.mix MIX.STAGE_SET_INCOMPLETE 0
  s.set Pg.mix PG.PROGRESS_POSITION st.recs.length

theorem exec_sceneStageDone_ends (h : s.mix.staging = some st) :
    exec .sceneStageDone s = .next ((s.showsStaged st).finish Op.sceneStage st.tag Pg.mix St.ok) := by
  rw [exec_sceneStageDone, execSceneStageDone, h]
  rfl

theorem State.staged_kept (s : State) (st : Staging) : Kept [.mix, .tiles] (fields []) noByte s (s.staged st) :=
  .each _ _ (fun t r _ => t.stageWrite_kept r) s

theorem State.staged_routes (s : State) (st : Staging) : (s.staged st).mix.stageRoutes = s.mix.stageRoutes :=
  State.each_induction (fun t => t.mix.stageRoutes = s.mix.stageRoutes) _ _
    (fun t r ht => (t.stageWrite_routes r).trans ht) s rfl

theorem State.showsStaged_kept (s : State) (st : Staging) : Kept [.mix, .tiles]
    (fields [fkey Pg.mix MIX.STAGE_SET_SET 0, fkey Pg.mix MIX.STAGE_SET_INCOMPLETE 0, fkey Pg.mix PG.PROGRESS_POSITION 0])
      noByte s (s.showsStaged st) :=
  .set (by simp [fields]) (.set (by simp [fields]) (.set (by simp [fields]) (.onMix (by decide)
    ((s.staged_kept st).mono (fun _ h => h) (fun _ h => absurd h List.not_mem_nil) fun _ h => h))))

/-! ### The check and the cancel -/

theorem exec_sceneCheck_checks (h : s.armed Ck.scene = some (i, c)) (hb : c.begun = false) :
    exec .sceneCheck s = .next (if (s.untilTime0 (c.at_ - 4000000)).stageIncomplete c.set then
      (s.untilTime0 (c.at_ - 4000000)).commitDropped i c Cr.incomplete else s.untilTime0 (c.at_ - 4000000)) := by
  rw [exec_sceneCheck, execSceneCheck, h]
  dsimp only
  rw [if_neg (by rw [hb]; exact Bool.false_ne_true)]

theorem exec_commitCancel_scene (h : s.takes m Pg.mix) (hg : MIX.COMMIT_CANCEL_GO.of v = 1)
    (hc : SMap.find? s.mix.commits (MIX.COMMIT_CANCEL_ENTRY.of v) = some c) (hk : c.kind = Ck.scene) :
    exec (.commitCancel m v) s = .next ((if c.begun || c.at_ < s.nanos0 + 4000000 then
        (s.abandonUnlock Pg.mix).commitFails c Cr.tooLate
      else (s.abandonUnlock Pg.mix).commitDropped (MIX.COMMIT_CANCEL_ENTRY.of v) c Cr.cancelled).answer (.ok [])) := by
  have hn : (s.abandonUnlock Pg.mix).nanos0 = s.nanos0 := by rw [State.nanos0, State.abandonUnlock_time, State.nanos0]
  rw [exec_commitCancel, execCommitCancel, State.writeTo_takes h, hg, State.abandonUnlock_mix, if_neg Nat.one_ne_zero]
  dsimp only
  rw [hc]
  dsimp only
  rw [hk, if_neg (by decide), if_neg (show ¬ Ck.scene = Ck.swap by decide), hn,
    show cancelLead Ck.scene = 4000000 from rfl]

/-- A commit that fails leaves its result, its event and its source. -/
theorem State.commitFails_shows (s : State) (c : Commit) {r : Nat} (hr : r < 2 ^ MIX.COMMIT_RESULT_RESULT.w) :
    (s.commitFails c r).get Pg.mix MIX.COMMIT_RESULT_RESULT = r ∧ (s.commitFails c r).evt Pg.mix 2 = true ∧
    (s.commitFails c r).condition Src.commitFail 0 = true ∧ (s.commitFails c r).mix = s.mix ∧
    (s.commitFails c r).ctrl = s.ctrl ∧ (s.commitFails c r).now = s.now := by
  have hn : ¬ reactive Pg.mix := fun h => h.elim (by decide) fun h => absurd h.1 (by decide)
  unfold State.commitFails State.commitResult
  refine ⟨?_, ?_, State.raise_active _ _ _ rfl, ?_, ?_, ?_⟩
  · rw [State.get_raise _ _ _ hn (by decide), State.get_event_off _ _ _ (by decide), State.get_set_lo _ _ (by decide),
      State.get_set_lo _ _ (by decide), State.get_set_same]
    exact Nat.mod_eq_of_lt hr
  · exact State.raise_noted _ _ _ hn 2 (by decide) (State.evt_event_same (State.present_mix _) 2 (by decide))
  · rw [State.raise_mix, State.event_mix]
    rfl
  · rw [State.raise_ctrl, State.event_ctrl]
    rfl
  · rw [State.raise_now, State.event_now]
    rfl

/-! ### The end of the ramps -/

theorem exec_rampEnd_ends {n : Nat} (hn : n < 256) (hb : s.flag (Pg.awl n) AWL.PSTAT_RAMP_BUSY = true)
    (hl : (s.tile n).rampLeft = 0) : exec (.rampEnd n) s =
      .next ((s.set (Pg.awl n) AWL.PSTAT_RAMP_BUSY 0).setTile n { s.tile n with mirror := true }) := by
  rw [exec_rampEnd, execRampEnd, guardWf_of (decide_eq_true hn), whenHolds_of (by rw [hb, hl]; rfl)]

theorem State.tile_setTile (s : State) (n : Nat) (y : Tile) : (s.setTile n y).tile n = y := nget_nput_same ..

theorem State.tile_setTile_ne (s : State) {n j : Nat} (y : Tile) (h : j ≠ n) : (s.setTile n y).tile j = s.tile j :=
  nget_nput_ne _ _ _ _ (Ne.symm h)

/-! ### The mirror -/

theorem Tile.param_setParam_same (y : Tile) (b : Bool) (k j : Nat) (v : Word) :
    (y.setParam b k v).param b j = if k = j then v else y.param b j := by
  cases b <;> exact nget_nput ..

theorem Tile.param_setParam_other (y : Tile) (b : Bool) (k j : Nat) (v : Word) :
    (y.setParam (!b) k v).param b j = y.param b j := by
  cases b <;> rfl

/-- One slot's copy. -/
def Tile.mirrorSlot (active : Bool) (skip : List Nat) (y : Tile) (slot : Nat) : Tile :=
  if skip.contains slot then y else y.setParam (!active) slot (y.param active slot)

theorem Tile.mirrorSlot_active (b : Bool) (skip : List Nat) (y : Tile) (k j : Nat) :
    (y.mirrorSlot b skip k).param b j = y.param b j := by
  unfold Tile.mirrorSlot
  split
  · rfl
  · exact y.param_setParam_other b k j _

theorem Tile.mirrorSlot_other (b : Bool) (skip : List Nat) (y : Tile) (k j : Nat) :
    (y.mirrorSlot b skip k).param (!b) j =
      if k = j ∧ skip.contains k = false then y.param b k else y.param (!b) j := by
  unfold Tile.mirrorSlot
  split
  · rename_i h
    rw [h, if_neg (fun e => absurd e.2 (by decide))]
  · rename_i h
    rw [Bool.not_eq_true] at h
    rw [y.param_setParam_same, h]
    simp

/-- The slots copied one after the other. -/
theorem Tile.mirrorSlots (b : Bool) (skip l : List Nat) (y : Tile) (j : Nat) :
    (l.foldl (Tile.mirrorSlot b skip) y).param b j = y.param b j ∧
    (l.foldl (Tile.mirrorSlot b skip) y).param (!b) j =
      if j ∈ l ∧ skip.contains j = false then y.param b j else y.param (!b) j := by
  induction l generalizing y with
  | nil => exact ⟨rfl, (if_neg fun h => absurd h.1 List.not_mem_nil).symm⟩
  | cons k l ih =>
    obtain ⟨hactive, hother⟩ := ih (y.mirrorSlot b skip k)
    rw [List.foldl_cons, hactive, hother, y.mirrorSlot_active, y.mirrorSlot_other]
    refine ⟨rfl, ?_⟩
    by_cases hk : k = j
    · subst hk
      cases skip.contains k <;> simp
    · simp only [hk, Ne.symm hk, List.mem_cons, false_and, false_or, if_false]

end Sys2Proof.Machine
end

section
/-!
SUPPORT. No access of firmware to memory looks at MBX_REQ: it does the same whatever words stand there (R50). One law for
each operation: another request first, or the operation first, is the same.
-/

namespace Sys2Proof.Machine

variable {q : SMap Nat Word} {s t u : State}

/-- The same state with other words in MBX_REQ. -/
def State.asks (s : State) (q : SMap Nat Word) : State := { s with ctrl := { s.ctrl with req := q } }

theorem ite_asks {c : Prop} [Decidable c] : (if c then t.asks q else u.asks q) = (if c then t else u).asks q := by
  split <;> rfl

theorem asks_each {α : Type} {l : List α} {f g : State → α → State} (h : ∀ t a, f (t.asks q) a = (g t a).asks q) :
    (s.asks q).each l f = (s.each l g).asks q := by
  induction l generalizing s with
  | nil => rfl
  | cons a l ih =>
    show (f (s.asks q) a).each l f = ((g s a).each l g).asks q
    rw [h, ih]

/-- A result that an access returns beside the state does not depend on the request either. -/
def asksFst {α : Type} (r : State × α) (q : SMap Nat Word) : State × α := (r.1.asks q, r.2)

theorem ite_asksFst {α : Type} {c : Prop} [Decidable c] {r p : State × α} :
    (if c then asksFst r q else asksFst p q) = asksFst (if c then r else p) q := by
  split <;> rfl

theorem asks_foldl {α β : Type} {l : List α} {f g : State × β → α → State × β} {r : State × β}
    (h : ∀ r a, f (asksFst r q) a = asksFst (g r a) q) : l.foldl f (asksFst r q) = asksFst (l.foldl g r) q := by
  induction l generalizing r with
  | nil => rfl
  | cons a l ih => rw [List.foldl_cons, h, ih, List.foldl_cons]

/-! ### Registers, events, life counters -/

theorem asks_set {p v i : Nat} {f : Fld} : (s.asks q).set p f v i = (s.set p f v i).asks q := rfl
theorem asks_setFlag {p i : Nat} {b : Bool} {f : Fld} : (s.asks q).setFlag p f b i = (s.setFlag p f b i).asks q := rfl
theorem asks_count {p n i : Nat} {f : Fld} : (s.asks q).count p f n i = (s.count p f n i).asks q := rfl
theorem asks_free : (s.asks q).free.2 = s.free.2.asks q := rfl
theorem asks_sendMsix {v : Nat} : (s.asks q).sendMsix v = (s.sendMsix v).asks q := rfl
theorem asks_lifePut {p i v : Nat} : (s.asks q).lifePut p i v = (s.lifePut p i v).asks q := rfl

theorem asks_risen {old : State} {v : Nat} : State.risen (old.asks q) v (s.asks q) = (State.risen old v s).asks q := by
  unfold State.risen
  simp only [asks_sendMsix, ite_asks]
  rfl

theorem asks_event {p b : Nat} : (s.asks q).event p b = (s.event p b).asks q := by
  unfold State.event State.events
  simp only [asks_set, asks_risen, ite_asks]
  rfl

theorem asks_lifeAdd {p i n : Nat} : (s.asks q).lifeAdd p i n = (s.lifeAdd p i n).asks q := by
  unfold State.lifeAdd
  simp only [asks_lifePut, ite_asks]
  rfl

/-! ### The loops -/

theorem asks_gatesLow {n st : Nat} : (s.asks q).gatesLow n st = (s.gatesLow n st).asks q := rfl

theorem asks_measureLoop {n : Nat} : (s.asks q).measureLoop n = (s.measureLoop n).asks q := by
  unfold State.measureLoop State.measureCarrier
  simp only [asks_free, asks_set, ite_asks]
  rfl

theorem asks_startAtCarrier {n st fT : Nat} : (s.asks q).startAtCarrier n st fT = (s.startAtCarrier n st fT).asks q := by
  unfold State.startAtCarrier
  rw [← asks_measureLoop]
  rfl

theorem asks_startWith {n st : Nat} {o : Option Nat} : (s.asks q).startWith n st o = (s.startWith n st o).asks q := by
  cases o with
  | none => exact asks_event (s := s.gatesLow n Loop.off)
  | some fT => exact asks_startAtCarrier

theorem asks_beginSoftStart {n : Nat} : (s.asks q).beginSoftStart n = (s.beginSoftStart n).asks q := by
  unfold State.beginSoftStart State.startCarrier
  simp only [asks_startWith, ite_asks]
  rfl

theorem asks_enterSafe {n : Nat} : (s.asks q).enterSafe n = (s.enterSafe n).asks q := by
  unfold State.enterSafe
  simp only [asks_gatesLow, ite_asks]
  rfl

theorem asks_setLoopState {n v : Nat} : (s.asks q).setLoopState n v = (s.setLoopState n v).asks q := rfl

theorem asks_leaveSafe {n : Nat} : (s.asks q).leaveSafe n = (s.leaveSafe n).asks q := by
  unfold State.leaveSafe
  simp only [asks_setLoopState, asks_beginSoftStart, ite_asks]
  rfl

/-! ### The Cinch -/

theorem asks_setCinchSrc {i : Nat} {c : CinchSrc} : (s.asks q).setCinchSrc i c = (s.setCinchSrc i c).asks q := rfl

theorem asks_holdEvent {src inst : Nat} : (s.asks q).holdEvent src inst = (s.holdEvent src inst).asks q := by
  unfold State.holdEvent
  simp only [asks_setCinchSrc, ite_asks]
  rfl

theorem asks_stampFirst {src inst : Nat} {b : Bool} : (s.asks q).stampFirst src inst b = (s.stampFirst src inst b).asks q := rfl

theorem asks_recordOccurrence {src inst : Nat} {b : Bool} :
    (s.asks q).recordOccurrence src inst b = (s.recordOccurrence src inst b).asks q := by
  unfold State.recordOccurrence
  simp only [asks_stampFirst, ite_asks, asks_set, asks_count, asks_lifeAdd]
  rfl

theorem asks_recordFirst {src level : Nat} : (s.asks q).recordFirst src level = (s.recordFirst src level).asks q := by
  unfold State.recordFirst
  simp only [asks_set, ite_asks]
  rfl

/-- What the Cinch holds takes the place of what it held. -/
def State.setCinch (s : State) (c : Cinch) : State := { s with cinch := c }

theorem asks_setCinch {c : Cinch} : (s.asks q).setCinch c = (s.setCinch c).asks q := rfl

theorem State.level4_eq (s : State) (src sev level : Nat) : s.level4 src sev level =
    if level = 4 && !s.cinch.resetPending then
      let t := ((s.count Pg.cinch CINCH.RESET_STAT_RESETS).set Pg.cinch CINCH.RESET_STAT_LAST_SOURCE src).lifeAdd Pg.cinch 128
      t.setCinch { t.cinch with resetPending := true, resetTimes := t.now :: recentResets t.now t.cinch.resetTimes }
    else if sev = 4 && level = 3 && !s.flag Pg.cinch CINCH.RESET_STAT_STORM then
      (s.set Pg.cinch CINCH.RESET_STAT_STORM 1).event Pg.cinch 5
    else s := rfl

theorem asks_level4 {src sev level : Nat} : (s.asks q).level4 src sev level = (s.level4 src sev level).asks q := by
  rw [State.level4_eq, State.level4_eq]
  simp only [asks_count, asks_set, asks_lifeAdd, asks_setCinch, asks_event, ite_asks]
  rfl

/-- The loops follow the reactions in force. -/
def State.loopsFollow (old s : State) : State :=
  s.each (List.range 16) fun t n =>
    if s.loopMuted n then t.enterSafe n else if old.loopMuted n then t.leaveSafe n else t

/-- The safe state's events. -/
def State.safeEvents (old s : State) : State :=
  let s := if !old.safe && s.safe then s.event Pg.cinch 3 else s
  if old.safe && !s.safe then s.event Pg.cinch 4 else s

/-- What becomes of the patch points that reactions release or hold. -/
def State.releases (old s : State) : State :=
  let freed := s.outputPatches.filter fun p => old.patchMuted p && !s.patchMuted p
  let muted := s.outputPatches.filter s.patchMuted
  let rel := (s.cinch.release.filter fun e => !muted.contains e.1)
  let rel := freed.foldl (fun m p => SMap.insert id (SMap.erase m p) p 0) rel
  { s with cinch := { s.cinch with release := rel } }

theorem State.reconcile_eq (old s : State) :
    State.reconcile old s = State.safeEvents old (State.releases old (State.loopsFollow old s)) := rfl

theorem asks_loopsFollow {old : State} :
    State.loopsFollow (old.asks q) (s.asks q) = (State.loopsFollow old s).asks q :=
  asks_each fun t n => by
    simp only [asks_enterSafe, asks_leaveSafe, ite_asks]
    rfl

theorem asks_safeEvents {old : State} : State.safeEvents (old.asks q) (s.asks q) = (State.safeEvents old s).asks q := by
  unfold State.safeEvents
  simp only [asks_event, ite_asks]
  rfl

theorem asks_reconcile {old : State} : State.reconcile (old.asks q) (s.asks q) = (State.reconcile old s).asks q := by
  rw [State.reconcile_eq, State.reconcile_eq, asks_loopsFollow, ← asks_safeEvents]
  rfl

theorem asks_occurrence {src inst : Nat} {b : Bool} : (s.asks q).occurrence src inst b = (s.occurrence src inst b).asks q := by
  unfold State.occurrence
  simp only [asks_recordOccurrence, asks_setCinchSrc, asks_set, asks_setFlag, asks_recordFirst, asks_level4, asks_event,
    ite_asks, asks_reconcile]
  rfl

theorem asks_raise {src inst : Nat} : (s.asks q).raise src inst = (s.raise src inst).asks q := by
  unfold State.raise
  simp only [asks_holdEvent, asks_setCinchSrc, asks_set, asks_occurrence, ite_asks]
  rfl

theorem asks_liveFell {src : Nat} : (s.asks q).liveFell src = (s.liveFell src).asks q := by
  unfold State.liveFell
  simp only [asks_setCinchSrc, asks_set, ite_asks]
  rfl

theorem asks_lower {src inst : Nat} : (s.asks q).lower src inst = (s.lower src inst).asks q := by
  unfold State.lower
  simp only [asks_setCinchSrc, asks_liveFell, ite_asks]
  rfl

theorem asks_setSource {src inst : Nat} {b : Bool} : (s.asks q).setSource src inst b = (s.setSource src inst b).asks q := by
  cases b with
  | false => exact asks_lower
  | true => exact asks_raise

/-! ### The Girth -/

theorem asks_onGirth {f : Girth → Girth} : (s.asks q).onGirth f = (s.onGirth f).asks q := rfl
theorem asks_setBank {b : Nat} {y : Bank} : (s.asks q).setBank b y = (s.setBank b y).asks q := rfl
theorem asks_setByte {a : Nat} {b : Byte} : (s.asks q).setByte a b = (s.setByte a b).asks q := rfl
theorem asks_laneTxn {seg lane : Nat} {f : Txn → Txn} : (s.asks q).laneTxn seg lane f = (s.laneTxn seg lane f).asks q := rfl

theorem asks_setGirthByte {o : Nat} {b : Byte} : (s.asks q).setGirthByte o b = (s.setGirthByte o b).asks q := by
  unfold State.setGirthByte
  have hg : (s.asks q).girth = s.girth := rfl
  rw [hg]
  split
  · simp only [asks_onGirth, asks_setByte, ite_asks]
  · simp only [asks_onGirth, asks_setByte, ite_asks]

theorem asks_wakeByAccess {seg : Nat} : (s.asks q).wakeByAccess seg = (s.wakeByAccess seg).asks q := by
  unfold State.wakeByAccess State.wakeSegment
  simp only [asks_set, asks_count, asks_event, ite_asks]
  rfl

theorem asks_touchGirth {o n : Nat} : (s.asks q).touchGirth o n = (s.touchGirth o n).asks q := by
  have h (l : List Nat) : ((s.asks q).each l fun t k => t.wakeByAccess (t.segmentOf (4096 * (o / 4096 + k)))) =
      (s.each l fun t k => t.wakeByAccess (t.segmentOf (4096 * (o / 4096 + k)))).asks q :=
    asks_each fun _ _ => asks_wakeByAccess
  unfold State.touchGirth
  simp only [h, ite_asks]
  rfl

theorem asks_lockFailed : (s.asks q).lockFailed = s.lockFailed.asks q :=
  asks_event (s := s.count Pg.harness HARNESS.LOCK_FAILS)

theorem asks_shadowed {port : Nat} : (s.asks q).shadowed port = (s.shadowed port).asks q := by
  unfold State.shadowed State.countShadow
  simp only [asks_count, ite_asks, asks_event, asks_raise]

theorem asks_shadowBeat {seg : Nat} {y : Beat} : (s.asks q).shadowBeat seg y = (s.shadowBeat seg y).asks q := by
  unfold State.shadowBeat
  simp only [asks_shadowed, asks_lockFailed, asks_onGirth, asks_count, asks_event, asks_laneTxn, ite_asks]
  rfl

theorem asks_storeBeat {y : Beat} : (s.asks q).storeBeat y = (s.storeBeat y).asks q := by
  have h : ((s.asks q).each (List.range y.len) fun t i =>
        if (y.strobes[i]?).getD true then t.setGirthByte (y.off + i) ((y.data[i]?).getD 0) else t) =
      (s.each (List.range y.len) fun t i =>
        if (y.strobes[i]?).getD true then t.setGirthByte (y.off + i) ((y.data[i]?).getD 0) else t).asks q :=
    asks_each fun t i => by simp only [asks_setGirthByte, ite_asks]
  unfold State.storeBeat
  rw [h]
  rfl

theorem asks_girthEccSource : (s.asks q).girthEccSource = s.girthEccSource.asks q := asks_setSource

theorem asks_girthCe {o : Nat} : (s.asks q).girthCe o = (s.girthCe o).asks q := by
  unfold State.girthCe
  simp only [asks_count, asks_event, asks_lifeAdd, asks_setBank, asks_onGirth, ite_asks]
  rfl

theorem asks_girthUe {o : Nat} : (s.asks q).girthUe o = (s.girthUe o).asks q := by
  unfold State.girthUe
  simp only [asks_count, asks_event, asks_lifeAdd, asks_onGirth, asks_set, ite_asks, asks_girthEccSource]
  rfl

/-- What a word's state of its code brings on. -/
def State.checkWord (t : State) (w : Nat) : State :=
  if t.girth.poison.contains w then t.girthUe (4 * w)
  else match t.upsetAt w with
    | some .single => t.girthCe (4 * w)
    | some .double => t.girthUe (4 * w)
    | none => t

theorem asks_checkWord {w : Nat} : (s.asks q).checkWord w = (s.checkWord w).asks q := by
  unfold State.checkWord
  have hu : (s.asks q).upsetAt w = s.upsetAt w := rfl
  rw [hu]
  cases s.upsetAt w with
  | none =>
    simp only [asks_girthUe, ite_asks]
    rfl
  | some e =>
    cases e <;>
    · simp only [asks_girthUe, asks_girthCe, ite_asks]
      rfl

theorem asks_checkRange {o n : Nat} : (s.asks q).checkRange o n = (s.checkRange o n).asks q :=
  asks_each fun _ _ => asks_checkWord

theorem asks_refuseMisaligned {seg : Nat} {y : Beat} :
    (s.asks q).refuseMisaligned seg y = (s.refuseMisaligned seg y).asks q := by
  unfold State.refuseMisaligned
  simp only [asks_count, asks_event, asks_setBank, asks_laneTxn]
  rfl

theorem asks_denyVault {seg : Nat} {y : Beat} : (s.asks q).denyVault seg y = (s.denyVault seg y).asks q := by
  unfold State.denyVault
  simp only [asks_count, asks_event, asks_onGirth, asks_laneTxn, ite_asks]

theorem asks_readBeat {seg : Nat} {y : Beat} : (s.asks q).readBeat seg y = (s.readBeat seg y).asks q := by
  unfold State.readBeat
  simp only [asks_checkRange, asks_onGirth, asks_laneTxn, ite_asks]
  rfl

theorem asks_writeBeat {seg : Nat} {y : Beat} : (s.asks q).writeBeat seg y = (s.writeBeat seg y).asks q := by
  unfold State.writeBeat
  simp only [asks_onGirth, asks_lockFailed, asks_storeBeat, asks_laneTxn, ite_asks]
  rfl

theorem asks_serveBeat {seg : Nat} {y : Beat} : (s.asks q).serveBeat seg y = (s.serveBeat seg y).asks q := by
  unfold State.serveBeat
  simp only [asks_refuseMisaligned, asks_denyVault, asks_writeBeat, asks_readBeat, ite_asks]
  rfl

/-- The beats that lose a bank are shadowed. -/
def State.shadowLosers (s : State) (b seg : Nat) : State :=
  s.each (s.losers b) fun t x =>
    (t.setBank b { t.bank b with waiting := dropHead x.port (t.bank b).waiting }).shadowBeat seg x

/-- The bank's choice is served. -/
def State.serveChoice (s : State) (b seg : Nat) (bk : Bank) (wipe : Bool) (o : Option Nat) : State :=
  match o with
  | none =>
    if bk.ports.isEmpty then s
    else s.setBank b { bk with dlvNet := 0, run := 0, wipeAge := 0, waiting := ageHeads 4 bk.waiting }
  | some p =>
    match bk.head p with
    | none => s
    | some x =>
      let s := s.setBank b { bk.served p wipe with waiting := dropHead p (ageHeads p bk.waiting) }
      s.serveBeat seg x

theorem State.slot_eq (s : State) (b : Nat) : s.slot b =
    let seg := b / s.banksPerSegment
    let t := s.shadowLosers b seg
    t.serveChoice b seg (t.bank b) (t.wipeNeeds b) ((t.bank b).choose (t.wipeNeeds b)) := rfl

theorem asks_shadowLosers {b seg : Nat} : (s.asks q).shadowLosers b seg = (s.shadowLosers b seg).asks q :=
  asks_each fun t x => asks_shadowBeat (s := t.setBank b { t.bank b with waiting := dropHead x.port (t.bank b).waiting })

theorem asks_serveChoice {b seg : Nat} {bk : Bank} {wipe : Bool} {o : Option Nat} :
    (s.asks q).serveChoice b seg bk wipe o = (s.serveChoice b seg bk wipe o).asks q := by
  unfold State.serveChoice
  cases o with
  | none => simp only [asks_setBank, ite_asks]
  | some p =>
    dsimp only
    split
    · rfl
    · exact asks_serveBeat (s := s.setBank b _)

theorem asks_slot {b : Nat} : (s.asks q).slot b = (s.slot b).asks q := by
  rw [State.slot_eq, State.slot_eq]
  dsimp only
  have hb : (s.asks q).banksPerSegment = s.banksPerSegment := rfl
  rw [hb, asks_shadowLosers, ← asks_serveChoice]
  rfl

theorem asks_serveAhead {port b n : Nat} : (s.asks q).serveAhead port b n = (s.serveAhead port b n).asks q := by
  induction n generalizing s with
  | zero => rfl
  | succ n ih =>
    unfold State.serveAhead
    rw [asks_slot, ih, ← ite_asks]
    rfl

theorem asks_reachBank {port b : Nat} : (s.asks q).reachBank port b = (s.reachBank port b).asks q := by
  have hw (k : Nat) : (s.asks q).bank k = s.bank k := rfl
  unfold State.reachBank
  simp only [hw, asks_serveAhead, asks_setBank, ite_asks]
  rfl

theorem asks_countMisaligned : (s.asks q).countMisaligned = s.countMisaligned.asks q :=
  asks_event (s := s.count Pg.girth GIRTH.MISALIGNED)

/-- A line that is read at its bank. -/
def State.readLine (s : State) (y : Beat) : State := (s.reachBank y.port (s.bankOf y.off)).checkRange y.off y.len

theorem asks_readLine {y : Beat} : (s.asks q).readLine y = (s.readLine y).asks q := by
  unfold State.readLine
  rw [asks_reachBank, asks_checkRange]
  rfl

theorem State.fetchLine_eq (s : State) (y : Beat) : s.fetchLine y =
    if s.vaultDenies y.master y.off then
      ((s.count Pg.girth GIRTH.VAULT_DENIED).event Pg.girth 5, List.replicate y.len 0)
    else (s.readLine y, (List.range y.len).map fun i => (s.readLine y).girthByte (y.off + i)) := rfl

theorem asks_fetchLine {y : Beat} : (s.asks q).fetchLine y = asksFst (s.fetchLine y) q := by
  rw [State.fetchLine_eq, State.fetchLine_eq, asks_readLine, asks_count, asks_event, ← ite_asksFst]
  rfl

theorem asks_fetch {port master o n : Nat} : (s.asks q).fetch port master o n = asksFst (s.fetch port master o n) q := by
  unfold State.fetch
  rw [asks_countMisaligned, asks_touchGirth, ← ite_asksFst, ← asks_foldl]
  · rfl
  · intro r a
    rw [show (asksFst r q).1 = r.1.asks q from rfl, asks_fetchLine]
    rfl

/-! ### The DRAM channels -/

theorem asks_onDram {c : Nat} {f : Dram → Dram} : (s.asks q).onDram c f = (s.onDram c f).asks q := rfl
theorem asks_setRank {c r : Nat} {y : Rank} : (s.asks q).setRank c r y = (s.setRank c r y).asks q := rfl
theorem asks_setRankState {c r v : Nat} : (s.asks q).setRankState c r v = (s.setRankState c r v).asks q := rfl
theorem asks_longStart {p : Nat} : (s.asks q).longStart p = (s.longStart p).asks q := rfl

theorem asks_longEnd {p : Nat} : (s.asks q).longEnd p false = (s.longEnd p false).asks q := asks_event (s := s)

theorem asks_chargeMaster {c r n : Nat} : (s.asks q).chargeMaster c r n = (s.chargeMaster c r n).asks q := by
  unfold State.chargeMaster State.showThrottles
  simp only [asks_onDram, asks_count, asks_event, asks_set, asks_setSource, ite_asks]
  rfl

/-- Who activates a row whose mitigation is due is charged. -/
def State.charges (s : State) (c cs : Nat) : Option Nat → State
  | some m => s.chargeMaster c cs m
  | none => s

theorem asks_charges {c cs : Nat} {who : Option Nat} : (s.asks q).charges c cs who = (s.charges c cs who).asks q := by
  cases who with
  | none => rfl
  | some m => exact asks_chargeMaster

theorem State.activate_eq (s : State) (c cs key row : Nat) (who : Option Nat) : s.activate c cs key row who =
    let k := s.rank c cs
    if SMap.find? k.openRows key = some row then s
    else
      let t := countActivate (nget [] k.tables key) row
      let hit := s.get (Pg.dram c) DRAM.RH_CFG_THRESH ≤ t.2
      let tbl := if hit then t.1.map fun x => if x.1 = row then (row, 0) else x else t.1
      let rows := if hit then SMap.erase k.openRows key else nset k.openRows key row
      let s := s.setRank c cs { k with openRows := rows, tables := nput [] k.tables key tbl }
      if hit then ((s.count (Pg.dram c) DRAM.RH_MITIG).lifeAdd (Pg.dram c) 10).charges c cs who else s := by
  cases who <;> rfl

theorem asks_activate {c cs key row : Nat} {who : Option Nat} :
    (s.asks q).activate c cs key row who = (s.activate c cs key row who).asks q := by
  rw [State.activate_eq, State.activate_eq]
  simp only [asks_setRank, asks_count, asks_lifeAdd, asks_charges, ite_asks]
  rfl

theorem asks_dramUeSource {c : Nat} : (s.asks q).dramUeSource c = (s.dramUeSource c).asks q := by
  unfold State.dramUeSource
  rw [asks_setSource]
  rfl

/-- The ranks of a migration show. -/
def State.migrationShown (s : State) (c cs spare : Nat) : State :=
  let p := Pg.dram c
  (((s.setRankState c cs Rs.migrating).set p DRAM.MIG_STAT_ACTIVE 1).set p DRAM.MIG_STAT_FROM cs).set p DRAM.MIG_STAT_TO spare

/-- A migration waits for another operation, or starts. -/
def State.migrationBegins (s : State) (c : Nat) (wait : Bool) : State :=
  let p := Pg.dram c
  let s := s.setFlag p DRAM.MIG_STAT_WAITING wait
  let paused := !s.enabled p
  let s := s.onDram c fun d => { d with migPos := 0, migPaused := paused, sparePoison := [] }
  let s := if wait then s else s.longStart p
  ((s.event p 3).lifeAdd p 8).dramUeSource c

theorem State.startMigration_eq (s : State) (c cs n : Nat) :
    s.startMigration c cs n = (s.migrationShown c cs n).migrationBegins c ((s.migrationShown c cs n).dramBusy c) := rfl

theorem asks_migrationBegins {c : Nat} {wait : Bool} :
    (s.asks q).migrationBegins c wait = (s.migrationBegins c wait).asks q := by
  unfold State.migrationBegins
  simp only [asks_setFlag, asks_onDram, asks_longStart, ite_asks, asks_event, asks_lifeAdd, asks_dramUeSource]
  rfl

theorem asks_startMigration {c cs n : Nat} : (s.asks q).startMigration c cs n = (s.startMigration c cs n).asks q := by
  rw [State.startMigration_eq, State.startMigration_eq, ← asks_migrationBegins]
  rfl

theorem asks_serviceFails {c cs : Nat} : (s.asks q).serviceFails c cs = (s.serviceFails c cs).asks q := by
  unfold State.serviceFails
  have hr : (s.asks q).rankIn c Rs.spare = s.rankIn c Rs.spare := rfl
  rw [hr]
  cases s.rankIn c Rs.spare with
  | none =>
    simp only [asks_setRankState, asks_onDram, asks_dramUeSource, ite_asks]
    rfl
  | some n =>
    simp only [asks_setRankState, asks_onDram, asks_dramUeSource, asks_startMigration, ite_asks]
    rfl

theorem asks_promoteStandby {c : Nat} : (s.asks q).promoteStandby c = (s.promoteStandby c).asks q := by
  unfold State.promoteStandby
  have hr : (s.asks q).rankIn c Rs.standby = s.rankIn c Rs.standby := rfl
  rw [hr]
  split <;> rfl

/-- The spare that failed gives up its place; a standby takes it. -/
def State.spareLost (s : State) (c : Nat) : State :=
  let p := Pg.dram c
  let old := s.migFrom c
  let s := ((s.setRankState c (s.migTo c) Rs.failed).event p 5).setRankState c old Rs.degraded
  let s := (s.set p DRAM.MIG_STAT_ACTIVE 0).set p DRAM.MIG_STAT_WAITING 0
  let s := s.onDram c fun d => { d with sparePoison := [] }
  (s.longEnd p false).promoteStandby c

/-- The rank that lost its spare migrates to the next, where there is one. -/
def State.migratesAgain (s : State) (c old : Nat) : State :=
  match s.rankIn c Rs.spare with
  | some sp => s.startMigration c old sp
  | none => s.dramUeSource c

theorem State.spareFails_eq (s : State) (c : Nat) : s.spareFails c = (s.spareLost c).migratesAgain c (s.migFrom c) := by
  unfold State.spareFails State.migratesAgain
  rfl

theorem asks_spareLost {c : Nat} : (s.asks q).spareLost c = (s.spareLost c).asks q := by
  unfold State.spareLost
  simp only [asks_setRankState, asks_event, asks_set, asks_onDram, asks_longEnd, asks_promoteStandby]
  rfl

theorem asks_migratesAgain {c n : Nat} : (s.asks q).migratesAgain c n = (s.migratesAgain c n).asks q := by
  unfold State.migratesAgain
  have hr : (s.asks q).rankIn c Rs.spare = s.rankIn c Rs.spare := rfl
  rw [hr]
  split
  · exact asks_startMigration
  · exact asks_dramUeSource

theorem asks_rankError {c cs : Nat} : (s.asks q).rankError c cs = (s.rankError c cs).asks q := by
  have hm : (s.asks q).migFrom c = s.migFrom c := rfl
  unfold State.rankError
  simp only [State.spareFails_eq, hm, asks_spareLost, asks_migratesAgain, asks_serviceFails, ite_asks]
  rfl

theorem asks_dramInfo {c off kind cs : Nat} : (s.asks q).dramInfo c off kind cs = (s.dramInfo c off kind cs).asks q := by
  unfold State.dramInfo
  simp only [asks_set, ite_asks]
  rfl

theorem asks_dramUe {c off kind cs : Nat} : (s.asks q).dramUe c off kind cs = (s.dramUe c off kind cs).asks q := by
  unfold State.dramUe
  simp only [asks_count, asks_event, asks_lifeAdd, asks_onDram, asks_dramInfo]
  rfl

/-- A corrected error is counted. -/
def State.ceCounted (s : State) (c cs : Nat) : State :=
  ((s.count (Pg.dram c) DRAM.CE_COUNT).event (Pg.dram c) 0).lifeAdd (Pg.dram c) cs

/-- The latest corrected errors of a rank. -/
def State.ceLatest (s : State) (c cs : Nat) : List Nat := (s.now :: (s.rank c cs).ceTimes).take 257

/-- A storm of corrected errors begins or goes on. -/
def State.storms (s : State) (c cs stormEnd : Nat) : State :=
  let s := s.onDram c fun d => { d with stormEnd := nput 0 d.stormEnd cs stormEnd }
  if (s.dram c).storm.contains cs then s
  else ((s.onDram c fun d => { d with storm := cs :: d.storm }).event (Pg.dram c) 2).raise Src.dramStorm c

theorem State.dramCe_eq (s : State) (c cs : Nat) : s.dramCe c cs =
    let t := s.ceCounted c cs
    let ts := t.ceLatest c cs
    let u := t.setRank c cs { t.rank c cs with ceTimes := ts }
    if ts.length = 257 && ts.all fun x => u.now ≤ x + cyclesSec 1 then
      u.storms c cs ((ts.getLast?).getD 0 + cyclesSec 11) else u := rfl

theorem asks_ceCounted {c cs : Nat} : (s.asks q).ceCounted c cs = (s.ceCounted c cs).asks q := by
  unfold State.ceCounted
  rw [asks_count, asks_event, asks_lifeAdd]

theorem asks_storms {c cs n : Nat} : (s.asks q).storms c cs n = (s.storms c cs n).asks q := by
  unfold State.storms
  simp only [asks_onDram, asks_event, asks_raise, ite_asks]
  rfl

theorem asks_dramCe {c cs : Nat} : (s.asks q).dramCe c cs = (s.dramCe c cs).asks q := by
  have hl (t : State) : (t.asks q).ceLatest c cs = t.ceLatest c cs := rfl
  have hr (t : State) : (t.asks q).rank c cs = t.rank c cs := rfl
  have hn (t : State) : (t.asks q).now = t.now := rfl
  rw [State.dramCe_eq, State.dramCe_eq, asks_ceCounted]
  simp only [hl, hr, hn, asks_setRank, asks_storms, ite_asks]

theorem asks_checkDram {c off kind : Nat} {ecc : List (Nat × Ecc)} :
    (s.asks q).checkDram c off kind ecc = (s.checkDram c off kind ecc).asks q := by
  unfold State.checkDram
  have hp : (s.asks q).poisonedWord c off = s.poisonedWord c off := rfl
  have hr : (s.asks q).readRank c off = s.readRank c off := rfl
  rw [hp, hr]
  dsimp only
  split
  · rfl
  · rw [asks_dramCe, asks_onDram]
  · rw [asks_dramUe, asks_rankError]

theorem asks_activateWord {y : DramWord} {write : Bool} {who : Option Nat} :
    (s.asks q).activateWord y write who = (s.activateWord y write who).asks q :=
  asks_each fun _ _ => asks_activate

theorem asks_closeWord {y : DramWord} {write : Bool} : (s.asks q).closeWord y write = (s.closeWord y write).asks q :=
  asks_each fun _ _ => rfl

theorem asks_accessWord {write close : Bool} {who : Option Nat} {ecc : List (Nat × Ecc)} {y : DramWord}
    {rest : List DramWord} :
    (s.asks q).accessWord write close who ecc y rest = (s.accessWord write close who ecc y rest).asks q := by
  unfold State.accessWord
  simp only [asks_activateWord, asks_checkDram, asks_closeWord, ite_asks]
  rfl

theorem asks_accessWords {write close : Bool} {who : Option Nat} {ecc : List (Nat × Ecc)} {ws : List DramWord} :
    (s.asks q).accessWords write close who ecc ws = asksFst (s.accessWords write close who ecc ws) q := by
  induction ws generalizing s with
  | nil => rfl
  | cons w ws ih =>
    unfold State.accessWords
    dsimp only
    rw [asks_accessWord, ih]
    rfl

theorem asks_reachDram {r : HReq} {ecc : List (Nat × Ecc)} : (s.asks q).reachDram r ecc = asksFst (s.reachDram r ecc) q := by
  have hw : (s.asks q).reqWords r = s.reqWords r := rfl
  unfold State.reachDram
  dsimp only
  rw [hw, asks_accessWords]
  rfl

/-! ### A burst that firmware reads -/

theorem asks_countRefused : (s.asks q).countRefused = s.countRefused.asks q :=
  asks_event (s := s.count Pg.harness HARNESS.UNSUPPORTED)

theorem asks_countClosed {r : HReq} : (s.asks q).countClosed r = (s.countClosed r).asks q := asks_each fun _ _ => rfl

theorem asks_countMiss {r : HReq} : (s.asks q).countMiss r = (s.countMiss r).asks q := by
  unfold State.countMiss
  simp only [asks_count, asks_event, asks_set, asks_setFlag, asks_raise, ite_asks]
  rfl

theorem asks_peekBurst {a n : Nat} {bulk : Bool} : (s.asks q).peekBurst a n bulk = (s.peekBurst a n bulk).asks q := by
  have hd (r : HReq) : (s.asks q).decodePort r = s.decodePort r := rfl
  unfold State.peekBurst
  dsimp only
  rw [hd]
  split
  · exact asks_countMiss
  · rw [asks_countRefused, asks_fetch, asks_reachDram, asks_countClosed]
    simp only [asksFst, ite_asks]
    rfl

/-- What firmware reads of memory, and what its reading leaves, does not depend on the request. -/
theorem asks_peeked {a n : Nat} {bulk : Bool} : (s.asks q).peeked a n bulk = (s.peeked a n bulk).asks q :=
  asks_each fun _ _ => asks_peekBurst

/-! ### What firmware reads -/

theorem asks_girthByte (r : State) (z : Nat) : (r.asks q).girthByte z = r.girthByte z := by
  have hredirected : (r.asks q).redirected z = r.redirected z := rfl
  have hbyte (a : Nat) : (r.asks q).byte a = r.byte a := rfl
  have hgirth : (r.asks q).girth = r.girth := rfl
  unfold State.girthByte
  rw [hredirected, hbyte, hgirth]

theorem asks_dramAt (r : State) : (r.asks q).dramAt = r.dramAt := by
  have hsize (c : Nat) : (r.asks q).mappedGiB c = r.mappedGiB c := rfl
  have hget (f : Fld) : (r.asks q).get Pg.harness f = r.get Pg.harness f := rfl
  funext z
  unfold State.dramAt
  rw [hsize, hsize, hget]

/-- Of the function, not of its value at an address: there the kernel would start to compute the decoding. -/
theorem asks_dramKey (r : State) : (r.asks q).dramKey = r.dramKey := by
  delta State.dramKey
  rw [asks_dramAt]

theorem asks_memKey (r : State) (z : Nat) : (r.asks q).memKey z = r.memKey z := by
  unfold State.memKey
  rw [asks_dramKey]

theorem asks_decodePort (r : State) (x : HReq) : (r.asks q).decodePort x = r.decodePort x := rfl
theorem asks_remapped (r : State) (x : HReq) : (r.asks q).remapped x = r.remapped x := rfl
theorem asks_byte (r : State) (z : Nat) : (r.asks q).byte z = r.byte z := rfl
theorem asks_unaligned (r : State) (p z : Nat) : (r.asks q).unaligned p z = r.unaligned p z := rfl
theorem asks_vaultDenies (r : State) (p z : Nat) : (r.asks q).vaultDenies p z = r.vaultDenies p z := rfl
theorem asks_enabled (r : State) (z : Nat) : (r.asks q).enabled z = r.enabled z := rfl

theorem asks_peekByte (r : State) (a b : Nat) : (r.asks q).peekByte a b = r.peekByte a b := by
  unfold State.peekByte
  simp only [asks_decodePort, asks_remapped, asks_unaligned, asks_memKey, asks_byte, asks_vaultDenies,
    asks_girthByte, asks_enabled]

theorem asks_peekWord (r : State) (a : Nat) : (r.asks q).peekWord a = r.peekWord a := by
  unfold State.peekWord
  simp only [asks_peekByte]

theorem asks_setRec (r : State) (x y : Word) : (r.asks q).setRec x y = r.setRec x y := by
  have hpatch : (r.asks q).patchCount = r.patchCount := rfl
  have htiles : (r.asks q).tileCount = r.tileCount := rfl
  have hwork (n : Nat) : (r.asks q).hasWork n = r.hasWork n := rfl
  unfold State.setRec
  simp only [hpatch, htiles, hwork]

theorem asks_setRecs (r : State) (addr k : Nat) : (r.asks q).setRecs addr k = r.setRecs addr k := by
  unfold State.setRecs
  simp only [asks_peekWord, asks_setRec]

end Sys2Proof.Machine
end

section
/-!
O42: scenes, from their staging to the mirror (R166 to R174).
-/

namespace Sys2Proof.Machine

variable {q : SMap Nat Word} {s t u r : State} {tag : BitVec 8} {addr n : Nat}

/-! ### Staging -/

/-- No access of firmware enables or disables the mix unit. -/
theorem not_accessed_mix {f : Fld} {i : Nat} (hf : f.off = PG.CTRL_EN.off) : ¬ Accessed (fkey Pg.mix f i) := by
  intro h
  rcases h.cases_page with h | h | h | h | ⟨-, h⟩ | h
  · exact absurd (hf.symm.trans h) (by decide)
  · exact absurd (congrArg FKey.p h) (show Pg.mix ≠ Pg.host by decide)
  · exact absurd h (show Pg.mix ≠ Pg.harness by decide)
  · exact absurd h (show Pg.mix ≠ Pg.girth by decide)
  · exact h hf
  · exact not_reaction (fun e => absurd (hf.symm.trans e) (by decide)) (by decide) h

/-- What firmware's reading leaves of the state that a staging looks at. -/
theorem Reached.staging (h : Reached s r) : r.mixEnabled = s.mixEnabled ∧ r.mix = s.mix ∧
    r.pairHoldsBack = s.pairHoldsBack ∧ r.xfadeLimit = s.xfadeLimit ∧ r.ctrl = s.ctrl := by
  have hget {f : Fld} (hf : f.off ≠ PG.EVT.off) : r.get Pg.keeper f = s.get Pg.keeper f :=
    Kept.get h (not_accessed_low hf (by decide))
  refine ⟨?_, Kept.areas h .mix (by decide), ?_, ?_, Kept.areas h .ctrl (by decide)⟩
  · rw [State.mixEnabled, State.enabled, Kept.flag h (f := PG.CTRL_EN) (not_accessed_mix rfl),
      Kept.flag h (f := PG.CTRL_DRAIN) (not_accessed_mix rfl)]
    rfl
  · rw [State.pairHoldsBack, State.pairEnabled, State.pairState, State.flag_eq, hget (by decide), hget (by decide)]
    rfl
  · rw [State.xfadeLimit, Kept.part h]
    rfl

/-- The values and the routes of a set's records. -/
def setValues (l : List SetRec) : List StageRec := l.filterMap fun r => match r with | .value v => some v | _ => none
def setRoutes (l : List SetRec) : List (Nat × Nat) := l.filterMap fun r => match r with | .route d x => some (d, x) | _ => none

/-- The set that a header and its records describe. -/
def stagingOf (tag : BitVec 8) (w0 w2 : Word) (l : List SetRec) : Staging :=
  ⟨tag, w0.toNat / 256 % 256, w2.toNat % 256, w2.toNat / 256, setValues l, setRoutes l⟩

theorem recsStatus_ok_iff (l : List SetRec) : recsStatus l = St.ok ↔ ∀ x ∈ l, x ≠ .bad ∧ x ≠ .absent := by
  have hfind : recsStatus l = St.ok ↔ (l.find? fun x => x == .bad || x == .absent) = none := by
    unfold recsStatus
    split
    · rename_i h
      rw [h]
      decide
    · rename_i h
      rw [h]
      simp [St.badArg, St.ok]
    · rename_i h
      simp [h]
  rw [hfind, List.find?_eq_none]
  simp

/-- Good records are values and routes. -/
theorem length_setValues_setRoutes {l : List SetRec} (h : ∀ x ∈ l, x ≠ .bad ∧ x ≠ .absent) :
    (setValues l).length + (setRoutes l).length = l.length := by
  induction l with
  | nil => rfl
  | cons x l ih =>
    obtain ⟨hx, hl⟩ := List.forall_mem_cons.mp h
    have hrec := ih hl
    cases x with
    | value v =>
      show (setValues l).length + 1 + (setRoutes l).length = l.length + 1
      omega
    | route d k =>
      show (setValues l).length + ((setRoutes l).length + 1) = l.length + 1
      omega
    | bad => exact absurd rfl hx.1
    | absent => exact absurd rfl hx.2

theorem length_setRecs (s : State) (addr n : Nat) : (s.setRecs addr n).length = n := by
  rw [State.setRecs, List.length_map, List.length_range]

/-- What SCENE_STAGE leaves once its set has been read: the set is being staged. -/
def State.stages (r : State) (q : SMap Nat Word) (tag : BitVec 8) (addr n : Nat) : State :=
  ((r.asks q).onMix fun m => { m with
    staging := some (stagingOf tag (r.peekWord addr) (r.peekWord (addr + 8)) (r.setRecs addr n)) }).accept
    Op.sceneStage tag Pg.mix

theorem State.submit_asks (s : State) (op : Nat) (tag : BitVec 8) (args : List Word) :
    s.submit op tag args = s.asks (putWords s.ctrl.req 0 (reqHeader op tag args.length :: args)) := rfl

theorem exec_sceneStage_accepts (hs : s.serves) (ha : addr < 2 ^ 48) (hn : n ≤ s.xfadeLimit)
    (hr : r = s.peeked addr (12 + 8 * n) true) (hw : (r.peekWord (addr + 4)).toNat = n)
    (hh : setHeaderOk (r.peekWord addr) (r.peekWord (addr + 8)) = true) (he : s.mixEnabled = true)
    (hst : s.mix.staging = none) (hp : s.pairHoldsBack = false) (hok : recsStatus (r.setRecs addr n) = St.ok) :
    ∃ q, exec (.sceneStage tag addr (12 + 8 * n)) s = .next (r.stages q tag addr n) := by
  have hreach : Reached s r := hr ▸ (Reached.refl s).peeked
  obtain ⟨hen, hmix, hpair, hlimit, -⟩ := hreach.staging
  have hroutes : (setRoutes (r.setRecs addr n)).length ≤ r.xfadeLimit := by
    have h := length_setValues_setRoutes ((recsStatus_ok_iff _).mp hok)
    rw [length_setRecs] at h
    omega
  obtain ⟨q, hq⟩ : ∃ q, s.submit Op.sceneStage tag (addrArgs addr ++ [BitVec.ofNat 32 (12 + 8 * n)]) = s.asks q :=
    ⟨_, s.submit_asks ..⟩
  refine ⟨q, ?_⟩
  rw [exec_sceneStage, execSceneStage, State.mailbox_serves hs, hq]
  dsimp only
  rw [asks_peeked, ← hr, asks_peekWord, asks_peekWord, asks_peekWord, hw, asks_setRecs, if_neg, if_neg, if_neg, if_neg, if_neg, if_neg]
  · rfl
  · show ¬ r.pairHoldsBack = true
    rw [hpair, hp]
    exact Bool.false_ne_true
  · exact Nat.not_lt_of_le hroutes
  · exact fun h => h hok
  · show ¬ r.mix.staging.isSome = true
    rw [hmix, hst]
    exact Bool.false_ne_true
  · show ¬ (!r.mixEnabled) = true
    rw [hen, he]
    exact Bool.false_ne_true
  · rw [hh, decide_eq_false (Nat.not_le_of_lt ha)]
    simp

/-- The set being staged, and what its acceptance leaves of what firmware's reading left. -/
theorem State.stages_leaves (r : State) (q : SMap Nat Word) (tag : BitVec 8) (addr n : Nat) :
    (r.stages q tag addr n).mix.staging =
      some (stagingOf tag (r.peekWord addr) (r.peekWord (addr + 8)) (r.setRecs addr n)) ∧
    Accepted Op.sceneStage tag Pg.mix r (r.stages q tag addr n) ∧
    Kept [.resp, .ctrl, .msix, .mix] (fields (replyFields ++ progressFields Pg.mix)) noByte r (r.stages q tag addr n) := by
  obtain ⟨t, ht⟩ : ∃ t, t = (r.asks q).onMix fun m => { m with
    staging := some (stagingOf tag (r.peekWord addr) (r.peekWord (addr + 8)) (r.setRecs addr n)) } := ⟨_, rfl⟩
  have hmix : (t.accept Op.sceneStage tag Pg.mix).mix = t.mix := (t.accept_kept ..).areas .mix (by decide)
  have hkept : Kept [.resp, .ctrl, .msix, .mix] (fields (replyFields ++ progressFields Pg.mix)) noByte r t := by
    rw [ht]
    exact .onMix (by decide) (.with_ctrl (by decide) .rfl')
  rw [State.stages, ← ht]
  refine ⟨?_, (t.accept_accepted ..).of_long (by rw [ht]; rfl), hkept.trans ((t.accept_kept ..).mono (by decide)
    (fun _ h => h) fun _ h => h)⟩
  rw [hmix, ht]
  rfl

/-! ### The end of a staging -/

/-- The end of a staging. -/
theorem State.stagingEnds (s : State) {st : Staging} : ∀ u, u = (s.showsStaged st).finish Op.sceneStage st.tag Pg.mix St.ok →
    Finished Op.sceneStage st.tag Pg.mix St.ok s u ∧ u.mix.staging = none ∧ u.mix.rampMs = st.rampMs ∧
      u.mix.routeMs = st.routeMs ∧ u.mix.stageRoutes = mergeRoutes s.mix.stageRoutes st.routes ∧
      u.get Pg.mix MIX.STAGE_SET_SET = st.set % 2 ^ MIX.STAGE_SET_SET.w ∧
      u.flag Pg.mix MIX.STAGE_SET_INCOMPLETE = false ∧
      Kept [.ctrl, .msix, .mix, .tiles] (fields ([fkey Pg.mix MIX.STAGE_SET_SET 0, fkey Pg.mix MIX.STAGE_SET_INCOMPLETE 0,
        fkey Pg.host PG.EVT 0] ++ progressFields Pg.mix)) noByte s u := by
  intro u hu
  have hshow := s.showsStaged_kept st
  have hctrl : (s.showsStaged st).ctrl = s.ctrl := hshow.areas .ctrl (by decide)
  have hfin := State.finish_finished (s.showsStaged st) Op.sceneStage st.tag Pg.mix St.ok (State.present_mix _)
  have hk := (s.showsStaged st).finish_kept Op.sceneStage st.tag Pg.mix St.ok
  rw [← hu] at hfin hk
  have hmix : u.mix = (s.showsStaged st).mix := hk.areas .mix (by decide)
  refine ⟨hfin.of_ctrl (by rw [hctrl]) (by rw [hctrl]), by rw [hmix]; rfl, by rw [hmix]; rfl, by rw [hmix]; rfl, ?_, ?_, ?_, ?_⟩
  · rw [hmix, ← s.staged_routes st]
    rfl
  · rw [hk.get_off (by decide), State.showsStaged, State.get_set_off _ _ (by decide), State.get_set_lo _ _ (by decide)]
    exact State.get_set_same ..
  · rw [State.flag_eq, hk.get_off (by decide), State.showsStaged, State.get_set_off _ _ (by decide), State.get_set_same]
    rfl
  · refine .trans (hshow.mono (by decide) (fun k hk => ?_) fun _ h => h) (hk.mono (by decide) (fun k hk => ?_) fun _ h => h)
    all_goals
      simp only [fields, finishFields, progressFields, List.mem_append, List.mem_cons, List.not_mem_nil, or_false] at hk ⊢
      tauto

/-! ### The check, the cancel and the mirror -/

/-- A scene that is dropped. -/
theorem State.commitDropped_shows (s : State) (i : Nat) (c : Commit) {k : Nat} (hk : k < 2 ^ MIX.COMMIT_RESULT_RESULT.w) :
    (s.commitDropped i c k).mix = { s.mix with commits := SMap.erase s.mix.commits i } ∧
    (s.commitDropped i c k).get Pg.mix MIX.COMMIT_RESULT_RESULT = k ∧ (s.commitDropped i c k).evt Pg.mix 2 = true ∧
    (s.commitDropped i c k).condition Src.commitFail 0 = true ∧ (s.commitDropped i c k).ctrl = s.ctrl ∧
    (s.commitDropped i c k).now = s.now := by
  obtain ⟨hresult, hevt, hcond, hmix, hctrl, hnow⟩ :=
    (s.onMix fun m => { m with commits := SMap.erase m.commits i }).commitFails_shows c hk
  exact ⟨hmix, hresult, hevt, hcond, hctrl, hnow⟩

/-- What a cancel of a scene leaves, in time and too late. -/
theorem State.sceneCancel (s : State) (i : Nat) (c : Commit) : ∀ u,
    u = (if c.begun || c.at_ < s.nanos0 + 4000000 then (s.abandonUnlock Pg.mix).commitFails c Cr.tooLate
      else (s.abandonUnlock Pg.mix).commitDropped i c Cr.cancelled).answer (.ok []) →
    Wrote Pg.mix s u ∧ u.evt Pg.mix 2 = true ∧
      (c.begun = false → s.nanos0 + 4000000 ≤ c.at_ →
        u.mix = { s.mix with commits := SMap.erase s.mix.commits i } ∧
        u.get Pg.mix MIX.COMMIT_RESULT_RESULT = Cr.cancelled) ∧
      (c.begun = true ∨ c.at_ < s.nanos0 + 4000000 → u.mix = s.mix ∧ u.get Pg.mix MIX.COMMIT_RESULT_RESULT = Cr.tooLate) := by
  intro u hu
  obtain ⟨hresult, hevt, -, hmix, hctrl, -⟩ := (s.abandonUnlock Pg.mix).commitFails_shows c (r := Cr.tooLate) (by decide)
  obtain ⟨hmix', hresult', hevt', -, hctrl', -⟩ :=
    (s.abandonUnlock Pg.mix).commitDropped_shows i c (k := Cr.cancelled) (by decide)
  by_cases hlate : (c.begun || decide (c.at_ < s.nanos0 + 4000000)) = true
  · rw [if_pos hlate] at hu
    rw [Bool.or_eq_true, decide_eq_true_eq] at hlate
    rw [hu]
    refine ⟨State.wrote_answer hctrl, hevt, fun hb hle => ?_, fun _ => ⟨hmix, hresult⟩⟩
    exact absurd hlate (not_or.mpr ⟨by rw [hb]; exact Bool.false_ne_true, Nat.not_lt_of_le hle⟩)
  · rw [if_neg hlate] at hu
    rw [Bool.or_eq_true, decide_eq_true_eq] at hlate
    rw [hu]
    exact ⟨State.wrote_answer hctrl', hevt', fun _ _ => ⟨hmix', hresult'⟩, fun h => absurd h hlate⟩

/-- The slots that staging has written are skipped. -/
theorem contains_stageSlots (l : List (Nat × Nat)) (n k : Nat) :
    ((l.filter fun e => e.1 == n).map (·.2)).contains k = false ↔ (n, k) ∉ l := by
  rw [← Bool.not_eq_true, List.contains_iff_mem]
  simp

/-- A tile whose banks are alike, but for staged slots. -/
def State.mirrors (s : State) (n : Nat) : State :=
  s.setTile n { (s.tile n).mirrored (s.flag (Pg.awl n) AWL.PSTAT_ACTIVE_BANK)
    ((s.mix.stageSlots.filter fun e => e.1 == n).map (·.2)) with mirror := false }

theorem exec_bankMirrorDone_mirrors (hn : n < 256) (hm : (s.tile n).mirror = true) :
    exec (.bankMirrorDone n) s = .next (s.mirrors n) := by
  rw [exec_bankMirrorDone, execBankMirrorDone, guardWf_of (decide_eq_true hn), whenHolds_of hm]
  rfl

theorem Tile.mirrored_eq (y : Tile) (b : Bool) (skip : List Nat) :
    y.mirrored b skip = (List.range 4096).foldl (Tile.mirrorSlot b skip) y := rfl

theorem Tile.param_mirror (y : Tile) (v b : Bool) (k : Nat) : ({ y with mirror := v } : Tile).param b k = y.param b k := by
  cases b <;> rfl

theorem State.mirrors_params (s : State) (n k : Nat) (hk : k < 4096) (b : Bool)
    (hb : b = s.flag (Pg.awl n) AWL.PSTAT_ACTIVE_BANK) :
    ((s.mirrors n).tile n).param b k = (s.tile n).param b k ∧
    ((s.mirrors n).tile n).param (!b) k =
      if (n, k) ∈ s.mix.stageSlots then (s.tile n).param (!b) k else (s.tile n).param b k := by
  obtain ⟨hactive, hother⟩ := Tile.mirrorSlots b ((s.mix.stageSlots.filter fun e => e.1 == n).map (·.2)) (List.range 4096)
    (s.tile n) k
  have hparam (c : Bool) : ((s.mirrors n).tile n).param c k = ((s.tile n).mirrored b
      ((s.mix.stageSlots.filter fun e => e.1 == n).map (·.2))).param c k := by
    rw [State.mirrors, State.tile_setTile, ← hb]
    exact Tile.param_mirror _ false c k
  rw [hparam, hparam, Tile.mirrored_eq, hactive, hother]
  refine ⟨rfl, ?_⟩
  by_cases h : (n, k) ∈ s.mix.stageSlots
  · rw [if_neg (fun e => (contains_stageSlots ..).mp e.2 h), if_pos h]
  · rw [if_pos ⟨List.mem_range.mpr hk, (contains_stageSlots ..).mpr h⟩, if_neg h]

/-- Settles O42: the staging by what firmware's reading leaves, the rest command by command (R166 to R174). -/
theorem scenes : Obligations.Scenes := by
  unfold Obligations.Scenes
  refine ⟨?_, fun s st hst => ⟨_, exec_sceneStageDone_ends hst, s.stagingEnds _ rfl⟩, ?_,
    fun s m v c ht hg hc hk => ⟨_, exec_commitCancel_scene ht hg hc hk, s.sceneCancel _ c _ rfl⟩, fun s n hn hb hl => ?_, ?_⟩
  · intro s tag addr n hs ha hn r hw hh he hst hp hok
    obtain ⟨q, hexec⟩ := exec_sceneStage_accepts (tag := tag) hs ha hn rfl hw hh he hst hp hok
    have hreach : Reached s r := (Reached.refl s).peeked
    obtain ⟨-, -, -, -, hctrl⟩ := hreach.staging
    obtain ⟨hstaging, haccepted, hkept⟩ := r.stages_leaves q tag addr n
    refine ⟨_, hexec, haccepted.of_long (by rw [hctrl]), ⟨_, hstaging, rfl, rfl, rfl, rfl, ?_⟩, hkept⟩
    exact (length_setValues_setRoutes ((recsStatus_ok_iff _).mp hok)).trans (length_setRecs ..)
  · intro s i c ha hb v
    rw [exec_sceneCheck_checks ha hb]
    refine ⟨_, rfl, fun h => if_neg (by rw [h]; exact Bool.false_ne_true), fun h => ?_⟩
    obtain ⟨hmix, hresult, hevt, hcond, -, hnow⟩ := v.commitDropped_shows i c (k := Cr.incomplete) (by decide)
    rw [if_pos h]
    exact ⟨by rw [hmix]; exact SMap.find?_erase_same .., hnow, hresult, hevt, hcond⟩
  · refine ⟨_, exec_rampEnd_ends hn hb hl, ?_, State.tile_setTile .., fun j hj => State.tile_setTile_ne _ _ hj,
      .setTile (by decide) (.set (by simp [fields]) .rfl')⟩
    rw [State.flag_eq, State.setTile_get, State.get_set_same]
    rfl
  · intro s n hn hm b
    refine ⟨_, exec_bankMirrorDone_mirrors hn hm, ?_, fun k hk => s.mirrors_params n k hk b rfl,
      fun j hj => State.tile_setTile_ne _ _ hj, .setTile (by decide) .rfl'⟩
    exact congrArg Tile.mirror (State.tile_setTile ..)

end Sys2Proof.Machine
end

section
/-!
O2: the step of an empty queue (log 8).
-/

open Sys2Proof Sys2Proof.Machine

/-- Settles O2: the step of an empty queue is the passing of one cycle, which is the two counters' advance and the clock's. -/
theorem idleCycle : Obligations.IdleCycle := by
  intro s h
  refine ⟨s.advance 1, ?_, s.advance_now 1, rfl, rfl, .advance (by decide) (by decide) .rfl'⟩
  rw [step, h]

end

section
/-!
SUPPORT. Control transfers of a tile (R133 to R138): an instruction that names where execution continues gives the tile that
it leaves, and a loop end leaves the program counter and the HU.
-/

namespace Sys2Proof.Machine

variable {s : State} {t : Nat} {x : Tile}

/-! ### What a control transfer gives -/

/-- A transfer that raises no cause, whatever its tile becomes. -/
theorem State.issue_transfer (ht : t < 256) (he : s.executing t = true) (hr : (s.tile t).rpt = none)
    (f : Win → Tile → Issue) (cost : Nat) (y : Tile) {next : Nat} (hn : next < 0x4000)
    (hf : f (s.win t) (s.tile t) = (s.tile t).transfer cost [] y next) :
    Gives (s.issue t f) s t { y with pc := BitVec.ofNat 14 next, lastPc := (s.tile t).pc, hu := (s.tile t).hu + cost } := by
  refine s.issue_gives ht he f _ hf ?_ rfl rfl
  rw [Tile.transfer, Tile.notRepeated, hr, beyond_nil hn]
  rfl

/-- The same to an address of 14 bits. -/
theorem State.issue_transferTo (ht : t < 256) (he : s.executing t = true) (hr : (s.tile t).rpt = none)
    (f : Win → Tile → Issue) (cost : Nat) (y : Tile) (a : BitVec 14)
    (hf : f (s.win t) (s.tile t) = (s.tile t).transfer cost [] y a.toNat) :
    Gives (s.issue t f) s t { y with pc := a, lastPc := (s.tile t).pc, hu := (s.tile t).hu + cost } := by
  have h := s.issue_transfer ht he hr f cost y a.isLt hf
  rwa [BitVec.ofNat_toNat, BitVec.setWidth_eq] at h

/-- A transfer whose tile stands where it stood, with its HU. -/
theorem State.issue_jumped (ht : t < 256) (he : s.executing t = true) (hr : (s.tile t).rpt = none)
    (f : Win → Tile → Issue) (cost : Nat) (y : Tile) {next : Nat} (hn : next < 0x4000)
    (hf : f (s.win t) (s.tile t) = (s.tile t).transfer cost [] y next)
    (hy : y.pc = (s.tile t).pc ∧ y.hu = (s.tile t).hu) : Gives (s.issue t f) s t (Tile.jumped cost next y) := by
  rw [Tile.jumped, hy.1, hy.2]
  exact s.issue_transfer ht he hr f cost y hn hf

/-- A loop end leaves the program counter and the HU. -/
theorem Tile.retireAt_stays (x : Tile) (a : Nat) : (x.retireAt a).1.pc = x.pc ∧ (x.retireAt a).1.hu = x.hu := by
  obtain ⟨lc, ls, le, lrsd, d, q, h⟩ := x.retireAt_withLoops a
  rw [h x x.sameLoops_self]
  exact ⟨rfl, rfl⟩

/-- Outside a repeat, retirement in sequence is the loop end at the program counter. -/
theorem Tile.advanced_unrepeated (hr : x.rpt = none) (cost : Nat) :
    Tile.advanced cost x = Tile.jumped cost (x.retireAt x.pc.toNat).2 (x.retireAt x.pc.toNat).1 := by
  have hx : ({ x with rpt := none } : Tile) = x := by rw [← hr]
  obtain ⟨hpc, hhu⟩ := x.retireAt_stays x.pc.toNat
  rw [Tile.advanced, hx, Tile.jumped, hpc, hhu, hr]
  rfl

theorem Tile.goesOn_unrepeated (hr : x.rpt = none) (hg : x.goesOn) : (x.retireAt x.pc.toNat).2 < 0x4000 := by
  rw [Tile.goesOn, hr] at hg
  exact hg.resolve_left (by decide)

/-! ### Causes that do not arise -/

theorem reservedIf_false {c : Bool} (h : c = false) : reservedIf c = [] := by
  rw [reservedIf, h]
  rfl

/-- No open level ends at the program counter. -/
theorem Tile.atLe_false (h : ∀ n, n < x.ldepth → nget 0 x.le n ≠ x.pc) : x.atLe = false := by
  rw [Tile.atLe, List.any_eq_false]
  intro n hn
  simpa using h n (List.mem_range.1 hn)

/-- The field that a form does not use is zero. -/
theorem unused_false {r : Bool} {v w : Nat} {a : BitVec v} {b : BitVec w} (h : if r then a = 0 else b = 0) :
    (if r then a != 0 else b != 0) = false := by
  cases r <;> simpa using h

/-- The address of BR and CALL. -/
theorem Tile.target_eq (x : Tile) (ind : Bool) (target : BitVec 14) (gs : BitVec 5) :
    x.target ind target gs = (if ind then (x.gReg gs).setWidth 14 else target).toNat := by
  cases ind <;> simp [Tile.target]

theorem Tile.repeatCount_setWidth (x : Tile) (r : Bool) (count : BitVec 12) (gc : BitVec 5) :
    x.repeatCount r (count.setWidth 16) gc = if r then (x.gReg gc).toNat % 65536 else count.toNat := by
  have h : (count.setWidth 16).toNat = count.toNat := by
    rw [BitVec.toNat_setWidth]
    omega
  rw [Tile.repeatCount, h]
  rfl

/-! ### The instructions -/

/-- RPT with nothing against it: a count above 0 arms the repeat, and 0 skips the next instruction. -/
theorem Tile.rptIssue_arms (x : Tile) {n : Nat} (hn : n ≠ 0) (hle : x.atLe = false) :
    x.rptIssue false n = x.transfer 1 [] { x with rpt := some ⟨n⟩ } (x.pc.toNat + 1) := by
  rw [Tile.rptIssue, hle]
  simp [hn, reservedIf]

theorem Tile.rptIssue_skips (x : Tile) (ha : x.pc.toNat + 1 < 0x4000) (hle : x.atLe = false) :
    x.rptIssue false 0 = x.transfer 1 [] (x.retireAt (x.pc.toNat + 1)).1 (x.retireAt (x.pc.toNat + 1)).2 := by
  rw [Tile.rptIssue, hle]
  simp [ha, reservedIf]

/-- RPTB with nothing against it: a count above 0 opens a level, and 0 goes on behind it. -/
theorem Tile.rptbIssue_opens (x : Tile) {n k : Nat} (hn : n ≠ 0) (hle : x.atLe = false) (hd : x.ldepth ≠ 4)
    (hk : x.pc.toNat + 1 + k < 0x4000) :
    x.rptbIssue false k n =
      x.transfer 1 [] (x.openLevel n (x.pc.toNat + 1) (x.pc.toNat + 1 + k)) (x.pc.toNat + 1) := by
  rw [Tile.rptbIssue, hle, if_neg hn, if_neg hd, beyond_nil hk]
  rfl

theorem Tile.rptbIssue_skips (x : Tile) {k : Nat} (hle : x.atLe = false) (hd : x.ldepth ≠ 4)
    (hk : x.pc.toNat + 1 + k < 0x4000) :
    x.rptbIssue false k 0 =
      x.transfer 1 [] (x.retireAt (x.pc.toNat + 1 + k)).1 (x.retireAt (x.pc.toNat + 1 + k)).2 := by
  rw [Tile.rptbIssue, hle, if_pos rfl, if_neg hd, beyond_nil hk]
  rfl

/-- NOP of word 0. -/
theorem exec_nop_gives (ht : t < 256) (he : s.executing t = true) (hg : (s.tile t).goesOn) :
    Gives (exec (.nop t 0) s) s t (Tile.advanced 1 (s.tile t)) := by
  rw [exec_nop, execNop, show ((0 : Word) == 0) = true from rfl, Bool.true_or, guardWf, if_pos rfl, State.issueForm]
  exact State.issue_inSequence ⟨ht, he, hg⟩ _ 1 _ rfl (Tile.sameFlow_self _)

/-- RPT is its form's issue, the unused field zero. -/
theorem exec_rpt_unused {r : Bool} {count : BitVec 16} {gc : BitVec 5} (hz : if r then count = 0 else gc = 0) :
    exec (.rpt t r count gc) s = s.issue t fun _ x => x.rptIssue false (x.repeatCount r count gc) := by
  have hu : (if r then count != 0 else gc != 0) = false := unused_false hz
  rw [exec_rpt, execRpt, hu]

theorem exec_rptb_unused {r : Bool} {ofs : BitVec 11} {count : BitVec 12} {gc : BitVec 5}
    (hz : if r then count = 0 else gc = 0) :
    exec (.rptb t r ofs count gc) s = s.issue t fun _ x => x.rptbIssue false ofs.toNat
      (if r then (x.gReg gc).toNat % 65536 else count.toNat) := by
  have hu : (if r then count != 0 else gc != 0) = false := unused_false hz
  rw [exec_rptb, execRptb, hu]
  simp only [Tile.repeatCount_setWidth]

/-- A taken branch. -/
theorem exec_br_gives (ht : t < 256) (he : s.executing t = true) (hr : (s.tile t).rpt = none) {ind : Bool}
    {target : BitVec 14} {gs : BitVec 5} (hz : if ind then target = 0 else gs = 0) {a : BitVec 14}
    (ha : a = if ind then ((s.tile t).gReg gs).setWidth 14 else target) :
    Gives (exec (.br t ind target gs) s) s t
      { Tile.branchTo a.toNat (s.tile t).ldepth (s.tile t) with
        pc := a, lastPc := (s.tile t).pc, hu := (s.tile t).hu + 2 } := by
  have hu : unusedTarget ind target gs = false := unused_false hz
  have htarget : (s.tile t).target ind target gs = a.toNat := by rw [ha, Tile.target_eq]
  rw [exec_br, execBr]
  refine s.issue_transferTo ht he hr _ 2 (Tile.branchTo a.toNat (s.tile t).ldepth (s.tile t)) a ?_
  dsimp only
  rw [hu, htarget]
  rfl

/-- A call with room on the return stack. -/
theorem exec_call_gives (ht : t < 256) (he : s.executing t = true) (hr : (s.tile t).rpt = none) {ind : Bool}
    {target : BitVec 14} {gs : BitVec 5} (hz : if ind then target = 0 else gs = 0) {a : BitVec 14}
    (ha : a = if ind then ((s.tile t).gReg gs).setWidth 14 else target) (hd : (s.tile t).rsd ≠ 8)
    (hpc : (s.tile t).pc.toNat + 1 < 0x4000) :
    Gives (exec (.call t ind target gs) s) s t
      { s.tile t with
        ret := nput 0 (s.tile t).ret (s.tile t).rsd ((s.tile t).pc + 1), rsd := (s.tile t).rsd + 1
        pc := a, lastPc := (s.tile t).pc, hu := (s.tile t).hu + 2 } := by
  have hu : unusedTarget ind target gs = false := unused_false hz
  have htarget : (s.tile t).target ind target gs = a.toNat := by rw [ha, Tile.target_eq]
  rw [exec_call, execCall]
  refine s.issue_transferTo ht he hr _ 2
    { s.tile t with ret := nput 0 (s.tile t).ret (s.tile t).rsd ((s.tile t).pc + 1), rsd := (s.tile t).rsd + 1 } a ?_
  dsimp only
  rw [hu, htarget, if_neg hd, beyond_nil hpc]
  rfl

/-- BRC with a condition code, as its form has it. -/
theorem exec_brc_coded {cond : BitVec 4} (hc : cond ≠ 15) (target : BitVec 14) :
    exec (.brc t cond target) s = s.issue t fun _ x =>
      if x.holds cond then x.transfer 2 [] (Tile.branchTo target.toNat x.ldepth x) target.toNat
      else x.transfer 1 [] (x.retireAt x.pc.toNat).1 (x.retireAt x.pc.toNat).2 := by
  rw [exec_brc, execBrc, reservedIf_false (by simpa using hc)]

/-- RET at an open call. -/
theorem exec_ret_gives (ht : t < 256) (he : s.executing t = true) (hr : (s.tile t).rpt = none) (hd : (s.tile t).rsd ≠ 0) :
    let x := s.tile t
    let a := (nget 0 x.ret (x.rsd - 1)).toNat
    let y := { x with rsd := x.rsd - 1 }
    let r := if a = 0 then (y, 0) else y.retireAt (a - 1)
    r.2 < 0x4000 → Gives (exec (.ret t) s) s t (Tile.jumped 2 r.2 r.1) := by
  intro x a y r hn
  rw [exec_ret, execRet]
  refine s.issue_jumped ht he hr _ 2 r.1 hn ?_ ?_
  · rw [Tile.retIssue, if_neg hd]
  · show r.1.pc = x.pc ∧ r.1.hu = x.hu
    by_cases ha : a = 0
    · simp [r, ha, y]
    · simp only [r, if_neg ha]
      exact y.retireAt_stays _

/-- FENCE writes the context word into its register as it retires. -/
theorem exec_fence_gives (ht : t < 256) (he : s.executing t = true) (hr : (s.tile t).rpt = none)
    (hg : (s.tile t).goesOn) (gd : BitVec 5) (sel : BitVec 2) {age : Nat} (ha : age ≤ 2) :
    Gives (exec (.fence t gd sel age) s) s t ((Tile.advanced 1 (s.tile t)).setG gd (s.contextWord t age sel)) := by
  obtain ⟨hpc, hhu⟩ := (s.tile t).retireAt_stays (s.tile t).pc.toNat
  rw [exec_fence, execFence, guardWf, if_pos (decide_eq_true ha), Tile.advanced_unrepeated hr, Tile.jumped, hpc, hhu]
  exact s.issue_transfer ht he hr _ 1 (((s.tile t).retireAt (s.tile t).pc.toNat).1.setG gd (s.contextWord t age sel))
    (Tile.goesOn_unrepeated hr hg) rfl

/-- The context word that SEL 0 selects. -/
theorem State.contextWord_remain (s : State) (t age : Nat) :
    s.contextWord t age 0 = if (s.dom (s.tileDomain t)).fenced then 0
      else BitVec.ofNat 32 ((s.dom (s.tileDomain t)).tickAt + (s.dom (s.tileDomain t)).tF - (s.now - age)) := by
  rw [State.contextWord]
  exact apply_ite (BitVec.ofNat 32) ..

end Sys2Proof.Machine
end

section
open Sys2Proof Sys2Proof.Machine

/-- Settles O26: outside a repeat each control instruction is a transfer that raises no cause, NOP is one in sequence. -/
theorem awlControl : Obligations.AwlControl := by
  intro s t ht he x
  refine ⟨exec_nop_gives ht he, fun hr => ⟨?_, ?_, ?_, ?_, exec_ret_gives ht he hr, ?_⟩⟩
  · intro r count gc hz hle hpc n
    rw [exec_rpt_unused hz]
    refine ⟨fun hn => s.issue_jumped ht he hr _ 1 { x with rpt := some ⟨n⟩ } hpc
        (x.rptIssue_arms hn (Tile.atLe_false hle)) ⟨rfl, rfl⟩,
      fun hn hnext => s.issue_jumped ht he hr _ 1 (x.retireAt (x.pc.toNat + 1)).1 hnext ?_ (x.retireAt_stays _)⟩
    have hzero : x.repeatCount r count gc = 0 := hn
    show x.rptIssue false (x.repeatCount r count gc) = _
    rw [hzero]
    exact x.rptIssue_skips hpc (Tile.atLe_false hle)
  · intro r ofs count gc hz hle hd start le hlt n
    rw [exec_rptb_unused hz]
    refine ⟨fun hn => s.issue_jumped ht he hr _ 1 (x.openLevel n start le) (by omega)
        (x.rptbIssue_opens hn (Tile.atLe_false hle) hd hlt) ⟨rfl, rfl⟩,
      fun hn hnext => s.issue_jumped ht he hr _ 1 (x.retireAt le).1 hnext ?_ (x.retireAt_stays _)⟩
    show x.rptbIssue false ofs.toNat n = _
    rw [hn]
    exact x.rptbIssue_skips (Tile.atLe_false hle) hd hlt
  · intro ind target gs hz a
    exact ⟨exec_br_gives ht he hr hz rfl, exec_call_gives ht he hr hz rfl⟩
  · intro cond target hc
    rw [exec_brc_coded hc]
    refine ⟨fun hh => s.issue_transferTo ht he hr _ 2 (Tile.branchTo target.toNat x.ldepth x) target ?_, fun hh hg => ?_⟩
    · exact if_pos hh
    · rw [Tile.advanced_unrepeated hr]
      refine s.issue_jumped ht he hr _ 1 (x.retireAt x.pc.toNat).1 (Tile.goesOn_unrepeated hr hg) ?_ (x.retireAt_stays _)
      exact if_neg (by rw [hh]; exact Bool.false_ne_true)
  · intro gd age ha hg d p gives
    have hgives : ∀ sel : BitVec 2, gives sel (s.contextWord t age sel) := fun sel => exec_fence_gives ht he hr hg gd sel ha
    exact ⟨s.contextWord_remain t age ▸ hgives 0, hgives 1, hgives 2, hgives 3⟩

end

section
/-!
SUPPORT. What refutes O38 and O40: a tick that passes over a tile in shadow, and a SHED_MASK beyond its field.
-/

namespace Sys2Proof.Machine

/-- A place in a plan with nothing in it: tile 0, domain 0. -/
def bareEntry : PlanTile where
  tile := 0
  domain := 0
  lead := 0
  cost := 0
  entry := 0
  winHalf := 0
  inputs := []
  outputs := []
  cls := .keep
  units := []
  imem := []
  xmem := []
  ymem := []
  params := []
  presets := []

/-- An enabled fabric whose only placed tile stands in shadow. -/
def shadowTile : State :=
  ((State.reset.set Pg.fabric PG.CTRL_EN 1).setTile 0 { Tile.reset with shadow := true }).onFabric fun f =>
    { f with place := [(0, bareEntry)] }

/-- The tick reaches no pass of a tile in shadow (R179). -/
theorem tick_shadowTile_idle : ((shadowTile.tick 0).tile 0).pass = .idle := by decide +kernel

theorem exec_blockTick_shadowTile : exec (.blockTick 0) shadowTile = .next (shadowTile.tick 0) := by
  rw [exec_blockTick, execBlockTick, guardWf_of (by decide), whenHolds_of (by decide)]

/-- A register store with a SHED_MASK of tile 0 above its 8 bits: class 1 is shed, and so is a class 8. Tile 0 is disabled, so
that no HU bounds the return of a class. -/
def wideMask : State :=
  { State.reset.onFabric fun f => { f with sheds := [(shedKey 0 1, ⟨true, 0, 0, none⟩)] } with
    regs := [(fkey (Pg.awl 0) PG.CTRL_EN 0, 0), (fkey Pg.fabric FABRIC.TILE_STAT_SHED_MASK 0, 2 ^ 8 + 2 ^ 1)] }

theorem wideMask_mayRestore : wideMask.mayRestore 0 1 = true := rfl

theorem wideMask_shedOn : wideMask.shedOn 0 8 = true := rfl

theorem exec_restore_wideMask : exec (.restore 0 1) wideMask = .next (wideMask.restoreClass 0 1) := rfl

/-- SHED_MASK takes 8 bits of what is left of the mask. -/
theorem wideMask_restoreClass_shedOn : (wideMask.restoreClass 0 1).shedOn 0 8 = false := rfl

end Sys2Proof.Machine
end

section
open Sys2Proof Sys2Proof.Machine

/-- Refutes O38: the first statement does not except a tile in shadow, whose pass a tick leaves idle. -/
theorem not_passes : ¬ Obligations.Passes := by
  rintro ⟨htick, -⟩
  obtain ⟨u, hu, -, -, -, hpass, -⟩ :=
    htick shadowTile 0 0 bareEntry (by decide) (by decide) rfl rfl rfl rfl rfl rfl rfl rfl rfl
  obtain rfl : shadowTile.tick 0 = u := Host.Outcome.next.inj (exec_blockTick_shadowTile.symm.trans hu)
  exact absurd (tick_shadowTile_idle.symm.trans hpass) (by decide)

/-- Refutes O40: where the store holds a SHED_MASK above the field's 8 bits, the return of class 1 clears bit 8 with it. -/
theorem not_relocations : ¬ Obligations.Relocations := by
  intro h
  obtain ⟨-, -, -, hrestore, -⟩ := h wideMask
  obtain ⟨u, hu, -, hother, -⟩ := hrestore 0 1 (by decide) (by decide) (by decide) wideMask_mayRestore
  obtain rfl : wideMask.restoreClass 0 1 = u := Host.Outcome.next.inj (exec_restore_wideMask.symm.trans hu)
  exact absurd ((hother 8 (by decide)).symm.trans wideMask_restoreClass_shedOn) (by rw [wideMask_shedOn]; decide)

end

section
/-!
SUPPORT. A tile fault (R70, R121, R131): what the abort of a pass writes, and what the tile keeps.
-/

namespace Sys2Proof.Machine

variable {s : State} {t : Nat}

/-- What the abort of a pass by a fault writes. -/
def faultFields (t : Nat) : List FKey :=
  [fkey (Pg.awl t) AWL.TST_SNAP_TST 0, fkey (Pg.awl t) AWL.PC_SNAP_ABORTED 0, fkey (Pg.awl t) AWL.PC_SNAP_PC 0,
    fkey Pg.fabric FABRIC.TILE_STAT_MISSED t, fkey Pg.fabric FABRIC.TILE_STAT_LATE_DELIVERY t,
    fkey Pg.fabric FABRIC.TILE_STAT_FAULT_ABORT t, fkey Pg.fabric FABRIC.FAULT_ABORTS 0]

/-- Where they lie. -/
def faultOffsets : List Nat := (faultFields 0).map FKey.off

theorem faultFields_off {k : FKey} (h : k ∈ faultFields t) : k.off ∈ faultOffsets := by
  have hmap : (faultFields t).map FKey.off = faultOffsets := rfl
  exact hmap ▸ List.mem_map_of_mem h

theorem State.faultAbort_kept (s : State) (t : Nat) :
    Kept [.tiles, .life] (fields (faultFields t)) noByte s (s.faultAbort t) := by
  have hw : ∀ k ∈ faultFields t, fields (faultFields t) k := fun _ h => h
  simp only [faultFields, List.forall_mem_cons] at hw
  obtain ⟨htst, haborted, hpc, hmissed, hlate, hfault, habort, -⟩ := hw
  exact ((((((Kept.rfl'.setTile (by decide)).set htst).setFlag haborted).set hpc).setFlag hmissed).setFlag hlate).setFlag
    hfault |>.count habort |>.tileLife (by decide)

/-- The pass of the tile ends; the rest of the tile stays. -/
theorem State.faultAbort_tile (s : State) (t : Nat) : (s.faultAbort t).tile t =
    { s.tile t with pass := if (s.tile t).pass == .missedRunning then .missed else .faulted, rpt := none } := by
  have htiles : (s.faultAbort t).tiles = (s.setTile t { s.tile t with
      pass := if (s.tile t).pass == .missedRunning then .missed else .faulted, rpt := none }).tiles := by
    simp [State.faultAbort, State.abortPass, State.snapPass, State.tileStat]
  rw [State.tile_eq_of_tiles htiles, State.tile_setTile]

theorem not_reactive_awl (ht : t < 256) : ¬ reactive (Pg.awl t) := by
  simp only [reactive, Pg.awl, Pg.cinch]
  omega

theorem State.recordFault_kept (s : State) (t c : Nat) (pc : BitVec 14) :
    Kept [] (fields [fkey (Pg.awl t) AWL.FAULT_INFO_VALID 0, fkey (Pg.awl t) AWL.FAULT_INFO_CAUSE 0,
      fkey (Pg.awl t) AWL.FAULT_INFO_PC 0]) noByte s (s.recordFault t c pc) := by
  rw [State.recordFault]
  exact .ite (fun _ => .rfl') fun _ => ((Kept.rfl'.set (by simp [fields])).set (by simp [fields])).set (by simp [fields])

/-- FAULT_INFO takes the first fault. -/
theorem State.recordFault_info (hv : s.flag (Pg.awl t) AWL.FAULT_INFO_VALID = false) {c : Nat} (hc : c < 16) (pc : BitVec 14) :
    (s.recordFault t c pc).get (Pg.awl t) AWL.FAULT_INFO_CAUSE = c ∧
    (s.recordFault t c pc).get (Pg.awl t) AWL.FAULT_INFO_PC = pc.toNat := by
  rw [State.recordFault, if_neg (by rw [hv]; exact Bool.false_ne_true)]
  refine ⟨?_, ?_⟩
  · rw [State.get_set_lo _ _ (by decide), State.get_set_same]
    exact Nat.mod_eq_of_lt hc
  · rw [State.get_set_same]
    exact Nat.mod_eq_of_lt pc.isLt

/-- The state in which the fault aborts the pass: counted and recorded. -/
def State.faultNoted (s : State) (t c : Nat) : State :=
  ((((s.count (Pg.awl t) AWL.ILLEGAL_COUNT).recordFault t c (s.tile t).pc).event (Pg.awl t) 2).tileLife t 1)

theorem State.tileFault_noted (s : State) (t c : Nat) :
    s.tileFault t c = ((s.faultNoted t c).faultAbort t).raise Src.awlIllegal t := rfl

theorem State.faultNoted_tile (s : State) (t c : Nat) : (s.faultNoted t c).tile t = s.tile t := by
  rw [State.faultNoted, State.tile_eq_of_tiles (State.tileLife_tiles ..), State.tile_eq_of_tiles (State.event_tiles ..)]
  exact State.tile_eq_of_tiles ((State.recordFault_kept ..).areas .tiles (by decide)) t

theorem State.tileFault_tile (s : State) (t c : Nat) : (s.tileFault t c).tile t =
    { s.tile t with pass := if (s.tile t).pass == .missedRunning then .missed else .faulted, rpt := none } := by
  rw [State.tileFault_noted, State.tile_eq_of_tiles (State.raise_tiles ..), State.faultAbort_tile, State.faultNoted_tile]

/-- What a fault leaves in a field of its tile's page that neither the abort nor the reactions write. -/
theorem State.tileFault_get (ht : t < 256) (c : Nat) {g : Fld} (ho : g.off ∉ faultOffsets)
    (he : PG.EVT.off ≠ g.off) : (s.tileFault t c).get (Pg.awl t) g =
      ((s.count (Pg.awl t) AWL.ILLEGAL_COUNT).recordFault t c (s.tile t).pc).get (Pg.awl t) g := by
  rw [State.tileFault_noted, State.get_raise _ _ _ (not_reactive_awl ht) he.symm,
    (State.faultAbort_kept ..).get_off fun k hk e => ho (e ▸ faultFields_off hk),
    State.faultNoted, State.tileLife_get, State.get_event_off _ _ _ he]

theorem State.tileFault_byte (s : State) (t c a : Nat) : (s.tileFault t c).byte a = s.byte a := by
  rw [State.tileFault_noted, State.raise_byte, (State.faultAbort_kept ..).mem a id]
  have h : Kept [.msix, .life] (fun _ => True) noByte s (s.faultNoted t c) :=
    (((Kept.rfl'.count trivial).trans ((State.recordFault_kept ..).mono (by simp) (fun _ _ => trivial) fun _ h => h)).event
      (by decide) trivial).tileLife (by decide)
  exact h.mem a id

/-- An instruction that meets causes is a fault with the lowest of them. -/
theorem State.issue_faults (ht : t < 256) (he : s.executing t = true) {f : Win → Tile → Issue} {c : Nat}
    (hc : (f (s.win t) (s.tile t)).causes.min? = some c) : s.issue t f = .next (s.tileFault t c) := by
  rw [State.issue, guardWf_of (decide_eq_true ht), whenHolds_of he, State.issueResult, hc]

end Sys2Proof.Machine
end

section
open Sys2Proof Sys2Proof.Machine

/-- Settles O28: the fault counts, records itself where nothing stands recorded, and of its tile changes the pass and a repeat. -/
theorem awlIllegal : Obligations.AwlIllegal := by
  intro s t c f ht he hc hlt
  have htile := s.tileFault_tile t c
  refine ⟨_, State.issue_faults ht he hc, ?_, fun hv => ?_, ?_, ?_, ?_, ?_, ?_, ?_, s.tileFault_byte t c⟩
  · rw [State.tileFault_get ht c (by decide) (by decide), (State.recordFault_kept ..).get_off (by simp [fkey]; decide)]
    exact State.get_count_same ..
  · rw [State.tileFault_get ht c (by decide) (by decide), State.tileFault_get ht c (by decide) (by decide)]
    refine State.recordFault_info ?_ hlt _
    rw [State.flag_eq, State.count_eq, State.get_set_off _ _ (by decide), ← State.flag_eq]
    exact hv
  · rw [htile]
    exact (ite_eq_or_eq ..).symm
  all_goals rw [htile]

end

section
/-!
SUPPORT. The end of a pass (R59, R60, R62): what its books (slack, speed, drained windows) leave of the tile.
-/

namespace Sys2Proof.Machine

variable {s x : State} {t : Nat}

/-- A tile without the marks that the books of its passes hold: slack, speed, on-time run and drained windows. -/
def Tile.unmarked (y : Tile) : Tile :=
  { y with onTime := 0, slackNow := 0, lowSlack := 0, slowObs := 0, observed := 0, agreeAt := none, drained := [] }

/-- The books of tile t have been kept: its marks may differ, and no time has passed and no byte changed. -/
structure Booked (t : Nat) (s u : State) : Prop where
  tile : (u.tile t).unmarked = (s.tile t).unmarked
  now : u.now = s.now
  byte : ∀ a, u.byte a = s.byte a

theorem Booked.refl (t : Nat) (s : State) : Booked t s s := ⟨rfl, rfl, fun _ => rfl⟩

theorem Booked.setTile {y : Tile} (h : Booked t s x) (hy : y.unmarked = (x.tile t).unmarked) :
    Booked t s (x.setTile t y) :=
  ⟨by rw [State.tile_setTile, hy, h.tile], h.now, h.byte⟩

/-- What changes neither tiles nor clock nor memory keeps the books. -/
theorem Booked.of_kept {A : List Area} {w : FKey → Prop} {u : State} (h : Booked t s x) (hk : Kept A w noByte x u)
    (htiles : Area.tiles ∉ A := by decide) (hclock : Area.clock ∉ A := by decide) : Booked t s u :=
  ⟨by rw [State.tile_eq_of_tiles (hk.areas .tiles htiles), h.tile], (hk.areas .clock hclock).trans h.now,
    fun a => (hk.mem a id).trans (h.byte a)⟩

theorem Booked.set {p v i : Nat} {f : Fld} (h : Booked t s x) : Booked t s (x.set p f v i) :=
  h.of_kept (A := []) (w := fun _ => True) (.set trivial .rfl')

theorem Booked.setFlag {p i : Nat} {f : Fld} {b : Bool} (h : Booked t s x) : Booked t s (x.setFlag p f b i) := h.set

theorem Booked.count {p n i : Nat} {f : Fld} (h : Booked t s x) : Booked t s (x.count p f n i) := h.set

theorem Booked.setDom {d : Nat} {y : Domain} (h : Booked t s x) : Booked t s (x.setDom d y) :=
  h.of_kept (A := [.fabric]) (w := fun _ => True) (.setDom (by decide) .rfl')

theorem Booked.slackLife {bin : Nat} (h : Booked t s x) : Booked t s (x.slackLife t bin) :=
  h.of_kept (A := [.life]) (w := fun _ => True) (.lifeAdd (by decide) .rfl')

theorem Booked.ite {c : Prop} [Decidable c] {u v : State} (hu : Booked t s u) (hv : Booked t s v) :
    Booked t s (if c then u else v) := by
  split
  · exact hu
  · exact hv

/-! ### The books of a pass -/

theorem Booked.recordHu (h : Booked t s x) : Booked t s (x.recordHu t) := h.set.set

theorem Booked.snapPass {aborted : Bool} (h : Booked t s x) : Booked t s (x.snapPass t aborted) := h.set.setFlag.set

theorem Booked.tileStat {missed late fault : Bool} (h : Booked t s x) : Booked t s (x.tileStat t missed late fault) :=
  h.setFlag.setFlag.setFlag

theorem Booked.recordSlack {slack : Nat} (h : Booked t s x) : Booked t s (x.recordSlack t slack) := by
  refine Booked.setDom (Booked.setTile h.set.set ?_)
  rfl

theorem Booked.noteAgree (h : Booked t s x) : Booked t s (x.noteAgree t) := h.setTile rfl

theorem Booked.observeSpeed {busy : Nat} (h : Booked t s x) : Booked t s (x.observeSpeed t busy) := by
  have hobserved {v low : Nat} : Booked t s (x.setTile t { x.tile t with observed := v, slowObs := low }) := h.setTile rfl
  exact .ite h (.ite hobserved.set.set.noteAgree hobserved)

theorem Booked.observePass {onTime : Bool} (h : Booked t s x) : Booked t s (x.observePass t onTime) := by
  rw [State.observePass]
  split
  · exact .ite (h.of_kept (A := [.fabric]) (w := fun _ => True) (.onFabric (by decide) .rfl')) h
  · exact h

theorem Booked.drainChannel {j : Nat} {block : List Word} (h : Booked t s x) : Booked t s (x.drainChannel t j block).1 := by
  rw [State.drainChannel]
  split
  · exact h
  · exact h.set.count

/-- A fold that keeps the books at each step keeps them. -/
theorem Booked.foldl_fst {α β : Type} {l : List α} {f : State × β → α → State × β} {r : State × β}
    (h : Booked t s r.1)
    (hf : ∀ {r a}, Booked t s r.1 → Booked t s (f r a).1) : Booked t s (l.foldl f r).1 := by
  induction l generalizing r with
  | nil => exact h
  | cons a l ih => exact ih (hf h)

theorem Booked.drainPass (h : Booked t s x) : Booked t s (x.drainPass t) := by
  rw [State.drainPass]
  exact Booked.setTile (Booked.foldl_fst (r := (x, [])) h fun hr => hr.drainChannel) rfl

/-! ### The two ends of a pass -/

/-- A pass on time is done; the rest is its books. -/
theorem State.passOnTime_booked (x : State) (t done : Nat) :
    Booked t (x.setTile t { x.tile t with pass := .done }) (x.passOnTime t done) := by
  have hdone : Booked t (x.setTile t { x.tile t with pass := .done })
      (x.setTile t { x.tile t with pass := .done, onTime := min ((x.tile t).onTime + 1) 64 }) :=
    ⟨by rw [State.tile_setTile, State.tile_setTile]; rfl, rfl, fun _ => rfl⟩
  rw [State.passOnTime]
  exact .drainPass (.observePass (.observeSpeed (.slackLife (.recordSlack (.set (.tileStat hdone))))))

/-- The completion of a pass reaches its time and writes what stands of the pass. -/
def State.passEnd (s : State) (t done : Nat) : State :=
  ((s.reach ((s.dom (s.tileDomain t)).tickAt + done)).recordHu t).snapPass t false

theorem State.passEnd_booked (s : State) (t done : Nat) :
    Booked t (s.reach ((s.dom (s.tileDomain t)).tickAt + done)) (s.passEnd t done) := (Booked.refl ..).recordHu.snapPass

theorem State.passEnd_tile (s : State) (t done : Nat) : (s.passEnd t done).tile t = s.tile t :=
  State.tile_eq_of_tiles (s.reach_tiles ((s.dom (s.tileDomain t)).tickAt + done)) t

theorem State.completePass_onTime (h : (s.tile t).pass = .running) (done : Nat) :
    s.completePass t done = (s.passEnd t (min done (s.dom (s.tileDomain t)).tF)).passOnTime t
      (min done (s.dom (s.tileDomain t)).tF) := by
  rw [State.completePass, if_pos h]
  exact if_pos ((congrArg Tile.pass (s.passEnd_tile t _)).trans h)

theorem State.completePass_late (h : (s.tile t).pass ≠ .running) (done : Nat) :
    s.completePass t done = ((s.passEnd t done).setTile t { (s.passEnd t done).tile t with pass := .missed }).observeSpeed t
      ((s.passEnd t done).busyTime t done) := by
  rw [State.completePass, if_neg h]
  exact if_neg fun e => h ((congrArg Tile.pass (s.passEnd_tile t _)).symm.trans e)

/-- What a completed pass has left: its state of the pass, the time, and every byte. -/
structure Completed (t : Nat) (p : PassState) (n : Nat) (s u : State) : Prop where
  tile : (u.tile t).unmarked = { (s.tile t).unmarked with pass := p }
  now : u.now = max s.now ((s.dom (s.tileDomain t)).tickAt + n)
  byte : ∀ a, u.byte a = s.byte a

theorem Completed.of_booked {p : PassState} {n : Nat} {u : State}
    (h : Booked t ((s.passEnd t n).setTile t { (s.passEnd t n).tile t with pass := p }) u) : Completed t p n s u := by
  have hend := s.passEnd_booked t n
  refine ⟨?_, ?_, fun a => ?_⟩
  · rw [h.tile, State.tile_setTile, s.passEnd_tile]
    rfl
  · rw [h.now, State.setTile_now, hend.now, State.reach_now]
  · rw [h.byte, State.setTile_byte, hend.byte, State.reach_byte]

theorem State.completePass_running (h : (s.tile t).pass = .running) (done : Nat) :
    Completed t .done (min done (s.dom (s.tileDomain t)).tF) s (s.completePass t done) := by
  rw [State.completePass_onTime h]
  exact .of_booked (State.passOnTime_booked ..)

theorem State.completePass_missed (h : (s.tile t).pass ≠ .running) (done : Nat) :
    Completed t .missed done s (s.completePass t done) := by
  rw [State.completePass_late h]
  exact .of_booked (Booked.refl ..).observeSpeed

/-- The state in which WAITB completes its pass. -/
def State.atWaitb (s : State) (t : Nat) : State := s.setTile t { s.tile t with lastPc := (s.tile t).pc }

theorem State.atWaitb_tile (s : State) (t : Nat) : (s.atWaitb t).tile t = { s.tile t with lastPc := (s.tile t).pc } :=
  State.tile_setTile ..

theorem State.atWaitb_pass (s : State) (t : Nat) : ((s.atWaitb t).tile t).pass = (s.tile t).pass := by rw [s.atWaitb_tile]

theorem State.atWaitb_dom (s : State) (t : Nat) :
    (s.atWaitb t).dom ((s.atWaitb t).tileDomain t) = s.dom (s.tileDomain t) := rfl

theorem exec_waitb_completes (ht : t < 256) (he : s.executing t = true) (hr : (s.tile t).rpt = none) (done : Nat) :
    exec (.waitb t done) s = .next ((s.atWaitb t).completePass t done) := by
  rw [exec_waitb, execWaitb, guardWf_of (decide_eq_true ht), whenHolds_of he, hr]
  rfl

/-- What a WAITB has left of its tile. -/
theorem Completed.of_atWaitb {p : PassState} {n : Nat} {u : State} (h : Completed t p n (s.atWaitb t) u) :
    (u.tile t).unmarked = { (s.tile t).unmarked with lastPc := (s.tile t).pc, pass := p } ∧
      u.now = max s.now ((s.dom (s.tileDomain t)).tickAt + n) ∧ ∀ a, u.byte a = s.byte a := by
  refine ⟨?_, ?_, fun a => ?_⟩
  · rw [h.tile, s.atWaitb_tile]
    rfl
  · rw [h.now, s.atWaitb_dom, State.atWaitb, State.setTile_now]
  · rw [h.byte, State.atWaitb, State.setTile_byte]

/-- The program, registers and memories of a tile are none of its marks. -/
theorem Tile.kept_of_unmarked {x y : Tile} {p : PassState}
    (h : y.unmarked = { x.unmarked with lastPc := x.pc, pass := p }) :
    y.pc = x.pc ∧ y.lastPc = x.pc ∧ y.g = x.g ∧ y.p = x.p ∧ y.m = x.m ∧ y.l = x.l ∧ y.acc = x.acc ∧ y.ret = x.ret ∧
      y.rsd = x.rsd ∧ y.imem = x.imem ∧ y.x = x.x ∧ y.y = x.y ∧ y.pass = p := by
  rw [Tile.unmarked, Tile.unmarked, Tile.mk.injEq] at h
  tauto

/-- A tile executes a pass that is on time or missed. -/
theorem State.executing_pass (he : s.executing t = true) :
    (s.tile t).pass = .running ∨ (s.tile t).pass = .missedRunning := by
  rw [State.executing, Bool.and_eq_true, Bool.or_eq_true, beq_iff_eq, beq_iff_eq] at he
  exact he.2

end Sys2Proof.Machine
end

section
open Sys2Proof Sys2Proof.Machine

/-- Settles O27: a pass on time completes at its time, cut at the fence, one missed at its time; both keep the tile's program
and registers. -/
theorem awlWaitb : Obligations.AwlWaitb := by
  intro s t done ht he hr x d
  refine ⟨_, exec_waitb_completes ht he hr done, ?_⟩
  rcases State.executing_pass he with hp | hp
  · obtain ⟨htile, hnow, hbyte⟩ := (State.completePass_running ((s.atWaitb_pass t).trans hp) done).of_atWaitb
    obtain ⟨hpc, hlast, hg, hptr, hm, hl, hacc, hret, hrsd, himem, hx, hy, hpass⟩ := Tile.kept_of_unmarked htile
    exact ⟨hpc, hlast, hg, hptr, hm, hl, hacc, hret, hrsd, himem, hx, hy, fun _ => ⟨hpass, hnow⟩,
      fun h => absurd (hp.symm.trans h) (by decide), hbyte⟩
  · have hlate : ((s.atWaitb t).tile t).pass ≠ .running := fun h =>
      absurd (hp.symm.trans ((s.atWaitb_pass t).symm.trans h)) (by decide)
    obtain ⟨htile, hnow, hbyte⟩ := (State.completePass_missed hlate done).of_atWaitb
    obtain ⟨hpc, hlast, hg, hptr, hm, hl, hacc, hret, hrsd, himem, hx, hy, hpass⟩ := Tile.kept_of_unmarked htile
    exact ⟨hpc, hlast, hg, hptr, hm, hl, hacc, hret, hrsd, himem, hx, hy, fun h => absurd (hp.symm.trans h) (by decide),
      fun _ => ⟨hpass, hnow⟩, hbyte⟩

end

section
/-!
SUPPORT. The margin engine (R79 to R83, R464): what MARGIN_STAT shows is its own, and stage 1 in its steps.
-/

namespace Sys2Proof.Machine

variable {s u : State} {t : Nat}

/-! ### MARGIN_STAT -/

/-- The fields that show where the engine acts. -/
def stageFields : List FKey := [fkey Pg.fabric FABRIC.MARGIN_STAT_TILE 0, fkey Pg.fabric FABRIC.MARGIN_STAT_STAGE 0]

theorem State.setStage_kept (s : State) (t stage : Nat) : Kept [] (fields stageFields) noByte s (s.setStage t stage) :=
  (Kept.rfl'.set (by simp [fields, stageFields])).set (by simp [fields, stageFields])

theorem State.showStage_kept (s : State) : Kept [] (fields stageFields) noByte s s.showStage := by
  rw [State.showStage]
  refine .ite (fun _ => s.setStage_kept ..) fun _ => ?_
  cases (List.range 256).find? fun u => s.actingStage u ≠ 0 with
  | some u => exact s.setStage_kept ..
  | none =>
    cases s.fabric.raise with
    | some r => exact s.setStage_kept ..
    | none => exact s.setStage_kept ..

theorem State.showStage_fabric (s : State) : s.showStage.fabric = s.fabric := s.showStage_kept.areas .fabric (by decide)

theorem State.setEsc_fabric (s : State) (t : Nat) (e : Esc) :
    (s.setEsc t e).fabric = { s.fabric with escs := nset s.fabric.escs t e } := rfl

/-! ### The trigger -/

/-- The escalation of a tile that has none begins. -/
def State.takenUp (s : State) (t : Nat) : State :=
  (s.setEsc t ⟨.settled, false, false, [], none, (s.tile t).missAt⟩).set Pg.fabric FABRIC.TILE_STAT_ESCALATED 1 t

theorem State.escalate_takenUp (h : s.esc t = none) : s.escalate t = (s.takenUp t).fromVoltage t := by
  rw [State.escalate, State.escOf, h]
  rfl

theorem State.takenUp_esc (s : State) (t : Nat) :
    (s.takenUp t).esc t = some ⟨.settled, false, false, [], none, (s.tile t).missAt⟩ := find?_nset_same ..

theorem State.takenUp_avsEnabled (s : State) (t : Nat) : (s.takenUp t).avsEnabled = s.avsEnabled := by
  rw [State.avsEnabled, State.flag_eq, State.takenUp, State.get_set_off _ _ (by decide)]
  rfl

theorem State.takenUp_raiseTarget (s : State) (t : Nat) : (s.takenUp t).raiseTarget = s.raiseTarget := by
  rw [State.raiseTarget, State.takenUp, State.get_set_off _ _ (by decide)]
  rfl

/-- An escalation that begins observes no raise. -/
theorem State.takenUp_raiseObserved (h : s.raiseObserved = false) (t : Nat) : (s.takenUp t).raiseObserved = false := by
  rw [State.raiseObserved, List.any_eq_false] at h ⊢
  intro e he
  rcases SMap.mem_insert he with rfl | he
  · simp
  · exact h e (SMap.mem_erase he).1

/-- The request of stage 1, for which the tile waits. -/
def State.voltageStage (s : State) (t : Nat) : State := (s.startRaise []).awaitStage t .voltage

theorem State.fromVoltage_raises (ha : s.avsEnabled = true) (hr : s.fabric.raise = none) (ho : s.raiseObserved = false)
    (hc : s.atCeiling = false) : s.fromVoltage t = s.voltageStage t := by
  rw [State.fromVoltage, State.tryVoltage, ha, hr, ho, hc]
  rfl

theorem State.startRaise_fabric (s : State) (warned : List Nat) :
    (s.startRaise warned).fabric = { s.fabric with raise := some ⟨s.raiseTarget, 0, false, s.now, false, warned⟩ } :=
  State.event_fabric ..

theorem State.voltageStage_fabric {e : Esc} (h : s.esc t = some e) : (s.voltageStage t).fabric =
    { s.fabric with
      raise := some ⟨s.raiseTarget, 0, false, s.now, false, []⟩
      escs := nset s.fabric.escs t { e with stage := .voltage, observing := false, skip := false, seen := [] } } := by
  have hesc : (s.startRaise []).escOf t = e := by
    rw [State.escOf, State.esc, s.startRaise_fabric]
    exact congrArg (Option.getD · _) h
  have hstage := State.setStage_kept ((s.startRaise []).setEsc t
    { e with stage := .voltage, observing := false, skip := false, seen := [] }) t 1
  rw [State.voltageStage, State.awaitStage, hesc]
  refine (hstage.areas .fabric (by decide)).trans ?_
  rw [State.setEsc_fabric, s.startRaise_fabric]

/-- The fields that a request writes. -/
def raiseFields : List FKey :=
  [fkey Pg.fabric FABRIC.MARGIN_STAT_VCORE_MV 0, fkey Pg.fabric FABRIC.AVS_STEPS 0, fkey Pg.fabric PG.EVT 0]

theorem State.startRaise_kept (s : State) (warned : List Nat) :
    Kept [.fabric, .msix] (fields raiseFields) noByte s (s.startRaise warned) :=
  (((Kept.rfl'.onFabric (by decide)).set (by simp [fields, raiseFields])).count (by simp [fields, raiseFields])).event
    (by decide) (by simp [fields, raiseFields])

theorem State.startRaise_steps (s : State) (warned : List Nat) : (s.startRaise warned).get Pg.fabric FABRIC.AVS_STEPS =
    min (s.get Pg.fabric FABRIC.AVS_STEPS + 1) 0xFFFFFFFF := by
  rw [State.startRaise, State.get_event_off _ _ _ (by decide), State.get_count_same, State.requestVout,
    State.get_set_off _ _ (by decide)]
  rfl

theorem State.awaitStage_kept (s : State) (t : Nat) (stage : EscStage) :
    Kept [.fabric] (fields stageFields) noByte s (s.awaitStage t stage) :=
  (Kept.rfl'.onFabric (by decide)).trans ((State.setStage_kept ..).mono (by decide) (fun _ h => h) fun _ h => h)

/-- What stage 1 shows on the fabric's page. -/
theorem State.voltageStage_shows (s : State) (ht : t < 256) :
    (s.voltageStage t).get Pg.fabric FABRIC.MARGIN_STAT_STAGE = 1 ∧
    (s.voltageStage t).get Pg.fabric FABRIC.MARGIN_STAT_TILE = t ∧
    (s.voltageStage t).evt Pg.fabric 2 = true ∧
    (s.voltageStage t).get Pg.fabric FABRIC.AVS_STEPS = min (s.get Pg.fabric FABRIC.AVS_STEPS + 1) 0xFFFFFFFF := by
  have hwait := (s.startRaise []).awaitStage_kept t .voltage
  refine ⟨State.get_set_same .., ?_, ?_, ?_⟩
  · rw [State.voltageStage, State.awaitStage, State.setStage, State.get_set_lo _ _ (by decide), State.get_set_same]
    exact Nat.mod_eq_of_lt ht
  · exact (State.evt_of_get (hwait.get_off (by decide)) 2).trans
      (State.evt_event_same (State.present_fabric _) 2 (by decide))
  · exact (hwait.get_off (by decide)).trans (s.startRaise_steps [])

theorem State.voltageStage_kept (s : State) (t : Nat) :
    Kept [.fabric, .msix] (fields (raiseFields ++ stageFields)) noByte s (s.voltageStage t) :=
  ((s.startRaise_kept []).mono (fun _ h => h) (fun _ => List.mem_append_left _) fun _ h => h).trans
    ((State.awaitStage_kept ..).mono (by decide) (fun _ => List.mem_append_right _) fun _ h => h)

/-- The tick at which the engine takes the tile up. -/
def State.atTrigger (s : State) (t : Nat) : State := s.reach (s.tickCycle (s.tileDomain t) ((s.dom (s.tileDomain t)).count + 1))

theorem State.atTrigger_kept (s : State) (t : Nat) : Kept [.clock, .time] (fields []) noByte s (s.atTrigger t) :=
  .reach (by decide) (by decide) .rfl'

theorem State.atTrigger_fabric (s : State) (t : Nat) : (s.atTrigger t).fabric = s.fabric :=
  (s.atTrigger_kept t).areas .fabric (by decide)

theorem State.atTrigger_get (s : State) (t p : Nat) (f : Fld) (i : Nat) : (s.atTrigger t).get p f i = s.get p f i :=
  (s.atTrigger_kept t).get List.not_mem_nil

theorem State.atTrigger_raiseTarget (s : State) (t : Nat) : (s.atTrigger t).raiseTarget = s.raiseTarget := by
  rw [State.raiseTarget, s.atTrigger_fabric, s.atTrigger_get]
  rfl

theorem exec_escalationTrigger_raises (ht : t < 256) (he : s.esc t = none)
    (hm : 8 ≤ s.get Pg.fabric FABRIC.TILE_STAT_CONSEC_MISS t) (ha : s.avsEnabled = true) (hr : s.fabric.raise = none)
    (ho : s.raiseObserved = false) (hc : s.atCeiling = false) :
    exec (.escalationTrigger t) s = .next (((s.atTrigger t).takenUp t).voltageStage t) := by
  have hesc : (s.atTrigger t).esc t = none := by
    rw [State.esc, s.atTrigger_fabric]
    exact he
  have hup : ((s.atTrigger t).takenUp t).fromVoltage t = ((s.atTrigger t).takenUp t).voltageStage t := by
    refine State.fromVoltage_raises ?_ ?_ (State.takenUp_raiseObserved ?_ t) ?_
    · rw [State.takenUp_avsEnabled, State.avsEnabled, State.flag_eq, s.atTrigger_get]
      exact ha
    · show (s.atTrigger t).fabric.raise = none
      rw [s.atTrigger_fabric, hr]
    · rw [State.raiseObserved, s.atTrigger_fabric]
      exact ho
    · rw [State.atCeiling, State.takenUp_raiseTarget, s.atTrigger_raiseTarget]
      show decide (s.raiseTarget ≤ (s.atTrigger t).fabric.coreMv) = false
      rw [s.atTrigger_fabric]
      exact hc
  rw [exec_escalationTrigger, execEscalationTrigger, guardWf_of (decide_eq_true ht), he,
    whenHolds_of (by simpa using hm), ← hup, ← State.escalate_takenUp hesc]
  rfl

theorem State.takenUp_kept (s : State) (t : Nat) :
    Kept [.fabric] (fields [fkey Pg.fabric FABRIC.TILE_STAT_ESCALATED t]) noByte s (s.takenUp t) :=
  (Kept.rfl'.onFabric (by decide)).set (by simp [fields])

theorem State.takenUp_escalated (s : State) (t : Nat) :
    (s.takenUp t).flag Pg.fabric FABRIC.TILE_STAT_ESCALATED t = true := by
  rw [State.flag_eq, State.takenUp, State.get_set_same]
  rfl

/-- Every field that the start of stage 1 writes lies on the fabric's page. -/
theorem State.trigger_kept (s : State) (t : Nat) : Kept [.clock, .time, .fabric, .msix] (fun k => k.p = Pg.fabric) noByte s
    (((s.atTrigger t).takenUp t).voltageStage t) := by
  exact (((s.atTrigger_kept t).mono (by decide) (by simp [fields]) fun _ h => h).trans
    ((State.takenUp_kept ..).mono (by decide) (by simp [fields, fkey]) fun _ h => h)).trans
    ((State.voltageStage_kept ..).mono (by decide) (by simp [fields, raiseFields, stageFields, fkey]) fun _ h => h)

/-! ### The request and its answer -/

/-- The regulator's answer to a request in hand. -/
def State.vcoreRead (s : State) (r : Raise) (mv : Nat) : State :=
  ((s.onFabric fun f => { f with raise := some { r with settling := true, ackAt := s.now }, coreMv := r.mv }).set
    Pg.life LIFE.VCORE_READ_VALID 1).set Pg.life LIFE.VCORE_READ_MV mv

theorem exec_avsAck_reads {r : Raise} (hr : s.fabric.raise = some r) (hs : r.settling = false) (mv : Nat) :
    exec (.avsAck mv) s = .next (if r.forReplan then (s.vcoreRead r mv).count Pg.life LIFE.REPLAN_STEPS
      else s.vcoreRead r mv) := by
  rw [exec_avsAck, execAvsAck, hr]
  simp only [hs, Bool.false_eq_true, if_false]
  rfl

theorem State.vcoreRead_shows (s : State) (r : Raise) (mv : Nat) : ∀ u,
    u = (if r.forReplan then (s.vcoreRead r mv).count Pg.life LIFE.REPLAN_STEPS else s.vcoreRead r mv) →
    u.fabric = { s.fabric with raise := some { r with settling := true, ackAt := s.now }, coreMv := r.mv } ∧
      u.get Pg.life LIFE.VCORE_READ_MV = mv % 2 ^ LIFE.VCORE_READ_MV.w ∧ u.flag Pg.life LIFE.VCORE_READ_VALID = true ∧
      Kept [.fabric] (fields [fkey Pg.life LIFE.VCORE_READ_MV 0, fkey Pg.life LIFE.VCORE_READ_VALID 0,
        fkey Pg.life LIFE.REPLAN_STEPS 0]) noByte s u := by
  intro u hu
  have hsteps : Kept [] (fields [fkey Pg.life LIFE.REPLAN_STEPS 0]) noByte (s.vcoreRead r mv) u := by
    rw [hu]
    exact .ite (fun _ => .count (by simp [fields]) .rfl') fun _ => .rfl'
  refine ⟨hsteps.areas .fabric (by decide), ?_, ?_, ?_⟩
  · rw [hsteps.get_off (by decide)]
    exact State.get_set_same ..
  · rw [State.flag_eq, hsteps.get_off (by decide), State.vcoreRead, State.get_set_lo _ _ (by decide), State.get_set_same]
    rfl
  · refine Kept.trans (.set (by simp [fields]) (.set (by simp [fields]) (.onFabric (by decide) .rfl')))
      (hsteps.mono (by decide) ?_ fun _ h => h)
    intro k hk
    simp only [fields, List.mem_cons, List.not_mem_nil, or_false] at hk ⊢
    exact .inr (.inr hk)

/-! ### The settling wait -/

/-- The end of a settling wait for which no tile waits. -/
def State.settled (s : State) (r : Raise) : State :=
  let y := (s.reach (r.ackAt + 156250)).onFabric fun f => { f with raise := none }
  if r.forReplan then { y with life := { y.life with settledAt := y.now } } else y

theorem exec_avsSettleDone_settles {r : Raise} (hr : s.fabric.raise = some r) (hs : r.settling = true) (hw : r.warned = [])
    (ha : s.awaiting .voltage = []) : exec .avsSettleDone s = .next (s.settled r).showStage := by
  have hawait : (s.reach (r.ackAt + cyclesUs 250)).awaiting .voltage = [] := by
    rw [State.awaiting, State.reach_fabric]
    exact ha
  rw [exec_avsSettleDone, execAvsSettleDone, hr]
  simp only [hs, hw, hawait, Bool.not_true, Bool.false_eq_true, if_false]
  exact congrArg _ (ite_self _)

theorem State.settled_fabric (s : State) (r : Raise) : (s.settled r).fabric = { s.fabric with raise := none } := by
  rw [State.settled]
  split
  · show ({ (s.reach _).fabric with raise := none } : Fabric) = _
    rw [State.reach_fabric]
  · show ({ (s.reach _).fabric with raise := none } : Fabric) = _
    rw [State.reach_fabric]

theorem State.settled_now (s : State) (r : Raise) : (s.settled r).now = max s.now (r.ackAt + 156250) := by
  rw [State.settled]
  split
  · exact State.reach_now ..
  · exact State.reach_now ..

theorem State.settled_life (s : State) (r : Raise) :
    (s.settled r).life = if r.forReplan then { s.life with settledAt := (s.settled r).now } else s.life := by
  by_cases hr : r.forReplan = true
  · rw [State.settled, if_pos hr, if_pos hr]
    exact congrArg (fun l : Life => { l with settledAt := (s.reach (r.ackAt + 156250)).now })
      (s.reach_life (r.ackAt + 156250))
  · rw [State.settled, if_neg hr, if_neg hr]
    exact s.reach_life (r.ackAt + 156250)

theorem State.settled_kept (s : State) (r : Raise) :
    Kept [.clock, .time, .fabric, .life] (fields stageFields) noByte s (s.settled r) := by
  have hreach : Kept [.clock, .time, .fabric, .life] (fields stageFields) noByte s
      ((s.reach (r.ackAt + 156250)).onFabric fun f => { f with raise := none }) :=
    .onFabric (by decide) (.reach (by decide) (by decide) .rfl')
  exact .ite (fun _ => hreach.with_life (by decide)) fun _ => hreach

/-! ### A request without an answer -/

/-- An acknowledgement fails to come within 1 ms. -/
def State.unanswered (s : State) (r : Raise) : State :=
  ((s.reach (r.ackAt + 625000)).count Pg.life LIFE.AVS_NOACK).event Pg.life 6

/-- The request goes out once more. -/
def State.sentAgain (s : State) (r : Raise) : State :=
  (s.unanswered r).onFabric fun f => { f with
    raise := some { r with tries := r.tries + 1, ackAt := (s.unanswered r).now } }

theorem exec_avsNoack_sends {r : Raise} (hr : s.fabric.raise = some r) (hs : r.settling = false) (ht : r.tries < 2) :
    exec .avsNoack s = .next (s.sentAgain r) := by
  rw [exec_avsNoack, execAvsNoack, hr]
  exact congrArg _ ((if_neg (by rw [hs]; exact Bool.false_ne_true)).trans (if_pos ht))

theorem State.unanswered_fabric (s : State) (r : Raise) : (s.unanswered r).fabric = s.fabric := by
  rw [State.unanswered, State.event_fabric, State.count_fabric, State.reach_fabric]

theorem State.sentAgain_now (s : State) (r : Raise) : (s.sentAgain r).now = max s.now (r.ackAt + 625000) := by
  rw [State.sentAgain, State.onFabric_now, State.unanswered, State.event_now, State.count_now, State.reach_now]

theorem State.sentAgain_shows (s : State) (r : Raise) :
    (s.sentAgain r).fabric = { s.fabric with raise := some { r with tries := r.tries + 1, ackAt := (s.sentAgain r).now } } ∧
    (s.sentAgain r).get Pg.life LIFE.AVS_NOACK = min (s.get Pg.life LIFE.AVS_NOACK + 1) 0xFFFFFFFF ∧
    (s.sentAgain r).evt Pg.life 6 = true ∧
    Kept [.clock, .time, .fabric, .msix] (fields [fkey Pg.life LIFE.AVS_NOACK 0, fkey Pg.life PG.EVT 0]) noByte s
      (s.sentAgain r) := by
  refine ⟨?_, ?_, ?_, ?_⟩
  · rw [State.sentAgain, State.onFabric_fabric, s.unanswered_fabric, State.onFabric_now]
  · refine (State.get_event_off _ _ _ (by decide)).trans ?_
    rw [State.get_count_same, State.reach_get]
    rfl
  · exact State.evt_event_same (State.present_life _) 6 (by decide)
  · exact .onFabric (by decide) (.event (by decide) (by simp [fields]) (.count (by simp [fields])
      (.reach (by decide) (by decide) .rfl')))

/-! ### The end of a stage and of an escalation -/

/-- A stage whose observed passes were all on time settles. -/
theorem exec_stageJudged_settles (ht : t < 256) {e : Esc} (he : s.esc t = some e) (ho : e.observing = true)
    (hn : 8 ≤ e.seen.length) (hseen : e.seen.all (· == true) = true) :
    exec (.stageJudged t) s = .next ((s.setEsc t { e with
      stage := .settled, observing := false, prefer := if e.stage == .voltage then none else some e.stage }).showStage) := by
  rw [exec_stageJudged, execStageJudged, guardWf_of (decide_eq_true ht), he]
  simp only [ho, hn, decide_true, Bool.and_true, if_true, State.judge, hseen]

theorem State.showStage_esc (s : State) (t : Nat) : s.showStage.esc t = s.esc t := by
  rw [State.esc, s.showStage_fabric]
  rfl

/-- The escalation of the tile is over. -/
def State.deescalated (s : State) (t : Nat) : State :=
  (s.onFabric fun f => { f with escs := SMap.erase f.escs t }).set Pg.fabric FABRIC.TILE_STAT_ESCALATED 0 t

theorem exec_escalationEnd_ends (ht : t < 256) {e : Esc} (he : s.esc t = some e) (hn : e.missAt + 6250000000 ≤ s.now) :
    exec (.escalationEnd t) s = .next (s.deescalated t).showStage := by
  rw [exec_escalationEnd, execEscalationEnd, guardWf_of (decide_eq_true ht), he]
  exact congrArg _ (if_neg (Nat.not_lt_of_le hn))

theorem State.deescalated_flag (s : State) (t : Nat) :
    (s.deescalated t).flag Pg.fabric FABRIC.TILE_STAT_ESCALATED t = false := by
  rw [State.flag_eq, State.deescalated, State.get_set_same]
  rfl

theorem State.deescalated_kept (s : State) (t : Nat) :
    Kept [.fabric] (fields (fkey Pg.fabric FABRIC.TILE_STAT_ESCALATED t :: stageFields)) noByte s (s.deescalated t) :=
  .set (List.mem_cons_self ..) (.onFabric (by decide) .rfl')

/-! ### The warning -/

/-- The warning sets its event and starts the count of passes anew. -/
def State.slackWarned (s : State) (t : Nat) : State :=
  (s.event Pg.fabric 1).setTile t { s.tile t with lowSlack := 0 }

theorem exec_slackWarn_warns (ht : t < 256) (hw : s.get Pg.fabric FABRIC.MARGIN_CTRL_SLACK_WARN ≠ 0)
    (hl : 1024 ≤ (s.tile t).lowSlack) (hr : s.fabric.raise = none) (ha : s.avsEnabled = false) :
    exec (.slackWarn t) s = .next (s.slackWarned t) := by
  have hraise : (s.slackWarned t).fabric.raise = none := (congrArg Fabric.raise (State.event_fabric ..)).trans hr
  have havs : (s.slackWarned t).avsEnabled = false := by
    rw [State.avsEnabled, State.slackWarned, State.setTile_flag, State.flag_event_off _ _ _ (by decide)]
    exact ha
  rw [exec_slackWarn, execSlackWarn, guardWf_of (decide_eq_true ht),
    whenHolds_of (by rw [Bool.and_eq_true]; exact ⟨decide_eq_true hw, decide_eq_true hl⟩)]
  show Host.Outcome.next ((s.slackWarned t).warnRaise t) = _
  rw [State.warnRaise, hraise]
  simp only [havs, Bool.not_false, if_true]

end Sys2Proof.Machine
end

section
open Sys2Proof Sys2Proof.Machine

/-- Settles O39: event by event, what the margin engine does under the conditions of each. -/
theorem escalations : Obligations.Escalations := by
  intro s t ht
  refine ⟨?_, fun r mv hr hs => ⟨_, exec_avsAck_reads hr hs mv, s.vcoreRead_shows r mv _ rfl⟩, ?_,
    fun r hr hs htries => ⟨_, exec_avsNoack_sends hr hs htries, s.sentAgain_now r, s.sentAgain_shows r⟩, ?_, ?_, ?_⟩
  · intro he hm ha hr ho hc
    have hfabric := State.voltageStage_fabric ((s.atTrigger t).takenUp_esc t)
    obtain ⟨hstage, htile, hevt, hsteps⟩ := ((s.atTrigger t).takenUp t).voltageStage_shows ht
    have hkept := ((s.atTrigger t).takenUp t).voltageStage_kept t
    have hnow : (((s.atTrigger t).takenUp t).voltageStage t).now = (s.atTrigger t).now :=
      (hkept.areas .clock (by decide)).trans (((s.atTrigger t).takenUp_kept t).areas .clock (by decide))
    refine ⟨_, exec_escalationTrigger_raises ht he hm ha hr ho hc, ?_, ?_, hnow.trans (State.reach_now ..), ?_, hstage, htile,
      hevt, ?_, s.trigger_kept t⟩
    · rw [hfabric, hnow]
      show some (Raise.mk ((s.atTrigger t).takenUp t).raiseTarget 0 false (s.atTrigger t).now false []) = _
      rw [State.takenUp_raiseTarget, s.atTrigger_raiseTarget]
    · rw [State.esc, hfabric]
      exact (find?_nset_same ..).trans (by rw [State.tile_eq_of_tiles ((s.atTrigger_kept t).areas .tiles (by decide))])
    · rw [State.flag_eq, hkept.get_off (by decide)]
      exact State.takenUp_escalated ..
    · rw [hsteps, ((s.atTrigger t).takenUp_kept t).get_off (by simp [fkey]; decide), s.atTrigger_get]
  · intro r hr hs hw ha
    have hshow := (s.settled r).showStage_kept
    have hnow : (s.settled r).showStage.now = (s.settled r).now := hshow.areas .clock (by decide)
    refine ⟨_, exec_avsSettleDone_settles hr hs hw ha, ?_, ?_, ?_, ?_⟩
    · rw [State.showStage_fabric, s.settled_fabric]
    · rw [hnow, s.settled_now]
    · rw [hnow]
      exact (hshow.areas .life (by decide)).trans (s.settled_life r)
    · exact (s.settled_kept r).trans (hshow.mono (by decide) (fun _ h => h) fun _ h => h)
  · intro e he ho hn hseen
    refine ⟨_, exec_stageJudged_settles ht he ho hn hseen, ?_, ?_⟩
    · rw [State.showStage_esc]
      exact find?_nset_same ..
    · exact (Kept.onFabric (by decide) .rfl').trans ((State.showStage_kept _).mono (by decide) (fun _ h => h) fun _ h => h)
  · intro e he hn
    have hshow := (s.deescalated t).showStage_kept
    refine ⟨_, exec_escalationEnd_ends ht he hn, ?_, ?_, ?_⟩
    · rw [State.showStage_esc]
      exact SMap.find?_erase_same ..
    · rw [State.flag_eq, hshow.get_off (by decide)]
      exact s.deescalated_flag t
    · exact (s.deescalated_kept t).trans (hshow.mono (by decide) (fun _ => List.mem_cons_of_mem _) fun _ h => h)
  · intro hw hl hr ha
    refine ⟨_, exec_slackWarn_warns ht hw hl hr ha, ?_, State.tile_setTile .., ?_⟩
    · exact State.evt_event_same (State.present_fabric _) 1 (by decide)
    · exact .setTile (by decide) (.event (by decide) (by simp [fields]) .rfl')

end

section
/-!
SUPPORT. Plan swaps (R77, R179, R511): the load of a WARM tile, a swap that is dropped, and the old side of a crossfade.
-/

namespace Sys2Proof.Machine

variable {s : State} {t : Nat}

/-! ### A WARM tile takes its image -/

/-- The fields that show a tile's windows and its entry. -/
def windowFields (t : Nat) : List FKey :=
  [fkey (Pg.awl t) AWL.WIN_CFG_WIN_HALF 0, fkey (Pg.awl t) AWL.WIN_CH_NIN 0, fkey (Pg.awl t) AWL.WIN_CH_NOUT 0,
    fkey (Pg.awl t) AWL.ENTRY_ADDR 0]

theorem State.setWindows_kept (s : State) (x : PlanTile) :
    Kept [] (fields (windowFields x.tile)) noByte s (s.setWindows x) := by
  have hw : ∀ k ∈ windowFields x.tile, fields (windowFields x.tile) k := fun _ h => h
  simp only [windowFields, List.forall_mem_cons] at hw
  obtain ⟨hhalf, hnin, hnout, hentry, -⟩ := hw
  exact (((Kept.rfl'.set hhalf).set hnin).set hnout).set hentry

theorem State.setWindows_nin (s : State) (x : PlanTile) :
    (s.setWindows x).get (Pg.awl x.tile) AWL.WIN_CH_NIN = x.inputs.length % 2 ^ AWL.WIN_CH_NIN.w := by
  rw [State.setWindows, State.get_set_off _ _ (by decide), State.get_set_lo _ _ (by decide)]
  exact State.get_set_same ..

/-- The tile with its image and its presets, in shadow. -/
def State.warmLoaded (s : State) (x : PlanTile) : State :=
  (s.loadTile x).setTile x.tile
    { ((s.loadTile x).tile x.tile).preset x with shadow := true, pass := .idle, rpt := none }

theorem State.loadTile_tile (s : State) (x : PlanTile) : (s.loadTile x).tile x.tile = (s.tile x.tile).load x :=
  State.tile_setTile ..

theorem State.warmLoaded_tile (s : State) (x : PlanTile) : (s.warmLoaded x).tile x.tile =
    { ((s.tile x.tile).load x).preset x with shadow := true, pass := .idle, rpt := none } := by
  rw [State.warmLoaded, State.tile_setTile, s.loadTile_tile]

theorem State.warmLoaded_tile_ne (s : State) (x : PlanTile) {j : Nat} (h : j ≠ x.tile) :
    (s.warmLoaded x).tile j = s.tile j :=
  (State.tile_setTile_ne _ _ h).trans (State.tile_setTile_ne _ _ h)

theorem State.warmLoaded_kept (s : State) (x : PlanTile) :
    Kept [.tiles] (fields [fkey (Pg.awl x.tile) AWL.PSTAT_RAMP_BUSY 0]) noByte s (s.warmLoaded x) :=
  .setTile (by decide) (.set (by simp [fields]) (.setTile (by decide) .rfl'))

/-- The tile of a place of the plan joins the shadow. -/
def State.warmJoins (s : State) (x : PlanTile) (w : Swap) : State :=
  ((s.warmLoaded x).setWindows x).onFabric fun f => { f with
    place := nset f.place x.tile x, swap := some { w with warm := w.warm ++ [(x.tile, 0)] } }

theorem exec_warmTileLoaded_joins {x : PlanTile} {w : Swap} {p : Plan} (ht : x.tile < 256) (hw : s.fabric.swap = some w)
    (hp : s.swapPlan = some p) (hx : ((s.tilesIn p .warm).find? fun y => y.tile == x.tile) = some x)
    (hn : (w.warm.any fun e => e.1 == x.tile) = false) :
    exec (.warmTileLoaded x.tile) s = .next (s.warmJoins x w) := by
  rw [exec_warmTileLoaded, execWarmTileLoaded, guardWf_of (decide_eq_true ht), hw, hp]
  simp only [hx, hn, Bool.false_eq_true, if_false]
  rfl

theorem State.warmJoins_fabric (s : State) (x : PlanTile) (w : Swap) : (s.warmJoins x w).fabric =
    { s.fabric with
      place := nset s.fabric.place x.tile x, swap := some { w with warm := w.warm ++ [(x.tile, 0)] } } := by
  have h : ((s.warmLoaded x).setWindows x).fabric = s.fabric :=
    ((State.setWindows_kept ..).areas .fabric (by decide)).trans ((s.warmLoaded_kept x).areas .fabric (by decide))
  rw [State.warmJoins, State.onFabric_fabric, h]

theorem State.warmJoins_tiles (s : State) (x : PlanTile) (w : Swap) : (s.warmJoins x w).tiles = (s.warmLoaded x).tiles :=
  ((s.warmLoaded x).setWindows_kept x).areas .tiles (by decide)

theorem State.warmJoins_kept (s : State) (x : PlanTile) (w : Swap) : Kept [.tiles, .fabric]
    (fields (fkey (Pg.awl x.tile) AWL.PSTAT_RAMP_BUSY 0 :: windowFields x.tile)) noByte s (s.warmJoins x w) := by
  have hload := (s.warmLoaded_kept x).mono (B := [.tiles, .fabric])
    (v := fields (fkey (Pg.awl x.tile) AWL.PSTAT_RAMP_BUSY 0 :: windowFields x.tile)) (by decide)
    (fun k hk => List.mem_cons.mpr (.inl (List.mem_singleton.mp hk))) fun _ h => h
  exact .onFabric (by decide) (hload.trans ((State.setWindows_kept ..).mono (by decide) (fun _ => List.mem_cons_of_mem _)
    fun _ h => h))

/-! ### A swap that is dropped -/

theorem State.unconfigureTile_kept (s : State) (t : Nat) :
    Kept [] (fun k => k = fkey Pg.fabric FABRIC.TILE_COST_HU t ∨ k ∈ windowFields t) noByte s (s.unconfigureTile t) := by
  have hw : ∀ k ∈ windowFields t, (fun k => k = fkey Pg.fabric FABRIC.TILE_COST_HU t ∨ k ∈ windowFields t) k :=
    fun _ h => .inr h
  simp only [windowFields, List.forall_mem_cons] at hw
  obtain ⟨hhalf, hnin, hnout, hentry, -⟩ := hw
  exact ((((Kept.rfl'.set hhalf).set hnin).set hnout).set hentry).set (.inl rfl)

/-- The fields that a dropped swap may write: those of tiles' work, SWAP_ARMED and SWAP_STAT. -/
def dropped (k : FKey) : Prop :=
  k.off ∈ [AWL.WIN_CFG_WIN_HALF.off, AWL.WIN_CH_NIN.off, AWL.WIN_CH_NOUT.off, AWL.ENTRY_ADDR.off, FABRIC.TILE_COST_HU.off,
      MIX.SWAP_STAT_L.off] ∨
    k = fkey Pg.fabric FABRIC.PLAN_STAT_SWAP_ARMED 0

theorem dropped_of_work {k : FKey} (h : k = fkey Pg.fabric FABRIC.TILE_COST_HU t ∨ k ∈ windowFields t) : dropped k := by
  simp only [windowFields, List.mem_cons, List.not_mem_nil, or_false] at h
  rcases h with rfl | rfl | rfl | rfl | rfl <;> exact .inl (by simp [fkey])

theorem State.dropSwap_kept (s : State) : Kept [.tiles, .fabric, .mix] dropped noByte s s.dropSwap := by
  rw [State.dropSwap]
  split
  · refine .set (.inl (by decide)) (.set (.inl (by decide)) (.set (.inr rfl) (.onFabric (by decide) (.onMix (by decide) ?_))))
    refine .each _ _ (fun u x _ => .ite (fun _ => ?_) fun _ => .rfl') s
    exact (Kept.onFabric (by decide) (.setTile (by decide) .rfl')).trans
      ((State.unconfigureTile_kept ..).mono (by decide) (fun _ => dropped_of_work) fun _ h => h)
  · exact .set (.inr rfl) (.onFabric (by decide) .rfl')

theorem State.dropSwap_swap (s : State) : s.dropSwap.fabric.swap = none := by
  rw [State.dropSwap]
  split
  · rfl
  · rfl

theorem State.dropSwap_armed (s : State) : s.dropSwap.flag Pg.fabric FABRIC.PLAN_STAT_SWAP_ARMED = false := by
  rw [State.dropSwap, State.flag_eq]
  split
  · rw [State.get_set_off _ _ (by decide), State.get_set_off _ _ (by decide), State.get_set_same]
    rfl
  · rw [State.get_set_same]
    rfl

/-- A dropped swap leaves ADMITTED of the slots. -/
theorem State.dropSwap_admitted (s : State) (k : Nat) : s.dropSwap.admitted k = s.admitted k := by
  refine s.dropSwap_kept.flag ?_
  have hfree : ∀ f ∈ [FABRIC.PLAN_STAT_SLOT0_ADMITTED, FABRIC.PLAN_STAT_SLOT1_ADMITTED], ¬ dropped (fkey Pg.fabric f 0) := by
    intro f hf
    simp only [List.mem_cons, List.not_mem_nil, or_false] at hf
    rintro (h | h)
    · rcases hf with rfl | rfl <;> exact absurd h (by decide)
    · rcases hf with rfl | rfl <;> exact absurd h (by decide)
  rw [admittedFld]
  split
  · exact hfree _ (by simp)
  · exact hfree _ (by simp)

/-- A swap that fails its last check. -/
def State.swapFails (s : State) (i : Nat) (c : Commit) (k : Nat) (f : AdmitFail) : State :=
  ((((s.setAdmitted k false).recordFailure f).dropSwap).commitDropped i c Cr.admitFail).swapCancelled

theorem exec_swapAdmitCheck_stays {i : Nat} {c : Commit} {w : Swap} {p : Plan} (ha : s.armed Ck.swap = some (i, c))
    (hw : s.fabric.swap = some w) (hp : s.swapPlan = some p) (hb : c.begun = false)
    (hf : (s.untilTime0 (c.at_ - 20000000)).admitFailure p = none) : exec .swapAdmitCheck s =
      .next ((s.untilTime0 (c.at_ - 20000000)).setSlot w.slot (some ((s.untilTime0 (c.at_ - 20000000)).strike p))) := by
  rw [exec_swapAdmitCheck, execSwapAdmitCheck, ha, hw, hp]
  simp only [hb, hf, Bool.false_eq_true, if_false]

theorem exec_swapAdmitCheck_fails {i : Nat} {c : Commit} {w : Swap} {p : Plan} (ha : s.armed Ck.swap = some (i, c))
    (hw : s.fabric.swap = some w) (hp : s.swapPlan = some p) (hb : c.begun = false) {f : AdmitFail}
    (hf : (s.untilTime0 (c.at_ - 20000000)).admitFailure p = some f) :
    exec .swapAdmitCheck s = .next ((s.untilTime0 (c.at_ - 20000000)).swapFails i c w.slot f) := by
  rw [exec_swapAdmitCheck, execSwapAdmitCheck, ha, hw, hp]
  simp only [hb, hf, Bool.false_eq_true, if_false]
  rfl

theorem not_reactive_fabric : ¬ reactive Pg.fabric := fun h => h.elim (by decide) fun h => absurd h.1 (by decide)

theorem not_reactive_mix : ¬ reactive Pg.mix := fun h => h.elim (by decide) fun h => absurd h.1 (by decide)

/-- SWAP_CANCELLED and its source leave every field but event bits of a page that does not react. -/
theorem State.swapCancelled_get (s : State) {p : Nat} (hp : ¬ reactive p) {f : Fld} (hf : PG.EVT.off ≠ f.off) (j : Nat) :
    s.swapCancelled.get p f j = s.get p f j := by
  rw [State.swapCancelled, State.get_raise _ _ _ hp hf.symm, State.get_event_off _ _ _ hf]

/-- A commit dropped leaves the fabric's page. -/
theorem State.commitDropped_get (s : State) (i : Nat) (c : Commit) (k : Nat) {f : Fld} (hf : PG.EVT.off ≠ f.off)
    (j : Nat) : (s.commitDropped i c k).get Pg.fabric f j = s.get Pg.fabric f j := by
  rw [State.commitDropped, State.commitFails, State.get_raise _ _ _ not_reactive_fabric hf.symm, State.get_event_off _ _ _ hf,
    State.commitResult, State.get_set_page _ _ (by decide), State.get_set_page _ _ (by decide),
    State.get_set_page _ _ (by decide)]
  rfl

/-- A page's event bits under an event of another page. -/
theorem State.evt_event_page (s : State) {p q : Nat} (h : p ≠ q) (b n : Nat) : (s.event p b).evt q n = s.evt q n :=
  State.evt_of_get (State.get_events_ne _ _ _ (fkey_page h)) n

theorem State.swapFails_shows (s : State) (i : Nat) (c : Commit) (k : Nat) (f : AdmitFail) :
    (s.swapFails i c k f).admitted k = false ∧ (s.swapFails i c k f).fabric.swap = none ∧
    SMap.find? (s.swapFails i c k f).mix.commits i = none ∧
    (s.swapFails i c k f).flag Pg.fabric FABRIC.PLAN_STAT_SWAP_ARMED = false ∧
    (s.swapFails i c k f).get Pg.mix MIX.COMMIT_RESULT_RESULT = Cr.admitFail ∧
    (s.swapFails i c k f).evt Pg.fabric 8 = true ∧ (s.swapFails i c k f).evt Pg.mix 2 = true ∧
    (s.swapFails i c k f).now = s.now := by
  obtain ⟨v, hv⟩ : ∃ v, v = ((s.setAdmitted k false).recordFailure f) := ⟨_, rfl⟩
  have hadm : v.admitted k = false := hv ▸ (s.recordFailure_shows k f).1
  have hvnow : v.now = s.now := by
    have h : Kept [] (fun _ => True) noByte s v := by
      rw [hv]
      exact .recordFailure (fun _ _ => trivial) f (.setAdmitted trivial false .rfl')
    exact h.areas .clock (by decide)
  obtain ⟨hmix, hresult, hevt, -, -, hnow⟩ := v.dropSwap.commitDropped_shows i c (k := Cr.admitFail) (by decide)
  have hflag {g : Fld} (hg : PG.EVT.off ≠ g.off) :
      (s.swapFails i c k f).flag Pg.fabric g = v.dropSwap.flag Pg.fabric g := by
    rw [State.flag_eq, State.swapFails, ← hv, State.swapCancelled_get _ not_reactive_fabric hg,
      State.commitDropped_get _ _ _ _ hg]
    rfl
  rw [State.swapFails, ← hv] at *
  refine ⟨?_, ?_, ?_, ?_, ?_, ?_, ?_, ?_⟩
  · refine (hflag (by rw [admittedFld_off]; decide)).trans ((v.dropSwap_admitted k).trans hadm)
  · rw [State.swapCancelled, State.raise_fabric, State.event_fabric, State.commitDropped, State.commitFails, State.raise_fabric,
      State.event_fabric]
    exact v.dropSwap_swap
  · rw [State.swapCancelled, State.raise_mix, State.event_mix, hmix]
    exact SMap.find?_erase_same ..
  · exact (hflag (by decide)).trans v.dropSwap_armed
  · rw [State.swapCancelled_get _ not_reactive_mix (by decide)]
    exact hresult
  · exact State.raise_noted _ _ _ not_reactive_fabric 8 (by decide)
      (State.evt_event_same (State.present_fabric _) 8 (by decide))
  · refine State.raise_noted _ _ _ not_reactive_mix 2 (by decide) ?_
    exact (State.evt_event_page _ (by decide) 8 2).trans hevt
  · rw [State.swapCancelled, State.raise_now, State.event_now, hnow]
    exact (v.dropSwap_kept.areas .clock (by decide)).trans hvnow

/-! ### The end of a crossfade -/

/-- The pass of the tile stops, and the tile has no work. -/
def State.idleTile (s : State) (t : Nat) : State :=
  (s.setTile t { s.tile t with pass := .idle, rpt := none }).unconfigureTile t

/-- A tile of the old side stands idle: no cost, no windows. -/
structure Idled (t : Nat) (s : State) : Prop where
  pass : (s.tile t).pass = .idle
  cost : s.cost t = 0
  nin : s.get (Pg.awl t) AWL.WIN_CH_NIN = 0
  nout : s.get (Pg.awl t) AWL.WIN_CH_NOUT = 0

theorem State.idleTile_tile (s : State) (t : Nat) :
    (s.idleTile t).tile t = { s.tile t with pass := .idle, rpt := none } :=
  (State.tile_eq_of_tiles ((State.unconfigureTile_kept ..).areas .tiles (by decide)) t).trans (State.tile_setTile ..)

theorem State.idleTile_tile_ne (s : State) {t j : Nat} (h : j ≠ t) : (s.idleTile t).tile j = s.tile j :=
  (State.tile_eq_of_tiles ((State.unconfigureTile_kept ..).areas .tiles (by decide)) j).trans (State.tile_setTile_ne _ _ h)

theorem State.idleTile_cost_ne (s : State) {t j : Nat} (h : j ≠ t) : (s.idleTile t).cost j = s.cost j := by
  rw [State.cost, State.idleTile, State.unconfigureTile, State.get_set_inst _ _ (Ne.symm h), State.get_set_off _ _ (by decide),
    State.get_set_off _ _ (by decide), State.get_set_off _ _ (by decide), State.get_set_off _ _ (by decide), State.setTile_get]
  rfl

theorem idled_idleTile (s : State) (t : Nat) : Idled t (s.idleTile t) := by
  refine ⟨congrArg Tile.pass (s.idleTile_tile t), ?_, ?_, ?_⟩
  · exact (State.get_set_same ..).trans (Nat.zero_mod _)
  · rw [State.idleTile, State.unconfigureTile, State.get_set_off _ _ (by decide), State.get_set_off _ _ (by decide),
      State.get_set_lo _ _ (by decide), State.get_set_same, Nat.zero_mod]
  · rw [State.idleTile, State.unconfigureTile, State.get_set_off _ _ (by decide), State.get_set_off _ _ (by decide),
      State.get_set_same, Nat.zero_mod]

/-- A tile that stands stopped stays so as another stops. -/
theorem Idled.idleTile {j : Nat} (h : Idled j s) (t : Nat) : Idled j (s.idleTile t) := by
  by_cases hj : j = t
  · exact hj ▸ idled_idleTile s t
  · have hpage : Pg.awl t ≠ Pg.awl j := fun e => hj (Nat.add_left_cancel e).symm
    refine ⟨by rw [s.idleTile_tile_ne hj, h.pass], by rw [s.idleTile_cost_ne hj, h.cost], ?_, ?_⟩
    · rw [State.idleTile, State.unconfigureTile, State.get_set_off _ _ (by decide), State.get_set_off _ _ (by decide),
        State.get_set_page _ _ hpage, State.get_set_page _ _ hpage, State.get_set_page _ _ hpage]
      exact h.nin
    · rw [State.idleTile, State.unconfigureTile, State.get_set_off _ _ (by decide), State.get_set_off _ _ (by decide),
        State.get_set_page _ _ hpage, State.get_set_page _ _ hpage, State.get_set_page _ _ hpage]
      exact h.nout

theorem State.each_cons {α : Type} (s : State) (a : α) (l : List α) (f : State → α → State) :
    s.each (a :: l) f = (f s a).each l f := rfl

theorem idled_each (l : List Nat) (s : State) {t : Nat} (ht : t ∈ l) : Idled t (s.each l State.idleTile) := by
  induction l generalizing s with
  | nil => exact absurd ht List.not_mem_nil
  | cons a l ih =>
    rw [State.each_cons]
    by_cases hl : t ∈ l
    · exact ih (s.idleTile a) hl
    · obtain rfl : t = a := (List.mem_cons.mp ht).resolve_right hl
      exact State.each_induction (Idled t) l State.idleTile (fun _ b h => h.idleTile b) _ (idled_idleTile s t)

theorem State.each_idleTile_others (l : List Nat) (s : State) {t : Nat} (ht : t ∉ l) :
    (s.each l State.idleTile).tile t = s.tile t ∧ (s.each l State.idleTile).cost t = s.cost t := by
  induction l generalizing s with
  | nil => exact ⟨rfl, rfl⟩
  | cons a l ih =>
    rw [State.each_cons]
    obtain ⟨ha, hl⟩ := not_or.mp (mt List.mem_cons.mpr ht)
    obtain ⟨htile, hcost⟩ := ih (s.idleTile a) hl
    exact ⟨htile.trans (s.idleTile_tile_ne ha), hcost.trans (s.idleTile_cost_ne ha)⟩

/-- What a tile that stops may write. -/
theorem State.each_idleTile_kept (l : List Nat) (s : State) :
    Kept [.tiles] (fun k => k.p = Pg.fabric ∧ k.off = FABRIC.TILE_COST_HU.off ∨ ∃ t ∈ l, k.p = Pg.awl t) noByte s
      (s.each l State.idleTile) := by
  refine .each _ _ (fun u t ht => ?_) s
  refine (Kept.setTile (by decide) .rfl').trans ((State.unconfigureTile_kept ..).mono (by decide) (fun k hk => ?_) fun _ h => h)
  simp only [windowFields, List.mem_cons, List.not_mem_nil, or_false] at hk
  rcases hk with rfl | hk
  · exact .inl ⟨rfl, rfl⟩
  · refine .inr ⟨t, ht, ?_⟩
    rcases hk with rfl | rfl | rfl | rfl <;> rfl

/-- The sources of routes. -/
def ofRoutes (k : FKey) : Prop := k.p = Pg.mix ∧ k.off = MIX.ROUTE_DATA_SOURCE.off

theorem State.swapRoute_kept (s : State) (q src : Nat) : Kept [.mix] ofRoutes noByte s (s.swapRoute q src true) :=
  .set ⟨rfl, rfl⟩ (.onMix (by decide) .rfl')

/-- A change that waits starts only where a crossfade may, so that it is not put off again. -/
theorem State.startWaiting_kept (s : State) : Kept [.mix] ofRoutes noByte s s.startWaiting := by
  refine .each _ _ (fun u w _ => ?_) s
  refine .ite (fun _ => .rfl') fun hmay => ?_
  have hstarts : (u.onMix fun m => { m with waits := SMap.erase m.waits w.1 }).startRoute w.1 w.2.src w.2.len w.2.fenced =
      _ := if_neg hmay
  rw [hstarts]
  exact .set ⟨rfl, rfl⟩ (.onMix (by decide) (.onMix (by decide) .rfl'))

theorem SMap.find?_filter_none {α : Type} {l : List Nat} {t : Nat} (h : t ∈ l) (m : SMap Nat α) :
    SMap.find? (m.filter fun e => !l.contains e.1) t = none := by
  induction m with
  | nil => rfl
  | cons e m ih =>
    by_cases he : l.contains e.1 = true
    · rw [List.filter_cons_of_neg (by rw [he]; exact Bool.false_ne_true)]
      exact ih
    · have hne : e.1 ≠ t := fun heq => he (List.contains_iff_mem.mpr (heq ▸ h))
      rw [List.filter_cons_of_pos (by simpa using he), SMap.find?_cons, if_neg hne]
      exact ih

/-- The crossfades of a domain that have ended. -/
def WarmFade.endedIn (d : Nat) (w : WarmFade) : Bool := w.dom == d && decide (w.len ≤ w.pos)

/-- Their old-side tiles. -/
def State.oldTiles (s : State) (d : Nat) : List Nat := (s.fabric.warmFades.filter (WarmFade.endedIn d)).flatMap (·.old)

/-- The old side of a domain's crossfades after its tiles stopped and their inputs lost their routes. -/
def State.oldStopped (s : State) (d : Nat) (ins : List Nat) : State :=
  ((s.each (s.oldTiles d) State.idleTile).each ins fun u q => u.swapRoute q noSource true).startWaiting

/-- The tables of the fabric after a crossfade. -/
def State.xfadeEnds (s : State) (d : Nat) (ins : List Nat) : State :=
  (s.oldStopped d ins).onFabric fun f => { f with
    warmFades := s.fabric.warmFades.filter fun w => !w.endedIn d
    oldRelocs := if (s.fabric.warmFades.filter fun w => !w.endedIn d).isEmpty then [] else f.oldRelocs
    oldMoved := if (s.fabric.warmFades.filter fun w => !w.endedIn d).isEmpty then [] else f.oldMoved
    place := f.place.filter fun e => !(s.oldTiles d).contains e.1 }

theorem exec_swapXfadeEnd_ends {d : Nat} (hd : d < 3) : ∃ ins, exec (.swapXfadeEnd d) s = .next (s.xfadeEnds d ins) := by
  rw [exec_swapXfadeEnd, execSwapXfadeEnd, guardWf_of (decide_eq_true hd)]
  exact ⟨_, rfl⟩

theorem State.oldStopped_kept (s : State) (d : Nat) (ins : List Nat) :
    Kept [.mix] ofRoutes noByte (s.each (s.oldTiles d) State.idleTile) (s.oldStopped d ins) :=
  (Kept.each _ _ (fun u q _ => u.swapRoute_kept q noSource) _).trans (State.startWaiting_kept _)

theorem State.xfadeEnds_tile (s : State) (d : Nat) (ins : List Nat) (t : Nat) :
    (s.xfadeEnds d ins).tile t = (s.each (s.oldTiles d) State.idleTile).tile t :=
  State.tile_eq_of_tiles ((s.oldStopped_kept d ins).areas .tiles (by decide)) t

/-- The end of a crossfade writes no further field of the fabric or a tile. -/
theorem State.xfadeEnds_get (s : State) (d : Nat) (ins : List Nat) (p : Nat) {f : Fld}
    (hf : f.off ≠ MIX.ROUTE_DATA_SOURCE.off) (j : Nat) :
    (s.xfadeEnds d ins).get p f j = (s.each (s.oldTiles d) State.idleTile).get p f j :=
  (s.oldStopped_kept d ins).get fun h => hf h.2

theorem State.xfadeEnds_kept (s : State) (d : Nat) (ins : List Nat) : Kept [.tiles, .fabric, .mix]
    (fun k => k.p = Pg.fabric ∧ k.off = FABRIC.TILE_COST_HU.off ∨ (∃ t ∈ s.oldTiles d, k.p = Pg.awl t) ∨ ofRoutes k)
    noByte s (s.xfadeEnds d ins) :=
  .onFabric (by decide) (((s.each_idleTile_kept _).mono (by decide) (fun _ h => h.imp_right .inl) fun _ h => h).trans
    ((s.oldStopped_kept d ins).mono (by decide) (fun _ h => .inr (.inr h)) fun _ h => h))

/-- The old side of an ended crossfade: idle, without cost or windows, and without a place. -/
theorem State.xfadeEnds_old (s : State) (d : Nat) (ins : List Nat) {t : Nat} (ht : t ∈ s.oldTiles d) :
    ((s.xfadeEnds d ins).tile t).pass = .idle ∧ (s.xfadeEnds d ins).cost t = 0 ∧
    SMap.find? (s.xfadeEnds d ins).fabric.place t = none ∧ (s.xfadeEnds d ins).get (Pg.awl t) AWL.WIN_CH_NIN = 0 ∧
    (s.xfadeEnds d ins).get (Pg.awl t) AWL.WIN_CH_NOUT = 0 := by
  obtain ⟨hpass, hcost, hnin, hnout⟩ := idled_each (s.oldTiles d) s ht
  refine ⟨by rw [s.xfadeEnds_tile, hpass], ?_, SMap.find?_filter_none ht _, ?_, ?_⟩
  · exact (s.xfadeEnds_get d ins _ (by decide) t).trans hcost
  · exact (s.xfadeEnds_get d ins _ (by decide) 0).trans hnin
  · exact (s.xfadeEnds_get d ins _ (by decide) 0).trans hnout

theorem State.xfadeEnds_others (s : State) (d : Nat) (ins : List Nat) {t : Nat} (ht : t ∉ s.oldTiles d) :
    (s.xfadeEnds d ins).tile t = s.tile t ∧ (s.xfadeEnds d ins).cost t = s.cost t := by
  obtain ⟨htile, hcost⟩ := s.each_idleTile_others (s.oldTiles d) ht
  exact ⟨(s.xfadeEnds_tile d ins t).trans htile, (s.xfadeEnds_get d ins _ (by decide) t).trans hcost⟩

end Sys2Proof.Machine
end

section
open Sys2Proof Sys2Proof.Machine

/-- Settles O37: the load of a WARM tile, the last check of a swap in its two outcomes, and the end of a crossfade. -/
theorem planSwaps : Obligations.PlanSwaps := by
  refine ⟨?_, ?_, ?_⟩
  · intro s t w p x ht hw hp hx hn
    obtain rfl : x.tile = t := by simpa using List.find?_some hx
    refine ⟨_, exec_warmTileLoaded_joins ht hw hp hx hn, ?_, fun j hj => ?_, s.warmJoins_fabric x w,
      State.setWindows_nin _ x, s.warmJoins_kept x w⟩
    · rw [State.tile_eq_of_tiles (s.warmJoins_tiles x w), s.warmLoaded_tile]
    · rw [State.tile_eq_of_tiles (s.warmJoins_tiles x w), s.warmLoaded_tile_ne x hj]
  · intro s i c w p ha hw hp hb v
    cases hf : v.admitFailure p with
    | none => exact ⟨_, exec_swapAdmitCheck_stays ha hw hp hb hf, fun _ => rfl, fun f h => absurd h (by simp)⟩
    | some f => exact ⟨_, exec_swapAdmitCheck_fails ha hw hp hb hf, fun h => absurd h (by simp),
        fun _ _ => v.swapFails_shows i c w.slot f⟩
  · intro s d hd ended old _
    obtain ⟨ins, hexec⟩ := exec_swapXfadeEnd_ends (s := s) hd
    exact ⟨_, hexec, rfl, fun t ht => s.xfadeEnds_old d ins ht, fun t ht => s.xfadeEnds_others d ins ht,
      s.xfadeEnds_kept d ins⟩

end

section
/-!
SUPPORT. Retirement in sequence (R103, R104, R106, R120), and circular addressing (R99, R101).
-/

namespace Sys2Proof.Machine

variable {x : Tile}

/-! ### Retirement in sequence -/

/-- With no open level, execution goes on at the next address. -/
theorem Tile.retireAt_closed (h : x.ldepth = 0) (a : Nat) : x.retireAt a = (x, a + 1) := by
  rw [Tile.retireAt, h, Tile.loopEnd]

/-- At the LE of the innermost level, opened at the present RSD, with passes left: the level counts down and goes round. -/
theorem Tile.retireAt_loops {n : Nat} (hd : x.ldepth = n + 1) (hle : nget 0 x.le n = x.pc)
    (hrsd : nget 0 x.lrsd n = x.rsd) (hlc : 1 < (nget 0 x.lc n).toNat) :
    x.retireAt x.pc.toNat = ({ x with lc := nput 0 x.lc n (nget 0 x.lc n - 1) }, (nget 0 x.ls n).toNat) := by
  refine (congrArg (Tile.loopEnd x.pc.toNat · x) hd).trans ?_
  rw [Tile.loopEnd, if_pos ⟨by rw [hle], hrsd⟩, if_pos hlc]

/-- A repeat with repetitions left counts down, and the program counter stays. -/
theorem Tile.advanced_repeated {n : Nat} (hn : 1 < n) (hr : x.rpt = some ⟨n⟩) (cost : Nat) :
    Tile.advanced cost x = { x with rpt := some ⟨n - 1⟩, lastPc := x.pc, hu := x.hu + cost } := by
  have hleft : 1 < (x.rpt.getD ⟨0⟩).left := by rwa [hr]
  rw [Tile.advanced, if_pos hleft, hr]
  rfl

theorem Tile.advanced_counts (cost : Nat) (x : Tile) :
    (Tile.advanced cost x).hu = x.hu + cost ∧ (Tile.advanced cost x).lastPc = x.pc := by
  rw [Tile.advanced]
  split
  · exact ⟨rfl, rfl⟩
  · exact ⟨rfl, rfl⟩

/-! ### Circular addressing -/

/-- The ring of a length is the smallest power of two not below it. -/
theorem ringSize_eq_pow {len : Nat} (h0 : len ≠ 0) (h : len ≤ 16384) :
    ∃ m ≤ 14, ringSize len = 2 ^ m ∧ 2 ^ m < 2 * len ∧ len ≤ 2 ^ m := by
  have hm : Nat.clog 2 len ≤ 14 := (Nat.clog_le_iff_le_pow (by decide)).2 h
  have hbelow : ∀ j < Nat.clog 2 len, 2 ^ j < len := fun j hj => (Nat.lt_clog_iff_pow_lt (by decide)).1 hj
  have hfind : (List.range 15).find? ((fun n => decide (len ≤ n)) ∘ (2 ^ ·)) = some (Nat.clog 2 len) :=
    List.find?_range_eq_some.2 ⟨decide_eq_true (Nat.le_pow_clog (by decide) len), List.mem_range.2 (by omega),
      fun j hj => by simpa using hbelow j hj⟩
  refine ⟨Nat.clog 2 len, hm, ?_, ?_, Nat.le_pow_clog (by decide) len⟩
  · rw [ringSize, List.find?_map, hfind]
    rfl
  · cases hc : Nat.clog 2 len with
    | zero => omega
    | succ k =>
      have := hbelow k (by omega)
      omega

theorem modify_linear (p : BitVec 15) (step : Int) :
    ((modify p step 0).toNat : Int) = ((p.toNat : Int) + step) % 32768 := by
  rw [modify, if_pos rfl, BitVec.toNat_ofInt]
  exact Int.toNat_of_nonneg (Int.emod_nonneg _ (by decide))

/-- The whole ring lies within the 15 bits. -/
theorem ring_le (p : BitVec 15) {m : Nat} (hm : m ≤ 14) : p.toNat / 2 ^ m * 2 ^ m + 2 ^ m ≤ 32768 := by
  have hsplit : 2 ^ (15 - m) * 2 ^ m = 32768 := by
    rw [← Nat.pow_add, Nat.sub_add_cancel (by omega)]
  have hq : p.toNat / 2 ^ m < 2 ^ (15 - m) :=
    (Nat.div_lt_iff_lt_mul (Nat.two_pow_pos m)).2 (hsplit.symm ▸ p.isLt)
  calc p.toNat / 2 ^ m * 2 ^ m + 2 ^ m = (p.toNat / 2 ^ m + 1) * 2 ^ m := (Nat.succ_mul ..).symm
    _ ≤ 2 ^ (15 - m) * 2 ^ m := Nat.mul_le_mul_right _ hq
    _ = 32768 := hsplit

/-- Under a length, a modify is the offset from the ring's base, moved and cut at the length: nothing wraps at 15 bits. -/
theorem modify_circular (p : BitVec 15) (step : Int) {len : BitVec 15} (h0 : len ≠ 0) (h : len.toNat ≤ 16384) {m b : Nat}
    (hm : m ≤ 14) (hring : ringSize len.toNat = 2 ^ m) (hlen : len.toNat ≤ 2 ^ m) (hb : b = p.toNat / 2 ^ m * 2 ^ m) :
    b ≤ (modify p step len).toNat ∧ (modify p step len).toNat < b + len.toNat ∧
      (((modify p step len).toNat : Int) - ((p.toNat : Int) + step)) % (len.toNat : Int) = 0 := by
  have hpos : 0 < len.toNat := Nat.pos_of_ne_zero fun e => h0 (BitVec.eq_of_toNat_eq e)
  have hle : b + 2 ^ m ≤ 32768 := hb ▸ ring_le p hm
  have hlow := Int.emod_nonneg ((p.toNat : Int) - b + step) (b := len.toNat) (by omega)
  have hhigh := Int.emod_lt_of_pos ((p.toNat : Int) - b + step) (b := len.toNat) (by omega)
  have hvalue : ((modify p step len).toNat : Int) = b + ((p.toNat : Int) - b + step) % (len.toNat : Int) := by
    rw [modify, if_neg h0]
    dsimp only
    rw [Nat.min_eq_left h, hring, ← hb, BitVec.toNat_ofInt]
    omega
  refine ⟨by omega, by omega, Int.emod_eq_zero_of_dvd ⟨-(((p.toNat : Int) - b + step) / (len.toNat : Int)), ?_⟩⟩
  have hdiv := Int.emod_add_mul_ediv ((p.toNat : Int) - b + step) (len.toNat : Int)
  rw [hvalue, Int.mul_neg]
  omega

end Sys2Proof.Machine
end

section
open Sys2Proof Sys2Proof.Machine

/-- Settles O16: retirement is the repeat's count where one is left, else the loop end at the program counter. -/
theorem awlAdvance : Obligations.AwlAdvance := by
  intro x cost y
  obtain ⟨hhu, hlast⟩ := Tile.advanced_counts cost x
  refine ⟨⟨Tile.advanced_flow cost x, hhu, hlast⟩, fun hr hd => ?_, fun n hn hr => ?_, fun n hr hd hle hrsd hlc => ?_⟩
  · have hy : y = _ := Tile.advanced_unrepeated hr cost
    rw [hy, Tile.retireAt_closed hd]
    exact ⟨by simp [Tile.jumped, BitVec.ofNat_add], hr, hd⟩
  · have hy : y = _ := Tile.advanced_repeated hn hr cost
    rw [hy]
    exact ⟨rfl, rfl, rfl, rfl⟩
  · have hy : y = _ := Tile.advanced_unrepeated hr cost
    rw [hy, Tile.retireAt_loops hd hle hrsd hlc]
    exact ⟨by simp [Tile.jumped], rfl, rfl⟩

end

section
open Sys2Proof Sys2Proof.Machine

/-- Settles O29: the ring is the power of two that holds the length, its base the pointer's multiple of it. -/
theorem awlRing : Obligations.AwlRing := by
  intro p step len h
  refine ⟨fun h0 => h0 ▸ modify_linear p step, fun h0 => ?_⟩
  have hpos : 0 < len.toNat := Nat.pos_of_ne_zero fun e => h0 (BitVec.eq_of_toNat_eq e)
  obtain ⟨m, hm, hring, hbelow, hlen⟩ := ringSize_eq_pow hpos.ne' h
  refine ⟨m, p.toNat / 2 ^ m * 2 ^ m, hbelow, hlen, Nat.mul_mod_left .., Nat.div_mul_le_self .., ?_,
    modify_circular p step h0 h hm hring hlen rfl⟩
  exact Nat.lt_div_mul_add (Nat.two_pow_pos m)

end

section
/-!
SUPPORT. What an instruction in sequence gives, from the form of its meaning (R120, R121): no cause stands against it, and its
tile keeps the flow.
-/

namespace Sys2Proof.Machine

variable {s : State} {t : Nat}

/-- An instruction in sequence whose causes do not arise. -/
theorem State.issue_uncaused (h : s.canIssue t) {f : Win → Tile → Issue} {cost : Nat} {causes : List Nat} {y : Tile}
    (hf : f (s.win t) (s.tile t) = (s.tile t).inSequence cost causes (plain y)) (hc : causes = [])
    (hs : (s.tile t).sameFlow y) : Gives (s.issue t f) s t (Tile.advanced cost y) :=
  s.issue_inSequence h f cost y (hc ▸ hf) hs

/-- An instruction on registers alone. -/
theorem State.issueReg_gives (h : s.canIssue t) {f : Tile → Tile} {y : Tile} (hf : f (s.tile t) = y)
    (hs : (s.tile t).sameFlow y) : Gives (s.issueReg t f) s t (Tile.advanced 1 y) :=
  State.issue_uncaused h (congrArg (fun z => (s.tile t).inSequence 1 [] (plain z)) hf) rfl hs

/-- One whose reserved use does not arise. -/
theorem State.issueForm_gives (h : s.canIssue t) {reserved : Bool} (hr : reserved = false) {f : Tile → Tile} {y : Tile}
    (hf : f (s.tile t) = y) (hs : (s.tile t).sameFlow y) :
    Gives (s.issueForm t reserved f) s t (Tile.advanced 1 y) :=
  State.issue_uncaused h (congrArg (fun z => (s.tile t).inSequence 1 (reservedIf reserved) (plain z)) hf)
    (reservedIf_false hr) hs

/-- One that writes a result to G and sets the flags. -/
theorem State.issueReg_flagged (h : s.canIssue t) {f : Tile → Tile} {gd : BitVec 5} {r : Word} {v c : Bool}
    (hf : f (s.tile t) = ((s.tile t).flags r v c).setG gd r) :
    Gives (s.issueReg t f) s t (Tile.advanced 1 (((s.tile t).flags r v c).setG gd r)) :=
  State.issueReg_gives h hf (Tile.sameFlow_self _).flags.setG

/-- A command's arm in the place of the command. -/
theorem Gives.arm {o arm : Outcome} {z : Tile} (e : o = arm) (h : Gives arm s t z) : Gives o s t z := e ▸ h

/-! ### Flags and choices of the ALU (R141) -/

/-- An instruction of two registers, with the flags of its result. -/
theorem State.alu_gives (h : s.canIssue t) {gd ga gb : BitVec 5} {f : Word → Word → Word} {fl : Tile → Word → Word → Tile}
    {v c : Bool} (hfl : fl (s.tile t) ((s.tile t).gReg ga) ((s.tile t).gReg gb) =
      (s.tile t).flags (f ((s.tile t).gReg ga) ((s.tile t).gReg gb)) v c) :
    let r := f ((s.tile t).gReg ga) ((s.tile t).gReg gb)
    Gives (s.alu t gd ga gb f fl) s t (Tile.advanced 1 (((s.tile t).flags r v c).setG gd r)) :=
  State.issueReg_flagged h (congrArg (Tile.setG · gd _) hfl)

theorem shlOverflow_eq (a : Word) (k : Nat) : shlOverflow a k = decide ((a <<< k).sshiftRight k ≠ a) := by
  simp [shlOverflow, bne, beq_eq_decide]

/-- MIN and MAX, with the choice as a proposition. -/
theorem State.choose_gives (h : s.canIssue t) (gd ga gb : BitVec 5) {first : Word → Word → Bool} {p : Prop} [Decidable p]
    (hp : first ((s.tile t).gReg ga) ((s.tile t).gReg gb) = decide p) :
    let r := if p then (s.tile t).gReg ga else (s.tile t).gReg gb
    Gives (s.choose t gd ga gb first) s t (Tile.advanced 1 (((s.tile t).flags r false (decide p)).setG gd r)) := by
  refine State.issueReg_flagged h ?_
  simp only [hp, decide_eq_true_eq]

/-- |a| of ABS, by the sign of a. -/
theorem abs_by_sign (a : Word) : (if a.msb then -a else a) = if a.toInt < 0 then 0 - a else a := by
  rw [BitVec.msb_eq_toInt]
  simp only [decide_eq_true_eq, neg_eq_zero_sub]

end Sys2Proof.Machine
end

section
open Sys2Proof Sys2Proof.Machine

/-- Settles O17: each is an instruction on registers alone, and the statement's flags are those of its definition. -/
theorem awlRegisterAlu : Obligations.AwlRegisterAlu := by
  intro s t gd ga gb h x a b flagged gives
  refine ⟨.arm (exec_add ..) (State.alu_gives h rfl), .arm (exec_sub ..) (State.alu_gives h rfl),
    .arm (exec_and ..) (State.alu_gives h rfl), .arm (exec_or ..) (State.alu_gives h rfl),
    .arm (exec_xor ..) (State.alu_gives h rfl),
    fun imm => ?_,
    .arm (exec_min ..) (State.choose_gives h gd ga gb rfl), .arm (exec_max ..) (State.choose_gives h gd ga gb rfl),
    .arm (exec_abs ..) (State.issueReg_flagged h ?_), .arm (exec_neg ..) (State.issueReg_flagged h ?_),
    .arm (exec_cmp ..) (State.issueReg_gives h rfl (Tile.sameFlow_self _).flags)⟩
  · intro k
    refine ⟨.arm (exec_shl ..) (State.issueReg_flagged h ?_), .arm (exec_shr ..) (State.issueReg_flagged h rfl),
      .arm (exec_asr ..) (State.issueReg_flagged h rfl)⟩
    rw [← shlOverflow_eq]
    rfl
  · rw [← abs_by_sign, ← BitVec.msb_eq_toInt]
    rfl
  · rw [← neg_eq_zero_sub]
    rfl

end

section
/-!
SUPPORT. Data memory and pointers of a tile: addresses whose causes do not arise (R121, R129), post-modifies, and what a write
of a word leaves of the others (R96, R107).
-/

namespace Sys2Proof.Machine

variable {s : State} {t : Nat} {w : Win} {a : BitVec 15}

/-! ### Causes that do not arise -/

theorem Win.xCause_nil (h : w.foreign a = false) : w.xCause a = [] := by
  rw [Win.xCause, h]
  rfl

theorem Win.readCause_nil (h : selectsY a = false → w.foreign a = false) : w.readCause a = [] := by
  rw [Win.readCause]
  cases hy : selectsY a with
  | true => rfl
  | false => exact Win.xCause_nil (h hy)

theorem Win.writeCause_nil (h : selectsY a = false → w.foreign a = false)
    (hb : selectsY a = true → a.toNat % 0x4000 < 0x2000) : w.writeCause a = [] := by
  rw [Win.writeCause]
  cases hy : selectsY a with
  | true =>
    rw [if_pos rfl, if_neg (Nat.not_le.2 (hb hy))]
  | false => exact Win.xCause_nil (h hy)

theorem reservedMem_nil {am : BitVec 2} {d : BitVec 8} (h3 : am ≠ 3) (hd : am ≠ 2 → d = 0) : reservedMem am d = [] := by
  refine reservedIf_false (Bool.or_eq_false_iff.2 ⟨beq_eq_false_iff_ne.2 h3, ?_⟩)
  by_cases h : am = 2
  · simp [h]
  · simp [hd h]

/-! ### Registers and post-modifies -/

theorem Tile.gReg_setG_same (x : Tile) (n : BitVec 5) (v : Word) : (x.setG n v).gReg n = v := nget_nput_same ..

/-- The post-modify that AM = 1 asks for, behind a write to G. -/
theorem Tile.post_setG (x : Tile) (am : BitVec 2) (pn : BitVec 3) (g : BitVec 5) (v : Word) :
    (x.setG g v).post (am == 1) pn =
      if am = 1 then (x.setG g v).setP pn (modify (x.pReg pn) (x.mReg pn).toInt (x.lReg pn)) else x.setG g v := by
  simp only [Tile.post, beq_iff_eq]
  rfl

/-! ### Words -/

/-- Below the window halves a word is its own place, and the halves exchange. -/
theorem Win.phys_injective (hw : 2 * w.half ≤ 0x4000) (sw : Bool) {i j : Nat} (hi : i < 0x4000) (hj : j < 0x4000)
    (h : w.phys sw i = w.phys sw j) : i = j := by
  unfold Win.phys Win.base at h
  cases sw with
  | false => simpa using h
  | true =>
    simp only [Bool.true_and, decide_eq_true_eq] at h
    split_ifs at h <;> omega

theorem Tile.readX_writeX (x : Tile) (hw : 2 * w.half ≤ 0x4000) (a b : BitVec 15) (v : Word) :
    (x.writeX w a v).readX w b = if b.toNat % 0x4000 = a.toNat % 0x4000 then v else x.readX w b := by
  refine (nget_nput ..).trans ?_
  by_cases h : b.toNat % 0x4000 = a.toNat % 0x4000
  · rw [if_pos h, if_pos (by rw [h]; rfl)]
  · rw [if_neg h, if_neg fun e => h (Win.phys_injective hw _ (Nat.mod_lt _ (by decide)) (Nat.mod_lt _ (by decide)) e.symm)]
    rfl

/-- A write of Y below the banks leaves them. -/
theorem Tile.readY_writeY (x : Tile) {a : BitVec 15} (ha : a.toNat % 0x4000 < 0x2000) (b : BitVec 15) (v : Word) :
    (x.writeY a v).readY w b = if b.toNat % 0x4000 = a.toNat % 0x4000 then v else x.readY w b := by
  unfold Tile.readY
  by_cases h3 : 0x3000 ≤ b.toNat % 0x4000
  · simp only [if_pos h3]
    rw [if_neg (by omega)]
    rfl
  · simp only [if_neg h3]
    by_cases h2 : 0x2000 ≤ b.toNat % 0x4000
    · simp only [if_pos h2]
      rw [if_neg (by omega)]
      rfl
    · simp only [if_neg h2]
      exact (nget_nput ..).trans (by simp only [eq_comm])

theorem address_eq_iff (a b : BitVec 15) : b = a ↔ selectsY b = selectsY a ∧ b.toNat % 0x4000 = a.toNat % 0x4000 := by
  have hbit : ∀ c : BitVec 15, selectsY c = decide (0x4000 ≤ c.toNat) := fun c =>
    (BitVec.msb_eq_getLsbD_last c).symm.trans (BitVec.msb_eq_decide c)
  refine ⟨fun h => by rw [h]; exact ⟨rfl, rfl⟩, fun ⟨hy, hm⟩ => BitVec.eq_of_toNat_eq ?_⟩
  rw [hbit, hbit, decide_eq_decide] at hy
  omega

/-- A write of a word of the tile's own memories leaves every other word. -/
theorem Tile.readMem_writeMem (x : Tile) (hw : 2 * w.half ≤ 0x4000) {a : BitVec 15}
    (ha : selectsY a = true → a.toNat % 0x4000 < 0x2000) (b : BitVec 15) (v : Word) :
    (x.writeMem w a v).readMem w b = if b = a then v else x.readMem w b := by
  simp only [address_eq_iff, Tile.readMem, Tile.writeMem]
  cases hya : selectsY a <;> cases hyb : selectsY b
  · simpa using x.readX_writeX hw a b v
  · rfl
  · rfl
  · simpa using x.readY_writeY (ha hya) b v

end Sys2Proof.Machine
end

section
open Sys2Proof Sys2Proof.Machine

/-- Settles O19: no cause stands against a load of the tile's own half, and its post-modify reads the registers as they were. -/
theorem awlLoads : Obligations.AwlLoads := by
  intro s t h x w gives
  refine ⟨fun am pn g d h3 hd => ?_, fun mx px ga my py gb hx => ⟨?_, ?_⟩⟩
  · intro a post
    have hres : reservedMem am d = [] := reservedMem_nil h3 hd
    have loads : ∀ (c : Instr) (v : Word), Gives (exec c s) s t (Tile.advanced 1 ((x.setG g v).post (am == 1) pn)) →
        gives c (post (x.setG g v)) := fun c v hc => by
      rw [Tile.post_setG] at hc
      exact hc
    refine ⟨fun hf => loads _ _ (.arm (exec_ld ..) (State.issue_uncaused h rfl ?_ (Tile.sameFlow_self _).setG.post)),
      fun hf => loads _ _ (.arm (exec_ldx ..) (State.issue_uncaused h rfl ?_ (Tile.sameFlow_self _).setG.post)),
      loads _ _ (.arm (exec_ldy ..) (State.issue_uncaused h rfl hres (Tile.sameFlow_self _).setG.post))⟩
    · rw [hres]
      exact Win.readCause_nil hf
    · rw [hres]
      exact Win.xCause_nil hf
  · exact .arm (exec_ldxy ..)
      (State.issue_uncaused h rfl (Win.xCause_nil hx) (Tile.sameFlow_self _).setG.setG.post2)
  · intro _
    exact Tile.gReg_setG_same ..

/-- Settles O21: no cause stands against the store, and the words of a tile are told apart by their addresses. -/
theorem awlStore : Obligations.AwlStore := by
  intro s t am pn g d h h3 hd x w a hx hy
  refine ⟨.arm (exec_st ..) (State.issue_uncaused h rfl ?_ (Tile.sameFlow_self _).writeMem.post),
    fun hw b => x.readMem_writeMem hw hy b _⟩
  rw [reservedMem_nil h3 hd]
  exact Win.writeCause_nil hx hy

end

section
/-!
SUPPORT. Forms of pointer setup that are not reserved (R153).
-/

namespace Sys2Proof.Machine

variable {s : State} {t : Nat}

/-- MODE 0 takes the immediate. -/
theorem reservedSet_immediate {wide : Bool} {imm : BitVec 16} (h : wide = false → imm.msb = false) :
    reservedSet wide 0 imm = false := by
  cases wide with
  | true => simp [reservedSet]
  | false => simp [reservedSet, h rfl]

/-- MODE 1 takes G[s], and no bit lies above the register's field. -/
theorem reservedSet_register (wide : Bool) (gs : BitVec 5) : reservedSet wide 1 (gs.zeroExtend 16) = false := by
  simp [reservedSet]
  omega

theorem Tile.setValue_immediate (x : Tile) (imm : BitVec 16) : x.setValue 0 imm = imm := rfl

theorem Tile.setValue_register (x : Tile) (gs : BitVec 5) :
    x.setValue 1 (gs.zeroExtend 16) = (x.gReg gs).setWidth 16 := by
  have h : (gs.zeroExtend 16).setWidth 5 = gs := by simp
  rw [Tile.setValue, if_neg (by decide), h]

/-- SETP, SETM and SETL of a form that is not reserved: the value that MODE selects. -/
theorem exec_setp_gives (h : s.canIssue t) (n : BitVec 3) {mode : BitVec 2} {imm v : BitVec 16} (hm : mode ≠ 2)
    (hr : reservedSet false mode imm = false) (hv : (s.tile t).setValue mode imm = v) :
    Gives (exec (.setp t n mode imm) s) s t (Tile.advanced 1 ((s.tile t).setP n (v.setWidth 15))) := by
  rw [exec_setp, execSetp, guardWf_of (decide_eq_true hm)]
  exact State.issueForm_gives h hr (by rw [hv]) (Tile.sameFlow_self _).setP

theorem exec_setm_gives (h : s.canIssue t) (n : BitVec 3) {mode : BitVec 2} {imm v : BitVec 16} (hm : mode ≠ 2)
    (hr : reservedSet true mode imm = false) (hv : (s.tile t).setValue mode imm = v) :
    Gives (exec (.setm t n mode imm) s) s t (Tile.advanced 1 ((s.tile t).setM n v)) := by
  rw [exec_setm, execSetm, guardWf_of (decide_eq_true hm)]
  exact State.issueForm_gives h hr (by rw [hv]) (Tile.sameFlow_self _).setM

theorem exec_setl_gives (h : s.canIssue t) (n : BitVec 3) {mode : BitVec 2} {imm v : BitVec 16} (hm : mode ≠ 2)
    (hr : reservedSet false mode imm = false) (hv : (s.tile t).setValue mode imm = v) :
    Gives (exec (.setl t n mode imm) s) s t (Tile.advanced 1 ((s.tile t).setL n (v.setWidth 15))) := by
  rw [exec_setl, execSetl, guardWf_of (decide_eq_true hm)]
  exact State.issueForm_gives h hr (by rw [hv]) (Tile.sameFlow_self _).setL

/-- A register field that the form uses, or that is zero. -/
theorem unusedRegister_false {r : Bool} {g : BitVec 5} (h : r = false → g = 0) : (!r && g != 0) = false := by
  cases r with
  | true => rfl
  | false => simp [h rfl]

/-- IN and OUT within the tile's channels. -/
theorem reservedChannel_false {r : Bool} {gc : BitVec 5} {n c : Nat} (h : r = false → gc = 0) (hc : c < n) :
    ((!r && gc != 0) || decide (n ≤ c)) = false := by
  rw [unusedRegister_false h, Bool.false_or]
  exact decide_eq_false (Nat.not_le.2 hc)

end Sys2Proof.Machine
end

section
open Sys2Proof Sys2Proof.Machine

/-- Settles O22: each form writes the one register of its rule, by its definition. -/
theorem awlPointers : Obligations.AwlPointers := by
  intro s t h x w gives
  have hx : x.sameFlow x := x.sameFlow_self
  have narrow : ∀ v : Word, (v.setWidth 16).setWidth 15 = v.setWidth 15 := fun v => by simp
  refine ⟨fun n imm => ⟨fun hm => ⟨?_, ?_⟩, ?_⟩, fun n gs => ⟨?_, ?_, ?_⟩, fun n gd => ⟨?_, ?_, ?_⟩, fun pd ps imm => ?_,
    fun pn r gc ch hr => ⟨fun hc => ?_, fun hc => ?_⟩, fun gd bank r gs slot hr => ?_⟩
  · exact exec_setp_gives h n (by decide) (reservedSet_immediate fun _ => hm) (x.setValue_immediate imm)
  · exact exec_setl_gives h n (by decide) (reservedSet_immediate fun _ => hm) (x.setValue_immediate imm)
  · exact exec_setm_gives h n (by decide) (reservedSet_immediate nofun) (x.setValue_immediate imm)
  · rw [← narrow]
    exact exec_setp_gives h n (by decide) (reservedSet_register false gs) (x.setValue_register gs)
  · rw [← narrow]
    exact exec_setl_gives h n (by decide) (reservedSet_register false gs) (x.setValue_register gs)
  · exact exec_setm_gives h n (by decide) (reservedSet_register true gs) (x.setValue_register gs)
  · exact .arm (exec_getp ..) (State.issueReg_gives h rfl hx.setG)
  · exact .arm (exec_getm ..) (State.issueReg_gives h rfl hx.setG)
  · exact .arm (exec_getl ..) (State.issueReg_gives h rfl hx.setG)
  · exact .arm (exec_addp ..) (State.issueReg_gives h rfl hx.setP)
  · exact .arm (exec_inp ..) (State.issue_uncaused h rfl (reservedIf_false (reservedChannel_false hr hc)) hx.setP)
  · exact .arm (exec_outp ..) (State.issue_uncaused h rfl (reservedIf_false (reservedChannel_false hr hc)) hx.setP)
  · exact .arm (exec_parm ..) (State.issue_uncaused h rfl (reservedIf_false (unusedRegister_false hr)) hx.setG)

end

section
/-!
SUPPORT. Accumulations and stored results (R114 to R118): what an instruction with either gives.
-/

namespace Sys2Proof.Machine

variable {s : State} {t : Nat}

/-- acc(k, p), then what else the instruction does: the sum is the accumulator's own value and p. -/
theorem State.issue_accAdd (h : s.canIssue t) {f : Win → Tile → Issue} {cost : Nat} {causes : List Nat} {k : BitVec 2}
    {p : Int} {g : Tile → Tile}
    (hf : f (s.win t) (s.tile t) = (s.tile t).inSequence cost causes (((s.tile t).accAdd k p).on g)) (hc : causes = [])
    (hg : ∀ y, (s.tile t).sameFlow y → (s.tile t).sameFlow (g y)) :
    Accumulates (s.issue t f) s t cost k (((s.tile t).aReg k).toInt + p) g := by
  refine s.issue_accumulates h f cost k _ g ?_ hg
  rw [hf, hc, add_sub_cancel_left]

theorem Accumulates.arm {o arm : Outcome} {cost : Nat} {k : BitVec 2} {v : Int} {g : Tile → Tile} (e : o = arm)
    (h : Accumulates arm s t cost k v g) : Accumulates o s t cost k v g := e ▸ h

/-- An accumulation with nothing beside it. -/
theorem State.issueAcc_accAdd (h : s.canIssue t) {f : Tile → Done} {k : BitVec 2} {p : Int}
    (hf : f (s.tile t) = (s.tile t).accAdd k p) :
    Accumulates (s.issueAcc t false f) s t 1 k (((s.tile t).aReg k).toInt + p) id :=
  State.issue_accAdd h (congrArg (fun d => (s.tile t).inSequence 1 [] d) hf) rfl fun _ hy => hy

/-- An instruction on registers and accumulators that neither clamps nor saturates. -/
theorem State.issueAcc_gives (h : s.canIssue t) {reserved : Bool} (hr : reserved = false) {f : Tile → Done} {y : Tile}
    (hf : f (s.tile t) = plain y) (hs : (s.tile t).sameFlow y) :
    Gives (s.issueAcc t reserved f) s t (Tile.advanced 1 y) :=
  State.issue_uncaused h (congrArg (fun d => (s.tile t).inSequence 1 (reservedIf reserved) d) hf) (reservedIf_false hr) hs

end Sys2Proof.Machine
end

section
open Sys2Proof Sys2Proof.Machine

/-- Settles O23: MPY loads the product; the others accumulate one, TAPM with the move of its tap behind it. -/
theorem awlMultiply : Obligations.AwlMultiply := by
  intro s t k h x w a
  have hx : x.sameFlow x := x.sameFlow_self
  refine ⟨fun ga gb => ⟨?_, ?_, ?_⟩, fun mx px my py hpx => ⟨?_, fun hdst => ?_⟩⟩
  · exact .arm (exec_mpy ..) (State.issueAcc_gives h rfl rfl hx.accLoad)
  · exact .arm (exec_mac ..) (State.issueAcc_accAdd h rfl)
  · exact .arm (exec_msu ..) (State.issueAcc_accAdd h rfl)
  · exact .arm (exec_macxy ..) (State.issue_accAdd h rfl (Win.xCause_nil hpx) fun _ hy => hy.post2)
  · refine .arm (exec_tapm ..) (State.issue_accAdd h rfl ?_ fun _ hy => hy.writeX.post2)
    rw [Win.xCause_nil hpx, Win.xCause_nil hdst]
    rfl

end

section
/-!
SUPPORT. The accumulator instructions (R116, R118, R146): SHA as an accumulation to its value, and the stored result, whose
sign is the accumulator's at every pre-shift.
-/

namespace Sys2Proof.Machine

variable {s : State} {t : Nat} {x : Tile} {k : BitVec 2}

/-! ### SHA -/

/-- A[k] takes a value outright, but a clamped one stays. -/
theorem State.issueAcc_accSet (h : s.canIssue t) {f : Tile → Done} {v : Int}
    (hf : f (s.tile t) = if (s.tile t).clamped k then plain (s.tile t) else (s.tile t).accSet k v) :
    Accumulates (s.issueAcc t false f) s t 1 k v id := by
  refine s.issue_accumulates h _ 1 k v id ?_ fun _ hy => hy
  show (s.tile t).inSequence 1 [] (f (s.tile t)) = _
  rw [hf, Tile.accAdd, add_sub_cancel]
  rfl

theorem exec_sha_accumulates (h : s.canIssue t) (k : BitVec 2) {n : BitVec 6} (hn : n ≠ 0) :
    Accumulates (exec (.sha t k n) s) s t 1 k
      (if 0 ≤ n.toInt then ((s.tile t).aReg k).toInt * 2 ^ n.toInt.toNat
        else ((s.tile t).aReg k).toInt / 2 ^ (-n.toInt).toNat) id := by
  refine .arm (exec_sha ..) (State.issueAcc_accSet h ?_)
  have h0 : (n == 0) = false := beq_eq_false_iff_ne.2 hn
  simp only [h0, Bool.or_false]
  rw [apply_ite ((s.tile t).accSet k)]

/-! ### The stored result -/

/-- A value within 32 bits is stored as it is. -/
theorem saturate32_fits {r : Int} (h1 : -2 ^ 31 ≤ r) (h2 : r < 2 ^ 31) : saturate32 r = (BitVec.ofInt 32 r, false) := by
  rw [saturate32, if_pos (by simp; omega)]

/-- Any other is stored as full scale of its sign, and saturates. -/
theorem saturate32_full {r : Int} (h : ¬ (-2 ^ 31 ≤ r ∧ r < 2 ^ 31)) :
    saturate32 r = (if 0 ≤ r then 0x7FFFFFFF else 0x80000000, true) := by
  rw [saturate32, if_neg (by simp; omega)]

theorem storedValue_nonneg_iff (a sh : Int) : 0 ≤ storedValue a sh ↔ 0 ≤ a := by
  have hp : ∀ n : Nat, (0 : Int) < 2 ^ n := fun n => Int.pow_pos (by decide)
  rw [storedValue]
  split
  · rw [Int.le_ediv_iff_mul_le (hp 31), Int.zero_mul, mul_nonneg_iff_of_pos_right (hp _)]
  · rw [Int.le_ediv_iff_mul_le (Int.mul_pos (hp 31) (hp _)), Int.zero_mul]

theorem Tile.stored_fits {sh : Int} (hc : x.clamped k = false) (h1 : -2 ^ 31 ≤ storedValue (x.aReg k).toInt sh)
    (h2 : storedValue (x.aReg k).toInt sh < 2 ^ 31) :
    x.stored k sh = (BitVec.ofInt 32 (storedValue (x.aReg k).toInt sh), false) := by
  rw [Tile.stored, hc]
  exact saturate32_fits h1 h2

/-- A clamped accumulator, and a value that does not fit, are stored as full scale of the accumulator's sign. -/
theorem Tile.stored_full {sh : Int} (h : ¬ (x.clamped k = false ∧ -2 ^ 31 ≤ storedValue (x.aReg k).toInt sh ∧
    storedValue (x.aReg k).toInt sh < 2 ^ 31)) :
    x.stored k sh = (if 0 ≤ (x.aReg k).toInt then 0x7FFFFFFF else 0x80000000, true) := by
  rw [Tile.stored]
  cases hc : x.clamped k with
  | true => rfl
  | false =>
    refine (saturate32_full fun hr => h ⟨hc, hr⟩).trans ?_
    simp only [storedValue_nonneg_iff]

/-- An instruction that stores a result, and whether it saturates: one in range. -/
theorem State.issue_stored (h : s.canIssue t) {f : Win → Tile → Issue} {cost : Nat} {causes : List Nat}
    {r : Word × Bool} {g : Word → Tile} {v : Word}
    (hf : f (s.win t) (s.tile t) = (s.tile t).inSequence cost causes ⟨(g r.1).markSat r.2, false, r.2⟩)
    (hc : causes = []) (hs : (s.tile t).sameFlow (g v)) (hr : r = (v, false)) :
    Gives (s.issue t f) s t (Tile.advanced cost (g v)) := by
  have hkept : (g v).markSat false = g v := by simp [Tile.markSat]
  refine State.issue_uncaused h ?_ hc hs
  rw [hf, hr, hkept]
  rfl

/-- One that saturates. -/
theorem State.issue_saturated (h : s.canIssue t) {f : Win → Tile → Issue} {cost : Nat} {causes : List Nat}
    {r : Word × Bool} {g : Word → Tile} {v : Word}
    (hf : f (s.win t) (s.tile t) = (s.tile t).inSequence cost causes ⟨(g r.1).markSat r.2, false, r.2⟩)
    (hc : causes = []) (hs : (s.tile t).sameFlow (g v)) (hr : r = (v, true)) :
    GivesSat (s.issue t f) s t (Tile.advanced cost { g v with sat := true }) := by
  have hmark : (g v).markSat true = { g v with sat := true } := by simp [Tile.markSat]
  refine s.issue_sat h f cost _ ?_ (hmark ▸ hs.markSat)
  rw [hf, hc, hr, hmark]

theorem GivesSat.arm {o arm : Outcome} {z : Tile} (e : o = arm) (h : GivesSat arm s t z) : GivesSat o s t z := e ▸ h

/-! ### ADDA and SACC -/

/-- A source that is not clamped is added. -/
theorem exec_adda_accumulates (h : s.canIssue t) (k : BitVec 2) {as : BitVec 2} (hc : (s.tile t).clamped as = false) :
    Accumulates (exec (.adda t k as) s) s t 1 k (((s.tile t).aReg k).toInt + ((s.tile t).aReg as).toInt) id := by
  refine .arm (exec_adda ..) (State.issueAcc_accAdd h ?_)
  rw [hc, Tile.accAdd]
  cases (s.tile t).clamped k with
  | true => rfl
  | false => rfl

/-- The forms of SACC that are not reserved: to a register, and to memory. -/
theorem reservedSacc_false {dst pm : Bool} {pn : BitVec 3} {gd shift : BitVec 5} (h1 : -8 ≤ shift.toInt)
    (h2 : shift.toInt ≤ 8) (hu : (if dst then pm || pn != 0 else gd != 0) = false) :
    reservedSacc dst pm pn gd shift = false := by
  rw [reservedSacc, hu, decide_eq_true h1, decide_eq_true h2]
  rfl

theorem exec_sacc_register (t : Nat) (k : BitVec 2) (gd shift : BitVec 5) (s : State) :
    exec (.sacc t k true false 0 gd shift) s = s.issue t fun _ x =>
      x.inSequence 1 (reservedIf (reservedSacc true false 0 gd shift) ++ [])
        ⟨(x.setG gd (x.stored k shift.toInt).1).markSat (x.stored k shift.toInt).2, false, (x.stored k shift.toInt).2⟩ := rfl

theorem exec_sacc_memory (t : Nat) (k : BitVec 2) (pm : Bool) (pn : BitVec 3) (shift : BitVec 5) (s : State) :
    exec (.sacc t k false pm pn 0 shift) s = s.issue t fun w x =>
      x.inSequence 1 (reservedIf (reservedSacc false pm pn 0 shift) ++ w.writeCause (x.pReg pn))
        ⟨((x.writeMem w (x.pReg pn) (x.stored k shift.toInt).1).post pm pn).markSat (x.stored k shift.toInt).2, false,
          (x.stored k shift.toInt).2⟩ := rfl

end Sys2Proof.Machine
end

section
open Sys2Proof Sys2Proof.Machine

/-- Settles O24: SHA and ADDA accumulate, SACC stores the result of R118 in its two outcomes, the others write outright. -/
theorem awlAccumulators : Obligations.AwlAccumulators := by
  intro s t k h x w gives a
  have hx : x.sameFlow x := x.sameFlow_self
  refine ⟨⟨?_, ?_⟩, fun as => ?_, fun g => ⟨?_, ?_, ?_, ?_⟩, fun n hn => exec_sha_accumulates h k hn,
    fun as hc => exec_adda_accumulates h k hc, fun as hk hc => ?_, fun as hk => ?_, ?_,
    fun shift h1 h2 => ⟨fun gd => ?_, fun pm pn hown hbank => ?_⟩⟩
  · exact .arm (exec_clra ..) (State.issueAcc_gives h rfl rfl hx.setA.setClamp)
  · exact .arm (exec_clra ..) (State.issueAcc_gives h rfl rfl hx)
  · exact .arm (exec_mova ..) (State.issueAcc_gives h rfl rfl hx.setA.setClamp)
  · exact .arm (exec_mova ..) (State.issueAcc_gives h rfl rfl hx.setA.setClamp)
  · exact .arm (exec_mova ..) (State.issueAcc_gives h rfl rfl hx.setG)
  · exact .arm (exec_mova ..) (State.issueAcc_gives h rfl rfl hx.setG)
  · exact .arm (exec_mova ..) (State.issueAcc_gives h rfl rfl hx.setG)
  · refine .arm (exec_adda ..) (State.issueAcc_gives h rfl ?_ hx.setA.setClamp)
    rw [hk, hc]
    rfl
  · refine .arm (exec_adda ..) (State.issueAcc_gives h rfl ?_ hx)
    rw [hk]
    rfl
  · refine .arm (exec_sha ..) (State.issueAcc_gives h rfl ?_ hx)
    exact if_pos (Bool.or_true _)
  · have hcauses : reservedIf (reservedSacc true false 0 gd shift) ++ [] = [] := by
      rw [reservedIf_false (reservedSacc_false h1 h2 rfl)]
      rfl
    exact ⟨fun ⟨hc, hlo, hhi⟩ => .arm (exec_sacc_register ..)
        (State.issue_stored (g := x.setG gd) h rfl hcauses hx.setG (x.stored_fits hc hlo hhi)),
      fun hn => .arm (exec_sacc_register ..)
        (State.issue_saturated (g := x.setG gd) h rfl hcauses hx.setG (x.stored_full hn))⟩
  · have hcauses : reservedIf (reservedSacc false pm pn 0 shift) ++ w.writeCause (x.pReg pn) = [] := by
      rw [reservedIf_false (reservedSacc_false h1 h2 rfl)]
      exact Win.writeCause_nil hown hbank
    exact ⟨fun ⟨hc, hlo, hhi⟩ => .arm (exec_sacc_memory ..)
        (State.issue_stored (g := fun v => (x.writeMem w (x.pReg pn) v).post pm pn) h rfl hcauses hx.writeMem.post
          (x.stored_fits hc hlo hhi)),
      fun hn => .arm (exec_sacc_memory ..)
        (State.issue_saturated (g := fun v => (x.writeMem w (x.pReg pn) v).post pm pn) h rfl hcauses hx.writeMem.post
          (x.stored_full hn))⟩

end

section
/-!
SUPPORT. The audio specials (R122, R148 to R151): the values that their meanings compute, and the addresses they reach.
-/

namespace Sys2Proof.Machine

variable {w : Win}

/-- Four X words in the tile's own half. -/
theorem Win.xCause_four {a b c d : BitVec 15} (ha : w.foreign a = false) (hb : w.foreign b = false)
    (hc : w.foreign c = false) (hd : w.foreign d = false) :
    w.xCause a ++ w.xCause b ++ w.xCause c ++ w.xCause d = [] := by
  rw [Win.xCause_nil ha, Win.xCause_nil hb, Win.xCause_nil hc, Win.xCause_nil hd]
  rfl

/-- The count of silent samples stops at its highest value. -/
theorem countUp_eq (c : Word) : (if c = 0xFFFFFFFF then c else c + 1) = BitVec.ofNat 32 (min (c.toNat + 1) 0xFFFFFFFF) := by
  apply BitVec.eq_of_toNat_eq
  have hc := c.isLt
  by_cases h : c = 0xFFFFFFFF
  · rw [if_pos h, h]
    rfl
  · have hne : c.toNat ≠ 0xFFFFFFFF := fun e => h (BitVec.eq_of_toNat_eq e)
    rw [if_neg h, BitVec.toNat_add, BitVec.toNat_ofNat, Nat.min_eq_left (by omega)]
    rfl

/-- Past either end, full scale. -/
theorem saturate32_above {r : Int} (h : 2 ^ 31 ≤ r) : saturate32 r = (0x7FFFFFFF, true) := by
  rw [saturate32_full (by omega), if_pos (by omega)]

theorem saturate32_below {r : Int} (h : r < -2 ^ 31) : saturate32 r = (0x80000000, true) := by
  rw [saturate32_full (by omega), if_neg (by omega)]

theorem Tile.sameFlow.writeIf {x y : Tile} (h : x.sameFlow y) {c : Prop} [Decidable c] {a : BitVec 15} {v : Word} :
    x.sameFlow (if c then y.writeMem w a v else y) := h.writeMem.ite h

end Sys2Proof.Machine
end

section
open Sys2Proof Sys2Proof.Machine

/-- Settles O25: SKV, GRAMP and PEAK accumulate or load their products, BIQ stores its result, SILCHK counts. -/
theorem awlSpecials : Obligations.AwlSpecials := by
  intro s t k gx h x w v own mine
  have hx : x.sameFlow x := x.sameFlow_self
  refine ⟨?_, ?_, ?_, ?_, ?_⟩
  · intro pm pn hown y g hsum
    exact .arm (exec_skv ..) (State.issue_accAdd h rfl (Win.xCause_four (hown 0 (by decide) (by decide))
      (hown 1 (by decide) (by decide)) (hown 2 (by decide) (by decide)) (hown 3 (by decide) (by decide))) fun _ hy => hy.post)
  · intro ps pc hps hpc hown st co sum r kept after
    have hcauses : reservedIf (selectsY (x.pReg ps) || !selectsY (x.pReg pc)) ++
        (w.xCause (x.at_ ps 0) ++ w.xCause (x.at_ ps 1) ++ w.xCause (x.at_ ps 2) ++ w.xCause (x.at_ ps 3)) = [] := by
      rw [hps, hpc, Win.xCause_four (hown 0 (by decide) (by decide)) (hown 1 (by decide) (by decide))
        (hown 2 (by decide) (by decide)) (hown 3 (by decide) (by decide))]
      rfl
    have hafter : ∀ o, x.sameFlow (after o) := fun o =>
      hx.setA.setClamp.writeX.writeX.writeX.writeX.setG.stepP.stepP
    exact ⟨fun h1 h2 => .arm (exec_biq ..)
        (State.issue_stored (g := after) h rfl hcauses (hafter _) (saturate32_fits h1 h2)),
      fun h1 => .arm (exec_biq ..) (State.issue_saturated (g := after) h rfl hcauses (hafter _) (saturate32_above h1)),
      fun h1 => .arm (exec_biq ..) (State.issue_saturated (g := after) h rfl hcauses (hafter _) (saturate32_below h1))⟩
  · intro mg pg mt pt hother ⟨hg0, hg0'⟩ hg1 hpt g d goal g2 then'
    have hcauses : reservedIf (selectsY (x.pReg pg) == selectsY (x.pReg pt)) ++
        (w.writeCause (x.at_ pg 0) ++ w.readCause (x.at_ pg 1) ++ w.readCause (x.pReg pt)) = [] := by
      rw [reservedIf_false (beq_eq_false_iff_ne.2 hother), Win.writeCause_nil hg0 hg0', Win.readCause_nil hg1,
        Win.readCause_nil hpt]
      rfl
    exact ⟨.arm (exec_gramp ..) (State.issue_accAdd h rfl hcauses fun _ hy => hy.writeMem.post2),
      .arm (exec_gramp ..) (State.issue_uncaused h rfl hcauses hx.setA.setClamp.writeMem.post2)⟩
  · intro pm pn hown higher hmine then'
    have hwrite : (if higher then w.writeCause (x.pReg pn) else []) = [] := by
      split
      · rename_i hh
        exact Win.writeCause_nil (hmine hh).1 (hmine hh).2
      · rfl
    have hcauses : ∀ reserved, reserved = false →
        reservedIf reserved ++ w.readCause (x.pReg pn) ++ (if higher then w.writeCause (x.pReg pn) else []) = [] :=
      fun _ hr => by
        rw [reservedIf_false hr, Win.readCause_nil hown, hwrite]
        rfl
    exact ⟨.arm (exec_peak ..) (State.issue_uncaused h rfl (hcauses _ rfl) hx.writeIf.post),
      .arm (exec_peak ..) (State.issue_accAdd h rfl (hcauses _ rfl) fun _ hy => hy.writeIf.post)⟩
  · intro gd pm ps ⟨h0, h0'⟩ h1 c c2
    have hcauses : w.writeCause (x.at_ ps 0) ++ w.readCause (x.at_ ps 1) = [] := by
      rw [Win.writeCause_nil h0 h0', Win.readCause_nil h1]
      rfl
    have hcount : c2 = if (sabs v).toInt ≤ (x.readMem w (x.at_ ps 1)).toInt then
        (if c = 0xFFFFFFFF then c else c + 1) else 0 := by rw [countUp_eq]
    rw [hcount]
    exact .arm (exec_silchk ..) (State.issue_uncaused h rfl hcauses hx.writeMem.setG.post)

end

section
/-!
SUPPORT. What refutes O44: the waiting upper half of a 64-bit read (R33, R124).
-/

namespace Sys2Proof.Machine

/-- A tile between passes at which a 64-bit read of DBG_ADDR and DBG_DATA waits: the word that it has read of DBG_ADDR already
stands beside the address. -/
def wideReadWaits : State := State.reset.setTile 0 { Tile.reset with dbg := [⟨0, some 0⟩] }

/-- The completion answers both words. -/
theorem exec_dbgReadDone_wideReadWaits :
    ∃ u, exec (.dbgReadDone 0) wideReadWaits = .next u ∧ u.lastResp = some (.ok [0, 0]) := ⟨_, rfl, rfl⟩

end Sys2Proof.Machine
end

section
open Sys2Proof Sys2Proof.Machine

/-- Refutes O44: a waiting debug read that is the upper half of a 64-bit read answers its lower word too, so that the answer is
not the one word of the last clause. -/
theorem not_tilePages : ¬ Obligations.TilePages := by
  intro h
  obtain ⟨-, -, -, hdone⟩ := h wideReadWaits .host 0 0 (by decide)
  obtain ⟨u, hu, hanswer, -⟩ := hdone ⟨0, some 0⟩ [] rfl rfl
  obtain ⟨v, hv, hboth⟩ := exec_dbgReadDone_wideReadWaits
  obtain rfl : v = u := Host.Outcome.next.inj (hv.symm.trans hu)
  exact absurd (hboth.symm.trans hanswer) (by simp)

end

section
/-!
SUPPORT. The constants of the immediate ALU instructions (R143), and what an instruction in sequence leaves of G (R120,
R130).
-/

namespace Sys2Proof.Machine

/-- LI with MODE 0b10: the constant stands above 16 zeros. -/
theorem liValue_high (imm : BitVec 16) : liValue 2 imm = imm ++ 0#16 := by
  rw [BitVec.append_def, BitVec.shiftLeftZeroExtend_eq]
  exact (BitVec.or_zero (x := imm.setWidth 32 <<< 16)).symm

theorem Tile.gReg_post (x : Tile) (on : Bool) (pn : BitVec 3) (n : BitVec 5) : (x.post on pn).gReg n = x.gReg n := by
  cases on <;> rfl

theorem Tile.gReg_post2 (x : Tile) (mx my : Bool) (px py : BitVec 3) (n : BitVec 5) :
    (x.post2 mx px my py).gReg n = x.gReg n := by
  unfold Tile.post2
  split
  · exact x.gReg_post ..
  · exact (Tile.gReg_post ..).trans (x.gReg_post ..)

theorem Tile.gReg_advanced (cost : Nat) (x : Tile) (n : BitVec 5) : (Tile.advanced cost x).gReg n = x.gReg n := by
  rw [Tile.advanced_flow]
  rfl

end Sys2Proof.Machine
end

section
open Sys2Proof Sys2Proof.Machine

/-- Settles O18: each is an instruction on registers alone, with the constant of its mode and the flags of its definition. -/
theorem awlImmediates : Obligations.AwlImmediates := by
  intro s t gd ga imm h x a i gives
  refine ⟨.arm (exec_addi ..) (State.issueReg_flagged h rfl),
    .arm (exec_li ..) (State.issueForm_gives h rfl rfl (Tile.sameFlow_self _).setG),
    .arm (exec_li ..) (State.issueForm_gives h rfl rfl (Tile.sameFlow_self _).setG),
    .arm (exec_li ..) (State.issueForm_gives h rfl ?_ (Tile.sameFlow_self _).setG),
    .arm (exec_lui ..) (State.issueReg_gives h ?_ (Tile.sameFlow_self _).setG),
    .arm (exec_cmpi ..) (State.issueReg_gives h rfl (Tile.sameFlow_self _).flags)⟩
  · exact congrArg (x.setG gd) (liValue_high imm)
  · exact congrArg (fun low => x.setG gd (imm ++ low)) (BitVec.setWidth_eq_extractLsb' (by decide))

/-- Settles O20: of the loads' statement, for one register; post-modifies and retirement leave G. -/
theorem ldxyYWins : Obligations.LdxyYWins := by
  intro s t mx my px py g h hx
  obtain ⟨-, hload⟩ := awlLoads s t h
  obtain ⟨⟨u, hu, htile, -⟩, hwins⟩ := hload mx px g my py g hx
  refine ⟨u, hu, ?_⟩
  rw [htile, Tile.gReg_advanced, Tile.gReg_post2]
  exact hwins rfl

end

section
/-!
SUPPORT. The words of the tiles' instructions (R126 to R154): a field of a word that is written as its fields one behind the
other is that field, and the fields that a decoder reads, with the zero fields between them, are the word again.
-/

namespace Sys2Proof.Machine

open Awl

variable {w : Word} {t : Nat} {c : Instr}

/-! ### Fields of words written one behind the other -/

theorem Awl.append_eq_zero_iff {v m : Nat} {x : BitVec v} {y : BitVec m} : x ++ y = 0 ↔ x = 0 ∧ y = 0 := by
  refine ⟨fun h => ?_, fun ⟨hx, hy⟩ => by rw [hx, hy]; exact BitVec.zero_append_zero⟩
  exact ⟨by simpa [BitVec.extractLsb'_append_eq_left] using congrArg (BitVec.extractLsb' m v) h,
    by simpa [BitVec.extractLsb'_append_eq_right] using congrArg (BitVec.extractLsb' 0 m) h⟩

/-- A field that lies across the end of y is zero where its parts are. -/
theorem Awl.across_eq_zero {v m lo n : Nat} {x : BitVec v} {y : BitVec m} (hlo : lo < m) (hn : m < lo + n) :
    ((x ++ y).extractLsb' lo n == 0) = (x.extractLsb' 0 (lo + n - m) == 0 && y.extractLsb' lo (m - lo) == 0) := by
  obtain ⟨k, rfl⟩ : ∃ k, n = k + (m - lo) := ⟨lo + n - m, by omega⟩
  rw [show lo + (k + (m - lo)) - m = k by omega,
    ← BitVec.extractLsb'_append_extractLsb'_eq_extractLsb' (show m = lo + (m - lo) by omega),
    BitVec.extractLsb'_append_eq_of_le le_rfl, BitVec.extractLsb'_append_eq_of_add_le (by omega), Nat.sub_self,
    Bool.eq_iff_iff, Bool.and_eq_true, beq_iff_eq, beq_iff_eq, beq_iff_eq]
  exact append_eq_zero_iff

/-- How a field of a word is read out of its parts, in one rule set: it lies in the last part, above it in the rest, or, where
it is a zero field, in both. -/
theorem Awl.reads :
    (∀ {v m lo n : Nat} {x : BitVec v} {y : BitVec m}, m ≤ lo → (x ++ y).extractLsb' lo n = x.extractLsb' (lo - m) n) ∧
    (∀ {v m lo n : Nat} {x : BitVec v} {y : BitVec m}, lo + n ≤ m → (x ++ y).extractLsb' lo n = y.extractLsb' lo n) ∧
    (∀ {v m lo n : Nat} {x : BitVec v} {y : BitVec m}, lo < m → m < lo + n →
      ((x ++ y).extractLsb' lo n == 0) = (x.extractLsb' 0 (lo + n - m) == 0 && y.extractLsb' lo (m - lo) == 0)) ∧
    (∀ {v lo : Nat} {x : BitVec v}, lo = 0 → x.extractLsb' lo v = x) ∧
    (∀ {v m lo : Nat} {x : BitVec v} {y : BitVec m}, m ≤ lo → (x ++ y).getLsbD lo = x.getLsbD (lo - m)) ∧
    (∀ {v m lo : Nat} {x : BitVec v} {y : BitVec m}, lo < m → (x ++ y).getLsbD lo = y.getLsbD lo) ∧
    (∀ {lo : Nat} {b : Bool}, lo = 0 → (BitVec.ofBool b).getLsbD lo = b) :=
  ⟨BitVec.extractLsb'_append_eq_of_le, BitVec.extractLsb'_append_eq_of_add_le, across_eq_zero,
    fun h => h ▸ BitVec.extractLsb'_eq_self,
    fun h => BitVec.getLsbD_append.trans (if_neg (Nat.not_lt.2 h)), fun h => BitVec.getLsbD_append.trans (if_pos h),
    fun {_ b} h => by cases b <;> rw [h] <;> rfl⟩

/-! ### Decode of encode: the fields that are written are read -/

theorem Awl.decode_eq (h : decodeOp t w = some c) : decode t w = c := by
  rw [decode, h]
  rfl

/-- Group by group, each field that the decoder reads out of the encoding is the operand written there. -/
theorem Awl.decode_encode (hc : canonical c = true) (he : encode c = some w) : ∃ t, decode t w = c := by
  cases c with
  | nop t v =>
    cases he
    exact ⟨t, by rw [decode, Option.isNone_iff_eq_none.1 hc]; rfl⟩
  | waitb t done =>
    cases he
    obtain rfl : done = 0 := beq_iff_eq.1 hc
    exact ⟨t, decode_eq rfl⟩
  | rpt t r count gc | rptb t r endOfs count gc =>
    cases he
    refine ⟨t, decode_eq ?_⟩
    cases r <;> cases beq_iff_eq.1 hc <;>
    simp (disch := decide) only [decodeOp, decodeControl, bits, flag, zero, word, if_true, Bool.false_eq_true, if_false,
      reads, BitVec.reduceToNat] <;> rfl
  | br t ind target gs | call t ind target gs =>
    cases he
    refine ⟨t, decode_eq ?_⟩
    cases ind <;> cases beq_iff_eq.1 hc <;>
    simp (disch := decide) only [decodeOp, decodeControl, bits, flag, zero, word, bodyBranch, if_true,
      Bool.false_eq_true, if_false, reads, BitVec.reduceToNat] <;> rfl
  | brc t | ret t =>
    cases he
    refine ⟨t, decode_eq ?_⟩
    simp (disch := decide) only [decodeOp, decodeControl, bits, zero, word, reads, BitVec.reduceToNat]
    rfl
  | fence t gd sel age =>
    cases he
    obtain rfl : age = 0 := beq_iff_eq.1 hc
    refine ⟨t, decode_eq ?_⟩
    simp (disch := decide) only [decodeOp, decodeControl, bits, zero, word, reads, BitVec.reduceToNat]
    rfl
  | ld t | st t | ldx t | ldy t | ldxy t =>
    cases he
    refine ⟨t, decode_eq ?_⟩
    simp (disch := decide) only [decodeOp, decodeMem, bits, flag, zero, word, bodyMem, reads, BitVec.reduceToNat]
    rfl
  | add t | sub t | and t | or t | xor t | shl t | shr t | asr t | min t | max t | abs t | neg t | cmp t =>
    cases he
    refine ⟨t, decode_eq ?_⟩
    simp (disch := decide) only [decodeOp, decodeAlu, bits, flag, zero, word, bodyAlu, reads, BitVec.reduceToNat]
    rfl
  | addi t | li t | lui t | cmpi t =>
    cases he
    refine ⟨t, decode_eq ?_⟩
    simp (disch := decide) only [decodeOp, decodeImm, bits, zero, bodyImm, reads, BitVec.reduceToNat] <;> rfl
  | mpy t | mac t | msu t | macxy t =>
    cases he
    refine ⟨t, decode_eq ?_⟩
    simp (disch := decide) only [decodeOp, decodeMul, bits, flag, zero, word, bodyMul, reads, BitVec.reduceToNat]
    rfl
  | tapm t =>
    cases he
    refine ⟨t, decode_eq ?_⟩
    simp (disch := decide) only [decodeOp, decodeTap, bits, flag, zero, reads, BitVec.reduceToNat]
    rfl
  | sacc t | clra t | mova t | sha t | adda t =>
    cases he
    refine ⟨t, decode_eq ?_⟩
    simp (disch := decide) only [decodeOp, decodeAcc, bits, flag, zero, word, reads, BitVec.reduceToNat]
    rfl
  | skv t | biq t | gramp t | peak t | silchk t =>
    cases he
    refine ⟨t, decode_eq ?_⟩
    simp (disch := decide) only [decodeOp, decodeSpecial, bits, flag, zero, word, reads, BitVec.reduceToNat]
    rfl
  | inp t | outp t | parm t =>
    cases he
    refine ⟨t, decode_eq ?_⟩
    simp (disch := decide) only [decodeOp, decodeBlock, bits, flag, zero, word, bodyChan, reads,
      BitVec.reduceToNat] <;> rfl
  | setp t n mode | setm t n mode | setl t n mode =>
    cases he
    have hset : (mode != 2) = true := hc
    refine ⟨t, decode_eq ?_⟩
    simp (disch := decide) only [decodeOp, decodePointer, setOrGet, bits, zero, word, bodySet, hset, bne_iff_ne.1 hset,
      reads, BitVec.reduceToNat]
    rfl
  | getp t | addp t | getm t | getl t =>
    cases he
    refine ⟨t, decode_eq ?_⟩
    simp (disch := decide) only [decodeOp, decodePointer, setOrGet, bits, zero, word, bodySet, reads, BitVec.reduceToNat]
    rfl
  | _ => cases he

/-! ### Encode of decode: the fields that are read stand behind one another -/

theorem Awl.bits_append {n m lo lo' : Nat} (h : lo' = lo + m) : bits w lo' n ++ bits w lo m = bits w lo (n + m) :=
  BitVec.extractLsb'_append_extractLsb'_eq_extractLsb' h

theorem Awl.append_bits {n m lo lo' : Nat} {x : BitVec n} {y : BitVec m} (hx : x = bits w lo' n) (hy : y = bits w lo m)
    (h : lo' = lo + m) : x ++ y = bits w lo (n + m) := hx ▸ hy ▸ bits_append h

theorem Awl.ofBool_flag {lo : Nat} : BitVec.ofBool (flag w lo) = bits w lo 1 := by
  ext i hi
  obtain rfl : i = 0 := Nat.lt_one_iff.1 hi
  simp [flag, bits]

theorem Awl.ofBool_bits {lo : Nat} {r : Bool} (h : flag w lo = r) : BitVec.ofBool r = bits w lo 1 := h ▸ ofBool_flag

theorem Awl.zero_bits {lo n : Nat} (h : zero w lo n = true) : 0#n = bits w lo n := (beq_iff_eq.1 h).symm

/-- A part of a zero field. -/
theorem Awl.zero_part {lo n : Nat} (h : zero w lo n = true) (lo' n' : Nat) (hlo : lo ≤ lo' := by decide)
    (hn : lo' + n' ≤ lo + n := by decide) : 0#n' = bits w lo' n' := by
  ext i hi
  have hbit := congrArg (BitVec.getLsbD · (lo' + i - lo)) (zero_bits h)
  simp only [bits, BitVec.getLsbD_extractLsb', BitVec.getLsbD_zero] at hbit
  rw [show lo + (lo' + i - lo) = lo' + i by omega, decide_eq_true (by omega)] at hbit
  simpa [bits] using hbit

/-- The word of a group, a function code and the 24 bits behind them, where these are its own. -/
theorem Awl.word_bits {g f : Nat} {b : BitVec 24} (hg : (bits w 28 4).toNat = g) (hf : (bits w 24 4).toNat = f)
    (hb : b = bits w 0 24) : some (word (BitVec.ofNat 4 g) (BitVec.ofNat 4 f) b) = some w := by
  rw [← hg, ← hf, hb, BitVec.ofNat_toNat, BitVec.ofNat_toNat, BitVec.setWidth_eq, BitVec.setWidth_eq, word]
  simp only [bits_append]
  exact congrArg some BitVec.extractLsb'_eq_self

/-- What a decoder answers for a word is encoded as that word. -/
def Awl.Spells (w : Word) (o : Option Instr) : Prop := ∀ c, o = some c → encode c = some w

theorem Awl.Spells.none : Spells w .none := fun c h => absurd h.symm (Option.some_ne_none c)

theorem Awl.Spells.some (h : encode c = .some w) : Spells w (.some c) := fun _ e => Option.some.inj e ▸ h

theorem Awl.Spells.given {ok : Bool} (h : ok = true → encode c = .some w) : Spells w (given ok c) := by
  cases ok with
  | false => exact .none
  | true => exact .some (h rfl)

theorem Awl.Spells.byFlag {lo : Nat} {o o' : Option Instr} (h : flag w lo = true → Spells w o)
    (h' : flag w lo = false → Spells w o') : Spells w (if flag w lo then o else o') := by
  cases hr : flag w lo with
  | false => exact h' hr
  | true => exact h hr

/-! ### The layouts, out of the fields that the decoder reads -/

theorem Awl.bodyMem_bits (hz : zero w 8 6 = true) :
    bodyMem (bits w 22 2) (bits w 19 3) (bits w 14 5) (bits w 0 8) = bits w 0 24 := by
  simp only [bodyMem, zero_bits hz, bits_append]

/-- The layout of the ALU, with the fields that an instruction does not use zero. -/
theorem Awl.bodyAlu_bits {gd ga gb : BitVec 5} {imm : Bool} (hd : gd = bits w 19 5) (ha : ga = bits w 14 5)
    (hb : gb = bits w 9 5) (hi : BitVec.ofBool imm = bits w 8 1) (hz : 0#8 = bits w 0 8) :
    bodyAlu gd ga gb imm = bits w 0 24 := by
  simp only [bodyAlu, hd, ha, hb, hi, hz, bits_append]

theorem Awl.bodyAlu_regs (hz : zero w 0 9 = true) :
    bodyAlu (bits w 19 5) (bits w 14 5) (bits w 9 5) false = bits w 0 24 :=
  bodyAlu_bits rfl rfl rfl (zero_part hz 8 1) (zero_part hz 0 8)

theorem Awl.bodyAlu_shift (hz : zero w 0 8 = true) :
    bodyAlu (bits w 19 5) (bits w 14 5) (bits w 9 5) (flag w 8) = bits w 0 24 :=
  bodyAlu_bits rfl rfl rfl ofBool_flag (zero_bits hz)

theorem Awl.bodyAlu_unary (hz : zero w 0 14 = true) : bodyAlu (bits w 19 5) (bits w 14 5) 0 false = bits w 0 24 :=
  bodyAlu_bits rfl rfl (zero_part hz 9 5) (zero_part hz 8 1) (zero_part hz 0 8)

theorem Awl.bodyMul_bits (hz : zero w 0 12 = true) :
    bodyMul (bits w 22 2) (bits w 17 5) (bits w 12 5) = bits w 0 24 := by
  simp only [bodyMul, zero_bits hz, bits_append]

theorem Awl.bodyBranch_direct (hr : flag w 23 = false) (hz : zero w 14 9 = true) :
    bodyBranch false (bits w 0 14) 0 = bits w 0 24 := by
  simp only [bodyBranch, Bool.false_eq_true, if_false, ofBool_bits hr, zero_bits hz, bits_append]

theorem Awl.bodyBranch_indirect (hr : flag w 23 = true) (hz : zero w 5 18 = true) :
    bodyBranch true 0 (bits w 0 5) = bits w 0 24 :=
  append_bits (append_bits (ofBool_bits hr) (zero_part hz 14 9) rfl) (append_bits (zero_part hz 5 9) rfl rfl) rfl

theorem Awl.bodyChan_bits (hz : zero w 11 4 = true) :
    bodyChan (bits w 21 3) (flag w 20) (bits w 15 5) (bits w 0 11) = bits w 0 24 := by
  simp only [bodyChan, ofBool_flag, zero_bits hz, bits_append]

theorem Awl.bodySet_bits {mode : BitVec 2} {imm : BitVec 16} (hz : zero w 16 3 = true) (hm : mode = bits w 19 2)
    (hi : imm = bits w 0 16) : bodySet (bits w 21 3) mode imm = bits w 0 24 := by
  simp only [bodySet, hm, hi, zero_bits hz, bits_append]

theorem Awl.bodyImm_bits {f : Nat} {gd ga : BitVec 5} (hg : (bits w 28 4).toNat = 3) (hf : (bits w 26 2).toNat = f)
    (hd : gd = bits w 21 5) (ha : ga = bits w 16 5) :
    some (bodyImm (BitVec.ofNat 2 f) gd ga (bits w 0 16)) = some w := by
  have hgroup : 3#4 = bits w 28 4 := BitVec.eq_of_toNat_eq hg.symm
  rw [← hf, BitVec.ofNat_toNat, BitVec.setWidth_eq, bodyImm, hd, ha, hgroup]
  simp only [bits_append]
  exact congrArg some BitVec.extractLsb'_eq_self

/-! ### The groups of the decoder (R133 to R154) -/

theorem Awl.decodeControl_spells (hg : (bits w 28 4).toNat = 0) : Spells w (decodeControl t w) := by
  unfold decodeControl
  split
  next hf => exact .given fun hz => word_bits hg hf (zero_bits hz)
  next hf =>
    refine .byFlag (fun hr => .given fun hz => word_bits hg hf ?_) fun hr => .given fun hz => word_bits hg hf ?_
    · simp only [if_true, ofBool_bits hr, zero_part hz 16 7, zero_part hz 5 11, bits_append]
    · simp only [Bool.false_eq_true, if_false, ofBool_bits hr, zero_bits hz, bits_append]
  next hf =>
    refine .byFlag (fun hr => .given fun hz => word_bits hg hf ?_) fun hr => .some (word_bits hg hf ?_)
    · simp only [if_true, ofBool_bits hr, zero_bits hz, bits_append]
    · simp only [Bool.false_eq_true, if_false, ofBool_bits hr, bits_append]
  next hf =>
    exact .byFlag (fun hr => .given fun hz => word_bits hg hf (bodyBranch_indirect hr hz))
      fun hr => .given fun hz => word_bits hg hf (bodyBranch_direct hr hz)
  next hf => exact .given fun hz => word_bits hg hf (append_bits (append_bits rfl (zero_bits hz) rfl) rfl rfl)
  next hf =>
    exact .byFlag (fun hr => .given fun hz => word_bits hg hf (bodyBranch_indirect hr hz))
      fun hr => .given fun hz => word_bits hg hf (bodyBranch_direct hr hz)
  next hf => exact .given fun hz => word_bits hg hf (zero_bits hz)
  next hf => exact .given fun hz => word_bits hg hf (append_bits (append_bits rfl (zero_bits hz) rfl) rfl rfl)
  next => exact .none

theorem Awl.decodeMem_spells (hg : (bits w 28 4).toNat = 1) : Spells w (decodeMem t w) := by
  unfold decodeMem
  split
  iterate 4
    next hf => exact .given fun hz => word_bits hg hf (bodyMem_bits hz)
  next hf =>
    refine .given fun hz => word_bits hg hf ?_
    simp only [ofBool_flag, zero_bits hz, bits_append]
  next => exact .none

theorem Awl.decodeAlu_spells (hg : (bits w 28 4).toNat = 2) : Spells w (decodeAlu t w) := by
  unfold decodeAlu
  split
  iterate 5
    next hf => exact .given fun hz => word_bits hg hf (bodyAlu_regs hz)
  iterate 3
    next hf => exact .given fun hz => word_bits hg hf (bodyAlu_shift hz)
  iterate 2
    next hf => exact .given fun hz => word_bits hg hf (bodyAlu_regs hz)
  iterate 2
    next hf => exact .given fun hz => word_bits hg hf (bodyAlu_unary hz)
  next hf =>
    refine .given fun hz => word_bits hg hf ?_
    obtain ⟨hz, hd⟩ := Bool.and_eq_true_iff.1 hz
    exact bodyAlu_bits (zero_bits hd) rfl rfl (zero_part hz 8 1) (zero_part hz 0 8)
  next => exact .none

theorem Awl.decodeImm_spells (hg : (bits w 28 4).toNat = 3) : Spells w (decodeImm t w) := by
  unfold decodeImm
  split
  next hf => exact .some (bodyImm_bits hg hf rfl rfl)
  next hf => exact .given fun hz => bodyImm_bits hg hf rfl (append_bits (zero_bits hz) rfl rfl)
  next hf => exact .given fun hz => bodyImm_bits hg hf rfl (zero_bits hz)
  next h0 h1 h2 =>
    simp only [imp_false] at h0 h1 h2
    have hf : (bits w 26 2).toNat = 3 := by omega
    exact .given fun hz => bodyImm_bits hg hf (zero_bits hz) rfl

theorem Awl.decodeMul_spells (hg : (bits w 28 4).toNat = 4) : Spells w (decodeMul t w) := by
  unfold decodeMul
  split
  iterate 3
    next hf => exact .given fun hz => word_bits hg hf (bodyMul_bits hz)
  next hf =>
    refine .given fun hz => word_bits hg hf ?_
    simp only [ofBool_flag, zero_bits hz, bits_append]
  next => exact .none

theorem Awl.decodeTap_spells (hg : (bits w 28 4).toNat = 5) : Spells w (decodeTap t w) := by
  refine .given fun hz => ?_
  have hgroup : 5#4 = bits w 28 4 := BitVec.eq_of_toNat_eq hg.symm
  refine congrArg some (Eq.trans (b := bits w 0 32) ?_ BitVec.extractLsb'_eq_self)
  simp only [hgroup, ofBool_flag, zero_bits hz, bits_append]

theorem Awl.decodeAcc_spells (hg : (bits w 28 4).toNat = 6) : Spells w (decodeAcc t w) := by
  unfold decodeAcc
  split
  iterate 5
    next hf =>
      refine .given fun hz => word_bits hg hf ?_
      simp only [ofBool_flag, zero_bits hz, bits_append]
  next => exact .none

theorem Awl.decodeSpecial_spells (hg : (bits w 28 4).toNat = 7) : Spells w (decodeSpecial t w) := by
  unfold decodeSpecial
  split
  iterate 5
    next hf =>
      refine .given fun hz => word_bits hg hf ?_
      simp only [ofBool_flag, zero_bits hz, bits_append]
  next => exact .none

theorem Awl.decodeBlock_spells (hg : (bits w 28 4).toNat = 8) : Spells w (decodeBlock t w) := by
  unfold decodeBlock
  split
  iterate 2
    next hf => exact .given fun hz => word_bits hg hf (bodyChan_bits hz)
  next hf =>
    refine .some (word_bits hg hf ?_)
    simp only [ofBool_flag, bits_append]
  next => exact .none

/-- A set or a read of a pointer register, by the words that they are encoded as. -/
theorem Awl.setOrGet_spells {f : Nat} {get set : Instr} (hg : (bits w 28 4).toNat = 9) (hf : (bits w 24 4).toNat = f)
    (hset : encode set = some (word 9 (BitVec.ofNat 4 f) (bodySet (bits w 21 3) (bits w 19 2) (bits w 0 16))))
    (hget : encode get = some (word 9 (BitVec.ofNat 4 f) (bodySet (bits w 21 3) 2 (0#11 ++ bits w 0 5)))) :
    Spells w (setOrGet w set get) := by
  refine .given fun hz => ?_
  obtain ⟨hz, hread⟩ := Bool.and_eq_true_iff.1 hz
  split
  next hm =>
    have hunused : zero w 5 11 = true := (Bool.or_eq_true_iff.1 hread).resolve_left fun h => bne_iff_ne.1 h hm
    exact hget.trans (word_bits hg hf (bodySet_bits hz hm.symm (append_bits (zero_bits hunused) rfl rfl)))
  next => exact hset.trans (word_bits hg hf (bodySet_bits hz rfl rfl))

theorem Awl.decodePointer_spells (hg : (bits w 28 4).toNat = 9) : Spells w (decodePointer t w) := by
  unfold decodePointer
  split
  next hf => exact setOrGet_spells hg hf rfl rfl
  next hf =>
    refine .given fun hz => word_bits hg hf ?_
    simp only [zero_bits hz, bits_append]
  next hf => exact setOrGet_spells hg hf rfl rfl
  next hf => exact setOrGet_spells hg hf rfl rfl
  next => exact .none

theorem Awl.decodeOp_spells : Spells w (decodeOp t w) := by
  unfold decodeOp
  split
  next hg => exact decodeControl_spells hg
  next hg => exact decodeMem_spells hg
  next hg => exact decodeAlu_spells hg
  next hg => exact decodeImm_spells hg
  next hg => exact decodeMul_spells hg
  next hg => exact decodeTap_spells hg
  next hg => exact decodeAcc_spells hg
  next hg => exact decodeSpecial_spells hg
  next hg => exact decodeBlock_spells hg
  next hg => exact decodePointer_spells hg
  next => exact .none

theorem Awl.encode_decode (t : Nat) (w : Word) : encode (decode t w) = some w := by
  unfold decode
  cases h : decodeOp t w with
  | none => rfl
  | some c => exact decodeOp_spells c h

end Sys2Proof.Machine
end

section
open Sys2Proof Sys2Proof.Machine

/-- Settles O30: each encoding reads back field by field, and the fields of each word are the word again. -/
theorem awlWords : Obligations.AwlWords := ⟨fun _ _ => Awl.decode_encode, Awl.encode_decode⟩

end

section
/-!
SUPPORT. DIRECT changes and held staging writes: what a submission does by the present target, and what reaches a tile's
banks (R112, R162 to R165, R177).
-/

namespace Sys2Proof.Machine

variable {s : State} {m : Master} {v : Word} {t : Nat}

/-! ### The active bank -/

theorem Kept.writeActive {A : List Area} {w : FKey → Prop} {k : Nat → Prop} {x : State} {slot : Nat} (h1 : Area.tiles ∈ A)
    (h : Kept A w k s x) : Kept A w k s (x.writeActive t slot v) := .setTile h1 h

theorem State.tile_writeActive_ne (s : State) {t j : Nat} (slot : Nat) (v : Word) (h : j ≠ t) :
    (s.writeActive t slot v).tile j = s.tile j := State.tile_setTile_ne _ _ h

/-- The value written is the active bank's, whether or not the inactive one takes it too. -/
theorem State.activeParam_writeActive (s : State) (t slot : Nat) (v : Word) :
    (s.writeActive t slot v).activeParam t slot = v := by
  unfold State.activeParam State.writeActive
  rw [State.setTile_flag, State.tile_setTile]
  split
  · rw [Tile.param_setParam_other, Tile.param_setParam_same, if_pos rfl]
  · rw [Tile.param_setParam_same, if_pos rfl]

/-! ### Submission -/

theorem State.directOf_param (v : Word) (h : s.get Pg.mix MIX.DIRECT_TGT_KIND = 0) :
    s.directOf v = .param (s.get Pg.mix MIX.DIRECT_TGT_TILE) (s.get Pg.mix MIX.DIRECT_TGT_SLOT_DEST % 4096) v := if_pos h

theorem State.tile?_directOf_gain (v : Word) (h : s.get Pg.mix MIX.DIRECT_TGT_KIND = 1) :
    Direct.tile? (s.directOf v) = some (s.get Pg.mix MIX.DIRECT_TGT_TILE) := by
  rw [State.directOf, h]; rfl

theorem State.tile?_directOf_route (v : Word) (h : s.get Pg.mix MIX.DIRECT_TGT_KIND = 2) :
    Direct.tile? (s.directOf v) = none := by
  rw [State.directOf, h]; rfl

/-- The change is not one that submission refuses. -/
abbrev State.admitsDirect (s : State) (v : Word) : Prop :=
  s.mixEnabled = true ∧ s.mix.direct.length < 64 ∧ s.get Pg.mix MIX.DIRECT_TGT_KIND ≠ 3 ∧ s.directBad (s.directOf v) = false

theorem State.admitsDirect_not_refused (h : s.admitsDirect v) : ¬ (!s.mixEnabled || decide (64 ≤ s.mix.direct.length) ||
    decide (s.get Pg.mix MIX.DIRECT_TGT_KIND = 3) || s.directBad (s.directOf v)) = true := by
  obtain ⟨he, hl, hk, hb⟩ := h
  simp [he, hk, hb, Nat.not_le_of_lt hl]

/-- A change of a route, or for a tile with work, queues behind the others. -/
theorem State.submitDirect_queues (h : s.admitsDirect v)
    (hw : ∀ t, Direct.tile? (s.directOf v) = some t → s.hasWork t = true) :
    s.submitDirect v = s.onMix fun m => { m with direct := m.direct ++ [s.directOf v] } := by
  rw [State.submitDirect, if_neg (State.admitsDirect_not_refused h)]
  split
  · rename_i t ht
    exact if_pos (hw t ht)
  · rfl

/-- A change for a tile without work is applied at once. -/
theorem State.submitDirect_applies (h : s.admitsDirect v) (ht : Direct.tile? (s.directOf v) = some t)
    (hw : s.hasWork t = false) : s.submitDirect v = s.applyDirect (s.directOf v) := by
  rw [State.submitDirect, if_neg (State.admitsDirect_not_refused h), ht]
  exact if_neg (by rw [hw]; exact Bool.false_ne_true)

theorem State.submitDirect_full (v : Word) (h : 64 ≤ s.mix.direct.length) : s.submitDirect v = s.directRefused :=
  if_pos (by simp [h])

/-! ### Writes of DIRECT_VAL -/

theorem State.directWrite_submits {kind : Nat} (h : s.takes m Pg.mix) (hk : s.get Pg.mix MIX.DIRECT_TGT_KIND = kind) :
    s.directWrite m kind v = .next (((s.abandonUnlock Pg.mix).submitDirect v).answer (.ok [])) := by
  rw [State.directWrite, State.writeTo_takes h, State.abandonUnlock_get, if_pos hk]

theorem State.directWrite_queues {kind : Nat} (h : s.takes m Pg.mix) (hk : s.get Pg.mix MIX.DIRECT_TGT_KIND = kind)
    (ha : s.admitsDirect v) (hw : ∀ t, Direct.tile? (s.directOf v) = some t → s.hasWork t = true) :
    ∃ u, s.directWrite m kind v = .next u ∧ Wrote Pg.mix s u ∧
      u.mix = { s.mix with direct := s.mix.direct ++ [s.directOf v] } ∧ Kept [.resp, .ctrl, .mix] (fields []) noByte s u := by
  have hq := State.submitDirect_queues (s := s.abandonUnlock Pg.mix) ha hw
  rw [State.directWrite_submits h hk, hq]
  exact ⟨_, rfl, State.wrote_answer rfl, rfl, .answer (by decide) (.onMix (by decide) (.abandonUnlock (by decide) .rfl'))⟩

theorem State.directWrite_full {kind : Nat} (h : s.takes m Pg.mix) (hk : s.get Pg.mix MIX.DIRECT_TGT_KIND = kind)
    (hl : 64 ≤ s.mix.direct.length) :
    ∃ u, s.directWrite m kind v = .next u ∧ Wrote Pg.mix s u ∧ u.evt Pg.mix 0 = true ∧
      u.get Pg.mix MIX.DIRECT_REFUSED = min (s.get Pg.mix MIX.DIRECT_REFUSED + 1) 0xFFFFFFFF ∧
      Kept [.resp, .ctrl, .msix] (fields [fkey Pg.mix MIX.DIRECT_REFUSED 0, fkey Pg.mix PG.EVT 0]) noByte s u := by
  have hr := State.submitDirect_full (s := s.abandonUnlock Pg.mix) v hl
  rw [State.directWrite_submits h hk, hr, State.directRefused]
  refine ⟨_, rfl, State.wrote_answer (State.event_ctrl ..), State.evt_event_same (State.present_mix _) 0 (by decide), ?_, ?_⟩
  · rw [State.answer_get, State.get_event_off _ _ _ (by decide), State.get_count_same]
    rfl
  · exact .answer (by decide) (.event (by decide) (by simp [fields])
      (.count (by simp [fields]) (.abandonUnlock (by decide) .rfl')))

/-- A parameter for a tile without work reaches its active bank with the write. -/
theorem State.directWrite_applies (h : s.takes m Pg.mix) (hk : s.get Pg.mix MIX.DIRECT_TGT_KIND = 0)
    (ha : s.admitsDirect v) (hw : s.hasWork (s.get Pg.mix MIX.DIRECT_TGT_TILE) = false) :
    s.directWrite m 0 v = .next (((s.abandonUnlock Pg.mix).writeActive (s.get Pg.mix MIX.DIRECT_TGT_TILE)
      (s.get Pg.mix MIX.DIRECT_TGT_SLOT_DEST % 4096) v).answer (.ok [])) := by
  have hd := State.directOf_param (s := s.abandonUnlock Pg.mix) v hk
  have ht := congrArg Direct.tile? hd
  have hq := State.submitDirect_applies (s := s.abandonUnlock Pg.mix) ha ht hw
  rw [State.directWrite_submits h hk, hq, hd]
  rfl

/-! ### Between passes, and at the end of a ramp -/

/-- The one parameter that waits for a tile reaches its active bank. -/
theorem exec_directApply_param {slot : Nat} (ht : t < 256) (hp : s.betweenPasses t = true)
    (hq : (s.mix.direct.filter fun c => Direct.tile? c == some t) = [.param t slot v]) :
    exec (.directApply t) s = .next ((s.onMix fun m =>
      { m with direct := m.direct.filter fun c => Direct.tile? c != some t }).writeActive t slot v) := by
  rw [exec_directApply, execDirectApply, guardWf_of (decide_eq_true ht), whenHolds_of hp, State.applyQueued, hq]
  rfl

/-- The one staging write that is held for a tile is placed. -/
theorem exec_stagingRelease_places {r : StageRec} (ht : t < 256) (hb : s.flag (Pg.awl t) AWL.PSTAT_RAMP_BUSY = false)
    (hh : (s.mix.held.filter fun r => r.tile == t) = [r]) :
    exec (.stagingRelease t) s =
      .next ((s.onMix fun m => { m with held := m.held.filter fun r => r.tile ≠ t }).placeStaged r) := by
  rw [exec_stagingRelease, execStagingRelease, guardWf_of (decide_eq_true ht), whenHolds_of (by rw [hb]; rfl),
    State.releaseStaging, hh]
  rfl

theorem Kept.placeStaged {A : List Area} {w : FKey → Prop} {k : Nat → Prop} {x : State} {r : StageRec} (h1 : Area.mix ∈ A)
    (h2 : Area.tiles ∈ A) (h : Kept A w k s x) : Kept A w k s (x.placeStaged r) := by
  unfold State.placeStaged
  exact .onMix h1 (.setTile h2 h)

theorem State.tile_placeStaged_ne (s : State) (r : StageRec) {j : Nat} (h : j ≠ r.tile) :
    (s.placeStaged r).tile j = s.tile j := State.tile_setTile_ne _ _ h

theorem State.param_placeStaged (s : State) (r : StageRec) :
    ((s.placeStaged r).tile r.tile).param (!s.flag (Pg.awl r.tile) AWL.PSTAT_ACTIVE_BANK) r.slot = r.value := by
  have htile : (s.placeStaged r).tile r.tile =
      (s.tile r.tile).setParam (!s.flag (Pg.awl r.tile) AWL.PSTAT_ACTIVE_BANK) r.slot r.value := State.tile_setTile ..
  rw [htile, Tile.param_setParam_same, if_pos rfl]

theorem State.mem_stageSlots_placeStaged (s : State) (r : StageRec) : (r.tile, r.slot) ∈ (s.placeStaged r).mix.stageSlots := by
  rw [State.placeStaged, State.onMix_mix]
  dsimp only
  split
  · rename_i h
    exact List.contains_iff_mem.mp h
  · exact List.mem_append_right _ (List.mem_singleton_self _)

end Sys2Proof.Machine
end

section
open Sys2Proof Sys2Proof.Machine

/-- Settles O41: a submission queues, is applied or is refused by its target and the queue, and what waits for a tile
reaches its banks by one write (R112, R162 to R165, R177). -/
theorem directChanges : Obligations.DirectChanges := by
  intro s m v
  refine ⟨fun ht he hl hb => ?_, fun ht hl => ?_, ?_, ?_⟩
  · have admits {kind : Nat} (hk : s.get Pg.mix MIX.DIRECT_TGT_KIND = kind) (h3 : kind ≠ 3) : s.admitsDirect v :=
      ⟨he, hl, hk ▸ h3, hb⟩
    refine ⟨fun hk hw => ?_, fun hk hw => ?_, fun hk => ?_, fun hk hw => ?_⟩
    · refine State.directWrite_queues ht hk (admits hk (by decide)) fun t h => ?_
      rw [State.directOf_param v hk] at h
      exact Option.some.inj h ▸ hw
    · refine State.directWrite_queues ht hk (admits hk (by decide)) fun t h => ?_
      rw [State.tile?_directOf_gain v hk] at h
      exact Option.some.inj h ▸ hw
    · refine State.directWrite_queues ht hk (admits hk (by decide)) fun t h => ?_
      rw [State.tile?_directOf_route v hk] at h
      exact nomatch h
    · refine ⟨_, State.directWrite_applies ht hk (admits hk (by decide)) hw, State.wrote_answer rfl,
        State.activeParam_writeActive .., fun j hj => State.tile_writeActive_ne _ _ _ hj, ?_⟩
      exact .answer (by decide) (.writeActive (by decide) (.abandonUnlock (by decide) .rfl'))
  · exact ⟨fun hk => State.directWrite_full ht hk hl, fun hk => State.directWrite_full ht hk hl,
      fun hk => State.directWrite_full ht hk hl⟩
  · intro t slot ht _ hp hq
    exact ⟨_, exec_directApply_param ht hp hq, rfl, State.activeParam_writeActive ..,
      fun j hj => State.tile_writeActive_ne _ _ _ hj, .writeActive (by decide) (.onMix (by decide) .rfl')⟩
  · intro t slot gain ht _ hb hh
    refine ⟨_, exec_stagingRelease_places ht hb hh, rfl, State.param_placeStaged .., State.mem_stageSlots_placeStaged ..,
      fun j hj => State.tile_placeStaged_ne _ _ hj, ?_⟩
    exact .placeStaged (by decide) (by decide) (.onMix (by decide) .rfl')

end

section
/-!
SUPPORT. The fade of a bridge that unlocks (R183), and what refutes O43: a locked bridge whose output still fades in.
-/

namespace Sys2Proof.Machine

variable {s : State}

theorem State.bridgeHz_set_state (s : State) (b n : Nat) :
    (s.set Pg.mix MIX.BRG_STAT_STATE n b).bridgeHz b = s.bridgeHz b := by
  rw [State.bridgeHz, State.bridgeHz, State.domHz, State.domHz, State.get_set_page _ _ (by decide),
    State.get_set_off _ _ (by decide)]

/-- A bridge's fade to zero starts from what stands at its output: behind a fade-in, from the level that it has reached. -/
theorem State.unlockBridge_fade {b : Nat} (h : s.bridgeState b = Brg.locked) :
    SMap.find? (s.unlockBridge b).mix.fades (s.bridgeDst b) =
      some (fadeFrom (SMap.find? s.mix.fades (s.bridgeDst b)) (samplesOf 1 (s.bridgeHz b))) := by
  have hdst : (s.set Pg.mix MIX.BRG_STAT_STATE Brg.hold b).bridgeDst b = s.bridgeDst b :=
    State.get_set_off _ _ (by decide)
  rw [State.unlockBridge, if_pos (by rw [h]; rfl), State.raise_mix, State.event_mix, State.count_mix, State.onMix_mix,
    hdst, State.bridgeHz_set_state]
  exact find?_nset_same ..

theorem exec_bridgeUnlock_next {b : Nat} (h : b < s.bridgeCount) : exec (.bridgeUnlock b) s = .next (s.unlockBridge b) := by
  have hb : b < 512 := Nat.lt_of_lt_of_le h (by unfold State.bridgeCount; split <;> decide)
  rw [exec_bridgeUnlock, execBridgeUnlock, State.guardPart, guardWf_of (decide_eq_true hb), if_pos (decide_eq_true h)]

/-- Bridge 0 is LOCKED, and a fade-in at its output, patch point 4, has reached a quarter of the level. -/
def lockedFadingIn : State :=
  ((State.reset.set Pg.mix MIX.BRG_STAT_STATE Brg.locked).set Pg.mix MIX.BRG_CFG_DST 4).onMix fun m =>
    { m with fades := [(4, .fadeIn 1 4)] }

theorem lockedFadingIn_locked : lockedFadingIn.bridgeState 0 = Brg.locked := rfl

theorem lockedFadingIn_fade : SMap.find? lockedFadingIn.mix.fades (lockedFadingIn.bridgeDst 0) = some (.fadeIn 1 4) := rfl

end Sys2Proof.Machine
end

section
open Sys2Proof Sys2Proof.Machine

/-- Refutes O43: a locked bridge at whose output a fade-in stands fades out from the level that the fade-in has reached, where
the third clause has the fade-out alone at its output. -/
theorem not_mixEvents : ¬ Obligations.MixEvents := by
  intro h
  obtain ⟨-, -, hunlock, -⟩ := h lockedFadingIn
  obtain ⟨u, hu, -, -, -, hfade, -⟩ := hunlock 0 (by decide) lockedFadingIn_locked
  obtain rfl : lockedFadingIn.unlockBridge 0 = u :=
    Host.Outcome.next.inj ((exec_bridgeUnlock_next (by decide)).symm.trans hu)
  rw [State.unlockBridge_fade lockedFadingIn_locked, lockedFadingIn_fade] at hfade
  exact nomatch Option.some.inj hfade

end

section
open Sys2Proof Sys2Proof.Machine

/-- Settles O5: every step is steady in memory's canonical form. -/
theorem memoryKept : Obligations.MemoryKept := fun _ _ hw hs => (step_steady hs).mem hw

end

section
/-!
SUPPORT. What refutes O48, O49 and O50: a slot that a running wipe takes in HOST's place (R195, R209), a region of the sweep
that a running wipe passes over (R203, R209), and a CAUSE beyond its field.
-/

namespace Sys2Proof.Machine

variable {s : State}

/-! ### A slot that a wipe takes -/

/-- Where something waits in an awake segment, an access slot without new errors is the bank's slot. -/
theorem exec_girthAccess_slot {b : Nat} (hb : b < s.bankCount) (hw : (s.bank b).waiting.isEmpty = false)
    (hr : s.retained (b / s.banksPerSegment) = false) (hk : s.waking (b / s.banksPerSegment) = false) :
    exec (.girthAccess b []) s = .next (s.slot b).settleRetention := by
  have h64 : b < 64 := Nat.lt_of_lt_of_le hb (by unfold State.bankCount; split <;> decide)
  have hs : s.upsets [] = s := rfl
  rw [exec_girthAccess, execGirthAccess, State.guardPart, guardWf_of (decide_eq_true h64), if_pos (decide_eq_true hb),
    List.filter_nil, hs]
  dsimp only
  rw [whenHolds_of (by rw [hw]; rfl), if_neg (by rw [hk]; decide), if_neg (by rw [hr]; decide)]

/-- A bank that serves nothing in a slot, and that nothing contends for, keeps what waits there, a slot older. -/
theorem State.slot_waiting_of_choose_none {b : Nat} (hl : s.losers b = [])
    (hc : (s.bank b).choose (s.wipeNeeds b) = none) (hp : (s.bank b).ports.isEmpty = false) :
    ((s.slot b).bank b).waiting = ageHeads 4 (s.bank b).waiting := by
  have hs : s.shadowLosers b (b / s.banksPerSegment) = s := by rw [State.shadowLosers, hl]; rfl
  rw [State.slot_eq]
  dsimp only
  rw [hs, hc, State.serveChoice, if_neg (by rw [hp]; decide)]
  exact congrArg Bank.waiting (nget_nput_same ..)

/-- Retention settles in registers alone: the banks stay. -/
theorem State.settleRetention_bank (b : Nat) : s.settleRetention.bank b = s.bank b := by
  have hg : s.settleRetention.girth = s.girth := s.settleRetention_kept.areas .girth (by decide)
  rw [State.bank, State.bank, hg]

/-- A write of the delivery engine to the first word of bank 0. -/
def deliveryWrite : Beat where
  port := 0
  master := 0
  id := 0
  off := 0
  len := 4
  write := true
  data := [1, 2, 3, 4]
  strobes := []
  locked := false
  age := 0

/-- Granule 0 is being wiped, whose first page lies in bank 0. The bank has served DLV in three slots running, for which the
wipe has waited, and one more write of DLV waits there. -/
def wipeTurn : State :=
  ((State.reset.set Pg.girth GIRTH.VAULT_STAT_WIPING 1).onGirth fun g => { g with wiping := 1 }).setBank 0
    { Bank.reset with waiting := [deliveryWrite], lastPort := 0, run := 3, dlvNet := 3, wipeAge := 3 }

/-- The run of three is over, and the slot is the wipe's (R209). -/
theorem wipeTurn_choose : (wipeTurn.bank 0).choose (wipeTurn.wipeNeeds 0) = none := rfl

theorem exec_girthAccess_wipeTurn : exec (.girthAccess 0 []) wipeTurn = .next (wipeTurn.slot 0).settleRetention :=
  exec_girthAccess_slot (by decide) rfl rfl rfl

/-- The write waits on. -/
theorem wipeTurn_slot_waiting : ((wipeTurn.slot 0).settleRetention.bank 0).waiting = [{ deliveryWrite with age := 1 }] := by
  rw [State.settleRetention_bank, State.slot_waiting_of_choose_none rfl wipeTurn_choose rfl]
  rfl

/-! ### A region that a wipe passes over -/

/-- A testable page at the sweep's place is the next one. -/
theorem State.nextPage_of_testable (hn : s.girth.next < s.girthPages) (ht : s.testable s.girth.next = true) :
    s.nextPage = some s.girth.next := by
  rw [State.nextPage, List.find?_range_eq_some]
  refine ⟨by rw [ht, Bool.and_true]; exact decide_eq_true (Nat.le_refl _), List.mem_range.2 hn, fun j hj => ?_⟩
  rw [decide_eq_false (Nat.not_le.2 hj)]
  rfl

/-- The sweep goes past a page that a running wipe bars, and no test begins. -/
theorem State.startRegion_of_bars (ha : s.girth.ahead = []) (hn : s.girth.next < s.girthPages)
    (ht : s.testable s.girth.next = true) (hb : s.wipeBars s.girth.next = true) :
    s.startRegion = s.onGirth fun g => { g with next := s.girth.next + 1, overdue := false } := by
  have hnext := s.nextPage_of_testable hn ht
  have hwrap : s.wrapSweep = s := by rw [State.wrapSweep, hnext]; rfl
  have hahead : s.girth.ahead.find? s.testable = none := by rw [ha, List.find?_nil]
  unfold State.startRegion
  extract_lets start t
  have htake : t.nextPage = some s.girth.next := (congrArg State.nextPage hwrap).trans hnext
  have hstay : t = s := hwrap
  generalize t.nextPage = r, s.girth.ahead.find? s.testable = q at htake hahead
  subst htake hahead
  rw [hstay]
  exact if_pos hb

/-- The sweep runs and has come to the first page of granule 0, which is being wiped. -/
def sweepAtWipe : State :=
  ((State.reset.set Pg.girth PG.CTRL_EN 1).set Pg.girth GIRTH.VAULT_STAT_WIPING 1).onGirth fun g =>
    { g with next := 15360, wiping := 1 }

theorem sweepAtWipe_sweeps : sweepAtWipe.sweeps = true := rfl

theorem exec_bgtRegionStart_sweepAtWipe : exec .bgtRegionStart sweepAtWipe =
    .next (sweepAtWipe.onGirth fun g => { g with next := 15361, overdue := false }) := by
  rw [exec_bgtRegionStart, execBgtRegionStart, whenHolds_of sweepAtWipe_sweeps]
  exact congrArg Host.Outcome.next (State.startRegion_of_bars rfl (by decide) rfl rfl)

/-! ### The causes of a wipe that goes on -/

/-- A trigger during a wipe, with no test under way, adds its cause; the field takes three bits of it. -/
theorem State.startWipe_cause_of_wiping {g : BitVec 64} {c : Nat} (hw : s.wiping = true) (hb : s.girth.bgt = none) :
    (s.startWipe g c).get Pg.girth GIRTH.VAULT_STAT_CAUSE = (s.get Pg.girth GIRTH.VAULT_STAT_CAUSE ||| c) % 2 ^ 3 := by
  unfold State.startWipe State.abandonTest
  simp only [hw, if_true, State.set_girth, State.onGirth_girth, hb]
  exact State.get_set_same ..

/-- A wipe runs, and the register store holds a CAUSE above its three bits. -/
def wideCause : State :=
  { State.reset with regs := [(fkey Pg.girth GIRTH.VAULT_STAT_CAUSE 0, 2 ^ 3), (fkey Pg.girth GIRTH.VAULT_STAT_WIPING 0, 1)] }

/-- The change to RETURNED is requested. -/
def wideCauseChanged : State :=
  { wideCause with life := { wideCause.life with cycleNext := some 2 } }.startWipe wideCause.vaultMap Wipe.cycle

theorem exec_lifeCycleChange_wideCause : exec (.lifeCycleChange 2) wideCause = .next wideCauseChanged := rfl

theorem wideCauseChanged_cause : (wideCauseChanged.get Pg.girth GIRTH.VAULT_STAT_CAUSE).testBit 3 = false := by
  rw [wideCauseChanged, State.startWipe_cause_of_wiping rfl rfl, Nat.testBit_mod_two_pow]
  rfl

end Sys2Proof.Machine
end

section
open Sys2Proof Sys2Proof.Machine

/-- Refutes O48: after three slots of DLV the slot goes to a running wipe that needs the bank (R195, R209), and the one waiting
write stays. -/
theorem not_girthSlots : ¬ Obligations.GirthSlots := by
  intro h
  obtain ⟨hone, -⟩ := h wipeTurn 0 deliveryWrite (by decide)
  obtain ⟨hwrite, -⟩ := hone rfl rfl rfl (by decide) ⟨rfl, rfl, rfl, by decide, .inl rfl⟩
  obtain ⟨u, hu, hempty, -⟩ := hwrite rfl
  obtain rfl : (wipeTurn.slot 0).settleRetention = u := Host.Outcome.next.inj (exec_girthAccess_wipeTurn.symm.trans hu)
  exact nomatch wipeTurn_slot_waiting.symm.trans hempty

/-- Refutes O49: the sweep passes over a region that a running wipe covers (R209, log 130), which the first clause does not
except. -/
theorem not_backgroundTest : ¬ Obligations.BackgroundTest := by
  intro h
  obtain ⟨hstart, -⟩ := h sweepAtWipe
  obtain ⟨u, hu, hgirth, -⟩ := hstart rfl rfl rfl (by decide) rfl
  obtain rfl := Host.Outcome.next.inj (exec_bgtRegionStart_sweepAtWipe.symm.trans hu)
  exact nomatch congrArg Girth.bgt hgirth

/-- Refutes O50: where the store holds a CAUSE above the field's three bits, a trigger during the wipe cuts it to them, and a
cause that was there is gone. -/
theorem not_vault : ¬ Obligations.Vault := by
  intro h
  obtain ⟨-, -, -, hcycle, -⟩ := h wideCause .host 0
  obtain ⟨u, hu, -, ⟨-, -, -, hcauses, -⟩, -⟩ := hcycle 2 (by decide) (by decide)
  obtain rfl : wideCauseChanged = u := Host.Outcome.next.inj (exec_lifeCycleChange_wideCause.symm.trans hu)
  exact absurd ((hcauses 3 (by decide)).symm.trans wideCauseChanged_cause) (by decide)

end

section
/-!
SUPPORT. What a transaction that reaches no target leaves beside its answer (R220, R225), what a request becomes behind its
decoding (R216, R224), and what a grant writes of the winner (R226).
-/

namespace Sys2Proof.Machine

variable {A : List Area} {w : FKey → Prop} {m : Nat → Prop} {s x : State}

/-! ### Responses -/

theorem Kept.respond {t : Txn} (h1 : Area.resp ∈ A) (h : Kept A w m s x) : Kept A w m s (x.respond t) := by
  obtain ⟨r, hr⟩ : ∃ r, x.respond t = x.answer r := by
    unfold State.respond
    extract_lets r reads data flags fail
    split_ifs <;> exact ⟨_, rfl⟩
  rw [hr]
  exact h.answer h1

theorem Kept.flushId {master id n : Nat} (h1 : Area.resp ∈ A) (h2 : Area.harness ∈ A) (h : Kept A w m s x) :
    Kept A w m s (x.flushId master id n) := by
  induction n generalizing x with
  | zero => exact h
  | succ n ih =>
    unfold State.flushId
    split
    · exact .ite (fun _ => ih (.ite (fun _ => h.onHarness h2) fun _ => (h.onHarness h2).respond h1)) fun _ => h
    · exact h

theorem Kept.endNow {r : HReq} {status : Nat} (h1 : Area.resp ∈ A) (h2 : Area.harness ∈ A) (h : Kept A w m s x) :
    Kept A w m s (x.endNow r status) := (h.onHarness h2).flushId h1 h2

/-! ### Requests -/

theorem State.request_queued {r : HReq} {port : Nat} (hd : s.decodePort r = some port) (hk : refusedKind port r = false) :
    s.request r =
      s.onHarness fun h => { h with txns := h.txns ++ [Txn.new { r with addr := s.remapped r } port (s.qos r)] } := by
  rw [State.request, hd]
  exact if_neg (Bool.eq_false_iff.mp hk)

theorem State.request_refused {r : HReq} {port : Nat} (hd : s.decodePort r = some port) (hk : refusedKind port r = true) :
    s.request r = s.countRefused.endNow r Hst.unsupported := by
  rw [State.request, hd]
  exact if_pos hk

theorem exec_harnessRequest_issues {r : HReq} (hg : goodRequest r = true) (hi : s.mayIssue r.master = true) :
    exec (.harnessRequest r) s = .next (s.request r) := by
  rw [exec_harnessRequest, execHarnessRequest, guardWf_of hg, whenHolds_of hi]

theorem State.countRefused_unsupported (s : State) : s.countRefused.get Pg.harness HARNESS.UNSUPPORTED =
    min (s.get Pg.harness HARNESS.UNSUPPORTED + 1) 0xFFFFFFFF := by
  rw [State.countRefused, State.get_event_off _ _ _ (by decide), State.get_count_same]
  rfl

theorem State.countRefused_byte (s : State) (a : Nat) : s.countRefused.byte a = s.byte a := State.event_byte ..

/-! ### Grants -/

theorem length_foldl_set {α β : Type} (pos : β → Nat) (val : β → α) (es : List β) (l : List α) :
    (es.foldl (fun l e => l.set (pos e) (val e)) l).length = l.length := by
  induction es generalizing l with
  | nil => rfl
  | cons e es ih => rw [List.foldl_cons, ih, List.length_set]

theorem State.grant_lastWon (s : State) (port i : Nat) (w : Txn) :
    SMap.find? (s.grant port i w).harness.lastWon port = some w.req.master := find?_nset_same ..

theorem State.grant_winner (s : State) (port : Nat) {i : Nat} (w : Txn) (hi : i < s.harness.txns.length) :
    (s.grant port i w).harness.txns[i]? = some { w with granted := true } :=
  List.getElem?_set_self ((length_foldl_set ..).symm ▸ hi)

theorem exec_harnessGrant_idle {port : Nat} (hp : port ≤ Port.sram) (hf : s.portFree port = true)
    (hw : s.winner port = none) (ecc : List (Nat × Ecc)) : exec (.harnessGrant port ecc) s = .next s := by
  rw [exec_harnessGrant, execHarnessGrant, guardWf_of (decide_eq_true hp), whenHolds_of hf, hw]

theorem exec_harnessGrant_winner {port i : Nat} {t : Txn} (hp : port ≤ Port.sram) (hf : s.portFree port = true)
    (hw : s.winner port = some (i, t)) (hg : s.grantWaits port t.req = false) (ecc : List (Nat × Ecc)) :
    exec (.harnessGrant port ecc) s = .next ((s.grant port i t).serve port t.req ecc) := by
  rw [exec_harnessGrant, execHarnessGrant, guardWf_of (decide_eq_true hp), whenHolds_of hf, hw]
  exact congrArg Host.Outcome.next (if_neg (Bool.eq_false_iff.mp hg))

end Sys2Proof.Machine
end

section
open Sys2Proof Sys2Proof.Machine

/-- Settles O14: a request behind its decoding is a new entry of the queue or a counted refusal, and a grant is that of the
arbitration's winner or none. -/
theorem harnessRequests : Obligations.HarnessRequests := by
  refine ⟨?_, ?_, ?_, ?_⟩
  · intro s r port hg hi hd hk
    exact ⟨_, by rw [exec_harnessRequest_issues hg hi, State.request_queued hd hk], rfl, .onHarness (by decide) .rfl'⟩
  · intro s r port hg hi hd hk
    have hend : Kept [.resp, .harness] (fields []) noByte s.countRefused (s.countRefused.endNow r Hst.unsupported) :=
      .endNow (by decide) (by decide) .rfl'
    exact ⟨_, by rw [exec_harnessRequest_issues hg hi, State.request_refused hd hk],
      (hend.get List.not_mem_nil).trans s.countRefused_unsupported,
      fun a => (hend.mem a id).trans (s.countRefused_byte a)⟩
  · intro s port ecc hp hf hw
    exact ⟨s, exec_harnessGrant_idle hp hf hw ecc, rfl⟩
  · intro s port i w ecc hp hf hw hg
    exact ⟨_, exec_harnessGrant_winner hp hf hw hg ecc, rfl, s.grant_lastWon port i w, s.grant_winner port w⟩

end

section
/-!
SUPPORT. What refutes O51 and O52: a refresh that comes due while the ranks refresh themselves for a frequency change (R250,
R266), and a rank state that the store holds beyond its field of four bits (R256, R259).
-/

namespace Sys2Proof.Machine

variable {s : State}

/-! ### A refresh during a frequency change -/

/-- While the ranks refresh themselves nothing is owed and nothing is paid. -/
theorem exec_refreshDue_selfRefreshes {c r : Nat} (hc : c < 2) (hr : r < 4) (hs : s.selfRefreshes c = true) :
    exec (.refreshDue c r) s = .next s := by
  have hok : (decide (c < 2) && decide (r < 4)) = true := by rw [decide_eq_true hc, decide_eq_true hr]; rfl
  have hidle : (s.populated c r && !s.selfRefreshes c) = false := by rw [hs]; exact Bool.and_false _
  rw [exec_refreshDue, execRefreshDue, State.guardPart, guardWf_of hok, whenHolds_not hidle, ite_self]

/-- Channel 0 changes its frequency and no transaction holds it; its one populated rank owes a refresh from before. -/
def owesInFreqChange : State :=
  (State.reset.set (Pg.dram 0) DRAM.CFG_RANKS 1).setDram 0
    { Dram.reset with freqBusy := some 1, ranks := [(0, { Rank.reset with debtNs := 3900 })] }

theorem owesInFreqChange_owed : owesInFreqChange.owed 0 0 = 1 := rfl

/-! ### A rank state beyond its field -/

/-- A training run of rank 0 of channel 0 is under way, and the register store holds a state of that rank above its four
bits. -/
def wideRankState : State :=
  { State.reset with regs := [(fkey (Pg.dram 0) (DRAM.RANK_STAT_STATE 0) 0, 2 ^ 4)] }.setDram 0
    { Dram.reset with training := some (1, 0) }

theorem wideRankState_rank : wideRankState.rankState 0 0 = 2 ^ 4 := rfl

/-- The run ends with the rank passed, and its state is cut to ABSENT. -/
theorem exec_trainDramDone_wideRankState :
    ∃ u, exec (.trainDramDone 0 1) wideRankState = .next u ∧ u.rankState 0 0 = Rs.absent := ⟨_, rfl, rfl⟩

end Sys2Proof.Machine
end

section
open Sys2Proof Sys2Proof.Machine

/-- Refutes O51: a refresh that comes due during a frequency change is not paid, since the ranks refresh themselves (R266),
which the clause on refreshes does not except. -/
theorem not_dramHelpers : ¬ Obligations.DramHelpers := by
  intro h
  obtain ⟨-, -, hrefresh, -⟩ := h owesInFreqChange .host 0 0 (by decide) rfl
  obtain ⟨hpaid, -⟩ := hrefresh 0 (by decide) rfl rfl
  obtain ⟨u, hu, ⟨howed, -⟩, -⟩ := hpaid rfl
  obtain rfl : owesInFreqChange = u :=
    Host.Outcome.next.inj ((exec_refreshDue_selfRefreshes (by decide) (by decide) rfl).symm.trans hu)
  exact absurd (owesInFreqChange_owed.symm.trans howed) (by decide)

/-- Refutes O52: where the store holds a rank state above the field's four bits, the end of a training run that the rank
passed writes that state back cut to them (R256, log 155), and the rank does not keep it. -/
theorem not_dramRanks : ¬ Obligations.DramRanks := by
  intro h
  obtain ⟨-, htrained, -⟩ := h wideRankState .host 0 0 (by decide) rfl
  obtain ⟨u, hu, -, -, -, -, -, hstates⟩ := htrained 1 1 0 rfl rfl
  obtain ⟨v, hv, habsent⟩ := exec_trainDramDone_wideRankState
  obtain rfl : v = u := Host.Outcome.next.inj (hv.symm.trans hu)
  have hkept : v.rankState 0 0 = wideRankState.rankState 0 0 := hstates 0 (by decide)
  exact absurd (habsent.symm.trans (hkept.trans wideRankState_rank)) (by decide)

end

section
/-!
SUPPORT. What passes the serial lanes by: the reactions of the Cinch's sources, the Girth's service of a port, and the Ethernet
port above a lane. One lemma for each function of the model, under the name of the model's file that holds it.
-/

namespace Sys2Proof.Machine

-- As in the tests: proofs that run at once wait for one another, each on a stack of its own.
set_option Elab.async false

/-- The pages of the lanes (R40). -/
abbrev lanePage (p : Nat) : Prop := 0x28 ≤ p ∧ p ≤ 0x31

/-- The fields of the lanes' pages but for event bits, and what stands at the place of STATE in whatever page. -/
def ofLane (k : FKey) : Prop := k.off = LANE.STAT_STATE.off ∨ (lanePage k.p ∧ k.off ≠ PG.EVT.off)

/-- Between s and u no time has passed, and of the lanes only event bits may have come to be set. Where `los` holds,
LANE_LOS is active for the same lanes. -/
structure Passes (los : Prop) (s u : State) : Prop where
  part : u.part = s.part
  now : u.now = s.now
  ctrl : u.ctrl = s.ctrl
  lanes : u.lanes = s.lanes
  regs : ∀ k, ofLane k → SMap.find? u.regs k = SMap.find? s.regs k
  evt : ∀ p, lanePage p → Noted p s u
  active : los → (u.cinchSrc Src.laneLos).active = (s.cinchSrc Src.laneLos).active

theorem lanePage_lane {n : Nat} (h : n < 10) : lanePage (Pg.lane n) := by
  simp only [Pg.lane]; omega

theorem not_lanePage_mac {n : Nat} (h : n < 4) : ¬ lanePage (Pg.mac n) := by
  simp only [Pg.mac]; omega

theorem not_lanePage_dram (c : Nat) : ¬ lanePage (Pg.dram c) := by
  simp only [Pg.dram]; omega

theorem not_lanePage_stirrup (n : Nat) : ¬ lanePage (Pg.stirrup n) := by
  simp only [Pg.stirrup]; omega

theorem not_lanePage_ctx (c : Nat) : ¬ lanePage (ctxPage c) := by
  simp only [ctxPage, Pg.flow]; omega

variable {l : Prop} {s x : State}

theorem Passes.refl (s : State) : Passes l s s := ⟨rfl, rfl, rfl, rfl, fun _ _ => rfl, fun _ _ => .of_regs rfl, fun _ => rfl⟩

theorem Passes.trans {u : State} (h : Passes l s x) (k : Passes l x u) : Passes l s u :=
  ⟨k.part.trans h.part, k.now.trans h.now, k.ctrl.trans h.ctrl, k.lanes.trans h.lanes,
    fun q hq => (k.regs q hq).trans (h.regs q hq), fun p hp b hb hs => k.evt p hp b hb (h.evt p hp b hb hs),
    fun hl => (k.active hl).trans (h.active hl)⟩

theorem Passes.ite {c : Prop} [Decidable c] {t u : State} (h : Passes l s t) (k : Passes l s u) :
    Passes l s (if c then t else u) := by
  split
  · exact h
  · exact k

theorem Passes.ite_fst {c : Prop} [Decidable c] {α : Type} {t u : State × α} (h : Passes l s t.1) (k : Passes l s u.1) :
    Passes l s (if c then t else u).1 := by
  split
  · exact h
  · exact k

theorem Passes.each {α : Type} {as : List α} {f : State → α → State} (h : Passes l s x)
    (hf : ∀ {t a}, Passes l s t → Passes l s (f t a)) : Passes l s (x.each as f) :=
  State.each_induction (Passes l s) as f (fun _ _ => hf) x h

theorem Passes.foldl_fst {α β : Type} {as : List α} {f : State × β → α → State × β} {r : State × β}
    (h : Passes l s r.1) (hf : ∀ {r a}, Passes l s r.1 → Passes l s (f r a).1) : Passes l s (as.foldl f r).1 := by
  induction as generalizing r with
  | nil => exact h
  | cons a as ih => exact ih (hf h)

/-- A lane's field is as it was. -/
theorem Passes.get {u : State} (h : Passes l s u) {n i : Nat} {f : Fld} (hn : n < 10) (hf : f.off ≠ PG.EVT.off) :
    u.get (Pg.lane n) f i = s.get (Pg.lane n) f i := by
  unfold State.get SMap.get
  rw [h.regs (fkey (Pg.lane n) f i) (.inr ⟨lanePage_lane hn, hf⟩)]

theorem Passes.laneState {u : State} (h : Passes l s u) (j : Nat) : u.laneState j = s.laneState j := by
  unfold State.laneState State.get SMap.get
  rw [h.regs (fkey (Pg.lane j) LANE.STAT_STATE 0) (.inl rfl)]

theorem Passes.lane {u : State} (h : Passes l s u) (j : Nat) : u.lane j = s.lane j := by
  unfold State.lane; rw [h.lanes]

/-! ### Records -/

theorem Passes.with_freeCtr {y} (h : Passes l s x) : Passes l s { x with freeCtr := y } :=
  ⟨h.part, h.now, h.ctrl, h.lanes, h.regs, h.evt, h.active⟩
theorem Passes.with_mem {y} (h : Passes l s x) : Passes l s { x with mem := y } :=
  ⟨h.part, h.now, h.ctrl, h.lanes, h.regs, h.evt, h.active⟩
theorem Passes.with_life {y} (h : Passes l s x) : Passes l s { x with life := y } :=
  ⟨h.part, h.now, h.ctrl, h.lanes, h.regs, h.evt, h.active⟩
theorem Passes.with_girth {y} (h : Passes l s x) : Passes l s { x with girth := y } :=
  ⟨h.part, h.now, h.ctrl, h.lanes, h.regs, h.evt, h.active⟩
theorem Passes.with_harness {y} (h : Passes l s x) : Passes l s { x with harness := y } :=
  ⟨h.part, h.now, h.ctrl, h.lanes, h.regs, h.evt, h.active⟩
theorem Passes.with_macs {y} (h : Passes l s x) : Passes l s { x with macs := y } :=
  ⟨h.part, h.now, h.ctrl, h.lanes, h.regs, h.evt, h.active⟩
theorem Passes.with_flow {y} (h : Passes l s x) : Passes l s { x with flow := y } :=
  ⟨h.part, h.now, h.ctrl, h.lanes, h.regs, h.evt, h.active⟩
theorem Passes.with_loops {y} (h : Passes l s x) : Passes l s { x with loops := y } :=
  ⟨h.part, h.now, h.ctrl, h.lanes, h.regs, h.evt, h.active⟩

theorem Passes.with_cinch {y : Cinch} (h : Passes l s x) (hy : y.srcs = x.cinch.srcs) : Passes l s { x with cinch := y } :=
  ⟨h.part, h.now, h.ctrl, h.lanes, h.regs, h.evt, fun hl => by
    rw [← h.active hl]; unfold State.cinchSrc; rw [hy]⟩

/-! ### Ops -/

/-- A field beside the lanes' pages. -/
theorem Passes.set {p v i : Nat} {f : Fld} (h : Passes l s x) (hp : ¬ lanePage p := by decide)
    (hf : f.off ≠ LANE.STAT_STATE.off := by decide) : Passes l s (x.set p f v i) := by
  refine h.trans ⟨rfl, rfl, rfl, rfl, fun k hk => State.find?_set_ne _ _ ?_, fun q hq => .of_get ?_, fun _ => rfl⟩
  · rintro rfl
    exact hk.elim hf fun hl => hp hl.1
  · exact State.get_set_page _ _ fun e => hp (e ▸ hq)

theorem Passes.setFlag {p i : Nat} {f : Fld} {b : Bool} (h : Passes l s x) (hp : ¬ lanePage p := by decide)
    (hf : f.off ≠ LANE.STAT_STATE.off := by decide) : Passes l s (x.setFlag p f b i) := h.set hp hf

theorem Passes.count {p n i : Nat} {f : Fld} (h : Passes l s x) (hp : ¬ lanePage p := by decide)
    (hf : f.off ≠ LANE.STAT_STATE.off := by decide) : Passes l s (x.count p f n i) := h.set hp hf

theorem Passes.free (h : Passes l s x) : Passes l s x.free.2 := h.with_freeCtr
theorem Passes.setByte {a b} (h : Passes l s x) : Passes l s (x.setByte a b) := h.with_mem

theorem Passes.event {p b : Nat} (h : Passes l s x) : Passes l s (x.event p b) := by
  refine h.trans ⟨State.event_part .., State.event_now .., State.event_ctrl .., State.event_lanes .., fun k hk => ?_,
    fun q _ => State.events_noted x p _ q, fun _ => ?_⟩
  · refine State.events_regs_ne x p _ ?_
    rintro rfl
    exact hk.elim (fun e => absurd e (show PG.EVT.off ≠ LANE.STAT_STATE.off by decide)) fun hl => hl.2 rfl
  · unfold State.cinchSrc; rw [State.event_cinch]

theorem Passes.lifeAdd {p i n : Nat} (h : Passes l s x) : Passes l s (x.lifeAdd p i n) := .ite h.with_life h

/-! ### StirrupOps -/

theorem Passes.gatesLow {n st : Nat} (h : Passes l s x) : Passes l s (x.gatesLow n st) :=
  have r := not_lanePage_stirrup n
  (((h.set r).set r).set r).set r

theorem Passes.measureLoop {n : Nat} (h : Passes l s x) : Passes l s (x.measureLoop n) := by
  have r := not_lanePage_stirrup n
  unfold State.measureLoop
  extract_lets p w s1
  have h1 : Passes l s s1 := .ite (h.free.set r) (h.free.set r)
  exact .ite h (h1.free.set r)

theorem Passes.startWith {n st : Nat} {o : Option Nat} (h : Passes l s x) : Passes l s (x.startWith n st o) := by
  have r := not_lanePage_stirrup n
  cases o with
  | none => exact h.gatesLow.event
  | some fT => exact Passes.measureLoop (((h.with_loops.set r).set r).set r)

theorem Passes.beginSoftStart {n : Nat} (h : Passes l s x) : Passes l s (x.beginSoftStart n) := .ite h h.startWith
theorem Passes.enterSafe {n : Nat} (h : Passes l s x) : Passes l s (x.enterSafe n) := .ite h h.gatesLow

theorem Passes.leaveSafe {n : Nat} (h : Passes l s x) : Passes l s (x.leaveSafe n) :=
  have hs {v : Nat} : Passes l s (x.setLoopState n v) := h.set (not_lanePage_stirrup n)
  .ite h (.ite hs (.ite hs.beginSoftStart hs))

/-! ### CinchOps -/

/-- The record of a source that stays active as it is, or of another than LANE_LOS. -/
theorem Passes.setCinchSrc {src : Nat} {c : CinchSrc} (h : Passes l s x)
    (hc : l → src = Src.laneLos → c.active = (x.cinchSrc src).active) : Passes l s (x.setCinchSrc src c) := by
  refine h.trans ⟨rfl, rfl, rfl, rfl, fun _ _ => rfl, fun _ _ => .of_regs rfl, fun hl => ?_⟩
  by_cases e : src = Src.laneLos
  · subst e; rw [State.setCinchSrc_cinchSrc_same, hc hl rfl]
  · rw [State.setCinchSrc_cinchSrc_ne _ _ e]

theorem Passes.reconcile {old : State} (h : Passes l s x) : Passes l s (State.reconcile old x) := by
  unfold State.reconcile
  extract_lets s1 freed muted rel rel' s2 s3 s4
  have h1 : Passes l s s1 := h.each fun ht => .ite ht.enterSafe (.ite ht.leaveSafe ht)
  have h3 : Passes l s s3 := h1.with_cinch rfl
  have h4 : Passes l s s4 := .ite h3.event h3
  exact .ite h4.event h4

theorem Passes.recordOccurrence {src inst : Nat} {b : Bool} (h : Passes l s x) :
    Passes l s (x.recordOccurrence src inst b) := by
  unfold State.recordOccurrence
  extract_lets s1 s2 s3
  have h1 : Passes l s s1 := .ite h h.set.set.set.set.setFlag
  exact h1.set.set.count.lifeAdd

theorem Passes.level4 {src sev level : Nat} (h : Passes l s x) : Passes l s (x.level4 src sev level) := by
  unfold State.level4
  exact .ite (h.count.set.lifeAdd.with_cinch rfl) (.ite h.set.event h)

theorem Passes.occurrence {src inst : Nat} {b : Bool} (h : Passes l s x) : Passes l s (x.occurrence src inst b) := by
  unfold State.occurrence
  extract_lets sev level g old s1 c s2 s3 s4 s5 s6
  have h1 : Passes l s s1 := h.recordOccurrence
  have h2 : Passes l s s2 := h1.setCinchSrc fun _ _ => rfl
  have h4 : Passes l s s4 := h2.set.set.setFlag
  have h5 : Passes l s s5 := Passes.level4 (.ite h4.set.set h4)
  exact Passes.reconcile (.ite h5.event (.ite h5.event h5))

theorem Passes.holdEvent {src inst : Nat} (h : Passes l s x) : Passes l s (x.holdEvent src inst) :=
  .ite (h.setCinchSrc fun _ _ => rfl) h

theorem Passes.raise {src inst : Nat} (h : Passes l s x) (hs : l → src ≠ Src.laneLos := by intro; decide) :
    Passes l s (x.raise src inst) := by
  unfold State.raise
  extract_lets s1 was c s2
  have h2 : Passes l s s2 := h.holdEvent.setCinchSrc fun hl e => absurd e (hs hl)
  exact .ite h (.ite h.holdEvent (.ite h2.set h2.occurrence))

theorem Passes.liveFell {src : Nat} (h : Passes l s x) : Passes l s (x.liveFell src) :=
  .ite (.ite (.set (h.setCinchSrc fun _ _ => rfl)) h.set) h

theorem Passes.lower {src inst : Nat} (h : Passes l s x) (hs : l → src ≠ Src.laneLos := by intro; decide) :
    Passes l s (x.lower src inst) := by
  unfold State.lower
  extract_lets was c s1
  have h1 : Passes l s s1 := h.setCinchSrc fun hl e => absurd e (hs hl)
  exact .ite h1.liveFell h1

theorem Passes.setSource {src inst : Nat} {on : Bool} (h : Passes l s x)
    (hs : l → src ≠ Src.laneLos := by intro; decide) : Passes l s (x.setSource src inst on) := .ite (h.raise hs) (h.lower hs)

/-! ### GirthOps -/

theorem Passes.onGirth {f} (h : Passes l s x) : Passes l s (x.onGirth f) := h.with_girth
theorem Passes.setBank {b y} (h : Passes l s x) : Passes l s (x.setBank b y) := h.onGirth
theorem Passes.laneTxn {seg lane f} (h : Passes l s x) : Passes l s (x.laneTxn seg lane f) := h.with_harness

theorem Passes.setGirthByte {o b} (h : Passes l s x) : Passes l s (x.setGirthByte o b) := by
  unfold State.setGirthByte
  extract_lets page reserve
  refine .ite h.onGirth ?_
  split
  · exact .ite h.setByte (.ite h.onGirth h.setByte.onGirth)
  · exact h.setByte

theorem Passes.wakeByAccess {seg} (h : Passes l s x) : Passes l s (x.wakeByAccess seg) :=
  .ite (.event (.count (.set (.set (.set h))))) h

theorem Passes.touchGirth {o n} (h : Passes l s x) : Passes l s (x.touchGirth o n) :=
  .ite h (h.each fun ht => ht.wakeByAccess)

theorem Passes.lockFailed (h : Passes l s x) : Passes l s x.lockFailed := h.count.event

theorem Passes.shadowed {port} (h : Passes l s x) : Passes l s (x.shadowed port) :=
  (Passes.ite h.count (.ite h.count (.ite h.count h))).event.raise

theorem Passes.shadowBeat {seg y} (h : Passes l s x) : Passes l s (x.shadowBeat seg y) := by
  unfold State.shadowBeat
  extract_lets first rt s1 s2 s3 s4
  have h1 : Passes l s s1 := h.shadowed
  have h2 : Passes l s s2 := .ite h1.lockFailed.onGirth h1
  have h3 : Passes l s s3 := .ite h2.count.event h2
  have h4 : Passes l s s4 := .ite (h3.count (not_lanePage_dram _)) h3
  exact h4.laneTxn

theorem Passes.storeBeat {y} (h : Passes l s x) : Passes l s (x.storeBeat y) := by
  unfold State.storeBeat
  exact (h.each fun ht => .ite ht.setGirthByte ht).onGirth.onGirth

theorem Passes.girthCe {o} (h : Passes l s x) : Passes l s (x.girthCe o) := by
  unfold State.girthCe
  extract_lets b row s1 s2 ts _ s3 s4
  have h4 : Passes l s s4 := h.count.count.event.lifeAdd.setBank.onGirth
  exact .ite h4.onGirth h4

theorem Passes.girthUe {o} (h : Passes l s x) : Passes l s (x.girthUe o) := by
  unfold State.girthUe
  extract_lets s1 s2 s3
  have h2 : Passes l s s2 := h.count.event.lifeAdd.onGirth
  have h3 : Passes l s s3 := .ite h2 h2.set.set
  exact h3.setSource

theorem Passes.checkRange {o n} (h : Passes l s x) : Passes l s (x.checkRange o n) := by
  refine h.each fun ht => .ite ht.girthUe ?_
  split
  · exact ht.girthCe
  · exact ht.girthUe
  · exact ht

theorem Passes.countMisaligned (h : Passes l s x) : Passes l s x.countMisaligned := h.count.event
theorem Passes.denied (h : Passes l s x) : Passes l s ((x.count Pg.girth GIRTH.VAULT_DENIED).event Pg.girth 5) := h.count.event

theorem Passes.denyVault {seg y} (h : Passes l s x) : Passes l s (x.denyVault seg y) :=
  (Passes.ite h.denied.onGirth h.denied).laneTxn

theorem Passes.readBeat {seg y} (h : Passes l s x) : Passes l s (x.readBeat seg y) :=
  (Passes.ite h.checkRange.onGirth h.checkRange).laneTxn

theorem Passes.writeBeat {seg y} (h : Passes l s x) : Passes l s (x.writeBeat seg y) := by
  unfold State.writeBeat
  extract_lets broken s1
  have h1 : Passes l s s1 := .ite h.onGirth h
  exact .ite h1.lockFailed.laneTxn h1.storeBeat.laneTxn

theorem Passes.serveBeat {seg y} (h : Passes l s x) : Passes l s (x.serveBeat seg y) :=
  .ite h.countMisaligned.setBank.laneTxn (.ite h.denyVault (.ite h.writeBeat h.readBeat))

theorem Passes.slot {b} (h : Passes l s x) : Passes l s (x.slot b) := by
  unfold State.slot
  extract_lets seg s1 bk wipe
  have h1 : Passes l s s1 := h.each fun ht => ht.setBank.shadowBeat
  split
  · exact .ite h1 h1.setBank
  · split
    · exact h1
    · exact h1.setBank.serveBeat

theorem Passes.serveAhead {port b n} (h : Passes l s x) : Passes l s (x.serveAhead port b n) := by
  induction n generalizing x with
  | zero => exact h
  | succ n ih => exact .ite (ih h.slot) h

theorem Passes.reachBank {port b} (h : Passes l s x) : Passes l s (x.reachBank port b) := .ite h h.serveAhead.setBank

theorem Passes.storeLine {y} (h : Passes l s x) : Passes l s (x.storeLine y).1 :=
  .ite_fst h.denied (.ite_fst h.shadowed (h.each fun ht => ht.setBank.shadowBeat).reachBank.storeBeat)

theorem Passes.store {port master o data} (h : Passes l s x) : Passes l s (x.store port master o data).1 :=
  .ite_fst h.countMisaligned (h.touchGirth.foldl_fst fun ht => ht.storeLine)

theorem Passes.fetchLine {y} (h : Passes l s x) : Passes l s (x.fetchLine y).1 :=
  .ite_fst h.denied h.reachBank.checkRange

theorem Passes.fetch {port master o n} (h : Passes l s x) : Passes l s (x.fetch port master o n).1 :=
  .ite_fst h.countMisaligned (h.touchGirth.foldl_fst fun ht => ht.fetchLine)

/-! ### FlowCtxOps -/

theorem Passes.ctxSet {c f v} (h : Passes l s x) (hf : f.off ≠ LANE.STAT_STATE.off := by decide) :
    Passes l s (x.ctxSet c f v) := h.set (not_lanePage_ctx c) hf

theorem Passes.ctxCount {c f n} (h : Passes l s x) (hf : f.off ≠ LANE.STAT_STATE.off := by decide) :
    Passes l s (x.ctxCount c f n) := h.count (not_lanePage_ctx c) hf

theorem Passes.pathChanged {c y} (h : Passes l s x) : Passes l s (x.pathChanged c y) := .ite h.ctxSet.setSource h

theorem Passes.losePath {c} (h : Passes l s x) : Passes l s (x.losePath c) := by
  unfold State.losePath
  split
  · exact .ite h.with_flow h.with_flow.ctxSet.event.lifeAdd.pathChanged
  · exact h

theorem Passes.pathsDown {port} (h : Passes l s x) : Passes l s (x.pathsDown port) := by
  refine h.each fun ht => ?_
  split
  · exact .ite ht.losePath ht
  · exact ht

/-! ### MacOps -/

theorem Passes.onMac {n f} (h : Passes l s x) : Passes l s (x.onMac n f) := h.with_macs
theorem Passes.netRead {master o n ecc} (h : Passes l s x) : Passes l s (x.netRead master o n ecc).1 := h.onGirth.fetch
theorem Passes.readDesc {n q idx} (h : Passes l s x) : Passes l s (x.readDesc n q idx).1 := h.netRead
theorem Passes.refill {n q} (h : Passes l s x) : Passes l s (x.refill n q) := h.with_macs
theorem Passes.takeTokens {n q bytes} (h : Passes l s x) : Passes l s (x.takeTokens n q bytes) := .ite h h.onMac

theorem Passes.flowCompletion {n status shadowed} (h : Passes l s x) : Passes l s (x.flowCompletion n status shadowed) := by
  unfold State.flowCompletion
  split
  · exact h
  · extract_lets _ s1 s2
    have h1 : Passes l s s1 := h.with_flow
    have h2 : Passes l s s2 := .ite h1.ctxCount h1
    exact .ite h2.ctxCount.event h2

section
variable {n : Nat} (hn : n < 4)
include hn

theorem Passes.completeTx {q idx status tag lost frags shadowed} (h : Passes l s x) :
    Passes l s (x.completeTx n q idx status tag lost frags shadowed) := by
  have r := not_lanePage_mac hn
  unfold State.completeTx
  extract_lets w2 r shadowed s1 s2 s3
  have hr : Passes l s r.1 := .ite_fst h.shadowed h.store
  have h1 : Passes l s s1 := .ite (hr.count ‹_›).event hr
  have h3 : Passes l s s3 := (h1.set ‹_›).onMac
  exact .ite h3.flowCompletion h3

theorem Passes.headReady {q fuel} (h : Passes l s x) : Passes l s (x.headReady n q fuel).1 := by
  have r := not_lanePage_mac hn
  induction fuel generalizing x with
  | zero => exact h
  | succ fuel ih =>
    exact .ite_fst h (.ite_fst (ih (h.completeTx hn)) (.ite_fst h (.ite_fst (h.readDesc.set r).event
      (.ite_fst (ih (h.readDesc.completeTx hn)) (.ite_fst h
        (.ite_fst (ih ((h.refill.count r).event.completeTx hn)) h.refill))))))

omit hn in
theorem Passes.startHead {q from_} (h : Passes l s x) : Passes l s (x.startHead n q from_) := by
  unfold State.startHead
  extract_lets idx bt at_ drop
  refine .ite ?_ (Passes.ite h.readDesc.netRead h.readDesc.netRead.takeTokens).onMac
  split
  · exact h
  · exact (Passes.ite h.netRead h.netRead.takeTokens).onMac

theorem Passes.tryQueues {qs} (h : Passes l s x) : Passes l s (x.tryQueues n qs) := by
  induction qs generalizing x with
  | nil => exact h
  | cons q qs ih =>
    unfold State.tryQueues
    have hq : Passes l s (x.headReady n q (x.qWaiting n q + 1)).1 := h.headReady hn
    exact .ite hq.startHead (ih hq)

omit hn in
theorem Passes.startPause {quanta} (h : Passes l s x) : Passes l s (x.startPause n quanta) := by
  unfold State.startPause
  exact h.onMac

omit hn in
theorem Passes.resumeFrame (h : Passes l s x) : Passes l s (x.resumeFrame n) := by
  unfold State.resumeFrame
  extract_lets y
  split
  · exact h
  · exact h.with_macs

theorem Passes.pick (h : Passes l s x) : Passes l s (x.pick n) := by
  unfold State.pick
  refine .ite h ?_
  split
  · exact h.startPause
  · have ht : Passes l s (x.tryQueues n [7, 6]) := h.tryQueues hn
    exact .ite ht (.ite ht.resumeFrame (ht.tryQueues hn))

theorem Passes.preempt (h : Passes l s x) : Passes l s (x.preempt n) := by
  unfold State.preempt
  split
  · exact h.pick hn
  · refine .ite h ?_
    split
    · exact h
    · have h7 : Passes l s (x.headReady n 7 (x.qWaiting n 7 + 1)).1 := h.headReady hn
      split
      rename_i s7 r7 e7
      rw [e7] at h7
      have h6 : Passes l s (if r7 then (s7, false) else s7.headReady n 6 (s7.qWaiting n 6 + 1)).1 :=
        .ite_fst h7 (h7.headReady hn)
      split
      rename_i s6 r6 e6
      rw [e6] at h6
      exact .ite (h6.count (not_lanePage_mac hn)).onMac.startHead h6

theorem Passes.schedule (h : Passes l s x) : Passes l s (x.schedule n) :=
  (Passes.ite h (h.each fun ht => .ite ht (.ite ht (ht.headReady hn)))).preempt hn

theorem Passes.pauseUpdate (h : Passes l s x) : Passes l s (x.pauseUpdate n) := by
  have r := not_lanePage_mac hn
  unfold State.pauseUpdate
  extract_lets p on s1 s2 s3
  have h1 : Passes l s s1 := (h.set r).event
  have h2 : Passes l s s2 := .ite h1.onMac h1
  have h3 : Passes l s s3 := (h.set r).event
  exact .ite (.ite (h2.schedule hn) h) (.ite (h3.onMac.schedule hn) h)

theorem Passes.macUp {rate} (h : Passes l s x) : Passes l s (x.macUp n rate) := by
  have r := not_lanePage_mac hn
  unfold State.macUp
  extract_lets p s1 s2 s3 s4
  have h3 : Passes l s s3 := (((h.set r).set r).setFlag r).event
  have h4 : Passes l s s4 := .ite (h3.set r).onMac (h3.set r)
  exact .ite h ((h4.pauseUpdate hn).schedule hn)

theorem Passes.macDown (h : Passes l s x) : Passes l s (x.macDown n) :=
  have r := not_lanePage_mac hn
  .ite (((((h.set r).set r).event.lifeAdd.set r).onMac.pathsDown).schedule hn) h

end

/-! ### LaneOps -/

/-- The port above a lane has its link or not; the lane itself is as it was. -/
theorem Passes.laneLink {n : Nat} (h : Passes l s x) : Passes l s (x.laneLink n) := by
  unfold State.laneLink
  by_cases hn : n < 4
  · exact .ite (.ite (h.macUp hn) (h.macDown hn)) h
  · rw [if_neg (by rw [networkLane, decide_eq_true_eq]; exact hn)]
    exact h

end Sys2Proof.Machine
end

section
/-!
SUPPORT. What an act of a lane leaves: the other lanes and, on a lane without a port, all but its page and what its source's
reaction may change (R275). One lemma for each function of the model, under the name of the model's file that holds it.
-/

namespace Sys2Proof.Machine

-- As in the tests: proofs that run at once wait for one another, each on a stack of its own.
set_option Elab.async false

/-- The fields of a lane's page, and those of a reaction. -/
def laneField (n : Nat) (k : FKey) : Prop := k.p = Pg.lane n ∨ reaction k

/-- Lane n has acted between s and u, in no time: the other lanes are as they were, of its event bits none has gone, and
beside its page a lane without a port has changed nothing but by a reaction. -/
structure LaneActs (n : Nat) (s u : State) : Prop where
  part : u.part = s.part
  now : u.now = s.now
  ctrl : u.ctrl = s.ctrl
  lanes : ∀ j, j ≠ n → u.lane j = s.lane j
  states : ∀ j, j ≠ n → u.laneState j = s.laneState j
  evt : Noted (Pg.lane n) s u
  rest : 4 ≤ n → Kept (.lanes :: reacting) (laneField n) noByte s u

variable {n : Nat} {s x u : State}

theorem LaneActs.refl (n : Nat) (s : State) : LaneActs n s s :=
  ⟨rfl, rfl, rfl, fun _ _ => rfl, fun _ _ => rfl, .of_regs rfl, fun _ => .rfl'⟩

theorem LaneActs.ite {c : Prop} [Decidable c] {t : State} (h : LaneActs n s t) (k : LaneActs n s u) :
    LaneActs n s (if c then t else u) := by
  split
  · exact h
  · exact k

/-! ### Ops -/

theorem LaneActs.set {f : Fld} {v i : Nat} (h : LaneActs n s x) (hf : f.off ≠ PG.EVT.off := by decide) :
    LaneActs n s (x.set (Pg.lane n) f v i) where
  part := h.part
  now := h.now
  ctrl := h.ctrl
  lanes := h.lanes
  states j hj := (State.get_set_page _ _ (by simp only [Pg.lane]; omega)).trans (h.states j hj)
  evt b hb hs := by rw [State.get_set_off _ _ hf]; exact h.evt b hb hs
  rest hr := .set (.inl rfl) (h.rest hr)

theorem LaneActs.count {f : Fld} {k i : Nat} (h : LaneActs n s x) (hf : f.off ≠ PG.EVT.off := by decide) :
    LaneActs n s (x.count (Pg.lane n) f k i) := h.set hf

theorem LaneActs.onLane {f : Lane → Lane} (h : LaneActs n s x) : LaneActs n s (x.onLane n f) where
  part := h.part
  now := h.now
  ctrl := h.ctrl
  lanes j hj := (State.setLane_lane_ne _ _ (Ne.symm hj)).trans (h.lanes j hj)
  states := h.states
  evt := h.evt
  rest hr := .onLane (.head _) (h.rest hr)

theorem LaneActs.lifeAdd {p i k : Nat} (h : LaneActs n s x) : LaneActs n s (x.lifeAdd p i k) where
  part := (State.lifeAdd_part ..).trans h.part
  now := (State.lifeAdd_now ..).trans h.now
  ctrl := (State.lifeAdd_ctrl ..).trans h.ctrl
  lanes j hj := by rw [← h.lanes j hj]; unfold State.lane; rw [State.lifeAdd_lanes]
  states j hj := (State.lifeAdd_get ..).trans (h.states j hj)
  evt b hb hs := by rw [State.lifeAdd_get]; exact h.evt b hb hs
  rest hr := .lifeAdd (by decide) (h.rest hr)

theorem LaneActs.free (h : LaneActs n s x) : LaneActs n s x.free.2 where
  part := h.part
  now := h.now
  ctrl := h.ctrl
  lanes := h.lanes
  states := h.states
  evt := h.evt
  rest hr := .free (by decide) (h.rest hr)

section
variable (hn : n < 10)
include hn

/-- What passes the lanes by, and of a lane without a port no more than its act may change. -/
theorem LaneActs.passes {l : Prop} (h : LaneActs n s x) (hp : Passes l x u)
    (hr : 4 ≤ n → Kept (.lanes :: reacting) (laneField n) noByte x u) : LaneActs n s u where
  part := hp.part.trans h.part
  now := hp.now.trans h.now
  ctrl := hp.ctrl.trans h.ctrl
  lanes j hj := (hp.lane j).trans (h.lanes j hj)
  states j hj := (hp.laneState j).trans (h.states j hj)
  evt b hb hs := hp.evt _ (lanePage_lane hn) b hb (h.evt b hb hs)
  rest h4 := (h.rest h4).trans (hr h4)

theorem LaneActs.event {b : Nat} (h : LaneActs n s x) : LaneActs n s (x.event (Pg.lane n) b) :=
  h.passes (l := False) hn (Passes.refl x).event fun _ => .event (by decide) (.inl rfl) .rfl'

theorem LaneActs.raise {src inst : Nat} (h : LaneActs n s x) : LaneActs n s (x.raise src inst) :=
  h.passes hn ((Passes.refl x).raise False.elim) fun _ => .raise (by decide) (fun _ => .inr) .rfl'

theorem LaneActs.lower {src inst : Nat} (h : LaneActs n s x) : LaneActs n s (x.lower src inst) :=
  h.passes hn ((Passes.refl x).lower False.elim) fun _ => .lower (by decide) (fun _ => .inr) .rfl'

/-! ### LaneOps -/

theorem LaneActs.laneLink (h : LaneActs n s x) : LaneActs n s (x.laneLink n) :=
  h.passes (l := False) hn (Passes.refl x).laneLink fun h4 => by
    rw [State.laneLink, if_neg (by rw [networkLane, decide_eq_true_eq]; omega)]
    exact .rfl'

omit hn in
theorem LaneActs.setLaneState {v ms : Nat} (h : LaneActs n s x) : LaneActs n s (x.setLaneState n v ms) := h.set.onLane

omit hn in
theorem LaneActs.setLocked {ppm : BitVec 16} (h : LaneActs n s x) : LaneActs n s (x.setLocked n ppm) := by
  unfold State.setLocked
  exact h.set.set.set.onLane

omit hn in
theorem LaneActs.findLock (h : LaneActs n s x) : LaneActs n s (x.findLock n) := h.free.setLocked

omit hn in
theorem LaneActs.unlockRx (h : LaneActs n s x) : LaneActs n s (x.unlockRx n) := h.set.set.onLane

theorem LaneActs.dropLos (h : LaneActs n s x) : LaneActs n s (x.dropLos n) := .ite ((h.set.event hn).lower hn) h

omit hn in
theorem LaneActs.detectAt {rate : Nat} (h : LaneActs n s x) : LaneActs n s (x.detectAt n rate) := by
  unfold State.detectAt
  exact h.setLaneState.unlockRx.set.onLane

omit hn in
theorem LaneActs.listens (h : LaneActs n s x) : LaneActs n s (x.listens n) := h.setLaneState.unlockRx.set

theorem LaneActs.onMac {f : Mac → Mac} (h : LaneActs n s x) :
    LaneActs n s (if networkLane n then x.onMac n f else x) :=
  h.passes (l := False) hn (.ite (Passes.refl x).onMac (Passes.refl x)) fun h4 => by
    rw [if_neg (by rw [networkLane, decide_eq_true_eq]; omega)]
    exact .rfl'

theorem LaneActs.bringUp (h : LaneActs n s x) : LaneActs n s (x.bringUp n) := by
  unfold State.bringUp
  extract_lets p mode rate clear auto_ s1 s2 s3
  have h2 : LaneActs n s s2 := h.unlockRx.onLane.onMac hn
  have h3 : LaneActs n s s3 := .ite h2.listens h2.detectAt
  exact h3.laneLink hn

theorem LaneActs.restartLane (h : LaneActs n s x) : LaneActs n s (x.restartLane n) :=
  (h.count.lifeAdd.event hn).bringUp hn

theorem LaneActs.laneUp {rate : Nat} (h : LaneActs n s x) : LaneActs n s (x.laneUp n rate) :=
  (h.setLaneState.set.onLane.event hn).laneLink hn

omit hn in
theorem LaneActs.unlockChecker (h : LaneActs n s x) : LaneActs n s (x.unlockChecker n) := by
  have h1 : LaneActs n s (x.prbsErrors n) := .ite h.free.count.onLane h
  exact h1.set.set.set

omit hn in
theorem LaneActs.lockNear (h : LaneActs n s x) : LaneActs n s (x.lockNear n) := .ite h.setLocked h

theorem LaneActs.enterTest (h : LaneActs n s x) : LaneActs n s (x.enterTest n) :=
  (((LaneActs.ite h h.unlockRx.set).setLaneState.onLane.dropLos hn).laneLink hn).lockNear

theorem LaneActs.leaveTest (h : LaneActs n s x) : LaneActs n s (x.leaveTest n) :=
  .ite h.unlockChecker.setLaneState ((h.unlockChecker.event hn).bringUp hn)

theorem LaneActs.updateTest (h : LaneActs n s x) : LaneActs n s (x.updateTest n) :=
  .ite (.ite h.lockNear (h.leaveTest hn)) (.ite (h.enterTest hn) h)

theorem LaneActs.sleepLane (h : LaneActs n s x) : LaneActs n s (x.sleepLane n) :=
  (h.setLaneState.unlockRx.dropLos hn).unlockChecker.laneLink hn

theorem LaneActs.wakeLane (h : LaneActs n s x) : LaneActs n s (x.wakeLane n) :=
  .ite (h.enterTest hn) (.ite h.onLane.detectAt (h.bringUp hn))

theorem LaneActs.laneOff (h : LaneActs n s x) : LaneActs n s (x.laneOff n) :=
  (((h.setLaneState.set.set.unlockRx.dropLos hn).unlockChecker.onLane).laneLink hn)

theorem LaneActs.switchEnded {f : State → State} (h : LaneActs n s x) (hf : LaneActs n s (f x)) :
    LaneActs n s (x.switchEnded n f) := .ite hf (h.laneOff hn)

/-! ### Lane -/

theorem LaneActs.windowEnds (h : LaneActs n s x) : LaneActs n s (x.windowEnds n) := by
  unfold State.windowEnds
  extract_lets y st
  refine .ite (.ite h.setLaneState h.detectAt) (.ite ?_ (.ite (h.switchEnded hn ?_) h))
  · exact .ite (h.restartLane hn) (.ite h.setLaneState (.ite h.detectAt h.listens))
  · have h1 := h.unlockRx.count (f := LANE.STEP_DOWNS) (k := 1) (i := 0) |>.lifeAdd (p := Pg.lane n) (i := 2) (k := 1)
      |>.event hn (b := 3)
    exact .ite h1.listens h1.setLaneState.onLane

omit hn in
theorem LaneActs.negotiates (h : LaneActs n s x) : LaneActs n s (x.negotiates n) := by
  unfold State.negotiates
  exact h.setLaneState.onLane

theorem LaneActs.establish {ppm : BitVec 16} (h : LaneActs n s x) : LaneActs n s (x.establish n ppm) := by
  unfold State.establish
  extract_lets s1 st rate
  have h1 : LaneActs n s s1 := h.setLocked.onLane
  exact .ite h1.negotiates (.ite (h1.laneUp hn) (.ite (h1.switchEnded hn (h1.laneUp hn)) h1))

omit hn in
theorem LaneActs.loseRx {cause : LosCause} (h : LaneActs n s x) : LaneActs n s (x.loseRx n cause) := by
  cases cause with
  | signal => exact h.set.unlockRx
  | lock => exact h.unlockRx
  | sync => unfold State.loseRx; exact h.onLane

theorem LaneActs.setLos {cause : LosCause} (h : LaneActs n s x) : LaneActs n s (x.setLos n cause) :=
  (((h.loseRx.set.count.lifeAdd.event hn).onLane).raise hn).laneLink hn

theorem LaneActs.requestRestart (h : LaneActs n s x) : LaneActs n s (x.requestRestart n) := .ite h (h.restartLane hn)

theorem LaneActs.writeLb {v : Word} (h : LaneActs n s x) : LaneActs n s (x.writeLb n v) := by
  unfold State.writeLb
  extract_lets p fed s1
  have h1 : LaneActs n s s1 := .ite h.unlockRx h
  exact .ite (h.event hn) (h1.set.set.updateTest hn)

omit hn in
theorem LaneActs.clearPrbs (h : LaneActs n s x) : LaneActs n s (x.clearPrbs n) := by
  unfold State.clearPrbs
  exact h.set.set.set.set.onLane

omit hn in
theorem LaneActs.setPoly {f : Fld} {v : Word} (h : LaneActs n s x) (hf : f.off ≠ PG.EVT.off := by decide) :
    LaneActs n s (x.setPoly (Pg.lane n) f v) := .ite h (h.set hf)

theorem LaneActs.writePrbs {v : Word} (h : LaneActs n s x) : LaneActs n s (x.writePrbs n v) := by
  unfold State.writePrbs
  extract_lets p s1 put s2 s3 s4
  have h1 : LaneActs n s s1 := .ite h.clearPrbs h
  have h3 : LaneActs n s s3 := h1.set.set.set.set.setPoly.setPoly
  have h4 : LaneActs n s s4 := .ite h3 h3.unlockChecker
  exact .ite (h.event hn) (h4.updateTest hn)

theorem LaneActs.writePrbsClr (h : LaneActs n s x) : LaneActs n s (x.writePrbsClr n) := .ite (h.event hn) h.clearPrbs

theorem LaneActs.loseChecker {bits errors : Nat} (h : LaneActs n s x) : LaneActs n s (x.loseChecker n bits errors) := by
  unfold State.loseChecker State.addBits
  exact h.set.set.count.count.set.event hn

theorem LaneActs.writeSleep {v : Word} (h : LaneActs n s x) : LaneActs n s (x.writeSleep n v) := by
  unfold State.writeSleep
  extract_lets p was s1 on
  have h1 : LaneActs n s s1 := h.set.set.set
  exact .ite h (.ite h1 (.ite (h1.sleepLane hn) (.ite (h1.wakeLane hn) h1)))

end

end Sys2Proof.Machine
end

section
/-!
SUPPORT. What the operations of a lane show: its state, its record and its registers after each (R273 to R279).
-/

namespace Sys2Proof.Machine

variable {n : Nat} {s : State}

/-! ### Records -/

@[simp] theorem State.lane_onLane (s : State) (n : Nat) (f : Lane → Lane) : (s.onLane n f).lane n = f (s.lane n) :=
  State.setLane_lane_same ..
@[simp] theorem State.lane_set (s : State) (p : Nat) (f : Fld) (v i j : Nat) : (s.set p f v i).lane j = s.lane j := rfl
@[simp] theorem State.lane_count (s : State) (p : Nat) (f : Fld) (k i j : Nat) : (s.count p f k i).lane j = s.lane j := rfl
@[simp] theorem State.lane_event (s : State) (p b j : Nat) : (s.event p b).lane j = s.lane j := by
  unfold State.lane; rw [State.event_lanes]
@[simp] theorem State.lane_lifeAdd (s : State) (p i k j : Nat) : (s.lifeAdd p i k).lane j = s.lane j := by
  unfold State.lane; rw [State.lifeAdd_lanes]
@[simp] theorem State.lane_raise (s : State) (src inst j : Nat) : (s.raise src inst).lane j = s.lane j := by
  unfold State.lane; rw [State.raise_lanes]
@[simp] theorem State.lane_laneLink (s : State) (k j : Nat) : (s.laneLink k).lane j = s.lane j :=
  (Passes.refl (l := False) s).laneLink.lane j

/-! ### Registers -/

@[simp] theorem State.laneState_onLane (s : State) (n : Nat) (f : Lane → Lane) (j : Nat) :
    (s.onLane n f).laneState j = s.laneState j := rfl

/-- Two fields at different places of their pages. -/
theorem State.get_set_place (s : State) {p q i j : Nat} {f g : Fld} (v : Nat) (h : f.off ≠ g.off ∨ f.lo ≠ g.lo) :
    (s.set p f v i).get q g j = s.get q g j :=
  State.get_set_ne _ _ (h.elim fkey_off fkey_lo)

theorem State.get_count_place (s : State) {p q i j k : Nat} {f g : Fld} (h : f.off ≠ g.off ∨ f.lo ≠ g.lo) :
    (s.count p f k i).get q g j = s.get q g j := s.get_set_place _ h

theorem not_reactive_lane (h : n < 10) : ¬ reactive (Pg.lane n) := by
  simp only [reactive, Pg.lane, Pg.cinch]; omega

/-- The port above a lane writes none of its fields. -/
theorem State.get_laneLink (s : State) {k i : Nat} {f : Fld} (hn : n < 10) (hf : f.off ≠ PG.EVT.off) :
    (s.laneLink k).get (Pg.lane n) f i = s.get (Pg.lane n) f i := (Passes.refl (l := False) s).laneLink.get hn hf

/-- An event of a lane that acts on stays. -/
theorem LaneActs.evt_event {u : State} {b : Nat} (h : LaneActs n (s.event (Pg.lane n) b) u)
    (hp : s.present (Pg.lane n) = true) (hb : b < 32) : u.evt (Pg.lane n) b = true :=
  h.evt b hb (State.evt_event_same hp b hb)

/-! ### Bring-up -/

theorem State.setLaneState_state (s : State) (n ms : Nat) {v : Nat} (hv : v < 16) :
    (s.setLaneState n v ms).laneState n = v :=
  (State.get_set_same ..).trans (Nat.mod_eq_of_lt hv)

theorem State.setLaneState_lane (s : State) (n v ms : Nat) :
    (s.setLaneState n v ms).lane n = { s.lane n with since := s.now + cyclesMs ms } := State.lane_onLane ..

theorem State.unlockRx_state (s : State) (n : Nat) : (s.unlockRx n).laneState n = s.laneState n := by
  simp (disch := decide) only [State.unlockRx, State.laneState, State.onLane_get, State.get_set_place]

theorem State.unlockRx_lane (s : State) (n : Nat) : (s.unlockRx n).lane n = { s.lane n with estAt := none } :=
  State.lane_onLane ..

theorem State.unlockRx_locked (s : State) (n : Nat) : (s.unlockRx n).get (Pg.lane n) LANE.STAT_RX_LOCKED = 0 := by
  simp (disch := decide) only [State.unlockRx, State.onLane_get, State.get_set_place, State.get_set_same, Nat.zero_mod]

theorem State.detectAt_state (s : State) (n rate : Nat) : (s.detectAt n rate).laneState n = Ls.detect := by
  have h := (s.setLaneState n Ls.detect).unlockRx_state n
  rw [s.setLaneState_state n 0 (by decide)] at h
  simp (disch := decide) only [State.detectAt, State.laneState, State.onLane_get, State.get_set_place]
  exact h

theorem State.detectAt_lane (s : State) (n rate : Nat) :
    (s.detectAt n rate).lane n = { s.lane n with since := s.now, estAt := none, try_ := rate } := by
  simp [State.detectAt, State.setLaneState_lane, State.unlockRx_lane, cyclesMs]

theorem State.detectAt_rate (s : State) (n rate : Nat) :
    (s.detectAt n rate).get (Pg.lane n) LANE.STAT_RATE = rate % 2 ^ LANE.STAT_RATE.w := State.get_set_same ..

theorem State.listens_state (s : State) (n : Nat) : (s.listens n).laneState n = Ls.listen := by
  have h := (s.setLaneState n Ls.listen).unlockRx_state n
  rw [s.setLaneState_state n 0 (by decide)] at h
  simp (disch := decide) only [State.listens, State.laneState, State.get_set_place]
  exact h

theorem State.listens_lane (s : State) (n : Nat) :
    (s.listens n).lane n = { s.lane n with since := s.now, estAt := none } := by
  simp [State.listens, State.setLaneState_lane, State.unlockRx_lane, cyclesMs]

/-- A field of another register than STAT, after a write of a field of STAT. -/
theorem State.get_setStat (s : State) {p q v i j : Nat} {f : Fld} (g : Fld) (hf : f.off ≠ LANE.STAT_STATE.off)
    (hg : g.off = LANE.STAT_STATE.off := by rfl) : (s.set p g v i).get q f j = s.get q f j :=
  s.get_set_off _ (hg ▸ hf.symm)

theorem State.get_unlockRx_off (s : State) {k q i : Nat} {f : Fld} (hf : f.off ≠ LANE.STAT_STATE.off) :
    (s.unlockRx k).get q f i = s.get q f i := by
  rw [State.unlockRx, State.onLane_get, State.get_setStat _ LANE.STAT_PPM hf, State.get_setStat _ LANE.STAT_RX_LOCKED hf]

theorem State.get_setLaneState (s : State) {k v ms q i : Nat} {f : Fld}
    (h : LANE.STAT_STATE.off ≠ f.off ∨ LANE.STAT_STATE.lo ≠ f.lo) : (s.setLaneState k v ms).get q f i = s.get q f i := by
  rw [State.setLaneState, State.onLane_get, State.get_set_place _ _ h]

theorem State.get_listens_off (s : State) {k q i : Nat} {f : Fld} (hf : f.off ≠ LANE.STAT_STATE.off) :
    (s.listens k).get q f i = s.get q f i := by
  rw [State.listens, State.get_setStat _ LANE.STAT_RATE hf, State.get_unlockRx_off _ hf,
    State.get_setLaneState _ (.inl hf.symm)]

theorem State.get_detectAt_off (s : State) {k rate q i : Nat} {f : Fld} (hf : f.off ≠ LANE.STAT_STATE.off) :
    (s.detectAt k rate).get q f i = s.get q f i := by
  rw [State.detectAt, State.onLane_get, State.get_setStat _ LANE.STAT_RATE hf, State.get_unlockRx_off _ hf,
    State.get_setLaneState _ (.inl hf.symm)]

theorem State.listens_locked (s : State) (n : Nat) : (s.listens n).get (Pg.lane n) LANE.STAT_RX_LOCKED = 0 :=
  (State.get_set_place _ _ (.inr (by decide))).trans (State.unlockRx_locked ..)

theorem State.detectAt_locked (s : State) (n rate : Nat) : (s.detectAt n rate).get (Pg.lane n) LANE.STAT_RX_LOCKED = 0 :=
  (State.get_set_place _ _ (.inr (by decide))).trans (State.unlockRx_locked ..)

/-- The state in which bring-up begins, with CFG in force, and the state of the lane there (R273, R274). -/
structure BroughtUp (n : Nat) (s u : State) : Prop where
  state : u.laneState n = if s.flag (Pg.lane n) LANE.CFG_MODE then Ls.listen else Ls.detect
  locked : u.get (Pg.lane n) LANE.STAT_RX_LOCKED = 0
  waking : (u.lane n).waking = false
  rateMax : (u.lane n).rateMax = s.get (Pg.lane n) LANE.CFG_RATE_MAX
  losAt : (u.lane n).losAt = (s.lane n).losAt
  regs : ∀ f i, f.off ≠ LANE.STAT_STATE.off → f.off ≠ PG.EVT.off → u.get (Pg.lane n) f i = s.get (Pg.lane n) f i

theorem State.bringUp_broughtUp (hn : n < 10) (s : State) : BroughtUp n s (s.bringUp n) := by
  unfold State.bringUp
  extract_lets p mode rate clear auto_ s1 s2 s3
  have hlink : Passes False s3 (s3.laneLink n) := (Passes.refl s3).laneLink
  have hlane : s2.lane n = s1.lane n := by simp only [s2]; split <;> rfl
  have hreg (f : Fld) (i : Nat) (hf : f.off ≠ LANE.STAT_STATE.off) : s2.get p f i = s.get p f i := by
    have h1 : s2.get p f i = s1.get p f i := by simp only [s2]; split <;> rfl
    exact h1.trans (s.get_unlockRx_off hf)
  have h1 : s1.lane n = { s.lane n with mode := mode, rateMax := rate, losClear := clear, autoRestart := auto_,
                                        waking := false, try_ := 0, estAt := none } := by
    simp only [s1, State.lane_onLane, State.unlockRx_lane]
  have h3 : BroughtUp n s s3 := by
    cases hm : mode with
    | true =>
      have e : s3 = s2.listens n := by simp only [s3, hm, if_true]
      have hl : s3.lane n = _ := e ▸ s2.listens_lane n
      rw [hlane, h1] at hl
      exact ⟨by rw [e, State.listens_state]; exact (if_pos hm).symm, e ▸ s2.listens_locked n, by rw [hl], by rw [hl],
        by rw [hl], fun f i hf _ => by rw [e, State.get_listens_off _ hf]; exact hreg f i hf⟩
    | false =>
      have e : s3 = s2.detectAt n rate := by simp only [s3, hm, Bool.false_eq_true, if_false]
      have hl : s3.lane n = _ := e ▸ s2.detectAt_lane n rate
      rw [hlane, h1] at hl
      exact ⟨by rw [e, State.detectAt_state]; exact (if_neg (by rw [show s.flag _ _ = false from hm]; decide)).symm,
        e ▸ s2.detectAt_locked n rate, by rw [hl], by rw [hl], by rw [hl],
        fun f i hf _ => by rw [e, State.get_detectAt_off _ hf]; exact hreg f i hf⟩
  exact ⟨(hlink.laneState n).trans h3.state, (hlink.get hn (by decide)).trans h3.locked, by rw [hlink.lane, h3.waking],
    by rw [hlink.lane, h3.rateMax], by rw [hlink.lane, h3.losAt],
    fun f i hf he => (hlink.get hn he).trans (h3.regs f i hf he)⟩

/-- A restart has counted and begun bring-up (R275). -/
def LaneRestarted (n : Nat) (s u : State) : Prop :=
  u.get (Pg.lane n) LANE.RESTARTS = min (s.get (Pg.lane n) LANE.RESTARTS + 1) (2 ^ LANE.RESTARTS.w - 1) ∧
    u.evt (Pg.lane n) 4 = true ∧ u.flag (Pg.lane n) LANE.STAT_RX_LOCKED = false ∧ (u.lane n).waking = false ∧
    (u.lane n).rateMax = s.get (Pg.lane n) LANE.CFG_RATE_MAX ∧
    u.laneState n = (if s.flag (Pg.lane n) LANE.CFG_MODE then Ls.listen else Ls.detect)

/-- A register of the lane beside its counters and event bits, as a restart has counted. -/
theorem State.get_restartCounted (s : State) {f : Fld} (h : f.off ≠ LANE.RESTARTS.off ∧ f.off ≠ PG.EVT.off) :
    (((s.count (Pg.lane n) LANE.RESTARTS).lifeAdd (Pg.lane n) 1).event (Pg.lane n) 4).get (Pg.lane n) f =
      s.get (Pg.lane n) f := by
  rw [State.get_event_off _ _ _ h.2.symm, State.lifeAdd_get, State.get_count_place _ (.inl h.1.symm)]

theorem State.restartLane_restarted (hn : n < 10) (hp : s.present (Pg.lane n) = true) :
    LaneRestarted n s (s.restartLane n) ∧ ((s.restartLane n).lane n).losAt = (s.lane n).losAt := by
  let t := (s.count (Pg.lane n) LANE.RESTARTS).lifeAdd (Pg.lane n) 1
  have hu : BroughtUp n (t.event (Pg.lane n) 4) (s.restartLane n) := State.bringUp_broughtUp hn _
  have hact : LaneActs n (t.event (Pg.lane n) 4) (s.restartLane n) := LaneActs.bringUp hn (.refl ..)
  refine ⟨⟨?_, hact.evt_event (by simpa [t] using hp) (by decide), by rw [State.flag_eq, hu.locked]; rfl, hu.waking,
    hu.rateMax.trans (s.get_restartCounted (by decide)), ?_⟩, by rw [hu.losAt]; simp [t]⟩
  · rw [hu.regs _ _ (by decide) (by decide), State.get_event_off _ _ _ (by decide)]
    simp [t]
  · rw [hu.state, State.flag_eq, State.get_restartCounted _ (by decide)]
    rfl

end Sys2Proof.Machine
end

section
/-!
SUPPORT. The windows of bring-up, and the established rate (R273).
-/

namespace Sys2Proof.Machine

variable {n : Nat} {s : State}

/-! ### UP -/

theorem State.laneUp_lane (s : State) (n rate : Nat) :
    (s.laneUp n rate).lane n = { s.lane n with since := s.now, last := rate, everUp := true, waking := false } := by
  simp [State.laneUp, State.setLaneState_lane, cyclesMs]

/-- A field of the lane is the one that UP has written, or the one from before. -/
theorem State.get_laneUp (hn : n < 10) (s : State) (rate : Nat) {f : Fld} (hf : f.off ≠ PG.EVT.off) :
    (s.laneUp n rate).get (Pg.lane n) f =
      ((s.set (Pg.lane n) LANE.STAT_STATE Ls.up).set (Pg.lane n) LANE.STAT_RATE rate).get (Pg.lane n) f := by
  rw [State.laneUp, State.get_laneLink _ hn hf, State.get_event_off _ _ _ hf.symm]
  rfl

theorem State.laneUp_state (hn : n < 10) (s : State) (rate : Nat) : (s.laneUp n rate).laneState n = Ls.up := by
  rw [State.laneState, State.get_laneUp hn s rate (by decide), State.get_set_place _ _ (.inr (by decide)),
    State.get_set_same]
  rfl

theorem State.laneUp_rate (hn : n < 10) (s : State) (rate : Nat) :
    (s.laneUp n rate).get (Pg.lane n) LANE.STAT_RATE = rate % 2 ^ LANE.STAT_RATE.w := by
  rw [State.get_laneUp hn s rate (by decide), State.get_set_same]

theorem State.laneUp_evt (hn : n < 10) (rate : Nat) (hp : s.present (Pg.lane n) = true) :
    (s.laneUp n rate).evt (Pg.lane n) 0 = true :=
  LaneActs.evt_event ((LaneActs.refl ..).laneLink hn) hp (by decide)

/-! ### Windows -/

theorem State.windowEnds_listen (h : s.laneState n = Ls.listen) :
    ((s.windowEnds n).lane n).since = s.now ∧
    ((s.lane n).rateMax = 0 → (s.windowEnds n).laneState n = Ls.listen) ∧
    ((s.lane n).rateMax ≠ 0 → (s.windowEnds n).laneState n = Ls.detect ∧
      ((s.windowEnds n).lane n).try_ = (s.lane n).rateMax ∧
      (s.windowEnds n).get (Pg.lane n) LANE.STAT_RATE = (s.lane n).rateMax % 2 ^ LANE.STAT_RATE.w) := by
  have e : s.windowEnds n =
      if (s.lane n).rateMax = 0 then s.setLaneState n Ls.listen else s.detectAt n (s.lane n).rateMax := if_pos h
  by_cases h0 : (s.lane n).rateMax = 0
  · rw [e, if_pos h0]
    exact ⟨by rw [State.setLaneState_lane]; rfl, fun _ => s.setLaneState_state n 0 (by decide), fun k => absurd h0 k⟩
  · rw [e, if_neg h0]
    exact ⟨by rw [State.detectAt_lane], fun k => absurd k h0,
      fun _ => ⟨s.detectAt_state n _, by rw [State.detectAt_lane], s.detectAt_rate n _⟩⟩

theorem State.windowEnds_detect (hn : n < 10) (hp : s.present (Pg.lane n) = true) (h : s.laneState n = Ls.detect) :
    ((s.lane n).waking = true → LaneRestarted n s (s.windowEnds n)) ∧
    ((s.lane n).waking = false → (s.lane n).mode = false →
      (s.windowEnds n).laneState n = Ls.detect ∧ ((s.windowEnds n).lane n).try_ = (s.lane n).try_) ∧
    ((s.lane n).waking = false → (s.lane n).mode = true → 1 < (s.lane n).try_ →
      (s.windowEnds n).laneState n = Ls.detect ∧ ((s.windowEnds n).lane n).try_ = (s.lane n).try_ - 1) ∧
    ((s.lane n).waking = false → (s.lane n).mode = true → (s.lane n).try_ ≤ 1 →
      (s.windowEnds n).laneState n = Ls.listen) := by
  have e : s.windowEnds n = if (s.lane n).waking then s.restartLane n
      else if !(s.lane n).mode then s.setLaneState n Ls.detect
      else if 1 < (s.lane n).try_ then s.detectAt n ((s.lane n).try_ - 1) else s.listens n := by
    unfold State.windowEnds
    extract_lets x st
    rw [if_neg (by rw [show st = Ls.detect from h]; decide), if_pos h]
  refine ⟨fun hw => ?_, fun hw hm => ?_, fun hw hm ht => ?_, fun hw hm ht => ?_⟩
  · rw [e, if_pos hw]
    exact (State.restartLane_restarted hn hp).1
  · rw [e, hw, hm]
    exact ⟨s.setLaneState_state n 0 (by decide), by simp [State.setLaneState_lane]⟩
  · rw [e, hw, hm]
    simp only [Bool.false_eq_true, if_false, Bool.not_true, if_pos ht, State.detectAt_state, State.detectAt_lane, and_self]
  · rw [e, hw, hm]
    simp only [Bool.false_eq_true, if_false, Bool.not_true, if_neg (Nat.not_lt.2 ht), State.listens_state]

theorem State.windowEnds_switch (hp : s.present (Pg.lane n) = true) (h : s.laneState n = Ls.switch)
    (he : s.enabled (Pg.lane n) = true) :
    (s.windowEnds n).get (Pg.lane n) LANE.STEP_DOWNS =
      min (s.get (Pg.lane n) LANE.STEP_DOWNS + 1) (2 ^ LANE.STEP_DOWNS.w - 1) ∧
    (s.windowEnds n).evt (Pg.lane n) 3 = true ∧
    ((s.lane n).try_ ≤ 1 → (s.windowEnds n).laneState n = Ls.listen) ∧
    (1 < (s.lane n).try_ → (s.windowEnds n).laneState n = Ls.switch ∧
      ((s.windowEnds n).lane n).try_ = (s.lane n).try_ - 1) := by
  let t := ((s.unlockRx n).count (Pg.lane n) LANE.STEP_DOWNS).lifeAdd (Pg.lane n) 2
  let d := t.event (Pg.lane n) 3
  have e : s.windowEnds n = if (s.lane n).try_ ≤ 1 then d.listens n
      else (d.setLaneState n Ls.switch).onLane n fun y => { y with try_ := (s.lane n).try_ - 1 } := by
    unfold State.windowEnds State.switchEnded
    extract_lets x st
    rw [if_neg (by rw [show st = Ls.switch from h]; decide), if_neg (by rw [show st = Ls.switch from h]; decide),
      if_pos h, if_pos he]
  have hcount : d.get (Pg.lane n) LANE.STEP_DOWNS =
      min (s.get (Pg.lane n) LANE.STEP_DOWNS + 1) (2 ^ LANE.STEP_DOWNS.w - 1) := by
    rw [State.get_event_off _ _ _ (by decide), State.lifeAdd_get, State.get_count_same, State.get_unlockRx_off _ (by decide)]
  have hevt {u : State} (k : LaneActs n d u) : u.evt (Pg.lane n) 3 = true :=
    k.evt_event (by simpa [t, State.unlockRx] using hp) (by decide)
  by_cases ht : (s.lane n).try_ ≤ 1
  · rw [e, if_pos ht]
    exact ⟨(d.get_listens_off (by decide)).trans hcount, hevt (LaneActs.refl ..).listens, fun _ => d.listens_state n,
      fun k => absurd ht (Nat.not_le.2 k)⟩
  · rw [e, if_neg ht]
    refine ⟨?_, hevt (LaneActs.refl ..).setLaneState.onLane, fun k => absurd k ht, fun _ => ⟨?_, by rw [State.lane_onLane]⟩⟩
    · rw [State.onLane_get, State.get_setLaneState _ (by decide), hcount]
    · rw [State.laneState_onLane, State.setLaneState_state _ _ _ (by decide)]

/-! ### The established rate -/

/-- The recovery loop is locked to a rate that the PCS has established. -/
structure LockedTo (n : Nat) (ppm : BitVec 16) (s u : State) : Prop where
  locked : u.flag (Pg.lane n) LANE.STAT_RX_LOCKED = true
  ppm : u.get (Pg.lane n) LANE.STAT_PPM = ppm.toNat % 2 ^ LANE.STAT_PPM.w
  estAt : (u.lane n).estAt = some s.now

theorem State.lockRx_lockedTo (s : State) (n : Nat) (ppm : BitVec 16) : LockedTo n ppm s (s.lockRx n ppm) := by
  refine ⟨?_, State.get_set_same .., by rw [State.lockRx, State.lane_onLane]⟩
  rw [State.lockRx, State.setLocked, State.flag_eq]
  simp (disch := decide) only [State.onLane_get, State.get_set_place, State.get_set_same]
  rfl

theorem State.lockRx_state (s : State) (n : Nat) (ppm : BitVec 16) : (s.lockRx n ppm).laneState n = s.laneState n := by
  simp (disch := decide) only [State.lockRx, State.setLocked, State.laneState, State.onLane_get, State.get_set_place]

theorem State.lockRx_try (s : State) (n : Nat) (ppm : BitVec 16) : ((s.lockRx n ppm).lane n).try_ = (s.lane n).try_ := by
  simp [State.lockRx, State.setLocked]

/-- The lock stays through UP. -/
theorem LockedTo.laneUp {ppm : BitVec 16} {u : State} (hn : n < 10) (h : LockedTo n ppm s u) (rate : Nat) :
    LockedTo n ppm s (u.laneUp n rate) := by
  refine ⟨?_, ?_, by rw [State.laneUp_lane, h.estAt]⟩
  · rw [← h.locked, State.flag_eq, State.get_laneUp hn u rate (by decide), State.get_set_place _ _ (.inr (by decide)),
      State.get_set_place _ _ (.inr (by decide))]
    rfl
  · rw [State.get_laneUp hn u rate (by decide), State.get_set_place _ _ (.inr (by decide)),
      State.get_set_place _ _ (.inr (by decide)), h.ppm]

theorem LockedTo.negotiates {ppm : BitVec 16} {u : State} (h : LockedTo n ppm s u) : LockedTo n ppm s (u.negotiates n) := by
  refine ⟨?_, ?_, ?_⟩
  · rw [← h.locked, State.flag_eq, State.negotiates, State.onLane_get, State.get_setLaneState _ (by decide)]
    rfl
  · rw [State.negotiates, State.onLane_get, State.get_setLaneState _ (by decide), h.ppm]
  · rw [State.negotiates, State.lane_onLane, State.setLaneState_lane, h.estAt]

theorem State.enabled_lockRx (s : State) (n : Nat) (ppm : BitVec 16) :
    (s.lockRx n ppm).enabled (Pg.lane n) = s.enabled (Pg.lane n) := by
  simp (disch := decide) only [State.enabled, State.flag_eq, State.lockRx, State.setLocked, State.onLane_get,
    State.get_set_place]

theorem State.establish_listen (s : State) {n : Nat} (ppm : BitVec 16) (h : s.laneState n = Ls.listen) :
    LockedTo n ppm s (s.establish n ppm) ∧ (s.establish n ppm).laneState n = Ls.negotiate := by
  have e : s.establish n ppm = (s.lockRx n ppm).negotiates n := if_pos ((s.lockRx_state n ppm).trans h)
  rw [e]
  refine ⟨(s.lockRx_lockedTo n ppm).negotiates, ?_⟩
  rw [State.negotiates, State.laneState_onLane, State.setLaneState_state _ _ _ (by decide)]

theorem State.establish_tried (hn : n < 10) (ppm : BitVec 16) (hp : s.present (Pg.lane n) = true)
    (he : s.enabled (Pg.lane n) = true) (h : s.laneState n = Ls.detect ∨ s.laneState n = Ls.switch) :
    LockedTo n ppm s (s.establish n ppm) ∧ (s.establish n ppm).laneState n = Ls.up ∧
      (s.establish n ppm).get (Pg.lane n) LANE.STAT_RATE = (s.lane n).try_ % 2 ^ LANE.STAT_RATE.w ∧
      ((s.establish n ppm).lane n).last = (s.lane n).try_ ∧ (s.establish n ppm).evt (Pg.lane n) 0 = true := by
  have e : s.establish n ppm = (s.lockRx n ppm).laneUp n (s.lane n).try_ := by
    unfold State.establish State.switchEnded
    extract_lets t st rate
    have hst : st = s.laneState n := s.lockRx_state n ppm
    have hrate : rate = (s.lane n).try_ := s.lockRx_try n ppm
    rw [hst, hrate, show t.enabled (Pg.lane n) = true from (s.enabled_lockRx n ppm).trans he]
    rcases h with h | h <;> simp [h, Ls.detect, Ls.switch, Ls.listen, t]
  rw [e]
  exact ⟨(s.lockRx_lockedTo n ppm).laneUp hn _, State.laneUp_state hn .., State.laneUp_rate hn ..,
    by rw [State.laneUp_lane], State.laneUp_evt hn _ hp⟩

end Sys2Proof.Machine
end

section
/-!
SUPPORT. LOS (R275), tests (R276 to R278) and sleep (R279) of a lane.
-/

namespace Sys2Proof.Machine

variable {n : Nat} {s : State}

/-! ### LOS -/

theorem srcPresent_laneLos (h : s.present (Pg.lane n) = true) : s.srcPresent Src.laneLos n = true := h

theorem State.loseRx_estAt (s : State) (n : Nat) (cause : LosCause) : ((s.loseRx n cause).lane n).estAt = none := by
  cases cause with
  | signal => exact congrArg Lane.estAt (State.unlockRx_lane ..)
  | lock => exact congrArg Lane.estAt (State.unlockRx_lane ..)
  | sync => exact congrArg Lane.estAt (State.lane_onLane ..)

theorem State.loseRx_losAt (s : State) (n : Nat) (cause : LosCause) :
    ((s.loseRx n cause).lane n).losAt = (s.lane n).losAt := by
  cases cause with
  | signal => rw [State.loseRx, State.unlockRx_lane]; rfl
  | lock => rw [State.loseRx, State.unlockRx_lane]
  | sync => rw [State.loseRx, State.lane_onLane]

theorem State.loseRx_sigDet (s : State) (n : Nat) : (s.loseRx n .signal).flag (Pg.lane n) LANE.STAT_SIG_DET = false := by
  simp (disch := decide) only [State.loseRx, State.unlockRx, State.flag_eq, State.onLane_get, State.get_set_place,
    State.get_set_same]
  rfl

theorem State.loseRx_locked (s : State) (n : Nat) {cause : LosCause} (h : cause ≠ .sync) :
    (s.loseRx n cause).flag (Pg.lane n) LANE.STAT_RX_LOCKED = false := by
  cases cause with
  | signal => rw [State.loseRx, State.flag_eq, State.unlockRx_locked]; rfl
  | lock => rw [State.loseRx, State.flag_eq, State.unlockRx_locked]; rfl
  | sync => exact absurd rfl h

/-- Of the registers a receiver loses SIG_DET, RX_LOCKED and PPM alone. -/
theorem State.get_loseRx (s : State) {cause : LosCause} {f : Fld}
    (h : f.off ≠ LANE.STAT_STATE.off ∨
      (f.lo ≠ LANE.STAT_SIG_DET.lo ∧ f.lo ≠ LANE.STAT_RX_LOCKED.lo ∧ f.lo ≠ LANE.STAT_PPM.lo)) :
    (s.loseRx n cause).get (Pg.lane n) f = s.get (Pg.lane n) f := by
  have hunlock (t : State) : (t.unlockRx n).get (Pg.lane n) f = t.get (Pg.lane n) f := by
    rw [State.unlockRx, State.onLane_get, State.get_set_place (f := LANE.STAT_PPM) _ _ (h.imp Ne.symm fun k => k.2.2.symm),
      State.get_set_place (f := LANE.STAT_RX_LOCKED) _ _ (h.imp Ne.symm fun k => k.2.1.symm)]
  cases cause with
  | signal => exact (hunlock _).trans (s.get_set_place 0 (h.imp Ne.symm fun k => k.1.symm))
  | lock => exact hunlock s
  | sync => rfl

theorem State.loseRx_los (s : State) (n : Nat) (cause : LosCause) : (s.loseRx n cause).laneLos n = s.laneLos n := by
  rw [State.laneLos, State.flag_eq, State.get_loseRx _ (by decide)]
  rfl

/-- LOS sets: it is shown, counted and active from now on, and the receiver has lost what its cause names. -/
theorem State.setLos_shows (hn : n < 10) (hp : s.present (Pg.lane n) = true) (cause : LosCause) :
    (s.setLos n cause).laneLos n = true ∧ (s.setLos n cause).evt (Pg.lane n) 1 = true ∧
    (s.setLos n cause).condition Src.laneLos n = true ∧ ((s.setLos n cause).lane n).losAt = s.now ∧
    (s.setLos n cause).get (Pg.lane n) LANE.LOS_COUNT =
      min (s.get (Pg.lane n) LANE.LOS_COUNT + 1) (2 ^ LANE.LOS_COUNT.w - 1) ∧
    (cause = .signal → (s.setLos n cause).flag (Pg.lane n) LANE.STAT_SIG_DET = false) ∧
    (cause ≠ .sync → (s.setLos n cause).flag (Pg.lane n) LANE.STAT_RX_LOCKED = false) := by
  let r := s.loseRx n cause
  let t := (((r.set (Pg.lane n) LANE.STAT_LOS 1).count (Pg.lane n) LANE.LOS_COUNT).lifeAdd (Pg.lane n) 0)
  let d := t.event (Pg.lane n) 1
  let o := d.onLane n fun x => { x with losAt := d.now }
  have hr : LaneActs n s r := (LaneActs.refl n s).loseRx
  have hpr : r.present (Pg.lane n) = true := by unfold State.present; rw [hr.part]; exact hp
  have hpd : o.present (Pg.lane n) = true := by simpa [o, d, t] using hpr
  have hd : LaneActs n d (s.setLos n cause) := ((LaneActs.refl n d).onLane.raise hn).laneLink hn
  have hlink : Passes True (o.raise Src.laneLos n) (s.setLos n cause) := (Passes.refl _).laneLink
  have hget {f : Fld} (h1 : f.off ≠ PG.EVT.off) (h2 : LANE.STAT_LOS.off ≠ f.off ∨ LANE.STAT_LOS.lo ≠ f.lo)
      (h3 : LANE.LOS_COUNT.off ≠ f.off ∨ LANE.LOS_COUNT.lo ≠ f.lo) :
      (s.setLos n cause).get (Pg.lane n) f = r.get (Pg.lane n) f := by
    rw [hlink.get hn h1, State.get_raise _ _ _ (not_reactive_lane hn) h1, State.onLane_get,
      State.get_event_off _ _ _ h1.symm, State.lifeAdd_get, State.get_count_place _ h3, State.get_set_place _ _ h2]
  refine ⟨?_, hd.evt_event (by simpa [t] using hpr) (by decide), ?_, ?_, ?_, ?_, fun hc => ?_⟩
  · rw [State.laneLos, State.flag_eq, hlink.get hn (by decide), State.get_raise _ _ _ (not_reactive_lane hn) (by decide),
      State.onLane_get, State.get_event_off _ _ _ (by decide), State.lifeAdd_get, State.get_count_place _ (by decide),
      State.get_set_same]
    rfl
  · rw [State.condition, hlink.active trivial]
    exact State.raise_active o Src.laneLos n (srcPresent_laneLos hpd)
  · rw [hlink.lane, State.lane_raise, State.lane_onLane]
    exact (State.event_now ..).trans ((State.lifeAdd_now ..).trans hr.now)
  · rw [hlink.get hn (by decide), State.get_raise _ _ _ (not_reactive_lane hn) (by decide), State.onLane_get,
      State.get_event_off _ _ _ (by decide), State.lifeAdd_get, State.get_count_same, State.get_set_place _ _ (by decide),
      State.get_loseRx _ (by decide)]
  · rintro rfl
    rw [State.flag_eq, hget (by decide) (by decide) (by decide)]
    exact s.loseRx_sigDet n
  · rw [State.flag_eq, hget (by decide) (by decide) (by decide)]
    exact s.loseRx_locked n hc

/-- LOS clears. -/
theorem State.dropLos_shows (hn : n < 10) (hp : s.present (Pg.lane n) = true) (h : s.laneLos n = true) :
    (s.dropLos n).laneLos n = false ∧ (s.dropLos n).evt (Pg.lane n) 2 = true ∧
      (s.dropLos n).condition Src.laneLos n = false := by
  have e : s.dropLos n = ((s.set (Pg.lane n) LANE.STAT_LOS 0).event (Pg.lane n) 2).lower Src.laneLos n := if_pos h
  have hd : LaneActs n ((s.set (Pg.lane n) LANE.STAT_LOS 0).event (Pg.lane n) 2) (s.dropLos n) :=
    e ▸ (LaneActs.refl ..).lower hn
  refine ⟨?_, hd.evt_event hp (by decide), by rw [e]; exact State.lower_inactive ..⟩
  rw [e, State.laneLos, State.flag_eq, State.get_lower _ _ _ (not_reactive_lane hn) (by decide),
    State.get_event_off _ _ _ (by decide), State.get_set_same]
  rfl

theorem State.dropLos_los (hn : n < 10) (hp : s.present (Pg.lane n) = true) : (s.dropLos n).laneLos n = false := by
  cases h : s.laneLos n with
  | true => exact (State.dropLos_shows hn hp h).1
  | false => rw [State.dropLos, h]; exact h

/-- The clearing of LOS writes LOS alone. -/
theorem State.get_dropLos (hn : n < 10) (s : State) {f : Fld} {i : Nat} (hf : f.off ≠ PG.EVT.off)
    (h : LANE.STAT_LOS.off ≠ f.off ∨ LANE.STAT_LOS.lo ≠ f.lo) :
    (s.dropLos n).get (Pg.lane n) f i = s.get (Pg.lane n) f i := by
  unfold State.dropLos
  split
  · rw [State.get_lower _ _ _ (not_reactive_lane hn) hf, State.get_event_off _ _ _ hf.symm, State.get_set_place _ _ h]
  · rfl

/-! ### Tests -/

/-- A field that TEST leaves of a lane that was UP. -/
theorem State.get_enterTest (hn : n < 10) (h : s.laneState n = Ls.up) {f : Fld} (hf : f.off ≠ PG.EVT.off)
    (hp : f.off ≠ LANE.STAT_STATE.off ∨ f.lo = LANE.STAT_STATE.lo ∨ f.lo = LANE.STAT_RATE.lo ∨ f.lo = LANE.STAT_LOS.lo) :
    (s.enterTest n).get (Pg.lane n) f =
      (((s.setLaneState n Ls.test).onLane n fun x => { x with waking := false }).dropLos n).get (Pg.lane n) f := by
  unfold State.enterTest
  extract_lets p s1 s2
  have h1 : s1 = s := if_pos h
  have hlock (t : State) : (t.lockNear n).get (Pg.lane n) f = t.get (Pg.lane n) f := by
    have hplace {g : Fld} (hg : g.off = LANE.STAT_STATE.off)
        (hl : g.lo ≠ LANE.STAT_STATE.lo ∧ g.lo ≠ LANE.STAT_RATE.lo ∧ g.lo ≠ LANE.STAT_LOS.lo) :
        g.off ≠ f.off ∨ g.lo ≠ f.lo := by
      rcases hp with hp | hp | hp | hp
      · exact .inl (hg ▸ hp.symm)
      · exact .inr (hp ▸ hl.1)
      · exact .inr (hp ▸ hl.2.1)
      · exact .inr (hp ▸ hl.2.2)
    unfold State.lockNear
    split
    · rw [State.setLocked, State.onLane_get, State.get_set_place _ _ (hplace (g := LANE.STAT_PPM) rfl (by decide)),
        State.get_set_place _ _ (hplace (g := LANE.STAT_SIG_DET) rfl (by decide)),
        State.get_set_place _ _ (hplace (g := LANE.STAT_RX_LOCKED) rfl (by decide))]
    · rfl
  rw [hlock, State.get_laneLink _ hn hf]
  simp only [s2, h1]

/-- A lane that was UP enters TEST at its rate, without LOS. -/
theorem State.enterTest_up (hn : n < 10) (hpr : s.present (Pg.lane n) = true) (h : s.laneState n = Ls.up) :
    (s.enterTest n).laneState n = Ls.test ∧ (s.enterTest n).laneLos n = false ∧
    (s.enterTest n).get (Pg.lane n) LANE.STAT_RATE = s.get (Pg.lane n) LANE.STAT_RATE ∧
    ∀ f : Fld, f.off ≠ LANE.STAT_STATE.off → f.off ≠ PG.EVT.off →
      (s.enterTest n).get (Pg.lane n) f = s.get (Pg.lane n) f := by
  refine ⟨?_, ?_, ?_, fun f hf he => ?_⟩
  · rw [State.laneState, State.get_enterTest hn h (by decide) (by decide), State.get_dropLos hn _ (by decide) (by decide),
      State.onLane_get]
    exact s.setLaneState_state n 0 (by decide)
  · rw [State.laneLos, State.flag_eq, State.get_enterTest hn h (by decide) (by decide)]
    exact State.dropLos_los hn hpr
  · rw [State.get_enterTest hn h (by decide) (by decide), State.get_dropLos hn _ (by decide) (by decide), State.onLane_get,
      State.get_setLaneState _ (by decide)]
  · rw [State.get_enterTest hn h he (.inl hf), State.get_dropLos hn _ he (.inl hf.symm), State.onLane_get,
      State.get_setLaneState _ (.inl hf.symm)]

/-- A lane that is UP enters TEST with its first test. -/
theorem State.updateTest_up (h : s.laneState n = Ls.up) (ht : s.testing n = true)
    (he : s.flag (Pg.lane n) PG.CTRL_EN = true) : s.updateTest n = s.enterTest n := by
  unfold State.updateTest
  extract_lets st on
  rw [show st = Ls.up from h, show on = true from ht, he]
  rfl

/-- A loopback is a test. -/
theorem State.testing_of_loopback (h : s.get (Pg.lane n) LANE.LB_MODE ≠ 0) : s.testing n = true := by
  rw [State.testing, decide_eq_true h, Bool.true_or, Bool.true_or]

theorem State.testing_of_generator (h : s.flag (Pg.lane n) LANE.PRBS_CTRL_GEN_EN = true) : s.testing n = true := by
  rw [State.testing, h, Bool.or_true, Bool.true_or]

theorem Fld.of_lt (f : Fld) (v : Word) : f.of v < 2 ^ f.w := Nat.mod_lt _ (Nat.pow_pos (by decide))

theorem State.writeLb_barred (v : Word) (h : s.testBarred n = true) : s.writeLb n v = s.event (Pg.lane n) 7 := by
  rw [State.writeLb, if_pos (by rw [h]; rfl)]

theorem State.writePrbs_barred (v : Word) (h : s.testBarred n = true) : s.writePrbs n v = s.event (Pg.lane n) 7 := by
  rw [State.writePrbs, if_pos (by rw [h]; rfl)]

/-- A write of LB that is not refused, on a lane that is UP. -/
theorem State.writeLb_up (v : Word) (hb : s.testBarred n = false) (hg : s.flag (Pg.lane n) LANE.PRBS_CTRL_GEN_EN = false)
    (he : s.flag (Pg.lane n) PG.CTRL_EN = true) (hst : s.laneState n = Ls.up) (hm : LANE.LB_MODE.of v ≠ 0) :
    s.writeLb n v = ((s.set (Pg.lane n) LANE.LB_MODE (LANE.LB_MODE.of v)).set (Pg.lane n) LANE.LB_TX_ECHO
      (LANE.LB_TX_ECHO.of v)).enterTest n := by
  let t := (s.set (Pg.lane n) LANE.LB_MODE (LANE.LB_MODE.of v)).set (Pg.lane n) LANE.LB_TX_ECHO (LANE.LB_TX_ECHO.of v)
  have e : s.writeLb n v = t.updateTest n := by
    unfold State.writeLb
    extract_lets p fed s1
    have h1 : s1 = s := if_neg (by simp [fed, hst, Ls.up, Ls.test])
    rw [if_neg (by rw [hb, hg]; simp), h1]
  rw [e, State.updateTest_up]
  · rw [State.laneState, State.get_set_place _ _ (by decide), State.get_set_place _ _ (by decide)]; exact hst
  · refine State.testing_of_loopback ?_
    rw [State.get_set_place _ _ (by decide), State.get_set_same, Nat.mod_eq_of_lt (Fld.of_lt ..)]
    exact hm
  · rw [State.flag_eq, State.get_set_place _ _ (by decide), State.get_set_place _ _ (by decide)]; exact he

end Sys2Proof.Machine
end

section
/-!
SUPPORT. The pattern checker (R277), sleep and waking (R279) of a lane.
-/

namespace Sys2Proof.Machine

variable {n : Nat} {s : State}

theorem LaneActs.present {u : State} (h : LaneActs n s u) (p : Nat) : u.present p = s.present p := by
  unfold State.present; rw [h.part]

/-! ### The checker -/

/-- PRBS_STAT, PRBS_ERR and PRBS_BITS. -/
abbrev ofChecker (f : Fld) : Prop := LANE.PRBS_STAT_CHK_LOCK.off ≤ f.off ∧ f.off ≤ LANE.PRBS_BITS_HI_BITS.off

/-- A field beside the checker's, after a write of one of them. -/
theorem State.get_setChecker (s : State) {p q v i j : Nat} {f : Fld} (g : Fld) (hf : ¬ ofChecker f)
    (hg : ofChecker g := by decide) : (s.set p g v i).get q f j = s.get q f j :=
  s.get_set_off _ fun e => hf (by unfold ofChecker; rwa [← e])

theorem State.get_clearPrbs (s : State) {q j : Nat} {f : Fld} (hf : ¬ ofChecker f) :
    (s.clearPrbs n).get q f j = s.get q f j := by
  rw [State.clearPrbs, State.onLane_get, State.get_setChecker _ LANE.PRBS_STAT_SYNC_LOSS hf,
    State.get_setChecker _ LANE.PRBS_BITS_HI_BITS hf, State.get_setChecker _ LANE.PRBS_BITS_LO_BITS hf,
    State.get_setChecker _ LANE.PRBS_ERR_ERRORS hf]

theorem State.get_addBits (s : State) {bits q j : Nat} {f : Fld} (hf : ¬ ofChecker f) :
    (s.addBits n bits).get q f j = s.get q f j := by
  rw [State.addBits, State.get_setChecker _ LANE.PRBS_BITS_HI_BITS hf, State.get_setChecker _ LANE.PRBS_BITS_LO_BITS hf]

theorem State.get_prbsErrors (s : State) {q j : Nat} {f : Fld} (hf : ¬ ofChecker f) :
    (s.prbsErrors n).get q f j = s.get q f j := by
  unfold State.prbsErrors
  split
  · exact State.get_setChecker _ LANE.PRBS_ERR_ERRORS hf
  · rfl

theorem State.get_unlockChecker (s : State) {q j : Nat} {f : Fld} (hf : ¬ ofChecker f) :
    (s.unlockChecker n).get q f j = s.get q f j := by
  rw [State.unlockChecker, State.get_setChecker _ LANE.PRBS_STAT_CHK_LOCK hf, State.get_addBits _ hf,
    State.get_prbsErrors _ hf]

theorem State.clearPrbs_shows (s : State) (n : Nat) :
    (s.clearPrbs n).get (Pg.lane n) LANE.PRBS_ERR_ERRORS = 0 ∧ (s.clearPrbs n).prbsBits n = 0 ∧
      (s.clearPrbs n).lane n = { s.lane n with lockAt := s.now, errSeen := 0 } := by
  refine ⟨?_, ?_, State.lane_onLane ..⟩ <;>
    simp (disch := decide) only [State.prbsBits, State.clearPrbs, State.onLane_get, State.get_set_place,
      State.get_set_same, Nat.zero_mod, Nat.zero_mul, Nat.add_zero]

/-- PRBS_BITS stands in two registers. -/
theorem State.addBits_prbsBits (s : State) (n bits : Nat) :
    (s.addBits n bits).prbsBits n = min (s.prbsBits n + bits) (2 ^ 48 - 1) := by
  have h : min (2 ^ 48 - 1) (s.prbsBits n + bits) < 2 ^ 48 := by omega
  rw [State.prbsBits, State.addBits, State.get_set_same, State.get_set_place _ _ (by decide), State.get_set_same,
    Nat.min_comm (s.prbsBits n + bits)]
  generalize min (2 ^ 48 - 1) (s.prbsBits n + bits) = total at h ⊢
  change total / 2 ^ 32 % 2 ^ 16 * 2 ^ 32 + total % 2 ^ 32 = total
  omega

theorem State.addBits_errors (s : State) (n bits : Nat) :
    (s.addBits n bits).get (Pg.lane n) LANE.PRBS_ERR_ERRORS = s.get (Pg.lane n) LANE.PRBS_ERR_ERRORS := by
  simp (disch := decide) only [State.addBits, State.get_set_place]

theorem State.loseChecker_shows (hp : s.present (Pg.lane n) = true) (bits errors : Nat) :
    (s.loseChecker n bits errors).flag (Pg.lane n) LANE.PRBS_STAT_CHK_LOCK = false ∧
    (s.loseChecker n bits errors).prbsBits n = min (s.prbsBits n + bits) (2 ^ 48 - 1) ∧
    (s.loseChecker n bits errors).get (Pg.lane n) LANE.PRBS_ERR_ERRORS =
      min (s.get (Pg.lane n) LANE.PRBS_ERR_ERRORS + (errors - (s.lane n).errSeen)) (2 ^ LANE.PRBS_ERR_ERRORS.w - 1) ∧
    (s.loseChecker n bits errors).evt (Pg.lane n) 6 = true := by
  let t := (s.addBits n bits).count (Pg.lane n) LANE.PRBS_ERR_ERRORS (errors - (s.lane n).errSeen)
  have hget {f : Fld} (he : PG.EVT.off ≠ f.off)
      (h1 : LANE.PRBS_STAT_CHK_LOCK.off ≠ f.off ∨ LANE.PRBS_STAT_CHK_LOCK.lo ≠ f.lo)
      (h2 : LANE.PRBS_STAT_SYNC_LOSS.off ≠ f.off ∨ LANE.PRBS_STAT_SYNC_LOSS.lo ≠ f.lo) :
      (s.loseChecker n bits errors).get (Pg.lane n) f = t.get (Pg.lane n) f := by
    rw [State.loseChecker, State.get_event_off _ _ _ he, State.get_set_place _ _ h1, State.get_count_place _ h2]
  refine ⟨?_, ?_, ?_, ?_⟩
  · rw [State.flag_eq, State.loseChecker, State.get_event_off _ _ _ (by decide), State.get_set_same]
    rfl
  · rw [← State.addBits_prbsBits, State.prbsBits, hget (by decide) (by decide) (by decide),
      hget (by decide) (by decide) (by decide), State.get_count_place _ (by decide), State.get_count_place _ (by decide),
      State.prbsBits]
  · rw [hget (by decide) (by decide) (by decide), State.get_count_same, State.addBits_errors]
  · unfold State.loseChecker
    refine State.evt_event_same ?_ 6 (by decide)
    rwa [State.set_present, State.count_present, State.count_present, State.addBits, State.set_present, State.set_present]

/-- The checker has locked. -/
def State.lockChecker (s : State) (n : Nat) : State :=
  ((s.set (Pg.lane n) LANE.PRBS_STAT_CHK_LOCK 1).onLane n fun x => { x with lockAt := s.now, errSeen := 0 }).event
    (Pg.lane n) 5

theorem LaneActs.lockChecker {x : State} (hn : n < 10) (h : LaneActs n s x) : LaneActs n s (x.lockChecker n) := by
  unfold State.lockChecker
  exact h.set.onLane.event hn

theorem State.lockChecker_shows (hp : s.present (Pg.lane n) = true) :
    (s.lockChecker n).flag (Pg.lane n) LANE.PRBS_STAT_CHK_LOCK = true ∧ ((s.lockChecker n).lane n).lockAt = s.now ∧
      ((s.lockChecker n).lane n).errSeen = 0 ∧ (s.lockChecker n).evt (Pg.lane n) 5 = true := by
  refine ⟨?_, ?_, ?_, ?_⟩
  · rw [State.lockChecker, State.flag_eq, State.get_event_off _ _ _ (by decide), State.onLane_get, State.get_set_same]
    rfl
  · rw [State.lockChecker, State.lane_event, State.lane_onLane]
  · rw [State.lockChecker, State.lane_event, State.lane_onLane]
  · unfold State.lockChecker
    refine State.evt_event_same ?_ 5 (by decide)
    exact hp

/-! ### PRBS_CTRL -/

theorem State.get_setPoly (s : State) {p q j : Nat} {f g : Fld} (v : Word) (h : f.off ≠ g.off ∨ f.lo ≠ g.lo) :
    (s.setPoly p f v).get q g j = s.get q g j := by
  unfold State.setPoly
  split
  · rfl
  · exact s.get_set_place _ h

/-- A write of PRBS_CTRL that starts the generator on a lane that is UP and not looped back brings it to TEST. -/
theorem State.writePrbs_up (hn : n < 10) (hp : s.present (Pg.lane n) = true) {v : Word} (hb : s.testBarred n = false)
    (hl : s.get (Pg.lane n) LANE.LB_MODE = 0) (he : s.flag (Pg.lane n) PG.CTRL_EN = true) (hst : s.laneState n = Ls.up)
    (hg : LANE.PRBS_CTRL_GEN_EN.of v = 1) :
    (s.writePrbs n v).laneState n = Ls.test ∧ (s.writePrbs n v).flag (Pg.lane n) LANE.PRBS_CTRL_GEN_EN = true := by
  unfold State.writePrbs
  extract_lets p s1 put s2 s3 s4
  rw [if_neg (by rw [hb, hl]; simp)]
  have h1 {f : Fld} (hf : ¬ ofChecker f) : s1.get p f = s.get p f := by
    simp only [s1]
    split
    · exact s.get_clearPrbs hf
    · rfl
  have h3 {f : Fld} (h : LANE.PRBS_CTRL_CHK_POLY.off ≠ f.off ∨ LANE.PRBS_CTRL_CHK_POLY.lo ≠ f.lo)
      (k : LANE.PRBS_CTRL_GEN_POLY.off ≠ f.off ∨ LANE.PRBS_CTRL_GEN_POLY.lo ≠ f.lo) : s3.get p f = s2.get p f :=
    (State.get_setPoly _ v k).trans (State.get_setPoly _ v h)
  have h4 {f : Fld} (hf : ¬ ofChecker f) : s4.get p f = s3.get p f := by
    simp only [s4]
    split
    · rfl
    · exact s3.get_unlockChecker hf
  have hgen : s4.flag p LANE.PRBS_CTRL_GEN_EN = true := by
    rw [State.flag_eq, h4 (by decide), h3 (by decide) (by decide)]
    simp only [s2, put, State.get_set_same, hg]
    rfl
  have hkeep {f : Fld} (hf : ¬ ofChecker f) (ho : LANE.PRBS_CTRL_GEN_EN.off ≠ f.off) : s4.get p f = s.get p f := by
    rw [h4 hf, h3 (.inl ho) (.inl ho), ← h1 hf]
    simp only [s2, put]
    rw [State.get_set_off _ _ ho, State.get_set_off (f := LANE.PRBS_CTRL_GEN_INV) _ _ ho,
      State.get_set_off (f := LANE.PRBS_CTRL_CHK_EN) _ _ ho, State.get_set_off (f := LANE.PRBS_CTRL_CHK_INV) _ _ ho]
  have hup : s4.laneState n = Ls.up := (hkeep (by decide) (by decide)).trans hst
  have hpr : s4.present p = true := by
    have h1 : LaneActs n s s1 := .ite (LaneActs.refl n s).clearPrbs (LaneActs.refl n s)
    have h3 : LaneActs n s s3 := h1.set.set.set.set.setPoly.setPoly
    exact (LaneActs.present (.ite h3 h3.unlockChecker) p).trans hp
  rw [State.updateTest_up hup (State.testing_of_generator hgen)
    (by rw [State.flag_eq, hkeep (by decide) (by decide)]; exact he)]
  obtain ⟨htest, -, -, hrest⟩ := State.enterTest_up hn hpr hup
  exact ⟨htest, by rw [← hgen, State.flag_eq, hrest _ (by decide) (by decide)]; rfl⟩

theorem State.writePrbsClr_open (h : s.testBarred n = false) : s.writePrbsClr n = s.clearPrbs n := by
  rw [State.writePrbsClr, h]; rfl

/-! ### Sleep -/

theorem State.sleepLane_shows (hn : n < 10) (hp : s.present (Pg.lane n) = true) :
    (s.sleepLane n).laneState n = Ls.sleep ∧ (s.sleepLane n).laneLos n = false ∧
    (s.sleepLane n).flag (Pg.lane n) LANE.STAT_RX_LOCKED = false ∧
    (s.sleepLane n).get (Pg.lane n) LANE.SLEEP_TX = s.get (Pg.lane n) LANE.SLEEP_TX := by
  let t := (s.setLaneState n Ls.sleep).unlockRx n
  have hget {f : Fld} (he : f.off ≠ PG.EVT.off) (hf : ¬ ofChecker f) :
      (s.sleepLane n).get (Pg.lane n) f = (t.dropLos n).get (Pg.lane n) f := by
    rw [State.sleepLane, State.get_laneLink _ hn he, State.get_unlockChecker _ hf]
  refine ⟨?_, ?_, ?_, ?_⟩
  · rw [State.laneState, hget (by decide) (by decide), State.get_dropLos hn _ (by decide) (by decide)]
    exact (State.unlockRx_state ..).trans (s.setLaneState_state n 0 (by decide))
  · rw [State.laneLos, State.flag_eq, hget (by decide) (by decide)]
    exact State.dropLos_los hn hp
  · rw [State.flag_eq, hget (by decide) (by decide), State.get_dropLos hn _ (by decide) (by decide),
      State.unlockRx_locked]
    rfl
  · rw [hget (by decide) (by decide), State.get_dropLos hn _ (by decide) (by decide),
      State.get_unlockRx_off _ (by decide), State.get_setLaneState _ (by decide)]

/-- A lane that was UP once wakes at the rate of then, as far as RATE_MAX allows it. -/
theorem State.wakeLane_tries (ht : s.testing n = false) (he : (s.lane n).everUp = true) :
    s.wakeLane n = (s.onLane n fun x => { x with waking := true }).detectAt n
      (min (s.lane n).last (s.lane n).rateMax) := by
  rw [State.wakeLane, ht, he]; rfl

theorem State.wakeLane_shows (ht : s.testing n = false) (he : (s.lane n).everUp = true) :
    (s.wakeLane n).laneState n = Ls.detect ∧ ((s.wakeLane n).lane n).waking = true ∧
      ((s.wakeLane n).lane n).try_ = min (s.lane n).last (s.lane n).rateMax := by
  rw [State.wakeLane_tries ht he, State.detectAt_lane, State.lane_onLane]
  exact ⟨State.detectAt_state .., rfl, rfl⟩

theorem State.detectAt_sigDet (s : State) (n rate : Nat) :
    (s.detectAt n rate).get (Pg.lane n) LANE.STAT_SIG_DET = s.get (Pg.lane n) LANE.STAT_SIG_DET := by
  simp (disch := decide) only [State.detectAt, State.setLaneState, State.unlockRx, State.onLane_get, State.get_set_place]

/-- SLEEP as it is written. -/
def State.putSleep (s : State) (n : Nat) (v : Word) : State :=
  ((s.set (Pg.lane n) LANE.SLEEP_WAKE_ON_SIG (LANE.SLEEP_WAKE_ON_SIG.of v)).set (Pg.lane n) LANE.SLEEP_RX
    (LANE.SLEEP_RX.of v)).set (Pg.lane n) LANE.SLEEP_TX (LANE.SLEEP_TX.of v)

theorem State.putSleep_rx (s : State) (n : Nat) (v : Word) :
    (s.putSleep n v).flag (Pg.lane n) LANE.SLEEP_RX = (LANE.SLEEP_RX.of v == 1) := by
  rw [State.putSleep, State.flag_eq, State.get_set_place _ _ (by decide), State.get_set_same,
    Nat.mod_eq_of_lt (Fld.of_lt ..)]

theorem State.putSleep_tx (s : State) (n : Nat) (v : Word) :
    (s.putSleep n v).get (Pg.lane n) LANE.SLEEP_TX = LANE.SLEEP_TX.of v := by
  rw [State.putSleep, State.get_set_same, Nat.mod_eq_of_lt (Fld.of_lt ..)]

theorem State.get_putSleep (s : State) (n : Nat) (v : Word) {f : Fld} (hf : LANE.SLEEP_RX.off ≠ f.off) :
    (s.putSleep n v).get (Pg.lane n) f = s.get (Pg.lane n) f := by
  rw [State.putSleep, State.get_set_off (f := LANE.SLEEP_TX) _ _ hf, State.get_set_off _ _ hf,
    State.get_set_off (f := LANE.SLEEP_WAKE_ON_SIG) _ _ hf]

theorem State.enabled_putSleep (s : State) (n : Nat) (v : Word) :
    (s.putSleep n v).enabled (Pg.lane n) = s.enabled (Pg.lane n) := by
  rw [State.enabled, State.flag_eq, State.flag_eq, State.get_putSleep _ _ _ (by decide),
    State.get_putSleep _ _ _ (by decide)]
  rfl

theorem State.testing_putSleep (s : State) (n : Nat) (v : Word) : (s.putSleep n v).testing n = s.testing n := by
  simp (disch := decide) only [State.testing, State.flag_eq, State.get_putSleep]

theorem State.writeSleep_sleeps {v : Word} (h6 : n < 6) (he : s.enabled (Pg.lane n) = true)
    (hr : s.flag (Pg.lane n) LANE.SLEEP_RX = false) (hv : LANE.SLEEP_RX.of v = 1) :
    s.writeSleep n v = (s.putSleep n v).sleepLane n := by
  have e := s.putSleep_rx n v
  have e2 := (s.enabled_putSleep n v).trans he
  rw [hv] at e
  unfold State.writeSleep
  extract_lets p was s1 on
  rw [if_neg (by rw [pcieLane, decide_eq_true_eq]; omega), if_neg (by rw [show s1.enabled p = true from e2]; decide),
    if_pos (by rw [show was = false from hr, show on = true from e]; rfl)]
  rfl

theorem State.writeSleep_wakes {v : Word} (h6 : n < 6) (he : s.enabled (Pg.lane n) = true)
    (hr : s.flag (Pg.lane n) LANE.SLEEP_RX = true) (hv : LANE.SLEEP_RX.of v = 0) :
    s.writeSleep n v = (s.putSleep n v).wakeLane n := by
  have e := s.putSleep_rx n v
  have e2 := (s.enabled_putSleep n v).trans he
  rw [hv] at e
  unfold State.writeSleep
  extract_lets p was s1 on
  rw [if_neg (by rw [pcieLane, decide_eq_true_eq]; omega), if_neg (by rw [show s1.enabled p = true from e2]; decide),
    if_neg (by rw [show on = false from e]; exact Bool.false_ne_true),
    if_pos (by rw [show was = true from hr, show on = false from e]; rfl)]
  rfl

end Sys2Proof.Machine
end

section
/-!
SUPPORT. The commands of the lanes (chapter 10): what a command leaves that lets its lane act, and one lemma for each.
-/

namespace Sys2Proof.Machine

variable {n : Nat} {s : State}

/-! ### What a command leaves -/

/-- From s to u only lane n has changed among the lanes and, where it has no port, beside its page only what time, an answer
and a reaction change. -/
def OnlyLane (n : Nat) (s u : State) : Prop :=
  (∀ j, j ≠ n → u.lane j = s.lane j ∧ u.laneState j = s.laneState j) ∧
    (4 ≤ n → Kept (.clock :: .time :: .resp :: .ctrl :: .lanes :: reacting)
      (fun k => k.p = Pg.lane n ∨ reaction k) noByte s u)

/-- A command of lane n ends in a state of which P holds. -/
def LaneRuns (n : Nat) (s : State) (o : Outcome) (P : State → Prop) : Prop := ∃ u, o = .next u ∧ OnlyLane n s u ∧ P u

/-- A write to the page of lane n does so, and is answered. -/
def LaneWrites (n : Nat) (s : State) (o : Outcome) (P : State → Prop) : Prop :=
  ∃ u, o = .next u ∧ Wrote (Pg.lane n) s u ∧ OnlyLane n s u ∧ P u

/-- The parts of the state that an act of a lane changes are among those that its command changes. -/
theorem Kept.ofLaneAct {u : State} (h : Kept (.lanes :: reacting) (laneField n) noByte s u) :
    Kept (.clock :: .time :: .resp :: .ctrl :: .lanes :: reacting) (fun k => k.p = Pg.lane n ∨ reaction k) noByte s u :=
  h.mono (by decide) (fun _ => id) fun _ => id

theorem LaneActs.only {u : State} (h : LaneActs n s u) : OnlyLane n s u :=
  ⟨fun j hj => ⟨h.lanes j hj, h.states j hj⟩, fun h4 => (h.rest h4).ofLaneAct⟩

theorem LaneActs.runs {u : State} {P : State → Prop} (h : LaneActs n s u) (hP : P u) : LaneRuns n s (.next u) P :=
  ⟨u, rfl, h.only, hP⟩

/-- The lane acts when time has come to an instant. -/
theorem LaneActs.runs_reach {u : State} {due : Nat} {P : State → Prop} (h : LaneActs n (s.reach due) u)
    (hP : u.now = max s.now due → P u) : LaneRuns n s (.next u) P :=
  ⟨u, rfl, ⟨h.only.1, fun h4 => (Kept.rfl'.reach (by decide) (by decide)).trans (h.only.2 h4)⟩,
    hP (h.now.trans (State.reach_now ..))⟩

theorem LaneActs.writes {u : State} {P : State → Prop} (h : LaneActs n (s.abandonUnlock (Pg.lane n)) u)
    (hP : P (u.answer (.ok []))) : LaneWrites n s (.next (u.answer (.ok []))) P :=
  ⟨_, rfl, State.wrote_answer h.ctrl, ⟨h.only.1,
    fun h4 => .answer (by decide) ((Kept.rfl'.abandonUnlock (by decide)).trans (h.only.2 h4))⟩, hP⟩

theorem laneCmd_of (hn : n < 10) (hp : s.present (Pg.lane n) = true) (f : State → State) : laneCmd n s f = .next (f s) := by
  rw [laneCmd, guardWf_of (decide_eq_true hn), if_pos hp]

section
variable (hn : n < 10) (hp : s.present (Pg.lane n) = true)
include hn hp

/-! ### Bring-up -/

/-- The window that began with the lane's state ends at an instant. -/
theorem exec_laneStateTimeout_of {due : Nat}
    (h : s.laneState n = Ls.listen ∨ s.laneState n = Ls.detect ∨ s.laneState n = Ls.switch)
    (hdue : (s.lane n).since + cyclesMs (if s.laneState n = Ls.switch then 10 else 20) = due) :
    exec (.laneStateTimeout n) s = .next ((s.reach due).windowEnds n) := by
  have hc : (s.laneState n == Ls.listen || s.laneState n == Ls.detect || s.laneState n == Ls.switch) = true := by
    simpa [or_assoc] using h
  rw [exec_laneStateTimeout, execLaneStateTimeout, laneCmd_of hn hp, whenHolds_of hc, hdue]

theorem laneStateTimeout_listen {due : Nat} (hdue : (s.lane n).since + cyclesMs 20 = due) (h : s.laneState n = Ls.listen) :
    LaneRuns n s (exec (.laneStateTimeout n) s) fun u =>
      u.now = max s.now due ∧ (u.lane n).since = u.now ∧
      ((s.lane n).rateMax = 0 → u.laneState n = Ls.listen) ∧
      ((s.lane n).rateMax ≠ 0 → u.laneState n = Ls.detect ∧ (u.lane n).try_ = (s.lane n).rateMax ∧
        u.get (Pg.lane n) LANE.STAT_RATE = (s.lane n).rateMax % 2 ^ LANE.STAT_RATE.w) := by
  rw [exec_laneStateTimeout_of hn hp (.inl h) (by rw [if_neg (by rw [h]; decide), hdue])]
  have hact {t : State} : LaneActs n t (t.windowEnds n) := (LaneActs.refl ..).windowEnds hn
  refine hact.runs_reach fun hnow => ⟨hnow, ?_⟩
  obtain ⟨hsince, hshow⟩ := State.windowEnds_listen (s := s.reach due) h
  exact ⟨hsince.trans hact.now.symm, hshow⟩

theorem laneStateTimeout_detect {due : Nat} (hdue : (s.lane n).since + cyclesMs 20 = due) (h : s.laneState n = Ls.detect) :
    LaneRuns n s (exec (.laneStateTimeout n) s) fun u =>
      u.now = max s.now due ∧
      ((s.lane n).waking = true → LaneRestarted n s u) ∧
      ((s.lane n).waking = false → (s.lane n).mode = false →
        u.laneState n = Ls.detect ∧ (u.lane n).try_ = (s.lane n).try_) ∧
      ((s.lane n).waking = false → (s.lane n).mode = true → 1 < (s.lane n).try_ →
        u.laneState n = Ls.detect ∧ (u.lane n).try_ = (s.lane n).try_ - 1) ∧
      ((s.lane n).waking = false → (s.lane n).mode = true → (s.lane n).try_ ≤ 1 → u.laneState n = Ls.listen) := by
  rw [exec_laneStateTimeout_of hn hp (.inr (.inl h)) (by rw [if_neg (by rw [h]; decide), hdue])]
  exact ((LaneActs.refl ..).windowEnds hn).runs_reach fun hnow => ⟨hnow,
    State.windowEnds_detect (s := s.reach due) hn hp h⟩

theorem laneStateTimeout_switch {due : Nat} (hdue : (s.lane n).since + cyclesMs 10 = due)
    (h : s.laneState n = Ls.switch) (he : s.enabled (Pg.lane n) = true) :
    LaneRuns n s (exec (.laneStateTimeout n) s) fun u =>
      u.now = max s.now due ∧
      u.get (Pg.lane n) LANE.STEP_DOWNS = min (s.get (Pg.lane n) LANE.STEP_DOWNS + 1) (2 ^ LANE.STEP_DOWNS.w - 1) ∧
      u.evt (Pg.lane n) 3 = true ∧
      ((s.lane n).try_ ≤ 1 → u.laneState n = Ls.listen) ∧
      (1 < (s.lane n).try_ → u.laneState n = Ls.switch ∧ (u.lane n).try_ = (s.lane n).try_ - 1) := by
  rw [exec_laneStateTimeout_of hn hp (.inr (.inr h)) (by rw [if_pos h, hdue])]
  exact ((LaneActs.refl ..).windowEnds hn).runs_reach fun hnow => ⟨hnow,
    State.windowEnds_switch (s := s.reach due) hp h he⟩

theorem rateEstablished_runs {due : Nat} {ppm : BitVec 16} (hdue : (s.lane n).since + cyclesMs 2 = due)
    (hlo : -20000 ≤ ppm.toInt) (hhi : ppm.toInt ≤ 20000)
    (he : s.enabled (Pg.lane n) = true) (hpcie : pcieLane n = false)
    (h : s.laneState n = Ls.listen ∨ s.laneState n = Ls.detect ∨ s.laneState n = Ls.switch) :
    LaneRuns n s (exec (.rateEstablished n ppm) s) fun u =>
      u.flag (Pg.lane n) LANE.STAT_RX_LOCKED = true ∧
      u.get (Pg.lane n) LANE.STAT_PPM = ppm.toNat % 2 ^ LANE.STAT_PPM.w ∧
      u.now = max s.now due ∧ (u.lane n).estAt = some u.now ∧
      (s.laneState n = Ls.listen → u.laneState n = Ls.negotiate) ∧
      (s.laneState n ≠ Ls.listen → u.laneState n = Ls.up ∧
        u.get (Pg.lane n) LANE.STAT_RATE = (s.lane n).try_ % 2 ^ LANE.STAT_RATE.w ∧
        (u.lane n).last = (s.lane n).try_ ∧ u.evt (Pg.lane n) 0 = true) := by
  let t := s.reach due
  have hup : s.laneState n ≠ Ls.up := by rcases h with h | h | h <;> rw [h] <;> decide
  have htracks : tracks ppm = true := decide_eq_true (by omega)
  have e : exec (.rateEstablished n ppm) s = .next (t.establish n ppm) := by
    rw [exec_rateEstablished, execRateEstablished, laneCmd_of hn hp]
    simp only [htracks, hpcie, Bool.not_true, Bool.false_eq_true, if_false, Bool.false_and, Bool.or_false,
      beq_iff_eq, hup]
    rw [whenHolds_of (by simpa [or_assoc] using h), hdue]
  have hact : LaneActs n t (t.establish n ppm) := (LaneActs.refl ..).establish hn
  rw [e]
  refine hact.runs_reach fun hnow => ?_
  by_cases hl : s.laneState n = Ls.listen
  · obtain ⟨hlock, hst⟩ := t.establish_listen ppm hl
    exact ⟨hlock.locked, hlock.ppm, hnow, hlock.estAt.trans (congrArg some hact.now.symm), fun _ => hst,
      fun k => absurd hl k⟩
  · obtain ⟨hlock, hst⟩ := State.establish_tried (s := t) hn ppm hp he (h.resolve_left hl)
    exact ⟨hlock.locked, hlock.ppm, hnow, hlock.estAt.trans (congrArg some hact.now.symm), fun k => absurd k hl,
      fun _ => hst⟩

theorem negotiate_runs (ouiMatch : Bool) (rates : BitVec 3) (h : s.laneState n = Ls.negotiate) :
    LaneRuns n s (exec (.negotiate n ouiMatch rates) s) fun u =>
      if s.get (Pg.lane n) LANE.NEG_OUI_OUI ≠ 0 ∧ ouiMatch = true ∧ 0 < bestRate (s.lane n).rateMax rates then
        u.laneState n = Ls.switch ∧ (u.lane n).try_ = bestRate (s.lane n).rateMax rates ∧
          (u.lane n).since = s.now + cyclesMs 10
      else u.laneState n = Ls.up ∧ u.get (Pg.lane n) LANE.STAT_RATE = 0 := by
  let best := bestRate (s.lane n).rateMax rates
  have e : exec (.negotiate n ouiMatch rates) s = .next
      (if s.get (Pg.lane n) LANE.NEG_OUI_OUI ≠ 0 ∧ ouiMatch = true ∧ 0 < best then
        (s.setLaneState n Ls.switch 10).onLane n fun x => { x with try_ := best } else s.laneUp n 0) := by
    rw [exec_negotiate, execNegotiate, laneCmd_of hn hp, whenHolds_of (by rw [h]; rfl)]
    simp [and_assoc, best]
  rw [e]
  by_cases hc : s.get (Pg.lane n) LANE.NEG_OUI_OUI ≠ 0 ∧ ouiMatch = true ∧ 0 < best
  · rw [if_pos hc]
    refine (LaneActs.onLane (LaneActs.refl ..).setLaneState).runs ?_
    rw [if_pos hc, State.laneState_onLane, State.lane_onLane, State.setLaneState_lane]
    exact ⟨s.setLaneState_state n 10 (by decide), rfl, rfl⟩
  · rw [if_neg hc]
    refine ((LaneActs.refl ..).laneUp hn).runs ?_
    rw [if_neg hc]
    exact ⟨s.laneUp_state hn 0, (s.laneUp_rate hn 0).trans (Nat.zero_mod _)⟩

/-! ### LOS -/

theorem los_sets (cause : LosCause) (he : s.enabled (Pg.lane n) = true) (hr : s.rxSleeps n = false)
    (ht : s.laneState n ≠ Ls.test) (hl : s.laneLos n = false) :
    LaneRuns n s (exec (.los n cause) s) fun u =>
      u.laneLos n = true ∧ u.evt (Pg.lane n) 1 = true ∧ u.condition Src.laneLos n = true ∧ (u.lane n).losAt = s.now ∧
      u.get (Pg.lane n) LANE.LOS_COUNT = min (s.get (Pg.lane n) LANE.LOS_COUNT + 1) (2 ^ LANE.LOS_COUNT.w - 1) ∧
      (cause = .signal → u.flag (Pg.lane n) LANE.STAT_SIG_DET = false) ∧
      (cause ≠ .sync → u.flag (Pg.lane n) LANE.STAT_RX_LOCKED = false) := by
  have e : exec (.los n cause) s = .next (s.setLos n cause) := by
    rw [exec_los, execLos, laneCmd_of hn hp, if_neg (by rw [hr, he]; decide), if_neg ht, hl]
    rfl
  rw [e]
  exact ((LaneActs.refl ..).setLos hn).runs (State.setLos_shows hn hp cause)

theorem los_again (cause : LosCause) (he : s.enabled (Pg.lane n) = true) (hr : s.rxSleeps n = false)
    (ht : s.laneState n ≠ Ls.test) (hl : s.laneLos n = true) :
    LaneRuns n s (exec (.los n cause) s) fun u =>
      u.laneLos n = true ∧ (u.lane n).estAt = none ∧ (u.lane n).losAt = (s.lane n).losAt := by
  have e : exec (.los n cause) s = .next (s.loseRx n cause) := by
    rw [exec_los, execLos, laneCmd_of hn hp, if_neg (by rw [hr, he]; decide), if_neg ht, if_pos hl]
  rw [e]
  exact (LaneActs.loseRx (LaneActs.refl ..)).runs
    ⟨(s.loseRx_los n cause).trans hl, s.loseRx_estAt n cause, s.loseRx_losAt n cause⟩

theorem los_asleep (h : s.rxSleeps n = true ∨ s.enabled (Pg.lane n) = false) :
    LaneRuns n s (exec (.los n .signal) s) fun u =>
      u.flag (Pg.lane n) LANE.STAT_SIG_DET = false ∧ u.lanes = s.lanes := by
  have e : exec (.los n .signal) s = .next (s.set (Pg.lane n) LANE.STAT_SIG_DET 0) := by
    rw [exec_los, execLos, laneCmd_of hn hp, if_pos (by simpa using h)]
    rfl
  rw [e]
  exact (LaneActs.refl ..).set.runs ⟨s.flag_set_zero _ _ 0, rfl⟩

theorem losClear_runs {due t : Nat} (hdue : t + cyclesMs (s.lane n).losClear = due) (ht : (s.lane n).estAt = some t)
    (hl : s.laneLos n = true) (h : ¬ (s.laneState n = Ls.switch ∧ (s.lane n).since < due)) :
    LaneRuns n s (exec (.losClear n) s) fun u =>
      u.laneLos n = false ∧ u.evt (Pg.lane n) 2 = true ∧ u.condition Src.laneLos n = false ∧
      u.now = max s.now due := by
  let d := s.reach due
  have hc : (s.laneLos n && !(decide (s.laneState n = Ls.switch) &&
      decide ((s.lane n).since < due))) = true := by
    rw [hl, Bool.true_and, Bool.not_eq_true', ← Bool.decide_and, decide_eq_false_iff_not]
    exact h
  have e : exec (.losClear n) s = .next ((d.dropLos n).laneLink n) := by
    rw [exec_losClear, execLosClear, laneCmd_of hn hp, ht]
    dsimp only
    rw [hdue, whenHolds_of hc]
  obtain ⟨hlos, hevt, hcond⟩ := State.dropLos_shows (s := d) hn hp hl
  have hlink : Passes True (d.dropLos n) ((d.dropLos n).laneLink n) := (Passes.refl _).laneLink
  rw [e]
  refine (((LaneActs.refl ..).dropLos hn).laneLink hn).runs_reach fun hnow => ⟨?_, ?_, ?_, hnow⟩
  · rw [← hlos, State.laneLos, State.flag_eq, hlink.get hn (by decide)]
    rfl
  · exact hlink.evt _ (lanePage_lane hn) 2 (by decide) hevt
  · rw [← hcond, State.condition, hlink.active trivial]
    rfl

theorem autoRestart_runs {due : Nat} (hdue : (s.lane n).losAt + cyclesMs 50 = due) (h6 : n < 6)
    (hl : s.laneLos n = true) (ha : (s.lane n).autoRestart = true) :
    LaneRuns n s (exec (.autoRestart n) s) fun u =>
      LaneRestarted n s u ∧ u.now = max s.now due ∧ (u.lane n).losAt = u.now := by
  have e : exec (.autoRestart n) s = .next (((s.reach ((s.lane n).losAt + cyclesMs 50)).onLane n fun x =>
      { x with losAt := (s.reach ((s.lane n).losAt + cyclesMs 50)).now }).restartLane n) := by
    have hpcie : pcieLane n = false := decide_eq_false (by omega)
    rw [exec_autoRestart, execAutoRestart, laneCmd_of hn hp, whenHolds_of (by rw [hpcie, hl, ha]; rfl)]
  rw [e, hdue]
  let d := s.reach due
  let t := d.onLane n fun x => { x with losAt := d.now }
  have hact : LaneActs n d (t.restartLane n) := (LaneActs.onLane (LaneActs.refl ..)).restartLane hn
  obtain ⟨hre, hlos⟩ := State.restartLane_restarted (s := t) hn hp
  refine hact.runs_reach fun hnow => ⟨hre, hnow, ?_⟩
  rw [hlos, State.lane_onLane, hact.now]

end

end Sys2Proof.Machine
end

section
/-!
SUPPORT. The writes to a lane's page, its checker and its detector (R275 to R279).
-/

namespace Sys2Proof.Machine

variable {n : Nat} {s : State} {m : Master} {v : Word}

section
variable (hn : n < 10) (ht : s.takes m (Pg.lane n))
include hn ht

/-! ### Writes -/

/-- A write that has its effect, on a lane. -/
theorem LaneActs.writesTo {f : State → State} {P : State → Prop}
    (h : LaneActs n (s.abandonUnlock (Pg.lane n)) (f (s.abandonUnlock (Pg.lane n))))
    (hP : P ((f (s.abandonUnlock (Pg.lane n))).answer (.ok []))) :
    LaneWrites n s (guardWf (n < 10) (.next (s.writeTo m (Pg.lane n) f))) P := by
  rw [guardWf_of (decide_eq_true hn), State.writeTo_takes ht]
  exact h.writes hP

theorem laneRestart_writes (h6 : n < 6) (he : s.enabled (Pg.lane n) = true) (hoff : s.laneState n ≠ Ls.off)
    (hsleep : s.laneState n ≠ Ls.sleep) (htest : s.laneState n ≠ Ls.test) :
    LaneWrites n s (exec (.laneRestart m n) s) (LaneRestarted n s) := by
  let t := s.abandonUnlock (Pg.lane n)
  have e : t.requestRestart n = t.restartLane n := by
    have hpcie : pcieLane n = false := decide_eq_false (by omega)
    have het : t.enabled (Pg.lane n) = true := he
    have hst : t.laneState n = s.laneState n := rfl
    rw [State.requestRestart, hpcie, het, hst, if_neg (by simp [hoff, hsleep, htest])]
  rw [exec_laneRestart, execLaneRestart]
  refine LaneActs.writesTo hn ht (LaneActs.requestRestart hn (.refl ..)) ?_
  rw [e]
  exact (State.restartLane_restarted (s := t) hn ht.1).1

omit hn ht in
/-- The event of a refused test write is set, and nothing else of the lane changes. -/
theorem State.event_refused {p : Nat} {f : Fld} (hf : PG.EVT.off ≠ f.off) (hp : s.present p = true) :
    (s.event p 7).evt p 7 = true ∧ (s.event p 7).lanes = s.lanes ∧ (s.event p 7).get p f = s.get p f :=
  ⟨State.evt_event_same hp 7 (by decide), State.event_lanes .., State.get_event_off _ _ _ hf⟩

theorem lbModeWrite_barred (hb : s.testBarred n = true) :
    LaneWrites n s (exec (.lbModeWrite m n v) s) fun u =>
      u.evt (Pg.lane n) 7 = true ∧ u.lanes = s.lanes ∧ u.get (Pg.lane n) LANE.LB_MODE = s.get (Pg.lane n) LANE.LB_MODE := by
  rw [exec_lbModeWrite, execLbModeWrite]
  refine LaneActs.writesTo hn ht (LaneActs.writeLb hn (.refl ..)) ?_
  rw [State.writeLb_barred (s := s.abandonUnlock _) v hb]
  exact State.event_refused (s := s.abandonUnlock _) (by decide) ht.1

theorem prbsCtrlWrite_barred (hb : s.testBarred n = true) :
    LaneWrites n s (exec (.prbsCtrlWrite m n v) s) fun u =>
      u.evt (Pg.lane n) 7 = true ∧ u.lanes = s.lanes ∧
        u.flag (Pg.lane n) LANE.PRBS_CTRL_GEN_EN = s.flag (Pg.lane n) LANE.PRBS_CTRL_GEN_EN := by
  rw [exec_prbsCtrlWrite, execPrbsCtrlWrite]
  refine LaneActs.writesTo hn ht (LaneActs.writePrbs hn (.refl ..)) ?_
  rw [State.writePrbs_barred (s := s.abandonUnlock _) v hb]
  obtain ⟨hevt, hlanes, hget⟩ :=
    State.event_refused (s := s.abandonUnlock (Pg.lane n)) (f := LANE.PRBS_CTRL_GEN_EN) (by decide) ht.1
  exact ⟨hevt, hlanes, congrArg (· == 1) hget⟩

theorem lbModeWrite_tests (hb : s.testBarred n = false) (hg : s.flag (Pg.lane n) LANE.PRBS_CTRL_GEN_EN = false)
    (he : s.flag (Pg.lane n) PG.CTRL_EN = true) (hst : s.laneState n = Ls.up) (hm : LANE.LB_MODE.of v ≠ 0) :
    LaneWrites n s (exec (.lbModeWrite m n v) s) fun u =>
      u.laneState n = Ls.test ∧ u.get (Pg.lane n) LANE.LB_MODE = LANE.LB_MODE.of v ∧ u.laneLos n = false ∧
        u.get (Pg.lane n) LANE.STAT_RATE = s.get (Pg.lane n) LANE.STAT_RATE := by
  let t := s.abandonUnlock (Pg.lane n)
  let d := (t.set (Pg.lane n) LANE.LB_MODE (LANE.LB_MODE.of v)).set (Pg.lane n) LANE.LB_TX_ECHO (LANE.LB_TX_ECHO.of v)
  have hkeep {f : Fld} (hf : LANE.LB_MODE.off ≠ f.off) : d.get (Pg.lane n) f = s.get (Pg.lane n) f :=
    (State.get_set_off (f := LANE.LB_TX_ECHO) _ _ hf).trans (State.get_set_off _ _ hf)
  have hmode : d.get (Pg.lane n) LANE.LB_MODE = LANE.LB_MODE.of v := by
    rw [State.get_set_place _ _ (by decide), State.get_set_same, Nat.mod_eq_of_lt (Fld.of_lt ..)]
  obtain ⟨htest, hlos, hrate, hrest⟩ := State.enterTest_up (s := d) hn ht.1 ((hkeep (by decide)).trans hst)
  rw [exec_lbModeWrite, execLbModeWrite]
  refine LaneActs.writesTo hn ht (LaneActs.writeLb hn (.refl ..)) ?_
  rw [State.writeLb_up (s := t) v hb hg he hst hm]
  exact ⟨htest, (hrest _ (by decide) (by decide)).trans hmode, hlos, hrate.trans (hkeep (by decide))⟩

theorem prbsCtrlWrite_tests (hb : s.testBarred n = false) (hl : s.get (Pg.lane n) LANE.LB_MODE = 0)
    (he : s.flag (Pg.lane n) PG.CTRL_EN = true) (hst : s.laneState n = Ls.up) (hg : LANE.PRBS_CTRL_GEN_EN.of v = 1) :
    LaneWrites n s (exec (.prbsCtrlWrite m n v) s) fun u =>
      u.laneState n = Ls.test ∧ u.flag (Pg.lane n) LANE.PRBS_CTRL_GEN_EN = true := by
  rw [exec_prbsCtrlWrite, execPrbsCtrlWrite]
  exact LaneActs.writesTo hn ht (LaneActs.writePrbs hn (.refl ..))
    (State.writePrbs_up (s := s.abandonUnlock _) hn ht.1 hb hl he hst hg)

theorem prbsClr_writes (hb : s.testBarred n = false) :
    LaneWrites n s (exec (.prbsClr m n) s) fun u =>
      u.get (Pg.lane n) LANE.PRBS_ERR_ERRORS = 0 ∧ u.prbsBits n = 0 ∧
        u.lane n = { s.lane n with lockAt := s.now, errSeen := 0 } := by
  rw [exec_prbsClr, execPrbsClr]
  refine LaneActs.writesTo hn ht (LaneActs.writePrbsClr hn (.refl ..)) ?_
  rw [State.writePrbsClr_open (s := s.abandonUnlock _) hb]
  exact State.clearPrbs_shows (s.abandonUnlock _) n

theorem sleepWrite_sleeps (h6 : n < 6) (he : s.enabled (Pg.lane n) = true) (hr : s.flag (Pg.lane n) LANE.SLEEP_RX = false)
    (hv : LANE.SLEEP_RX.of v = 1) :
    LaneWrites n s (exec (.sleepWrite m n v) s) fun u =>
      u.laneState n = Ls.sleep ∧ u.laneLos n = false ∧ u.flag (Pg.lane n) LANE.STAT_RX_LOCKED = false ∧
        u.get (Pg.lane n) LANE.SLEEP_TX = LANE.SLEEP_TX.of v := by
  let t := s.abandonUnlock (Pg.lane n)
  obtain ⟨hst, hlos, hlock, htx⟩ := State.sleepLane_shows (s := t.putSleep n v) hn ht.1
  rw [exec_sleepWrite, execSleepWrite]
  refine LaneActs.writesTo hn ht (LaneActs.writeSleep hn (.refl ..)) ?_
  rw [State.writeSleep_sleeps (s := t) h6 he hr hv]
  exact ⟨hst, hlos, hlock, htx.trans (t.putSleep_tx n v)⟩

theorem sleepWrite_wakes (h6 : n < 6) (he : s.enabled (Pg.lane n) = true) (hr : s.flag (Pg.lane n) LANE.SLEEP_RX = true)
    (hv : LANE.SLEEP_RX.of v = 0) (htest : s.testing n = false) (hup : (s.lane n).everUp = true) :
    LaneWrites n s (exec (.sleepWrite m n v) s) fun u =>
      u.laneState n = Ls.detect ∧ (u.lane n).waking = true ∧
        (u.lane n).try_ = min (s.lane n).last (s.lane n).rateMax := by
  let t := s.abandonUnlock (Pg.lane n)
  obtain ⟨hst, hwake, htry⟩ := State.wakeLane_shows ((t.testing_putSleep n v).trans htest) hup
  rw [exec_sleepWrite, execSleepWrite]
  refine LaneActs.writesTo hn ht (LaneActs.writeSleep hn (.refl ..)) ?_
  rw [State.writeSleep_wakes (s := t) h6 he hr hv]
  exact ⟨hst, hwake, htry⟩

end

section
variable (hn : n < 10) (hp : s.present (Pg.lane n) = true)
include hn hp

/-! ### The checker -/

theorem prbsLock_runs {rx : List Bool} (hst : s.laneState n = Ls.test)
    (hen : s.flag (Pg.lane n) LANE.PRBS_CTRL_CHK_EN = true) (hlock : s.flag (Pg.lane n) LANE.PRBS_STAT_CHK_LOCK = false)
    (hrx : s.locksPrbs n rx = true) :
    LaneRuns n s (exec (.prbsLock n rx) s) fun u =>
      u.flag (Pg.lane n) LANE.PRBS_STAT_CHK_LOCK = true ∧ (u.lane n).lockAt = s.now ∧ (u.lane n).errSeen = 0 ∧
        u.evt (Pg.lane n) 5 = true := by
  let t := if s.rxLocked n || s.nearLoop n then s else s.findLock n
  have e : exec (.prbsLock n rx) s = .next (t.lockChecker n) := by
    rw [exec_prbsLock, execPrbsLock, laneCmd_of hn hp, whenHolds_of (by rw [hst, hen, hlock, hrx]; rfl)]
    rfl
  have hact : LaneActs n s t := .ite (.refl ..) (LaneActs.refl ..).findLock
  obtain ⟨hflag, hat, herr, hevt⟩ := State.lockChecker_shows (s := t) ((hact.present _).trans hp)
  rw [e]
  exact (hact.lockChecker hn).runs ⟨hflag, hat.trans hact.now, herr, hevt⟩

theorem prbsUnlock_runs {bits errors : Nat} (hlock : s.flag (Pg.lane n) LANE.PRBS_STAT_CHK_LOCK = true)
    (h16 : 16 ≤ errors) (hbits : errors ≤ bits) (hseen : (s.lane n).errSeen ≤ errors) :
    LaneRuns n s (exec (.prbsUnlock n bits errors) s) fun u =>
      u.flag (Pg.lane n) LANE.PRBS_STAT_CHK_LOCK = false ∧ u.prbsBits n = min (s.prbsBits n + bits) (2 ^ 48 - 1) ∧
      u.get (Pg.lane n) LANE.PRBS_ERR_ERRORS =
        min (s.get (Pg.lane n) LANE.PRBS_ERR_ERRORS + (errors - (s.lane n).errSeen)) (2 ^ LANE.PRBS_ERR_ERRORS.w - 1) ∧
      u.evt (Pg.lane n) 6 = true := by
  rw [exec_prbsUnlock, execPrbsUnlock, laneCmd_of hn hp, whenHolds_of (by simp [hlock, h16, hbits, hseen])]
  exact ((LaneActs.refl ..).loseChecker hn).runs_reach fun _ =>
    State.loseChecker_shows (s := s.reach _) hp bits errors

/-! ### The detector of a sleeping receiver -/

theorem wakeOnSig_wakes (hst : s.laneState n = Ls.sleep) (hw : s.flag (Pg.lane n) LANE.SLEEP_WAKE_ON_SIG = true)
    (htest : s.testing n = false) (hup : (s.lane n).everUp = true) :
    LaneRuns n s (exec (.wakeOnSig n) s) fun u =>
      u.flag (Pg.lane n) LANE.SLEEP_RX = false ∧ u.flag (Pg.lane n) LANE.STAT_SIG_DET = true ∧
      u.evt (Pg.lane n) 8 = true ∧ u.laneState n = Ls.detect ∧
      (u.lane n).try_ = min (s.lane n).last (s.lane n).rateMax := by
  let d := (s.set (Pg.lane n) LANE.STAT_SIG_DET 1).set (Pg.lane n) LANE.SLEEP_RX 0
  let t := d.event (Pg.lane n) 8
  have hkeep {f : Fld} (he : f.off ≠ PG.EVT.off) : t.get (Pg.lane n) f = d.get (Pg.lane n) f :=
    State.get_event_off _ _ _ he.symm
  have hd {f : Fld} (hf : LANE.SLEEP_RX.off ≠ f.off) (hg : LANE.STAT_SIG_DET.off ≠ f.off ∨ LANE.STAT_SIG_DET.lo ≠ f.lo) :
      d.get (Pg.lane n) f = s.get (Pg.lane n) f :=
    (State.get_set_off _ _ hf).trans (State.get_set_place _ _ hg)
  have e : exec (.wakeOnSig n) s = .next (t.wakeLane n) := by
    rw [exec_wakeOnSig, execWakeOnSig, laneCmd_of hn hp, whenHolds_of (by rw [State.rxSleeps, hst]; rfl)]
    have hsig : (s.set (Pg.lane n) LANE.STAT_SIG_DET 1).flag (Pg.lane n) LANE.SLEEP_WAKE_ON_SIG = true := by
      rw [← hw, State.flag_eq, State.get_set_place _ _ (by decide)]
      rfl
    have hst2 : t.laneState n = Ls.sleep := (hkeep (by decide)).trans ((hd (by decide) (by decide)).trans hst)
    dsimp only
    rw [hsig, if_neg (by decide)]
    exact congrArg _ (if_pos hst2)
  have htest2 : t.testing n = false := by
    rw [← htest]
    simp (disch := decide) only [State.testing, State.flag_eq, hkeep, hd]
  have hlane : t.lane n = s.lane n := State.lane_event ..
  obtain ⟨hdetect, -, htry⟩ := State.wakeLane_shows htest2 (hlane ▸ hup)
  have hact : LaneActs n t (t.wakeLane n) := LaneActs.wakeLane hn (.refl ..)
  rw [e]
  refine (LaneActs.wakeLane hn ((LaneActs.refl ..).set.set.event hn)).runs
    ⟨?_, ?_, hact.evt_event hp (by decide), hdetect, by rw [htry, hlane]⟩
  · rw [State.wakeLane_tries htest2 (hlane ▸ hup), State.flag_eq, State.get_detectAt_off _ (by decide), State.onLane_get,
      hkeep (by decide), State.get_set_same]
    rfl
  · rw [State.wakeLane_tries htest2 (hlane ▸ hup), State.flag_eq, State.detectAt_sigDet, State.onLane_get,
      hkeep (by decide), State.get_set_place _ _ (by decide), State.get_set_same]
    rfl

theorem wakeOnSig_stays (hst : s.laneState n = Ls.sleep) (hw : s.flag (Pg.lane n) LANE.SLEEP_WAKE_ON_SIG = false) :
    LaneRuns n s (exec (.wakeOnSig n) s) fun u =>
      u.flag (Pg.lane n) LANE.STAT_SIG_DET = true ∧ u.lanes = s.lanes := by
  have e : exec (.wakeOnSig n) s = .next (s.set (Pg.lane n) LANE.STAT_SIG_DET 1) := by
    rw [exec_wakeOnSig, execWakeOnSig, laneCmd_of hn hp, whenHolds_of (by rw [State.rxSleeps, hst]; rfl), if_pos]
    rw [State.flag_eq, State.get_set_place _ _ (by decide), ← State.flag_eq, hw]
    rfl
  rw [e]
  exact (LaneActs.refl ..).set.runs ⟨s.flag_set_one _ 0 rfl, rfl⟩

end

end Sys2Proof.Machine
end

section
open Sys2Proof Sys2Proof.Machine

/-- Settles O53: each command of a lane is one act of that lane (R273 to R279), at an instant that time has reached, and an act
leaves the other lanes and, without a port, what lies beside its page. -/
theorem lanes : Obligations.Lanes := by
  intro s m n v hn hp
  refine ⟨laneStateTimeout_listen hn hp rfl, laneStateTimeout_detect hn hp rfl, laneStateTimeout_switch hn hp rfl,
    fun _ => rateEstablished_runs hn hp rfl, negotiate_runs hn hp, los_sets hn hp, los_again hn hp, los_asleep hn hp,
    fun _ => losClear_runs hn hp rfl, autoRestart_runs hn hp rfl, fun ht => ⟨?_, ?_, ?_, ?_, ?_, ?_, ?_, ?_⟩,
    fun hst hen hlock _ => prbsLock_runs hn hp hst hen hlock, fun _ _ => prbsUnlock_runs hn hp, wakeOnSig_wakes hn hp,
    wakeOnSig_stays hn hp⟩
  · exact laneRestart_writes hn ht
  · exact lbModeWrite_barred hn ht
  · exact prbsCtrlWrite_barred hn ht
  · exact lbModeWrite_tests hn ht
  · exact prbsCtrlWrite_tests hn ht
  · exact prbsClr_writes hn ht
  · exact sleepWrite_sleeps hn ht
  · exact sleepWrite_wakes hn ht

end
